-- ==== Sys2Proof/Word.lean ====
section
/-!
DEFINITION. Fixed-width readings of whole numbers, byte order, saturation and the checksum of R120.
Values of ledger points are held as integers in their natural signed or unsigned reading; a width enters
where the spec narrows, wraps or saturates.
-/

namespace Sys2Proof

/-- The unsigned reading of `v` in `w` bits (R39: a record holds the value modulo its width). -/
def wrapU (w : Nat) (v : Int) : Nat := (v % (2 ^ w : Int)).toNat

/-- The signed two's-complement reading of `v` in `w` bits. -/
def wrapS (w : Nat) (v : Int) : Int :=
  let u := v % (2 ^ w : Int)
  if u < (2 ^ (w - 1) : Int) then u else u - (2 ^ w : Int)

/-- `v` limited to `lo..hi` (saturation). -/
def clampI (lo hi v : Int) : Int := if v < lo then lo else if hi < v then hi else v

/-- `v` limited to the Q1.31 and Q3.28 encodings' 32 signed bits. -/
def sat32 (v : Int) : Int := clampI (-(2 ^ 31)) (2 ^ 31 - 1) v

/-- Bits `hi..lo` of an unsigned word, as the field maps write them. -/
def bitsAt (v : Nat) (hi lo : Nat) : Nat := (v / 2 ^ lo) % 2 ^ (hi + 1 - lo)

/-- Bit `n` of an unsigned word. -/
def bitAt (v n : Nat) : Bool := (v / 2 ^ n) % 2 == 1

/-- Bit `n` of a word as 0 or 1. -/
def bitN (v n : Nat) : Nat := (v / 2 ^ n) % 2

/-- The word `v` with bit `n` set to `b`. -/
def setBit (v n : Nat) (b : Bool) : Nat := v - bitN v n * 2 ^ n + (if b then 2 ^ n else 0)

/-- A truth value as 0 or 1. -/
def b01 (b : Bool) : Int := if b then 1 else 0

/-- The `n` low bytes of `v`, least significant first (R12). -/
def leBytes : Nat → Nat → List Nat
  | 0, _ => []
  | n + 1, v => v % 256 :: leBytes n (v / 256)

/-- The number a little-endian byte list spells (R12). -/
def ofLe : List Nat → Nat
  | [] => 0
  | b :: bs => b % 256 + 256 * ofLe bs

/-- `len` bytes of `bs` from offset `off`, read little-endian; bytes past the end read 0. -/
def fieldAt (bs : List Nat) (off len : Nat) : Nat := ofLe ((bs.drop off).take len)

/-- The absolute value of a whole number, as a natural number. -/
def absN (v : Int) : Nat := v.natAbs

/-- Integer square root by bisection on `fuel` halvings: the largest `r` in `lo..hi` with `r * r ≤ v`. -/
def isqrtGo (v : Nat) : Nat → Nat → Nat → Nat
  | 0, lo, _ => lo
  | f + 1, lo, hi =>
    let mid := (lo + hi + 1) / 2
    if mid * mid ≤ v then isqrtGo v f mid hi else isqrtGo v f lo (mid - 1)

/-- The integer square root of a number below 2^160. -/
def isqrt (v : Nat) : Nat := isqrtGo v 82 0 (2 ^ 80)

/-- One bit step of the reflected CRC-32C division (R120). -/
def crcBit (c : Nat) : Nat := if c % 2 = 1 then (c / 2) ^^^ 0x82F63B78 else c / 2

/-- One byte step of CRC-32C (R120). -/
def crcByte (c b : Nat) : Nat :=
  crcBit (crcBit (crcBit (crcBit (crcBit (crcBit (crcBit (crcBit (c ^^^ (b % 256)))))))))

/-- CRC-32C of a byte list (R120): initial value and final inversion all ones, reflected. -/
def crc32c (bs : List Nat) : Nat := bs.foldl crcByte 0xFFFFFFFF ^^^ 0xFFFFFFFF

end Sys2Proof
end

