-- ==== Sys2Proof/Syntax.lean ====
section
/-!
DEFINITION. The commands of the controller: one constructor for each row of the command table, with what arrives with the
row as its operands. Rows that a host sends carry their request entry (R75). An operand `lane` names the lane at which
the event arrives; every other row reaches both lanes.
-/

namespace Sys2Proof.Machine

/-! ### Names shared by every block -/

/-- The two lanes (R11, R22). -/
inductive LaneId where
  | A | B
deriving DecidableEq, Repr

/-- The other lane. -/
def LaneId.other : LaneId → LaneId
  | .A => .B
  | .B => .A

/-- The three variants of R1. -/
inductive Variant where
  | D | H | T
deriving DecidableEq, Repr

/-- One field of a response body: its width in bytes (0 where the spec names the field and gives no layout, log entry
6) and its value. -/
abbrev Field := Nat × Int

/-- A request entry (R75). `body` holds the used body bytes. `verdict` is the outcome of the tag or signature check that
the request asks for, where it asks for one (log entry 5). -/
structure Request where
  ring : Nat
  seq : Nat
  hostTag : Nat
  command : Nat
  lane : Nat
  path : Nat
  body : List Nat
  verdict : Bool := true
deriving DecidableEq, Repr

/-- A mailbox datagram as it arrives (R70, R71): the header fields, the decrypted entries, and the outcome of the
GCM tag check under the key of `keySlot` (log entry 5). `source` is the sender's address, 128 bits, above its
UDP port, `port` is 0 for
HOST A1 or B1 and 1 for HOST A2 or B2, `udpPort` the UDP port that the datagram is sent to (R68). -/
structure Datagram where
  version : Nat
  kind : Nat
  keySlot : Nat
  counter : Nat
  ring : Nat
  count : Nat
  ackSeq : Nat
  source : Nat
  tagOk : Bool
  entries : List Request
  port : Nat := 0
  udpPort : Nat := 50120
deriving DecidableEq, Repr

/-! ### Operands of the plant rows -/

/-- An uplink header (R127): `crcOk` says that its CRC held and every code group was valid, `alignOk` that K28.5 was
found at micro-frame 0, `arrivalPs` the K28.5 arrival after the starter instant. -/
structure UplinkHeader where
  crcOk : Bool
  alignOk : Bool
  codeErrors : Nat
  arrivalPs : Int
  lap : Nat
  hubFlags : Nat
  dlState : Nat
  obeyed : Nat
  portA : Nat
  portB : Nat
deriving DecidableEq, Repr

/-- A status block (R127). `contactor` holds one nibble per local phase. `onTime` is false where the block was late. -/
structure StatusBlock where
  crcOk : Bool
  onTime : Bool
  codeErrors : Nat
  gate : Nat
  tripped : Nat
  armed : Nat
  overlap : Nat
  bothOnRej : Nat
  hsTimeout : Nat
  cmdLoss : Nat
  refreshed : Nat
  contactor : Nat
  cfgAck : Nat
  hubErrors : Nat
deriving DecidableEq, Repr

/-- A fast measurement block (R128): per local phase the current, output voltage and DC-link voltage. -/
structure FastBlock where
  crcOk : Bool
  onTime : Bool
  codeErrors : Nat
  i : List Int
  vOut : List Int
  vDc : List Nat
  lapLo : Nat
  measFlags : Nat
deriving DecidableEq, Repr

/-- One raw sample of a channel as the modulator gives it: in 10^−9 of range at gain ×1, and whether it clipped (R261).
An AC sample is taken after the fractional-delay filter of R263 (log entry 20). -/
structure RawSample where
  raw : Int
  clipped : Bool := false
deriving DecidableEq, Repr

/-- One sample instant of a lane: the raw channels of AC and DC points by number, and by how many 1/256 of a sample the
other lane's latest sample instant lies before this one (R257, R261). -/
structure MeterSample where
  ac : List (Nat × List RawSample)
  dc : List (Nat × List RawSample)
  otherOfs : Nat
deriving DecidableEq, Repr

/-- What one channel samples at the start of a cycle (R321), each value after its filter: ESTOP-1, ESTOP-2 and RESET
closed, SAFE LOOP IN energised and a test pulse of it seen, the outlets whose IMD is open or has a wire fault, whose PROX
is not `inserted`, whose LATCH FB is not locked, the hardwired pin readings in m°C, and the energised outputs that read
below 18 V; further, whether ESTOP-1 and ESTOP-2 show the other source's test pulse, and whether each showed its own where one fell into the
cycle (R326). -/
structure SafetyInputs where
  estop1 : Bool
  estop2 : Bool
  reset : Bool
  loopIn : Bool
  loopPulse : Bool
  imdOpen : List Nat
  imdWire : List Nat
  proxOut : List Nat
  latchOut : List Nat
  pins : List (Nat × Int × Int)
  lowOuts : List Nat
  cross1 : Bool := false
  cross2 : Bool := false
  pulse1 : Option Bool := none
  pulse2 : Option Bool := none
deriving DecidableEq, Repr

/-- A safety telegram (R341); `crcOk` says that its CRC held. -/
structure Telegram where
  teamId : Nat
  sender : Nat
  version : Nat
  seq : Nat
  sendTime : Int
  demand : Nat
  resetCount : Nat
  crcOk : Bool
deriving DecidableEq, Repr



/-- A PTP message (R110): an Announce with its priority, clock identity and domain, a Sync with the master's time of its
arrival, or the result of a peer-delay exchange. `port` is 0 for TEAM N1 IN and 1 for TEAM N1 OUT. -/
inductive PtpMessage where
  | announce (domain priority clock : Nat)
  | sync (domain clock : Nat) (timeNs : Int)
  | pdelay (delayNs : Int)
deriving DecidableEq, Repr

/-- An entry of a response that another member sends (R76, R401), from its `req_seq` on: kind 6 carries the entries unchanged. -/
structure MemberEntry where
  seq : Nat
  hostTag : Nat
  status : Nat
  part : Nat
  last : Bool
  epoch : Nat
  fields : List Field
deriving DecidableEq, Repr

/-- What a lane's hardware brings to a lap that begins and no row of its own brings (R99, R165, R352, R360, R367, R373): the issue positions at
which a test vector's result differs, whether the stage serialisers left a command block of the lap before incomplete, whether the inner
PLL has lost its lock, the lane-link frames that failed their check, whether a host port has its link again, and whether the EJECT lever
has been closed again. -/
structure LapInput where
  bad : List Nat := []
  unsent : Bool := false
  unlocked : Bool := false
  linkErrors : Nat := 0
  portUp : Bool := false
  leverClosed : Bool := false
deriving DecidableEq, Repr

/-- What a round report names (R214, R409): the level it is of, its sender and its round as a team epoch. -/
structure RoundSource where
  level : Nat
  member : Nat
  round : Int
deriving DecidableEq, Repr

/-- An allocation to this member (R215, R409): the level it is of, its round as a team epoch, and the power. -/
structure RoundWatts where
  level : Nat
  round : Int
  watts : Int
deriving DecidableEq, Repr

/-- What moves a bypass switch (R398): whether it is to close, and whether the net's team ports have link. -/
structure BypassCue where
  closed : Bool
  link : Bool
deriving DecidableEq, Repr

/-- What a team frame carries, by kind (R401); bulk carries the entries of answers with history and acquisition data. Epochs and rounds are team epochs (R408). -/
inductive TeamPayload where
  | beacon (serial epoch laneStates pacerState mask keyGen : Nat)
  | telegram (t : Telegram)
  | report (round : Int) (want drawn : Int)
  | allocation (round : Int) (watts : Int)
  | requests (rs : List Request)
  | responses (es : List MemberEntry)
  | arm (id : Nat) (epoch : Int) (preMs postMs mib : Nat)
  | trigger (id path : Nat) (tag : Int)
  | change (mask keyGen : Nat) (epoch : Int)
  | ack (epoch : Int)
  | bulk (es : List MemberEntry)
deriving DecidableEq, Repr

/-- A team frame as it arrives (R400); `tagOk` is the outcome of its tag check (log entry 5), `transitUs` the transit that
a returning beacon measures. -/
structure TeamFrame where
  ttl : Nat
  dir : Nat
  teamId : Nat
  sender : Nat
  dest : Nat
  net : Nat
  seq : Nat
  teamEpoch : Int
  keyGen : Nat
  tagOk : Bool
  transitUs : Nat
  payload : TeamPayload
deriving DecidableEq, Repr

/-- A received CAN frame (R414, R418). -/
structure CanFrame where
  ide : Bool
  id : Nat
  fdf : Bool
  brs : Bool
  remote : Bool
  data : List Nat
deriving DecidableEq, Repr

/-- A schedule column that opens (R421, R422): its number, and whether another node's frame holds the bus. -/
structure CanColumn where
  column : Nat
  busy : Bool
deriving DecidableEq, Repr

/-- The end of a frame on a bus: a lane that received it corrupted (R20, R416), and whether another node's frame follows at once and keeps
the bus (R422). -/
structure CanEnd where
  missed : Option LaneId
  busy : Bool
deriving DecidableEq, Repr

/-- A frame of another node on a bus (R416, R418) and how it ended. -/
structure CanArrival where
  frame : CanFrame
  stop : CanEnd
deriving DecidableEq, Repr

/-- The bus on which a frame of the baton holder has reached its end (R422), and how it ended. -/
structure CanSent where
  bus : Nat
  stop : CanEnd
deriving DecidableEq, Repr

/-- What arrives on a wire that both lanes hear (R20, R417): `missed` names a lane that received it corrupted or late. -/
structure Heard (α : Type) where
  missed : Option LaneId
  body : α
deriving DecidableEq, Repr

/-- What a thermal block carries (R140): the junction temperatures, in units of 0.0625 °C, and its invalid code groups (R150). -/
structure ThermalBlock where
  codeErrors : Nat
  temps : List Int
deriving DecidableEq, Repr

/-- One outlet contactor's feedback (R531, R497): the position that it reports, or neither while the contactor moves. -/
inductive ContactorFb where
  | opened
  | closed
  | moving
deriving DecidableEq, Repr

/-- The feedbacks of an outlet's DC+ and DC- contactors (R531). -/
structure ContactorPair where
  plus : ContactorFb
  minus : ContactorFb
deriving DecidableEq, Repr

/-- The extensions of a ClientHello that R237 answers: key exchange groups and signature schemes, by their TLS numbers. -/
structure HelloExtensions where
  groups : List Nat
  schemes : List Nat
deriving DecidableEq, Repr

/-- What a ServiceSelectionReq selects (R236): a service, its control mode and the value-added services. -/
structure ServiceChoice where
  service : Nat
  mode : Nat
  valueAdded : List Nat
deriving DecidableEq, Repr

/-- When a tamper condition cleared (R313), and for a lane without power how long after its loss of supply it latched it
(R314), in ms. -/
structure TamperTimes where
  clearMs : Nat
  downMs : Nat
deriving DecidableEq, Repr

/-- An application protocol that a vehicle offers (R236): the number of its standard and the edition of its namespace. -/
structure AppProtocol where
  standard : Nat
  edition : Nat
deriving DecidableEq, Repr

/-- What the baton holder's session engine draws for a handshake (R238): the random, the ephemeral key and the nonce of its
signature. -/
structure SessionDraws where
  random : Nat
  ephemeral : Nat
  nonce : Nat
deriving DecidableEq, Repr

/-- What one lane's receiver makes of a mast frame (R430): the errors and erasures of its header and of its body codeword, the body's CRC, and
the bytes corrected in each segment. -/
structure MastDecode where
  headErrors : Nat
  headErasures : Nat
  errors : Nat
  erasures : Nat
  crc : Nat
  corrected : List Nat
deriving DecidableEq, Repr

/-- A node's frame on the mast link, a response or an alert (R429): the 8 bytes of its header, its payload, and what each lane's receiver
makes of it (R433). -/
structure MastResponse where
  header : List Nat
  payload : List Nat
  laneA : MastDecode
  laneB : MastDecode
deriving DecidableEq, Repr

/-- One housekeeping round's readings (R479, R480, R490): the 14 sensors in units of 0.0625 °C, none where a conversion
did not complete; the rails outside ±5 %; commanded and measured fan speeds; PWR input and hold-up; inner-code
corrections by device since the last round. -/
structure Housekeeping where
  sensors : List (Option Int)
  badRails : List Nat
  fanCmd : List Nat
  fanRpm : List Nat
  pwrMv : Nat
  holdupMs : Nat
  innerCe : Nat
deriving DecidableEq, Repr

end Sys2Proof.Machine

namespace Sys2Proof

open Sys2Proof.Machine

/-! ### The command table -/

/-- The commands and events of the command table, in the table's order; those without operands stand last. -/
inductive Instr where
  /-- NOP (R83): Command that returns OK and echoes its body. -/
  | nop (r : Request)
  /-- CAPS (R92): Command that returns the capability record and the state of both lanes. -/
  | caps (r : Request)
  /-- RING_SET (R83): Command that sets a ring pair's enable, transport key slot and rights. -/
  | ringSet (r : Request)
  /-- RING_RESYNC (R77): Command that ends held requests, clears the response history and sets the next expected seq to 1. -/
  | ringResync (r : Request)
  /-- RING_STATUS (R83): Command that returns a ring's sequence numbers, pending and held counts, and error counters. -/
  | ringStatus (r : Request)
  /-- SNAPSHOT (R47): Command that returns point records, all from the image of one epoch. -/
  | snapshot (r : Request)
  /-- SNAPSHOT_MEMBER_TIMEOUT (R48): A team member that has not delivered its image within 2 ms has its points read as unreachable. -/
  | snapshotMemberTimeout (seq : Nat)
  /-- READ_STAGED (R53): Command that returns the staged values of points, or the committed values where nothing is staged. -/
  | readStaged (r : Request)
  /-- HISTORY (R82): Command that returns the changed records of one point from the ledger history, in parts. -/
  | history (r : Request)
  /-- STAGE (R52): Command that checks up to 18 writes as a whole, then stages the RS writes and carries out the other writes at once. -/
  | stage (r : Request)
  /-- COMMIT (R54): Command that moves the staging area into a commit with a target epoch, or into a held commit. -/
  | commit (r : Request)
  /-- DISCARD (R54): Command that empties the ring's staging area without committing it. -/
  | discard (r : Request)
  /-- COMMIT_LIST (R83): Command that returns the held commits of the ring with their target epochs. -/
  | commitList (r : Request)
  /-- SUBSCRIBE (R49): Command that creates or extends a change or period subscription. -/
  | subscribe (r : Request)
  /-- UNSUBSCRIBE (R83): Command that removes a subscription. -/
  | unsubscribe (r : Request)
  /-- EVENT_MAP (R87): Command that maps event sources to rings, applying all entries or none. -/
  | eventMap (r : Request)
  /-- EVENT_MAP_READ (R83): Command that returns the ring to which each event source is mapped. -/
  | eventMapRead (r : Request)
  /-- RESET_FUNCTION (R93): Command that restarts one function in one lane or in both lanes. -/
  | resetFunction (r : Request)
  /-- FUNCTION_RESET_COMPLETE (R93): A function reset by RESET_FUNCTION runs again, is answered, and fires event 119. -/
  | functionResetComplete (code unit : Nat)
  /-- TOD_SET_WRITE (R111): A write to tod_set gives a new team time of day, which is slewed or stepped at the next epoch boundary. -/
  | todSetWrite (value : Int)
  /-- REARM_WRITE (R146): A host write to rearm requests the re-arm of a phase and clears the trips counted in its window. -/
  | rearmWrite (phase : Nat)
  /-- TEST_GATE_WRITE (R148): A host write to test_gate places TEST encodings for a number of laps, or is refused as a false start. -/
  | testGateWrite (phase value : Nat)
  /-- HIST_RESET_WRITE (R172): A write of 1 to hist_reset initialises the slot's histories before its next evaluation. -/
  | histResetWrite (slot : Nat)
  /-- HOST_POWER_KW_WRITE (R199): A write to host_power_kw sets a node's host-supplied metered power at once and time-stamps it. -/
  | hostPowerKwWrite (node : Nat) (value : Int)
  /-- SESSION_AUTHORIZE (R252): Command that gives the host's identification decision for an outlet in AUTH. -/
  | sessionAuthorize (r : Request)
  /-- SESSION_STOP (R252): Command that starts a controller stop of the outlet's charging session. -/
  | sessionStop (r : Request)
  /-- OUTLET_BLOCK (R252): Command that sets or releases the host block of an outlet, stopping a running session first. -/
  | outletBlock (r : Request)
  /-- OUTLET_CLEAR (R252): Command that clears the OUTLET_CLEAR hold condition of an outlet. -/
  | outletClear (r : Request)
  /-- SESSION_INFO (R252): Command that returns the identity data of the outlet's session. -/
  | sessionInfo (r : Request)
  /-- SESSION_RESTART (R252): Command that counts as a plug cycle for an outlet in IDLE or BLOCKED. -/
  | sessionRestart (r : Request)
  /-- KEY_MSG_LOAD (R391): Command that loads part of a key update message into the ring's buffer. -/
  | keyMsgLoad (r : Request)
  /-- KEY_MSG_APPLY (R384): Command that checks the loaded key update message and builds the trial store in a shadow area. -/
  | keyMsgApply (r : Request)
  /-- KEY_INFO (R391): Command that returns the state, attributes and versions of one key slot. -/
  | keyInfo (r : Request)
  /-- KEY_LIST (R391): Command that returns the state and attribute word of a range of slots. -/
  | keyList (r : Request)
  /-- KEY_COUNTER_READ (R391): Command that returns key_counter, the serial, update_block and store_serial_ok. -/
  | keyCounterRead (r : Request)
  /-- KEY_DELIVERY_REQUEST (R378): An engine requests a key from a slot, and the key store delivers it or refuses it. -/
  | keyDeliveryRequest (lane : LaneId) (engine slot op : Nat)
  /-- CARTRIDGE_PAIRING (R389): Two cartridges verify each other's certificates and derive the lane-link key by ECDH. -/
  | cartridgePairing (verified : Bool) (secret : Nat)
  /-- LANE_STATUS (R371): Command that returns the state, flags and firmware data of each lane and the baton number. -/
  | laneStatus (r : Request)
  /-- BATON_HANDOVER (R371): Command that makes the holder give up the baton to the named eligible lane. -/
  | batonHandover (r : Request)
  /-- FW_LOAD (R371): Command that loads part of a firmware or metrology image into an inactive bank. -/
  | fwLoad (r : Request)
  /-- FW_VERIFY (R369): Command that verifies the signature of a loaded image. -/
  | fwVerify (r : Request)
  /-- FW_ACTIVATE (R371): Command that resets the named standby lane into a verified bank. -/
  | fwActivate (r : Request)
  /-- LANE_PARK (R371): Command that puts a lane that does not hold the baton into reset, safe to remove. -/
  | lanePark (r : Request)
  /-- LANE_UNPARK (R371): Command that starts a parked lane, which then resynchronises. -/
  | laneUnpark (r : Request)
  /-- LANE_ELIGIBLE (R371): Command that clears COMPARE_PERSIST and TV_PERSIST of a lane, which then resynchronises. -/
  | laneEligible (r : Request)
  /-- TEAM_STATUS (R412): Command that returns the membership and ring state of a team level. -/
  | teamStatus (r : Request)
  /-- TEAM_MEMBERS (R404): Command at the anchor that sends a membership change for a future team epoch. -/
  | teamMembers (r : Request)
  /-- MEMBERSHIP_CHANGE_APPLY (R404): At the named team epoch, members apply the new mask and key_gen, and the anchor answers OK or TEAM_PARTIAL. -/
  | membershipChangeApply (level : Nat)
  /-- TEAM_TRIGGER (R412): Command that sends a team trigger frame for an arm_id. -/
  | teamTrigger (r : Request)
  /-- TUNE_START (R438): Command that checks and schedules an injection measurement on one slot. -/
  | tuneStart (r : Request)
  /-- TUNE_STOP (R443): Command that ends a running measurement, with the injection 0 from the next window. -/
  | tuneStop (r : Request)
  /-- TUNE_RESULT (R452): Command that returns the correlator results of the latest completed measurement. -/
  | tuneResult (r : Request)
  /-- TRACE_ARM (R445): Command that arms all trace probes of both lanes with a pre-trigger count and a trigger source. -/
  | traceArm (r : Request)
  /-- TRACE_TRIGGER (R445): A trigger is accepted on armed probes and fixes trace_trig_lap, or is ignored if too early. -/
  | traceTrigger (source : Nat)
  /-- TRACE_READ (R452): Command that returns samples of one probe. -/
  | traceRead (r : Request)
  /-- ACQ_ARM (R449): Command that opens an acquisition record for the module or the team. -/
  | acqArm (r : Request)
  /-- ACQ_KEEPALIVE (R447): A channel that has stored nothing for acq_keepalive_ms stores its present value. -/
  | acqKeepalive (channel : Nat)
  /-- ACQ_DISARM (R452): Command that ends the armed record in CLOSED. -/
  | acqDisarm (r : Request)
  /-- ACQ_TRIGGER (R452): Command that triggers the armed record. -/
  | acqTrigger (r : Request)
  /-- ACQ_LIST (R452): Command that lists the records held. -/
  | acqList (r : Request)
  /-- ACQ_READ (R452): Command that returns entries of a record. -/
  | acqRead (r : Request)
  /-- ACQ_DELETE (R452): Command that deletes a record and frees its memory. -/
  | acqDelete (r : Request)
  /-- TRIG_IN_EDGE (R450): An edge of at least 100 ns arrives on TRIG IN 1 or 2. -/
  | trigInEdge (input : Nat) (rising : Bool)
  /-- TRIG_OUT_PULSE_END (R450): The 10 µs TRIG OUT pulse ends. -/
  | trigOutPulseEnd (output : Nat)
  /-- PERIOD_READ (R316): Command that returns a closed billing period. -/
  | periodRead (r : Request)
  /-- PROFILE_READ (R316): Command that returns interval records. -/
  | profileRead (r : Request)
  /-- LOG_READ (R316): Command that returns metrology log entries. -/
  | logRead (r : Request)
  /-- RECORD_READ (R316): Command that returns a signed session record. -/
  | recordRead (r : Request)
  /-- CLOCK_READ (R316): Command that returns the legal clock and tariff state. -/
  | clockRead (r : Request)
  /-- CLOCK_SET (R298): Command that steps the legal clock, within the limit or beyond it with splits. -/
  | clockSet (r : Request)
  /-- TAMPER_ACK (R316): Command that acknowledges a tamper record. -/
  | tamperAck (r : Request)
  /-- PUBKEY_READ (R316): Command that returns the public key of the metering signing key. -/
  | pubkeyRead (r : Request)
  /-- SLEEP_ENTER (R462): Command that begins sleep preparation with the target epoch S. -/
  | sleepEnter (r : Request)
  /-- TT_WRITE (R476): Command that writes or deletes timetable entries. -/
  | ttWrite (r : Request)
  /-- TT_READ (R476): Command that returns timetable entries. -/
  | ttRead (r : Request)
  /-- TT_CLEAR (R476): Command that removes every timetable entry. -/
  | ttClear (r : Request)
  /-- POWER_STATUS (R476): Command that returns the power state data of each lane. -/
  | powerStatus (r : Request)
  /-- MODULE_RESTART (R472): Command that schedules a reset of both lanes at the end of the next epoch. -/
  | moduleRestart (r : Request)
  /-- CAN_TX_WRITE (R420): Command that writes a payload into a transmit object's back buffer. -/
  | canTxWrite (r : Request)
  /-- CAN_RX_READ (R419): Command that reads a receive object atomically over one lap. -/
  | canRxRead (r : Request)
  /-- CAN_SLEEP (R425): Command that puts the transceivers of a bus into sleep. -/
  | canSleep (r : Request)
  /-- CAN_WAKE (R425): Command that wakes a sleeping bus. -/
  | canWake (r : Request)
  /-- CAN_RECOVER (R424): Command that starts bus-off recovery of a bus. -/
  | canRecover (r : Request)
  /-- MAST_WRITE (R436): Command that queues data for a mast node. -/
  | mastWrite (r : Request)
  /-- MAST_READ (R436): Command that returns the latest data and link report of a mast node. -/
  | mastRead (r : Request)
  /-- MAST_MAP_READ (R436): Command that returns the channel maps of a mast port. -/
  | mastMapRead (r : Request)
  /-- DATAGRAM_RECEIVE (R72): A mailbox datagram arrives on a host port, is authenticated and checked, and its entries are accepted or dropped. -/
  | datagramReceive (lane : LaneId) (d : Datagram)
  /-- FORWARDED_REQUEST (R69): The other lane receives request entries forwarded over the lane link. -/
  | forwardedRequest (lane : LaneId)
  /-- RESEND_TIMER (R81): Unacknowledged response-ring entries are resent 20 ms after they were last sent. -/
  | resendTimer (ring : Nat)
  /-- NOTIFICATION_ROOM (R51): When ring room appears, one merged notification is built from the latest sealed image. -/
  | notificationRoom (ring sub : Nat)
  /-- LAP_START (R107): At each starter instant the lap number advances and the lap's pack block, engine window and command blocks run. -/
  | lapStart (inA inB : LapInput)
  /-- REFIN_QUALIFIED (R96): REFIN has stayed within ±200 ppm for 100 ms without a missing edge. -/
  | refinQualified (lane : LaneId)
  /-- REFIN_LOST (R96): REFIN misses 4 consecutive edges or leaves ±200 ppm. -/
  | refinLost (lane : LaneId)
  /-- SYNCI_QUALIFIED (R97): SYNCI has delivered 16 consecutive correct starter pulses. -/
  | synciQualified (lane : LaneId)
  /-- SYNCI_LOST (R97): SYNCI misses 3 consecutive expected rising edges. -/
  | synciLost (lane : LaneId)
  /-- EPOCH_MARKER_MISALIGNED (R106): An epoch marker on SYNCI does not arrive at the lane's own lap 0. -/
  | epochMarkerMisaligned (lane : LaneId)
  /-- BAND_SEARCH_LOCK (R98): The inner PLL completes its band search and lock. -/
  | bandSearchLock (lane : LaneId) (band : Nat)
  /-- LAPS_START (R108): After lock and qualification, a lane starts its laps at the epoch marker or the next epoch tick. -/
  | lapsStart (lane : LaneId)
  /-- ACQUIRE_COMPLETE (R101): The frequency, and the lap phase where needed, reach the source and the Pacer enters TRACK or REF_HOLD. -/
  | acquireComplete (lane : LaneId) (freq phase : Int)
  /-- HOLDOVER_EXPIRY (R101): After 10 s in HOLDOVER, the Pacer passes to RETURN. -/
  | holdoverExpiry (lane : LaneId)
  /-- RETURN_COMPLETE (R101): The frequency reaches nominal and the Pacer passes from RETURN to FREE. -/
  | returnComplete (lane : LaneId)
  /-- PTP_MESSAGE (R110): A PTP message arrives on Net 1 and updates team time or the best master choice. -/
  | ptpMessage (port : Nat) (m : PtpMessage)
  /-- UPLINK_HEADER_RECEIVE (R127): A hub's uplink header arrives and is checked for ports, obeyed block and K28.5 alignment. -/
  | uplinkHeaderReceive (lane : LaneId) (hub : Nat) (u : UplinkHeader)
  /-- STATUS_BLOCK_RECEIVE (R127): A hub's status block arrives with trips, armed state, contactors and cfg_ack. -/
  | statusBlockReceive (lane : LaneId) (hub : Nat) (b : StatusBlock)
  /-- FAST_BLOCK_RECEIVE (R137): A hub's fast measurement block arrives and is accepted or treated as missing. -/
  | fastBlockReceive (lane : LaneId) (hub : Nat) (f : FastBlock)
  /-- THERMAL_BLOCK_RECEIVE (R140): A hub's thermal block arrives with junction temperatures. -/
  | thermalBlockReceive (lane : LaneId) (hub : Nat) (crcOk : Bool) (block : ThermalBlock)
  /-- JUNCTION_TEMP_TIMEOUT (R140): After 200 laps without a valid thermal block, junction temperatures read invalid. -/
  | junctionTempTimeout (lane : LaneId) (hub : Nat)
  /-- HUB_IDENTITY_RECORD (R529): A new hub identity record arrives in the service channel and is stored and applied. -/
  | hubIdentityRecord (lane : LaneId) (hub iFs vFs fitted : Nat)
  /-- HUB_BLIND (R138): A hub's measurements are missing for a second consecutive lap and the hub is marked blind. -/
  | hubBlind (lane : LaneId) (hub : Nat)
  /-- BLIND_CLEAR (R138): After 64 consecutive valid laps, the blind mark of a hub clears. -/
  | blindClear (lane : LaneId) (hub : Nat)
  /-- LOSS_OF_SIGNAL (R129): A stage link receiver reports loss of signal and the link leaves READY. -/
  | lossOfSignal (lane : LaneId) (hub : Nat)
  /-- SIGNAL_PRESENT (R129): Signal appears on a DARK stage link, which passes to ALIGN. -/
  | signalPresent (lane : LaneId) (hub : Nat)
  /-- LINK_ALIGN_COMPLETE (R129): K28.5 found at micro-frame 0 in 4 consecutive laps moves the link to RANGE. -/
  | linkAlignComplete (lane : LaneId) (hub : Nat)
  /-- RANGE_COMPLETE (R130): The one-way delay has been measured over 16 laps and the link moves to CONFIG. -/
  | rangeComplete (lane : LaneId) (hub delayPs : Nat)
  /-- CONFIG_COMPLETE (R129): 16 consecutive valid laps with the expected port move the link to READY. -/
  | configComplete (lane : LaneId) (hub : Nat)
  /-- LINK_ALIGN_LOST (R129): K28.5 not found in 2 consecutive laps returns a READY link to ALIGN. -/
  | linkAlignLost (lane : LaneId) (hub : Nat)
  /-- LINK_TRAINING_TIMEOUT (R129): ALIGN, RANGE or CONFIG exceeds its limit and the link goes to FAULT. -/
  | linkTrainingTimeout (lane : LaneId) (hub : Nat)
  /-- LINK_FAULT_RETRY (R129): 100 ms after FAULT, the link is retried as DARK. -/
  | linkFaultRetry (lane : LaneId) (hub : Nat)
  /-- REARM_DELAY_EXPIRY (R146): After rearm_delay_laps of arm 0, a phase is re-armed where its policy allows. -/
  | rearmDelayExpiry (phase : Nat)
  /-- PACK_RUN_START (R187): Once the selectors have confirmed, a CLOSING pack initialises its phases and enters RUN. -/
  | packRunStart (pack : Nat)
  /-- PACK_MATRIX_TIMEOUT (R187): matrix_timeout_ms expires in CLOSING and unconfirmed phases are removed, which may fail the start. -/
  | packMatrixTimeout (pack : Nat)
  /-- PACK_STOP_COMPLETE (R188): A STOPPING pack reaches zero current or its time limit, sends OFF for all phases and enters IDLE. -/
  | packStopComplete (pack : Nat)
  /-- JOIN_COMPLETE (R182): A joining phase's weight reaches 65,536 and it becomes ACTIVE. -/
  | joinComplete (phase : Nat)
  /-- LEAVE_COMPLETE (R182): A leaving phase's weight reaches 0 and it becomes PARKED. -/
  | leaveComplete (phase : Nat)
  /-- PHASE_JOIN (R190): A PARKED phase whose join conditions are met begins the re-arm edge and joins. -/
  | phaseJoin (phase : Nat)
  /-- ALLOCATION_OVERRUN (R35): An allocation not finished by lap 140 keeps the previous targets and counts an overrun. -/
  | allocationOverrun (lane : LaneId)
  /-- TEAM_REPORT_RECEIVE (R214): The anchor receives a member's round report. -/
  | teamReportReceive (from_ : RoundSource) (want drawn : Int)
  /-- TEAM_ALLOCATION_RECEIVE (R215): A member receives its allocation from the anchor. -/
  | teamAllocationReceive (w : RoundWatts)
  /-- CAN_FRAME_RECEIVE (R418): A CAN frame is received and placed into its receive object at the next lap start. -/
  | canFrameReceive (bus : Nat) (f : CanArrival)
  /-- CAN_COLUMN_OPEN (R422): A schedule column opens and its cell requests a frame, opens a free window or stays idle. -/
  | canColumnOpen (bus cycle : Nat) (c : CanColumn)
  /-- CAN_COLUMN_CLOSE (R422): A column closes and a scheduled frame that has not started is withdrawn. -/
  | canColumnClose (bus : Nat)
  /-- CAN_ERROR_STATE_CHANGE (R424): A bus changes among error active, error passive and bus-off. -/
  | canErrorStateChange (lane : LaneId) (bus : Nat) (state : Int) (tec recN : Nat)
  /-- CAN_BUSOFF_RECOVERY (R424): After 128 occurrences of 11 recessive bits, a bus-off controller rejoins. -/
  | canBusoffRecovery (lane : LaneId) (bus : Nat)
  /-- CAN_WAKE_PATTERN (R425): A wake-up pattern or wake frame arrives on a sleeping bus. -/
  | canWakePattern (bus : Nat) (frame : Option CanFrame)
  /-- MAST_REQUEST_SEND (R431): The holder starts a transaction by sending a request to the next node. -/
  | mastRequestSend (port : Nat)
  /-- MAST_RESPONSE_RECEIVE (R431): A node's response is decoded and the channel map is adapted. -/
  | mastResponseReceive (port : Nat) (a : MastResponse)
  /-- MAST_RESPONSE_TIMEOUT (R431): A response is missing after 11 mains cycles, and the request is repeated. -/
  | mastResponseTimeout (port : Nat)
  /-- MAST_ALERT (R434): A node's alert header is received while the controller is ASLEEP. -/
  | mastAlert (port : Nat) (a : MastResponse)
  /-- SENSOR_TIMEOUT (R220): A cooling sensor's last frame is older than TIMEOUT_MS and it becomes invalid. -/
  | sensorTimeout (outlet sensor : Nat)
  /-- FORECAST_OVERRUN (R225): A forecast not finished by lap 140 is dropped and counted. -/
  | forecastOverrun (outlet : Nat)
  /-- COOL_READY (R222): Flow has been at least flow_limit for 1 s and cool_ready becomes 1. -/
  | coolReady (outlet : Nat)
  /-- DEGRADED_RECOVER (R228): Good flow for 5 s returns the outlet from DEGRADED to NORMAL. -/
  | degradedRecover (outlet : Nat)
  /-- DEGRADED_EXPIRY (R228): The degraded timer reaches 60,000 ms and the outlet becomes EXPIRED. -/
  | degradedExpiry (outlet : Nat)
  /-- DEGRADED_ELAPSED_RESET (R228): After 300 s of good flow, the degraded elapsed time returns to 0. -/
  | degradedElapsedReset (outlet : Nat)
  /-- COOLDOWN_EXPIRY (R221): cooldown_s after the contactors open, the flow target returns to flow_idle. -/
  | cooldownExpiry (outlet : Nat)
  /-- PROX_BAND_CHANGE (R233): The identification line stays in a new band for 20 ms and prox_state changes. -/
  | proxBandChange (outlet : Nat) (lineMv : Nat)
  /-- LATCH_FB_CHANGE (R234): LATCH FB reports the latch locked or unlocked. -/
  | latchFbChange (outlet : Nat) (state : Int)
  /-- CONTACTOR_FEEDBACK_CHANGE (R531): An outlet contactor feedback changes and the session step may advance. -/
  | contactorFeedbackChange (outlet : Nat) (fb : ContactorPair)
  /-- SIGNED_RECORD_RECEIVE (R309): The standby receives a signed session record from the holder. -/
  | signedRecordReceive (number : Nat)
  /-- SDP_REQUEST (R232): A vehicle's SDP request arrives on the outlet segment. -/
  | sdpRequest (outlet : Heard Nat)
  /-- TLS_CLIENT_HELLO (R237): A vehicle's TLS ClientHello starts the handshake. -/
  | tlsClientHello (outlet : Heard Nat) (suites : List Nat) (ext : HelloExtensions) (draws : SessionDraws)
  /-- HANDSHAKE_TIMEOUT (R237): A TLS handshake not complete 5 s after ClientHello faults with link_timeout. -/
  | handshakeTimeout (outlet : Nat)
  /-- SESSION_RANDOM_RECEIVE (R238): The standby receives session randoms and secrets mirrored by the holder. -/
  | sessionRandomReceive (outlet : Nat)
  /-- SUPPORTED_APP_PROTOCOL_REQ (R236): A SupportedAppProtocolReq arrives. -/
  | supportedAppProtocolReq (outlet : Heard Nat) (offers : List AppProtocol)
  /-- SESSION_SETUP_REQ (R239): A SessionSetupReq arrives and is answered in LINK. -/
  | sessionSetupReq (outlet : Heard Nat) (evccid id : Nat)
  /-- AUTHORIZATION_SETUP_REQ (R239): An AuthorizationSetupReq arrives in AUTH. -/
  | authorizationSetupReq (outlet : Heard Nat)
  /-- AUTHORIZATION_REQ (R239): An AuthorizationReq arrives and is accepted, refused or left ongoing. -/
  | authorizationReq (outlet : Heard Nat) (mode : Nat) (chainOk : Bool) (contract : List Nat)
  /-- SERVICE_DISCOVERY_REQ (R239): A ServiceDiscoveryReq arrives in PARAM. -/
  | serviceDiscoveryReq (outlet : Heard Nat)
  /-- SERVICE_DETAIL_REQ (R239): A ServiceDetailReq arrives in PARAM. -/
  | serviceDetailReq (outlet : Heard Nat)
  /-- SERVICE_SELECTION_REQ (R239): A ServiceSelectionReq arrives in PARAM. -/
  | serviceSelectionReq (outlet : Heard Nat) (choice : ServiceChoice)
  /-- DC_CHARGE_PARAMETER_DISCOVERY_REQ (R246): A DC_ChargeParameterDiscoveryReq arrives and the outlet limits are sent. -/
  | dcChargeParameterDiscoveryReq (outlet : Heard Nat) (vMax iMax pMax : Nat)
  /-- SCHEDULE_EXCHANGE_REQ (R246): A ScheduleExchangeReq arrives and the forecast schedule is sent. -/
  | scheduleExchangeReq (outlet : Heard Nat)
  /-- DC_CABLE_CHECK_REQ (R240): A DC_CableCheckReq arrives, starting CONNECT or answered Ongoing or Finished. -/
  | dcCableCheckReq (outlet : Heard Nat)
  /-- DC_PRE_CHARGE_REQ (R242): A DC_PreChargeReq arrives and sets the pre-charge target. -/
  | dcPreChargeReq (outlet : Heard Nat) (target : Nat)
  /-- POWER_DELIVERY_REQ (R239): A PowerDeliveryReq with start or stop arrives. -/
  | powerDeliveryReq (outlet : Heard Nat) (kind : Nat)
  /-- DC_CHARGE_LOOP_REQ (R244): A DC_ChargeLoopReq arrives with the vehicle's values for the next round. -/
  | dcChargeLoopReq (outlet : Heard Nat) (iTarget iMax pMax vTarget vMax : Nat)
  /-- DC_WELDING_DETECTION_REQ (R239): A DC_WeldingDetectionReq arrives in EV_OPEN or DISCHARGE. -/
  | dcWeldingDetectionReq (outlet : Heard Nat)
  /-- SESSION_STOP_REQ (R532): A SessionStopReq arrives and ends the session. -/
  | sessionStopReq (outlet : Heard Nat)
  /-- STEP_LIMIT_EXPIRY (R239): A session step's time limit runs out and the named fault is raised. -/
  | stepLimitExpiry (outlet : Nat)
  /-- COOL_NOT_READY_TIMEOUT (R240): cool_ready still 0 after 10 s in CONNECT faults the outlet. -/
  | coolNotReadyTimeout (outlet : Nat)
  /-- ISOLATION_PASS (R241): The test voltage has been held for iso_hold_ms with the monitor OK. -/
  | isolationPass (outlet : Nat)
  /-- PRECHARGE_REACHED (R239): The outlet voltage has been within precharge_tol_mv of the EV target for 20 ms. -/
  | prechargeReached (outlet : Nat)
  /-- PRECHARGE_SHORT (R243): The ramp count reaches 4,001 laps at full current below 20% and the outlet has a short. -/
  | prechargeShort (outlet : Nat)
  /-- RAMPDOWN_COMPLETE (R244): The outlet current falls to 5 A or less and PowerDeliveryRes is sent. -/
  | rampdownComplete (outlet : Nat)
  /-- DISCHARGE_COMPLETE (R245): The DC point voltage falls to 60 V or less and DISCHARGE is left. -/
  | dischargeComplete (outlet : Nat)
  /-- PLUG_CYCLE (R250): prox_state open for at least 1 s then inserted counts as a plug cycle. -/
  | plugCycle (outlet : Nat)
  /-- METERING_SAMPLE (R257): Every 125 µs each lane samples every metering input and corrects and accumulates it. -/
  | meteringSample (lane : LaneId) (ms : MeterSample)
  /-- CYCLE_END (R268): A positive zero crossing ends an AC cycle, whose energy goes to its quadrant; `instant256` is its instant. -/
  | cycleEnd (lane : LaneId) (point instant256 : Nat)
  /-- FIXED_BLOCK_END (R269): A fixed block of 160 samples ends when no reference qualifies. -/
  | fixedBlockEnd (lane : LaneId) (point : Nat)
  /-- NTC_READ (R265): Once per second each point's NTC is read and its compensation evaluated. -/
  | ntcRead (lane : LaneId) (point milliOhm : Nat)
  /-- REFERENCE_CHECK (R273): Once per second each lane checks its ADC references against the second reference. -/
  | referenceCheck (lane : LaneId) (ppm : Int)
  /-- MP_CRC_CHECK (R280): At start and every 24 h the metrology image CRC is computed and checked. -/
  | mpCrcCheck (lane : LaneId) (crc : Nat) (same : Bool)
  /-- S0_PULSE (R274): An OFF to ON transition on an S0 input lasts s0_min_on_ms and is counted. -/
  | s0Pulse (lane : LaneId) (input onMs : Nat)
  /-- S0_STUCK (R275): An S0 input ON for longer than s0_max_on_ms faults as stuck. -/
  | s0Stuck (lane : LaneId) (input onMs : Nat)
  /-- S0_LANE_DISAGREE (R275): The lanes' S0 counts differ for more than 1 s. -/
  | s0LaneDisagree (input : Nat)
  /-- PULSE_OUTPUT_TICK (R277): Every 125 µs, the holder starts a pulse when one is backlogged. -/
  | pulseOutputTick (output : Nat)
  /-- PULSE_END (R277): A pulse of width w ends and po_emitted advances. -/
  | pulseEnd (output : Nat)
  /-- SUPPLY_LOSS (R302): A lane's PWR input stays below 16.0 V for 500 µs. -/
  | supplyLoss (lane : LaneId)
  /-- SUPPLY_RESTORE (R303): Supply returns and the metrology processor applies the outage events. -/
  | supplyRestore (lane : LaneId) (ms : Nat) (clockOk ok0 ok1 held : Bool)
  /-- SUPPLY_GOOD (R455): The PWR input has been at 17.5 V for 100 ms with enough hold-up and the fast domain starts. -/
  | supplyGood (lane : LaneId)
  /-- SEAL_CHANGE (R312): The CAL SEAL switch changes, writing a log entry. -/
  | sealChange (opened : Bool)
  /-- TAMPER_RECORD (R313): A tamper condition is met and a tamper record is written. -/
  | tamperRecord (cause point : Nat) (times : TamperTimes) (values : List Int)
  /-- SAFETY_CYCLE (R321): Every 1 ms each safety channel samples its inputs and evaluates every safety function. -/
  | safetyCycle (lane : LaneId) (ch1 ch2 : SafetyInputs)
  /-- TRIP_LATCH_RECEIVE (R322): A trip latched by the other lane arrives over the lane link and is latched. -/
  | tripLatchReceive (lane : LaneId) (function : Nat)
  /-- RESET_EDGE (R328): A RESET rising edge held for 50 ms after 200 ms open resets every RESETTABLE function. -/
  | resetEdge (lane : LaneId) (openMs closedMs : Nat)
  /-- TEST_PULSE_START (R336): At lap 20 of its scheduled epoch, the holder pulses an energised safety output off. -/
  | testPulseStart (output : Nat)
  /-- TEST_PULSE_END (R337): After tp_width_us, the test pulse ends unless a demand suppresses the end. -/
  | testPulseEnd (output : Nat) (readBack : Bool)
  /-- LOOP_TEST_PULSE_TIMEOUT (R340): No test pulse seen on SAFE LOOP IN for 1,100 ms is a loop fault. -/
  | loopTestPulseTimeout (lane : LaneId)
  /-- SAFETY_TELEGRAM_RECEIVE (R342): A safety telegram arrives and is checked and held for comparison. -/
  | safetyTelegramReceive (net : Nat) (t : Telegram)
  /-- TELEGRAM_TIMEOUT (R343): No accepted telegram from a member for 13 ms trips function 0. -/
  | telegramTimeout (member : Nat)
  /-- NET_LOST (R344): One net has delivered no valid telegram for 13 ms while the other did, and it is marked lost. -/
  | netLost (net : Nat)
  /-- NET_RESTORED (R344): Both nets have delivered agreeing copies for 10 s and the net is restored. -/
  | netRestored (net : Nat)
  /-- DISCHARGE_SUPERVISION_EXPIRY (R346): The cable is not at 60 V or less 1 s after a stop, and function 20 + 8o trips. -/
  | dischargeSupervisionExpiry (outlet : Nat)
  /-- BACKUP_DISCHARGE_CHECK (R347): The cable is still above 60 V 2 s after BDIS was de-energised, and event 88 fires again. -/
  | backupDischargeCheck (outlet : Nat)
  /-- DEGRADED_CURRENT_CHECK (R333): 2 s after EXPIRED, an outlet current above 5 A trips function 21 + 8o. -/
  | degradedCurrentCheck (outlet : Nat)
  /-- GIVE_UP (R359): A latched give-up request drops WANT at 3,650 ns and sets the release flag. -/
  | giveUp (lane : LaneId)
  /-- WATCHDOG_MISS (R360): The lap watchdog is not serviced and LIVE stops toggling. -/
  | watchdogMiss (lane : LaneId)
  /-- HOST_PORTS_DOWN (R360): Both own host ports have had no link for 1 s while a partner port has link. -/
  | hostPortsDown (lane : LaneId)
  /-- LANE_INSERTED (R356): PRES of a slot goes high and the lane leaves the absent state. -/
  | laneInserted (lane : LaneId) (fresh mismatch : Bool) (serial : Nat)
  /-- LANE_REMOVED (R356): PRES of a slot goes low and the lane is absent. -/
  | laneRemoved (lane : LaneId)
  /-- EJECT_OPEN (R373): A cartridge's EJECT contact opens and the lane parks or gives up. -/
  | ejectOpen (lane : LaneId)
  /-- BOOT_COMPLETE (R364): A lane's boot tests pass and it raises WANT or enters ALIGN. -/
  | bootComplete (lane : LaneId)
  /-- RESYNC_ALIGN_COMPLETE (R364): Laps are aligned and every enabled hub is READY, so the lane enters COPY. -/
  | resyncAlignComplete (lane : LaneId)
  /-- COPY_COMPLETE (R364): All resynchronisation items are copied and the lane enters CATCHUP. -/
  | copyComplete (lane : LaneId)
  /-- CATCHUP_COMPLETE (R364): The lane's sealed image equals the holder's and it enters SHADOW. -/
  | catchupComplete (lane : LaneId)
  /-- SHADOW_COMPLETE (R364): 1,000 epochs without a mismatch take the lane into standby. -/
  | shadowComplete (lane : LaneId)
  /-- RESYNC_PHASE_TIMEOUT (R364): A resynchronisation phase exceeds its limit and resynchronisation restarts from ALIGN. -/
  | resyncPhaseTimeout (lane : LaneId)
  /-- TEAM_FRAME_RECEIVE (R396): A team frame arrives, is forwarded, stripped or accepted, and is acted on by kind. -/
  | teamFrameReceive (f : TeamFrame)
  /-- BYPASS_SWITCH (R398): A team bypass switch closes or opens on loss or return of a lane's baton and link. -/
  | bypassSwitch (net : Nat) (cue : BypassCue)
  /-- TEAM_ARM_APPLY (R410): At the team epoch of a team arm, every member arms its record. -/
  | teamArmApply (level : Nat)
  /-- WAKE (R466): A wake source is recognised in ASLEEP and both lanes are started. -/
  | wake (source : Nat)
  /-- TIMETABLE_DUE (R467): A timetable entry falls due, waking the controller or firing event 118. -/
  | timetableDue (id : Nat)
  /-- TIMETABLE_EXPIRY (R467): A timetable entry is removed 1 h after its arrival time. -/
  | timetableExpiry (id : Nat)
  /-- HOUSEKEEPING_ROUND (R479): Every 50 ms a lane reads its sensors, rails and fans and selects its band. -/
  | housekeepingRound (lane : LaneId) (h : Housekeeping)
  /-- FAN_FAULT (R479): A fan below 50% of commanded speed for 2 s is faulty. -/
  | fanFault (lane : LaneId) (fan : Nat)
  /-- CRITICAL_RESTART (R484): After sensors 8..13 have read below 70 °C for 300 s, the lane starts again as at a cold start. -/
  | criticalRestart (lane : LaneId)
  /-- ASLEEP_THERMAL_CHECK (R484): Once per second in ASLEEP, the always-on domain reads board sensors and drives the fans. -/
  | asleepThermalCheck (lane : LaneId) (sensors : List Int)
  /-- DRAM_ERROR (R487): A DRAM read or scrub finds an error and corrects it or reports it uncorrectable. -/
  | dramError (lane : LaneId) (corrected : Bool) (device line : Nat)
  /-- SCRUB (R488): The scrubber reads the next DRAM line of its pass. -/
  | scrub (lane : LaneId)
  /-- MEMBER_ANSWER_TIMEOUT (R85): A request forwarded down a team path gets no answer from the addressed member within 20 ms and fails with UNREACHABLE. -/
  | memberAnswerTimeout (seq : Nat)
  /-- BACKUP_STORE_EXHAUSTED (R296): During loss of supply a lane's backup store runs out, the legal clock stops and the always-on domain stops. -/
  | backupStoreExhausted (lane : LaneId)
  /-- ASLEEP_EPOCH_TICK (R65): In ASLEEP the always-on epoch counter advances every 8,192 cycles of the metrology clock. -/
  | asleepEpochTick (lane : LaneId)
  /-- S0_OFF_TRANSITION (R275): An S0 input returns from ON to OFF, counting a too-short ON state as a glitch and clearing a stuck fault. -/
  | s0OffTransition (lane : LaneId) (input : Nat)
  /-- MAINS_ZERO_CROSSING (R428): A mast port detects the positive-going zero crossing of its feeder, which times the six segments and counts mains_out when the frequency is out of range. -/
  | mainsZeroCrossing (port periodUs : Nat) (noise : List Nat)
  /-- CAN_TX_COMPLETE (R422): A frame the baton holder has started on a CAN bus reaches its end, so the next pending request may start. -/
  | canTxComplete (sent : CanSent)
  /-- OUTLET_SEGMENT_FRAME (R232): A TCP or TLS frame that carries no ISO 15118-20 request arrives on an outlet segment, and both lanes update their TCP and TLS state from it. -/
  | outletSegmentFrame (outlet : Nat) (fromVehicle : Heard Bool) (seq len secret : Nat) (done : Bool)
  /-- PTP_SEND_INTERVAL (R110): The Sync, Announce or Pdelay_Req interval of the boundary clock expires, and the controller sends that PTP message. -/
  | ptpSendInterval (kind : Nat)
  /-- SESSION_ENGINE_IDLE (R461): No primitive has been requested of a session engine for 10 ms, and its clock is stopped and shown in clock_gate. -/
  | sessionEngineIdle (engine : Nat)
  /-- SNAPSHOT_IMAGE_READY (R47): A snapshot that names a future epoch is answered once that epoch's image becomes readable. -/
  | snapshotImageReady
  /-- KEY_DIGEST_EXCHANGE (R384): One lap after KEY_MSG_APPLY, each lane sends the digest of its trial store and compares it with the partner's. -/
  | keyDigestExchange
  /-- KEY_COMMIT_POINT (R384): At the start of lap L+2, the trial store is activated or refused, the response is sent, and engines overwrite their stale key copies. -/
  | keyCommitPoint
  /-- TUNE_MEASUREMENT_START (R438): At lap 0 of the next epoch, both lanes begin injecting the sequence. -/
  | tuneMeasurementStart
  /-- TUNE_COMPLETE (R443): After the last evaluation, the results of all points are ready at lap 4 of the next epoch and event 112 fires. -/
  | tuneComplete
  /-- TUNE_GUARD_ABORT (R442): The guard pack's deviation exceeds guard_a in 4 consecutive laps, and the measurement aborts. -/
  | tuneGuardAbort
  /-- TRACE_COMPLETE (R445): Recording stops after the post-trigger count of laps. -/
  | traceComplete
  /-- ACQ_PRE_ELAPSED (R449): pre_ms after arming, a FILLING record becomes READY. -/
  | acqPreElapsed
  /-- ACQ_TRIGGER_CONDITION (R450): A trigger condition, host trigger or team trigger starts recording in a READY record. -/
  | acqTriggerCondition
  /-- ACQ_POST_ELAPSED (R449): post_ms after the trigger, the record becomes COMPLETE. -/
  | acqPostElapsed
  /-- ACQ_MEMORY_FULL (R449): Record memory fills during RECORDING, and the record becomes FULL. -/
  | acqMemoryFull
  /-- SLEEP_PRECHECK (R462): At lap 160 of epoch e+1, both lanes check the sleep preconditions. -/
  | sleepPrecheck
  /-- SLEEP_POINT (R463): At lap 4 of S, the sleep response is sent, outputs are de-energised and the entry can no longer be cancelled. -/
  | sleepPoint
  /-- SLEEP_WANT_DROP (R463): At lap 190 of S, both lanes drop WANT. -/
  | sleepWantDrop
  /-- ASLEEP_ENTRY (R463): At the end of lap 199 of S, the last image is sealed, fast clocks stop and DRAM enters self-refresh. -/
  | asleepEntry
  /-- AUTO_SLEEP_START (R465): After sleep_idle_s in READY with auto_sleep on, the controller starts a sleep entry by itself. -/
  | autoSleepStart
  /-- MODULE_RESTART_RESET (R472): At the end of the epoch after execution, both lanes enter reset and restart as at a cold start. -/
  | moduleRestartReset
  /-- REQUEST_TAKE (R79): At a lap start, the baton holder takes up to 4 requests in turn from the rings. -/
  | requestTake
  /-- TAKE_NOTICE (R79): The standby receives a take notice and acknowledges it in the same lap. -/
  | takeNotice
  /-- TAKE_NOTICE_TIMEOUT (R80): A take notice not acknowledged within 2 laps makes the holder execute alone and mark the standby out of step. -/
  | takeNoticeTimeout
  /-- EPOCH_BOUNDARY (R31): Every 200th lap boundary starts a new epoch and committed configuration takes effect. -/
  | epochBoundary
  /-- IMAGE_SEAL (R45): The image of the previous epoch is sealed in laps 0..3 and becomes readable at lap 4. -/
  | imageSeal
  /-- COMMIT_VALIDATION (R55): At lap 160, each lane validates every commit due at the next epoch, in the order taken. -/
  | commitValidation
  /-- COMMIT_DIGEST_EXCHANGE (R33): At lap 190, the lanes exchange the staging digest and apply the commits or fail them, and responses are sent. -/
  | commitDigestExchange
  /-- LANE_LINK_CRC_RECEIVE (R30): The standby compares the holder's command-block comparison CRCs with its own. -/
  | laneLinkCrcReceive
  /-- LANE_LINK_TIMEOUT (R360): No valid lane-link traffic for 4 laps takes the partner out of step. -/
  | laneLinkTimeout
  /-- CONTROL_SET_RECEIVE (R258): The baton holder's control set arrives at lap 2 and is used for control. -/
  | controlSetReceive
  /-- HOLDER_SAMPLE_RECEIVE (R258): The holder's corrected samples and legal time arrive over the lane link. -/
  | holderSampleReceive
  /-- ALLOCATION_ROUND (R206): In laps 8..140, each lane computes caps, wants and allocations over the pool tree. -/
  | allocationRound
  /-- ALLOC_DIGEST_EXCHANGE (R208): At lap 140, the lanes exchange and compare the allocation digest. -/
  | allocDigestExchange
  /-- TARGET_LOAD (R211): At lap 150, pack targets are loaded, allocations go to sessions and team reports are sent. -/
  | targetLoad
  /-- TEAM_EXCHANGE_DEADLINE (R409): At lap 4, a missing report or allocation counts as missing. -/
  | teamExchangeDeadline
  /-- MODEL_STEP (R223): In laps 4..8, each lane steps the thermal model of every cooled outlet and checks for flow loss. -/
  | modelStep
  /-- FORECAST (R225): In laps 8..140, the lanes compute the current forecast of due outlets. -/
  | forecast
  /-- METER_LANE_COMPARE (R272): Every second, the standby compares its energies with the holder's. -/
  | meterLaneCompare
  /-- INTERVAL_CLOSE (R290): Legal local time reaches an interval boundary, which closes the interval and writes its record. -/
  | intervalClose
  /-- BILLING_CLOSE (R293): A billing period closes at 00:00 on bill_close_day. -/
  | billingClose
  /-- TARIFF_EVALUATION (R295): At every minute of legal local time the tariff in force is evaluated. -/
  | tariffEvaluation
  /-- INTERVAL_ADOPTION (R306): The standby receives the holder's closed interval record and registers and adopts them. -/
  | intervalAdoption
  /-- DISPLAY_SCROLL (R315): After scroll_dwell_s, the legal display shows the next item. -/
  | displayScroll
  /-- SAFE_LOOP_IN (R340): SAFE LOOP IN drops and its hardware filter gates the output drivers. -/
  | safeLoopIn
  /-- TEAM_DEGRADED_EXPIRY (R334): The team degraded time reaches 300,000 ms, stopping all sessions and tripping function 1. -/
  | teamDegradedExpiry
  /-- TEAM_ELAPSED_RESET (R334): After 300 s of both nets delivering, team_elapsed_ms returns to 0. -/
  | teamElapsedReset
  /-- GRANT_EVALUATION (R353): At the first STROBE of a lap, the arbiter evaluates and may change its grant and baton number. -/
  | grantEvaluation
  /-- BEACON_SEND (R401): At lap 10 of every epoch, each controller sends its beacon on both nets. -/
  | beaconSend
  /-- BEACON_RETURN_CHECK (R397): At lap 60, a missing beacon return marks the net broken. -/
  | beaconReturnCheck
  /-- MEMBER_STATE_UPDATE (R403): At lap 20, member states move by beacon arrivals over 10 epochs. -/
  | memberStateUpdate
  /-- KEEPER_TIMEOUT (R469): The keeper has not raised WANT 3.0 s after the wake, and the other lane raises WANT. -/
  | keeperTimeout
deriving DecidableEq, Repr

end Sys2Proof
end

