-- ==== Sys2Proof/Decode.lean ====
section
/-!
DEFINITION. Decoding of table words. The command table gives no row any bits: a host command arrives in a request entry
with its code (R75, R83), and every other row is an event of the hardware. So no word spells a command.
-/

namespace Sys2Proof

/-- The command that the low `nbits` bits of `w` spell by the command table: none, since no row of the table has bits. -/
def decodeTableWord (_nbits _w : Nat) : Option Instr := none

end Sys2Proof
end

