-- ==== Sys2Proof/Machine/Crypto.lean ====
section
/-!
DEFINITION. The standard functions that the spec names and does not restate: AES-256-GCM (R71, R381, R389, R402), SHA-384 (R391) and
HKDF-SHA-384 (R389), as FIPS 197, SP 800-38D, FIPS 180-4, RFC 2104 and RFC 5869 give them (PRESUMED, log entry 5). Bytes are numbers
below 256.
-/

namespace Sys2Proof.Machine

/-- The value of big-endian bytes. -/
def ofBe (bs : List Nat) : Nat := bs.foldl (fun a b => a * 256 + b) 0

/-- A number in `n` bytes, most significant first. -/
def beBytes (n v : Nat) : List Nat := (leBytes n v).reverse

/-- Two byte strings added bit by bit, as far as the shorter goes. -/
def xorBytes (a b : List Nat) : List Nat := List.zipWith (fun x y => x ^^^ y) a b

/-- A byte string cut into blocks of `n`, the last one shorter; `fuel` at least its number of blocks. -/
def blocksOf (n : Nat) : Nat → List Nat → List (List Nat)
  | 0, _ => []
  | fuel + 1, bs => if bs.isEmpty then [] else bs.take n :: blocksOf n fuel (bs.drop n)

/-! ### AES-256 (FIPS 197) -/

/-- The substitution table, 32 entries to a number, the first in the lowest byte. -/
def sboxRows : List Nat := [
  0xC072A49CAFA2D4ADF04759FA7DC982CA76ABD7FE2B670130C56F6BF27B777C63,
  0x75B227EBE28012079A059618C323C7041531D871F1E5A534CCF73F362693FDB7,
  0xCF584C4A39BECB6A5BB1FC20ED00D153842FE329B3D63B52A05A6E1B1A2C8309,
  0xD2F3FF1021DAB6BCF5389D928F40A351A89F3C507F02F94585334D43FBAAEFD0,
  0xDB0B5EDE14B8EE4688902A22DC4F816073195D643D7EA7C41744975FEC130CCD,
  0x08AE7A65EAF4566CA94ED58D6D37C8E779E4959162ACD3C25C2406490A3A32E0,
  0x9E1DC186B95735610EF6034866B53E708A8BBD4B1F74DDE8C6B4A61C2E2578BA,
  0x16BB54B00F2D99416842E6BF0D89A18CDF2855CEE9871E9B948ED9691198F8E1]

/-- The substitution of one byte. -/
def subByte (b : Nat) : Nat := (sboxRows.getD (b / 32) 0 >>> (8 * (b % 32))) % 256

/-- The substitution of the four bytes of a word. -/
def subWord (w : Nat) : Nat := ofBe ((beBytes 4 w).map subByte)

/-- A byte doubled in the field of AES. -/
def xtime (b : Nat) : Nat := if b < 128 then 2 * b else (2 * b) ^^^ 0x11B

/-- The round constant of number `k`, from 1. -/
def rcon (k : Nat) : Nat := Nat.repeat xtime (k - 1) 1

/-- The key schedule continued by `fuel` words; the words so far come newest first. -/
def keyScheduleGo : Nat → List Nat → List Nat
  | 0, ws => ws
  | fuel + 1, ws =>
    let i := ws.length
    let last := ws.getD 0 0
    let t := if i % 8 = 0 then subWord (last % 2 ^ 24 * 256 + last / 2 ^ 24) ^^^ (rcon (i / 8) * 2 ^ 24)
      else if i % 8 = 4 then subWord last else last
    keyScheduleGo fuel ((ws.getD 7 0 ^^^ t) :: ws)

/-- The 60 words of the key schedule of a 256-bit key; a shorter string is followed by zeros. -/
def keySchedule (key : List Nat) : List Nat :=
  (keyScheduleGo 52 (((List.range 8).map (fun i => ofBe ((List.range 4).map (fun j => key.getD (4 * i + j) 0)))).reverse)).reverse

/-- The round key of round `r`, 16 bytes. -/
def roundKey (ws : List Nat) (r : Nat) : List Nat := ((ws.drop (4 * r)).take 4).flatMap (beBytes 4)

/-- SubBytes and ShiftRows of a state held column by column. -/
def subShift (st : List Nat) : List Nat := (List.range 16).map (fun k => subByte (st.getD ((k + 4 * (k % 4)) % 16) 0))

/-- MixColumns of a state. -/
def mixColumns (st : List Nat) : List Nat :=
  (List.range 16).map (fun k =>
    let a := fun (j : Nat) => st.getD (k / 4 * 4 + (k + j) % 4) 0
    xtime (a 0) ^^^ (xtime (a 1) ^^^ a 1) ^^^ a 2 ^^^ a 3)

/-- The cipher of one block of 16 bytes under a key schedule. -/
def aesBlock (ws : List Nat) (block : List Nat) : List Nat :=
  let st := (List.range' 1 13).foldl (fun st r => xorBytes (mixColumns (subShift st)) (roundKey ws r)) (xorBytes block (roundKey ws 0))
  xorBytes (subShift st) (roundKey ws 14)

/-! ### Galois/Counter Mode with a 96-bit nonce and a 128-bit tag (SP 800-38D) -/

/-- The product of two blocks, over the bits of the first from the most significant one. -/
def gfMulGo (x : Nat) : Nat → Nat → Nat → Nat
  | 0, _, z => z
  | n + 1, v, z =>
    gfMulGo x n (if v % 2 = 1 then (v / 2) ^^^ (0xE1 * 2 ^ 120) else v / 2) (if (x >>> n) % 2 = 1 then z ^^^ v else z)

/-- GHASH of blocks of at most 16 bytes, each followed by zeros. -/
def ghash (h : Nat) (bs : List (List Nat)) : Nat :=
  bs.foldl (fun y b => gfMulGo (y ^^^ ofBe ((List.range 16).map (fun i => b.getD i 0))) 128 h 0) 0

/-- A text under the key stream that follows the nonce; it turns plaintext into ciphertext and back. -/
def gcmStream (ws nonce text : List Nat) : List Nat :=
  (blocksOf 16 text.length text).zipIdx.flatMap (fun e => xorBytes e.1 (aesBlock ws (nonce ++ beBytes 4 (e.2 + 2))))

/-- The 16 bytes of the tag over authenticated data and a ciphertext. -/
def gcmTag (ws nonce aad ct : List Nat) : List Nat :=
  let y := ghash (ofBe (aesBlock ws (List.replicate 16 0))) (blocksOf 16 aad.length aad ++ blocksOf 16 ct.length ct
    ++ [beBytes 8 (8 * aad.length) ++ beBytes 8 (8 * ct.length)])
  xorBytes (beBytes 16 y) (aesBlock ws (nonce ++ [0, 0, 0, 1]))

/-- AES-256-GCM: the ciphertext of a text and its tag. -/
def gcmSeal (key nonce aad text : List Nat) : List Nat :=
  let ws := keySchedule key
  let ct := gcmStream ws nonce text
  ct ++ gcmTag ws nonce aad ct

/-- AES-256-GCM opened: the text, where the tag verifies. -/
def gcmOpen (key nonce aad ct tag : List Nat) : Option (List Nat) :=
  let ws := keySchedule key
  if gcmTag ws nonce aad ct = tag then some (gcmStream ws nonce ct) else none

/-! ### SHA-384 (FIPS 180-4), HMAC and HKDF (RFC 2104, RFC 5869) -/

/-- The round constants of SHA-384, first half. -/
def shaK1 : List Nat := [
  0x428A2F98D728AE22, 0x7137449123EF65CD, 0xB5C0FBCFEC4D3B2F, 0xE9B5DBA58189DBBC, 0x3956C25BF348B538,
  0x59F111F1B605D019, 0x923F82A4AF194F9B, 0xAB1C5ED5DA6D8118, 0xD807AA98A3030242, 0x12835B0145706FBE,
  0x243185BE4EE4B28C, 0x550C7DC3D5FFB4E2, 0x72BE5D74F27B896F, 0x80DEB1FE3B1696B1, 0x9BDC06A725C71235,
  0xC19BF174CF692694, 0xE49B69C19EF14AD2, 0xEFBE4786384F25E3, 0x0FC19DC68B8CD5B5, 0x240CA1CC77AC9C65,
  0x2DE92C6F592B0275, 0x4A7484AA6EA6E483, 0x5CB0A9DCBD41FBD4, 0x76F988DA831153B5, 0x983E5152EE66DFAB,
  0xA831C66D2DB43210, 0xB00327C898FB213F, 0xBF597FC7BEEF0EE4, 0xC6E00BF33DA88FC2, 0xD5A79147930AA725,
  0x06CA6351E003826F, 0x142929670A0E6E70, 0x27B70A8546D22FFC, 0x2E1B21385C26C926, 0x4D2C6DFC5AC42AED,
  0x53380D139D95B3DF, 0x650A73548BAF63DE, 0x766A0ABB3C77B2A8, 0x81C2C92E47EDAEE6, 0x92722C851482353B]

/-- The round constants of SHA-384, second half. -/
def shaK2 : List Nat := [
  0xA2BFE8A14CF10364, 0xA81A664BBC423001, 0xC24B8B70D0F89791, 0xC76C51A30654BE30, 0xD192E819D6EF5218,
  0xD69906245565A910, 0xF40E35855771202A, 0x106AA07032BBD1B8, 0x19A4C116B8D2D0C8, 0x1E376C085141AB53,
  0x2748774CDF8EEB99, 0x34B0BCB5E19B48A8, 0x391C0CB3C5C95A63, 0x4ED8AA4AE3418ACB, 0x5B9CCA4F7763E373,
  0x682E6FF3D6B2B8A3, 0x748F82EE5DEFB2FC, 0x78A5636F43172F60, 0x84C87814A1F0AB72, 0x8CC702081A6439EC,
  0x90BEFFFA23631E28, 0xA4506CEBDE82BDE9, 0xBEF9A3F7B2C67915, 0xC67178F2E372532B, 0xCA273ECEEA26619C,
  0xD186B8C721C0C207, 0xEADA7DD6CDE0EB1E, 0xF57D4F7FEE6ED178, 0x06F067AA72176FBA, 0x0A637DC5A2C898A6,
  0x113F9804BEF90DAE, 0x1B710B35131C471B, 0x28DB77F523047D84, 0x32CAAB7B40C72493, 0x3C9EBE0A15C9BEBC,
  0x431D67C49C100D4C, 0x4CC5D4BECB3E42B6, 0x597F299CFC657E2A, 0x5FCB6FAB3AD6FAEC, 0x6C44198C4A475817]

/-- The initial hash value of SHA-384. -/
def shaInit : List Nat := [
  0xCBBB9D5DC1059ED8, 0x629A292A367CD507, 0x9159015A3070DD17, 0x152FECD8F70E5939, 0x67332667FFC00B31, 0x8EB44A8768581511,
  0xDB0C2E0D64F98FA7, 0x47B5481DBEFA4FA4]

/-- A 64-bit word rotated right. -/
def rotr64 (n w : Nat) : Nat := (w / 2 ^ n) ||| (w % 2 ^ n * 2 ^ (64 - n))

/-- The message schedule: the next `fuel` words after a window of 16, which comes oldest first. -/
def shaSchedule : Nat → List Nat → List Nat
  | 0, _ => []
  | fuel + 1, w =>
    let g := fun (i : Nat) => w.getD i 0
    let s0 := rotr64 1 (g 1) ^^^ rotr64 8 (g 1) ^^^ (g 1 / 2 ^ 7)
    let s1 := rotr64 19 (g 14) ^^^ rotr64 61 (g 14) ^^^ (g 14 / 2 ^ 6)
    g 0 :: shaSchedule fuel (w.drop 1 ++ [(s1 + g 9 + s0 + g 0) % 2 ^ 64])

/-- One round on the eight working words. -/
def shaRound (st : List Nat) (kw : Nat) : List Nat :=
  let g := fun (i : Nat) => st.getD i 0
  let e := g 4
  let a := g 0
  let t1 := g 7 + (rotr64 14 e ^^^ rotr64 18 e ^^^ rotr64 41 e) + ((e &&& g 5) ^^^ ((2 ^ 64 - 1 - e) &&& g 6)) + kw
  let t2 := (rotr64 28 a ^^^ rotr64 34 a ^^^ rotr64 39 a) + ((a &&& g 1) ^^^ (a &&& g 2) ^^^ (g 1 &&& g 2))
  [(t1 + t2) % 2 ^ 64, a, g 1, g 2, (g 3 + t1) % 2 ^ 64, e, g 5, g 6]

/-- One block of 128 bytes taken into the hash value. -/
def shaBlock (h : List Nat) (block : List Nat) : List Nat :=
  let w := shaSchedule 80 ((List.range 16).map (fun i => ofBe ((block.drop (8 * i)).take 8)))
  let st := (List.zipWith (fun k x => k + x) (shaK1 ++ shaK2) w).foldl shaRound h
  List.zipWith (fun x y => (x + y) % 2 ^ 64) h st

/-- SHA-384 of a byte string, 48 bytes. -/
def sha384 (bs : List Nat) : List Nat :=
  let m := bs ++ [0x80] ++ List.replicate ((239 - bs.length % 128) % 128) 0 ++ beBytes 16 (8 * bs.length)
  (((blocksOf 128 m.length m).foldl shaBlock shaInit).take 6).flatMap (beBytes 8)

/-- HMAC-SHA-384 under a key of at most 128 bytes. -/
def hmac384 (key text : List Nat) : List Nat :=
  let pad := fun (b : Nat) => (List.range 128).map (fun i => key.getD i 0 ^^^ b)
  sha384 (pad 0x5C ++ sha384 (pad 0x36 ++ text))

/-- HKDF-SHA-384 without a salt, up to 48 bytes of output. -/
def hkdf384 (secret info : List Nat) (n : Nat) : List Nat :=
  (hmac384 (hmac384 (List.replicate 48 0) secret) (info ++ [1])).take n

end Sys2Proof.Machine
end

