-- ==== Sys2Proof/Config.lean ====
section
/-!
DEFINITION. What the spec leaves open: constants without a body, so that no statement can rest on a value of one
(log entry 12). Where the open value may differ from one use to the next, `freeValue` is applied to a counter of the
state; where it depends on data alone, the constant is a function of that data.
-/

namespace Sys2Proof.Config

/-- An open value drawn fresh: applied to the state's counter of draws (log entry 12). -/
opaque freeValue : Nat → Nat

/-- The detail value of an event whose codes the spec names and does not number (log entry 13). -/
opaque eventCause : Nat → Int

/-- The signature r and s that a lane's metrology signer makes over the bytes of a record (R309, log entry 12). -/
opaque signature : Nat → List (Nat × Int) → Nat × Nat

/-- The public key bytes that belong to a signing key's slot and version (R310, log entry 12). -/
opaque publicKey : Nat → Nat → Nat

/-- The tap mask of the maximum-length sequence of a degree, which the maker's table gives and the spec does not (R439, log
entry 12). -/
opaque prbsTaps : Nat → Nat

/-- The identity, `fw_compat` and `fw_compat_min` that an image's bytes carry; the spec does not say where (R370, log entry
12). -/
opaque imageNumbers : List Nat → Nat × Nat × Nat

end Sys2Proof.Config
end

