-- ==== Sys2Proof/Machine/Maps.lean ====
section
/-!
DEFINITION. Sparse stores keyed by number, in one canonical form: keys strictly rising and no entry equal to
what an unlisted key reads as. Ledger values and the records of phases, packs, outlets and the other numbered
units are held in such stores.
-/

namespace Sys2Proof.Machine

/-- A sparse store from a unit number or ledger address to a value. -/
abbrev UMap (α : Type) := List (Nat × α)

/-- What the store holds under key `k`; `d k` where nothing is listed. -/
def UMap.get {α : Type} (d : Nat → α) : UMap α → Nat → α
  | [], k => d k
  | (j, x) :: t, k => if j = k then x else UMap.get d t k

/-- The store without any entry for key `k`. -/
def UMap.erase {α : Type} : UMap α → Nat → UMap α
  | [], _ => []
  | (j, x) :: t, k => if j = k then UMap.erase t k else (j, x) :: UMap.erase t k

/-- The entry `(k, v)` placed before the first greater key. -/
def UMap.insert {α : Type} (k : Nat) (v : α) : UMap α → UMap α
  | [] => [(k, v)]
  | (j, x) :: t => if k < j then (k, v) :: (j, x) :: t else (j, x) :: UMap.insert k v t

/-- The store with `v` under `k`; a value equal to the unlisted one removes the entry. -/
def UMap.put {α : Type} [DecidableEq α] (d : Nat → α) (m : UMap α) (k : Nat) (v : α) : UMap α :=
  if v = d k then m.erase k else UMap.insert k v (m.erase k)

/-- Keys strictly rise from above `lo` on (`none`: no lower bound). -/
def UMap.rising {α : Type} : Option Nat → UMap α → Bool
  | _, [] => true
  | lo, (k, _) :: t => (match lo with | none => true | some b => decide (b < k)) && UMap.rising (some k) t

/-- The canonical form: strictly rising keys, and no entry equal to the unlisted value. -/
def UMap.wf {α : Type} [DecidableEq α] (d : Nat → α) (m : UMap α) : Bool :=
  UMap.rising none m && m.all (fun e => decide (e.2 ≠ d e.1))

/-- The keys listed. -/
def UMap.keys {α : Type} (m : UMap α) : List Nat := m.map Prod.fst

/-- Two rising key lists merged without repeats. -/
def mergeKeys : List Nat → List Nat → List Nat
  | xs, ys => xs ++ ys.filter (fun y => !(xs.contains y))

/-- An element placed into a list before the first one that it may precede. -/
def insertBy {α : Type} (before : α → α → Bool) (x : α) : List α → List α
  | [] => [x]
  | y :: t => if before x y then x :: y :: t else y :: insertBy before x t

/-- A list sorted by an order; elements that the order does not tell apart keep their places. -/
def sortBy {α : Type} (before : α → α → Bool) : List α → List α
  | [] => []
  | x :: t => insertBy before x (sortBy before t)

end Sys2Proof.Machine
end

