-- ==== Sys2Proof/Machine/Points.lean ====
section
/-!
DEFINITION. The points of the state ledger: for every field of every unit its address, type, access, range, default
and capture, transcribed from the point tables of the spec (R43, R91, R113, R150, R151, R164, R195, R196, R199, R200,
R217, R229, R254, R281 to R284, R289, R294, R318, R349, R350, R367, R379, R394, R426, R435, R454, R475, R490, R530).
A point of domain 9 is addressed here with index bit 15 equal to 0; the lane is chosen where an address enters.
Addresses are written domain × 65,536 + index (R9, R42).
-/

namespace Sys2Proof.Machine

/-- Access codes of R13. No point of the tables is W1C. -/
inductive Access where
  | ro | rw | rs | wo
deriving DecidableEq, Repr

/-- One field of the point tables: its first address, the strides of its unit and array indices, its type code (R40),
access, least and greatest value, further single values allowed, the value it reads unlisted, and capture (R39). -/
structure PointRow where
  base : Nat
  dims : List (Nat × Nat)
  type : Nat
  acc : Access
  lo : Int
  hi : Int
  extra : List Int
  dflt : Int
  cap : Nat
deriving DecidableEq, Repr

/-- Whether the offset lies on the grid that the strides span. -/
def dimsMatch : List (Nat × Nat) → Nat → Bool
  | [], off => off == 0
  | (n, s) :: ds, off => decide (off / s < n) && dimsMatch ds (off % s)

/-- Whether address `a` is one of the row's points. -/
def PointRow.covers (r : PointRow) (a : Nat) : Bool := decide (r.base ≤ a) && dimsMatch r.dims (a - r.base)

/-- Whether `v` lies in the row's range. -/
def PointRow.inRange (r : PointRow) (v : Int) : Bool :=
  (decide (r.lo ≤ v) && decide (v ≤ r.hi)) || r.extra.contains v

namespace D0

/-- R4 `capability`. -/
def capability : Nat := 0x0
/-- R43 `serial_lo`. -/
def serialLo : Nat := 0x1
/-- R43 `serial_hi`. -/
def serialHi : Nat := 0x2
/-- R43 `chassis_rev`. -/
def chassisRev : Nat := 0x3
/-- R43 `epoch`. -/
def epoch : Nat := 0x8
/-- R43 `baton_number`. -/
def batonNumber : Nat := 0x9
/-- R43 `epoch_lap`. -/
def epochLap : Nat := 0xA
/-- R43 `sleep_discards`. -/
def sleepDiscards : Nat := 0xB
/-- R43 `fw_id`. -/
def fwId (i : Nat) : Nat := 0x10 + i
/-- The field rows of this group, part 1. -/
def rows1 : List PointRow := [
  ⟨0x0, [], 8, .ro, 0, 0xFFFFFFFF, [], 0, 0⟩,
  ⟨0x1, [], 3, .ro, 0, 0xFFFFFFFFFFFFFFFF, [], 0, 0⟩,
  ⟨0x2, [], 3, .ro, 0, 0xFFFFFFFFFFFFFFFF, [], 0, 0⟩,
  ⟨0x3, [], 1, .ro, 0, 0xFFFFFFFF, [], 0, 0⟩,
  ⟨0x8, [], 3, .ro, 0, 0xFFFFFFFFFFFFFFFF, [], 0, 0⟩,
  ⟨0x9, [], 1, .ro, 0, 0xFFFFFFFF, [], 0, 0⟩,
  ⟨0xA, [], 3, .ro, 0, 0xFFFFFFFFFFFFFFFF, [], 0, 0⟩,
  ⟨0xB, [], 10, .ro, 0, 0xFFFFFFFFFFFFFFFF, [], 0, 3⟩,
  ⟨0x10, [(8, 1)], 3, .ro, 0, 0xFFFFFFFFFFFFFFFF, [], 0, 0⟩]
/-- The field rows of this group. -/
def rows : List PointRow := rows1

end D0

namespace Ph

/-- R195 `i_meas`. -/
def iMeas (u : Nat) : Nat := 0x10000 + 128 * u
/-- R195 `v_out`. -/
def vOut (u : Nat) : Nat := 0x10001 + 128 * u
/-- R195 `v_dc`. -/
def vDc (u : Nat) : Nat := 0x10002 + 128 * u
/-- R195 `pack`. -/
def pack (u : Nat) : Nat := 0x10010 + 128 * u
/-- R195 `phase_enable`. -/
def phaseEnable (u : Nat) : Nat := 0x10011 + 128 * u
/-- R195 `i_rated`. -/
def iRated (u : Nat) : Nat := 0x10012 + 128 * u
/-- R195 `l_out_nh`. -/
def lOutNh (u : Nat) : Nat := 0x10013 + 128 * u
/-- R195 `member_state`. -/
def memberState (u : Nat) : Nat := 0x10014 + 128 * u
/-- R195 `weight`. -/
def weight (u : Nat) : Nat := 0x10015 + 128 * u
/-- R195 `share`. -/
def share (u : Nat) : Nat := 0x10016 + 128 * u
/-- R195 `position`. -/
def position (u : Nat) : Nat := 0x10017 + 128 * u
/-- R195 `angle`. -/
def angle (u : Nat) : Nat := 0x10018 + 128 * u
/-- R195 `removal_cause`. -/
def removalCause (u : Nat) : Nat := 0x10019 + 128 * u
/-- R195 `removals`. -/
def removals (u : Nat) : Nat := 0x1001A + 128 * u
/-- R195 `residual_sum`. -/
def residualSum (u : Nat) : Nat := 0x1001B + 128 * u
/-- R151 `rearm_mode`. -/
def rearmMode (u : Nat) : Nat := 0x10040 + 128 * u
/-- R151 `rearm_delay_laps`. -/
def rearmDelayLaps (u : Nat) : Nat := 0x10041 + 128 * u
/-- R151 `rearm_limit`. -/
def rearmLimit (u : Nat) : Nat := 0x10042 + 128 * u
/-- R151 `rearm_window_ms`. -/
def rearmWindowMs (u : Nat) : Nat := 0x10043 + 128 * u
/-- R151 `arm_state`. -/
def armState (u : Nat) : Nat := 0x10044 + 128 * u
/-- R151 `trips`. -/
def trips (u : Nat) : Nat := 0x10045 + 128 * u
/-- R151 `false_starts`. -/
def falseStarts (u : Nat) : Nat := 0x10046 + 128 * u
/-- R151 `rearm`. -/
def rearm (u : Nat) : Nat := 0x10047 + 128 * u
/-- R151 `test_gate`. -/
def testGate (u : Nat) : Nat := 0x10048 + 128 * u
/-- R151 `matrix_state`. -/
def matrixState (u : Nat) : Nat := 0x10049 + 128 * u
/-- R151 `refreshes_forced`. -/
def refreshesForced (u : Nat) : Nat := 0x1004A + 128 * u
/-- R151 `t_junction`. -/
def tJunction (u : Nat) : Nat := 0x1004B + 128 * u
/-- The field rows of this group, part 1. -/
def rows1 : List PointRow := [
  ⟨0x10000, [(512, 128)], 5, .ro, (-0x80000000), 0x7FFFFFFF, [], 0, 1⟩,
  ⟨0x10001, [(512, 128)], 5, .ro, (-0x80000000), 0x7FFFFFFF, [], 0, 1⟩,
  ⟨0x10002, [(512, 128)], 5, .ro, (-0x80000000), 0x7FFFFFFF, [], 0, 1⟩,
  ⟨0x10010, [(512, 128)], 1, .rs, 0, 63, [255], 255, 4⟩,
  ⟨0x10011, [(512, 128)], 7, .rs, 0, 1, [], 1, 4⟩,
  ⟨0x10012, [(512, 128)], 1, .rs, 1, 0x186A0, [], 125, 4⟩,
  ⟨0x10013, [(512, 128)], 1, .rs, 1000, 0x989680, [], 0x30D40, 4⟩,
  ⟨0x10014, [(512, 128)], 7, .ro, 0, 0xFFFFFFFF, [], 0, 0⟩,
  ⟨0x10015, [(512, 128)], 1, .ro, 0, 0xFFFFFFFF, [], 0, 0⟩,
  ⟨0x10016, [(512, 128)], 6, .ro, (-0x80000000), 0x7FFFFFFF, [], 0, 0⟩,
  ⟨0x10017, [(512, 128)], 1, .ro, 0, 0xFFFFFFFF, [], 0, 0⟩,
  ⟨0x10018, [(512, 128)], 1, .ro, 0, 0xFFFFFFFF, [], 0, 0⟩,
  ⟨0x10019, [(512, 128)], 7, .ro, 0, 0xFFFFFFFF, [], 0, 0⟩,
  ⟨0x1001A, [(512, 128)], 10, .ro, 0, 0xFFFFFFFFFFFFFFFF, [], 0, 3⟩,
  ⟨0x1001B, [(512, 128)], 5, .ro, (-0x80000000), 0x7FFFFFFF, [], 0, 0⟩,
  ⟨0x10040, [(512, 128)], 7, .rs, 0, 1, [], 1, 4⟩,
  ⟨0x10041, [(512, 128)], 1, .rs, 200, 0x30D40, [], 4000, 4⟩,
  ⟨0x10042, [(512, 128)], 1, .rs, 1, 15, [], 3, 4⟩,
  ⟨0x10043, [(512, 128)], 1, .rs, 1000, 0x927C0, [], 10000, 4⟩,
  ⟨0x10044, [(512, 128)], 7, .ro, 0, 0xFFFFFFFF, [], 0, 0⟩,
  ⟨0x10045, [(512, 128)], 10, .ro, 0, 0xFFFFFFFFFFFFFFFF, [], 0, 3⟩,
  ⟨0x10046, [(512, 128)], 10, .ro, 0, 0xFFFFFFFFFFFFFFFF, [], 0, 3⟩,
  ⟨0x10047, [(512, 128)], 1, .wo, 1, 1, [], 0, 0⟩,
  ⟨0x10048, [(512, 128)], 1, .wo, 0, 0xFFFFFFFF, [], 0, 0⟩]
/-- The field rows of this group, part 2. -/
def rows2 : List PointRow := [
  ⟨0x10049, [(512, 128)], 1, .ro, 0, 0xFFFFFFFF, [], 0, 0⟩,
  ⟨0x1004A, [(512, 128)], 10, .ro, 0, 0xFFFFFFFFFFFFFFFF, [], 0, 3⟩,
  ⟨0x1004B, [(512, 128)], 2, .ro, (-0x80000000), 0x7FFFFFFF, [], 0, 0⟩]
/-- The field rows of this group. -/
def rows : List PointRow := rows1 ++ rows2

end Ph

namespace Pk

/-- R196 `outlet`. -/
def outlet (u : Nat) : Nat := 0x20000 + 1024 * u
/-- R196 `angle_base`. -/
def angleBase (u : Nat) : Nat := 0x20001 + 1024 * u
/-- R196 `join_log2`. -/
def joinLog2 (u : Nat) : Nat := 0x20002 + 1024 * u
/-- R196 `leave_log2`. -/
def leaveLog2 (u : Nat) : Nat := 0x20003 + 1024 * u
/-- R196 `min_phases`. -/
def minPhases (u : Nat) : Nat := 0x20004 + 1024 * u
/-- R196 `overload_pct`. -/
def overloadPct (u : Nat) : Nat := 0x20005 + 1024 * u
/-- R196 `sense_thr`. -/
def senseThr (u : Nat) : Nat := 0x20006 + 1024 * u
/-- R196 `limit_err`. -/
def limitErr (u : Nat) : Nat := 0x20007 + 1024 * u
/-- R196 `limit_laps`. -/
def limitLaps (u : Nat) : Nat := 0x20008 + 1024 * u
/-- R196 `tj_derate`. -/
def tjDerate (u : Nat) : Nat := 0x20009 + 1024 * u
/-- R196 `tj_max`. -/
def tjMax (u : Nat) : Nat := 0x2000A + 1024 * u
/-- R196 `matrix_timeout_ms`. -/
def matrixTimeoutMs (u : Nat) : Nat := 0x2000B + 1024 * u
/-- R196 `stop_laps`. -/
def stopLaps (u : Nat) : Nat := 0x2000C + 1024 * u
/-- R196 `pack_state`. -/
def packState (u : Nat) : Nat := 0x20010 + 1024 * u
/-- R196 `n_cfg`. -/
def nCfg (u : Nat) : Nat := 0x20011 + 1024 * u
/-- R196 `n_active`. -/
def nActive (u : Nat) : Nat := 0x20012 + 1024 * u
/-- R196 `weight_sum`. -/
def weightSum (u : Nat) : Nat := 0x20013 + 1024 * u
/-- R196 `pack_i_fs`. -/
def packIFs (u : Nat) : Nat := 0x20014 + 1024 * u
/-- R196 `capacity_a`. -/
def capacityA (u : Nat) : Nat := 0x20015 + 1024 * u
/-- R196 `overload_a`. -/
def overloadA (u : Nat) : Nat := 0x20016 + 1024 * u
/-- R196 `pack_i`. -/
def packI (u : Nat) : Nat := 0x20017 + 1024 * u
/-- R196 `pack_v`. -/
def packV (u : Nat) : Nat := 0x20018 + 1024 * u
/-- R196 `target`. -/
def target (u : Nat) : Nat := 0x20019 + 1024 * u
/-- R196 `rotation`. -/
def rotation (u : Nat) : Nat := 0x2001A + 1024 * u
/-- R196 `removals`. -/
def removals (u : Nat) : Nat := 0x2001B + 1024 * u
/-- R196 `share_sat`. -/
def shareSat (u : Nat) : Nat := 0x2001C + 1024 * u
/-- R196 `target_clamps`. -/
def targetClamps (u : Nat) : Nat := 0x2001D + 1024 * u
/-- R196 `start_fails`. -/
def startFails (u : Nat) : Nat := 0x2001E + 1024 * u
/-- R196 `member`. -/
def member (u i : Nat) : Nat := 0x20040 + 1024 * u + i
/-- The field rows of this group, part 1. -/
def rows1 : List PointRow := [
  ⟨0x20000, [(64, 1024)], 1, .rs, 0, 31, [255], 255, 4⟩,
  ⟨0x20001, [(64, 1024)], 1, .rs, 0, 65535, [], 0, 4⟩,
  ⟨0x20002, [(64, 1024)], 1, .rs, 6, 14, [], 11, 4⟩,
  ⟨0x20003, [(64, 1024)], 1, .rs, 6, 14, [], 11, 4⟩,
  ⟨0x20004, [(64, 1024)], 1, .rs, 1, 48, [], 1, 4⟩,
  ⟨0x20005, [(64, 1024)], 1, .rs, 100, 150, [], 120, 4⟩,
  ⟨0x20006, [(64, 1024)], 5, .rs, 0x6666666, 0x40000000, [], 0x13333333, 4⟩,
  ⟨0x20007, [(64, 1024)], 5, .rs, 0x28F5C29, 0x40000000, [], 0xCCCCCCD, 4⟩,
  ⟨0x20008, [(64, 1024)], 1, .rs, 8, 1000, [], 40, 4⟩,
  ⟨0x20009, [(64, 1024)], 2, .rs, (-0x80000000), 0x7FFFFFFF, [], 0x1ADB0, 4⟩,
  ⟨0x2000A, [(64, 1024)], 2, .rs, (-0x80000000), 0x7FFFFFFF, [], 0x1E848, 4⟩,
  ⟨0x2000B, [(64, 1024)], 1, .rs, 55, 1000, [], 60, 4⟩,
  ⟨0x2000C, [(64, 1024)], 1, .rs, 50, 20000, [], 200, 4⟩,
  ⟨0x20010, [(64, 1024)], 7, .ro, 0, 0xFFFFFFFF, [], 0, 0⟩,
  ⟨0x20011, [(64, 1024)], 1, .ro, 0, 0xFFFFFFFF, [], 0, 0⟩,
  ⟨0x20012, [(64, 1024)], 1, .ro, 0, 0xFFFFFFFF, [], 0, 0⟩,
  ⟨0x20013, [(64, 1024)], 1, .ro, 0, 0xFFFFFFFF, [], 0, 0⟩,
  ⟨0x20014, [(64, 1024)], 1, .ro, 0, 0xFFFFFFFF, [], 0, 0⟩,
  ⟨0x20015, [(64, 1024)], 1, .ro, 0, 0xFFFFFFFF, [], 0, 0⟩,
  ⟨0x20016, [(64, 1024)], 1, .ro, 0, 0xFFFFFFFF, [], 0, 0⟩,
  ⟨0x20017, [(64, 1024)], 5, .ro, (-0x80000000), 0x7FFFFFFF, [], 0, 1⟩,
  ⟨0x20018, [(64, 1024)], 5, .ro, (-0x80000000), 0x7FFFFFFF, [], 0, 1⟩,
  ⟨0x20019, [(64, 1024)], 5, .ro, (-0x80000000), 0x7FFFFFFF, [], 0, 0⟩,
  ⟨0x2001A, [(64, 1024)], 1, .ro, 0, 0xFFFFFFFF, [], 0, 0⟩]
/-- The field rows of this group, part 2. -/
def rows2 : List PointRow := [
  ⟨0x2001B, [(64, 1024)], 10, .ro, 0, 0xFFFFFFFFFFFFFFFF, [], 0, 3⟩,
  ⟨0x2001C, [(64, 1024)], 10, .ro, 0, 0xFFFFFFFFFFFFFFFF, [], 0, 3⟩,
  ⟨0x2001D, [(64, 1024)], 10, .ro, 0, 0xFFFFFFFFFFFFFFFF, [], 0, 3⟩,
  ⟨0x2001E, [(64, 1024)], 10, .ro, 0, 0xFFFFFFFFFFFFFFFF, [], 0, 3⟩,
  ⟨0x20040, [(64, 1024), (48, 1)], 1, .ro, 0, 0xFFFFFFFF, [], 0xFFFFFFFF, 0⟩]
/-- The field rows of this group. -/
def rows : List PointRow := rows1 ++ rows2

end Pk

namespace Out

/-- R254 `outlet_enable`. -/
def outletEnable (u : Nat) : Nat := 0x30000 + 2048 * u
/-- R254 `i_rating_a`. -/
def iRatingA (u : Nat) : Nat := 0x30001 + 2048 * u
/-- R254 `v_max_mv`. -/
def vMaxMv (u : Nat) : Nat := 0x30002 + 2048 * u
/-- R254 `id_mode`. -/
def idMode (u : Nat) : Nat := 0x30003 + 2048 * u
/-- R254 `auth_timeout_s`. -/
def authTimeoutS (u : Nat) : Nat := 0x30004 + 2048 * u
/-- R254 `precharge_rate_v_s`. -/
def prechargeRateVS (u : Nat) : Nat := 0x30005 + 2048 * u
/-- R254 `precharge_tol_mv`. -/
def prechargeTolMv (u : Nat) : Nat := 0x30006 + 2048 * u
/-- R254 `precharge_timeout_ms`. -/
def prechargeTimeoutMs (u : Nat) : Nat := 0x30007 + 2048 * u
/-- R254 `iso_hold_ms`. -/
def isoHoldMs (u : Nat) : Nat := 0x30008 + 2048 * u
/-- R254 `ev_loop_timeout_ms`. -/
def evLoopTimeoutMs (u : Nat) : Nat := 0x30009 + 2048 * u
/-- R254 `ev_open_ms`. -/
def evOpenMs (u : Nat) : Nat := 0x3000A + 2048 * u
/-- R254 `latch_ms`. -/
def latchMs (u : Nat) : Nat := 0x3000B + 2048 * u
/-- R254 `contactor_ms`. -/
def contactorMs (u : Nat) : Nat := 0x3000C + 2048 * u
/-- R254 `fc_notify_a`. -/
def fcNotifyA (u : Nat) : Nat := 0x3000D + 2048 * u
/-- R254 `prox_thr0_mv`. -/
def proxThr0Mv (u : Nat) : Nat := 0x3000E + 2048 * u
/-- R254 `prox_thr1_mv`. -/
def proxThr1Mv (u : Nat) : Nat := 0x3000F + 2048 * u
/-- R254 `session_step`. -/
def sessionStep (u : Nat) : Nat := 0x30020 + 2048 * u
/-- R254 `fault_code`. -/
def faultCode (u : Nat) : Nat := 0x30021 + 2048 * u
/-- R254 `blocked`. -/
def blocked (u : Nat) : Nat := 0x30022 + 2048 * u
/-- R254 `prox_state`. -/
def proxState (u : Nat) : Nat := 0x30023 + 2048 * u
/-- R254 `latch_state`. -/
def latchState (u : Nat) : Nat := 0x30024 + 2048 * u
/-- R254 `contactor_state`. -/
def contactorState (u : Nat) : Nat := 0x30025 + 2048 * u
/-- R254 `v_cable_mv`. -/
def vCableMv (u : Nat) : Nat := 0x30026 + 2048 * u
/-- R254 `i_outlet_ma`. -/
def iOutletMa (u : Nat) : Nat := 0x30027 + 2048 * u
/-- R254 `ev_v_target_mv`. -/
def evVTargetMv (u : Nat) : Nat := 0x30028 + 2048 * u
/-- R254 `ev_i_target_a`. -/
def evITargetA (u : Nat) : Nat := 0x30029 + 2048 * u
/-- R254 `ev_i_max_a`. -/
def evIMaxA (u : Nat) : Nat := 0x3002A + 2048 * u
/-- R254 `ev_p_max_w`. -/
def evPMaxW (u : Nat) : Nat := 0x3002B + 2048 * u
/-- R254 `ev_v_max_mv`. -/
def evVMaxMv (u : Nat) : Nat := 0x3002C + 2048 * u
/-- R254 `session_id`. -/
def sessionId (u : Nat) : Nat := 0x3002D + 2048 * u
/-- R254 `session_gen`. -/
def sessionGen (u : Nat) : Nat := 0x3002E + 2048 * u
/-- R254 `sessions`. -/
def sessions (u : Nat) : Nat := 0x3002F + 2048 * u
/-- R254 `faults`. -/
def faults (u : Nat) : Nat := 0x30030 + 2048 * u
/-- R254 `takeover_resends`. -/
def takeoverResends (u : Nat) : Nat := 0x30031 + 2048 * u
/-- R254 `discharge_ms`. -/
def dischargeMs (u : Nat) : Nat := 0x30032 + 2048 * u
/-- R229 `cool_mode`. -/
def coolMode (u : Nat) : Nat := 0x30400 + 2048 * u
/-- R229 `pump_mode`. -/
def pumpMode (u : Nat) : Nat := 0x30401 + 2048 * u
/-- R229 `pump_tx`. -/
def pumpTx (u : Nat) : Nat := 0x30402 + 2048 * u
/-- R229 `pump_default`. -/
def pumpDefault (u : Nat) : Nat := 0x30403 + 2048 * u
/-- R229 `flow_fs`. -/
def flowFs (u : Nat) : Nat := 0x30404 + 2048 * u
/-- R229 `flow_nom`. -/
def flowNom (u : Nat) : Nat := 0x30405 + 2048 * u
/-- R229 `flow_idle`. -/
def flowIdle (u : Nat) : Nat := 0x30406 + 2048 * u
/-- R229 `flow_limit`. -/
def flowLimit (u : Nat) : Nat := 0x30407 + 2048 * u
/-- R229 `flow_debounce_ms`. -/
def flowDebounceMs (u : Nat) : Nat := 0x30408 + 2048 * u
/-- R229 `cooldown_s`. -/
def cooldownS (u : Nat) : Nat := 0x30409 + 2048 * u
/-- R229 `pin_limit_mc`. -/
def pinLimitMc (u : Nat) : Nat := 0x3040A + 2048 * u
/-- R229 `tau1_ms`. -/
def tau1Ms (u : Nat) : Nat := 0x3040B + 2048 * u
/-- R229 `tau2_ms`. -/
def tau2Ms (u : Nat) : Nat := 0x3040C + 2048 * u
/-- R229 `k1_mc`. -/
def k1Mc (u : Nat) : Nat := 0x3040D + 2048 * u
/-- R229 `k2_mc`. -/
def k2Mc (u : Nat) : Nat := 0x3040E + 2048 * u
/-- R229 `obs_tau_ms`. -/
def obsTauMs (u : Nat) : Nat := 0x3040F + 2048 * u
/-- R229 `cool_fallback_mc`. -/
def coolFallbackMc (u : Nat) : Nat := 0x30410 + 2048 * u
/-- R229 `i_uncooled_a`. -/
def iUncooledA (u : Nat) : Nat := 0x30411 + 2048 * u
/-- R229 `src`. -/
def src (u i : Nat) : Nat := 0x30412 + 2048 * u + i
/-- R229 `scale`. -/
def scale (u i : Nat) : Nat := 0x30419 + 2048 * u + i
/-- R229 `offset`. -/
def offset (u i : Nat) : Nat := 0x30420 + 2048 * u + i
/-- R229 `cool_state`. -/
def coolState (u : Nat) : Nat := 0x30430 + 2048 * u
/-- R229 `flow`. -/
def flow (u : Nat) : Nat := 0x30431 + 2048 * u
/-- R229 `t_inlet`. -/
def tInlet (u : Nat) : Nat := 0x30432 + 2048 * u
/-- R229 `t_return`. -/
def tReturn (u : Nat) : Nat := 0x30433 + 2048 * u
/-- R229 `t_pin_max`. -/
def tPinMax (u : Nat) : Nat := 0x30434 + 2048 * u
/-- R229 `t_pin_model`. -/
def tPinModel (u : Nat) : Nat := 0x30435 + 2048 * u
/-- R229 `theta1`. -/
def theta1 (u : Nat) : Nat := 0x30436 + 2048 * u
/-- R229 `theta2`. -/
def theta2 (u : Nat) : Nat := 0x30437 + 2048 * u
/-- R229 `fc`. -/
def fc (u i : Nat) : Nat := 0x30438 + 2048 * u + i
/-- R229 `flow_target`. -/
def flowTarget (u : Nat) : Nat := 0x3043C + 2048 * u
/-- R229 `degraded_elapsed_ms`. -/
def degradedElapsedMs (u : Nat) : Nat := 0x3043D + 2048 * u
/-- R229 `cool_ready`. -/
def coolReady (u : Nat) : Nat := 0x3043E + 2048 * u
/-- R229 `sensor_faults`. -/
def sensorFaults (u : Nat) : Nat := 0x3043F + 2048 * u
/-- R229 `fc_overruns`. -/
def fcOverruns (u : Nat) : Nat := 0x30440 + 2048 * u
/-- The field rows of this group, part 1. -/
def rows1 : List PointRow := [
  ⟨0x30000, [(32, 2048)], 7, .rs, 0, 1, [], 0, 4⟩,
  ⟨0x30001, [(32, 2048)], 1, .rs, 1, 3000, [], 3000, 4⟩,
  ⟨0x30002, [(32, 2048)], 1, .rs, 0x186A0, 0x1312D0, [], 0x1312D0, 4⟩,
  ⟨0x30003, [(32, 2048)], 8, .rs, 0, 3, [], 3, 4⟩,
  ⟨0x30004, [(32, 2048)], 1, .rs, 5, 600, [], 60, 4⟩,
  ⟨0x30005, [(32, 2048)], 1, .rs, 100, 20000, [], 5000, 4⟩,
  ⟨0x30006, [(32, 2048)], 1, .rs, 1000, 20000, [], 10000, 4⟩,
  ⟨0x30007, [(32, 2048)], 1, .rs, 500, 10000, [], 5000, 4⟩,
  ⟨0x30008, [(32, 2048)], 1, .rs, 500, 10000, [], 2000, 4⟩,
  ⟨0x30009, [(32, 2048)], 1, .rs, 100, 5000, [], 500, 4⟩,
  ⟨0x3000A, [(32, 2048)], 1, .rs, 100, 5000, [], 2000, 4⟩,
  ⟨0x3000B, [(32, 2048)], 1, .rs, 100, 2000, [], 500, 4⟩,
  ⟨0x3000C, [(32, 2048)], 1, .rs, 20, 500, [], 100, 4⟩,
  ⟨0x3000D, [(32, 2048)], 1, .rs, 10, 1000, [], 100, 4⟩,
  ⟨0x3000E, [(32, 2048)], 1, .rs, 0, 0xFFFFFFFF, [], 1000, 4⟩,
  ⟨0x3000F, [(32, 2048)], 1, .rs, 0, 0xFFFFFFFF, [], 8000, 4⟩,
  ⟨0x30020, [(32, 2048)], 7, .ro, 0, 0xFFFFFFFF, [], 0, 0⟩,
  ⟨0x30021, [(32, 2048)], 7, .ro, 0, 0xFFFFFFFF, [], 0, 0⟩,
  ⟨0x30022, [(32, 2048)], 7, .ro, 0, 0xFFFFFFFF, [], 0, 0⟩,
  ⟨0x30023, [(32, 2048)], 7, .ro, 0, 0xFFFFFFFF, [], 0, 0⟩,
  ⟨0x30024, [(32, 2048)], 7, .ro, 0, 0xFFFFFFFF, [], 0, 0⟩,
  ⟨0x30025, [(32, 2048)], 7, .ro, 0, 0xFFFFFFFF, [], 0, 0⟩,
  ⟨0x30026, [(32, 2048)], 2, .ro, (-0x80000000), 0x7FFFFFFF, [], 0, 1⟩,
  ⟨0x30027, [(32, 2048)], 4, .ro, (-0x8000000000000000), 0x7FFFFFFFFFFFFFFF, [], 0, 1⟩]
/-- The field rows of this group, part 2. -/
def rows2 : List PointRow := [
  ⟨0x30028, [(32, 2048)], 1, .ro, 0, 0xFFFFFFFF, [], 0, 0⟩,
  ⟨0x30029, [(32, 2048)], 1, .ro, 0, 0xFFFFFFFF, [], 0, 0⟩,
  ⟨0x3002A, [(32, 2048)], 1, .ro, 0, 0xFFFFFFFF, [], 0, 0⟩,
  ⟨0x3002B, [(32, 2048)], 3, .ro, 0, 0xFFFFFFFFFFFFFFFF, [], 0, 0⟩,
  ⟨0x3002C, [(32, 2048)], 1, .ro, 0, 0xFFFFFFFF, [], 0, 0⟩,
  ⟨0x3002D, [(32, 2048)], 3, .ro, 0, 0xFFFFFFFFFFFFFFFF, [], 0, 0⟩,
  ⟨0x3002E, [(32, 2048)], 1, .ro, 0, 0xFFFFFFFF, [], 0, 0⟩,
  ⟨0x3002F, [(32, 2048)], 10, .ro, 0, 0xFFFFFFFFFFFFFFFF, [], 0, 3⟩,
  ⟨0x30030, [(32, 2048)], 10, .ro, 0, 0xFFFFFFFFFFFFFFFF, [], 0, 3⟩,
  ⟨0x30031, [(32, 2048)], 10, .ro, 0, 0xFFFFFFFFFFFFFFFF, [], 0, 3⟩,
  ⟨0x30032, [(32, 2048)], 1, .ro, 0, 0xFFFFFFFF, [], 0, 0⟩,
  ⟨0x30400, [(32, 2048)], 7, .rs, 0, 1, [], 1, 4⟩,
  ⟨0x30401, [(32, 2048)], 7, .rs, 0, 2, [], 1, 4⟩,
  ⟨0x30402, [(32, 2048)], 1, .rs, 0, 255, [0xFFFFFFFF], 0xFFFFFFFF, 4⟩,
  ⟨0x30403, [(32, 2048)], 5, .rs, (-0x80000000), 0x7FFFFFFF, [], 0x7FFFFFFF, 4⟩,
  ⟨0x30404, [(32, 2048)], 1, .rs, 1000, 0xF4240, [], 60000, 4⟩,
  ⟨0x30405, [(32, 2048)], 1, .rs, 0, 0xFFFFFFFF, [], 30000, 4⟩,
  ⟨0x30406, [(32, 2048)], 1, .rs, 0, 0xFFFFFFFF, [], 5000, 4⟩,
  ⟨0x30407, [(32, 2048)], 1, .rs, 0, 0xFFFFFFFF, [], 20000, 4⟩,
  ⟨0x30408, [(32, 2048)], 1, .rs, 50, 2000, [], 200, 4⟩,
  ⟨0x30409, [(32, 2048)], 1, .rs, 0, 3600, [], 120, 4⟩,
  ⟨0x3040A, [(32, 2048)], 2, .rs, 40000, 0x1D4C0, [], 0x15F90, 4⟩,
  ⟨0x3040B, [(32, 2048)], 1, .rs, 2000, 0x36EE80, [], 20000, 4⟩,
  ⟨0x3040C, [(32, 2048)], 1, .rs, 2000, 0x36EE80, [], 0x927C0, 4⟩]
/-- The field rows of this group, part 3. -/
def rows3 : List PointRow := [
  ⟨0x3040D, [(32, 2048)], 1, .rs, 0, 0x30D40, [], 4000, 4⟩,
  ⟨0x3040E, [(32, 2048)], 1, .rs, 0, 0x30D40, [], 5000, 4⟩,
  ⟨0x3040F, [(32, 2048)], 1, .rs, 100, 0x927C0, [], 10000, 4⟩,
  ⟨0x30410, [(32, 2048)], 2, .rs, (-0x80000000), 0x7FFFFFFF, [], 60000, 4⟩,
  ⟨0x30411, [(32, 2048)], 1, .rs, 0, 3000, [], 500, 4⟩,
  ⟨0x30412, [(32, 2048), (7, 1)], 8, .rs, 0, 0xFFFFFFFF, [], 100, 4⟩,
  ⟨0x30419, [(32, 2048), (7, 1)], 2, .rs, (-0x80000000), 0x7FFFFFFF, [], 1000, 4⟩,
  ⟨0x30420, [(32, 2048), (7, 1)], 2, .rs, (-0x80000000), 0x7FFFFFFF, [], 0, 4⟩,
  ⟨0x30430, [(32, 2048)], 7, .ro, 0, 0xFFFFFFFF, [], 1, 0⟩,
  ⟨0x30431, [(32, 2048)], 1, .ro, 0, 0xFFFFFFFF, [], 0, 0⟩,
  ⟨0x30432, [(32, 2048)], 2, .ro, (-0x80000000), 0x7FFFFFFF, [], 0, 0⟩,
  ⟨0x30433, [(32, 2048)], 2, .ro, (-0x80000000), 0x7FFFFFFF, [], 0, 0⟩,
  ⟨0x30434, [(32, 2048)], 2, .ro, (-0x80000000), 0x7FFFFFFF, [], 0, 0⟩,
  ⟨0x30435, [(32, 2048)], 2, .ro, (-0x80000000), 0x7FFFFFFF, [], 0, 0⟩,
  ⟨0x30436, [(32, 2048)], 2, .ro, (-0x80000000), 0x7FFFFFFF, [], 0, 0⟩,
  ⟨0x30437, [(32, 2048)], 2, .ro, (-0x80000000), 0x7FFFFFFF, [], 0, 0⟩,
  ⟨0x30438, [(32, 2048), (4, 1)], 1, .ro, 0, 0xFFFFFFFF, [], 0, 0⟩,
  ⟨0x3043C, [(32, 2048)], 1, .ro, 0, 0xFFFFFFFF, [], 5000, 0⟩,
  ⟨0x3043D, [(32, 2048)], 1, .ro, 0, 0xFFFFFFFF, [], 0, 0⟩,
  ⟨0x3043E, [(32, 2048)], 7, .ro, 0, 0xFFFFFFFF, [], 0, 0⟩,
  ⟨0x3043F, [(32, 2048)], 10, .ro, 0, 0xFFFFFFFFFFFFFFFF, [], 0, 3⟩,
  ⟨0x30440, [(32, 2048)], 10, .ro, 0, 0xFFFFFFFFFFFFFFFF, [], 0, 3⟩]
/-- The field rows of this group. -/
def rows : List PointRow := rows1 ++ rows2 ++ rows3

end Out

namespace Pool

/-- R199 `kind`. -/
def kind (u : Nat) : Nat := 0x40000 + 256 * u
/-- R199 `parent`. -/
def parent (u : Nat) : Nat := 0x40001 + 256 * u
/-- R199 `outlet`. -/
def outlet (u : Nat) : Nat := 0x40002 + 256 * u
/-- R199 `member_index`. -/
def memberIndex (u : Nat) : Nat := 0x40003 + 256 * u
/-- R199 `p_limit_kw`. -/
def pLimitKw (u : Nat) : Nat := 0x40004 + 256 * u
/-- R199 `i_limit_a`. -/
def iLimitA (u : Nat) : Nat := 0x40005 + 256 * u
/-- R199 `ramp_kw_s`. -/
def rampKwS (u : Nat) : Nat := 0x40006 + 256 * u
/-- R199 `priority`. -/
def priority (u : Nat) : Nat := 0x40007 + 256 * u
/-- R199 `weight`. -/
def weight (u : Nat) : Nat := 0x40008 + 256 * u
/-- R199 `meter_kind`. -/
def meterKind (u : Nat) : Nat := 0x40009 + 256 * u
/-- R199 `meter_index`. -/
def meterIndex (u : Nat) : Nat := 0x4000A + 256 * u
/-- R199 `meter_qty`. -/
def meterQty (u : Nat) : Nat := 0x4000B + 256 * u
/-- R199 `eta_pm`. -/
def etaPm (u : Nat) : Nat := 0x4000C + 256 * u
/-- R199 `bg_decay_ms`. -/
def bgDecayMs (u : Nat) : Nat := 0x4000D + 256 * u
/-- R199 `fallback_kw`. -/
def fallbackKw (u : Nat) : Nat := 0x4000E + 256 * u
/-- R199 `host_power_kw`. -/
def hostPowerKw (u : Nat) : Nat := 0x4000F + 256 * u
/-- R199 `host_timeout_ms`. -/
def hostTimeoutMs (u : Nat) : Nat := 0x40010 + 256 * u
/-- R199 `s0_window_ms`. -/
def s0WindowMs (u : Nat) : Nat := 0x40011 + 256 * u
/-- R199 `target_margin_a`. -/
def targetMarginA (u : Nat) : Nat := 0x40012 + 256 * u
/-- R199 `team_hold_rounds`. -/
def teamHoldRounds (u : Nat) : Nat := 0x40013 + 256 * u
/-- R200 `cap_w`. -/
def capW (u : Nat) : Nat := 0x40020 + 256 * u
/-- R200 `want_w`. -/
def wantW (u : Nat) : Nat := 0x40021 + 256 * u
/-- R200 `demand_w`. -/
def demandW (u : Nat) : Nat := 0x40022 + 256 * u
/-- R200 `alloc_w`. -/
def allocW (u : Nat) : Nat := 0x40023 + 256 * u
/-- R200 `meter_w`. -/
def meterW (u : Nat) : Nat := 0x40024 + 256 * u
/-- R200 `bg_w`. -/
def bgW (u : Nat) : Nat := 0x40025 + 256 * u
/-- R200 `meter_state`. -/
def meterState (u : Nat) : Nat := 0x40026 + 256 * u
/-- R200 `binding`. -/
def binding (u : Nat) : Nat := 0x40027 + 256 * u
/-- R200 `v_alloc_mv`. -/
def vAllocMv (u : Nat) : Nat := 0x40028 + 256 * u
/-- R200 `alloc_a`. -/
def allocA (u : Nat) : Nat := 0x40029 + 256 * u
/-- R200 `set_a`. -/
def setA (u : Nat) : Nat := 0x4002A + 256 * u
/-- R200 `limited_rounds`. -/
def limitedRounds (u : Nat) : Nat := 0x4002B + 256 * u
/-- R200 `fallback_rounds`. -/
def fallbackRounds (u : Nat) : Nat := 0x4002C + 256 * u
/-- R200 `depth`. -/
def depth (u : Nat) : Nat := 0x4002D + 256 * u
/-- The field rows of this group, part 1. -/
def rows1 : List PointRow := [
  ⟨0x40000, [(256, 256)], 7, .rs, 0, 3, [], 0, 4⟩,
  ⟨0x40001, [(256, 256)], 1, .rs, 0, 255, [0xFFFFFFFF, 0xFFFFFFFE], 0xFFFFFFFF, 4⟩,
  ⟨0x40002, [(256, 256)], 1, .rs, 0, 31, [255], 255, 4⟩,
  ⟨0x40003, [(256, 256)], 1, .rs, 0, 7, [], 0, 4⟩,
  ⟨0x40004, [(256, 256)], 1, .rs, 0, 0xF4240, [0xFFFFFFFF], 0xFFFFFFFF, 4⟩,
  ⟨0x40005, [(256, 256)], 1, .rs, 0, 0x186A0, [0xFFFFFFFF], 0xFFFFFFFF, 4⟩,
  ⟨0x40006, [(256, 256)], 1, .rs, 0, 0xF4240, [], 0, 4⟩,
  ⟨0x40007, [(256, 256)], 1, .rs, 0, 15, [], 8, 4⟩,
  ⟨0x40008, [(256, 256)], 1, .rs, 1, 65535, [], 1, 4⟩,
  ⟨0x40009, [(256, 256)], 7, .rs, 0, 3, [], 0, 4⟩,
  ⟨0x4000A, [(256, 256)], 1, .rs, 0, 15, [], 0, 4⟩,
  ⟨0x4000B, [(256, 256)], 7, .rs, 0, 1, [], 0, 4⟩,
  ⟨0x4000C, [(256, 256)], 1, .rs, 800, 1000, [], 970, 4⟩,
  ⟨0x4000D, [(256, 256)], 1, .rs, 10, 60000, [], 5000, 4⟩,
  ⟨0x4000E, [(256, 256)], 1, .rs, 0, 0xFFFFFFFF, [], 0, 4⟩,
  ⟨0x4000F, [(256, 256)], 2, .rw, (-0x80000000), 0x7FFFFFFF, [], 0, 0⟩,
  ⟨0x40010, [(256, 256)], 1, .rs, 2, 10000, [], 100, 4⟩,
  ⟨0x40011, [(256, 256)], 1, .rs, 100, 60000, [], 1000, 4⟩,
  ⟨0x40012, [(256, 256)], 1, .rs, 0, 3000, [], 100, 4⟩,
  ⟨0x40013, [(256, 256)], 1, .rs, 1, 1000, [], 20, 4⟩,
  ⟨0x40020, [(256, 256)], 3, .ro, 0, 0xFFFFFFFFFFFFFFFF, [], 0, 0⟩,
  ⟨0x40021, [(256, 256)], 3, .ro, 0, 0xFFFFFFFFFFFFFFFF, [], 0, 0⟩,
  ⟨0x40022, [(256, 256)], 3, .ro, 0, 0xFFFFFFFFFFFFFFFF, [], 0, 0⟩,
  ⟨0x40023, [(256, 256)], 3, .ro, 0, 0xFFFFFFFFFFFFFFFF, [], 0, 0⟩]
/-- The field rows of this group, part 2. -/
def rows2 : List PointRow := [
  ⟨0x40024, [(256, 256)], 4, .ro, (-0x8000000000000000), 0x7FFFFFFFFFFFFFFF, [], 0, 0⟩,
  ⟨0x40025, [(256, 256)], 4, .ro, (-0x8000000000000000), 0x7FFFFFFFFFFFFFFF, [], 0, 0⟩,
  ⟨0x40026, [(256, 256)], 7, .ro, 0, 0xFFFFFFFF, [], 0, 0⟩,
  ⟨0x40027, [(256, 256)], 7, .ro, 0, 0xFFFFFFFF, [], 0, 0⟩,
  ⟨0x40028, [(256, 256)], 1, .ro, 0, 0xFFFFFFFF, [], 0, 0⟩,
  ⟨0x40029, [(256, 256)], 1, .ro, 0, 0xFFFFFFFF, [], 0, 0⟩,
  ⟨0x4002A, [(256, 256)], 1, .ro, 0, 0xFFFFFFFF, [], 0, 0⟩,
  ⟨0x4002B, [(256, 256)], 10, .ro, 0, 0xFFFFFFFFFFFFFFFF, [], 0, 0⟩,
  ⟨0x4002C, [(256, 256)], 10, .ro, 0, 0xFFFFFFFFFFFFFFFF, [], 0, 0⟩,
  ⟨0x4002D, [(256, 256)], 1, .ro, 0, 0xFFFFFFFF, [], 0, 0⟩]
/-- The field rows of this group. -/
def rows : List PointRow := rows1 ++ rows2

end Pool

namespace Ac

/-- R281 `point_enable`. -/
def pointEnable (u : Nat) : Nat := 0x50000 + 2048 * u
/-- R281 `wiring`. -/
def wiring (u : Nat) : Nat := 0x50001 + 2048 * u
/-- R281 `f_nom`. -/
def fNom (u : Nat) : Nat := 0x50002 + 2048 * u
/-- R281 `v_range_v`. -/
def vRangeV (u : Nat) : Nat := 0x50003 + 2048 * u
/-- R281 `i_range_a`. -/
def iRangeA (u : Nat) : Nat := 0x50004 + 2048 * u
/-- R281 `ntc_res_25c`. -/
def ntcRes25c (u : Nat) : Nat := 0x50005 + 2048 * u
/-- R281 `ntc_beta`. -/
def ntcBeta (u : Nat) : Nat := 0x50006 + 2048 * u
/-- R281 `cal_gain`. -/
def calGain (u i j : Nat) : Nat := 0x50040 + 2048 * u + 8 * i + j
/-- R281 `cal_offset`. -/
def calOffset (u i : Nat) : Nat := 0x50043 + 2048 * u + 8 * i
/-- R281 `cal_phase`. -/
def calPhase (u i : Nat) : Nat := 0x50044 + 2048 * u + 8 * i
/-- R281 `comp_gain`. -/
def compGain (u i j : Nat) : Nat := 0x50100 + 2048 * u + 64 * i + 2 * j
/-- R281 `comp_phase`. -/
def compPhase (u i j : Nat) : Nat := 0x50101 + 2048 * u + 64 * i + 2 * j
/-- R282 `v_rms`. -/
def vRms (u i : Nat) : Nat := 0x50400 + 2048 * u + i
/-- R282 `i_rms`. -/
def iRms (u i : Nat) : Nat := 0x50403 + 2048 * u + i
/-- R282 `p`. -/
def p (u i : Nat) : Nat := 0x50406 + 2048 * u + i
/-- R282 `q`. -/
def q (u i : Nat) : Nat := 0x50409 + 2048 * u + i
/-- R282 `p_total`. -/
def pTotal (u : Nat) : Nat := 0x5040C + 2048 * u
/-- R282 `q_total`. -/
def qTotal (u : Nat) : Nat := 0x5040D + 2048 * u
/-- R282 `s_total`. -/
def sTotal (u : Nat) : Nat := 0x5040E + 2048 * u
/-- R282 `freq_mhz`. -/
def freqMhz (u : Nat) : Nat := 0x5040F + 2048 * u
/-- R282 `quadrant`. -/
def quadrant (u : Nat) : Nat := 0x50410 + 2048 * u
/-- R282 `gain_state`. -/
def gainState (u i : Nat) : Nat := 0x50411 + 2048 * u + i
/-- R282 `t_sensor`. -/
def tSensor (u : Nat) : Nat := 0x50417 + 2048 * u
/-- R282 `range_switches`. -/
def rangeSwitches (u : Nat) : Nat := 0x50418 + 2048 * u
/-- R282 `clip_samples`. -/
def clipSamples (u : Nat) : Nat := 0x50419 + 2048 * u
/-- R282 `filled_samples`. -/
def filledSamples (u : Nat) : Nat := 0x5041A + 2048 * u
/-- R282 `fixed_blocks`. -/
def fixedBlocks (u : Nat) : Nat := 0x5041B + 2048 * u
/-- R282 `ntc_faults`. -/
def ntcFaults (u : Nat) : Nat := 0x5041C + 2048 * u
/-- R282 `lane_dev_ppm`. -/
def laneDevPpm (u : Nat) : Nat := 0x5041D + 2048 * u
/-- R282 `lane_dev_events`. -/
def laneDevEvents (u : Nat) : Nat := 0x5041E + 2048 * u
/-- The field rows of this group, part 1. -/
def rows1 : List PointRow := [
  ⟨0x50000, [(8, 2048)], 7, .rs, 0, 1, [], 0, 4⟩,
  ⟨0x50001, [(8, 2048)], 7, .rs, 0, 1, [], 0, 4⟩,
  ⟨0x50002, [(8, 2048)], 7, .rs, 0, 1, [], 0, 4⟩,
  ⟨0x50003, [(8, 2048)], 1, .rs, 1, 0xF4240, [], 1000, 4⟩,
  ⟨0x50004, [(8, 2048)], 1, .rs, 1, 0x186A0, [], 1000, 4⟩,
  ⟨0x50005, [(8, 2048)], 1, .rs, 1000, 0x186A0, [], 10000, 4⟩,
  ⟨0x50006, [(8, 2048)], 1, .rs, 2500, 5000, [], 3435, 4⟩,
  ⟨0x50040, [(8, 2048), (6, 8), (3, 1)], 2, .rs, (-0x186A0), 0x186A0, [], 0, 4⟩,
  ⟨0x50043, [(8, 2048), (6, 8)], 2, .rs, (-10000), 10000, [], 0, 4⟩,
  ⟨0x50044, [(8, 2048), (6, 8)], 2, .rs, (-9000), 9000, [], 0, 4⟩,
  ⟨0x50100, [(8, 2048), (6, 64), (32, 2)], 2, .rs, (-20000), 20000, [], 0, 4⟩,
  ⟨0x50101, [(8, 2048), (6, 64), (32, 2)], 2, .rs, (-9000), 9000, [], 0, 4⟩,
  ⟨0x50400, [(8, 2048), (3, 1)], 1, .ro, 0, 0xFFFFFFFF, [], 0, 1⟩,
  ⟨0x50403, [(8, 2048), (3, 1)], 1, .ro, 0, 0xFFFFFFFF, [], 0, 1⟩,
  ⟨0x50406, [(8, 2048), (3, 1)], 4, .ro, (-0x8000000000000000), 0x7FFFFFFFFFFFFFFF, [], 0, 1⟩,
  ⟨0x50409, [(8, 2048), (3, 1)], 4, .ro, (-0x8000000000000000), 0x7FFFFFFFFFFFFFFF, [], 0, 1⟩,
  ⟨0x5040C, [(8, 2048)], 4, .ro, (-0x8000000000000000), 0x7FFFFFFFFFFFFFFF, [], 0, 1⟩,
  ⟨0x5040D, [(8, 2048)], 4, .ro, (-0x8000000000000000), 0x7FFFFFFFFFFFFFFF, [], 0, 1⟩,
  ⟨0x5040E, [(8, 2048)], 3, .ro, 0, 0xFFFFFFFFFFFFFFFF, [], 0, 1⟩,
  ⟨0x5040F, [(8, 2048)], 1, .ro, 0, 0xFFFFFFFF, [], 0, 0⟩,
  ⟨0x50410, [(8, 2048)], 7, .ro, 0, 0xFFFFFFFF, [], 0, 0⟩,
  ⟨0x50411, [(8, 2048), (6, 1)], 7, .ro, 0, 0xFFFFFFFF, [], 0, 0⟩,
  ⟨0x50417, [(8, 2048)], 2, .ro, (-0x80000000), 0x7FFFFFFF, [], 0, 0⟩,
  ⟨0x50418, [(8, 2048)], 10, .ro, 0, 0xFFFFFFFFFFFFFFFF, [], 0, 3⟩]
/-- The field rows of this group, part 2. -/
def rows2 : List PointRow := [
  ⟨0x50419, [(8, 2048)], 10, .ro, 0, 0xFFFFFFFFFFFFFFFF, [], 0, 3⟩,
  ⟨0x5041A, [(8, 2048)], 10, .ro, 0, 0xFFFFFFFFFFFFFFFF, [], 0, 3⟩,
  ⟨0x5041B, [(8, 2048)], 10, .ro, 0, 0xFFFFFFFFFFFFFFFF, [], 0, 3⟩,
  ⟨0x5041C, [(8, 2048)], 10, .ro, 0, 0xFFFFFFFFFFFFFFFF, [], 0, 3⟩,
  ⟨0x5041D, [(8, 2048)], 2, .ro, (-0x80000000), 0x7FFFFFFF, [], 0, 0⟩,
  ⟨0x5041E, [(8, 2048)], 10, .ro, 0, 0xFFFFFFFFFFFFFFFF, [], 0, 3⟩]
/-- The field rows of this group. -/
def rows : List PointRow := rows1 ++ rows2

end Ac

namespace Dc

/-- R281 `point_enable`. -/
def pointEnable (u : Nat) : Nat := 0x54000 + 512 * u
/-- R281 `v_range_v`. -/
def vRangeV (u : Nat) : Nat := 0x54003 + 512 * u
/-- R281 `i_range_a`. -/
def iRangeA (u : Nat) : Nat := 0x54004 + 512 * u
/-- R281 `ntc_res_25c`. -/
def ntcRes25c (u : Nat) : Nat := 0x54005 + 512 * u
/-- R281 `ntc_beta`. -/
def ntcBeta (u : Nat) : Nat := 0x54006 + 512 * u
/-- R281 `cal_gain`. -/
def calGain (u i j : Nat) : Nat := 0x54040 + 512 * u + 8 * i + j
/-- R281 `cal_offset`. -/
def calOffset (u i : Nat) : Nat := 0x54043 + 512 * u + 8 * i
/-- R281 `cal_phase`. -/
def calPhase (u i : Nat) : Nat := 0x54044 + 512 * u + 8 * i
/-- R281 `comp_gain`. -/
def compGain (u i j : Nat) : Nat := 0x54080 + 512 * u + 64 * i + 2 * j
/-- R281 `comp_phase`. -/
def compPhase (u i j : Nat) : Nat := 0x54081 + 512 * u + 64 * i + 2 * j
/-- R282 `v_mv`. -/
def vMv (u : Nat) : Nat := 0x54100 + 512 * u
/-- R282 `i_ma`. -/
def iMa (u : Nat) : Nat := 0x54101 + 512 * u
/-- R282 `p_w`. -/
def pW (u : Nat) : Nat := 0x54102 + 512 * u
/-- R282 `i_sq_a2`. -/
def iSqA2 (u : Nat) : Nat := 0x54103 + 512 * u
/-- R282 `gain_state`. -/
def gainState (u i : Nat) : Nat := 0x54104 + 512 * u + i
/-- R282 `t_sensor`. -/
def tSensor (u : Nat) : Nat := 0x54106 + 512 * u
/-- R282 `range_switches`. -/
def rangeSwitches (u : Nat) : Nat := 0x54107 + 512 * u
/-- R282 `clip_samples`. -/
def clipSamples (u : Nat) : Nat := 0x54108 + 512 * u
/-- R282 `filled_samples`. -/
def filledSamples (u : Nat) : Nat := 0x54109 + 512 * u
/-- R282 `ntc_faults`. -/
def ntcFaults (u : Nat) : Nat := 0x5410A + 512 * u
/-- R282 `lane_dev_ppm`. -/
def laneDevPpm (u : Nat) : Nat := 0x5410B + 512 * u
/-- R282 `lane_dev_events`. -/
def laneDevEvents (u : Nat) : Nat := 0x5410C + 512 * u
/-- The field rows of this group, part 1. -/
def rows1 : List PointRow := [
  ⟨0x54000, [(32, 512)], 7, .rs, 0, 1, [], 0, 4⟩,
  ⟨0x54003, [(32, 512)], 1, .rs, 1, 0xF4240, [], 1000, 4⟩,
  ⟨0x54004, [(32, 512)], 1, .rs, 1, 0x186A0, [], 1000, 4⟩,
  ⟨0x54005, [(32, 512)], 1, .rs, 1000, 0x186A0, [], 10000, 4⟩,
  ⟨0x54006, [(32, 512)], 1, .rs, 2500, 5000, [], 3435, 4⟩,
  ⟨0x54040, [(32, 512), (2, 8), (3, 1)], 2, .rs, (-0x186A0), 0x186A0, [], 0, 4⟩,
  ⟨0x54043, [(32, 512), (2, 8)], 2, .rs, (-10000), 10000, [], 0, 4⟩,
  ⟨0x54044, [(32, 512), (2, 8)], 2, .rs, (-9000), 9000, [], 0, 4⟩,
  ⟨0x54080, [(32, 512), (2, 64), (32, 2)], 2, .rs, (-20000), 20000, [], 0, 4⟩,
  ⟨0x54081, [(32, 512), (2, 64), (32, 2)], 2, .rs, (-9000), 9000, [], 0, 4⟩,
  ⟨0x54100, [(32, 512)], 2, .ro, (-0x80000000), 0x7FFFFFFF, [], 0, 1⟩,
  ⟨0x54101, [(32, 512)], 4, .ro, (-0x8000000000000000), 0x7FFFFFFFFFFFFFFF, [], 0, 1⟩,
  ⟨0x54102, [(32, 512)], 4, .ro, (-0x8000000000000000), 0x7FFFFFFFFFFFFFFF, [], 0, 1⟩,
  ⟨0x54103, [(32, 512)], 3, .ro, 0, 0xFFFFFFFFFFFFFFFF, [], 0, 1⟩,
  ⟨0x54104, [(32, 512), (2, 1)], 7, .ro, 0, 0xFFFFFFFF, [], 0, 0⟩,
  ⟨0x54106, [(32, 512)], 2, .ro, (-0x80000000), 0x7FFFFFFF, [], 0, 0⟩,
  ⟨0x54107, [(32, 512)], 10, .ro, 0, 0xFFFFFFFFFFFFFFFF, [], 0, 3⟩,
  ⟨0x54108, [(32, 512)], 10, .ro, 0, 0xFFFFFFFFFFFFFFFF, [], 0, 3⟩,
  ⟨0x54109, [(32, 512)], 10, .ro, 0, 0xFFFFFFFFFFFFFFFF, [], 0, 3⟩,
  ⟨0x5410A, [(32, 512)], 10, .ro, 0, 0xFFFFFFFFFFFFFFFF, [], 0, 3⟩,
  ⟨0x5410B, [(32, 512)], 2, .ro, (-0x80000000), 0x7FFFFFFF, [], 0, 0⟩,
  ⟨0x5410C, [(32, 512)], 10, .ro, 0, 0xFFFFFFFFFFFFFFFF, [], 0, 3⟩]
/-- The field rows of this group. -/
def rows : List PointRow := rows1

end Dc

namespace S0

/-- R283 `s0_enable`. -/
def s0Enable (u : Nat) : Nat := 0x58000 + 64 * u
/-- R283 `s0_mwh_per_pulse`. -/
def s0MwhPerPulse (u : Nat) : Nat := 0x58001 + 64 * u
/-- R283 `s0_min_on_ms`. -/
def s0MinOnMs (u : Nat) : Nat := 0x58002 + 64 * u
/-- R283 `s0_max_on_ms`. -/
def s0MaxOnMs (u : Nat) : Nat := 0x58003 + 64 * u
/-- R283 `s0_count`. -/
def s0Count (u : Nat) : Nat := 0x58010 + 64 * u
/-- R283 `s0_state`. -/
def s0State (u : Nat) : Nat := 0x58011 + 64 * u
/-- R283 `s0_fault`. -/
def s0Fault (u : Nat) : Nat := 0x58012 + 64 * u
/-- R283 `s0_faults`. -/
def s0Faults (u : Nat) : Nat := 0x58013 + 64 * u
/-- R283 `s0_glitches`. -/
def s0Glitches (u : Nat) : Nat := 0x58014 + 64 * u
/-- The field rows of this group, part 1. -/
def rows1 : List PointRow := [
  ⟨0x58000, [(16, 64)], 7, .rs, 0, 1, [], 0, 4⟩,
  ⟨0x58001, [(16, 64)], 1, .rs, 1, 0x5F5E100, [], 0xF4240, 4⟩,
  ⟨0x58002, [(16, 64)], 1, .rs, 2, 30, [], 10, 4⟩,
  ⟨0x58003, [(16, 64)], 1, .rs, 100, 60000, [], 2000, 4⟩,
  ⟨0x58010, [(16, 64)], 10, .ro, 0, 0xFFFFFFFFFFFFFFFF, [], 0, 3⟩,
  ⟨0x58011, [(16, 64)], 7, .ro, 0, 0xFFFFFFFF, [], 0, 0⟩,
  ⟨0x58012, [(16, 64)], 7, .ro, 0, 0xFFFFFFFF, [], 0, 0⟩,
  ⟨0x58013, [(16, 64)], 10, .ro, 0, 0xFFFFFFFFFFFFFFFF, [], 0, 3⟩,
  ⟨0x58014, [(16, 64)], 10, .ro, 0, 0xFFFFFFFFFFFFFFFF, [], 0, 3⟩]
/-- The field rows of this group. -/
def rows : List PointRow := rows1

end S0

namespace Po

/-- R283 `po_source`. -/
def poSource (u : Nat) : Nat := 0x58400 + 64 * u
/-- R283 `po_mwh_per_pulse`. -/
def poMwhPerPulse (u : Nat) : Nat := 0x58401 + 64 * u
/-- R283 `po_due`. -/
def poDue (u : Nat) : Nat := 0x58410 + 64 * u
/-- R283 `po_emitted`. -/
def poEmitted (u : Nat) : Nat := 0x58411 + 64 * u
/-- R283 `po_backlog`. -/
def poBacklog (u : Nat) : Nat := 0x58412 + 64 * u
/-- R283 `po_width_us`. -/
def poWidthUs (u : Nat) : Nat := 0x58413 + 64 * u
/-- R283 `po_overflows`. -/
def poOverflows (u : Nat) : Nat := 0x58414 + 64 * u
/-- The field rows of this group, part 1. -/
def rows1 : List PointRow := [
  ⟨0x58400, [(4, 64)], 8, .rs, 0, 0xFFFFFFFF, [], 0, 4⟩,
  ⟨0x58401, [(4, 64)], 1, .rs, 1, 0x5F5E100, [], 10000, 4⟩,
  ⟨0x58410, [(4, 64)], 10, .ro, 0, 0xFFFFFFFFFFFFFFFF, [], 0, 3⟩,
  ⟨0x58411, [(4, 64)], 10, .ro, 0, 0xFFFFFFFFFFFFFFFF, [], 0, 3⟩,
  ⟨0x58412, [(4, 64)], 1, .ro, 0, 0xFFFFFFFF, [], 0, 0⟩,
  ⟨0x58413, [(4, 64)], 1, .ro, 0, 0xFFFFFFFF, [], 0, 0⟩,
  ⟨0x58414, [(4, 64)], 10, .ro, 0, 0xFFFFFFFFFFFFFFFF, [], 0, 3⟩]
/-- The field rows of this group. -/
def rows : List PointRow := rows1

end Po

namespace RegA

/-- R289 `reg`. -/
def reg (u i j : Nat) : Nat := 0x60000 + 4096 * u + 16 * i + j
/-- R289 `creg`. -/
def creg (u i j : Nat) : Nat := 0x60100 + 4096 * u + 16 * i + j
/-- R289 `wraps`. -/
def wraps (u i j : Nat) : Nat := 0x60200 + 4096 * u + 16 * i + j
/-- R289 `max_dem_w`. -/
def maxDemW (u i : Nat) : Nat := 0x60300 + 4096 * u + i
/-- R289 `max_dem_time`. -/
def maxDemTime (u i : Nat) : Nat := 0x60310 + 4096 * u + i
/-- R289 `dem_last_w`. -/
def demLastW (u : Nat) : Nat := 0x60320 + 4096 * u
/-- R289 `gap_ms`. -/
def gapMs (u : Nat) : Nat := 0x60321 + 4096 * u
/-- R289 `adopt_dev_mwh`. -/
def adoptDevMwh (u : Nat) : Nat := 0x60322 + 4096 * u
/-- R289 `profile_seq`. -/
def profileSeq (u : Nat) : Nat := 0x60323 + 4096 * u
/-- The field rows of this group, part 1. -/
def rows1 : List PointRow := [
  ⟨0x60000, [(8, 4096), (8, 16), (9, 1)], 10, .ro, 0, 0xFFFFFFFFFFFFFFFF, [], 0, 3⟩,
  ⟨0x60100, [(8, 4096), (8, 16), (9, 1)], 1, .ro, 0, 0xFFFFFFFF, [], 0, 0⟩,
  ⟨0x60200, [(8, 4096), (8, 16), (9, 1)], 1, .ro, 0, 0xFFFFFFFF, [], 0, 0⟩,
  ⟨0x60300, [(8, 4096), (8, 1)], 3, .ro, 0, 0xFFFFFFFFFFFFFFFF, [], 0, 0⟩,
  ⟨0x60310, [(8, 4096), (8, 1)], 3, .ro, 0, 0xFFFFFFFFFFFFFFFF, [], 0, 0⟩,
  ⟨0x60320, [(8, 4096)], 3, .ro, 0, 0xFFFFFFFFFFFFFFFF, [], 0, 0⟩,
  ⟨0x60321, [(8, 4096)], 10, .ro, 0, 0xFFFFFFFFFFFFFFFF, [], 0, 3⟩,
  ⟨0x60322, [(8, 4096)], 4, .ro, (-0x8000000000000000), 0x7FFFFFFFFFFFFFFF, [], 0, 0⟩,
  ⟨0x60323, [(8, 4096)], 10, .ro, 0, 0xFFFFFFFFFFFFFFFF, [], 0, 3⟩]
/-- The field rows of this group. -/
def rows : List PointRow := rows1

end RegA

namespace RegD

/-- R289 `reg`. -/
def reg (u i j : Nat) : Nat := 0x68000 + 512 * u + 16 * i + j
/-- R289 `creg`. -/
def creg (u i j : Nat) : Nat := 0x68040 + 512 * u + 16 * i + j
/-- R289 `wraps`. -/
def wraps (u i j : Nat) : Nat := 0x68080 + 512 * u + 16 * i + j
/-- R289 `max_dem_w`. -/
def maxDemW (u i : Nat) : Nat := 0x680C0 + 512 * u + i
/-- R289 `max_dem_time`. -/
def maxDemTime (u i : Nat) : Nat := 0x680D0 + 512 * u + i
/-- R289 `dem_last_w`. -/
def demLastW (u : Nat) : Nat := 0x680E0 + 512 * u
/-- R289 `gap_ms`. -/
def gapMs (u : Nat) : Nat := 0x680E1 + 512 * u
/-- R289 `adopt_dev_mwh`. -/
def adoptDevMwh (u : Nat) : Nat := 0x680E2 + 512 * u
/-- R289 `profile_seq`. -/
def profileSeq (u : Nat) : Nat := 0x680E3 + 512 * u
/-- The field rows of this group, part 1. -/
def rows1 : List PointRow := [
  ⟨0x68000, [(32, 512), (2, 16), (9, 1)], 10, .ro, 0, 0xFFFFFFFFFFFFFFFF, [], 0, 3⟩,
  ⟨0x68040, [(32, 512), (2, 16), (9, 1)], 1, .ro, 0, 0xFFFFFFFF, [], 0, 0⟩,
  ⟨0x68080, [(32, 512), (2, 16), (9, 1)], 1, .ro, 0, 0xFFFFFFFF, [], 0, 0⟩,
  ⟨0x680C0, [(32, 512), (8, 1)], 3, .ro, 0, 0xFFFFFFFFFFFFFFFF, [], 0, 0⟩,
  ⟨0x680D0, [(32, 512), (8, 1)], 3, .ro, 0, 0xFFFFFFFFFFFFFFFF, [], 0, 0⟩,
  ⟨0x680E0, [(32, 512)], 3, .ro, 0, 0xFFFFFFFFFFFFFFFF, [], 0, 0⟩,
  ⟨0x680E1, [(32, 512)], 10, .ro, 0, 0xFFFFFFFFFFFFFFFF, [], 0, 3⟩,
  ⟨0x680E2, [(32, 512)], 4, .ro, (-0x8000000000000000), 0x7FFFFFFFFFFFFFFF, [], 0, 0⟩,
  ⟨0x680E3, [(32, 512)], 10, .ro, 0, 0xFFFFFFFFFFFFFFFF, [], 0, 3⟩]
/-- The field rows of this group. -/
def rows : List PointRow := rows1

end RegD

namespace Cal

/-- R294 `day_sw`. -/
def daySw (i j : Nat) : Nat := 0x6C000 + 16 * i + j
/-- R294 `season_start`. -/
def seasonStart (i : Nat) : Nat := 0x6C200 + 8 * i
/-- R294 `season_day`. -/
def seasonDay (i j : Nat) : Nat := 0x6C201 + 8 * i + j
/-- R294 `special`. -/
def special (i : Nat) : Nat := 0x6C240 + i
/-- R294 `interval_min`. -/
def intervalMin : Nat := 0x6C300
/-- R294 `bill_close_day`. -/
def billCloseDay : Nat := 0x6C301
/-- R294 `tz_offset_min`. -/
def tzOffsetMin : Nat := 0x6C302
/-- R294 `clock_limit_s`. -/
def clockLimitS : Nat := 0x6C303
/-- R294 `scroll_dwell_s`. -/
def scrollDwellS : Nat := 0x6C304
/-- R294 `scroll`. -/
def scroll (i : Nat) : Nat := 0x6C310 + i
/-- R318 `legal_utc_ms`. -/
def legalUtcMs : Nat := 0x6C400
/-- R318 `clock_state`. -/
def clockState : Nat := 0x6C401
/-- R318 `tariff_now`. -/
def tariffNow : Nat := 0x6C402
/-- R318 `period_no`. -/
def periodNo : Nat := 0x6C403
/-- R318 `interval_end_ms`. -/
def intervalEndMs : Nat := 0x6C404
/-- R318 `adj_within`. -/
def adjWithin : Nat := 0x6C405
/-- R318 `splits`. -/
def splits : Nat := 0x6C406
/-- R318 `clock_follow_ms`. -/
def clockFollowMs : Nat := 0x6C407
/-- R318 `seal_state`. -/
def sealState : Nat := 0x6C408
/-- R318 `seal_counter`. -/
def sealCounter : Nat := 0x6C409
/-- R318 `tamper_counter`. -/
def tamperCounter : Nat := 0x6C40A
/-- R318 `tamper_unacked`. -/
def tamperUnacked : Nat := 0x6C40B
/-- R318 `outages`. -/
def outages : Nat := 0x6C40C
/-- R318 `store_state`. -/
def storeState : Nat := 0x6C40D
/-- R318 `records_signed`. -/
def recordsSigned : Nat := 0x6C40E
/-- R318 `log_entries`. -/
def logEntries : Nat := 0x6C40F
/-- The field rows of this group, part 1. -/
def rows1 : List PointRow := [
  ⟨0x6C000, [(32, 16), (16, 1)], 8, .rs, 0, 0xFFFFFFFF, [], 0, 4⟩,
  ⟨0x6C200, [(4, 8)], 8, .rs, 0, 0xFFFFFFFF, [], 0, 4⟩,
  ⟨0x6C201, [(4, 8), (7, 1)], 1, .rs, 0, 31, [], 0, 4⟩,
  ⟨0x6C240, [(64, 1)], 8, .rs, 0, 0xFFFFFFFF, [], 0, 4⟩,
  ⟨0x6C300, [], 1, .rs, 1, 60, [], 15, 4⟩,
  ⟨0x6C301, [], 1, .rs, 1, 28, [], 1, 4⟩,
  ⟨0x6C302, [], 2, .rs, (-720), 840, [], 0, 4⟩,
  ⟨0x6C303, [], 1, .rs, 1, 60, [], 5, 4⟩,
  ⟨0x6C304, [], 1, .rs, 1, 60, [], 8, 4⟩,
  ⟨0x6C310, [(32, 1)], 8, .rs, 0, 0xFFFFFFFF, [], 0, 4⟩,
  ⟨0x6C400, [], 3, .ro, 0, 0xFFFFFFFFFFFFFFFF, [], 0, 0⟩,
  ⟨0x6C401, [], 7, .ro, 0, 0xFFFFFFFF, [], 0, 0⟩,
  ⟨0x6C402, [], 1, .ro, 0, 0xFFFFFFFF, [], 0, 0⟩,
  ⟨0x6C403, [], 1, .ro, 0, 0xFFFFFFFF, [], 0, 0⟩,
  ⟨0x6C404, [], 3, .ro, 0, 0xFFFFFFFFFFFFFFFF, [], 0, 0⟩,
  ⟨0x6C405, [], 10, .ro, 0, 0xFFFFFFFFFFFFFFFF, [], 0, 3⟩,
  ⟨0x6C406, [], 10, .ro, 0, 0xFFFFFFFFFFFFFFFF, [], 0, 3⟩,
  ⟨0x6C407, [], 2, .ro, (-0x80000000), 0x7FFFFFFF, [], 0, 0⟩,
  ⟨0x6C408, [], 7, .ro, 0, 0xFFFFFFFF, [], 0, 0⟩,
  ⟨0x6C409, [], 10, .ro, 0, 0xFFFFFFFFFFFFFFFF, [], 0, 3⟩,
  ⟨0x6C40A, [], 10, .ro, 0, 0xFFFFFFFFFFFFFFFF, [], 0, 3⟩,
  ⟨0x6C40B, [], 1, .ro, 0, 0xFFFFFFFF, [], 0, 0⟩,
  ⟨0x6C40C, [], 10, .ro, 0, 0xFFFFFFFFFFFFFFFF, [], 0, 3⟩,
  ⟨0x6C40D, [], 7, .ro, 0, 0xFFFFFFFF, [], 0, 0⟩]
/-- The field rows of this group, part 2. -/
def rows2 : List PointRow := [
  ⟨0x6C40E, [], 10, .ro, 0, 0xFFFFFFFFFFFFFFFF, [], 0, 3⟩,
  ⟨0x6C40F, [], 10, .ro, 0, 0xFFFFFFFFFFFFFFFF, [], 0, 3⟩]
/-- The field rows of this group. -/
def rows : List PointRow := rows1 ++ rows2

end Cal

namespace Saf

/-- R349 `pin_hard_mc`. -/
def pinHardMc (u : Nat) : Nat := 0x70000 + 1024 * u
/-- R349 `ov_margin_mv`. -/
def ovMarginMv (u : Nat) : Nat := 0x70001 + 1024 * u
/-- R349 `pin_sensors`. -/
def pinSensors (u : Nat) : Nat := 0x70002 + 1024 * u
/-- R349 `fn_state`. -/
def fnState (u i : Nat) : Nat := 0x70010 + 1024 * u + i
/-- R349 `trip_cause`. -/
def tripCause (u : Nat) : Nat := 0x70017 + 1024 * u
/-- R349 `trips`. -/
def trips (u : Nat) : Nat := 0x70018 + 1024 * u
/-- R349 `out_state`. -/
def outState (u : Nat) : Nat := 0x70019 + 1024 * u
/-- R349 `ov_limit_mv`. -/
def ovLimitMv (u : Nat) : Nat := 0x7001A + 1024 * u
/-- R349 `t_pin_hard`. -/
def tPinHard (u : Nat) : Nat := 0x7001B + 1024 * u
/-- R349 `backup_discharges`. -/
def backupDischarges (u : Nat) : Nat := 0x7001C + 1024 * u
/-- The field rows of this group, part 1. -/
def rows1 : List PointRow := [
  ⟨0x70000, [(32, 1024)], 2, .rs, 60000, 0x249F0, [], 0x19A28, 4⟩,
  ⟨0x70001, [(32, 1024)], 1, .rs, 0, 50000, [], 10000, 4⟩,
  ⟨0x70002, [(32, 1024)], 8, .rs, 1, 3, [], 3, 4⟩,
  ⟨0x70010, [(32, 1024), (7, 1)], 7, .ro, 0, 0xFFFFFFFF, [], 0, 0⟩,
  ⟨0x70017, [(32, 1024)], 7, .ro, 0, 0xFFFFFFFF, [], 0, 0⟩,
  ⟨0x70018, [(32, 1024)], 10, .ro, 0, 0xFFFFFFFFFFFFFFFF, [], 0, 3⟩,
  ⟨0x70019, [(32, 1024)], 8, .ro, 0, 0xFFFFFFFF, [], 0, 0⟩,
  ⟨0x7001A, [(32, 1024)], 1, .ro, 0, 0xFFFFFFFF, [], 70000, 0⟩,
  ⟨0x7001B, [(32, 1024)], 2, .ro, (-0x80000000), 0x7FFFFFFF, [], 0, 0⟩,
  ⟨0x7001C, [(32, 1024)], 10, .ro, 0, 0xFFFFFFFFFFFFFFFF, [], 0, 3⟩]
/-- The field rows of this group. -/
def rows : List PointRow := rows1

end Saf

namespace SafM

/-- R350 `estop_scope`. -/
def estopScope : Nat := 0x78000
/-- R350 `reset_scope`. -/
def resetScope : Nat := 0x78001
/-- R350 `startup_reset`. -/
def startupReset : Nat := 0x78002
/-- R350 `loop_mode`. -/
def loopMode : Nat := 0x78003
/-- R350 `team_safety`. -/
def teamSafety : Nat := 0x78004
/-- R350 `team_id`. -/
def teamId : Nat := 0x78005
/-- R350 `tp_width_us`. -/
def tpWidthUs : Nat := 0x78006
/-- R350 `safe_in_state`. -/
def safeInState : Nat := 0x78010
/-- R350 `safe_out_state`. -/
def safeOutState : Nat := 0x78011
/-- R350 `fn_state_mod`. -/
def fnStateMod (i : Nat) : Nat := 0x78012 + i
/-- R350 `mod_trip_cause`. -/
def modTripCause : Nat := 0x78015
/-- R350 `team_elapsed_ms`. -/
def teamElapsedMs : Nat := 0x78016
/-- R350 `net_state`. -/
def netState : Nat := 0x78017
/-- R350 `loop_state`. -/
def loopState : Nat := 0x78018
/-- R350 `reset_accepts`. -/
def resetAccepts : Nat := 0x78019
/-- R350 `reset_refused`. -/
def resetRefused : Nat := 0x7801A
/-- R350 `tp_faults`. -/
def tpFaults : Nat := 0x7801B
/-- R350 `tg_rejected`. -/
def tgRejected : Nat := 0x7801C
/-- R350 `tg_mismatch`. -/
def tgMismatch : Nat := 0x7801D
/-- R350 `tg_timeouts`. -/
def tgTimeouts : Nat := 0x7801E
/-- The field rows of this group, part 1. -/
def rows1 : List PointRow := [
  ⟨0x78000, [], 7, .rs, 0, 1, [], 0, 4⟩,
  ⟨0x78001, [], 7, .rs, 0, 1, [], 0, 4⟩,
  ⟨0x78002, [], 7, .rs, 0, 1, [], 1, 4⟩,
  ⟨0x78003, [], 7, .rs, 0, 1, [], 0, 4⟩,
  ⟨0x78004, [], 7, .rs, 0, 1, [], 0, 4⟩,
  ⟨0x78005, [], 1, .rs, 0, 65535, [], 0, 4⟩,
  ⟨0x78006, [], 1, .rs, 100, 300, [], 200, 4⟩,
  ⟨0x78010, [], 8, .ro, 0, 0xFFFFFFFF, [], 0, 0⟩,
  ⟨0x78011, [], 8, .ro, 0, 0xFFFFFFFF, [], 0, 0⟩,
  ⟨0x78012, [(3, 1)], 7, .ro, 0, 0xFFFFFFFF, [], 0, 0⟩,
  ⟨0x78015, [], 7, .ro, 0, 0xFFFFFFFF, [], 0, 0⟩,
  ⟨0x78016, [], 1, .ro, 0, 0xFFFFFFFF, [], 0, 0⟩,
  ⟨0x78017, [], 8, .ro, 0, 0xFFFFFFFF, [], 0, 0⟩,
  ⟨0x78018, [], 7, .ro, 0, 0xFFFFFFFF, [], 0, 0⟩,
  ⟨0x78019, [], 10, .ro, 0, 0xFFFFFFFFFFFFFFFF, [], 0, 3⟩,
  ⟨0x7801A, [], 10, .ro, 0, 0xFFFFFFFFFFFFFFFF, [], 0, 3⟩,
  ⟨0x7801B, [], 10, .ro, 0, 0xFFFFFFFFFFFFFFFF, [], 0, 3⟩,
  ⟨0x7801C, [], 10, .ro, 0, 0xFFFFFFFFFFFFFFFF, [], 0, 3⟩,
  ⟨0x7801D, [], 10, .ro, 0, 0xFFFFFFFFFFFFFFFF, [], 0, 3⟩,
  ⟨0x7801E, [], 10, .ro, 0, 0xFFFFFFFFFFFFFFFF, [], 0, 3⟩]
/-- The field rows of this group. -/
def rows : List PointRow := rows1

end SafM

namespace Slot

/-- R164 `entry_hi`. -/
def entryHi (u : Nat) : Nat := 0x80000 + 32 * u
/-- R164 `entry_lo`. -/
def entryLo (u : Nat) : Nat := 0x80001 + 32 * u
/-- R164 `b`. -/
def b (u i : Nat) : Nat := 0x80002 + 32 * u + i
/-- R164 `a`. -/
def a (u i : Nat) : Nat := 0x80006 + 32 * u + i
/-- R164 `out_lo`. -/
def outLo (u : Nat) : Nat := 0x80009 + 32 * u
/-- R164 `out_hi`. -/
def outHi (u : Nat) : Nat := 0x8000A + 32 * u
/-- R164 `ref_gain`. -/
def refGain (u : Nat) : Nat := 0x8000B + 32 * u
/-- R164 `fb_gain`. -/
def fbGain (u : Nat) : Nat := 0x8000C + 32 * u
/-- R164 `k_ramp`. -/
def kRamp (u : Nat) : Nat := 0x8000D + 32 * u
/-- R164 `vff_nom`. -/
def vffNom (u : Nat) : Nat := 0x8000E + 32 * u
/-- R164 `vff_min`. -/
def vffMin (u : Nat) : Nat := 0x8000F + 32 * u
/-- R164 `ref_value`. -/
def refValue (u : Nat) : Nat := 0x80010 + 32 * u
/-- R164 `init_out`. -/
def initOut (u : Nat) : Nat := 0x80011 + 32 * u
/-- R164 `move_from`. -/
def moveFrom (u : Nat) : Nat := 0x80012 + 32 * u
/-- R164 `scale_ref`. -/
def scaleRef (u : Nat) : Nat := 0x80013 + 32 * u
/-- R164 `scale_kind`. -/
def scaleKind (u : Nat) : Nat := 0x80014 + 32 * u
/-- R164 `hist_reset`. -/
def histReset (u : Nat) : Nat := 0x80015 + 32 * u
/-- R164 `output`. -/
def output (u : Nat) : Nat := 0x80016 + 32 * u
/-- R164 `error`. -/
def error (u : Nat) : Nat := 0x80017 + 32 * u
/-- R164 `generation`. -/
def generation (u : Nat) : Nat := 0x80018 + 32 * u
/-- R164 `lim_hits`. -/
def limHits (u : Nat) : Nat := 0x80019 + 32 * u
/-- R164 `sat_events`. -/
def satEvents (u : Nat) : Nat := 0x8001A + 32 * u
/-- R164 `skips`. -/
def skips (u : Nat) : Nat := 0x8001B + 32 * u
/-- R164 `duty_holds`. -/
def dutyHolds (u : Nat) : Nat := 0x8001C + 32 * u
/-- R164 `test_fails`. -/
def testFails (u : Nat) : Nat := 0x8001D + 32 * u
/-- The field rows of this group, part 1. -/
def rows1 : List PointRow := [
  ⟨0x80000, [(2048, 32)], 8, .rs, 0, 0xFFFFFFFF, [], 0, 4⟩,
  ⟨0x80001, [(2048, 32)], 8, .rs, 0, 0xFFFFFFFF, [], 0, 4⟩,
  ⟨0x80002, [(2048, 32), (4, 1)], 6, .rs, (-0x80000000), 0x7FFFFFFF, [], 0, 4⟩,
  ⟨0x80006, [(2048, 32), (3, 1)], 6, .rs, (-0x80000000), 0x7FFFFFFF, [], 0, 4⟩,
  ⟨0x80009, [(2048, 32)], 5, .rs, (-0x80000000), 0x7FFFFFFF, [], (-0x80000000), 4⟩,
  ⟨0x8000A, [(2048, 32)], 5, .rs, (-0x80000000), 0x7FFFFFFF, [], 0x7FFFFFFF, 4⟩,
  ⟨0x8000B, [(2048, 32)], 6, .rs, (-0x80000000), 0x7FFFFFFF, [], 0x10000000, 4⟩,
  ⟨0x8000C, [(2048, 32)], 6, .rs, (-0x80000000), 0x7FFFFFFF, [], 0x10000000, 4⟩,
  ⟨0x8000D, [(2048, 32)], 6, .rs, (-0x80000000), 0x7FFFFFFF, [], 0, 4⟩,
  ⟨0x8000E, [(2048, 32)], 5, .rs, (-0x80000000), 0x7FFFFFFF, [], 0x66666666, 4⟩,
  ⟨0x8000F, [(2048, 32)], 5, .rs, (-0x80000000), 0x7FFFFFFF, [], 0x33333333, 4⟩,
  ⟨0x80010, [(2048, 32)], 5, .rs, (-0x80000000), 0x7FFFFFFF, [], 0, 4⟩,
  ⟨0x80011, [(2048, 32)], 5, .rs, (-0x80000000), 0x7FFFFFFF, [], 0, 4⟩,
  ⟨0x80012, [(2048, 32)], 1, .rs, 0, 2047, [0xFFFFFFFF], 0xFFFFFFFF, 4⟩,
  ⟨0x80013, [(2048, 32)], 1, .rs, 0, 0xFFFFFFFF, [], 0, 4⟩,
  ⟨0x80014, [(2048, 32)], 7, .rs, 0, 4, [], 0, 4⟩,
  ⟨0x80015, [(2048, 32)], 1, .wo, 1, 1, [], 0, 0⟩,
  ⟨0x80016, [(2048, 32)], 5, .ro, (-0x80000000), 0x7FFFFFFF, [], 0, 0⟩,
  ⟨0x80017, [(2048, 32)], 5, .ro, (-0x80000000), 0x7FFFFFFF, [], 0, 0⟩,
  ⟨0x80018, [(2048, 32)], 1, .ro, 0, 0xFFFFFFFF, [], 0, 0⟩,
  ⟨0x80019, [(2048, 32)], 10, .ro, 0, 0xFFFFFFFFFFFFFFFF, [], 0, 3⟩,
  ⟨0x8001A, [(2048, 32)], 10, .ro, 0, 0xFFFFFFFFFFFFFFFF, [], 0, 3⟩,
  ⟨0x8001B, [(2048, 32)], 10, .ro, 0, 0xFFFFFFFFFFFFFFFF, [], 0, 3⟩,
  ⟨0x8001C, [(2048, 32)], 10, .ro, 0, 0xFFFFFFFFFFFFFFFF, [], 0, 3⟩]
/-- The field rows of this group, part 2. -/
def rows2 : List PointRow := [
  ⟨0x8001D, [(2048, 32)], 10, .ro, 0, 0xFFFFFFFFFFFFFFFF, [], 0, 3⟩]
/-- The field rows of this group. -/
def rows : List PointRow := rows1 ++ rows2

end Slot

namespace Hp

/-- R367 `lane_state`. -/
def laneState : Nat := 0x90100
/-- R367 `health_flags`. -/
def healthFlags : Nat := 0x90101
/-- R367 `health_mask`. -/
def healthMask : Nat := 0x90102
/-- R367 `give_up_cause`. -/
def giveUpCause : Nat := 0x90103
/-- R367 `give_ups`. -/
def giveUps : Nat := 0x90104
/-- R367 `grants`. -/
def grants : Nat := 0x90105
/-- R367 `live_misses`. -/
def liveMisses : Nat := 0x90106
/-- R367 `baton_rejects`. -/
def batonRejects : Nat := 0x90107
/-- R367 `resync_phase`. -/
def resyncPhase : Nat := 0x90108
/-- R367 `resync_progress`. -/
def resyncProgress : Nat := 0x90109
/-- R367 `resyncs`. -/
def resyncs : Nat := 0x9010A
/-- R367 `resync_restarts`. -/
def resyncRestarts : Nat := 0x9010B
/-- R367 `in_step_since`. -/
def inStepSince : Nat := 0x9010C
/-- R367 `cb_mismatch`. -/
def cbMismatch : Nat := 0x9010D
/-- R367 `cb_mismatch_link`. -/
def cbMismatchLink : Nat := 0x9010E
/-- R367 `commit_disagree`. -/
def commitDisagree : Nat := 0x9010F
/-- R367 `session_mismatch`. -/
def sessionMismatch : Nat := 0x90110
/-- R367 `test_vectors_run`. -/
def testVectorsRun : Nat := 0x90111
/-- R367 `test_vectors_failed`. -/
def testVectorsFailed : Nat := 0x90112
/-- R367 `take_notice_misses`. -/
def takeNoticeMisses : Nat := 0x90113
/-- R367 `lane_link_errors`. -/
def laneLinkErrors : Nat := 0x90114
/-- R367 `fw_bank`. -/
def fwBank : Nat := 0x90115
/-- R367 `fw_compat`. -/
def fwCompat : Nat := 0x90116
/-- R367 `fw_compat_min`. -/
def fwCompatMin : Nat := 0x90117
/-- R367 `cartridge_serial`. -/
def cartridgeSerial : Nat := 0x90118
/-- R367 `op_hours`. -/
def opHours : Nat := 0x90119
/-- The field rows of this group, part 1. -/
def rows1 : List PointRow := [
  ⟨0x90100, [], 7, .ro, 0, 0xFFFFFFFF, [], 0, 0⟩,
  ⟨0x90101, [], 8, .ro, 0, 0xFFFFFFFF, [], 0, 0⟩,
  ⟨0x90102, [], 8, .rs, 0, 0xFFFFFFFF, [], 0xFFFFFFFF, 4⟩,
  ⟨0x90103, [], 7, .ro, 0, 0xFFFFFFFF, [], 0, 0⟩,
  ⟨0x90104, [], 10, .ro, 0, 0xFFFFFFFFFFFFFFFF, [], 0, 3⟩,
  ⟨0x90105, [], 10, .ro, 0, 0xFFFFFFFFFFFFFFFF, [], 0, 3⟩,
  ⟨0x90106, [], 10, .ro, 0, 0xFFFFFFFFFFFFFFFF, [], 0, 3⟩,
  ⟨0x90107, [], 10, .ro, 0, 0xFFFFFFFFFFFFFFFF, [], 0, 3⟩,
  ⟨0x90108, [], 7, .ro, 0, 0xFFFFFFFF, [], 0, 0⟩,
  ⟨0x90109, [], 1, .ro, 0, 0xFFFFFFFF, [], 0, 0⟩,
  ⟨0x9010A, [], 10, .ro, 0, 0xFFFFFFFFFFFFFFFF, [], 0, 3⟩,
  ⟨0x9010B, [], 10, .ro, 0, 0xFFFFFFFFFFFFFFFF, [], 0, 3⟩,
  ⟨0x9010C, [], 9, .ro, 0, 0xFFFFFFFFFFFFFFFF, [], 0, 0⟩,
  ⟨0x9010D, [], 10, .ro, 0, 0xFFFFFFFFFFFFFFFF, [], 0, 3⟩,
  ⟨0x9010E, [], 10, .ro, 0, 0xFFFFFFFFFFFFFFFF, [], 0, 3⟩,
  ⟨0x9010F, [], 10, .ro, 0, 0xFFFFFFFFFFFFFFFF, [], 0, 3⟩,
  ⟨0x90110, [], 10, .ro, 0, 0xFFFFFFFFFFFFFFFF, [], 0, 3⟩,
  ⟨0x90111, [], 10, .ro, 0, 0xFFFFFFFFFFFFFFFF, [], 0, 3⟩,
  ⟨0x90112, [], 10, .ro, 0, 0xFFFFFFFFFFFFFFFF, [], 0, 3⟩,
  ⟨0x90113, [], 10, .ro, 0, 0xFFFFFFFFFFFFFFFF, [], 0, 3⟩,
  ⟨0x90114, [], 10, .ro, 0, 0xFFFFFFFFFFFFFFFF, [], 0, 3⟩,
  ⟨0x90115, [], 7, .ro, 0, 0xFFFFFFFF, [], 0, 0⟩,
  ⟨0x90116, [], 1, .ro, 0, 0xFFFFFFFF, [], 0, 0⟩,
  ⟨0x90117, [], 1, .ro, 0, 0xFFFFFFFF, [], 0, 0⟩]
/-- The field rows of this group, part 2. -/
def rows2 : List PointRow := [
  ⟨0x90118, [], 3, .ro, 0, 0xFFFFFFFFFFFFFFFF, [], 0, 0⟩,
  ⟨0x90119, [], 1, .ro, 0, 0xFFFFFFFF, [], 0, 0⟩]
/-- The field rows of this group. -/
def rows : List PointRow := rows1 ++ rows2

end Hp

namespace Pc

/-- R113 `pacer_source`. -/
def pacerSource : Nat := 0x90200
/-- R113 `refin_freq`. -/
def refinFreq : Nat := 0x90201
/-- R113 `synci_cable_ns`. -/
def synciCableNs : Nat := 0x90202
/-- R113 `ptp_domain`. -/
def ptpDomain : Nat := 0x90203
/-- R113 `ptp_priority1`. -/
def ptpPriority1 : Nat := 0x90204
/-- R113 `tod_set`. -/
def todSet : Nat := 0x90205
/-- R113 `pacer_state`. -/
def pacerState : Nat := 0x90210
/-- R113 `freq_offset`. -/
def freqOffset : Nat := 0x90211
/-- R113 `phase_error`. -/
def phaseError : Nat := 0x90212
/-- R113 `epoch_misaligned`. -/
def epochMisaligned : Nat := 0x90213
/-- R113 `refin_losses`. -/
def refinLosses : Nat := 0x90214
/-- R113 `synci_losses`. -/
def synciLosses : Nat := 0x90215
/-- R113 `band`. -/
def band : Nat := 0x90216
/-- R113 `ptp_state`. -/
def ptpState : Nat := 0x90217
/-- R113 `ptp_offset`. -/
def ptpOffset : Nat := 0x90218
/-- The field rows of this group, part 1. -/
def rows1 : List PointRow := [
  ⟨0x90200, [], 7, .rs, 0, 3, [], 0, 4⟩,
  ⟨0x90201, [], 7, .rs, 0, 1, [], 0, 4⟩,
  ⟨0x90202, [], 1, .rs, 0, 5000, [], 0, 4⟩,
  ⟨0x90203, [], 1, .rs, 0, 127, [], 0, 4⟩,
  ⟨0x90204, [], 1, .rs, 0, 255, [], 128, 4⟩,
  ⟨0x90205, [], 9, .wo, 0, 0xFFFFFFFFFFFFFFFF, [], 0, 0⟩,
  ⟨0x90210, [], 7, .ro, 0, 0xFFFFFFFF, [], 0, 0⟩,
  ⟨0x90211, [], 2, .ro, (-0x80000000), 0x7FFFFFFF, [], 0, 0⟩,
  ⟨0x90212, [], 2, .ro, (-0x80000000), 0x7FFFFFFF, [], 0, 0⟩,
  ⟨0x90213, [], 2, .ro, (-0x80000000), 0x7FFFFFFF, [], 0, 0⟩,
  ⟨0x90214, [], 10, .ro, 0, 0xFFFFFFFFFFFFFFFF, [], 0, 3⟩,
  ⟨0x90215, [], 10, .ro, 0, 0xFFFFFFFFFFFFFFFF, [], 0, 3⟩,
  ⟨0x90216, [], 1, .ro, 0, 0xFFFFFFFF, [], 0, 0⟩,
  ⟨0x90217, [], 7, .ro, 0, 0xFFFFFFFF, [], 0, 0⟩,
  ⟨0x90218, [], 4, .ro, (-0x8000000000000000), 0x7FFFFFFFFFFFFFFF, [], 0, 0⟩]
/-- The field rows of this group. -/
def rows : List PointRow := rows1

end Pc

namespace Al

/-- R217 `alloc_overruns`. -/
def allocOverruns : Nat := 0x90300
/-- R217 `alloc_end_lap`. -/
def allocEndLap : Nat := 0x90301
/-- R217 `alloc_end_lap_max`. -/
def allocEndLapMax : Nat := 0x90302
/-- R217 `alloc_digest_mismatch`. -/
def allocDigestMismatch : Nat := 0x90303
/-- R217 `team_reports_missing`. -/
def teamReportsMissing : Nat := 0x90304
/-- The field rows of this group, part 1. -/
def rows1 : List PointRow := [
  ⟨0x90300, [], 10, .ro, 0, 0xFFFFFFFFFFFFFFFF, [], 0, 3⟩,
  ⟨0x90301, [], 1, .ro, 0, 0xFFFFFFFF, [], 0, 0⟩,
  ⟨0x90302, [], 1, .ro, 0, 0xFFFFFFFF, [], 0, 0⟩,
  ⟨0x90303, [], 10, .ro, 0, 0xFFFFFFFFFFFFFFFF, [], 0, 3⟩,
  ⟨0x90304, [], 10, .ro, 0, 0xFFFFFFFFFFFFFFFF, [], 0, 3⟩]
/-- The field rows of this group. -/
def rows : List PointRow := rows1

end Al

namespace Mp

/-- R284 `mp_image_id`. -/
def mpImageId : Nat := 0x90400
/-- R284 `mp_crc`. -/
def mpCrc : Nat := 0x90401
/-- R284 `mp_state`. -/
def mpState : Nat := 0x90402
/-- R284 `ref_state`. -/
def refState : Nat := 0x90403
/-- R284 `ref_dev_ppm`. -/
def refDevPpm : Nat := 0x90404
/-- The field rows of this group, part 1. -/
def rows1 : List PointRow := [
  ⟨0x90400, [], 3, .ro, 0, 0xFFFFFFFFFFFFFFFF, [], 0, 0⟩,
  ⟨0x90401, [], 1, .ro, 0, 0xFFFFFFFF, [], 0, 0⟩,
  ⟨0x90402, [], 7, .ro, 0, 0xFFFFFFFF, [], 0, 0⟩,
  ⟨0x90403, [], 7, .ro, 0, 0xFFFFFFFF, [], 0, 0⟩,
  ⟨0x90404, [], 2, .ro, (-0x80000000), 0x7FFFFFFF, [], 0, 0⟩]
/-- The field rows of this group. -/
def rows : List PointRow := rows1

end Mp

namespace Key

/-- R379 `role_secc`. -/
def roleSecc : Nat := 0x90500
/-- R379 `role_meter_sign`. -/
def roleMeterSign : Nat := 0x90501
/-- R379 `role_team`. -/
def roleTeam : Nat := 0x90502
/-- R379 `role_update`. -/
def roleUpdate (i : Nat) : Nat := 0x90503 + i
/-- R379 `role_anchor`. -/
def roleAnchor (i : Nat) : Nat := 0x90507 + i
/-- R379 `key_counter`. -/
def keyCounter : Nat := 0x90510
/-- R379 `slots_valid`. -/
def slotsValid : Nat := 0x90511
/-- R379 `slots_orphaned`. -/
def slotsOrphaned : Nat := 0x90512
/-- R379 `updates_applied`. -/
def updatesApplied : Nat := 0x90513
/-- R379 `updates_refused`. -/
def updatesRefused : Nat := 0x90514
/-- R379 `engine_refusals`. -/
def engineRefusals : Nat := 0x90515
/-- R379 `last_refusal`. -/
def lastRefusal : Nat := 0x90516
/-- R379 `update_block`. -/
def updateBlock : Nat := 0x90517
/-- R379 `store_serial_ok`. -/
def storeSerialOk : Nat := 0x90518
/-- The field rows of this group, part 1. -/
def rows1 : List PointRow := [
  ⟨0x90500, [], 1, .rs, 16, 767, [], 0xFFFFFFFF, 4⟩,
  ⟨0x90501, [], 1, .rs, 16, 767, [], 0xFFFFFFFF, 4⟩,
  ⟨0x90502, [], 1, .rs, 16, 767, [], 0xFFFFFFFF, 4⟩,
  ⟨0x90503, [(4, 1)], 1, .rs, 16, 767, [], 0xFFFFFFFF, 4⟩,
  ⟨0x90507, [(8, 1)], 1, .rs, 16, 767, [], 0xFFFFFFFF, 4⟩,
  ⟨0x90510, [], 3, .ro, 0, 0xFFFFFFFFFFFFFFFF, [], 0, 0⟩,
  ⟨0x90511, [], 1, .ro, 0, 0xFFFFFFFF, [], 0, 0⟩,
  ⟨0x90512, [], 1, .ro, 0, 0xFFFFFFFF, [], 0, 0⟩,
  ⟨0x90513, [], 10, .ro, 0, 0xFFFFFFFFFFFFFFFF, [], 0, 3⟩,
  ⟨0x90514, [], 10, .ro, 0, 0xFFFFFFFFFFFFFFFF, [], 0, 3⟩,
  ⟨0x90515, [], 10, .ro, 0, 0xFFFFFFFFFFFFFFFF, [], 0, 3⟩,
  ⟨0x90516, [], 1, .ro, 0, 0xFFFFFFFF, [], 0, 0⟩,
  ⟨0x90517, [], 7, .ro, 0, 0xFFFFFFFF, [], 0, 0⟩,
  ⟨0x90518, [], 7, .ro, 0, 0xFFFFFFFF, [], 0, 0⟩]
/-- The field rows of this group. -/
def rows : List PointRow := rows1

end Key

namespace Team

/-- R394 `team_lvl`. -/
def teamLvl (i : Nat) : Nat := 0x90600 + 8 * i
/-- R394 `team_members`. -/
def teamMembers (i : Nat) : Nat := 0x90601 + 8 * i
/-- R394 `member_states`. -/
def memberStates (i : Nat) : Nat := 0x90602 + 8 * i
/-- R394 `epoch_offset`. -/
def epochOffset (i : Nat) : Nat := 0x90603 + 8 * i
/-- R394 `ring_state`. -/
def ringState : Nat := 0x90640
/-- R394 `team_auth_fail`. -/
def teamAuthFail : Nat := 0x90641
/-- R394 `team_dup`. -/
def teamDup : Nat := 0x90642
/-- R394 `team_ttl_drops`. -/
def teamTtlDrops : Nat := 0x90643
/-- R394 `transit_max_us`. -/
def transitMaxUs : Nat := 0x90644
/-- R394 `team_trig_late`. -/
def teamTrigLate : Nat := 0x90645
/-- R394 `member_conflicts`. -/
def memberConflicts : Nat := 0x90646
/-- The field rows of this group, part 1. -/
def rows1 : List PointRow := [
  ⟨0x90600, [(8, 8)], 8, .rs, 0, 0xFFFFFFFF, [], 0, 4⟩,
  ⟨0x90601, [(8, 8)], 8, .ro, 0, 0xFFFFFFFF, [], 0, 0⟩,
  ⟨0x90602, [(8, 8)], 8, .ro, 0, 0xFFFFFFFF, [], 0, 0⟩,
  ⟨0x90603, [(8, 8)], 4, .ro, (-0x8000000000000000), 0x7FFFFFFFFFFFFFFF, [], 0, 0⟩,
  ⟨0x90640, [], 8, .ro, 0, 0xFFFFFFFF, [], 0, 0⟩,
  ⟨0x90641, [], 10, .ro, 0, 0xFFFFFFFFFFFFFFFF, [], 0, 3⟩,
  ⟨0x90642, [], 10, .ro, 0, 0xFFFFFFFFFFFFFFFF, [], 0, 3⟩,
  ⟨0x90643, [], 10, .ro, 0, 0xFFFFFFFFFFFFFFFF, [], 0, 3⟩,
  ⟨0x90644, [], 1, .ro, 0, 0xFFFFFFFF, [], 0, 0⟩,
  ⟨0x90645, [], 10, .ro, 0, 0xFFFFFFFFFFFFFFFF, [], 0, 3⟩,
  ⟨0x90646, [], 10, .ro, 0, 0xFFFFFFFFFFFFFFFF, [], 0, 3⟩]
/-- The field rows of this group. -/
def rows : List PointRow := rows1

end Team

namespace Ta

/-- R454 `tune_state`. -/
def tuneState : Nat := 0x90700
/-- R454 `tune_slot`. -/
def tuneSlot : Nat := 0x90701
/-- R454 `tune_cause`. -/
def tuneCause : Nat := 0x90702
/-- R454 `tune_progress`. -/
def tuneProgress : Nat := 0x90703
/-- R454 `tune_guard_dev_a`. -/
def tuneGuardDevA : Nat := 0x90704
/-- R454 `tune_runs`. -/
def tuneRuns : Nat := 0x90705
/-- R454 `tune_aborts`. -/
def tuneAborts : Nat := 0x90706
/-- R454 `trace_state`. -/
def traceState : Nat := 0x90710
/-- R454 `trace_trig_lap`. -/
def traceTrigLap : Nat := 0x90711
/-- R454 `trace_trig_ignored`. -/
def traceTrigIgnored : Nat := 0x90712
/-- R454 `acq_partition_mib`. -/
def acqPartitionMib : Nat := 0x90720
/-- R454 `acq_state`. -/
def acqState : Nat := 0x90721
/-- R454 `acq_free_mib`. -/
def acqFreeMib : Nat := 0x90722
/-- R454 `acq_trig_ignored`. -/
def acqTrigIgnored : Nat := 0x90723
/-- R454 `acq_overflow_entries`. -/
def acqOverflowEntries : Nat := 0x90724
/-- R454 `acq_paused_ms`. -/
def acqPausedMs : Nat := 0x90725
/-- R454 `acq_trig`. -/
def acqTrig (i : Nat) : Nat := 0x90740 + i
/-- R454 `acq_thr`. -/
def acqThr (i : Nat) : Nat := 0x90744 + i
/-- R454 `trig_out`. -/
def trigOut (i : Nat) : Nat := 0x90750 + i
/-- The field rows of this group, part 1. -/
def rows1 : List PointRow := [
  ⟨0x90700, [], 7, .ro, 0, 0xFFFFFFFF, [], 0, 0⟩,
  ⟨0x90701, [], 1, .ro, 0, 0xFFFFFFFF, [], 0, 0⟩,
  ⟨0x90702, [], 7, .ro, 0, 0xFFFFFFFF, [], 0, 0⟩,
  ⟨0x90703, [], 1, .ro, 0, 0xFFFFFFFF, [], 0, 0⟩,
  ⟨0x90704, [], 2, .ro, (-0x80000000), 0x7FFFFFFF, [], 0, 0⟩,
  ⟨0x90705, [], 10, .ro, 0, 0xFFFFFFFFFFFFFFFF, [], 0, 3⟩,
  ⟨0x90706, [], 10, .ro, 0, 0xFFFFFFFFFFFFFFFF, [], 0, 3⟩,
  ⟨0x90710, [], 7, .ro, 0, 0xFFFFFFFF, [], 0, 0⟩,
  ⟨0x90711, [], 3, .ro, 0, 0xFFFFFFFFFFFFFFFF, [], 0, 0⟩,
  ⟨0x90712, [], 10, .ro, 0, 0xFFFFFFFFFFFFFFFF, [], 0, 3⟩,
  ⟨0x90720, [], 1, .rs, 0, 4096, [], 4096, 4⟩,
  ⟨0x90721, [], 7, .ro, 0, 0xFFFFFFFF, [], 0, 0⟩,
  ⟨0x90722, [], 1, .ro, 0, 0xFFFFFFFF, [], 0, 0⟩,
  ⟨0x90723, [], 10, .ro, 0, 0xFFFFFFFFFFFFFFFF, [], 0, 3⟩,
  ⟨0x90724, [], 10, .ro, 0, 0xFFFFFFFFFFFFFFFF, [], 0, 3⟩,
  ⟨0x90725, [], 10, .ro, 0, 0xFFFFFFFFFFFFFFFF, [], 0, 3⟩,
  ⟨0x90740, [(4, 1)], 8, .rs, 0, 0xFFFFFFFF, [], 0, 4⟩,
  ⟨0x90744, [(4, 1)], 4, .rs, (-0x8000000000000000), 0x7FFFFFFFFFFFFFFF, [], 0, 4⟩,
  ⟨0x90750, [(2, 1)], 7, .rs, 0, 4, [], 0, 4⟩]
/-- The field rows of this group. -/
def rows : List PointRow := rows1

end Ta

namespace Pb

/-- R454 `probe`. -/
def probe (i j : Nat) : Nat := 0x90800 + 8 * i + j
/-- The field rows of this group, part 1. -/
def rows1 : List PointRow := [
  ⟨0x90800, [(2, 8), (8, 1)], 8, .rs, 0, 0xFFFFFFFF, [], 0, 4⟩]
/-- The field rows of this group. -/
def rows : List PointRow := rows1

end Pb

namespace Wat

/-- R91 `watch_addr`. -/
def watchAddr (u : Nat) : Nat := 0x90900 + 8 * u
/-- R91 `watch_dir`. -/
def watchDir (u : Nat) : Nat := 0x90901 + 8 * u
/-- R91 `watch_thr`. -/
def watchThr (u : Nat) : Nat := 0x90902 + 8 * u
/-- R91 `watch_hyst`. -/
def watchHyst (u : Nat) : Nat := 0x90903 + 8 * u
/-- R91 `watch_fires`. -/
def watchFires (u : Nat) : Nat := 0x90904 + 8 * u
/-- The field rows of this group, part 1. -/
def rows1 : List PointRow := [
  ⟨0x90900, [(3, 8)], 1, .rs, 0, 0xFFFFF, [], 0, 4⟩,
  ⟨0x90901, [(3, 8)], 7, .rs, 0, 3, [], 0, 4⟩,
  ⟨0x90902, [(3, 8)], 4, .rs, (-0x8000000000000000), 0x7FFFFFFFFFFFFFFF, [], 0, 4⟩,
  ⟨0x90903, [(3, 8)], 3, .rs, 0, 0xFFFFFFFFFFFFFFFF, [], 0, 4⟩,
  ⟨0x90904, [(3, 8)], 10, .ro, 0, 0xFFFFFFFFFFFFFFFF, [], 0, 3⟩]
/-- The field rows of this group. -/
def rows : List PointRow := rows1

end Wat

namespace Pw

/-- R475 `power_state`. -/
def powerState : Nat := 0x90A00
/-- R475 `auto_sleep`. -/
def autoSleep : Nat := 0x90A01
/-- R475 `sleep_idle_s`. -/
def sleepIdleS : Nat := 0x90A02
/-- R475 `sleep_min_s`. -/
def sleepMinS : Nat := 0x90A03
/-- R475 `tt_lead_s`. -/
def ttLeadS : Nat := 0x90A04
/-- R475 `wake_mask`. -/
def wakeMask : Nat := 0x90A05
/-- R475 `pwr_in_mv`. -/
def pwrInMv : Nat := 0x90A10
/-- R475 `holdup_ms`. -/
def holdupMs : Nat := 0x90A11
/-- R475 `clock_gate`. -/
def clockGate : Nat := 0x90A12
/-- R475 `last_wake_source`. -/
def lastWakeSource : Nat := 0x90A13
/-- R475 `wake_ms`. -/
def wakeMs : Nat := 0x90A14
/-- R475 `wake_max_ms`. -/
def wakeMaxMs : Nat := 0x90A15
/-- R475 `start_ms`. -/
def startMs : Nat := 0x90A16
/-- R475 `sleeps`. -/
def sleeps : Nat := 0x90A17
/-- R475 `sleep_refusals`. -/
def sleepRefusals : Nat := 0x90A18
/-- R475 `cold_starts`. -/
def coldStarts : Nat := 0x90A19
/-- R475 `tt_entries`. -/
def ttEntries : Nat := 0x90A1A
/-- R475 `tt_next_due_ms`. -/
def ttNextDueMs : Nat := 0x90A1B
/-- The field rows of this group, part 1. -/
def rows1 : List PointRow := [
  ⟨0x90A00, [], 7, .ro, 0, 0xFFFFFFFF, [], 0, 0⟩,
  ⟨0x90A01, [], 7, .rs, 0, 1, [], 0, 4⟩,
  ⟨0x90A02, [], 1, .rs, 10, 0x15180, [], 300, 4⟩,
  ⟨0x90A03, [], 1, .rs, 60, 0x15180, [], 600, 4⟩,
  ⟨0x90A04, [], 1, .rs, 10, 3600, [], 90, 4⟩,
  ⟨0x90A05, [], 8, .rs, 0, 31, [], 31, 4⟩,
  ⟨0x90A10, [], 1, .ro, 0, 0xFFFFFFFF, [], 0, 0⟩,
  ⟨0x90A11, [], 1, .ro, 0, 0xFFFFFFFF, [], 0, 0⟩,
  ⟨0x90A12, [], 8, .ro, 0, 0xFFFFFFFF, [], 0, 0⟩,
  ⟨0x90A13, [], 7, .ro, 0, 0xFFFFFFFF, [], 0, 0⟩,
  ⟨0x90A14, [], 1, .ro, 0, 0xFFFFFFFF, [], 0, 0⟩,
  ⟨0x90A15, [], 1, .ro, 0, 0xFFFFFFFF, [], 0, 0⟩,
  ⟨0x90A16, [], 1, .ro, 0, 0xFFFFFFFF, [], 0, 0⟩,
  ⟨0x90A17, [], 10, .ro, 0, 0xFFFFFFFFFFFFFFFF, [], 0, 3⟩,
  ⟨0x90A18, [], 10, .ro, 0, 0xFFFFFFFFFFFFFFFF, [], 0, 3⟩,
  ⟨0x90A19, [], 10, .ro, 0, 0xFFFFFFFFFFFFFFFF, [], 0, 3⟩,
  ⟨0x90A1A, [], 1, .ro, 0, 0xFFFFFFFF, [], 0, 0⟩,
  ⟨0x90A1B, [], 3, .ro, 0, 0xFFFFFFFFFFFFFFFF, [], 0, 0⟩]
/-- The field rows of this group. -/
def rows : List PointRow := rows1

end Pw

namespace Th

/-- R490 `t_max`. -/
def tMax : Nat := 0x90B00
/-- R490 `t_band`. -/
def tBand : Nat := 0x90B01
/-- R490 `t_sensor`. -/
def tSensor (i : Nat) : Nat := 0x90B02 + i
/-- R490 `t_failed`. -/
def tFailed : Nat := 0x90B10
/-- R490 `band_changes`. -/
def bandChanges : Nat := 0x90B11
/-- R490 `clk_div`. -/
def clkDiv : Nat := 0x90B12
/-- R490 `optics_set`. -/
def opticsSet : Nat := 0x90B13
/-- R490 `rail_faults`. -/
def railFaults : Nat := 0x90B14
/-- R490 `fan_rpm`. -/
def fanRpm (i : Nat) : Nat := 0x90B15 + i
/-- R490 `critical_shutdowns`. -/
def criticalShutdowns : Nat := 0x90B19
/-- R490 `thermal_record`. -/
def thermalRecord (i : Nat) : Nat := 0x90B20 + i
/-- R490 `dram_inner_ce`. -/
def dramInnerCe : Nat := 0x90B40
/-- R490 `dram_outer_ce`. -/
def dramOuterCe : Nat := 0x90B41
/-- R490 `dram_ue`. -/
def dramUe : Nat := 0x90B42
/-- R490 `ue_last_line`. -/
def ueLastLine : Nat := 0x90B43
/-- R490 `scrub_passes`. -/
def scrubPasses : Nat := 0x90B44
/-- R490 `scrub_progress`. -/
def scrubProgress : Nat := 0x90B45
/-- R490 `dev_failed`. -/
def devFailed : Nat := 0x90B46
/-- R490 `dev_ce`. -/
def devCe (i : Nat) : Nat := 0x90B47 + i
/-- R490 `ce_thr_inner`. -/
def ceThrInner : Nat := 0x90B52
/-- R490 `ce_thr_outer`. -/
def ceThrOuter : Nat := 0x90B53
/-- The field rows of this group, part 1. -/
def rows1 : List PointRow := [
  ⟨0x90B00, [], 2, .ro, (-0x80000000), 0x7FFFFFFF, [], 0, 0⟩,
  ⟨0x90B01, [], 7, .ro, 0, 0xFFFFFFFF, [], 0, 0⟩,
  ⟨0x90B02, [(14, 1)], 2, .ro, (-0x80000000), 0x7FFFFFFF, [], 0, 0⟩,
  ⟨0x90B10, [], 8, .ro, 0, 0xFFFFFFFF, [], 0, 0⟩,
  ⟨0x90B11, [], 10, .ro, 0, 0xFFFFFFFFFFFFFFFF, [], 0, 3⟩,
  ⟨0x90B12, [], 1, .ro, 0, 0xFFFFFFFF, [], 1, 0⟩,
  ⟨0x90B13, [], 1, .ro, 0, 0xFFFFFFFF, [], 0, 0⟩,
  ⟨0x90B14, [], 8, .ro, 0, 0xFFFFFFFF, [], 0, 0⟩,
  ⟨0x90B15, [(4, 1)], 1, .ro, 0, 0xFFFFFFFF, [], 0, 0⟩,
  ⟨0x90B19, [], 10, .ro, 0, 0xFFFFFFFFFFFFFFFF, [], 0, 3⟩,
  ⟨0x90B20, [(8, 1)], 3, .ro, 0, 0xFFFFFFFFFFFFFFFF, [], 0, 0⟩,
  ⟨0x90B40, [], 10, .ro, 0, 0xFFFFFFFFFFFFFFFF, [], 0, 3⟩,
  ⟨0x90B41, [], 10, .ro, 0, 0xFFFFFFFFFFFFFFFF, [], 0, 3⟩,
  ⟨0x90B42, [], 10, .ro, 0, 0xFFFFFFFFFFFFFFFF, [], 0, 3⟩,
  ⟨0x90B43, [], 3, .ro, 0, 0xFFFFFFFFFFFFFFFF, [], 0, 0⟩,
  ⟨0x90B44, [], 10, .ro, 0, 0xFFFFFFFFFFFFFFFF, [], 0, 3⟩,
  ⟨0x90B45, [], 1, .ro, 0, 0xFFFFFFFF, [], 0, 0⟩,
  ⟨0x90B46, [], 8, .ro, 0, 0xFFFFFFFF, [], 0, 0⟩,
  ⟨0x90B47, [(11, 1)], 10, .ro, 0, 0xFFFFFFFFFFFFFFFF, [], 0, 3⟩,
  ⟨0x90B52, [], 1, .rs, 1, 0xF4240, [], 1000, 4⟩,
  ⟨0x90B53, [], 1, .rs, 1, 0x186A0, [], 16, 4⟩]
/-- The field rows of this group. -/
def rows : List PointRow := rows1

end Th

namespace Sd

/-- R530 `stale_discards`. -/
def staleDiscards (i : Nat) : Nat := 0x90C00 + i
/-- The field rows of this group, part 1. -/
def rows1 : List PointRow := [
  ⟨0x90C00, [(4, 1)], 10, .ro, 0, 0xFFFFFFFFFFFFFFFF, [], 0, 3⟩]
/-- The field rows of this group. -/
def rows : List PointRow := rows1

end Sd

namespace Hub

/-- R150 `hub_enable`. -/
def hubEnable (u : Nat) : Nat := 0x91000 + 64 * u
/-- R150 `dead_time_ns`. -/
def deadTimeNs (u : Nat) : Nat := 0x91001 + 64 * u
/-- R150 `refresh_ns`. -/
def refreshNs (u : Nat) : Nat := 0x91002 + 64 * u
/-- R150 `refresh_laps`. -/
def refreshLaps (u : Nat) : Nat := 0x91003 + 64 * u
/-- R150 `bootstrap_mask`. -/
def bootstrapMask (u : Nat) : Nat := 0x91004 + 64 * u
/-- R150 `test_mode`. -/
def testMode (u : Nat) : Nat := 0x91005 + 64 * u
/-- R150 `bus_outlet`. -/
def busOutlet (u i : Nat) : Nat := 0x91006 + 64 * u + i
/-- R150 `cfg_gen`. -/
def cfgGen (u : Nat) : Nat := 0x9100D + 64 * u
/-- R150 `link_state`. -/
def linkState (u : Nat) : Nat := 0x91010 + 64 * u
/-- R150 `link_fault`. -/
def linkFault (u : Nat) : Nat := 0x91011 + 64 * u
/-- R150 `delay_ps`. -/
def delayPs (u : Nat) : Nat := 0x91012 + 64 * u
/-- R150 `skew_ps`. -/
def skewPs (u : Nat) : Nat := 0x91013 + 64 * u
/-- R150 `cfg_ack`. -/
def cfgAck (u : Nat) : Nat := 0x91014 + 64 * u
/-- R150 `blind`. -/
def blind (u : Nat) : Nat := 0x91015 + 64 * u
/-- R150 `lockout`. -/
def lockout (u : Nat) : Nat := 0x91016 + 64 * u
/-- R150 `i_fs`. -/
def iFs (u : Nat) : Nat := 0x91017 + 64 * u
/-- R150 `v_fs`. -/
def vFs (u : Nat) : Nat := 0x91018 + 64 * u
/-- R150 `phases_fitted`. -/
def phasesFitted (u : Nat) : Nat := 0x91019 + 64 * u
/-- R150 `code_errors`. -/
def codeErrors (u : Nat) : Nat := 0x91020 + 64 * u
/-- R150 `crc_errors`. -/
def crcErrors (u : Nat) : Nat := 0x91021 + 64 * u
/-- R150 `stale_laps`. -/
def staleLaps (u : Nat) : Nat := 0x91022 + 64 * u
/-- R150 `blind_events`. -/
def blindEvents (u : Nat) : Nat := 0x91023 + 64 * u
/-- R150 `retrains`. -/
def retrains (u : Nat) : Nat := 0x91024 + 64 * u
/-- R150 `hub_held_laps`. -/
def hubHeldLaps (u : Nat) : Nat := 0x91025 + 64 * u
/-- R150 `dual_claim`. -/
def dualClaim (u : Nat) : Nat := 0x91026 + 64 * u
/-- R150 `hub_errors`. -/
def hubErrors (u : Nat) : Nat := 0x91027 + 64 * u
/-- The field rows of this group, part 1. -/
def rows1 : List PointRow := [
  ⟨0x91000, [(32, 64)], 7, .rs, 0, 1, [], 0, 4⟩,
  ⟨0x91001, [(32, 64)], 1, .rs, 50, 2000, [], 200, 4⟩,
  ⟨0x91002, [(32, 64)], 1, .rs, 100, 1000, [], 300, 4⟩,
  ⟨0x91003, [(32, 64)], 1, .rs, 1, 64, [], 8, 4⟩,
  ⟨0x91004, [(32, 64)], 8, .rs, 0, 65535, [], 0, 4⟩,
  ⟨0x91005, [(32, 64)], 7, .rs, 0, 1, [], 0, 4⟩,
  ⟨0x91006, [(32, 64), (7, 1)], 1, .rs, 0, 31, [255], 255, 4⟩,
  ⟨0x9100D, [(32, 64)], 1, .ro, 0, 0xFFFFFFFF, [], 1, 0⟩,
  ⟨0x91010, [(32, 64)], 7, .ro, 0, 0xFFFFFFFF, [], 0, 0⟩,
  ⟨0x91011, [(32, 64)], 7, .ro, 0, 0xFFFFFFFF, [], 0, 0⟩,
  ⟨0x91012, [(32, 64)], 1, .ro, 0, 0xFFFFFFFF, [], 0, 0⟩,
  ⟨0x91013, [(32, 64)], 2, .ro, (-0x80000000), 0x7FFFFFFF, [], 0, 0⟩,
  ⟨0x91014, [(32, 64)], 1, .ro, 0, 0xFFFFFFFF, [], 0, 0⟩,
  ⟨0x91015, [(32, 64)], 7, .ro, 0, 0xFFFFFFFF, [], 0, 0⟩,
  ⟨0x91016, [(32, 64)], 7, .ro, 0, 0xFFFFFFFF, [], 0, 0⟩,
  ⟨0x91017, [(32, 64)], 1, .ro, 0, 0xFFFFFFFF, [], 0, 0⟩,
  ⟨0x91018, [(32, 64)], 1, .ro, 0, 0xFFFFFFFF, [], 0, 0⟩,
  ⟨0x91019, [(32, 64)], 8, .ro, 0, 0xFFFFFFFF, [], 0, 0⟩,
  ⟨0x91020, [(32, 64)], 10, .ro, 0, 0xFFFFFFFFFFFFFFFF, [], 0, 3⟩,
  ⟨0x91021, [(32, 64)], 10, .ro, 0, 0xFFFFFFFFFFFFFFFF, [], 0, 3⟩,
  ⟨0x91022, [(32, 64)], 10, .ro, 0, 0xFFFFFFFFFFFFFFFF, [], 0, 3⟩,
  ⟨0x91023, [(32, 64)], 10, .ro, 0, 0xFFFFFFFFFFFFFFFF, [], 0, 3⟩,
  ⟨0x91024, [(32, 64)], 10, .ro, 0, 0xFFFFFFFFFFFFFFFF, [], 0, 3⟩,
  ⟨0x91025, [(32, 64)], 10, .ro, 0, 0xFFFFFFFFFFFFFFFF, [], 0, 3⟩]
/-- The field rows of this group, part 2. -/
def rows2 : List PointRow := [
  ⟨0x91026, [(32, 64)], 10, .ro, 0, 0xFFFFFFFFFFFFFFFF, [], 0, 3⟩,
  ⟨0x91027, [(32, 64)], 10, .ro, 0, 0xFFFFFFFFFFFFFFFF, [], 0, 3⟩]
/-- The field rows of this group. -/
def rows : List PointRow := rows1 ++ rows2

end Hub

namespace Can

/-- R426 `can_enable`. -/
def canEnable (u : Nat) : Nat := 0x92000 + 4096 * u
/-- R426 `can_mode`. -/
def canMode (u : Nat) : Nat := 0x92001 + 4096 * u
/-- R426 `nom_kbps`. -/
def nomKbps (u : Nat) : Nat := 0x92002 + 4096 * u
/-- R426 `data_kbps`. -/
def dataKbps (u : Nat) : Nat := 0x92003 + 4096 * u
/-- R426 `sample_pm`. -/
def samplePm (u : Nat) : Nat := 0x92004 + 4096 * u
/-- R426 `data_sample_pm`. -/
def dataSamplePm (u : Nat) : Nat := 0x92005 + 4096 * u
/-- R426 `boff_auto`. -/
def boffAuto (u : Nat) : Nat := 0x92006 + 4096 * u
/-- R426 `cycle_laps`. -/
def cycleLaps (u : Nat) : Nat := 0x92007 + 4096 * u
/-- R426 `can_term`. -/
def canTerm (u : Nat) : Nat := 0x92008 + 4096 * u
/-- R426 `wake_mode`. -/
def wakeMode (u : Nat) : Nat := 0x92009 + 4096 * u
/-- R426 `wake_id`. -/
def wakeId (u : Nat) : Nat := 0x9200A + 4096 * u
/-- R426 `wake_mask`. -/
def wakeMask (u : Nat) : Nat := 0x9200B + 4096 * u
/-- R426 `wake_data`. -/
def wakeData (u : Nat) : Nat := 0x9200C + 4096 * u
/-- R426 `can_state`. -/
def canState (u : Nat) : Nat := 0x92010 + 4096 * u
/-- R426 `tec`. -/
def tec (u : Nat) : Nat := 0x92011 + 4096 * u
/-- R426 `rec`. -/
def rec (u : Nat) : Nat := 0x92012 + 4096 * u
/-- R426 `rx_frames`. -/
def rxFrames (u : Nat) : Nat := 0x92013 + 4096 * u
/-- R426 `tx_frames`. -/
def txFrames (u : Nat) : Nat := 0x92014 + 4096 * u
/-- R426 `unmatched`. -/
def unmatched (u : Nat) : Nat := 0x92015 + 4096 * u
/-- R426 `overwrites`. -/
def overwrites (u : Nat) : Nat := 0x92016 + 4096 * u
/-- R426 `shadow_losses`. -/
def shadowLosses (u : Nat) : Nat := 0x92017 + 4096 * u
/-- R426 `tt_missed`. -/
def ttMissed (u : Nat) : Nat := 0x92018 + 4096 * u
/-- R426 `bus_offs`. -/
def busOffs (u : Nat) : Nat := 0x92019 + 4096 * u
/-- R426 `can_resends`. -/
def canResends (u : Nat) : Nat := 0x9201A + 4096 * u
/-- R426 `rx_cfg`. -/
def rxCfg (u i : Nat) : Nat := 0x92100 + 4096 * u + 2 * i
/-- R426 `rx_mask`. -/
def rxMask (u i : Nat) : Nat := 0x92101 + 4096 * u + 2 * i
/-- R426 `rx_count`. -/
def rxCount (u i : Nat) : Nat := 0x92180 + 4096 * u + i
/-- R426 `tx_cfg`. -/
def txCfg (u i : Nat) : Nat := 0x92200 + 4096 * u + 2 * i
/-- R426 `tx_ctl`. -/
def txCtl (u i : Nat) : Nat := 0x92201 + 4096 * u + 2 * i
/-- R426 `col_ofs_us`. -/
def colOfsUs (u i : Nat) : Nat := 0x92300 + 4096 * u + i
/-- R426 `sched`. -/
def sched (u i j : Nat) : Nat := 0x92800 + 4096 * u + 32 * i + j
/-- The field rows of this group, part 1. -/
def rows1 : List PointRow := [
  ⟨0x92000, [(4, 4096)], 7, .rs, 0, 1, [], 0, 4⟩,
  ⟨0x92001, [(4, 4096)], 7, .rs, 0, 1, [], 1, 4⟩,
  ⟨0x92002, [(4, 4096)], 1, .rs, 0, 0xFFFFFFFF, [], 500, 4⟩,
  ⟨0x92003, [(4, 4096)], 1, .rs, 0, 0xFFFFFFFF, [], 2000, 4⟩,
  ⟨0x92004, [(4, 4096)], 1, .rs, 600, 900, [], 800, 4⟩,
  ⟨0x92005, [(4, 4096)], 1, .rs, 600, 900, [], 750, 4⟩,
  ⟨0x92006, [(4, 4096)], 7, .rs, 0, 1, [], 1, 4⟩,
  ⟨0x92007, [(4, 4096)], 1, .rs, 20, 2000, [], 200, 4⟩,
  ⟨0x92008, [(4, 4096)], 7, .rs, 0, 1, [], 1, 4⟩,
  ⟨0x92009, [(4, 4096)], 7, .rs, 0, 2, [], 1, 4⟩,
  ⟨0x9200A, [(4, 4096)], 8, .rs, 0, 0xFFFFFFFF, [], 0, 4⟩,
  ⟨0x9200B, [(4, 4096)], 8, .rs, 0, 0xFFFFFFFF, [], 0, 4⟩,
  ⟨0x9200C, [(4, 4096)], 3, .rs, 0, 0xFFFFFFFFFFFFFFFF, [], 0, 4⟩,
  ⟨0x92010, [(4, 4096)], 7, .ro, 0, 0xFFFFFFFF, [], 0, 0⟩,
  ⟨0x92011, [(4, 4096)], 1, .ro, 0, 0xFFFFFFFF, [], 0, 0⟩,
  ⟨0x92012, [(4, 4096)], 1, .ro, 0, 0xFFFFFFFF, [], 0, 0⟩,
  ⟨0x92013, [(4, 4096)], 10, .ro, 0, 0xFFFFFFFFFFFFFFFF, [], 0, 3⟩,
  ⟨0x92014, [(4, 4096)], 10, .ro, 0, 0xFFFFFFFFFFFFFFFF, [], 0, 3⟩,
  ⟨0x92015, [(4, 4096)], 10, .ro, 0, 0xFFFFFFFFFFFFFFFF, [], 0, 3⟩,
  ⟨0x92016, [(4, 4096)], 10, .ro, 0, 0xFFFFFFFFFFFFFFFF, [], 0, 3⟩,
  ⟨0x92017, [(4, 4096)], 10, .ro, 0, 0xFFFFFFFFFFFFFFFF, [], 0, 3⟩,
  ⟨0x92018, [(4, 4096)], 10, .ro, 0, 0xFFFFFFFFFFFFFFFF, [], 0, 3⟩,
  ⟨0x92019, [(4, 4096)], 10, .ro, 0, 0xFFFFFFFFFFFFFFFF, [], 0, 3⟩,
  ⟨0x9201A, [(4, 4096)], 10, .ro, 0, 0xFFFFFFFFFFFFFFFF, [], 0, 3⟩]
/-- The field rows of this group, part 2. -/
def rows2 : List PointRow := [
  ⟨0x92100, [(4, 4096), (64, 2)], 8, .rs, 0, 0xFFFFFFFF, [], 0, 4⟩,
  ⟨0x92101, [(4, 4096), (64, 2)], 8, .rs, 0, 0x1FFFFFFF, [], 0x1FFFFFFF, 4⟩,
  ⟨0x92180, [(4, 4096), (64, 1)], 10, .ro, 0, 0xFFFFFFFFFFFFFFFF, [], 0, 3⟩,
  ⟨0x92200, [(4, 4096), (64, 2)], 8, .rs, 0, 0xFFFFFFFF, [], 0, 4⟩,
  ⟨0x92201, [(4, 4096), (64, 2)], 8, .rs, 0, 0xFFFFFFFF, [], 0, 4⟩,
  ⟨0x92300, [(4, 4096), (32, 1)], 1, .rs, 0, 0xFFFFFFFF, [], 0xFFFFFFFF, 4⟩,
  ⟨0x92800, [(4, 4096), (64, 32), (32, 1)], 1, .rs, 0, 255, [], 255, 4⟩]
/-- The field rows of this group. -/
def rows : List PointRow := rows1 ++ rows2

end Can

namespace Mast

/-- R435 `mast_fnom`. -/
def mastFnom : Nat := 0x96000
/-- R435 `mast_retries`. -/
def mastRetries : Nat := 0x96001
/-- R435 `zc_offset_us`. -/
def zcOffsetUs (i : Nat) : Nat := 0x96002 + i
/-- R435 `mast_node`. -/
def mastNode (i : Nat) : Nat := 0x96010 + i
/-- R435 `map_now`. -/
def mapNow (i : Nat) : Nat := 0x96020 + i
/-- R435 `map_stored`. -/
def mapStored (i : Nat) : Nat := 0x96022 + i
/-- R435 `mains_out`. -/
def mainsOut (i : Nat) : Nat := 0x96024 + i
/-- R435 `node_state`. -/
def nodeState (i : Nat) : Nat := 0x96040 + 8 * i
/-- R435 `polls`. -/
def polls (i : Nat) : Nat := 0x96041 + 8 * i
/-- R435 `repeats`. -/
def repeats (i : Nat) : Nat := 0x96042 + 8 * i
/-- R435 `mast_corrected`. -/
def mastCorrected (i : Nat) : Nat := 0x96043 + 8 * i
/-- R435 `mast_failed`. -/
def mastFailed (i : Nat) : Nat := 0x96044 + 8 * i
/-- The field rows of this group, part 1. -/
def rows1 : List PointRow := [
  ⟨0x96000, [], 7, .rs, 0, 1, [], 0, 4⟩,
  ⟨0x96001, [], 1, .rs, 0, 7, [], 3, 4⟩,
  ⟨0x96002, [(2, 1)], 1, .rs, 0, 19999, [], 0, 4⟩,
  ⟨0x96010, [(16, 1)], 8, .rs, 0, 0xFFFFFFFF, [], 0, 4⟩,
  ⟨0x96020, [(2, 1)], 8, .ro, 0, 0xFFFFFFFF, [], 0x333333, 0⟩,
  ⟨0x96022, [(2, 1)], 8, .ro, 0, 0xFFFFFFFF, [], 0x333333, 0⟩,
  ⟨0x96024, [(2, 1)], 10, .ro, 0, 0xFFFFFFFFFFFFFFFF, [], 0, 3⟩,
  ⟨0x96040, [(16, 8)], 7, .ro, 0, 0xFFFFFFFF, [], 0, 0⟩,
  ⟨0x96041, [(16, 8)], 10, .ro, 0, 0xFFFFFFFFFFFFFFFF, [], 0, 3⟩,
  ⟨0x96042, [(16, 8)], 10, .ro, 0, 0xFFFFFFFFFFFFFFFF, [], 0, 3⟩,
  ⟨0x96043, [(16, 8)], 10, .ro, 0, 0xFFFFFFFFFFFFFFFF, [], 0, 3⟩,
  ⟨0x96044, [(16, 8)], 10, .ro, 0, 0xFFFFFFFFFFFFFFFF, [], 0, 3⟩]
/-- The field rows of this group. -/
def rows : List PointRow := rows1

end Mast

namespace Acq

/-- R454 `acq_src`. -/
def acqSrc (i : Nat) : Nat := 0x97000 + 4 * i
/-- R454 `acq_deadband`. -/
def acqDeadband (i : Nat) : Nat := 0x97001 + 4 * i
/-- R454 `acq_keepalive_ms`. -/
def acqKeepaliveMs (i : Nat) : Nat := 0x97002 + 4 * i
/-- The field rows of this group, part 1. -/
def rows1 : List PointRow := [
  ⟨0x97000, [(256, 4)], 8, .rs, 0, 0xFFFFFFFF, [], 0, 4⟩,
  ⟨0x97001, [(256, 4)], 3, .rs, 0, 0xFFFFFFFFFFFFFFFF, [], 0, 4⟩,
  ⟨0x97002, [(256, 4)], 1, .rs, 0, 60000, [], 0, 4⟩]
/-- The field rows of this group. -/
def rows : List PointRow := rows1

end Acq

/-- The row lists with the address range each lies in. -/
def pointGroups : List (Nat × Nat × List PointRow) := [
  (0x0, 0xFF, D0.rows),
  (0x10000, 0x1FFFF, Ph.rows),
  (0x20000, 0x2FFFF, Pk.rows),
  (0x30000, 0x3FFFF, Out.rows),
  (0x40000, 0x4FFFF, Pool.rows),
  (0x50000, 0x53FFF, Ac.rows),
  (0x54000, 0x57FFF, Dc.rows),
  (0x58000, 0x583FF, S0.rows),
  (0x58400, 0x584FF, Po.rows),
  (0x60000, 0x67FFF, RegA.rows),
  (0x68000, 0x6BFFF, RegD.rows),
  (0x6C000, 0x6CFFF, Cal.rows),
  (0x70000, 0x77FFF, Saf.rows),
  (0x78000, 0x780FF, SafM.rows),
  (0x80000, 0x8FFFF, Slot.rows),
  (0x90100, 0x901FF, Hp.rows),
  (0x90200, 0x902FF, Pc.rows),
  (0x90300, 0x9030F, Al.rows),
  (0x90400, 0x9040F, Mp.rows),
  (0x90500, 0x905FF, Key.rows),
  (0x90600, 0x906FF, Team.rows),
  (0x90700, 0x907FF, Ta.rows),
  (0x90800, 0x908FF, Pb.rows),
  (0x90900, 0x90917, Wat.rows),
  (0x90A00, 0x90AFF, Pw.rows),
  (0x90B00, 0x90BFF, Th.rows),
  (0x90C00, 0x90C0F, Sd.rows),
  (0x91000, 0x917FF, Hub.rows),
  (0x92000, 0x95FFF, Can.rows),
  (0x96000, 0x96FFF, Mast.rows),
  (0x97000, 0x97FFF, Acq.rows)]

/-- The first row of a list that covers an address. -/
def findRow : List PointRow → Nat → Option PointRow
  | [], _ => none
  | r :: rs, a => if r.covers a then some r else findRow rs a

/-- The row of an address, searched in the groups whose range holds it. -/
def findPointIn : List (Nat × Nat × List PointRow) → Nat → Option PointRow
  | [], _ => none
  | (lo, hi, rows) :: gs, a =>
    if lo ≤ a ∧ a ≤ hi then
      match findRow rows a with
      | some r => some r
      | none => findPointIn gs a
    else findPointIn gs a

/-- The field an address is assigned to (R42); none for an unassigned index. -/
def pointAt (a : Nat) : Option PointRow := findPointIn pointGroups a

/-- Defaults that differ inside an array: season 0 starts used on 1 January (R294), the delivered display list (R315), column 0 opens at offset 0 and its
schedule cells are 0xFE (R426); lane B's `health_mask` (R367). -/
def specialDefault (a : Nat) : Option Int :=
  if a = Cal.seasonStart 0 then some 0x80000101
  else if a = 0x98102 then some 0xFFFFFFFF
  else if Cal.scroll 0 ≤ a ∧ a < Cal.scroll 10 then
    [0x0C000000, 0x01000000, 0x02000000, 0x05000000, 0x03000008, 0x08000001, 0x08000002, 0x07000000, 0x09000000,
     0x0A000000][a - Cal.scroll 0]?
  else if a < 0x92000 then none
  else if 0x95FFF < a then none
  else
    let off := (a - 0x92000) % 0x1000
    if off = 0x300 then some 0
    else if 0x800 ≤ off ∧ off % 32 = 0 then some 0xFE
    else none

/-- What a point reads that nothing has set: the stated default of an RS point, else the reset value (log entry 2). -/
def pointDefault (a : Nat) : Int :=
  match specialDefault a with
  | some v => v
  | none => match pointAt a with
    | some r => r.dflt
    | none => 0

end Sys2Proof.Machine
end

