-- ==== Sys2Proof/Machine/State.lean ====
section
/-!
DEFINITION. The state of the controller as plain data: every register, buffer, counter, mode and pin the spec names, per
lane, with the shared parts and the queue of commands that wait. Ledger points that a table lists are held in the
sparse stores `cfg` (configuration), `pts` (status) and `stat` (status codes of R41) of a lane.
-/

namespace Sys2Proof.Machine

/-! ### Host mailboxes and the ledger (02_state_ledger.md, 03_host_mailboxes.md) -/

/-- What a ring entry carries: a response's fields, an event notification (R87) or a subscription notification (R76). -/
inductive Payload where
  | response (fields : List Field)
  | event (number repeats time lap unit : Nat) (detail : List Int)
  | points (subId skipped : Nat) (items : List (Nat × List Field))
deriving DecidableEq, Repr

/-- A response or notification entry (R76). `rspSeq` is 0 until the entry is placed on its ring; `byB` is flag bit 2, that lane B
has sent it; `bulk` marks history and acquisition data (R401). -/
structure Entry where
  byB : Bool := false
  rspSeq : Nat := 0
  reqSeq : Nat := 0
  hostTag : Nat := 0
  status : Nat := 0
  part : Nat := 0
  last : Bool := true
  resent : Bool := false
  bulk : Bool := false
  epoch : Nat := 0
  sentLap : Nat := 0
  body : Payload := .response []
deriving DecidableEq, Repr

/-- A response kept for repetition (R78, R81). -/
structure History where
  seq : Nat
  command : Nat
  hostTag : Nat
  entries : List Entry
deriving DecidableEq, Repr

/-- A subscription (R49 to R51): its ranges of address, count and deadband, and what was last notified of each point. -/
structure Sub where
  id : Nat
  period : Nat := 0
  periodic : Bool := false
  ranges : List (Nat × Nat × Nat) := []
  started : Bool := false
  full : Bool := true
  since : Nat := 0
  skipped : Nat := 0
  pending : List Nat := []
  last : List (Nat × (Nat × Int)) := []
deriving DecidableEq, Repr

/-- A commit taken from a ring (R54, R55): the writes it holds, its target epoch, whether it was answered as held, its
outcome once validated, and whether it has been settled and waits for the bank swap. -/
structure Commit where
  ring : Nat
  seq : Nat
  hostTag : Nat
  target : Nat
  held : Bool
  order : Nat := 0
  writes : List (Nat × Int)
  status : Nat := 0
  group : Nat := 0
  field : Nat := 0
  settled : Bool := false
deriving DecidableEq, Repr

/-- What `RING_SET` gives a ring pair (R74, R83). -/
structure RingSetting where
  enabled : Bool
  keySlot : Nat
  rights : Nat
deriving DecidableEq, Repr

/-- A ring pair (R74, R77): settings, sequence numbers, requests accepted and not taken, responses placed and waiting,
the history, the staging area and the subscriptions. `takes` holds the lap in which each request in progress was taken (R32),
`lastTaken` the highest `seq` taken and `ackSent` the one last told to the host (R70), `unreached` the forwarded requests that
no member answered in time (R85), `setting` the settings that hold once the response to `RING_SET` has gone (R83), `oldKey` the bytes and the next counter of a transport
key that a message on the ring has replaced, under which its response goes (R385). -/
structure Ring where
  enabled : Bool := false
  keySlot : Nat := 0
  rights : Nat := 0
  nextSeq : Nat := 1
  nextRsp : Nat := 1
  ackSeq : Nat := 0
  source : Nat := 0
  held : List Request := []
  inProgress : List Request := []
  takes : List (Nat × Nat) := []
  setting : Option RingSetting := none
  oldKey : Option (List Nat × Nat) := none
  lastTaken : Nat := 0
  ackSent : Nat := 0
  unreached : List Request := []
  history : List History := []
  entries : List Entry := []
  waiting : List Entry := []
  staging : UMap Int := []
  subs : List Sub := []
deriving DecidableEq, Repr

/-- The settings of a HOST port (R68, R69): its address and gateway as IPv6 addresses, an IPv4 one in its mapped form, the bits of its
prefix, and whether it is enabled (log entry 89). -/
structure HostPort where
  addr : Nat := 0
  prefixLen : Nat := 0
  gateway : Nat := 0
  enabled : Bool := true
deriving DecidableEq, Repr

/-- A datagram that the controller sends (R69 to R71): header fields, the address it goes to and the port it leaves by, its
entries, and the bytes of the key that seals it. -/
structure OutDatagram where
  kind : Nat
  keySlot : Nat
  counter : Nat
  ring : Nat
  ackSeq : Nat
  dest : Nat
  port : Nat
  entries : List Entry
  key : List Nat := []
deriving DecidableEq, Repr

/-- A take notice's request, with the lap in which the holder took it (R79). -/
structure Taken where
  lap : Nat
  req : Request
deriving DecidableEq, Repr

/-- Counters accepted under one key slot: the highest and those of the last 64 (R72, R73), and those that came in
through the other lane. -/
structure CounterWindow where
  highest : Int := -1
  recent : List Nat := []
  viaOther : List Nat := []
deriving DecidableEq, Repr

/-- Accepted entries on their way to the other lane (R69). -/
structure Forward where
  ring : Nat
  keySlot : Nat
  counter : Nat
  source : Nat
  ackSeq : Nat
  entries : List Request
deriving DecidableEq, Repr

/-- A snapshot that waits for an image (R47), from the lap of its execution on; `wait` holds the members named that have not
delivered, `got` the records of those that have, as member and records in the order asked (R48). -/
structure WaitingRead where
  req : Request
  epoch : Nat
  lap : Nat := 0
  wait : List Nat := []
  got : List (Nat × List (List Field)) := []
deriving DecidableEq, Repr

/-- A function reset under way (R93): code, unit, lane selector, the request to answer, and for a
session stack the outlet's `sessions` when it was stopped. -/
structure FnReset where
  code : Nat
  unit : Nat
  lanes : Nat
  req : Request
  mark : Int := 0
deriving DecidableEq, Repr

/-- A sealed image (R44, R45): the sealing lane, the epoch, the baton number, the committed configuration, point values and
statuses, the generations of phases and packs, the metering points without a first measurement, the hubs with an identity record (R529), the points that a commit
will write, and the other lane's domain 9 points where that lane is present, with whether it computes. -/
structure Image where
  lane : LaneId
  epoch : Nat
  baton : Nat
  cfg : UMap Int
  pts : UMap Int
  stat : UMap Nat
  phaseGen : UMap Nat
  packGen : UMap Nat
  unready : List Nat
  copied : Bool := true
  identified : List Nat
  written : List Nat
  partner : Option (Bool × UMap Int × UMap Nat)
deriving DecidableEq, Repr

/-- A changed record of the ledger history (R45, R82): epoch, address, record. -/
structure Change where
  epoch : Nat
  addr : Nat
  record : List Field
deriving DecidableEq, Repr

/-- The mailbox state of one lane. `evMap` gives the ring of each event source, 255 for none (R87). `watch` holds for each
ledger watch 1 armed, 2 or 3 disarmed by a firing above or below, 0 neither, and four times the epoch from which a commit
arms it (R91). `remote` holds the values last delivered
of other members' points (R41), `sent` the datagrams sent in the lap that ended last, `ports` the settings of the lane's own ports. -/
structure HostSt where
  rings : UMap Ring := []
  lastRing : Nat := 31
  taken : List Taken := []
  notices : List (Nat × Nat × Nat) := []
  takeLap : Nat := 0
  evMap : UMap Nat := []
  mirrored : List (Nat × Nat × List Int × Nat) := []
  counters : UMap CounterWindow := []
  outCounter : UMap Nat := []
  savedCounter : UMap Nat := []
  forward : List Forward := []
  authFail : Nat := 0
  replay : Nat := 0
  dupDatagrams : Nat := 0
  authBurst : List (Nat × Nat) := []
  commits : List Commit := []
  order : Nat := 0
  trial : Option (UMap Int) := none
  waitingReads : List WaitingRead := []
  resets : List FnReset := []
  memberCalls : List (Nat × Request) := []
  memberParts : List (Nat × MemberEntry) := []
  watch : UMap Nat := []
  remote : UMap Int := []
  sent : List OutDatagram := []
  ports : UMap HostPort := []
deriving DecidableEq, Repr

/-! ### Pacer (04_pacer_and_laps.md) -/

/-- Pacer state that no point shows (R96 to R112): whether each reference is qualified, whether the inner PLL is locked
and laps run, the lap of entry to the state, the always-on epoch counter, team time, a pending `tod_set`, the slew still
to make, the best master known as priority, clock and port with the lap of its last Announce, the peer delay of each port, and PTP messages sent. -/
structure PacerSt where
  refinOk : Bool := false
  synciOk : Bool := false
  locked : Bool := false
  laps : Bool := false
  enteredLap : Nat := 0
  source : Int := 0
  aoEpoch : Nat := 0
  teamTime : Int := 0
  todPending : Option Int := none
  todSlew : Int := 0
  best : Option (Nat × Nat × Nat) := none
  bestLap : Nat := 0
  peerDelays : UMap Int := []
  syncSeq : Nat := 0
  announceSeq : Nat := 0
  pdelaySeq : Nat := 0
deriving DecidableEq, Repr

/-! ### Stage links, loop engines and packs (05_stage_link.md, 06_loop_engines.md, 07_packs.md) -/

/-- The command block of one hub (R124), with its header's test flag and the lap it takes effect in. -/
structure Block where
  baton : Nat := 0
  applyLap : Nat := 0
  claim : Bool := false
  test : Bool := false
  cfgApply : Bool := false
  release : Bool := false
  duty : List Nat := []
  angle : List Nat := []
  ctl : List Nat := []
  selector : List Nat := []
  cfgGen : Nat := 0
deriving DecidableEq, Repr

/-- The record of one hub in one lane: receipt of this lap's blocks (R137), the last status bits, runs of missing and
valid laps (R129, R138), link training counts, the delay sent, the last command block,
whether the lap was held or showed a CRC failure, and whether the link has brought a valid lap since it was on. Times are laps. -/
structure HubSt where
  headerOk : Bool := false
  statusOk : Bool := false
  fastOk : Bool := false
  fastGood : Bool := false
  missRun : Nat := 0
  goodRun : Nat := 0
  gate : Nat := 0
  tripped : Nat := 0
  armed : Nat := 0
  overlap : Nat := 0
  bothOnRej : Nat := 0
  hsTimeout : Nat := 0
  cmdLoss : Nat := 0
  gateBoth : Nat := 0
  contactor : Nat := 0
  enteredLap : Nat := 0
  thermMiss : Nat := 0
  delayUi : Nat := 0xFFFF
  idKnown : Bool := false
  block : Block := {}
  lockoutClear : Nat := 0
  heldLap : Bool := false
  crcBad : Bool := false
  had : Bool := false
  lockHdr : Bool := false
  header : List Nat := []
  record : List Nat := []
  ownRec : Option (Nat × Nat × Nat) := none
  measured : Bool := false
deriving DecidableEq, Repr

/-- The record of one phase in one lane that no point shows (R61, R145, R146, R174, R180, R193): the measurements of
this lap and the last, the duties of the last two blocks, whether the last block carried `arm` 1, re-arm bookkeeping (`cut`: the arm bit has been taken away under
R146 and not set again), the sum window, and a `TEST` order. -/
structure PhaseSt where
  gen : Nat := 0
  genBlock : Nat := 0
  genTag : Nat := 0
  iNow : Int := 0
  vNow : Int := 0
  dcNow : Int := 0
  okNow : Bool := false
  iPrev : Int := 0
  vPrev : Int := 0
  dcPrev : Int := 0
  okPrev : Bool := false
  duty1 : Nat := 0
  duty2 : Nat := 0
  refresh1 : Bool := false
  refresh2 : Bool := false
  since : Nat := 0
  eps : List Int := []
  rangeRun : Nat := 0
  limitRun : Nat := 0
  dutyMiss : Nat := 0
  excluded : Bool := false
  fresh : Bool := false
  arm : Bool := false
  armZero : Nat := 0
  cut : Bool := false
  rearmReq : Bool := false
  tripMs : List Nat := []
  testSwitch : Nat := 0
  testLaps : Nat := 0
  frozen : Bool := false
  armSent : Bool := false
  tagPrev : Nat := 0
  rangePrev : Nat := 0
  limited : Bool := false
  falseHeld : Bool := false
  lost : Bool := false
  lostLap : Nat := 0
  prep : Option Nat := none
deriving DecidableEq, Repr

/-- The histories and outputs of one slot (R158 to R160, R168): `out`, `out1`, `out2` are the outputs after the latest
window and the two before it, each with the number of its evaluation (0 before the first), the generations of the slot and of
its phase or pack under which it was made (R60, R62), and whether it was a duty. `lost` numbers the evaluations whose results
have been counted as discarded. `injNow`, `refNow`, `fbNow`, `preNow` and `compNow` are the nodes of the latest evaluation that
R441 names besides the error and the output. -/
structure SlotSt where
  e1 : Int := 0
  e2 : Int := 0
  e3 : Int := 0
  u1 : Int := 0
  u2 : Int := 0
  u3 : Int := 0
  r1 : Int := 0
  out : Int := 0
  gen : Nat := 0
  ran : Bool := false
  out1 : Int := 0
  gen1 : Nat := 0
  ran1 : Bool := false
  out2 : Int := 0
  gen2 : Nat := 0
  no : Nat := 0
  no1 : Nat := 0
  no2 : Nat := 0
  bind : Nat := 0
  bind1 : Nat := 0
  bind2 : Nat := 0
  duty : Bool := false
  duty1 : Bool := false
  lost : List Nat := []
  refNow : Int := 0
  injNow : Int := 0
  fbNow : Int := 0
  preNow : Int := 0
  compNow : Int := 0
  limited : Bool := false
  init : Bool := false
deriving DecidableEq, Repr

/-- The record of one pack that no point shows (R34, R186 to R188): the target loaded for the next epoch, the target ramped to
in this one and its step per lap, the lap of the running request, the stop's own step, and the generation of the pack-to-outlet
binding. -/
structure PackSt where
  allocTarget : Int := 0
  goal : Int := 0
  step : Int := 0
  reqLap : Nat := 0
  stopStep : Int := 0
  counted : Bool := false
  gen : Nat := 0
  held : Bool := true
deriving DecidableEq, Repr

/-- The engines' own state: whether each runs (R93 code 0x08), the next test vector (R165), a repetition owed. -/
structure EngineSt where
  off0 : Bool := false
  off1 : Bool := false
  vector : Nat := 0
  repeatSlot : Option Nat := none
deriving DecidableEq, Repr

/-! ### Allocation and cooling (08_power_allocation.md, 09_cable_cooling.md) -/

/-- The metering values that control computations use (R21, R258, R259): the baton holder's values of the last epoch,
each with its point's status code (R41), 4 where it is not listed. -/
structure ControlSet where
  epoch : Nat := 0
  acP : UMap Int := []
  acQ : UMap Int := []
  acS : UMap Int := []
  dcV : UMap Int := []
  dcI : UMap Int := []
  dcP : UMap Int := []
  dcSq : UMap Int := []
  acSt : UMap Nat := []
  dcSt : UMap Nat := []
  s0 : UMap Int := []
  s0St : UMap Nat := []
  energy : UMap Int := []
deriving DecidableEq, Repr

/-- Whether a point of the control set is valid. -/
def ControlSet.acOk (c : ControlSet) (n : Nat) : Bool := UMap.get (fun _ => 4) c.acSt n == 0
def ControlSet.dcOk (c : ControlSet) (d : Nat) : Bool := UMap.get (fun _ => 4) c.dcSt d == 0
def ControlSet.s0Ok (c : ControlSet) (s : Nat) : Bool := UMap.get (fun _ => 4) c.s0St s == 0

/-- Vehicle limits as read at lap 0 (R34): maximum current, target current, maximum power, in charge loop. -/
structure VehicleIn where
  iMax : Int := 0
  iTarget : Int := 0
  pMax : Int := 0
  looping : Bool := false
deriving DecidableEq, Repr

/-- What a node keeps from round to round (R203, R204, R205, R215, R216): beside what the round uses, what has arrived since the
last deadline of the team exchange (R409), and the host value with its lap as of lap 0 (R212). -/
structure PoolSt where
  changed : Bool := false
  hostLap : Option Nat := none
  s0Past : List (Nat × Int) := []
  teamCap : Option Int := none
  memberWant : Int := 0
  memberDrawn : Int := 0
  missing : Nat := 0
  fresh : Bool := false
  inWant : Int := 0
  inDrawn : Int := 0
  inCap : Int := 0
  arrived : Bool := false
  hostKw : Int := 0
  hostSeen : Option Nat := none
deriving DecidableEq, Repr

/-- The allocation block: inputs held from lap 0 (R34), the epoch of the last completed round, its pack currents and
targets, the vehicle-side currents, the square of each outlet's packs' mean current (R223), the packs in `RUN` at lap 0, what the module
reports to its anchor (R213), each outlet's I_th as laps 4 to 8 leave it (R212, R226), and the outlets whose leaf was bound by it in the
last completed round (R211). -/
structure AllocSt where
  ctl : ControlSet := {}
  caps : UMap Int := []
  capGen : UMap Nat := []
  vehicles : UMap VehicleIn := []
  vSum : UMap Int := []
  vAlloc : UMap Int := []
  doneEpoch : Option Nat := none
  endLap : Nat := 0
  packAmps : UMap Int := []
  packTargets : UMap Int := []
  packSq : UMap Int := []
  running : List Nat := []
  teamWant : Int := 0
  teamDrawn : Int := 0
  iTherm : UMap Int := []
  thermal : List Nat := []
deriving DecidableEq, Repr

/-- One cooling sensor (R218 to R220): the last converted value, the lap of its frame, whether a frame came in this
epoch, and the value last usable. -/
structure SensorSt where
  value : Int := 0
  lap : Option Nat := none
  epoch : Option Nat := none
  bad : Bool := true
deriving DecidableEq, Repr

/-- The cooling record of one outlet: sensors, the model's finer state (R223), timers in laps (R222, R227, R228), and
forecast bookkeeping (R225): the epoch whose computation is finished or dropped. -/
structure CoolSt where
  sensors : UMap SensorSt := []
  th1 : Int := 0
  th2 : Int := 0
  f : Int := 4 * 65536
  tCool : Int := 0
  goodSince : Option Nat := none
  lowSince : Option Nat := none
  recoverSince : Option Nat := none
  openedLap : Option Nat := none
  forecastDone : Bool := false
  fcEpoch : Option Nat := none
  flow4 : Option Int := none
  pin4 : Option Int := none
  cool4 : Option Int := none
  fcDeg : Option Int := none
  saved : Option (Nat × Int × Int) := none
deriving DecidableEq, Repr

/-! ### Outlet sessions (10_outlet_sessions.md) -/

/-- A response to the vehicle (R236, R246): the message, its response code, the values it carries, and the session-to-lane generation under
which it was formed (R60). -/
structure SegRes where
  msg : Nat := 0
  code : Nat := 0
  data : List Int := []
  gen : Nat := 0
deriving DecidableEq, Repr

/-- The TCP and TLS state of one outlet that both lanes run (R232, R237, R238): sequence positions, record numbers,
the lap from which an acknowledgement is owed (R248), the handshake's start and settings, whether a client certificate has been asked
for (R237), draws of the holder that are not mirrored yet (R238), the lap at which the connection closes and whether it is closed
(R243), and the randoms and secrets that the holder mirrors. -/
structure TlsSt where
  rxSeq : Nat := 0
  txSeq : Nat := 0
  txSeen : Nat := 0
  ackOwed : Bool := false
  ackLap : Nat := 0
  records : Nat := 0
  helloLap : Option Nat := none
  suite : Nat := 0
  group : Nat := 0
  scheme : Nat := 0
  certAsked : Bool := false
  mirrorOwed : Bool := false
  closeLap : Option Nat := none
  closed : Bool := false
  up : Bool := false
  randoms : List Nat := []
  secrets : List Nat := []
deriving DecidableEq, Repr

/-- The record of one outlet's session that no point shows: the ramp (R242, in µV and in Q1.31), the short count
(R243), timers in laps, hold conditions (R249, R250, bit per code), commands to the contactors and the latch, the host's
decision (R252), identity data, the supervision values of R259, and the latest response. `par` holds the outlet's
configuration under which a running session goes on after a commit has changed it (R59). `ctrPlus` and `ctrMinus` are the two
contactor feedbacks (R531), `openFor` the laps that the identification line was open before it read inserted (R250), `offerW` the
power handed over with `offerA` (R246), `readyLap` the lap since which cooling has let `CONNECT` close (R239), `welded` whether this
`OPEN` has raised its fault (R245). The response: `resSent` observed whole on the segment, `resStart` begun, `resend` owed again by
a new holder, which may begin from lap `txIdle` (R231, R248). -/
structure OutletSt where
  rampUv : Int := 0
  rampQ : Int := 0
  offerA : Int := 0
  offerW : Int := 0
  shortCount : Nat := 0
  stepLap : Nat := 0
  tolSince : Option Nat := none
  isoSince : Option Nat := none
  isoPassed : Bool := false
  preReached : Bool := false
  holds : Nat := 0
  hostBlock : Bool := false
  ctrCmd : Bool := false
  ctrLap : Option Nat := none
  ctrPlus : ContactorFb := .opened
  ctrMinus : ContactorFb := .opened
  readyLap : Option Nat := none
  welded : Bool := false
  packsAsked : Bool := false
  latchCmd : Bool := false
  latchLap : Nat := 0
  decision : Option Bool := none
  authExpired : Bool := false
  evccid : Nat := 0
  contractId : List Nat := []
  idMode : Nat := 0
  vMaxKnown : Bool := false
  terminate : Bool := false
  failNext : Bool := false
  dropDue : Bool := false
  stopAsked : Bool := false
  faulted : Bool := false
  openSince : Option Nat := none
  openFor : Option Nat := none
  lastReq : Nat := 0
  schedSent : List Int := []
  schedLap : Nat := 0
  vDc : Int := 0
  iDc : Int := 0
  vOwn : Int := 0
  iOwn : Int := 0
  tls : TlsSt := {}
  res : SegRes := {}
  resSent : Bool := true
  resStart : Bool := false
  resend : Bool := false
  txIdle : Nat := 0
  takeovers : Nat := 0
  discharge : Option Nat := none
  bdisOff : Option Nat := none
  par : Option (UMap Int) := none
  lastV : Int := 0
deriving DecidableEq, Repr

/-! ### Metrology and billing (11_metrology.md, 12_billing_registers.md) -/

/-- A corrected AC sample: voltages, currents and quarter-period-delayed voltages, in 10^−9 of range; its team-time tag (R257), and
for each channel its gain state and flags (R258): 0 own, 1 kept clipped, 2 filled. -/
structure AcSample where
  v : List Int
  i : List Int
  q : List Int
  tag : Int := 0
  gains : List Nat := []
  flags : List Nat := []
deriving DecidableEq, Repr

/-- A channel's gain stage (R260): gain index, the largest magnitude of the running window before the latest sample, that sample's magnitude,
the largest of the last two complete windows, and the tick of the last switch to a lower gain. -/
structure ChanSt where
  gain : Nat := 0
  cur : Int := 0
  last : Int := 0
  win1 : Option Int := none
  win2 : Option Int := none
  down : Option Nat := none
deriving DecidableEq, Repr

/-- The division of a running AC cycle (R286): the samples before the instant, the tariff then in force, the number of the interval
record closed there and that of the billing period plus 1; 0 where none closed. -/
structure CycleCut where
  n : Nat
  tariff : Nat
  record : Nat := 0
  period : Nat := 0
deriving DecidableEq, Repr

/-- An AC point: samples newest first, samples of the running cycle, the latest period in 1/256 of a sample and the samples that its cycle
held (R267), fixed-block mode
(R269), and the cut that a boundary made in the running cycle (R286). `raw` holds the latest
corrected samples of each channel before their delay (R263), newest first, `cross` the last zero crossing of the reference in 1/256
of a sample (R267), `fresh` the samples since the point's configuration last changed, at most 256 (R282), `part` the samples of the
running cycle or block that a change of the configuration has closed (R266). -/
structure AcSt where
  buf : List AcSample := []
  n : Nat := 0
  period : Nat := 40960
  count : Nat := 160
  fixed : Bool := true
  goodRun : Nat := 0
  cut : Option CycleCut := none
  raw : List (List Int) := []
  cross : Option Nat := none
  fresh : Nat := 0
  ready : Bool := false
  part : Nat := 0
deriving DecidableEq, Repr

/-- A DC point: the epoch's count and sums, samples in the running gain window, the last two corrected samples, with the team-time tag
and the gain states of the latest (R257, R258) and the flags of both, as of an AC sample. -/
structure DcSt where
  n : Nat := 0
  sv : Int := 0
  si : Int := 0
  sp : Int := 0
  sq : Int := 0
  win : Nat := 0
  v : Int := 0
  i : Int := 0
  v1 : Int := 0
  i1 : Int := 0
  tag : Int := 0
  gains : List Nat := []
  flags : List Nat := []
  flags1 : List Nat := []
  seen : Bool := false
  ready : Bool := false
deriving DecidableEq, Repr

/-- The temperature and table values of a point (R264, R265): the last plausible temperature, and for each channel the
gain and phase entries in force. -/
structure NtcSt where
  t : Int := 25000
  known : Bool := false
  gain : List Int := []
  phase : List Int := []
deriving DecidableEq, Repr

/-- An S0 input that no point shows (R274, R275): ms of the running ON state, whether its pulse has counted. -/
structure S0St where
  onMs : Option Nat := none
  counted : Bool := false
deriving DecidableEq, Repr

/-- A pulse output (R276, R277): accumulator in 2^−32 milli-units, due ticks newest first, level, tick of the last
change, width of the running or last pulse in ticks. -/
structure PoSt where
  acc : Int := 0
  due : List Nat := []
  level : Bool := false
  since : Nat := 0
  width : Nat := 0
deriving DecidableEq, Repr

/-- An interval record (R291). `point` counts AC points 0..7, then DC points from 8. `impT` is the import that each tariff received in
the interval, of which the demands are formed with the interval's nominal length `nomMs` (R292), `gen` the session-to-lane generation of
a DC point's outlet (R60). -/
structure IntervalRec where
  point : Nat
  endMs : Int
  seq : Nat
  durationMs : Nat
  flags : Nat
  tariff : Nat
  inc : List Int
  impT : List Int := []
  nomMs : Int := 900000
  gen : Nat := 0
deriving DecidableEq, Repr

/-- The running interval of one point: its flags, metered ticks, tariff at its start, the register values at its
start, total and per tariff (R286, R291, R292), its start in legal local time and its nominal length in ms (R290). -/
structure OpenInterval where
  flags : Nat := 0
  ticks : Nat := 0
  tariff : Nat := 0
  base : UMap Int := []
  startMs : Int := 0
  lenMs : Int := 900000
deriving DecidableEq, Repr

/-- A closed billing period (R293): number, start and end, registers and maximum demands by address, and the session-to-lane generations
of the outlets at the close (R60). -/
structure PeriodRec where
  no : Nat
  startMs : Int
  endMs : Int
  regs : UMap Int
  gens : UMap Nat := []
deriving DecidableEq, Repr

/-- A metrology log entry (R311). -/
structure LogEntry where
  number : Nat
  kind : Nat
  kindNo : Nat
  lane : Nat
  utcMs : Int
  epoch : Nat
  detail : List Int
deriving DecidableEq, Repr

/-- A signed session record (R309): its fields in the table's order as width and value, and the signature r, s. -/
structure SignedRec where
  no : Nat
  fields : List Field
  sig : Option (Nat × Nat)
deriving DecidableEq, Repr

/-- The open session of an outlet's DC point (R309): start time, registers at its start, per-tariff import at its start,
gap at its start, flags. -/
structure SessionAcc where
  startMs : Int := 0
  impStart : Int := 0
  expStart : Int := 0
  tariffStart : List Int := []
  gapStart : Int := 0
  flags : Nat := 0
  endMs : Option Int := none
  impEnd : Int := 0
  expEnd : Int := 0
  tariffEnd : List Int := []
deriving DecidableEq, Repr

/-- A tamper condition (R313), by cause and point: the epoch since which it holds, plus 1, whether it has been recorded,
and the epoch since which a recorded one has been clear, plus 1; 0 for none. -/
structure TamperSt where
  since : Nat := 0
  recorded : Bool := false
  clear : Nat := 0
deriving DecidableEq, Repr

/-- One copy of the power-fail store (R302): sequence number, registers and status points of domain 6, remainders, open
intervals, session accumulators, legal clock, epoch and latches. -/
structure StoreCopy where
  seq : Nat
  regs : UMap Int
  rem : UMap Int
  open_ : UMap OpenInterval
  sessions : UMap SessionAcc
  legal : Nat
  epoch : Nat
  lastBoundary : Int
  nextBoundary : Int
  unacked : List (Nat × Nat)
  tampers : UMap TamperSt
deriving DecidableEq, Repr

/-- A contact of the METER compartment or the cover, or a tamper condition, latched while the lane's metrology was off (R312, R314):
of the seal its new state, else the cause, the point, the contact's time before, the measured values; and the ms since the loss. -/
inductive Latch where
  | seal (opened : Bool)
  | tamper (cause point clearMs downMs : Nat) (values : List Int)
deriving DecidableEq, Repr

/-- A step of `CLOCK_SET` that waits for the next sample (R298): the lap of the command, Δ, and whether it lies within the limit. -/
structure ClockStep where
  lap : Nat
  delta : Int
  within : Bool
deriving DecidableEq, Repr

/-- The metrology processor of one lane (R279). `legal` counts legal UTC in ticks of 125 µs, `rem` holds the remainders
of R268 in 2^−32 milli-units, `lastHolderTick` the tick at which a sample of the holder last arrived (R259), `clockSteps`
the steps of `CLOCK_SET` that wait for the next sample (R298), `follows` whether the legal clock follows a holder's (R297), `dayTariffs`
the days on which the tariff was evaluated, newest first, with the tariff in force at the end of the day before (R295), `partner` whether the other lane has metered since the
loss of supply (R304), `latches` the contacts latched since, newest first (R314), `epochE` the active energies of the epoch, `secE` those since the last comparison. -/
structure MetSt where
  tick : Nat := 0
  lastHolderTick : Option Nat := none
  chans : UMap ChanSt := []
  ac : UMap AcSt := []
  dc : UMap DcSt := []
  ntc : UMap NtcSt := []
  s0 : UMap S0St := []
  po : UMap PoSt := []
  rem : UMap Int := []
  gapTicks : UMap Nat := []
  epochE : UMap Int := []
  secE : UMap Int := []
  own : ControlSet := {}
  legal : Nat := 0
  lastBoundary : Int := 0
  nextBoundary : Int := 900000
  lastPeriod : Int := 0
  tariffAt : Int := 0
  periodStart : Int := 0
  openI : UMap OpenInterval := []
  splitOpen : Bool := false
  profile : List IntervalRec := []
  periods : List PeriodRec := []
  log : List LogEntry := []
  kindNo : UMap Nat := []
  unacked : List (Nat × Nat) := []
  tampers : UMap TamperSt := []
  sessions : UMap SessionAcc := []
  records : List SignedRec := []
  lossTicks : Option Nat := none
  partner : Bool := false
  latches : List Latch := []
  clockSteps : List ClockStep := []
  follows : Bool := false
  dayTariffs : List (Int × Nat) := []
  store0 : Option StoreCopy := none
  store1 : Option StoreCopy := none
  storeSeq : Nat := 0
  lastClosed : UMap Int := []
  copied : Bool := true
  display : Nat := 0
  displayLap : Nat := 0
deriving DecidableEq, Repr

/-! ### Functional safety (13_functional_safety.md) -/

/-- A telegram held for comparison (R343): net 1 or 2, lap of arrival. -/
structure TgCopy where
  net : Nat
  lap : Nat
  t : Telegram
deriving DecidableEq, Repr

/-- What is kept of a sender (R342, R343): its last accepted sequence number and send time, its reset count, and whether
its last accepted telegram demands a trip, whether it is late, and the lap since which both nets deliver agreeing copies (R344). -/
structure TgSender where
  seq : Option Nat := none
  time : Int := 0
  resets : Nat := 0
  demand : Bool := false
  late : Bool := false
  agree : Option Nat := none
deriving DecidableEq, Repr

/-- One channel's view of the emergency stop contacts (R326), in cycles of 1 ms: how long the two inputs differ and how long both have been
open together, whether that was 200 ms once since both were closed, the discrepancy, and the own pulses missed in succession. -/
structure Contacts where
  diff : Nat := 0
  both : Nat := 0
  ready : Bool := false
  discrepancy : Bool := false
  miss1 : Nat := 0
  miss2 : Nat := 0
  pulseLap : Nat := 0
  loopFault : Bool := false
deriving DecidableEq, Repr

/-- The safety core of one lane. `trip1`, `trip2` are the latches of its channels by function number, `demand` the
functions in demand at the last cycle, `estop1`, `estop2`, `resetIn` and `loopIn` the lines as last sampled. Output numbers: 0, 1 SAFE OUT, 2 SAFE LOOP OUT, then CTR+, CTR− and BDIS of each
outlet. `ovHit` and `ampHit` are the outlets of which a run of samples reached its 8 or 20 since the last cycle (R330, R333), `outsOn` the outputs
energised but for a test pulse, `sentBytes` the telegram as sent. Runs and spans count samples, cycles or laps. -/
structure SafeSt where
  startLap : Nat := 0
  filled : Bool := false
  trip1 : List Nat := []
  trip2 : List Nat := []
  demand : List Nat := []
  diffRun : Nat := 0
  chanFault : Bool := false
  con1 : Contacts := {}
  con2 : Contacts := {}
  resetHeld : Bool := false
  startupHold : Bool := true
  resetCount : Nat := 0
  imdOk : List Nat := []
  ovRun : UMap Nat := []
  ampRun : UMap Nat := []
  ovHit : List Nat := []
  ampHit : List Nat := []
  outsOn : List Nat := []
  degLap : UMap Nat := []
  expiredLap : UMap Nat := []
  estop1 : Bool := false
  estop2 : Bool := false
  resetIn : Bool := false
  loopIn : Bool := false
  pulses : List (Nat × Nat) := []
  seqTx : Nat := 0
  sent : Option Telegram := none
  sentBytes : List Nat := []
  held : List TgCopy := []
  senders : UMap TgSender := []
  net1Lap : Nat := 0
  net2Lap : Nat := 0
  bothLap : Option Nat := none
deriving DecidableEq, Repr

/-! ### Lanes, baton (14_lanes_and_baton.md) -/

/-- The lane states of R356. -/
inductive LaneState where
  | absent | reset | resync | standby | holder
deriving DecidableEq, Repr

/-- The resynchronisation phases of R364; `none` is code 0. -/
inductive Phase where
  | none | boot | align | copy | catchup | shadow
deriving DecidableEq, Repr

/-- A firmware bank (R369, R370): the bytes loaded, and once verified the image's identity and compatibility numbers. -/
structure Bank where
  data : List Nat := []
  verified : Bool := false
  id : Nat := 0
  compat : Nat := 0
  compatMin : Nat := 0
deriving DecidableEq, Repr

/-- The lane's own block: its lines to the arbiter (R352), its state and resynchronisation (R356, R364), the
self-diagnosis (R360, R361), whether its cartridge is a PTR-LC-2560 (R3), the persistence marks of R365 and R366, comparison bookkeeping, banks (R369) and the
cartridge (R373), the CRC-32C stored with a metrology image that was loaded and activated (R280), and the log of changes that a holder keeps for a lane in `COPY` (R37, R364). `grant` says that the GRANT lines name this lane, `granted` that they name one (R352). `liveLaps` are the latest laps with a LIVE toggle, `flagMs` the last epoch, plus 1, in which a flag's
cause occurred. -/
structure LinkSt where
  state : LaneState := .absent
  phase : Phase := .none
  phaseLap : Nat := 0
  booted : Bool := false
  want : Bool := false
  wantLap : Nat := 0
  liveLaps : List Nat := []
  halted : Option Nat := none
  grant : Bool := false
  granted : Bool := false
  batonSeen : Nat := 0
  batonStore : Nat := 0
  giveUp : Option Nat := none
  releaseLap : Option Nat := none
  portsDown : Bool := false
  parked : Bool := false
  ejectOpen : Bool := false
  faultReset : Bool := false
  small : Bool := false
  mismatchCart : Bool := false
  cmpRun : Nat := 0
  allocRun : Nat := 0
  commitRun : Nat := 0
  sessRun : Nat := 0
  linkHubs : List Nat := []
  linkRound : Bool := false
  returnMs : Option Nat := none
  cmpPersist : Bool := false
  leftCmp : Bool := false
  tvPersist : Bool := false
  tvLastMs : Option Nat := none
  flagMs : UMap Nat := []
  rejectLaps : UMap (List Nat) := []
  rejectLap : Option Nat := none
  logging : Bool := false
  changeLog : List Change := []
  shadowClean : Nat := 0
  banks : UMap Bank := []
  metBanks : UMap Bank := []
  metCrc : Option Nat := none
  metActive : Nat := 0
  fwAnswer : Option Request := none
  handover : Option Request := none
  powered : Nat := 0
deriving DecidableEq, Repr

/-- The arbiter's grant latches and non-volatile baton number (R353, R355), the laps that it has counted, and the one in which it has
evaluated last. -/
structure Arbiter where
  grant : Option LaneId := none
  baton : Nat := 0
  lap : Nat := 0
  evaluated : Option Nat := none
deriving DecidableEq, Repr

/-- The chassis identity store (R16), and the shared parts that hold a position: the team bypass switches, the seal
switch, the gate of SAFE LOOP IN (R340), the levels of TRIG IN 1 and 2. -/
structure Chassis where
  variant : Variant := .D
  serialLo : Nat := 0
  serialHi : Nat := 0
  rev : Nat := 0
  bypass1 : Bool := true
  bypass2 : Bool := true
  sealOpen : Bool := false
  loopGate : Bool := false
  trig0 : Bool := false
  trig1 : Bool := false
deriving DecidableEq, Repr

/-! ### Key store (15_key_store.md) -/

/-- A key slot (R376, R377): state 0 empty, 1 valid, 2 invalidated; attribute word; versions of the key and of its parent
when it was written; for a working key the slot it was derived from; the key's bytes. -/
structure KeySlot where
  state : Nat := 0
  attr : Nat := 0
  ver : Nat := 0
  parentVer : Nat := 0
  parent : Nat := 0
  value : List Nat := []
deriving DecidableEq, Repr

/-- An update message under application (R384): lap of execution, request, authorising slot, status and failing operation of checks 1 to
11, the trial store, its counter, the slots it writes or invalidates, whether the digests were exchanged and agreed, and the blocking tamper
records that wait for the outcome (R388). -/
structure KeyApply where
  lap : Nat
  req : Request
  auth : Nat := 0
  status : Nat
  index : Nat
  trial : UMap KeySlot
  counter : Nat
  touched : List Nat
  agreed : Option Bool := none
  tampers : List (Nat × Nat × Nat × List Int) := []
deriving DecidableEq, Repr

/-- The key store of one lane: slots, the serial it is bound to, the message buffer of each ring (R391), the message
under application, the copies engines hold as engine, slot and version (R385), the lane-link key (R389), and the
transport keys the always-on domain holds in `ASLEEP`. -/
structure KeySt where
  slots : UMap KeySlot := []
  serialLo : Nat := 0
  serialHi : Nat := 0
  buffers : UMap (List Nat) := []
  apply : Option KeyApply := none
  copies : List (Nat × Nat × Nat) := []
  linkKey : Option Nat := none
  aoCopies : List Nat := []
deriving DecidableEq, Repr

/-! ### Relay teams (16_relay_teams.md) -/

/-- A membership change on its way (R404): new mask, new key generation, team epoch, members that acknowledged, and at
the anchor the request to answer. -/
structure TeamChange where
  mask : Nat
  keyGen : Nat
  epoch : Int
  acks : Nat := 0
  req : Option Request := none
deriving DecidableEq, Repr

/-- One member as the beacons show it (R403, R405): beacon seen this epoch, consecutive epochs with and without one,
serial and team epoch of the last beacon, a clash of serials seen this epoch, and one seen in the epoch before. -/
structure TeamMember where
  seen : Bool := false
  run : Nat := 0
  miss : Nat := 0
  serial : Nat := 0
  epoch : Int := 0
  conflict : Bool := false
  clash : Bool := false
  gen : Nat := 0
deriving DecidableEq, Repr

/-- A team arm in force or on its way (R410): its id, team epoch, parameters, whether it has taken effect, the earliest
trigger received as time and path. -/
structure TeamArm where
  id : Nat
  epoch : Int
  preMs : Nat
  postMs : Nat
  mib : Nat
  armed : Bool := false
  best : Option (Int × Nat) := none
deriving DecidableEq, Repr

/-- A team level (R393, R394): mask in force, key generation, members, whether the epoch offset is set, `seq` sent, a
change and an arm under way, and copies accepted of each sender and net. -/
structure TeamLevel where
  mask : Nat := 1
  keyGen : Nat := 0
  members : UMap TeamMember := []
  offsetSet : Bool := false
  offsetLate : Bool := false
  seq : Nat := 0
  change : Option TeamChange := none
  arm : Option TeamArm := none
  heard : List (Nat × Nat × Nat) := []
deriving DecidableEq, Repr

/-- A team frame as its sender builds it (R400): level, kind, `seq`, net, addressed members, team epoch, `key_gen` and the payload's
fields. -/
structure SentFrame where
  level : Nat
  kind : Nat
  dir : Nat
  lap : Nat
  seq : Nat
  net : Nat
  dest : Nat
  epoch : Int
  keyGen : Nat
  body : List Field
deriving DecidableEq, Repr

/-- Both rings (R397, R398): beacon returns of this epoch by level, net and direction, epochs since the last missing one per
net; the frames that this lane has built last, those that it has sent, and those forwarded last as team, sender, net, direction, `seq` and
`ttl`; arms issued. -/
structure TeamSt where
  levels : UMap TeamLevel := []
  returns : List (Nat × Nat × Nat) := []
  whole1 : Bool := true
  whole2 : Bool := true
  run1 : Nat := 0
  run2 : Nat := 0
  beaconEpoch : Option Nat := none
  forwarded : List (Nat × Nat × Nat × Nat × Nat × Nat) := []
  built : List SentFrame := []
  sent : List SentFrame := []
  nextArm : Nat := 1
deriving DecidableEq, Repr

/-! ### Equipment bus and mast link (17_equipment_bus_and_mast_link.md) -/

/-- A receive object or its shadow (R418, R419). -/
structure RxObj where
  data : List Nat := []
  fdf : Bool := false
  brs : Bool := false
  lap : Nat := 0
  tag : Int := 0
  placed : Bool := false
  wasRead : Bool := false
deriving DecidableEq, Repr

/-- A transmit object's buffers (R420). -/
structure TxObj where
  front : List Nat := []
  back : Option (List Nat) := none
deriving DecidableEq, Repr

/-- A transmit request not yet done (R416, R420, R422): object, whether a cell of the schedule made it, its payload, and whether a grant
change cut it off, so that it is sent once more. -/
structure CanReq where
  obj : Nat
  cell : Bool
  payload : List Nat
  again : Bool := false
deriving DecidableEq, Repr

/-- One CAN bus: frames that wait for the next lap start (R417), receive objects, shadows, objects under a host read,
transmit objects, pending requests, the frame under way, the open column and its cell, the schedule bank in force
(R421), whether a bus-off recovery was asked for, whether the holder's controller is in bus-off, which both lanes know (R416), and whether
another node's frame holds the bus (R422). -/
structure CanBus where
  arrived : List (Nat × RxObj) := []
  rx : UMap RxObj := []
  shadow : UMap RxObj := []
  reading : List Nat := []
  tx : UMap TxObj := []
  pending : List CanReq := []
  flight : Option CanReq := none
  column : Option Nat := none
  cell : Nat := 0xFF
  bank : UMap Int := []
  recovering : Bool := false
  asleep : Bool := false
  off : Bool := false
  busy : Bool := false
deriving DecidableEq, Repr

/-- One mast node (R431): queued writes, `seq` of the running or last transaction, failed transactions in a row, and the
latest response: data, `seq`, time tag, link report. -/
structure MastNode where
  queue : List (List Nat) := []
  seq : Nat := 0
  fails : Nat := 0
  data : List Nat := []
  dataSeq : Nat := 0
  tag : Int := 0
  report : List Nat := []
  status : Nat := 0
  known : Bool := false
deriving DecidableEq, Repr

/-- One mast port (R428, R431, R432): mains cycles seen, period of the last one, whether it lies within ±5 %, own
guard-noise classes (segment × 2 + pair), mains cycles for which each segment's q has allowed a less robust level, the
running transaction's node, its repeats, the queued data that its request carries, whether its response's body failed, a repeat that is due, the cycle in which its response is due to start and the first one in
which the next transaction may start, good transactions, and the last request's bytes. -/
structure MastPort where
  cycles : Nat := 0
  periodUs : Nat := 20000
  inBand : Bool := true
  own : List Nat := []
  allow : List Nat := []
  node : Nat := 0
  active : Bool := false
  repeats : Nat := 0
  carried : Option (List Nat) := none
  failed : Bool := false
  repeatDue : Bool := false
  dueCycle : Nat := 0
  nextCycle : Nat := 0
  good : Nat := 0
  recovering : Bool := true
  frame : List Nat := []
deriving DecidableEq, Repr

/-- The mast link of one lane. -/
structure MastSt where
  ports : UMap MastPort := []
  nodes : UMap MastNode := []
deriving DecidableEq, Repr

/-! ### Tuning and acquisition (18_tuning_and_acquisition.md) -/

/-- A frequency point of a measurement (R441): phase increment, frequency in mHz, settle and measured evaluations. -/
structure TunePoint where
  phi : Nat
  mHz : Nat
  settle : Nat
  meas : Nat
deriving DecidableEq, Repr

/-- What a point has accumulated (R441): Σ A·cos, Σ −A·sin, the same for B, evaluations measured. -/
structure TuneAcc where
  ar : Int := 0
  ai : Int := 0
  br : Int := 0
  bi : Int := 0
  n : Nat := 0
deriving DecidableEq, Repr

/-- One result record (R452): frequency, re, im, a_amp. -/
structure TuneResult where
  mHz : Nat
  re : Int
  im : Int
  amp : Nat
deriving DecidableEq, Repr

/-- The measurement of a `TUNE_START` (R438 to R443). `kind` 1 PRBS, 2 stepped sine, 3 step; `m` counts evaluations,
`pt` and `mPt` the point of a stepped sine and its evaluations; `lfsr` is the PRBS register. -/
structure TunePlan where
  slot : Nat
  node : Nat
  kind : Nat
  amp : Int
  nodeA : Nat
  nodeB : Nat
  guard : Option Nat
  guardA : Nat
  n : Nat := 0
  h : Nat := 1
  settle : Nat := 0
  total : Nat := 0
  points : List TunePoint := []
  startEpoch : Nat
  endLap : Nat
  m : Nat := 0
  pt : Nat := 0
  mPt : Nat := 0
  lfsr : Nat := 0
  accs : UMap TuneAcc := []
  devRun : Nat := 0
  dev : Int := 0
  limited : Bool := false
  takeover : Bool := false
  doneEpoch : Option Nat := none
deriving DecidableEq, Repr

/-- The tuning block (R438, R443, R452): the measurement that waits or runs, whether it runs, and the latest completed
result with its flags. -/
structure TuneSt where
  plan : Option TunePlan := none
  running : Bool := false
  result : List TuneResult := []
  flags : Nat := 0
  haveResult : Bool := false
deriving DecidableEq, Repr

/-- The trace buffers (R444, R445): samples of each probe newest first, each with its lap, arming, trigger, and the laps that each
engine spent in reset. -/
structure TraceSt where
  samples : UMap (List (Nat × Int)) := []
  pre : Nat := 0
  source : Nat := 0
  armLap : Nat := 0
  trigLap : Option Nat := none
  resetLaps : List (Nat × Nat) := []
deriving DecidableEq, Repr

/-- An acquisition entry (R448). -/
structure AcqEntry where
  time : Int
  value : Int
  channel : Nat
  status : Nat
  flags : Nat
  lap : Nat
deriving DecidableEq, Repr

/-- A record (R449): number, state, arm id, times, size in MiB, team level where it is team-armed, entries newest first,
trigger time and source, flags (bit 0 `pre_short`). -/
structure AcqRecord where
  no : Nat
  state : Nat
  armId : Nat
  preMs : Nat
  postMs : Nat
  mib : Nat
  level : Option Nat := none
  armLap : Nat
  entries : List AcqEntry := []
  trig : Option Int := none
  trigLap : Nat := 0
  trigSource : Nat := 0
  flags : Nat := 0
deriving DecidableEq, Repr

/-- A channel (R447): last stored value and status, lap of storing, last sampled value, and an overflow flag owed. -/
structure AcqChan where
  known : Bool := false
  value : Int := 0
  status : Nat := 0
  lap : Nat := 0
  sample : Int := 0
  sampled : Bool := false
  overflow : Bool := false
deriving DecidableEq, Repr

/-- The acquisition engine of one lane (R446 to R451): records, channels, the partition in force, whether it is paused
and since when, entries stored in this lap, a condition met as time, source and index, and the TRIG OUT pulses. -/
structure AcqSt where
  records : List AcqRecord := []
  chans : UMap AcqChan := []
  partition : Nat := 4096
  paused : Bool := false
  lapCount : Nat := 0
  met : Option (Int × Nat) := none
  nextArm : Nat := 1
  pulse0 : Option Nat := none
  pulse1 : Option Nat := none
deriving DecidableEq, Repr

/-! ### Power states (19_power_states_and_reset.md) -/

/-- A timetable entry (R467); `fired` once it has fallen due. -/
structure TtEntry where
  id : Nat
  arrivalMs : Nat
  leadS : Nat
  fired : Bool := false
deriving DecidableEq, Repr

/-- A sleep entry under way (R462 to R465): the epoch S, the request to answer (none for an automatic entry), whether
the checks passed, whether lap 4 of S has passed. -/
structure SleepPrep where
  epoch : Nat
  req : Option Request
  checked : Bool := false
  committed : Bool := false
deriving DecidableEq, Repr

/-- Power-state block of one lane: whether the fast domain and the always-on domain run, `power` as coded by R458, the
sleep entry, a latched wake source, whether the lane is the keeper, the sources seen during a wake, start times in legal
ms, READY's start, whether the epoch has seen an outlet energised or a pack out of `IDLE` (R459), an event 116 owed, the timetable with entries whose event is owed, a module restart under way, and
the ranges of epochs that fell in `ASLEEP`. -/
structure PowerSt where
  fastOn : Bool := false
  aoOn : Bool := true
  power : Nat := 0
  sleep : Option SleepPrep := none
  latched : Option Nat := none
  keeper : Bool := false
  wakeSeen : Nat := 0
  wakeStartMs : Int := 0
  coldStartMs : Int := 0
  timing : Bool := false
  readySince : Option Nat := none
  ran : Bool := false
  wakeEvent : Bool := false
  tt : List TtEntry := []
  ttOwed : List Nat := []
  restart : Option (Nat × Request) := none
  restartAnswered : Bool := false
  asleepFrom : Nat := 0
  asleep : List (Nat × Nat) := []
deriving DecidableEq, Repr

/-! ### Thermal and memory health (20_thermal_and_memory_health.md) -/

/-- The housekeeping state of one lane that no point shows (R479 to R489): rounds run, failing and plausible rounds of
each sensor, rounds at or above each band's limit and 3 K below it, faulty rounds of each rail, rounds of slow fans, corrections by
epoch time of the rolling hour and the codes whose rate is exceeded, distinct lines corrected per device, the scrubber's line,
critical shutdowns by epoch, seconds for which all of sensors 8 to 13 have read below 70 °C, and the fan speed commanded, per mille
between minimum and full. -/
structure ThermSt where
  rounds : Nat := 0
  fail : UMap Nat := []
  good : UMap Nat := []
  failed : List Nat := []
  upRun : UMap Nat := []
  downRun : UMap Nat := []
  rails : UMap Nat := []
  fans : UMap Nat := []
  fanFaults : List Nat := []
  divNext : Nat := 1
  inner : List (Nat × Nat) := []
  outer : List (Nat × Nat) := []
  devLines : UMap (List Nat) := []
  exceeded : List Nat := []
  overSince : Option Nat := none
  clearSince : Option Nat := none
  scrubLine : Nat := 0
  shutdowns : List Nat := []
  shut : Bool := false
  coolS : Nat := 0
  refreshHalved : Bool := false
  fanLevel : Int := 0
deriving DecidableEq, Repr

/-! ### A lane and the controller -/

/-- One lane: its identity, the running lap (R107), its committed configuration, status points and their status codes, the
sums and last values of `MEAN` points (R39, R46), and the record of every block. `imgs` holds sealed images, newest
first, `hist` the ledger history, `sealing` the image captured at the end of the last epoch, `sealDone` that it is sealed and
waits for lap 4 (R45). -/
structure Lane where
  id : LaneId
  lap : Nat := 0
  cfg : UMap Int := []
  pts : UMap Int := []
  stat : UMap Nat := []
  means : UMap Int := []
  sums : UMap Int := []
  host : HostSt := {}
  pacer : PacerSt := {}
  link : LinkSt := {}
  power : PowerSt := {}
  hubs : UMap HubSt := []
  phases : UMap PhaseSt := []
  packs : UMap PackSt := []
  slots : UMap SlotSt := []
  engine : EngineSt := {}
  alloc : AllocSt := {}
  pools : UMap PoolSt := []
  cools : UMap CoolSt := []
  outs : UMap OutletSt := []
  met : MetSt := {}
  safe : SafeSt := {}
  keys : KeySt := {}
  team : TeamSt := {}
  can : UMap CanBus := []
  mast : MastSt := {}
  tune : TuneSt := {}
  trace : TraceSt := {}
  acq : AcqSt := {}
  therm : ThermSt := {}
  imgs : List Image := []
  hist : List Change := []
  sealing : Option Image := none
  sealDone : Bool := false
deriving DecidableEq, Repr

/-- The controller: both lanes, the arbiter, the chassis, the model's counter of free values
(log entry 12), and the queue of commands that wait, first in, first out. -/
structure State where
  a : Lane
  b : Lane
  arbiter : Arbiter := {}
  chassis : Chassis := {}
  free : Nat := 0
  pending : List Instr := []
deriving DecidableEq, Repr

/-- Why the machine stops with a fault. The block has no stop of its own: what the spec calls a fault of the hardware is
held in the state. -/
inductive Fault where
  /-- Nobody raises it: the spec gives every row of the command table an effect. Safe. -/
  | unused
deriving DecidableEq, Repr

/-- Why a command has no meaning. -/
inductive Refusal where
  /-- A row of the command table that the model does not give its meaning. Safe. -/
  | notModelled (mnemonic : String)
deriving DecidableEq, Repr

/-- A key slot as it leaves the factory (R374, R376): valid, version 1, under a parent of version 1 (log entry 9). -/
def factorySlot (attr : Nat) : KeySlot := { state := 1, attr := attr, ver := 1, parentVer := 1 }

/-- The points of a lane at reset that do not stand at their row's default: the variant's part of the capability word (R4), the lane in
state 1 at `BOOT` (R356, R364), the end of the first billing interval (R318), and the rings whole with their bypasses closed (R394, R398,
log entry 117). -/
def bootPoints : UMap Int := [(0x0, 0x18208830), (0x6C404, 900000), (0x90100, 1), (0x90108, 1), (0x90640, 15)]

/-- A lane at reset: its cartridge present and in state 1 (R356), laps stopped, nothing committed. -/
def Lane.reset (i : LaneId) : Lane :=
  { id := i
    link := { state := .reset, phase := .boot }
    pts := bootPoints
    keys := { slots := [(0, factorySlot 0x100100), (4, factorySlot 0x180100), (16, factorySlot 0x180140)] } }

/-- The controller right after reset: both cartridges present with laps stopped, no grant, baton number 0, nothing
committed, nothing waiting. -/
def State.reset : State := { a := Lane.reset .A, b := Lane.reset .B }

end Sys2Proof.Machine
end

