-- ==== Sys2Proof/Machine/Ops.lean ====
section
/-!
DEFINITION. The named operations every block shares: reading and writing ledger points, choosing lanes, firing events
(R87 to R89), placing entries on rings (R76, R81), and reading request bodies.
-/

namespace Sys2Proof.Machine

/-! ### Lanes of a state -/

/-- The named lane. -/
def State.lane (s : State) : LaneId → Lane
  | .A => s.a
  | .B => s.b

/-- The state with the named lane replaced. -/
def State.setLane (s : State) (i : LaneId) (l : Lane) : State :=
  match i with
  | .A => { s with a := l }
  | .B => { s with b := l }

/-- An update of one lane that may read the whole state as it stood before (`s`). -/
abbrev LaneFn := State → LaneId → Lane → Lane

/-- `f` applied to the named lane when `p` holds of it. -/
def State.onLane (s : State) (i : LaneId) (p : Lane → Bool) (f : LaneFn) : State :=
  if p (s.lane i) then s.setLane i (f s i (s.lane i)) else s

/-- `f` applied to each lane of which `p` holds; both see the state as it stood before (R20, R23). -/
def State.eachLane (s : State) (p : Lane → Bool) (f : LaneFn) : State :=
  { s with
    a := if p s.a then f s .A s.a else s.a
    b := if p s.b then f s .B s.b else s.b }

/-- A lane that is present (R356). -/
def Lane.present (l : Lane) : Bool := decide (l.link.state ≠ .absent)

/-- A lane that is present and out of reset, as the lane-present fields of R4 show it. -/
def Lane.outOfReset (l : Lane) : Bool := l.present && decide (l.link.state ≠ .reset)

/-- A lane that computes the plant: present, out of reset, laps running, not stopped by its own fault (R23, R352,
R362). -/
def Lane.active (l : Lane) : Bool :=
  l.pacer.laps && l.link.halted.isNone && (match l.link.state with
    | .absent => false
    | .reset => false
    | _ => true)

/-- A lane whose laps run, in reset or not (R108). -/
def Lane.lapping (l : Lane) : Bool := l.pacer.laps && l.present

/-- The lap, or while no laps run the lap that the always-on domain's epoch stands for (R108). -/
def Lane.proxClock (l : Lane) : Nat := if l.lapping then l.lap else 200 * l.pacer.aoEpoch

/-- A lane out of its boot whose laps run, and whose stage transmitters are therefore on (R117, R357, R469). -/
def Lane.linksRun (l : Lane) : Bool :=
  l.lapping && l.link.halted.isNone && (decide (l.link.state ≠ .reset) || l.link.booted)

/-- A lane whose always-on domain runs (R460). -/
def Lane.alwaysOn (l : Lane) : Bool := l.power.aoOn && l.present

/-- The epoch the lap belongs to (R107). -/
def Lane.epoch (l : Lane) : Nat := l.lap / 200

/-- The lap's number within its epoch (R31). -/
def Lane.lapIn (l : Lane) : Nat := l.lap % 200

/-- State codes of R356. -/
def LaneState.code : LaneState → Nat
  | .absent => 0
  | .reset => 1
  | .resync => 2
  | .standby => 3
  | .holder => 4

/-- Phase codes of R364. -/
def Phase.code : Phase → Nat
  | .none => 0
  | .boot => 1
  | .align => 2
  | .copy => 3
  | .catchup => 4
  | .shadow => 5

/-- Lane A is 0 and lane B is 1 where an index or unit names a lane. -/
def LaneId.num : LaneId → Nat
  | .A => 0
  | .B => 1

/-! ### Ledger points -/

/-- The committed value of a configuration point (R13, R53). -/
def cfgAt (m : UMap Int) (a : Nat) : Int := UMap.get pointDefault m a

/-- The committed value of a configuration point of this lane. -/
def Lane.c (l : Lane) (a : Nat) : Int := cfgAt l.cfg a

/-- The same, for a point that is never negative. -/
def Lane.cn (l : Lane) (a : Nat) : Nat := (l.c a).toNat

/-- The present value of a status point of this lane. -/
def Lane.p (l : Lane) (a : Nat) : Int := UMap.get pointDefault l.pts a

/-- The same, for a point that is never negative. -/
def Lane.pn (l : Lane) (a : Nat) : Nat := (l.p a).toNat

/-- A status point written by its block. -/
def Lane.setp (l : Lane) (a : Nat) (v : Int) : Lane := { l with pts := UMap.put pointDefault l.pts a v }

/-- A counter advanced by `n`. -/
def Lane.addp (l : Lane) (a : Nat) (n : Int) : Lane := l.setp a (l.p a + n)

/-- A counter advanced by 1. -/
def Lane.inc (l : Lane) (a : Nat) : Lane := l.addp a 1

/-- The placement generation after `g`, a 32-bit number (R60). -/
def nextGen (g : Nat) : Nat := (g + 1) % 2 ^ 32

/-- A generation that a point shows, advanced (R60). -/
def Lane.incGen (l : Lane) (a : Nat) : Lane := l.setp a (nextGen (l.pn a) : Nat)

/-- The status code (R41) a point carries besides what its unit imposes. -/
def Lane.st (l : Lane) (a : Nat) : Nat := UMap.get (fun _ => 0) l.stat a

/-- The status code of a point set by its block (R41). -/
def Lane.setst (l : Lane) (a : Nat) (c : Nat) : Lane := { l with stat := UMap.put (fun _ => 0) l.stat a c }

/-- A value and its status code written together. -/
def Lane.setps (l : Lane) (a : Nat) (v : Int) (c : Nat) : Lane := (l.setp a v).setst a c

/-- A list of numbered steps, applied in rising order of the number. -/
def Lane.forN (n : Nat) (f : Nat → Lane → Lane) (l : Lane) : Lane :=
  (List.range n).foldl (fun l i => f i l) l

/-- A list of steps applied in order. -/
def Lane.forL {α : Type} (xs : List α) (f : α → Lane → Lane) (l : Lane) : Lane :=
  xs.foldl (fun l x => f x l) l

/-- The record of outlet `o`'s session. -/
def Lane.out (l : Lane) (o : Nat) : OutletSt := UMap.get (fun _ => {}) l.outs o

/-- The record of outlet `o`'s session replaced. -/
def Lane.setOut (l : Lane) (o : Nat) (x : OutletSt) : Lane := { l with outs := UMap.put (fun _ => {}) l.outs o x }

/-- A configuration point of outlet `o` as its session reads it: a running session keeps its parameters (R59, R251). -/
def Lane.sc (l : Lane) (o a : Nat) : Int :=
  match (l.out o).par with
  | some m => cfgAt m a
  | none => l.c a

/-- The same, for a point that is never negative. -/
def Lane.scn (l : Lane) (o a : Nat) : Nat := (l.sc o a).toNat

/-- A health flag's cause occurred in this epoch (R368). -/
def Lane.mark (bit : Nat) (l : Lane) : Lane :=
  { l with link := { l.link with flagMs := UMap.put (fun _ => 0) l.link.flagMs bit (l.epoch + 1) } }

/-! ### The variant (R1, R4, R8) -/

/-- Stage ports per lane. -/
def Variant.ports : Variant → Nat
  | .D => 32
  | .H => 16
  | .T => 16

/-- Phases fitted. -/
def Variant.phases (v : Variant) : Nat := 16 * v.ports

/-- Packs fitted. -/
def Variant.packs (v : Variant) : Nat := 2 * v.ports

/-- Outlets fitted. -/
def Variant.outlets : Variant → Nat
  | .D => 32
  | .H => 16
  | .T => 16

/-- AC metering points fitted. -/
def Variant.acPoints : Variant → Nat
  | .D => 8
  | .H => 8
  | .T => 0

/-- DC metering points fitted. -/
def Variant.dcPoints : Variant → Nat
  | .D => 32
  | .H => 16
  | .T => 16

/-- TEAM N1 and N2 fitted. -/
def Variant.team : Variant → Bool
  | .D => true
  | .H => true
  | .T => false

/-- Mast link fitted. -/
def Variant.mast : Variant → Bool
  | .D => true
  | .H => false
  | .T => false

/-- The `VARIANT` code of the capability word. -/
def Variant.code : Variant → Nat
  | .D => 1
  | .H => 2
  | .T => 3

/-- The capability word (R4) for a variant and the lane-present fields. -/
def capabilityWord (v : Variant) (laneA laneB : Bool) : Nat :=
  v.code * 2 ^ 28 + v.ports * 2 ^ 22 + v.outlets * 2 ^ 16 + v.acPoints * 2 ^ 12 + v.dcPoints * 2 ^ 6
    + (if v.team then 32 else 0) + (if v.mast then 16 else 0) + (if laneA then 8 else 0) + (if laneB then 4 else 0)

/-- The capability word of the present epoch (R4): its lane-present fields never change within an epoch (R5). -/
def Lane.capability (l : Lane) (v : Variant) : Nat :=
  capabilityWord v (bitAt (l.pn D0.capability) 3) (bitAt (l.pn D0.capability) 2)

/-- Whether a ledger address (without member) belongs to a unit that the variant does not fit (R6, R8). -/
def unitAbsent (v : Variant) (a : Nat) : Bool :=
  let idx := a % 0x10000
  match a / 0x10000 with
  | 1 => decide (v.phases ≤ idx / 128)
  | 2 => decide (v.packs ≤ idx / 1024)
  | 3 => decide (v.outlets ≤ idx / 2048)
  | 5 =>
    if idx < 0x4000 then decide (v.acPoints ≤ idx / 2048)
    else if idx < 0x8000 then decide (v.dcPoints ≤ (idx - 0x4000) / 512)
    else false
  | 6 =>
    if idx < 0x8000 then decide (v.acPoints ≤ idx / 4096)
    else if idx < 0xC000 then decide (v.dcPoints ≤ (idx - 0x8000) / 512)
    else false
  | 7 =>
    if idx < 0x8000 then decide (v.outlets ≤ idx / 1024)
    else !v.team && decide (idx = 0x8000 ∨ idx = 0x8001 ∨ idx = 0x8004 ∨ idx = 0x8005)
  | 9 =>
    let f := idx % 0x8000
    if 0x1000 ≤ f ∧ f < 0x1800 then decide (v.ports ≤ (f - 0x1000) / 64)
    else if 0x0600 ≤ f ∧ f < 0x0700 then !v.team
    else if 0x6000 ≤ f ∧ f < 0x7000 then !v.mast
    else false
  | _ => false

/-! ### Rings and entries -/

/-- Ring 0 is always enabled and holds every right (R74); its transport key is the commissioning transport key in
slot 16 (R374). The other rings start disabled. Numbers from 32 on stand for the members whose requests this controller
executes (R85): 32 + 8 × level + member index. -/
def ringDefault (q : Nat) : Ring :=
  if q = 0 ∨ 32 ≤ q then { enabled := true, keySlot := 16, rights := 0x7F } else {}

/-- Ring pair `q` of this lane. -/
def Lane.ring (l : Lane) (q : Nat) : Ring := UMap.get ringDefault l.host.rings q

/-- Ring pair `q` replaced. -/
def Lane.setRing (l : Lane) (q : Nat) (r : Ring) : Lane :=
  { l with host := { l.host with rings := UMap.put ringDefault l.host.rings q r } }

/-- The sequence number after `n` (R76, R77): 0xFFFF_FFFF wraps to 1. -/
def nextSeqNo (n : Nat) : Nat := if n = 0xFFFFFFFF then 1 else n + 1

/-- Whether an entry is a notification. -/
def Entry.isNote (e : Entry) : Bool :=
  match e.body with
  | .response _ => false
  | _ => true

/-- The fields of an entry's body, with its `kind` (R76, R87): a response, an event notification or a subscription notification.
An event's detail fills bytes 24 to 55 of the body. DESIGN CHOICE (log entry 91): each of its values takes 8 of them, and what is left
reads 0. -/
def Payload.fields : Payload → Nat × List Field
  | .response fs => (0, fs)
  | .points sub skipped items =>
    (1, [(2, (sub : Int)), (2, (skipped : Int)), (4, 0)] ++ items.flatMap (fun e => (4, (e.1 : Int)) :: e.2))
  | .event n rep time lap unit detail =>
    (2, [(2, (n : Int)), (2, (rep : Int)), (8, (time : Int)), (8, (lap : Int)), (4, (unit : Int))]
      ++ (List.range 4).map (fun k => (8, detail.getD k 0)))

/-- The bytes that a list of fields takes. -/
def fieldsLen (fs : List Field) : Nat := fs.foldl (fun a f => a + f.1) 0

/-- An entry's fields (R76): the 32-byte header and the body to 224 bytes. -/
def Entry.fields (e : Entry) : List Field :=
  let b := e.body.fields
  let n := fieldsLen b.2
  [(4, (e.rspSeq : Int)), (4, (e.reqSeq : Int)), (8, (e.hostTag : Int)), (1, (b.1 : Int)),
    (1, b01 e.last + 2 * b01 e.resent + 4 * b01 e.byB), (2, (e.status : Int)), (2, (e.part : Int)), (1, (n : Int)), (1, 0),
    (8, (e.epoch : Int))] ++ b.2 ++ [(224 - n, 0)]

/-- A list of fields as bytes, each little-endian (R12). -/
def fieldsBytes (fs : List Field) : List Nat := fs.flatMap (fun f => leBytes f.1 (wrapU (8 * f.1) f.2))

/-- Notifications on the ring that the host has not acknowledged. -/
def Ring.notes (r : Ring) : Nat := (r.entries.filter Entry.isNote).length

/-- Whether one more entry of this kind has room (R74: 64 entries; R81: at most 48 notifications). -/
def Ring.room (r : Ring) (note : Bool) : Bool :=
  decide (r.entries.length < 64) && (!note || decide (r.notes < 48))

/-- An entry as a lane sends it (R76): the lap of sending, 0 where its output is withheld, and whether lane B sends it. -/
def Entry.stamp (send : Nat × Bool) (e : Entry) : Entry := { e with sentLap := send.1, byB := send.2 }

/-- An entry placed on the ring where it has room, else kept waiting (R81, R82). -/
def Ring.place (send : Nat × Bool) (r : Ring) (e : Entry) : Ring :=
  if r.room e.isNote then
    { r with entries := r.entries ++ [{ e.stamp send with rspSeq := r.nextRsp }]
             nextRsp := nextSeqNo r.nextRsp }
  else { r with waiting := r.waiting ++ [e] }

/-- Waiting entries placed as room appears (R82). -/
def Ring.settle (send : Nat × Bool) (r : Ring) : Ring :=
  r.waiting.foldl (Ring.place send) { r with waiting := [] }

/-- The lap that an entry sent now carries: 0 in a lane whose output is withheld (R23). -/
def Lane.sendLap (l : Lane) : Nat := if l.link.grant then l.lap + 1 else 0

/-- What an entry sent now by this lane is marked with (R76). -/
def Lane.sends (l : Lane) : Nat × Bool := (l.sendLap, l.link.grant && decide (l.id = .B))

/-- Entries queued on ring `q` behind those already waiting. -/
def Lane.queue (q : Nat) (es : List Entry) (l : Lane) : Lane :=
  let r := l.ring q
  l.setRing q (Ring.settle l.sends { r with waiting := r.waiting ++ es })

/-! ### Events -/

/-- The entry's event notification brought up to date where it is that of source `n` (R88). -/
def Entry.refire (n : Nat) (detail : List Int) (e : Entry) : Entry :=
  match e.body with
  | .event m rep t lp u d =>
    if m = n then { e with body := .event m (min (rep + 1) 0xFFFF) t lp u detail }
    else { e with body := .event m rep t lp u d }
  | _ => e

/-- Whether the entry is a notification of source `n`. -/
def Entry.isEvent (n : Nat) (e : Entry) : Bool :=
  match e.body with
  | .event m _ _ _ _ _ => m == n
  | _ => false

/-- The ring of an event source, 255 for none (R87). -/
def Lane.evRing (l : Lane) (n : Nat) : Nat := UMap.get (fun _ => 255) l.host.evMap n

/-- Whether a notification of source `n` is pending on the ring (R88): it waits for room, or the host has not acknowledged it. -/
def Ring.hasEvent (n : Nat) (r : Ring) : Bool := r.entries.any (Entry.isEvent n) || r.waiting.any (Entry.isEvent n)

/-- The ring on which a notification of source `n` is pending, which need not be the one that the source is mapped to now. -/
def Lane.pendingRing (l : Lane) (n : Nat) : Option Nat := (l.host.rings.find? (fun e => e.2.hasEvent n)).map Prod.fst

/-- Whether an event is one that the other lane has found and raised here, in this lap or the one before (R89). -/
def Lane.told (n unit : Nat) (detail : List Int) (l : Lane) : Bool :=
  l.host.mirrored.any (fun e => decide (e.1 = n ∧ e.2.1 = unit ∧ e.2.2.1 = detail ∧ l.lap ≤ e.2.2.2 + 1))

/-- Event source `n` fires for `unit` with `detail` (R87, R88). An unmapped source leaves no record. What both lanes find out is
one event, raised in both: a lane's own finding of what the other lane has raised is no second firing (R89). -/
def Lane.fire (n unit : Nat) (detail : List Int) (l : Lane) : Lane :=
  let q := l.evRing n
  if 32 ≤ q then l
  else if l.told n unit detail then { l with host := { l.host with mirrored := l.host.mirrored.filter (fun e => !(e.1 == n && e.2.1 == unit)) } }
  else
    match l.pendingRing n with
    | some p =>
      let r := l.ring p
      l.setRing p { r with entries := r.entries.map (Entry.refire n detail)
                           waiting := r.waiting.map (Entry.refire n detail) }
    | none =>
      l.queue q [{ epoch := l.epoch
                   body := .event n 0 l.pacer.teamTime.toNat l.lap unit detail }]

/-- An event that fires when a condition holds. -/
def Lane.fireIf (b : Bool) (n unit : Nat) (detail : List Int) (l : Lane) : Lane :=
  if b then l.fire n unit detail else l

/-- Whether a function is in reset in this lane (R93). -/
def Lane.inReset (l : Lane) (code unit : Nat) : Bool :=
  l.host.resets.any (fun x => decide (x.code = code ∧ x.unit = unit) && (decide (x.lanes = 0) || decide (x.lanes = l.id.num + 1)))

/-! ### Replies -/

/-- A response before it is put on the ring: status, epoch field, and the parts of its body. -/
structure Reply where
  status : Nat
  epoch : Nat := 0
  parts : List (List Field) := [[]]
deriving DecidableEq, Repr

/-- Status codes of R86. -/
def st_OK : Nat := 0
def st_UNKNOWN_COMMAND : Nat := 1
def st_BAD_LENGTH : Nat := 2
def st_NOT_PERMITTED : Nat := 3
def st_BAD_ADDRESS : Nat := 4
def st_UNIT_ABSENT : Nat := 5
def st_READ_ONLY : Nat := 6
def st_RANGE : Nat := 7
def st_STAGING_FULL : Nat := 8
def st_COMMIT_QUEUE_FULL : Nat := 9
def st_EPOCH_RANGE : Nat := 0xA
def st_EPOCH_GONE : Nat := 0xB
def st_EPOCH_ASLEEP : Nat := 0xC
def st_SEALED : Nat := 0xD
def st_OUTLET_ENERGISED : Nat := 0xE
def st_PAIR_MISMATCH : Nat := 0xF
def st_LANE_DISAGREE : Nat := 0x10
def st_SEQ_STALE : Nat := 0x11
def st_SEQ_AHEAD : Nat := 0x12
def st_SEQ_CONFLICT : Nat := 0x13
def st_SUBSCRIPTION_FULL : Nat := 0x14
def st_NOT_FOUND : Nat := 0x15
def st_NOT_STANDBY : Nat := 0x16
def st_BATON_HELD : Nat := 0x17
def st_ARMED : Nat := 0x18
def st_NO_PARTNER : Nat := 0x19
def st_BUSY : Nat := 0x1A
def st_PATH_INVALID : Nat := 0x1B
def st_UNREACHABLE : Nat := 0x1C

/-- A reply that is only a status. -/
def Reply.just (st : Nat) : Reply := { status := st }

/-- `OK` with one body. -/
def Reply.ok (body : List Field) : Reply := { status := st_OK, parts := [body] }

/-- The commands whose answers to a member are bulk frames: those with history and acquisition data (R401; DEDUCED, log entry 117). -/
def bulkAnswer (command : Nat) : Bool := command == 0x0012 || command == 0x0524

/-- The entries of a reply to request `r` (R76): parts numbered from 0, the last one marked. -/
def Reply.entriesFrom (r : Request) (rep : Reply) (total : Nat) : Nat → List (List Field) → List Entry
  | _, [] => []
  | k, p :: ps =>
    { reqSeq := r.seq, hostTag := r.hostTag, status := rep.status, part := k, last := k + 1 == total
      bulk := bulkAnswer r.command, epoch := rep.epoch, body := .response p } :: Reply.entriesFrom r rep total (k + 1) ps

/-- A response's parts: at least one, which holds `head` where there is nothing to list. -/
def partsOr (head : List Field) (ps : List (List Field)) : List (List Field) := if ps.isEmpty then [head] else ps

/-- All entries of a reply; one with no body is a single part (R76). -/
def Reply.entries (r : Request) (rep : Reply) : List Entry :=
  rep.entriesFrom r (partsOr [] rep.parts).length 0 (partsOr [] rep.parts)

/-- A request answered: the entries go to its ring and into the history of the last 64 responses (R81), and the request
is no longer in progress. -/
def Lane.answer (r : Request) (rep : Reply) (l : Lane) : Lane :=
  let es := rep.entries r
  let l1 := l.queue r.ring es
  let g := l1.ring r.ring
  l1.setRing r.ring { g with
    history := (⟨r.seq, r.command, r.hostTag, es⟩ :: g.history).take 64
    inProgress := g.inProgress.filter (fun x => x.seq != r.seq)
    takes := g.takes.filter (fun x => x.1 != r.seq) }

/-- A response that enters no history (R78). -/
def Lane.answerOnly (r : Request) (st : Nat) (l : Lane) : Lane := l.queue r.ring ((Reply.just st).entries r)

/-! ### Request bodies -/

/-- A little-endian field of the body. -/
def Request.at_ (r : Request) (off len : Nat) : Nat := fieldAt r.body off len

/-- Body bytes used. -/
def Request.len (r : Request) : Nat := r.body.length

/-- A request entry's fields (R75): the 32-byte header and the body to 224 bytes. -/
def Request.fields (r : Request) : List Field :=
  [(4, (r.seq : Int)), (8, (r.hostTag : Int)), (2, (r.command : Int)), (2, (r.body.length : Int)), (4, (r.path : Int)), (1, (r.lane : Int)),
    (11, 0)] ++ r.body.map (fun (b : Nat) => (1, (b : Int))) ++ [(224 - r.body.length, 0)]

/-- The list cut into runs of `n` (at most `fuel` of them). -/
def chunksGo {α : Type} (n : Nat) : Nat → List α → List (List α)
  | 0, _ => []
  | _, [] => []
  | f + 1, xs => xs.take n :: chunksGo n f (xs.drop n)

/-- The list cut into runs of `n`; one empty run where the list is empty, so that every response has a part. -/
def chunks {α : Type} (n : Nat) (xs : List α) : List (List α) :=
  match xs with
  | [] => [[]]
  | _ => chunksGo n xs.length xs

end Sys2Proof.Machine
end

