-- ==== Sys2Proof/Machine/Formats.lean ====
section
/-!
DEFINITION. The bytes of the formats whose fields the model holds as records (R12): datagram headers, the blocks of a hub's uplink, team
frame headers, safety telegrams and signed records. Fields are little-endian, byte 0 first; what an external standard lays down keeps that
standard's order.
-/

namespace Sys2Proof.Machine

/-- A run of bytes with its CRC-32C behind it, little-endian (R120). -/
def withCrc (xs : List Nat) : List Nat := xs ++ leBytes 4 (crc32c xs)

/-- The header of a datagram from a host (R70). -/
def Datagram.header (d : Datagram) : List Nat :=
  fieldsBytes [(1, (d.version : Int)), (1, (d.kind : Int)), (2, (d.keySlot : Int)), (8, (d.counter : Int)), (1, (d.ring : Int)),
    (1, (d.count : Int)), (2, 0), (4, (d.ackSeq : Int)), (12, 0)]

/-- The uplink header in micro-frame 0 (R127). -/
def UplinkHeader.bytes (u : UplinkHeader) : List Nat :=
  withCrc (leBytes 6 u.lap ++ [u.hubFlags % 256, u.dlState % 256, u.obeyed % 256, u.portA % 256, u.portB % 256])

/-- The status block in micro-frames 1 to 3 (R127). -/
def StatusBlock.bytes (b : StatusBlock) : List Nat :=
  withCrc (leBytes 8 b.gate ++ leBytes 2 b.tripped ++ leBytes 2 b.armed ++ leBytes 2 b.overlap ++ leBytes 2 b.bothOnRej
    ++ leBytes 2 b.hsTimeout ++ leBytes 2 b.cmdLoss ++ leBytes 2 b.refreshed ++ leBytes 8 b.contactor ++ leBytes 2 b.cfgAck
    ++ [b.hubErrors % 256] ++ List.replicate 8 0)

/-- The fast measurement block in micro-frames 4 to 10 (R128). -/
def FastBlock.bytes (b : FastBlock) : List Nat :=
  withCrc ((List.range 16).flatMap (fun p =>
      fieldsBytes [(2, b.i.getD p 0), (2, b.vOut.getD p 0), (2, (b.vDc.getD p 0 : Int))])
    ++ [b.lapLo % 256, b.measFlags % 256, 0, 0, 0])

/-- The thermal block in micro-frames 11 to 14 (R128). -/
def ThermalBlock.bytes (b : ThermalBlock) : List Nat :=
  withCrc ((List.range 16).flatMap (fun p => fieldsBytes [(2, b.temps.getD p 0)]) ++ List.replicate 24 0)

/-- The header of a team frame as it leaves its sender (R400), member `sender` of team `team`. -/
def SentFrame.header (team sender : Nat) (f : SentFrame) : List Nat :=
  fieldsBytes [(1, 64), (1, (f.dir : Int)), (2, (team : Int)), (1, (sender : Int)), (1, (f.kind : Int)), (1, (f.dest : Int)), (1, (f.net : Int)),
    (8, (f.seq : Int)), (8, f.epoch), (2, ((fieldsBytes f.body).length : Int)), (2, (f.keyGen : Int))]

/-- The Ethernet header of a team frame (R400): the ring's group address of the net, the source with the low 16 bits of the serial (R232), the
EtherType, each in its standard's order. -/
def SentFrame.ethernet (serial : Nat) (f : SentFrame) : List Nat :=
  [0x01, 0x4F, 0x4C, 0x54, 0x00, f.net, 0x02, 0x4F, 0x4C, serial / 256 % 256, serial % 256, 0xFE, 0x88, 0xB5]

/-- The 12-byte nonce of a team frame (R402). -/
def SentFrame.nonce (sender : Nat) (f : SentFrame) : List Nat := [0x54, f.net, sender, 0] ++ leBytes 8 f.seq

/-- A team frame as it is sent (R400, R402): the payload sealed under the team session key, bytes
2..27 of the header authenticated. -/
def SentFrame.bytes (serial team sender : Nat) (key : List Nat) (f : SentFrame) : List Nat :=
  let h := f.header team sender
  f.ethernet serial ++ h ++ gcmSeal key (f.nonce sender) (h.drop 2) (fieldsBytes f.body)

/-- A safety telegram of 32 bytes (R341). -/
def Telegram.bytes (t : Telegram) : List Nat :=
  withCrc (fieldsBytes [(2, (t.teamId : Int)), (1, (t.sender : Int)), (1, (t.version : Int)), (4, (t.seq : Int)), (8, t.sendTime),
    (4, (t.demand : Int)), (2, (t.resetCount : Int)), (6, 0)])

/-- The signature of a record: r and s of 48 bytes each, big-endian by the ECDSA standard (R309). -/
def sigBytes (sig : Option (Nat × Nat)) : List Nat := beBytes 48 (sig.getD (0, 0)).1 ++ beBytes 48 (sig.getD (0, 0)).2

/-- A signed session record of 344 bytes (R309). -/
def SignedRec.bytes (x : SignedRec) : List Nat := fieldsBytes x.fields ++ sigBytes x.sig

end Sys2Proof.Machine
end

