-- ==== Sys2Proof/Machine/StageLink.lean ====
section
/-!
DEFINITION. The Slahale stage links: training and link states (R129 to R133), the uplink blocks (R127, R128, R137 to
R140), trips, false starts and re-arming (R146 to R148), and hub identity records (R529).
-/

namespace Sys2Proof.Machine

/-! ### Records of hubs, phases, packs and slots -/

/-- The record of hub `h`. -/
def Lane.hub (l : Lane) (h : Nat) : HubSt := UMap.get (fun _ => {}) l.hubs h

/-- The record of hub `h` replaced. -/
def Lane.setHub (l : Lane) (h : Nat) (x : HubSt) : Lane := { l with hubs := UMap.put (fun _ => {}) l.hubs h x }

/-- The record of phase `p`. -/
def Lane.phase (l : Lane) (p : Nat) : PhaseSt := UMap.get (fun _ => {}) l.phases p

/-- The record of phase `p` replaced. -/
def Lane.setPhase (l : Lane) (p : Nat) (x : PhaseSt) : Lane :=
  { l with phases := UMap.put (fun _ => {}) l.phases p x }

/-- The record of pack `k`. -/
def Lane.pack (l : Lane) (k : Nat) : PackSt := UMap.get (fun _ => {}) l.packs k

/-- The record of pack `k` replaced. -/
def Lane.setPack (l : Lane) (k : Nat) (x : PackSt) : Lane := { l with packs := UMap.put (fun _ => {}) l.packs k x }

/-- The record of slot `t`. -/
def Lane.slot (l : Lane) (t : Nat) : SlotSt := UMap.get (fun _ => {}) l.slots t

/-- The record of slot `t` replaced. -/
def Lane.setSlot (l : Lane) (t : Nat) (x : SlotSt) : Lane := { l with slots := UMap.put (fun _ => {}) l.slots t x }

/-- The units of an array of configuration points that hold a value other than the default, in rising order, with that
value. `base` is the first point's address, `n` the count and `stride` the distance. -/
def cfgUnits (m : UMap Int) (base n stride : Nat) : List (Nat × Int) :=
  m.filterMap (fun e =>
    if base ≤ e.1 ∧ (e.1 - base) % stride = 0 ∧ (e.1 - base) / stride < n then
      some ((e.1 - base) / stride, e.2)
    else none)

/-- The hubs with `hub_enable` 1, in rising order (R117). -/
def enabledHubs (m : UMap Int) : List Nat :=
  ((cfgUnits m (Hub.hubEnable 0) 32 64).filter (fun e => e.2 == 1)).map Prod.fst

/-- The hubs whose measurements a lane needs, in rising order: those enabled and those of a bound phase (R29, R137). -/
def servedHubs (m : UMap Int) : List Nat :=
  let bound := ((cfgUnits m (Ph.pack 0) 512 128).filter (fun e => decide (e.2 < 64))).map (fun e => e.1 / 16)
  let on := ((cfgUnits m (Hub.hubEnable 0) 32 64).filter (fun e => e.2 == 1)).map Prod.fst
  (List.range 32).filter (fun h => on.contains h || bound.contains h)

/-- The phases bound to pack `k`, in rising order (R176). -/
def packPhases (m : UMap Int) (k : Nat) : List Nat :=
  ((cfgUnits m (Ph.pack 0) 512 128).filter (fun e => e.2 == (k : Int))).map Prod.fst

/-- The pack a phase is bound to (R176). -/
def packOf (m : UMap Int) (p : Nat) : Option Nat :=
  let k := cfgAt m (Ph.pack p)
  if 0 ≤ k ∧ k < 64 then some k.toNat else none

/-- The outlet a pack is bound to (R176). -/
def outletOf (m : UMap Int) (k : Nat) : Option Nat :=
  let o := cfgAt m (Pk.outlet k)
  if 0 ≤ o ∧ o < 32 then some o.toNat else none

/-- The lowest bus position 1..7 of hub `h` wired to outlet `o`, 0 for none (R176). -/
def busPosition (m : UMap Int) (h o : Nat) : Nat :=
  match (List.range 7).find? (fun j => cfgAt m (Hub.busOutlet h j) == (o : Int)) with
  | some j => j + 1
  | none => 0

/-- The bus selector commanded for a phase (R176). -/
def selectorOf (m : UMap Int) (p : Nat) : Nat :=
  match packOf m p with
  | none => 0
  | some k => match outletOf m k with
    | none => 0
    | some o => busPosition m (p / 16) o

/-- The hub's contactor nibble of a phase: bus position in bits 2:0, moving or disagreeing in bit 3 (R127). -/
def Lane.contactorOf (l : Lane) (p : Nat) : Nat :=
  let c := (l.hub (p / 16)).contactor
  bitsAt c (4 * (p % 16) + 3) (4 * (p % 16))

/-- Whether the phase's selector reports the position commanded, not 0, with bit 3 clear (R187). -/
def Lane.selectorConfirmed (l : Lane) (p : Nat) : Bool :=
  let want := selectorOf l.cfg p
  decide (want ≠ 0) && (l.contactorOf p == want)

/-! ### Link states (R129) -/

/-- Link state codes of R129. -/
def lkOff : Int := 0
def lkDark : Int := 1
def lkAlign : Int := 2
def lkRange : Int := 3
def lkConfig : Int := 4
def lkReady : Int := 5
def lkFault : Int := 6

/-- The link of hub `h` enters a state; every change fires event 32 + h, and an exit from `READY` counts in
`retrains`. -/
def Lane.linkTo (h : Nat) (st : Int) (l : Lane) : Lane :=
  let old := l.p (Hub.linkState h)
  if old = st then l
  else
    let l1 := if old = lkReady then l.inc (Hub.retrains h) else l
    let x := l1.hub h
    let ui := if st = lkOff ∨ st = lkDark ∨ st = lkRange then 0xFFFF else x.delayUi
    ((l1.setp (Hub.linkState h) st).setHub h { x with enteredLap := l.lap, delayUi := ui }).fire (32 + h) h
      [st, ((l1.hub h).tripped : Int)]

/-- The link goes to `FAULT` with a cause: 1 `too_long`, 2 `crossed`, 3 timeout. -/
def Lane.linkFault (h : Nat) (cause : Int) (l : Lane) : Lane := (l.setp (Hub.linkFault h) cause).linkTo h lkFault

/-- A step of the link from one state to another, without effect in any other state. -/
def Lane.linkStep (h : Nat) (src dst : Int) (l : Lane) : Lane :=
  if l.p (Hub.linkState h) = src then l.linkTo h dst else l

/-- RANGE_COMPLETE (R130): the time measured over 16 laps from the lane's starter instant to the arrival of the uplink K28.5, in ps. It is the
delay where the hub has another downlink in `READY`, else half of it is, to the nearest unit interval and shown in whole ps rounded down (log
entry 75); above 650 ns the link faults as `too_long`. -/
def Lane.rangeDone (h timePs : Nat) (beside : Bool) (l : Lane) : Lane :=
  let n := if beside then 1 else 2
  if l.p (Hub.linkState h) ≠ lkRange then l
  else if 650000 * n < timePs then (l.setp (Hub.delayPs h) (timePs / n : Nat)).linkFault h 1
  else
    ((l.setp (Hub.delayPs h) (timePs / n : Nat)).setHub h
      { l.hub h with delayUi := (timePs * 16 + 3125 * n) / (6250 * n) }).linkTo h lkConfig

/-- LINK_TRAINING_TIMEOUT (R129): 100 µs in `ALIGN`, 200 µs in `RANGE`, 2 ms in `CONFIG`, counted in laps. -/
def Lane.trainingTimeout (h : Nat) (l : Lane) : Lane :=
  let st := l.p (Hub.linkState h)
  let limit := if st = lkAlign then 20 else if st = lkRange then 40 else 400
  if (st = lkAlign ∨ st = lkRange ∨ st = lkConfig) ∧ limit < l.lap - (l.hub h).enteredLap then l.linkFault h 3 else l

/-- LINK_FAULT_RETRY (R129): 100 ms after the fault the link is retried as `DARK`. -/
def Lane.faultRetry (h : Nat) (l : Lane) : Lane :=
  if l.p (Hub.linkState h) = lkFault ∧ 20000 ≤ l.lap - (l.hub h).enteredLap then
    (l.setp (Hub.linkFault h) 0).linkTo h lkDark
  else l

/-- The transmitter of one link (R117, R129): a link that may be on leaves `OFF` for `DARK`; one whose `hub_enable` becomes 0
is `OFF` and sends no block. -/
def Lane.linkEnable (h : Nat) (l : Lane) : Lane :=
  let st := l.p (Hub.linkState h)
  if l.linksRun && decide (l.c (Hub.hubEnable h) = 1) then (if st = lkOff then l.linkTo h lkDark else l)
  else if st = lkOff then l
  else
    let l1 := (l.setp (Hub.linkFault h) 0).linkTo h lkOff
    l1.setHub h { l1.hub h with block := {}, header := [], record := [], had := false }

/-- Every link of a lane brought to what its `hub_enable` and the lane's state ask (R117, R129). -/
def Lane.linksUp (l : Lane) : Lane := if l.linksRun then l.forN 32 Lane.linkEnable else l

/-- The transmitters of a lane that enters reset are off (R117); of its hubs it keeps only that they have been identified
and the record last received from it (R529). -/
def Lane.linksDown (l : Lane) : Lane :=
  let l1 := l.forN 32 (fun h l =>
    if l.p (Hub.linkState h) = lkOff then l
    else ((l.setp (Hub.linkState h) lkOff).setp (Hub.linkFault h) 0).setp (Hub.blind h) 0)
  let known := l1.hubs.filter (fun e => e.2.idKnown || e.2.ownRec.isSome)
  { l1 with hubs := known.map (fun e => (e.1, { ({} : HubSt) with idKnown := e.2.idKnown, ownRec := e.2.ownRec })) }

/-! ### Arm state and removal -/

/-- Member state codes of R181. -/
def msUnbound : Int := 0
def msParked : Int := 1
def msJoining : Int := 2
def msActive : Int := 3
def msLeaving : Int := 4
def msLost : Int := 5

/-- Whether the phase switches (R181): `JOINING`, `ACTIVE` or `LEAVING`. -/
def Lane.switching (l : Lane) (p : Nat) : Bool :=
  let m := l.p (Ph.memberState p)
  decide (m = msJoining) || decide (m = msActive) || decide (m = msLeaving)

/-- The derating factor of a phase in units of 1/(2 × (tj_max − tj_derate)) (R185). -/
def Lane.derateNum (l : Lane) (k p : Nat) : Int :=
  let lo := l.c (Pk.tjDerate k)
  let hi := l.c (Pk.tjMax k)
  let t := l.p (Ph.tJunction p)
  if l.st (Ph.tJunction p) = 2 then hi - lo
  else if t ≤ lo then 2 * (hi - lo)
  else if hi ≤ t then 0
  else 2 * (hi - t)

/-- `capacity_a` (R185): the sum over the switching phases, in whole amperes rounded down. -/
def Lane.capacity (l : Lane) (k : Nat) : Int :=
  let den := 65536 * (2 * (l.c (Pk.tjMax k) - l.c (Pk.tjDerate k)))
  let num := ((packPhases l.cfg k).filter l.switching).foldl
    (fun a p => a + l.p (Ph.weight p) * l.c (Ph.iRated p) * l.derateNum k p) 0
  num / den

/-- The capacity and the overload limit of a pack brought up to date (R185). DESIGN CHOICE (log entry 99): the overload limit, for which the
rule states no rounding, is in whole amperes rounded down as the capacity is. -/
def Lane.recapacity (k : Nat) (l : Lane) : Lane :=
  let cap := l.capacity k
  (l.setp (Pk.capacityA k) cap).setp (Pk.overloadA k) (cap * l.c (Pk.overloadPct k) / 100)

/-- The arm bit taken away (R146). -/
def Lane.disarm (p : Nat) (l : Lane) : Lane :=
  let x := l.phase p
  if x.arm then l.setPhase p { x with arm := false, armZero := 0 } else l

/-- The arm bit taken away for a cause of R146: from the first such lap on it stays 0 for `rearm_delay_laps`, of a phase that was not armed
as well. -/
def Lane.cutArm (p : Nat) (l : Lane) : Lane :=
  let x := l.phase p
  if x.cut then l.disarm p else l.setPhase p { x with arm := false, armZero := 0, cut := true }

/-- Whether a phase has been removed in this lap (R192). -/
def Lane.lostNow (l : Lane) (p : Nat) : Bool := (l.phase p).lost && decide ((l.phase p).lostLap = l.lap)

/-- R192: a switching phase is removed with a cause. A removal that lowers the capacity fires event 107. Of several checks met in
one lap the lowest code is recorded. -/
def Lane.removePhase (cause : Int) (p : Nat) (l : Lane) : Lane :=
  if !l.switching p then
    (if l.lostNow p && decide (cause < l.p (Ph.removalCause p)) then
      (l.setp (Ph.removalCause p) cause).setPhase p { l.phase p with excluded := decide (cause = 6) || decide (cause = 7) }
    else l)
  else
    let l1 := (((l.setp (Ph.memberState p) msLost).setp (Ph.weight p) 0).setp (Ph.removalCause p) cause).inc
      (Ph.removals p)
    let x := l1.phase p
    let l2 := l1.setPhase p { x with
      arm := false, armZero := 0, rearmReq := false, fresh := false, lost := true, lostLap := l.lap
      excluded := decide (cause = 6) || decide (cause = 7) }
    match packOf l.cfg p with
    | none => l2
    | some k =>
      let l3 := (l2.inc (Pk.removals k)).recapacity k
      l3.fireIf (decide (l3.p (Pk.capacityA k) < l.p (Pk.capacityA k))) 107 k [(p : Int), l3.p (Pk.capacityA k)]

/-- The lowest removal cause that a valid status block gives a phase (R192 checks 1 to 4 and 9), 0 for none. A latched trip is cause 1
even beside an overlap or a refusal (H6, H10), for the lowest code is recorded. -/
def statusCause (l : Lane) (h i : Nat) (b : StatusBlock) : Int :=
  if bitAt b.tripped i || bitAt b.hsTimeout i then 1
  else if bitAt b.overlap i || bitAt b.bothOnRej i then 2
  else if l.p (Hub.lockout h) = 1 then 3
  else if bitAt b.cmdLoss i then 4
  else if bitsAt b.contactor (4 * i + 3) (4 * i) ≠ selectorOf l.cfg (16 * h + i) then 9
  else 0

/-- The number of trips of a phase within its window (R146), at time `now` in ms. -/
def Lane.tripsInWindow (l : Lane) (p : Nat) : Nat :=
  ((l.phase p).tripMs.filter (fun t => decide (l.epoch < t + l.cn (Ph.rearmWindowMs p)))).length

/-- Whether the re-arm policy lets a tripped phase re-arm by itself (R146): fewer than `rearm_limit` trips in the window, and the
limit not reached since the last host write to `rearm`. -/
def Lane.withinLimit (l : Lane) (p : Nat) : Bool :=
  !(l.phase p).limited && decide (l.tripsInWindow p < l.cn (Ph.rearmLimit p))

/-- Whether the latches that a phase carries let it be armed (R146): a false start wants a host write to `rearm`; a trip, unless
automatic re-arming is configured and within its limit, wants one as well. -/
def Lane.latchMet (l : Lane) (p : Nat) : Bool :=
  let x := l.phase p
  let y := l.hub (p / 16)
  let i := p % 16
  if bitAt y.overlap i || bitAt y.bothOnRej i || x.falseHeld then x.rearmReq
  else if bitAt y.tripped i || bitAt y.hsTimeout i then
    x.rearmReq || (decide (l.c (Ph.rearmMode p) = 1) && l.withinLimit p)
  else true

/-- `arm_state` (R151) from the hub's bits, the lane's marks and the re-arm policy. -/
def Lane.armState (l : Lane) (p : Nat) : Int :=
  let h := p / 16
  let i := p % 16
  let x := l.hub h
  if bitAt x.overlap i || bitAt x.bothOnRej i || (l.phase p).falseHeld then 5
  else if bitAt x.tripped i || bitAt x.hsTimeout i then (if l.withinLimit p then 2 else 5)
  else if l.p (Hub.lockout h) = 1 then 3
  else if bitAt x.cmdLoss i || l.p (Hub.blind h) = 1 then 4
  else if bitAt x.armed i then 1
  else 0

/-- A false start counted against a phase (R147), with its cause code; one that the hub reports holds the phase until it is armed
again (R146, R151). -/
def Lane.falseStart (p : Nat) (cause : Int) (l : Lane) : Lane :=
  let l1 := (l.inc (Ph.falseStarts p)).fire 108 p [cause]
  if cause = 1 then l1 else l1.setPhase p { l1.phase p with falseHeld := true, rearmReq := false }

/-- A trip of this epoch added to those of the window; the limit, once reached, holds until a host write to `rearm` (R146). -/
def Lane.countTrip (p : Nat) (l : Lane) : Lane :=
  let x := l.phase p
  let l1 := l.setPhase p { x with tripMs := l.epoch :: x.tripMs }
  l1.setPhase p { l1.phase p with rearmReq := false, limited := x.limited || decide (l.cn (Ph.rearmLimit p) ≤ l1.tripsInWindow p) }

/-- What a valid status block does to one phase (R146, R147, R192). `old` is the hub's record before the block. -/
def Lane.statusPhase (h : Nat) (b : StatusBlock) (old : HubSt) (i : Nat) (l : Lane) : Lane :=
  let p := 16 * h + i
  let newTrip := (bitAt b.tripped i && !bitAt old.tripped i) || (bitAt b.hsTimeout i && !bitAt old.hsTimeout i)
  let gates := bitAt b.gate (4 * i) && bitAt b.gate (4 * i + 1)
  let newRej := bitAt b.bothOnRej i && !bitAt old.bothOnRej i
  let fault := bitAt b.overlap i || bitAt b.bothOnRej i
  let newOver := (bitAt b.overlap i || gates) && !(bitAt old.overlap i || bitAt old.gateBoth i)
  let l1 := if newTrip && !fault then (l.inc (Ph.trips p)).countTrip p else l
  let l2 := if newRej then l1.falseStart p 2 else l1
  let l3 := if newOver then l2.falseStart p 3 else l2
  let cause0 := statusCause l3 h i b
  let cause := if gates && (decide (cause0 = 0) || decide (2 < cause0)) then 2 else cause0
  let l4 := if cause = 0 then l3 else l3.removePhase cause p
  let clear := (decide (cause ≠ 0) && decide (cause ≠ 9))
  let l5 := if clear then l4.cutArm p else l4
  (l5.setp (Ph.armState p) (l5.armState p)).setp (Ph.matrixState p)
    ((bitsAt b.contactor (4 * i + 2) (4 * i) : Nat) + (if bitAt b.contactor (4 * i + 3) then 256 else 0))

/-- The mask of local phases with both gate feedbacks above threshold (R147). -/
def gateBothMask (g : Nat) : Nat :=
  (List.range 16).foldl (fun a i => if bitAt g (4 * i) && bitAt g (4 * i + 1) then a + 2 ^ i else a) 0

/-- The supply lockout that a lap's header reports, taken where the lap's status block is valid (R137): a change fires event 32 + h
(R90). -/
def Lane.takeLockout (h : Nat) (l : Lane) : Lane :=
  let x := l.hub h
  let v := b01 x.lockHdr
  if x.headerOk && x.statusOk && decide (l.p (Hub.lockout h) ≠ v) then
    (l.setp (Hub.lockout h) v).fire (32 + h) h [l.p (Hub.linkState h), (x.tripped : Int)]
  else l

/-- A phase of a hub in supply lockout is removed and disarmed (R146, R192 check 3). -/
def Lane.lockPhase (h i : Nat) (l : Lane) : Lane :=
  let p := 16 * h + i
  let l1 := if l.p (Hub.lockout h) = 1 then (l.removePhase 3 p).cutArm p else l
  l1.setp (Ph.armState p) (l1.armState p)

/-- STATUS_BLOCK_RECEIVE (R127, R137, R146, R147, R192). A missing block keeps the previous bits. -/
def Lane.statusBlock (h : Nat) (b : StatusBlock) (l : Lane) : Lane :=
  if l.p (Hub.linkState h) = lkOff then l
  else
    let l0 := l.addp (Hub.codeErrors h) b.codeErrors
    if !b.crcOk then (l0.inc (Hub.crcErrors h)).setHub h { l0.hub h with statusOk := false, crcBad := true }
    else if !b.onTime || b.codeErrors ≠ 0 then l0.setHub h { l0.hub h with statusOk := false }
    else
      let old := l0.hub h
      let l1 := l0.setHub h { old with
        statusOk := true, gate := b.gate, tripped := b.tripped, armed := b.armed, overlap := b.overlap
        bothOnRej := b.bothOnRej, hsTimeout := b.hsTimeout, cmdLoss := b.cmdLoss
        gateBoth := gateBothMask b.gate, contactor := b.contactor }
      let l2 := l1.setp (Hub.cfgAck h) b.cfgAck
      let l3 := (if b.hubErrors ≠ 0 then l2.inc (Hub.hubErrors h) else l2).takeLockout h
      let l4 := l3.forN 16 (Lane.statusPhase h b old)
      l4.fireIf (decide (b.tripped ≠ 0 ∧ b.tripped ≠ old.tripped)) (32 + h) h
        [l4.p (Hub.linkState h), (b.tripped : Int)]

/-- The hub's local port that this lane is: `port_a` for lane A, `port_b` for lane B (R132). -/
def UplinkHeader.port (u : UplinkHeader) : LaneId → Nat
  | .A => u.portA
  | .B => u.portB

/-- The hub's `dl_state` nibble for this lane (R127). -/
def UplinkHeader.dl (u : UplinkHeader) : LaneId → Nat
  | .A => bitsAt u.dlState 3 0
  | .B => bitsAt u.dlState 7 4

/-- `delay_ui` moved by one unit interval per lap towards the measured value (R131), within the 16-bit field below 0xFFFF, which
says that the delay is not known (R122). -/
def stepDelay (ui : Nat) (diff : Int) : Nat :=
  if 4000 < diff then min 0xFFFE (ui + 1) else if diff < -4000 then ui - 1 else ui

/-- A delay of `ui` unit intervals of 390.625 ps, in whole ps rounded down (log entry 75). -/
def delayOf (ui : Nat) : Nat := ui * 3125 / 8

/-- The laps of baton reject of one hub kept: those within the last 1,000 epochs (R355). -/
def recentRejects (epoch : Nat) (xs : List Nat) : List Nat := xs.filter (fun e => decide (epoch < e + 1000))

/-- Whether any hub has had 16 baton-reject laps within the last 1,000 epochs (R355). -/
def Lane.rejectHeld (l : Lane) : Bool :=
  l.link.rejectLaps.any (fun e => decide (16 ≤ (recentRejects l.epoch e.2).length))

/-- The laps in which a block with `arm` 0 was applied counted (R146): the hub applied a block, and the phase's last one carried
`arm` 0. -/
def Lane.appliedZero (held : Bool) (h : Nat) (l : Lane) : Lane :=
  if held then l
  else l.forN 16 (fun i l =>
    let x := l.phase (16 * h + i)
    if x.armSent then l else l.setPhase (16 * h + i) { x with armZero := x.armZero + 1 })

/-- The arrival of an uplink's K28.5 compared with the delay in force (R131), whether or not the header's CRC holds. -/
def Lane.arrival (h : Nat) (u : UplinkHeader) (l : Lane) : Lane :=
  if l.p (Hub.linkState h) ≠ lkReady ∨ u.alignOk = false then l
  else
    let x := l.hub h
    let diff := u.arrivalPs - (delayOf x.delayUi : Nat)
    let ui := stepDelay x.delayUi diff
    let l1 := l.setHub h { x with delayUi := ui }
    (if ui = x.delayUi then l1 else l1.setp (Hub.delayPs h) (delayOf ui : Nat)).setp (Hub.skewPs h) diff

/-- UPLINK_HEADER_RECEIVE (R127, R131, R132, R355). -/
def Lane.uplinkHeader (me : LaneId) (h : Nat) (u : UplinkHeader) (l : Lane) : Lane :=
  if l.p (Hub.linkState h) = lkOff then l
  else
    let l0 := (l.addp (Hub.codeErrors h) u.codeErrors).arrival h u
    if !u.crcOk then (l0.inc (Hub.crcErrors h)).setHub h { l0.hub h with headerOk := false, crcBad := true }
    else
      let x := l0.hub h
      let held := decide (bitsAt u.obeyed 1 0 = 0)
      let both := bitAt u.dlState 3 && bitAt u.dlState 7
      let mine := u.dl me
      let reject := held && bitAt mine 2 && bitAt mine 3
      let l2 := l0.setHub h { x with
        headerOk := true, heldLap := held, crcBad := false, lockHdr := bitAt u.hubFlags 0 }
      let l3 := (if x.statusOk then (l2.takeLockout h).forN 16 (Lane.lockPhase h) else l2).appliedZero held h
      let l4 := if held then l3.inc (Hub.hubHeldLaps h) else l3
      let l5 := if held && both then l4.inc (Hub.dualClaim h) else l4
      let l6 := if reject then
          let old := UMap.get (fun _ => []) l5.link.rejectLaps h
          let laps := recentRejects l5.epoch (l5.epoch :: old)
          let l6 : Lane := { l5 with link := { l5.link with
            rejectLaps := UMap.put (fun _ => []) l5.link.rejectLaps h laps, rejectLap := some l5.lap } }
          if l5.link.rejectLap = some l5.lap then l6 else l6.inc Hp.batonRejects
        else l5
      let crossed := fun (p : Nat) => decide (p ≠ 0xFF ∧ p ≠ h)
      if crossed u.portA || crossed u.portB then l6.linkFault h 2 else l6

/-- One phase's sample of a valid fast block, converted as R156 states and tagged with the generation of the block
applied at that lap (R61). -/
def Lane.samplePhase (h : Nat) (f : FastBlock) (i : Nat) (l : Lane) : Lane :=
  let p := 16 * h + i
  let x := l.phase p
  let cur := f.i.getD i 0 * 2 ^ 16
  let vo := f.vOut.getD i 0 * 2 ^ 16
  let dc := (f.vDc.getD i 0 : Int) * 2 ^ 15
  let tagged := x.genBlock
  (((l.setPhase p { x with iNow := cur, vNow := vo, dcNow := dc, okNow := true, genTag := tagged
                           rangeRun := if 32440 ≤ absN (f.i.getD i 0) then x.rangeRun + 1 else 0 }).setp
    (Ph.iMeas p) cur).setp (Ph.vOut p) vo).setp (Ph.vDc p) dc

/-- FAST_BLOCK_RECEIVE (R128, R137): accepted when its CRC holds, no code group was invalid, it was on time and carries
this lap's number; else the measurements count as missing. -/
def Lane.fastBlock (h : Nat) (f : FastBlock) (l : Lane) : Lane :=
  if l.p (Hub.linkState h) = lkOff then l
  else
    let l0 := l.addp (Hub.codeErrors h) f.codeErrors
    let l1 := if f.crcOk then l0 else (l0.inc (Hub.crcErrors h)).setHub h { l0.hub h with crcBad := true }
    if f.crcOk && f.onTime && decide (f.codeErrors = 0) && decide (f.lapLo = l.lap % 256) then
      (l1.setHub h { l1.hub h with fastOk := true }).forN 16 (Lane.samplePhase h f)
    else l1.setHub h { l1.hub h with fastOk := false }

/-- THERMAL_BLOCK_RECEIVE (R128, R140, R150): junction temperatures in units of 0.0625 °C, shown in whole m°C rounded down (log
entry 76). Invalid code groups count; a block with any, or whose CRC fails, is as none. -/
def Lane.thermalBlock (h : Nat) (crcOk : Bool) (codeErrors : Nat) (temps : List Int) (l0 : Lane) : Lane :=
  let l := l0.addp (Hub.codeErrors h) codeErrors
  if l0.p (Hub.linkState h) = lkOff then l0
  else if !crcOk then l.inc (Hub.crcErrors h)
  else if codeErrors ≠ 0 then l
  else
    (l.setHub h { l.hub h with thermMiss := 0 }).forN 16
      (fun i l => l.setps (Ph.tJunction (16 * h + i)) (temps.getD i 0 * 125 / 2) 0)

/-- JUNCTION_TEMP_TIMEOUT (R140): after 200 laps without a valid thermal block the temperatures read `invalid`. -/
def Lane.junctionTimeout (h : Nat) (l : Lane) : Lane :=
  if 200 ≤ (l.hub h).thermMiss then l.forN 16 (fun i l => l.setst (Ph.tJunction (16 * h + i)) 2) else l

/-- Whether the lap's measurements of a hub are complete (R137). -/
def HubSt.complete (x : HubSt) : Bool := x.headerOk && x.statusOk && x.fastOk

/-- HUB_BLIND (R138): measurements missing for a second consecutive lap: the last lap's are missing and so are this one's. -/
def Lane.hubBlind (h : Nat) (l : Lane) : Lane :=
  if (2 ≤ (l.hub h).missRun ∨ (1 ≤ (l.hub h).missRun ∧ (l.hub h).complete = false)) ∧ l.p (Hub.blind h) = 0 then
    let l1 := ((l.setp (Hub.blind h) 1).inc (Hub.blindEvents h)).setHub h { l.hub h with goodRun := 0 }
    let l2 := l1.forN 16 (fun i l =>
      let p := 16 * h + i
      let a := (l.removePhase 4 p).cutArm p
      (a.setPhase p { a.phase p with testLaps := 0 }).setp (Ph.armState p) (a.armState p))
    l2.fire (32 + h) h [l2.p (Hub.linkState h), ((l2.hub h).tripped : Int)]
  else l

/-- BLIND_CLEAR (R138): 64 consecutive laps with valid measurements clear the mark. -/
def Lane.blindClear (h : Nat) (l : Lane) : Lane :=
  if l.p (Hub.blind h) = 1 ∧ 64 ≤ (l.hub h).goodRun then
    let l1 := l.setp (Hub.blind h) 0
    l1.forN 16 (fun i l => l.setp (Ph.armState (16 * h + i)) (l.armState (16 * h + i)))
  else l

/-! ### Hub identity (R529) -/

/-- The hub of the lowest-numbered phase of a pack. -/
def packHub (m : UMap Int) (k : Nat) : Nat :=
  match packPhases m k with
  | [] => 0
  | p :: _ => p / 16

/-- Whether a phase is fitted by its hub's identity record. -/
def Lane.fitted (l : Lane) (p : Nat) : Bool := bitAt (l.pn (Hub.phasesFitted (p / 16))) (p % 16)

/-- Whether the committed binding of a phase breaks a rule of R529 under the present records (cause 10). -/
def Lane.scaleBad (l : Lane) (p : Nat) : Bool :=
  match packOf l.cfg p with
  | none => false
  | some k =>
    let h := p / 16
    let h0 := packHub l.cfg k
    (l.hub h).idKnown &&
    (!l.fitted p
      || decide (l.p (Hub.iFs h) < l.c (Ph.iRated p))
      || decide (l.p (Hub.iFs h) ≠ l.p (Hub.iFs h0))
      || decide (l.p (Hub.vFs h) ≠ l.p (Hub.vFs h0))
      || (match outletOf l.cfg k with
          | none => false
          | some o => decide (l.p (Hub.vFs h) * 1000 < l.c (Out.vMaxMv o))))

/-- The record of a hub that both lanes use (R529); phases of the hub that it puts in conflict are removed with cause 10, and event 32 + h
fires. -/
def Lane.identity (h iFs vFs fitted : Nat) (l : Lane) : Lane :=
  let l1 := ((l.setps (Hub.iFs h) iFs 0).setps (Hub.vFs h) vFs 0).setps (Hub.phasesFitted h) (fitted % 65536) 0
  let l2 := l1.setHub h { l1.hub h with idKnown := true }
  let affected := ((cfgUnits l2.cfg (Ph.pack 0) 512 128).map Prod.fst).filter (fun p => decide (p / 16 = h) && l2.scaleBad p)
  (l2.forL affected (fun p l => l.removePhase 10 p)).fire (32 + h) h
    [l2.p (Hub.linkState h), ((l2.hub h).tripped : Int)]

/-- The records in use in the lane `o` taken over (R364, R529). -/
def Lane.copyRecords (l o : Lane) : Lane :=
  l.forL ((o.hubs.filter (fun e => e.2.idKnown)).map Prod.fst) (fun h l =>
    (((l.setps (Hub.iFs h) (o.p (Hub.iFs h)) 0).setps (Hub.vFs h) (o.p (Hub.vFs h)) 0).setps (Hub.phasesFitted h)
      (o.p (Hub.phasesFitted h)) 0).setHub h { l.hub h with idKnown := true })

/-- HUB_IDENTITY_RECORD in the lane that received it (R529): the record is kept. -/
def Lane.keepRecord (h iFs vFs fitted : Nat) (l : Lane) : Lane :=
  l.setHub h { l.hub h with ownRec := some (iFs, vFs, fitted) }

/-- The hubs' records of the lane `o` used in this lane, where they differ from those in use (R529). -/
def Lane.useRecords (l o : Lane) : Lane :=
  l.forL (UMap.keys o.hubs) (fun h l =>
    match (o.hub h).ownRec with
    | none => l
    | some r =>
      if (l.hub h).idKnown && decide (l.p (Hub.iFs h) = r.1 ∧ l.p (Hub.vFs h) = r.2.1 ∧ l.pn (Hub.phasesFitted h) = r.2.2 % 65536)
      then l else l.identity h r.1 r.2.1 r.2.2)

/-! ### Re-arming (R146) and test orders (R148) -/

/-- REARM_WRITE (R146): a host write of 1 asks for the re-arm and clears the trips counted in the window. -/
def Lane.rearmWrite (p : Nat) (l : Lane) : Lane :=
  let x := l.phase p
  let l1 := l.setPhase p { x with rearmReq := true, tripMs := [], limited := false }
  l1.setp (Ph.armState p) (l1.armState p)

/-- What every arming of a phase needs: `arm` 0 for `rearm_delay_laps`, the link `READY`, the record in force
acknowledged (R141), the hub not in test mode (R142) nor blind nor locked out, and no commit pending on it (R178). -/
def Lane.mayArm (l : Lane) (p : Nat) : Bool :=
  let h := p / 16
  let x := l.phase p
  decide (l.cn (Ph.rearmDelayLaps p) ≤ x.armZero)
    && decide (l.p (Hub.linkState h) = lkReady)
    && decide (l.p (Hub.cfgAck h) = l.p (Hub.cfgGen h) % 65536)
    && decide (l.c (Hub.testMode h) = 0)
    && decide (l.p (Hub.blind h) = 0) && decide (l.p (Hub.lockout h) = 0)
    && (!x.cut || decide (l.cn (Ph.rearmDelayLaps p) ≤ (l.hub h).lockoutClear))
    && !x.frozen

/-- Whether the re-arm condition of the last removal of a `LOST` phase is met (R146, R192). -/
def Lane.causeMet (l : Lane) (p : Nat) : Bool :=
  let x := l.phase p
  let cause := l.p (Ph.removalCause p)
  if !l.latchMet p then false
  else if cause = 1 then x.rearmReq || (decide (l.c (Ph.rearmMode p) = 1) && l.withinLimit p)
  else if cause = 2 ∨ cause = 6 ∨ cause = 7 ∨ cause = 8 then x.rearmReq
  else if cause = 3 then decide (l.cn (Ph.rearmDelayLaps p) ≤ (l.hub (p / 16)).lockoutClear)
  else if cause = 9 then x.rearmReq && l.selectorConfirmed p
  else if cause = 10 then x.rearmReq && !l.scaleBad p
  else true

/-- Whether the re-arm condition of a `LOST` phase is met in full (R146, R190): that of its cause, with the laps of `arm` 0 that an automatic
re-arm waits for, or the link that has to work again. -/
def Lane.rearmMet (l : Lane) (p : Nat) : Bool :=
  let x := l.phase p
  let h := p / 16
  let cause := l.p (Ph.removalCause p)
  let waited := decide (l.cn (Ph.rearmDelayLaps p) ≤ x.armZero)
  l.causeMet p
    && (if cause = 1 then x.rearmReq || waited
        else if cause = 3 then decide (l.p (Hub.lockout h) = 0)
        else if cause = 4 then decide (l.p (Hub.linkState h) = lkReady) && decide (l.p (Hub.blind h) = 0) && decide (0 < x.armZero)
        else if cause = 5 then waited else true)

/-- TEST_GATE_WRITE (R147, R148): the status of the write. No rule orders the checks. DESIGN CHOICE (log entry 112): both switches are
`RANGE` in any mode; then a hub out of test mode is `NOT_PERMITTED`, and then a duration outside 1..200 is `RANGE`. -/
def Lane.testGateStatus (l : Lane) (p v : Nat) : Nat :=
  if bitsAt v 1 0 = 3 then st_RANGE
  else if l.c (Hub.testMode (p / 16)) ≠ 1 then st_NOT_PERMITTED
  else if bitsAt v 15 8 = 0 ∨ 200 < bitsAt v 15 8 then st_RANGE
  else st_OK

/-- TEST_GATE_WRITE: both switches together are a false start and place nothing (R147); an accepted write places the
`TEST` encoding for its duration (R148). -/
def Lane.testGateWrite (p v : Nat) (l : Lane) : Lane :=
  if bitsAt v 1 0 = 3 then l.falseStart p 1
  else if l.testGateStatus p v = st_OK then
    l.setPhase p { l.phase p with testSwitch := bitsAt v 1 0, testLaps := bitsAt v 15 8 }
  else l

end Sys2Proof.Machine
end

