-- ==== Sys2Proof/Machine/Packs.lean ====
section
/-!
DEFINITION. The pack block (R176 to R196): membership, weights, share factors, interleave angles, capacity, the ramped
target, starting and stopping, joining and leaving, and the removal checks it runs in every lap.
-/

namespace Sys2Proof.Machine

/-! ### Lap-table entry fields (R163) -/

/-- `entry_hi` of slot `t`. -/
def entryHi (m : UMap Int) (t : Nat) : Nat := (cfgAt m (Slot.entryHi t)).toNat
/-- `entry_lo` of slot `t`. -/
def entryLo (m : UMap Int) (t : Nat) : Nat := (cfgAt m (Slot.entryLo t)).toNat
/-- `VALID`. -/
def enValid (hi : Nat) : Bool := bitAt hi 31
/-- `FORM`. -/
def enForm (hi : Nat) : Nat := bitsAt hi 30 28
/-- `DECIM`. -/
def enDecim (hi : Nat) : Nat := bitsAt hi 27 24
/-- `PHASE_OFS`. -/
def enPhaseOfs (hi : Nat) : Nat := bitsAt hi 23 14
/-- `REF_MODE`. -/
def enRefMode (hi : Nat) : Nat := bitsAt hi 13 11
/-- `REF_SLOT`. -/
def enRefSlot (hi : Nat) : Nat := bitsAt hi 10 0
/-- `FB_MODE`. -/
def enFbMode (lo : Nat) : Nat := bitsAt lo 31 29
/-- `UNIT`. -/
def enUnit (lo : Nat) : Nat := bitsAt lo 28 20
/-- `FF_MODE`. -/
def enFfMode (lo : Nat) : Nat := bitsAt lo 19 18
/-- `DEST`. -/
def enDest (lo : Nat) : Nat := bitsAt lo 17 16
/-- `TRIM_SLOT`. -/
def enTrimSlot (lo : Nat) : Nat := bitsAt lo 10 0

/-- The slots with `VALID` 1, in rising order. -/
def validSlots (m : UMap Int) : List Nat :=
  ((cfgUnits m (Slot.entryHi 0) 2048 32).filter (fun e => enValid e.2.toNat)).map Prod.fst

/-- The slot whose output is the duty of phase `p` (R161, R170: at most one). -/
def dutySlot (m : UMap Int) (p : Nat) : Option Nat :=
  (validSlots m).find? (fun t => enDest (entryLo m t) == 1 && enUnit (entryLo m t) == p)

/-- A phase's current slot, and the balance slot it names as trim (R187). -/
def phaseSlots (m : UMap Int) (p : Nat) : List Nat :=
  match dutySlot m p with
  | none => []
  | some t => if enRefMode (entryHi m t) = 4 then [t, enTrimSlot (entryLo m t)] else [t]

/-- The histories of a phase's slots marked for initialisation before their next evaluation (R172, R189). -/
def Lane.initPhaseSlots (p : Nat) (l : Lane) : Lane :=
  l.forL (phaseSlots l.cfg p) (fun t l => l.setSlot t { l.slot t with init := true })

/-- The packs bound to an outlet, in rising order (R176). -/
def outletPacks (m : UMap Int) (o : Nat) : List Nat :=
  ((cfgUnits m (Pk.outlet 0) 64 1024).filter (fun e => e.2 == (o : Int))).map Prod.fst

/-! ### Member sets -/

/-- `n_cfg` (R178). -/
def Lane.nCfg (l : Lane) (k : Nat) : Nat := (packPhases l.cfg k).length

/-- `pack_i_fs` in amperes (R178, R529). -/
def Lane.packIFs (l : Lane) (k : Nat) : Int := (l.nCfg k : Int) * l.p (Hub.iFs (packHub l.cfg k))

/-- The least number of phases a pack runs with: the larger of `min_phases` and ⌈`n_cfg`/8⌉ (R187, R188). -/
def Lane.fewest (l : Lane) (k : Nat) : Nat := max (l.cn (Pk.minPhases k)) ((l.nCfg k + 7) / 8)

/-- Phases in `JOINING` or `ACTIVE`. -/
def Lane.runningPhases (l : Lane) (k : Nat) : Nat :=
  ((packPhases l.cfg k).filter (fun p =>
    decide (l.p (Ph.memberState p) = msJoining) || decide (l.p (Ph.memberState p) = msActive))).length

/-- Phases a start waits for (R187): bound, fitted, enabled, not `LOST`, and in agreement with the hub records. -/
def Lane.startPhases (l : Lane) (k : Nat) : List Nat :=
  (packPhases l.cfg k).filter (fun p =>
    l.fitted p && decide (l.c (Ph.phaseEnable p) = 1) && decide (l.p (Ph.memberState p) ≠ msLost) && !l.scaleBad p)

/-- Whether a phase is counted in `PACK_I` and `PACK_V` (R180). -/
def Lane.countedPhase (l : Lane) (p : Nat) : Bool :=
  let x := l.phase p
  l.selectorConfirmed p && decide (x.genTag = x.gen) && !x.excluded

/-! ### Pack states (R187, R188) -/

/-- Pack state codes of R196. -/
def pkIdle : Int := 0
def pkClosing : Int := 1
def pkRun : Int := 2
def pkStopping : Int := 3

/-- A start request (R187): `IDLE` to `CLOSING`. -/
def Lane.packStart (k : Nat) (l : Lane) : Lane :=
  if l.p (Pk.packState k) = pkIdle then
    (l.setp (Pk.packState k) pkClosing).setPack k { l.pack k with reqLap := l.lap }
  else l

/-- Every phase of the pack sent `OFF` with `arm` 0, and the pack in `IDLE` (R188). -/
def Lane.packOff (k : Nat) (l : Lane) : Lane :=
  let l1 := l.forL (packPhases l.cfg k) (fun p l =>
    let l1 := (l.disarm p).setp (Ph.weight p) 0
    if l1.switching p then l1.setp (Ph.memberState p) msParked else l1)
  (((l1.setp (Pk.packState k) pkIdle).setp (Pk.target k) 0).setPack k { l1.pack k with step := 0, stopStep := 0 }).recapacity k

/-- A stop request (R188; R187 for a pack in `CLOSING`). DESIGN CHOICE (log entry 98): where the target does not divide by `stop_laps`, the
equal step is rounded up, so that the target is 0 within `stop_laps`. -/
def Lane.packStop (k : Nat) (l : Lane) : Lane :=
  if l.p (Pk.packState k) = pkClosing then l.packOff k
  else if l.p (Pk.packState k) = pkRun then
    let laps := l.c (Pk.stopLaps k)
    let t := l.p (Pk.target k)
    let d := ((absN t : Int) + laps - 1) / laps
    (l.setp (Pk.packState k) pkStopping).setPack k { l.pack k with reqLap := l.lap, stopStep := if t < 0 then -d else d }
  else l

/-- A start that fails for want of phases (R187). -/
def Lane.packStartFail (k : Nat) (l : Lane) : Lane :=
  (l.packOff k).inc (Pk.startFails k)

/-- A phase's record as it is armed: its last removal, its latches' marks and its runs are over. -/
def PhaseSt.armed (x : PhaseSt) : PhaseSt :=
  { x with arm := true, cut := false, excluded := false, eps := [], dutyMiss := 0, limitRun := 0, rearmReq := false
           falseHeld := false, lost := false, prep := none }

/-- Whether a phase may be armed at a pack start: its latches allow it, its arm bit, where it was taken away, has been 0 for
`rearm_delay_laps` with the lockout clear as long and the link working (R146), and no commit is pending on it (R178). -/
def Lane.startAllowed (l : Lane) (p : Nat) : Bool :=
  let x := l.phase p
  let h := p / 16
  let n := l.cn (Ph.rearmDelayLaps p)
  l.latchMet p && !x.frozen
    && (!x.cut || (decide (n ≤ x.armZero) && decide (n ≤ (l.hub h).lockoutClear) && decide (l.p (Hub.blind h) = 0)
      && decide (l.p (Hub.linkState h) = lkReady)))

/-- One phase taken into a starting pack: histories initialised, full weight, armed (R187 step 3). DESIGN CHOICE (log entry 88): a phase
whose duty slot is 896 or higher is armed in this lap too, on the duty of the window before, and begins at the start value a lap later. -/
def Lane.startPhase (p : Nat) (l : Lane) : Lane :=
  let l1 := ((l.initPhaseSlots p).setp (Ph.weight p) 65536).setp (Ph.memberState p) msActive
  l1.setPhase p { (l1.phase p).armed with fresh := false }

/-- The pack enters `RUN` with the phases that remain, or the start fails (R187 steps 2 and 3). -/
def Lane.packEnterRun (k : Nat) (l : Lane) : Lane :=
  let ps := (l.startPhases k).filter (fun p => l.selectorConfirmed p && l.startAllowed p)
  if ps.length < l.fewest k then l.packStartFail k
  else
    let l1 := l.forL ps Lane.startPhase
    ((((l1.setp (Pk.packState k) pkRun).setp (Pk.target k) 0).setPack k
      { l1.pack k with allocTarget := 0, goal := 0, step := 0 }).recapacity k)

/-- PACK_RUN_START (R187): every phase waited for has reported its position, and none awaits a commit (R178). -/
def Lane.packRunStart (k : Nat) (l : Lane) : Lane :=
  if l.p (Pk.packState k) = pkClosing ∧ (l.startPhases k).all (fun p => l.selectorConfirmed p && !(l.phase p).frozen) = true then
    l.packEnterRun k
  else l

/-- Phases that have not reported are removed with cause 9 (R187 step 1); they were not switching, so only their state
and cause are set. -/
def Lane.loseUnconfirmed (p : Nat) (l : Lane) : Lane :=
  let l1 := ((l.setp (Ph.memberState p) msLost).setp (Ph.removalCause p) 9).inc (Ph.removals p)
  let l2 := l1.setPhase p { l1.phase p with rearmReq := false, lost := true, lostLap := l.lap }
  match packOf l.cfg p with
  | none => l2
  | some k => l2.inc (Pk.removals k)

/-- PACK_MATRIX_TIMEOUT (R187): `matrix_timeout_ms` after the request, counted in laps of 5 µs. -/
def Lane.packMatrixTimeout (k : Nat) (l : Lane) : Lane :=
  if l.p (Pk.packState k) = pkClosing ∧ l.cn (Pk.matrixTimeoutMs k) * 200 ≤ l.lap - (l.pack k).reqLap then
    (l.forL ((l.startPhases k).filter (fun p => !l.selectorConfirmed p)) Lane.loseUnconfirmed).packEnterRun k
  else l

/-- ±0.01 of full scale in Q1.31, rounded toward zero (R188). -/
def onePercent : Int := 21474836

/-- PACK_STOP_COMPLETE (R188): target 0 and `PACK_I` within ±0.01, or `stop_laps` + 400 laps after the request. -/
def Lane.packStopComplete (k : Nat) (l : Lane) : Lane :=
  if l.p (Pk.packState k) = pkStopping ∧
     ((l.p (Pk.target k) = 0 ∧ -onePercent ≤ l.p (Pk.packI k) ∧ l.p (Pk.packI k) ≤ onePercent)
      ∨ l.cn (Pk.stopLaps k) + 400 ≤ l.lap - (l.pack k).reqLap) then l.packOff k
  else l

/-! ### Joining and leaving (R182, R190, R191) -/

/-- A phase joins: re-arm edge, weight 0 (R190). -/
def Lane.joinPhase (p : Nat) (l : Lane) : Lane :=
  let l1 := (l.setp (Ph.memberState p) msJoining).setp (Ph.weight p) 0
  l1.setPhase p { (l1.phase p).armed with fresh := true }

/-- Whether the result of a phase's duty slot is due in the lap of its evaluation (R28); so it is of a phase without one. -/
def earlyDuty (m : UMap Int) (p : Nat) : Bool :=
  match dutySlot m p with
  | some t => decide (t < 896)
  | none => true

/-- The slots of a joining phase initialised before the evaluation whose result goes into the block that first carries `arm` 1
(R190): in the same lap, or, where the duty slot's result is due one lap later (R28), in the lap before. -/
def Lane.joinStart (p : Nat) (l : Lane) : Lane :=
  let l1 := l.initPhaseSlots p
  if earlyDuty l.cfg p then l1.joinPhase p else l1.setPhase p { l1.phase p with prep := some l.lap }

/-- Whether a phase meets the conditions of R190 besides its state. -/
def Lane.joinReady (l : Lane) (p : Nat) : Bool :=
  match packOf l.cfg p with
  | none => false
  | some k => decide (l.p (Pk.packState k) = pkRun) && decide (l.c (Ph.phaseEnable p) = 1)
      && l.selectorConfirmed p && l.mayArm p && l.latchMet p && !l.scaleBad p

/-- PHASE_JOIN (R190): a `PARKED` phase whose conditions are met. -/
def Lane.phaseJoin (p : Nat) (l : Lane) : Lane :=
  if l.p (Ph.memberState p) = msParked ∧ l.joinReady p = true ∧ (l.phase p).prep = none then l.joinStart p else l

/-- A prepared phase joins in the next lap where its conditions still hold (R190). -/
def Lane.joinPrepared (l : Lane) : Lane :=
  l.forL (UMap.keys l.phases) (fun p l =>
    match (l.phase p).prep with
    | none => l
    | some n =>
      if l.lap ≤ n then l
      else if l.p (Ph.memberState p) = msParked ∧ l.joinReady p = true then l.joinPhase p
      else l.setPhase p { l.phase p with prep := none })

/-- REARM_DELAY_EXPIRY (R146, R190): a `LOST` phase whose condition is met joins where R190 lets it, else parks; one with
`phase_enable` 0 stays where it is (R191). -/
def Lane.rearmDelay (p : Nat) (l : Lane) : Lane :=
  if l.p (Ph.memberState p) = msLost ∧ l.rearmMet p = true ∧ l.c (Ph.phaseEnable p) = 1 then
    let l1 := (l.setp (Ph.memberState p) msParked).setPhase p { l.phase p with lost := false }
    if l.joinReady p then l1.joinStart p else l1
  else l

/-- JOIN_COMPLETE (R182). -/
def Lane.joinComplete (p : Nat) (l : Lane) : Lane :=
  if l.p (Ph.memberState p) = msJoining ∧ l.p (Ph.weight p) = 65536 then l.setp (Ph.memberState p) msActive else l

/-- LEAVE_COMPLETE (R182): `OFF`, `arm` 0, `PARKED`. -/
def Lane.leaveComplete (p : Nat) (l : Lane) : Lane :=
  if l.p (Ph.memberState p) = msLeaving ∧ l.p (Ph.weight p) = 0 then
    (l.setPhase p { l.phase p with arm := false }).setp (Ph.memberState p) msParked
  else l

/-! ### The pack block of one lap (R179) -/

/-- The weight of a joining or leaving phase stepped (R182); a phase that has just started is stepped from the next
lap on. -/
def Lane.stepWeight (k p : Nat) (l : Lane) : Lane :=
  let x := l.phase p
  if x.fresh then l.setPhase p { x with fresh := false }
  else
    let w := l.p (Ph.weight p)
    if l.p (Ph.memberState p) = msJoining then
      l.setp (Ph.weight p) (min 65536 (w + 2 ^ (16 - l.cn (Pk.joinLog2 k))))
    else if l.p (Ph.memberState p) = msLeaving then
      l.setp (Ph.weight p) (max 0 (w - 2 ^ (16 - l.cn (Pk.leaveLog2 k))))
    else l

/-- The share factor of R183 and whether it saturated. -/
def shareFactor (n : Nat) (w sum : Int) : Int × Bool :=
  if sum = 0 then (0, false)
  else
    let s := (2 ^ 29 * n * w + sum) / (2 * sum)
    if 0x7FFFFFFF < s then (0x7FFFFFFF, true) else (s, false)

/-- The median of a list, the lower of the two middle values with an even count (R180). -/
def medianLow (xs : List Int) : Int :=
  let sorted := xs.foldl (fun acc x => (acc.takeWhile (fun y => decide (y ≤ x))) ++ x :: acc.dropWhile (fun y => decide (y ≤ x))) []
  sorted.getD ((sorted.length - 1) / 2) 0

/-- A quotient rounded to nearest, ties towards +∞ (R154). -/
def roundDiv (num den : Int) : Int := if den = 0 then 0 else (2 * num + den) / (2 * den)

/-- k_L, d_eff and the residual ε of R193, in units of 2^−31 per unit, with division toward zero. -/
def residual (iNow iPrev vPrev dcPrev : Int) (duty deadNs : Nat) (vFs iFs lNh : Int) : Int :=
  let one : Int := 2 ^ 31
  let kL := (5000 * vFs * one).tdiv (lNh * iFs)
  let sg : Int := if 0 < iPrev then 1 else if iPrev < 0 then -1 else 0
  let d := (duty : Int) * 2 ^ 15 - sg * ((deadNs : Int) * one).tdiv 5000
  let volt := (d * dcPrev).tdiv one - vPrev
  (iNow - iPrev) - (kL * volt).tdiv one

/-- Whether the phase's sample of this lap is valid and of the current generation. -/
def Lane.sampleOk (l : Lane) (p : Nat) : Bool :=
  let x := l.phase p
  x.okNow && decide (x.genTag = x.gen)

/-- The residual sum of a switching phase stepped in an eligible lap, and the removals of checks 6 and 7 (R192,
R193), after those of the hub's state, for a phase that a start armed on a hub locked out or blind (checks 3 and 4). The checks of
the lap in which a phase joins come before it joins (R179). -/
def Lane.checkPhase (k p : Nat) (l : Lane) : Lane :=
  let x := l.phase p
  let ok := l.sampleOk p
  if !(l.switching p || l.lostNow p) then l
  else
    let la := if l.p (Hub.lockout (p / 16)) = 1 then l.removePhase 3 p else l
    let l0 := if la.p (Hub.blind (p / 16)) = 1 then la.removePhase 4 p else la
    let h := p / 16
    let eligible := ok && x.okPrev && !x.refresh2 && x.armSent
    let e := residual x.iNow x.iPrev x.vPrev x.dcPrev x.duty2 (l0.cn (Hub.deadTimeNs h)) (l0.p (Hub.vFs h))
      (l0.p (Hub.iFs h)) (l0.c (Ph.lOutNh p))
    let eps := if eligible then (e :: x.eps).take 16 else x.eps
    let sum := eps.foldl (· + ·) 0
    let l1 := (l0.setPhase p { l0.phase p with eps := eps }).setp (Ph.residualSum p) (sat32 sum)
    if (eligible && decide (l1.c (Pk.senseThr k) < (absN sum : Int))) then l1.removePhase 6 p
    else if 2 ≤ x.rangeRun then l1.removePhase 7 p
    else if l1.cn (Pk.limitLaps k) ≤ x.limitRun then l1.removePhase 8 p
    else l1

/-! ### Outlet voltage (R180, R242, R243) -/

/-- The samples of an old generation discarded in this lap, counted (R62): those of the phases that a commit has moved or unbound. -/
def Lane.staleSamples (l : Lane) : Lane :=
  let stale := l.phases.filter (fun e => e.2.okNow && decide (e.2.genTag ≠ e.2.gen))
  if stale.isEmpty then l else l.addp (Sd.staleDiscards 0) (stale.length : Nat)

/-- `OUTLET_V` (R180): the `PACK_V` of the lowest-numbered pack of the outlet whose `PACK_V` is valid; with none, its last
value. -/
def Lane.outletV (l : Lane) (o : Nat) : Int :=
  match (outletPacks l.cfg o).find? (fun k => !(l.pack k).held) with
  | some k => l.p (Pk.packV k)
  | none => (l.out o).lastV

/-- The `OUTLET_V` of this lap kept as the last value (R180). -/
def Lane.keepOutletV (o : Nat) (l : Lane) : Lane := l.setOut o { l.out o with lastV := l.outletV o }

/-- The hub whose full scales an outlet's voltage uses: that of its lowest-numbered pack (R178, R529). -/
def outletHub (m : UMap Int) (o : Nat) : Nat :=
  match outletPacks m o with
  | [] => 0
  | k :: _ => packHub m k

/-- `OUTLET_V` in µV. -/
def Lane.outletUv (l : Lane) (o : Nat) : Int :=
  (l.outletV o * l.p (Hub.vFs (outletHub l.cfg o)) * 1000000).tdiv (2 ^ 31)

/-- The final voltage of the outlet's ramp in mV, in the steps that ramp (R242). -/
def Lane.rampEnd (l : Lane) (o : Nat) : Option Int :=
  let st := l.p (Out.sessionStep o)
  if st = 6 then some (min (l.p (Out.evVMaxMv o)) (l.sc o (Out.vMaxMv o)))
  else if st = 7 ∨ st = 8 then some (l.p (Out.evVTargetMv o))
  else if st = 12 then some 0
  else none

/-- The outlet's voltage slot (R242): `FB_MODE` 5, `UNIT` o, `REF_MODE` 6, `DEST` 0. -/
def voltageSlot (m : UMap Int) (o : Nat) : Option Nat :=
  (validSlots m).find? (fun t => enFbMode (entryLo m t) == 5 && enUnit (entryLo m t) == o
    && enRefMode (entryHi m t) == 6 && enDest (entryLo m t) == 0)

/-- The current loop-to-slot generation (R60, R164). -/
def Lane.slotGen (l : Lane) (t : Nat) : Nat := l.pn (Slot.generation t)

/-- The binding besides loop to slot that a slot's results carry (R60): 0 phase to pack, where it works on a phase; 1 pack to
outlet, where it works on a pack; none otherwise. -/
def slotBinding (m : UMap Int) (t : Nat) : Option Nat :=
  let hi := entryHi m t
  let lo := entryLo m t
  let fb := enFbMode lo
  if enRefMode hi = 4 ∨ fb = 1 ∨ fb = 2 ∨ enDest lo = 1 ∨ enFfMode lo = 1 ∨ enFfMode lo = 3 then some 0
  else if enRefMode hi = 5 ∨ fb = 3 ∨ fb = 4 then some 1
  else none

/-- The present generation of that binding; 0 where there is none. -/
def Lane.bindGen (l : Lane) (t : Nat) : Nat :=
  match slotBinding l.cfg t with
  | some 0 => (l.phase (enUnit (entryLo l.cfg t))).gen
  | some _ => (l.pack (enUnit (entryLo l.cfg t))).gen
  | none => 0

/-- Whether a result of slot `t` tagged `gen` and `bind` is of the current generations (R62). -/
def Lane.tagOk (l : Lane) (t gen bind : Nat) : Bool := decide (gen = l.slotGen t) && decide (bind = l.bindGen t)

/-- The output of slot `t`'s latest evaluation (R166): 0 before the first, and where its tags are old (R62). -/
def Lane.slotLatest (l : Lane) (t : Nat) : Int :=
  let x := l.slot t
  if l.tagOk t x.gen x.bind then x.out else 0

/-- Evaluation `no` of slot `t`, tagged `gen`, has its result discarded: counted once, for the binding whose generation
differs (R62, R530). -/
def Lane.discard (t gen no : Nat) (l : Lane) : Lane :=
  let x := l.slot t
  if x.lost.contains no then l
  else
    let k := if gen ≠ l.slotGen t then 2 else (slotBinding l.cfg t).getD 2
    (l.inc (Sd.staleDiscards k)).setSlot t { x with lost := (no :: x.lost).take 4 }

/-- A discard of slot `t`'s latest result where its tags are old (R62). -/
def Lane.discardLatest (t : Nat) (l : Lane) : Lane :=
  let x := l.slot t
  if x.no = 0 || l.tagOk t x.gen x.bind then l else l.discard t x.gen x.no

/-- 0.02 in Q1.31 (R242). -/
def twoPercent : Int := 0x028F5C29

/-- d of R242: the voltage slot's latest output, limited to ±0.02. -/
def Lane.rampD (l : Lane) (o : Nat) : Int :=
  match voltageSlot l.cfg o with
  | some t => clampI (-twoPercent) twoPercent (l.slotLatest t)
  | none => 0

/-- t_k of R242. -/
def Lane.rampTarget (l : Lane) (o k : Nat) : Int :=
  let ks := (outletPacks l.cfg o).filter (fun j => decide (l.p (Pk.packState j) = 2))
  let sum := ks.foldl (fun a j => a + l.p (Pk.capacityA j)) 0
  (l.rampD o * l.sc o (Out.iRatingA o) * l.p (Pk.capacityA k)).tdiv (sum * l.packIFs k)

/-- One lap of an outlet's ramp and of its short count (R242, R243). -/
def Lane.rampLap (o : Nat) (l0 : Lane) : Lane :=
  match l0.rampEnd o with
  | none => l0
  | some mv =>
    let l : Lane := match voltageSlot l0.cfg o with
      | some t => l0.discardLatest t
      | none => l0
    let x := l.out o
    let fin := mv * 1000
    let step := l.sc o (Out.prechargeRateVS o) * 5
    let r := if x.rampUv < fin then min fin (x.rampUv + step) else max fin (x.rampUv - step)
    let fs : Int := l.p (Hub.vFs (outletHub l.cfg o)) * 1000000
    let q := if fs = 0 then 0 else sat32 ((r * 2 ^ 31).tdiv fs)
    let st : Int := l.p (Out.sessionStep o)
    let low := decide (st = 6 ∨ st = 7) && decide (l.rampD o = twoPercent) && decide (l.outletUv o * 5 < fin)
    l.setOut o { x with rampUv := r, rampQ := q, shortCount := if low then x.shortCount + 1 else 0 }

/-- The target of allocation stepped, and held to the overload limit (R186), rounded as R154 says, which counts where it acts. -/
def Lane.stepAlloc (k : Nat) (t : Int) (l : Lane) : Lane :=
  let x := l.pack k
  let t1 := t + x.step
  let t2 := if 0 < x.step ∧ x.goal < t1 then x.goal else if x.step < 0 ∧ t1 < x.goal then x.goal else t1
  let fs := l.packIFs k
  let limit := roundDiv (l.p (Pk.overloadA k) * 2 ^ 31) fs
  if limit < t2 then (l.setp (Pk.target k) limit).inc (Pk.targetClamps k) else l.setp (Pk.target k) t2

/-- The ramped target stepped (R186). The target that a round has loaded counts from the next lap 0 on (R34). A pack that stops
falls to 0 (R188), any other that does not run has 0, and in the steps of R242 the outlet's ramp gives the target. -/
def Lane.stepTarget (k : Nat) (l0 : Lane) : Lane :=
  let t := l0.p (Pk.target k)
  let y := l0.pack k
  let l1 := if l0.lapIn = 0 then l0.setPack k { y with goal := y.allocTarget, step := (y.allocTarget - t).tdiv 200 } else l0
  let l := l1.stepAlloc k t
  if l.p (Pk.packState k) = pkStopping then
    let d := (l.pack k).stopStep
    l.setp (Pk.target k) (if 0 ≤ t then max 0 (t - d) else min 0 (t - d))
  else if l.p (Pk.packState k) ≠ pkRun then l.setp (Pk.target k) 0
  else if let some o := (outletOf l.cfg k).filter (fun o => (l.rampEnd o).isSome) then
    l1.setp (Pk.target k) (l1.rampTarget o k)
  else l

/-- `PACK_I` and `PACK_V` (R180): the last value held where no phase is counted. -/
def Lane.packSources (k : Nat) (l : Lane) : Lane :=
  let ps := (packPhases l.cfg k).filter l.countedPhase
  if ps.isEmpty then
    ((l.setst (Pk.packI k) 1).setst (Pk.packV k) 1).setPack k { l.pack k with held := true }
  else
    let sum := ps.foldl (fun a p => a + (l.phase p).iNow) 0
    ((l.setps (Pk.packI k) (roundDiv sum (l.nCfg k)) 0).setps (Pk.packV k)
      (medianLow (ps.map (fun p => (l.phase p).vNow))) 0).setPack k { l.pack k with held := false }

/-- The share factor of one phase written (R183). -/
def Lane.setShare (n : Nat) (sum : Int) (p : Nat) (l : Lane) : Lane :=
  l.setp (Ph.share p) (shareFactor n (l.p (Ph.weight p)) sum).1

/-- The pack block of pack `k` for the lap that ends (R179 to R188). -/
def Lane.packBlock (k : Nat) (l : Lane) : Lane :=
  let ps := packPhases l.cfg k
  let n := ps.length
  let l1 := l.forL ps (fun p l => l.checkPhase k p)
  let l2 := l1.forL ps (fun p l => l.stepWeight k p)
  let w := ps.foldl (fun a p => a + l2.p (Ph.weight p)) 0
  let l3 := l2.forL ps (Lane.setShare n w)
  let sat := ps.any (fun p => (shareFactor n (l2.p (Ph.weight p)) w).2)
  let l4 := if sat then l3.inc (Pk.shareSat k) else l3
  let l5 := (l4.packSources k).recapacity k
  let l6 := l5.stepTarget k
  let l7 := (((l6.setp (Pk.weightSum k) w).setp (Pk.nCfg k) n).setp (Pk.nActive k) (l6.runningPhases k)).setp
    (Pk.packIFs k) (l6.packIFs k)
  if l7.p (Pk.packState k) = pkRun ∧ (l7.runningPhases k < l7.fewest k ∨ outletOf l7.cfg k = none) then
    let l8 := l7.packStop k
    match outletOf l8.cfg k with
    | some o => l8.fire o o [l8.p (Out.sessionStep o), l8.p (Out.faultCode o), l8.p (Out.sessionGen o)]
    | none => l8
  else l7

/-- What a pack without phases shows (R180, R196): its sources held, and no weight, capacity or rotation. -/
def Lane.showEmpty (k : Nat) (l : Lane) : Lane :=
  if !(packPhases l.cfg k).isEmpty then l
  else ((((l.packSources k).recapacity k).setp (Pk.weightSum k) 0).setp (Pk.nActive k) 0).setp (Pk.rotation k) 0

/-- The members of a pack by position, the positions of its phases and the pack's scale, shown (R178, R184, R196). -/
def Lane.showMembers (k : Nat) (l0 : Lane) : Lane :=
  let ps := packPhases l0.cfg k
  let l := ((l0.setp (Pk.nCfg k) (l0.nCfg k : Nat)).setp (Pk.packIFs k) (l0.packIFs k)).showEmpty k
  let l1 := l.forN 48 (fun i l => l.setp (Pk.member k i) (match ps[i]? with | some p => (p : Int) | none => 0xFFFFFFFF))
  l1.forL ps (fun p l => l.setp (Ph.position p) ((ps.takeWhile (· != p)).length : Int))

/-- The packs with at least one phase bound, in the order first met. -/
def usedPacks (m : UMap Int) : List Nat :=
  (List.range 64).filter (fun k => (cfgUnits m (Ph.pack 0) 512 128).any (fun e => e.2 == (k : Int)))

/-- The packs that the pack block works on: those with a phase, and those that still run or stop without one (R188). -/
def Lane.livePacks (l : Lane) : List Nat :=
  let used := usedPacks l.cfg
  (List.range 64).filter (fun k => used.contains k || decide (l.p (Pk.packState k) ≠ pkIdle))

/-- The angle of a phase in the block that takes effect at lap `lam` (R184). -/
def angleOf (base : Nat) (pos rho n : Nat) : Nat :=
  if n = 0 then base % 65536 else (base + 65536 * ((pos + rho) % n) / n) % 65536

end Sys2Proof.Machine
end

