-- ==== Sys2Proof/Machine/Coolant.lean ====
section
/-!
DEFINITION. What the loop engines read of an outlet's cooling (R163, R221): its sensors as every consumer takes them (R220), the
coolant temperature and the flow target.
-/

namespace Sys2Proof.Machine

/-- The cooling record of outlet `o`. -/
def Lane.cool (l : Lane) (o : Nat) : CoolSt := UMap.get (fun _ => {}) l.cools o

/-- The cooling record of outlet `o` replaced. -/
def Lane.setCool (l : Lane) (o : Nat) (x : CoolSt) : Lane := { l with cools := UMap.put (fun _ => {}) l.cools o x }

/-- `EN` of a sensor descriptor. -/
def Lane.srcEn (l : Lane) (o n : Nat) : Bool := bitAt (l.cn (Out.src o n)) 31

/-- The record of sensor `n` of outlet `o`. -/
def Lane.sensor (l : Lane) (o n : Nat) : SensorSt := UMap.get (fun _ => {}) (l.cool o).sensors n

/-- The record of sensor `n` of outlet `o` replaced. -/
def Lane.setSensor (l : Lane) (o n : Nat) (s : SensorSt) : Lane :=
  l.setCool o { l.cool o with sensors := UMap.put (fun _ => {}) (l.cool o).sensors n s }

/-- A sensor's status code (R220, R41): 0 valid, 1 held, 2 invalid, 4 unconfigured. -/
def Lane.sensorStatus (l : Lane) (o n : Nat) : Nat :=
  if !l.srcEn o n then 4
  else
    let s := l.sensor o n
    if s.bad then 2 else if s.epoch = some l.epoch then 0 else 1

/-- Whether a sensor's value may be used. -/
def Lane.sensorUsable (l : Lane) (o n : Nat) : Bool := decide (l.sensorStatus o n ≤ 1)

/-- The largest usable pin reading (R220). -/
def Lane.pinMax (l : Lane) (o : Nat) : Option Int :=
  ([3, 4, 5, 6].filter (l.sensorUsable o)).foldl (fun a n =>
    match a with | none => some (l.sensor o n).value | some v => some (max v (l.sensor o n).value)) none

/-- The outlet's contactors closed, as `contactor_state` shows. -/
def Lane.contactorsClosed (l : Lane) (o : Nat) : Bool := decide (l.p (Out.contactorState o) = 1)

/-- The coolant temperature of the model (R220, R223). -/
def Lane.coolant (l : Lane) (o : Nat) : Int :=
  match l.sensorUsable o 1, l.sensorUsable o 2 with
  | true, true => max (l.sensor o 1).value (l.sensor o 2).value
  | true, false => (l.sensor o 1).value
  | false, true => (l.sensor o 2).value
  | false, false => l.c (Out.coolFallbackMc o)

/-- The flow target (R221). -/
def Lane.flowTarget (l : Lane) (o : Nat) : Int :=
  let hot := match l.pinMax o with | some v => decide (l.coolant o + 10000 < v) | none => false
  let cooling := match (l.cool o).openedLap with
    | some t => decide (l.lap - t < l.cn (Out.cooldownS o) * 200000)
    | none => false
  if l.contactorsClosed o || hot || cooling then l.c (Out.flowNom o) else l.c (Out.flowIdle o)

end Sys2Proof.Machine
end

