-- ==== Sys2Proof/Machine/Engine.lean ====
section
/-!
DEFINITION. The loop engines (R152 to R175): one evaluation to the bit, the order of a window, cascades, skips, test
vectors, and the command blocks assembled from the results (R124, R145, R174).
-/

namespace Sys2Proof.Machine

/-! ### Arithmetic (R154) -/

/-- Round to nearest with ties towards +∞: add 2^27 and shift right by 28. -/
def rnd28 (v : Int) : Int := (v + 2 ^ 27) / 2 ^ 28

/-- A value saturated to Q1.31, and whether saturation acted (R155). -/
def satF (v : Int) : Int × Bool := (sat32 v, decide (sat32 v ≠ v))

/-- The configuration of a slot that one evaluation reads. -/
structure SlotCfg where
  form : Nat
  ffMode : Nat
  b0 : Int
  b1 : Int
  b2 : Int
  b3 : Int
  a1 : Int
  a2 : Int
  a3 : Int
  lo : Int
  hi : Int
  kRamp : Int
  vffNom : Int
  vffMin : Int
deriving DecidableEq, Repr

/-- What one evaluation yields: the histories, the output, and which counters act. -/
structure EvalOut where
  slot : SlotSt
  err : Int
  sat : Bool
  lim : Bool
deriving DecidableEq, Repr

/-- The compensator sum in the accumulator (R158). -/
def accumulate (c : SlotCfg) (x : SlotSt) (e : Int) : Int :=
  let two := c.b0 * e + c.b1 * x.e1 + c.b2 * x.e2 + c.a1 * x.u1 + c.a2 * x.u2
  if c.form = 2 then two + c.b3 * x.e3 + c.a3 * x.u3 else two

/-- The ramp feedforward f_r[n] (R159) and whether it saturated. -/
def rampTerm (c : SlotCfg) (x : SlotSt) (r : Int) : Int × Bool :=
  if c.ffMode = 2 ∨ c.ffMode = 3 then
    let d := satF (r - x.r1)
    let f := satF (rnd28 (c.kRamp * d.1))
    (f.1, d.2 || f.2)
  else (0, false)

/-- g and h of R160 in Q3.28, toward zero and saturated, and whether either saturated. -/
def ffGains (c : SlotCfg) (vdc : Int) : Int × Int × Bool :=
  let v := max vdc c.vffMin
  let g := satF ((c.vffNom * 2 ^ 28).tdiv v)
  let h := satF ((v * 2 ^ 28).tdiv c.vffNom)
  (g.1, h.1, g.2 || h.2)

/-- One evaluation from reference, feedback and injections on (R157 to R160). -/
def evaluate (c : SlotCfg) (x : SlotSt) (ref fb vdc ir ie iu : Int) : EvalOut :=
  let r := satF (ref + ir)
  let e0 := satF (r.1 - fb)
  let e := satF (e0.1 + ie)
  let uc := satF (rnd28 (accumulate c x e.1))
  let fr := rampTerm c x r.1
  let v := satF (uc.1 + fr.1)
  let scaled := decide (c.ffMode = 1 ∨ c.ffMode = 3)
  let gh := ffGains c vdc
  let y0 := if scaled then satF (rnd28 (v.1 * gh.1)) else (v.1, false)
  let y := satF (y0.1 + iu)
  let yc := min (max y.1 c.lo) c.hi
  let limited := decide (yc ≠ y.1)
  let vcl := if !scaled || decide (gh.1 = 2 ^ 28) then (yc, false) else satF (rnd28 (yc * gh.2.1))
  let hist := if limited then satF (vcl.1 - fr.1) else (uc.1, false)
  { slot := { x with
      e1 := e.1, e2 := x.e1, e3 := x.e2, u1 := hist.1, u2 := x.u1, u3 := x.u2, r1 := r.1
      out := yc, ran := true, refNow := r.1, limited := limited, init := false
      injNow := ir + ie + iu, fbNow := fb, preNow := e0.1, compNow := v.1 }
    err := e.1
    sat := r.2 || e0.2 || e.2 || uc.2 || fr.2 || v.2 || (scaled && gh.2.2) || y0.2 || y.2 || (limited && (vcl.2 || hist.2))
    lim := limited }

/-- The slot's configuration points. -/
def Lane.slotCfg (l : Lane) (t : Nat) : SlotCfg :=
  { form := enForm (entryHi l.cfg t), ffMode := enFfMode (entryLo l.cfg t)
    b0 := l.c (Slot.b t 0), b1 := l.c (Slot.b t 1), b2 := l.c (Slot.b t 2), b3 := l.c (Slot.b t 3)
    a1 := l.c (Slot.a t 0), a2 := l.c (Slot.a t 1), a3 := l.c (Slot.a t 2)
    lo := l.c (Slot.outLo t), hi := l.c (Slot.outHi t), kRamp := l.c (Slot.kRamp t)
    vffNom := l.c (Slot.vffNom t), vffMin := l.c (Slot.vffMin t) }

/-- The value loaded into the output histories at initialisation (R172, R189). -/
def Lane.startValue (l : Lane) (t : Nat) : Int :=
  let lo := entryLo l.cfg t
  let p := enUnit lo
  let given := l.c (Slot.initOut t)
  if given ≠ 0 ∨ enDest lo ≠ 1 then given
  else
    match packOf l.cfg p with
    | none => 0
    | some k =>
      if (l.pack k).held then 0
      else
        let v := l.p (Pk.packV k)
        let den := if enFfMode lo = 1 ∨ enFfMode lo = 3 then l.c (Slot.vffNom t)
          else max (l.phase p).dcNow (l.c (Slot.vffMin t))
        sat32 (roundDiv (v * 2 ^ 31) den)

/-- The histories as an evaluation finds them: initialised where marked (R172). DESIGN CHOICE (log entry 114): the start value is loaded as
it is, even outside `out_lo`..`out_hi`; the first output is limited. -/
def Lane.slotReady (l : Lane) (t : Nat) : SlotSt :=
  let x := l.slot t
  if x.init then
    let u := l.startValue t
    { x with e1 := 0, e2 := 0, e3 := 0, r1 := 0, u1 := u, u2 := u, u3 := u, init := false }
  else x

/-- A same-lap source's result: none unless it ran in this lap under the current generation (R168, R169). -/
def Lane.sameLap (l : Lane) (t : Nat) : Option Int :=
  let x := l.slot t
  if x.ran && decide (x.gen = l.slotGen t) then some x.out else none

/-- An earlier window's result with its tags and number (R168): one window back for sources up to 2025, two for 2026..2047. -/
def Lane.earlierTag (l : Lane) (t : Nat) : Int × Nat × Nat × Nat :=
  let x := l.slot t
  if t < 2026 then (x.out1, x.gen1, x.bind1, x.no1) else (x.out2, x.gen2, x.bind2, x.no2)

/-- An earlier window's result (R168): 0 from a source that has not run yet (log entry 31), none where its generations are not
the current ones (R62). -/
def Lane.earlier (l : Lane) (t : Nat) : Option Int :=
  let e := l.earlierTag t
  if e.2.2.2 = 0 then some 0 else if l.tagOk t e.2.1 e.2.2.1 then some e.1 else none

/-- A quantity as Q1.31 per unit of a full scale, divided toward zero (R163 gives the scale and no rounding: log entry 97). -/
def perUnit (v fs : Int) : Int := if fs = 0 then 0 else sat32 ((v * 2 ^ 31).tdiv fs)

/-- The scaled reference before the injection (R157, R163): the value and whether it saturated, or none where the
slot skips (R169). -/
def Lane.reference (l : Lane) (t : Nat) : Option (Int × Bool) :=
  let hi := entryHi l.cfg t
  let lo := entryLo l.cfg t
  let u := enUnit lo
  let g := l.c (Slot.refGain t)
  let plain := fun v => some (satF (rnd28 (v * g)))
  match enRefMode hi with
  | 0 => plain 0
  | 1 => plain (l.c (Slot.refValue t))
  | 2 => (l.sameLap (enRefSlot hi)).bind plain
  | 3 => (l.earlier (enRefSlot hi)).bind plain
  | 4 => (l.sameLap (enRefSlot hi)).bind (fun v =>
      let s := satF (rnd28 (v * l.p (Ph.share u)))
      some (s.1 + (l.earlier (enTrimSlot lo)).getD 0, s.2))
  | 5 => plain (l.p (Pk.target u))
  | 6 => plain (l.out u).rampQ
  | _ => plain (perUnit (l.flowTarget u) (l.c (Out.flowFs u)))

/-- The feedback source (R163), or none where a measurement of an old generation makes the slot skip (R169). -/
def Lane.feedback (l : Lane) (t : Nat) : Option Int :=
  let lo := entryLo l.cfg t
  let u := enUnit lo
  let x := l.phase u
  match enFbMode lo with
  | 0 => some 0
  | 1 => if x.genTag = x.gen then some x.iNow else none
  | 2 => if x.genTag = x.gen then some x.vNow else none
  | 3 => some (l.p (Pk.packI u))
  | 4 => some (l.p (Pk.packV u))
  | 5 => some (l.outletV u)
  | _ => some (perUnit (l.p (Out.flow u)) (l.c (Out.flowFs u)))

/-- The results that slot `t` finds discarded among its sources of earlier windows (R62). -/
def Lane.discards (t : Nat) (l : Lane) : Lane :=
  let hi := entryHi l.cfg t
  let lost := fun (u : Nat) (l : Lane) =>
    if l.earlier u = none then l.discard u (l.earlierTag u).2.1 (l.earlierTag u).2.2.2 else l
  if enRefMode hi = 3 then lost (enRefSlot hi) l
  else if enRefMode hi = 4 then lost (enTrimSlot (entryLo l.cfg t)) l
  else l

/-- Whether slot `t` runs in lap `n` (R166) and its engine is not in reset (R93). -/
def Lane.slotRuns (l : Lane) (t n : Nat) : Bool :=
  let hi := entryHi l.cfg t
  decide (n % 2 ^ enDecim hi = enPhaseOfs hi) && !(if t % 2 = 0 then l.engine.off0 else l.engine.off1)

/-- The limit check of one evaluation of a phase's duty slot (R192 check 8). -/
def Lane.limitRun (l : Lane) (t : Nat) (o : EvalOut) : Lane :=
  let lo := entryLo l.cfg t
  if enDest lo ≠ 1 then l
  else
    let p := enUnit lo
    let x := l.phase p
    match packOf l.cfg p with
    | none => l
    | some k =>
      let far := decide (l.c (Pk.limitErr k) < (absN (o.slot.refNow - x.iNow) : Int))
      l.setPhase p { x with limitRun := if o.lim && far then x.limitRun + 1 else 0 }

/-- A window opens (R168): what each slot holds becomes its output of the window before. -/
def Lane.openSlot (t : Nat) (l : Lane) : Lane :=
  let x := l.slot t
  l.setSlot t { x with
    out2 := x.out1, gen2 := x.gen1, bind2 := x.bind1, no2 := x.no1
    out1 := x.out, gen1 := x.gen, bind1 := x.bind, no1 := x.no, ran1 := x.ran, duty1 := x.duty, ran := false }

/-- Slot `t` in the window of lap `n`: evaluate, skip or stay. `inj` gives the tuning injections i_r, i_e, i_u. -/
def Lane.runSlot (n : Nat) (inj : Nat → Int × Int × Int) (t : Nat) (l1 : Lane) : Lane :=
  if !l1.slotRuns t n then l1
  else
    let l2 := l1.discards t
    match l2.reference t, l2.feedback t with
    | some r, some fbv =>
      let f := satF (rnd28 (fbv * l2.c (Slot.fbGain t)))
      let c := l2.slotCfg t
      let i := inj t
      let o := evaluate c (l2.slotReady t) r.1 f.1 (l2.phase (enUnit (entryLo l2.cfg t))).dcNow i.1 i.2.1 i.2.2
      let l3 := ((l2.setSlot t { o.slot with
        gen := l2.slotGen t, bind := l2.bindGen t, no := (l2.slot t).no + 1, duty := enDest (entryLo l2.cfg t) == 1 }).setp (Slot.output t) o.slot.out).setp
        (Slot.error t) o.err
      let l4 := if r.2 || f.2 || o.sat then l3.inc (Slot.satEvents t) else l3
      (if o.lim then l4.inc (Slot.limHits t) else l4).limitRun t o
    | _, _ => l2.inc (Slot.skips t)

/-! ### Test vectors (R165, R365) -/

/-- The free issue positions of a window (R165), in issue order: slots that hold no loop or do not run in lap `n`, in an
engine that is not in reset. -/
def Lane.freeSlots (l : Lane) (n : Nat) : List Nat :=
  (List.range 2048).filter (fun t => !(if t % 2 = 0 then l.engine.off0 else l.engine.off1)
    && (!(enValid (entryHi l.cfg t)) || !(l.slotRuns t n)))

/-- A test vector at free position `t` of the standby (R165, R365), whose result differs from the expected one where `bad`. A
difference counts and owes a repetition at the next free position; a repetition that differs too drops WANT and resets the
engine of the position that failed first. A failure within 3,600 s of such a reset marks `TV_PERSIST`. -/
def Lane.testVector (t : Nat) (bad : Bool) (l : Lane) : Lane :=
  if t % 2 = 0 ∧ l.engine.off0 = true ∨ t % 2 = 1 ∧ l.engine.off1 = true then l
  else if !bad then (if l.engine.repeatSlot.isNone then l else { l with engine := { l.engine with repeatSlot := none } })
  else
    let l1 := (l.inc (Slot.testFails t)).inc Hp.testVectorsFailed
    let again := match l.link.tvLastMs with
      | some ms => decide (l.epoch < ms + 3600000)
      | none => false
    let l2 := if again then { l1 with link := { l1.link with want := false, tvPersist := true } } else l1
    match l.engine.repeatSlot with
    | none => { l2 with engine := { l2.engine with repeatSlot := some t } }
    | some u =>
      { l2 with
        engine := { l2.engine with
          off0 := l2.engine.off0 || decide (u % 2 = 0), off1 := l2.engine.off1 || decide (u % 2 = 1), repeatSlot := none }
        link := { l2.link with want := false, tvLastMs := some l2.epoch } }

/-- The test vectors of a window (R165): every free position runs one, drawn in turn from the 256. The vectors' contents are
not given, so the positions `bad` whose results differ from the expected ones arrive with the lap (log entry 14). -/
def Lane.testVectors (n : Nat) (bad : List Nat) (l : Lane) : Lane :=
  let free := l.freeSlots n
  let l1 : Lane := { l.addp Hp.testVectorsRun (free.length : Nat) with
    engine := { l.engine with vector := (l.engine.vector + free.length) % 256 } }
  if bad.isEmpty && l1.engine.repeatSlot.isNone then l1
  else l1.forL free (fun t l => l.testVector t (bad.contains t))

/-! ### Command blocks (R124, R145, R161, R174) -/

/-- The duty result due for phase `p` in this block (R28, R161, R174): this lap's for slots 0..895, the previous
window's for the others; none without a current-generation result. -/
def Lane.dutyDue (l : Lane) (p : Nat) : Option Int :=
  match dutySlot l.cfg p with
  | none => none
  | some t =>
    let x := l.slot t
    if t < 896 then l.sameLap t
    else if x.ran1 && l.tagOk t x.gen1 x.bind1 then some x.out1 else none

/-- The bootstrap cap: 97 % of 65,536 (R145). -/
def dutyCap : Nat := 63569

/-- The duty word of an output (R161): shifted right by 15 bits, a negative value giving 0. -/
def dutyWord (y : Int) : Nat := (y / 2 ^ 15).toNat

/-- Whether the pattern of a duty word refreshes the bootstrap supply by itself (R145). -/
def selfRefresh (duty deadNs refreshNs : Nat) : Bool :=
  decide (5000 * (65536 - duty) ≥ (2 * deadNs + refreshNs) * 65536)

/-- The part of a command block of one phase: duty, angle, control nibble (R125). -/
structure PhaseCmd where
  duty : Nat
  angle : Nat
  ctl : Nat
deriving DecidableEq, Repr

/-- Whether a disarmed phase of a hub may be armed at all: the record in force is acknowledged (R141), the hub not in test mode
(R142), and no commit is pending on the phase (R178). -/
def Lane.armAllowed (l : Lane) (p : Nat) : Bool :=
  let h := p / 16
  decide (l.p (Hub.cfgAck h) = l.p (Hub.cfgGen h) % 65536) && decide (l.c (Hub.testMode h) = 0) && !(l.phase p).frozen

/-- A leaving phase whose weight has reached 0: `OFF` and `arm` 0 are sent in that lap (R182). -/
def Lane.left (l : Lane) (p : Nat) : Bool := decide (l.p (Ph.memberState p) = msLeaving ∧ l.p (Ph.weight p) = 0)

/-- The state point of a function (R349, R350). -/
def fnAddr (n : Nat) : Nat := if n < 3 then SafM.fnStateMod n else Saf.fnState ((n - 16) / 8) ((n - 16) % 8)

/-- Function states of R349. -/
def fnOff : Int := 0
def fnHealthy : Int := 1
def fnTripped : Int := 2
def fnResettable : Int := 3
def fnDegraded : Int := 4
def fnExpired : Int := 5

/-- Whether a function holds its outputs off. -/
def Lane.fnHeld (l : Lane) (n : Nat) : Bool :=
  decide (l.p (fnAddr n) = fnTripped) || decide (l.p (fnAddr n) = fnResettable)

/-- Whether a Class P trip holds phase `p` at `OFF` (R327): function 0 or 2 of the module, or a protective function of the outlet its
pack serves. -/
def Lane.offTripped (l : Lane) (p : Nat) : Bool :=
  l.fnHeld 0 || l.fnHeld 2 || (match (packOf l.cfg p).bind (outletOf l.cfg) with
    | some o => (List.range 7).any (fun i => l.fnHeld (16 + 8 * o + i))
    | none => false)

/-- The command of phase `p` for the block that takes effect at lap `lam`, and the lane with the phase's record brought
up to date (R145, R174, R181, R184). A `TEST` order runs for its duration and then ends (R148); none is sent to a blind hub (R138), and a
Class P trip that is latched holds the phase at `OFF` (R327). -/
def Lane.phaseCmd (lam p : Nat) (l0 : Lane) : Lane × PhaseCmd :=
  let h := p / 16
  let x := l0.phase p
  let l := if x.testLaps = 0 then l0 else l0.setPhase p { x with testLaps := x.testLaps - 1 }
  let shift := fun (l : Lane) (sent : Bool) (d : Nat) (f : Bool) (since : Nat) =>
    let y := l.phase p
    l.setPhase p { y with duty2 := y.duty1, duty1 := d, refresh2 := y.refresh1, refresh1 := f, since := since
                          genBlock := y.gen, armSent := sent, armZero := if sent then 0 else y.armZero }
  let ang : Nat := match packOf l.cfg p with
    | none => 0
    | some k =>
      let ps := packPhases l.cfg k
      angleOf (l.cn (Pk.angleBase k)) (ps.takeWhile (· != p)).length ((lam / 64) % (max 1 ps.length)) ps.length
  if l.c (Hub.testMode h) = 1 then
    let d := (if bitAt x.testSwitch 0 then 32768 else 0) + (if bitAt x.testSwitch 1 then 16384 else 0)
    let l1 := l.setp (Ph.angle p) ang
    if x.testLaps = 0 ∨ l.p (Hub.blind h) = 1 ∨ l.offTripped p = true ∨ l.power.sleep.any SleepPrep.committed = true then (shift l1 false 0 false 0, ⟨0, ang, 0⟩)
    else (shift l1 false d false 0, ⟨d, ang, 2⟩)
  else if !(l.switching p && !l.offTripped p && !l.left p && x.arm && (x.armSent || l.armAllowed p)) then
    -- a phase that another check removed in this lap may have missed its second duty as well
    let l1 := if l.lostNow p && (l.dutyDue p).isNone && decide (1 ≤ x.dutyMiss) then l.removePhase 5 p else l
    (shift (l1.setp (Ph.angle p) ang) false 0 false 0, ⟨0, ang, 0⟩)
  else
    let due := l.dutyDue p
    let l1 := match due, dutySlot l.cfg p with
      | none, some t => if x.dutyMiss = 0 then l.inc (Slot.dutyHolds t) else l
      | _, _ => l
    let miss := if due.isSome then 0 else x.dutyMiss + 1
    if 2 ≤ miss then
      let l2 := (l1.removePhase 5 p).setp (Ph.angle p) ang
      (shift l2 false 0 false 0, ⟨0, ang, 0⟩)
    else
      let raw := match due with | some y => dutyWord y | none => x.duty1
      let boot := bitAt (l.cn (Hub.bootstrapMask h)) (p % 16)
      let d := if boot then min raw dutyCap else min raw 65535
      let selfR := !boot || selfRefresh d (l.cn (Hub.deadTimeNs h)) (l.cn (Hub.refreshNs h))
      let force := !selfR && decide (l.cn (Hub.refreshLaps h) ≤ x.since + 1)
      let since := if selfR || force then 0 else x.since + 1
      let a : Nat := if due.isSome then ang else (l.pn (Ph.angle p))
      let l2 := (if force then l1.inc (Ph.refreshesForced p) else l1).setp (Ph.angle p) a
      let l3 := l2.setPhase p { l2.phase p with dutyMiss := miss }
      (shift l3 true d force since, ⟨d, a, 8 + (if force then 4 else 0) + 1⟩)

/-- The commands of the 16 local phases of hub `h`, in order. -/
def Lane.hubCmds (lam h : Nat) (l : Lane) : Lane × List PhaseCmd :=
  (List.range 16).foldl (fun (a : Lane × List PhaseCmd) i =>
    let r := a.1.phaseCmd lam (16 * h + i)
    (r.1, a.2 ++ [r.2])) (l, [])

/-- The downlink header of hub `h` (R122), bytes 0..10. -/
def Lane.downlinkHeader (l : Lane) (me : LaneId) (h : Nat) : List Nat :=
  leBytes 6 l.lap ++ leBytes 2 (l.hub h).delayUi
    ++ [(if l.lapIn = 0 then 1 else 0) + 2 * me.num + 4 * (l.pn (Hub.linkState h) % 8), h, 0]

/-- The phases of hub `h` that are bound (R123). -/
def phasesUsed (m : UMap Int) (h : Nat) : Nat :=
  (List.range 16).foldl (fun a i => if (packOf m (16 * h + i)).isSome then a + 2 ^ i else a) 0

/-- The hub configuration record of hub `h` (R123), bytes 0..55, for a generation. -/
def hubRecord (m : UMap Int) (gen h : Nat) : List Nat :=
  leBytes 2 gen ++ leBytes 2 (cfgAt m (Hub.deadTimeNs h)).toNat ++ leBytes 2 (cfgAt m (Hub.refreshNs h)).toNat
    ++ leBytes 1 (cfgAt m (Hub.refreshLaps h)).toNat ++ leBytes 1 (cfgAt m (Hub.testMode h)).toNat
    ++ leBytes 2 (cfgAt m (Hub.bootstrapMask h)).toNat ++ leBytes 2 (phasesUsed m h) ++ List.replicate 44 0

/-- What a lane sends ahead of the command block (R121): the header of R122, and the configuration record of R123 built from the
active bank (R141). A link that is `OFF` sends nothing (R117). -/
def Lane.sendHeader (h : Nat) (l : Lane) : Lane :=
  if l.p (Hub.linkState h) = lkOff then l
  else l.setHub h { l.hub h with
    header := withCrc (l.downlinkHeader l.id h)
    record := withCrc (hubRecord l.cfg (l.pn (Hub.cfgGen h)) h) }

/-- COMMAND_BLOCK_SEND (R124, R133, R134, R141, R142): the block of lap `n` for hub `h`. The claim, the baton number
and the release flag are those of the grant lines. -/
def Lane.sendBlock (n h : Nat) (l : Lane) : Lane :=
  let r := l.hubCmds (n + 1) h
  let l1 := r.1
  let st := l1.p (Hub.linkState h)
  let gen := l1.pn (Hub.cfgGen h)
  l1.setHub h { l1.hub h with block :=
    { baton := l1.link.batonSeen, applyLap := n + 1
      claim := l1.link.grant && decide (st = lkReady)
      test := decide (l1.c (Hub.testMode h) = 1)
      cfgApply := decide (st = lkConfig) || decide (l1.pn (Hub.cfgAck h) ≠ gen % 65536)
      release := l1.link.grant && decide (l1.link.releaseLap = some n)
      duty := r.2.map PhaseCmd.duty, angle := r.2.map PhaseCmd.angle, ctl := r.2.map PhaseCmd.ctl
      selector := (List.range 16).map (fun i => selectorOf l1.cfg (16 * h + i))
      cfgGen := gen % 65536 } }

/-- Bytes 0..100 of a command block (R124); with `cmp` the baton number, claim and release count as 0 (R30). -/
def Block.bytes (b : Block) (cmp : Bool) : List Nat :=
  leBytes 4 (if cmp then 0 else b.baton)
    ++ leBytes 6 b.applyLap
    ++ [(if b.claim && !cmp then 1 else 0) + (if b.test then 2 else 0) + (if b.cfgApply then 4 else 0)
        + (if b.release && !cmp then 8 else 0)]
    ++ [0, 0, 0, 0]
    ++ ((List.range 16).flatMap (fun i => leBytes 2 (b.duty.getD i 0) ++ leBytes 2 (b.angle.getD i 0)))
    ++ ((List.range 8).map (fun k => b.ctl.getD (2 * k) 0 + 16 * b.ctl.getD (2 * k + 1) 0))
    ++ [0, 0, 0]
    ++ leBytes 6 ((List.range 16).foldl (fun a p => a + b.selector.getD p 0 * 2 ^ (3 * p)) 0)
    ++ leBytes 2 b.cfgGen
    ++ [0, 0, 0]

/-- The comparison CRC of a command block (R30). -/
def Block.compareCrc (b : Block) : Nat := crc32c (b.bytes true)

/-- The CRC a command block carries (R124). -/
def Block.crc (b : Block) : Nat := crc32c (b.bytes false)

/-! ### The lap's work on one hub's receipts (R29, R137, R138) -/

/-- The end of a lap for hub `h`: runs of missing and valid laps (R138), stale laps of a hub that has delivered before (R29), held
temperatures, and the phases' samples moved to the previous lap. -/
def Lane.closeHub (h : Nat) (l : Lane) : Lane :=
  let x := l.hub h
  let ok := x.complete
  let had := x.had || ok
  let l1 := if ok || !had then l else l.inc (Hub.staleLaps h)
  let l2 := l1.setHub h { x with
    headerOk := false, statusOk := false, fastOk := false, fastGood := ok
    had := had
    missRun := if ok then 0 else x.missRun + 1
    measured := x.measured || ok
    goodRun := if ok then x.goodRun + 1 else 0
    thermMiss := x.thermMiss + 1
    lockoutClear := if l.p (Hub.lockout h) = 1 then 0 else x.lockoutClear + 1 }
  l2.forN 16 (fun i l =>
    let p := 16 * h + i
    let y := l.phase p
    let l3 := l.setPhase p { y with iPrev := y.iNow, vPrev := y.vNow, dcPrev := y.dcNow
                                    tagPrev := y.genTag, rangePrev := y.rangeRun
                                    okPrev := ok && l.sampleOk p, okNow := false }
    if 0 < x.thermMiss ∧ l3.st (Ph.tJunction p) = 0 then l3.setst (Ph.tJunction p) 1 else l3)

/-- A phase's last valid measurement in place of one that counts as missing (R29, R137). -/
def Lane.holdSample (p : Nat) (l : Lane) : Lane :=
  let x := l.phase p
  let l1 := l.setPhase p { x with
    iNow := x.iPrev, vNow := x.vPrev, dcNow := x.dcPrev, genTag := x.tagPrev, rangeRun := x.rangePrev, okNow := false }
  ((l1.setp (Ph.iMeas p) x.iPrev).setp (Ph.vOut p) x.vPrev).setp (Ph.vDc p) x.dcPrev

/-- A hub whose measurements are not complete contributes its last valid ones (R29); in the second such lap running it is marked
blind before its phases are used (R138). -/
def Lane.maskHub (h : Nat) (l : Lane) : Lane :=
  if (l.hub h).complete then l
  else
    let l1 := l.hubBlind h
    if (l1.hub h).fastOk then l1.forN 16 (fun i l => l.holdSample (16 * h + i)) else l1

/-- The statuses of a hub's measurements for the epoch that ends (R41): `held` where it delivered nothing valid in it. -/
def Lane.measuredEpoch (h : Nat) (l : Lane) : Lane :=
  let x := l.hub h
  let st := if x.measured then 0 else 1
  (l.forN 16 (fun i l =>
    let p := 16 * h + i
    ((l.setst (Ph.iMeas p) st).setst (Ph.vOut p) st).setst (Ph.vDc p) st)).setHub h { x with measured := false }

/-- The outlets that a pack is bound to. -/
def boundOutlets (m : UMap Int) : List Nat :=
  (((cfgUnits m (Pk.outlet 0) 64 1024).filter (fun e => decide (0 ≤ e.2 ∧ e.2 < 32))).map (fun e => e.2.toNat)).eraseDups

/-- The first part of the lap that ends (R25, R179): measurements, ramps, the pack block and `OUTLET_V`. -/
def Lane.lapPacks (l : Lane) : Lane :=
  let l0 := ((l.forL (servedHubs l.cfg) Lane.maskHub).staleSamples).joinPrepared
  let l1 := l0.forL (UMap.keys l0.outs) Lane.rampLap
  let l2 := l1.forL l1.livePacks Lane.packBlock
  l2.forL (boundOutlets l2.cfg) Lane.keepOutletV

/-- Duties of the last window of the old epoch that the blocks of lap 0 find tagged with an old generation (R62, R174): results
of slots 896..2047, which are due one lap later. -/
def Lane.lateDuties (l : Lane) : Lane :=
  if l.lapIn ≠ 0 then l
  else (UMap.keys l.slots).foldl (fun l t =>
    let x := l.slot t
    let e := if enValid (entryHi l.cfg t) then (x.ran1 && x.duty1, x.gen1, x.bind1, x.no1) else (x.ran && x.duty, x.gen, x.bind, x.no)
    if decide (896 ≤ t) && e.1 && !l.tagOk t e.2.1 e.2.2.1 then l.discard t e.2.1 e.2.2.2 else l) l

/-- The rest of the lap (R24, R124): the engine window with its injections, the test vectors and the command blocks. -/
def Lane.lapWindow (inj : Nat → Int × Int × Int) (bad : List Nat) (l : Lane) : Lane :=
  let n := l.lap
  let hubs := enabledHubs l.cfg
  let slots := validSlots l.cfg
  let l3 := (l.forL slots Lane.openSlot).forL slots (Lane.runSlot n inj)
  let l4 := (if l3.link.state = .standby then l3.testVectors n bad else l3).lateDuties
  -- a test order runs out whether or not its hub is sent blocks (R148)
  let idle := (l4.phases.filter (fun e => decide (e.2.testLaps ≠ 0) && !hubs.contains (e.1 / 16))).map Prod.fst
  let l4 := l4.forL idle (fun p l => l.setPhase p { l.phase p with testLaps := (l.phase p).testLaps - 1 })
  let l5 := l4.forL hubs (fun h l => (l.sendHeader h).sendBlock n h)
  let l6 := l5.forL (usedPacks l5.cfg) (fun k l => l.setp (Pk.rotation k) ((((n + 1) / 64) % max 1 (l.nCfg k) : Nat) : Int))
  l6.forL (servedHubs l6.cfg) Lane.closeHub

end Sys2Proof.Machine
end

