-- ==== Sys2Proof/Machine/Cooling.lean ====
section
/-!
DEFINITION. Cable cooling and the thermal forecast (R218 to R229): sensors, the flow target and pump demand, the
two-state model, the forecast, flow loss and degraded mode.
-/

namespace Sys2Proof.Machine

/-- `cool_state` codes of R229. -/
def csUncooled : Int := 0
def csNormal : Int := 1
def csDegraded : Int := 2
def csExpired : Int := 3

/-! ### Sensors (R218 to R220) -/

/-- The age limit of a sensor in ms; a descriptor's stated reset is 100 (R218). -/
def Lane.srcTimeout (l : Lane) (o n : Nat) : Nat := bitsAt (l.cn (Out.src o n)) 14 0

/-- A raw value read from a payload in one of the four formats (R218). -/
def rawValue (fmt : Nat) (b0 b1 : Nat) : Int :=
  match fmt with
  | 0 => (b0 + 256 * b1 : Nat)
  | 1 => wrapS 16 (b0 + 256 * b1 : Nat)
  | 2 => (b1 + 256 * b0 : Nat)
  | _ => wrapS 16 (b1 + 256 * b0 : Nat)

/-- Whether a converted value is plausible (R220). -/
def Lane.sensorPlausible (l : Lane) (o n : Nat) (v : Int) : Bool :=
  if n = 0 then decide (0 ≤ v ∧ v ≤ 2 * l.c (Out.flowFs o)) else decide (-40000 ≤ v ∧ v ≤ 200000)

/-- Whether any pin sensor is enabled. -/
def Lane.pinsEnabled (l : Lane) (o : Nat) : Bool := [3, 4, 5, 6].any (l.srcEn o)

/-- Flow as every consumer takes it: none when invalid or not used. -/
def Lane.flowNow (l : Lane) (o : Nat) : Option Int := if l.sensorUsable o 0 then some (l.sensor o 0).value else none

/-- The sensor points of an outlet and its flow target brought up to date (R221, R229). -/
def Lane.sensorPoints (o : Nat) (l : Lane) : Lane :=
  let put := fun (n a : Nat) (l : Lane) =>
    let st := l.sensorStatus o n
    l.setps a (if st = 4 then 0 else (l.sensor o n).value) st
  let l0 := ((put 0 (Out.flow o) l |> put 1 (Out.tInlet o)) |> put 2 (Out.tReturn o))
  let l1 := l0.setp (Out.flowTarget o) (l0.flowTarget o)
  match l1.pinMax o with
  | some v => l1.setps (Out.tPinMax o) v (if [3, 4, 5, 6].any (fun n => l1.sensorStatus o n == 0) then 0 else 1)
  | none => if l1.pinsEnabled o then l1.setst (Out.tPinMax o) 2 else l1.setps (Out.tPinMax o) 0 4

/-- The flow timers brought up to date (R222, R227, R228): runs of good and low flow, and `cool_ready` taken away as
soon as the flow is below the limit or not usable. -/
def Lane.flowTimers (o : Nat) (l : Lane) : Lane :=
  let x := l.cool o
  let lim := l.c (Out.flowLimit o)
  let good := match l.flowNow o with | some v => decide (lim ≤ v) | none => false
  let rec_ := match l.flowNow o with | some v => decide (lim + 2000 ≤ v) | none => false
  let start := fun (b : Bool) (s : Option Nat) => if b then (match s with | some t => some t | none => some l.lap) else none
  let l1 := l.setCool o { x with
    goodSince := start good x.goodSince, lowSince := start (!good) x.lowSince, recoverSince := start rec_ x.recoverSince }
  if good then l1 else l1.setp (Out.coolReady o) 0

/-- A new value of one sensor taken from a frame's payload (R218 to R220). -/
def Lane.sensorFrame (o n : Nat) (payload : List Nat) (l : Lane) : Lane :=
  let d := l.cn (Out.src o n)
  let off := bitsAt d 22 17
  if !bitAt d 31 || decide (payload.length < off + 2) then l
  else
    let raw := rawValue (bitsAt d 16 15) (payload.getD off 0) (payload.getD (off + 1) 0)
    let v := (raw * l.c (Out.scale o n)).tdiv 1000 + l.c (Out.offset o n)
    let s := l.sensor o n
    let ok := l.sensorPlausible o n v
    let l1 := l.setSensor o n
      (if ok then { value := v, lap := some l.lap, epoch := some l.epoch, bad := false } else { s with bad := true })
    let l2 := if !ok && !s.bad then l1.inc (Out.sensorFaults o) else l1
    (l2.sensorPoints o).flowTimers o

/-- Every sensor that reads receive object `obj` of bus `b` takes its value from a frame (R218). -/
def Lane.sensorsFrom (b obj : Nat) (payload : List Nat) (l : Lane) : Lane :=
  l.forN 32 (fun o l => l.forN 7 (fun n l =>
    let d := l.cn (Out.src o n)
    if bitAt d 31 && decide (bitsAt d 30 29 = b) && decide (bitsAt d 28 23 = obj) then l.sensorFrame o n payload else l))

/-- SENSOR_TIMEOUT (R220): the last frame of a sensor is older than `TIMEOUT_MS`. -/
def Lane.sensorTimeout (o n : Nat) (l : Lane) : Lane :=
  let s := l.sensor o n
  let old := match s.lap with | some t => decide (l.srcTimeout o n * 200 < l.lap - t) | none => false
  if l.srcEn o n && old && !s.bad then
    (((l.setSensor o n { s with bad := true }).inc (Out.sensorFaults o)).sensorPoints o).flowTimers o
  else l

/-! ### Flow target and pump (R221, R222) -/

/-- The values that the model step of the epoch uses, as of lap 4 (R220). -/
def Lane.coolSample (o : Nat) (l : Lane) : Lane :=
  l.setCool o { l.cool o with flow4 := l.flowNow o, pin4 := l.pinMax o, cool4 := some (l.coolant o) }

/-- The slot that drives an outlet's pump (R221). -/
def pumpSlot (m : UMap Int) (o : Nat) : Option Nat :=
  (validSlots m).find? (fun t => enDest (entryLo m t) == 2 && enUnit (entryLo m t) == o)

/-- What the controller sends to the pump of outlet `o` (R221), or none with `pump_mode` 0. -/
def Lane.pumpDemand (l : Lane) (o : Nat) : Option Nat :=
  let mode := l.c (Out.pumpMode o)
  if mode = 1 then
    let y := match pumpSlot l.cfg o with
      | some t => l.slotLatest t
      | none => l.c (Out.pumpDefault o)
    some (y / 2 ^ 15).toNat
  else if mode = 2 then some ((l.flowTarget o) / 10).toNat
  else none

/-- COOLDOWN_EXPIRY (R221): `cooldown_s` after the contactors open the flow target is formed again. -/
def Lane.cooldownExpiry (o : Nat) (l : Lane) : Lane :=
  match (l.cool o).openedLap with
  | some t =>
    if l.cn (Out.cooldownS o) * 200000 ≤ l.lap - t then
      let l1 := l.setCool o { l.cool o with openedLap := none }
      l1.setp (Out.flowTarget o) (l1.flowTarget o)
    else l
  | none => l

/-- Function 5 of an outlet, degraded cooling, as `cool_state` has it (R333, R349): a trip of its current supervision stays until it is
reset (R328). -/
def Lane.coolFn (o : Nat) (v : Int) (l : Lane) : Lane :=
  if l.fnHeld (21 + 8 * o) then l else l.setp (Saf.fnState o 5) v

/-- COOL_READY (R222, R228): the flow has been at least `flow_limit` for 1 s; an `EXPIRED` outlet whose `cool_ready` becomes 1 again is
`NORMAL`. -/
def Lane.coolReady (o : Nat) (l : Lane) : Lane :=
  match (l.cool o).goodSince with
  | some t =>
    if 200000 ≤ l.lap - t ∧ l.flowNow o ≠ none then
      let l1 := l.setp (Out.coolReady o) 1
      if l1.p (Out.coolState o) = csExpired ∧ l.p (Out.coolReady o) = 0 then
        ((l1.setp (Out.coolState o) csNormal).setp (Out.degradedElapsedMs o) 0).coolFn o fnHealthy
      else l1
    else l
  | none => l

/-! ### The model step (R223, R227) -/

/-- The flow factor f in units of 1/65,536 (R223). -/
def flowFactor (flow : Option Int) (nom : Int) : Int :=
  match flow with
  | none => 4 * 65536
  | some v => if v = 0 then 4 * 65536 else min (4 * 65536) (max 65536 ((nom * 65536).tdiv v))

/-- The two states after one step and the modelled pin temperature (R223). -/
def modelStep (th1 th2 isq f k1 k2 tau1 tau2 tCool obsTau : Int) (pin : Option Int) : Int × Int × Int :=
  let r1 := (k1 * isq).tdiv 1000000
  let r2 := ((k2 * isq).tdiv 1000000 * f).tdiv 65536
  let a1 := th1 + (r1 * 2 ^ 20 - th1).tdiv tau1
  let a2 := th2 + (r2 * 2 ^ 20 - th2).tdiv tau2
  let model := tCool + (a1 + a2) / 2 ^ 20
  match pin with
  | none => (a1, a2, model)
  | some t =>
    let b1 := a1 + ((t - model) * 2 ^ 20).tdiv obsTau
    (max b1 ((t - tCool) * 2 ^ 20 - a2), a2, model)

/-- The square of the summed mean currents of an outlet's packs in the epoch that ended, as they were bound in it (R223). -/
def Lane.packSquare (l : Lane) (o : Nat) : Int :=
  let i := (outletPacks l.cfg o).foldl
    (fun a k => a + (UMap.get (fun _ => 0) l.means (Pk.packI k) * l.packIFs k).tdiv (2 ^ 31)) 0
  i * i

/-- The mean square outlet current of the last epoch (R223): the DC point's, or the square of the packs' summed mean
currents. -/
def Lane.meanSquare (l : Lane) (o : Nat) : Int :=
  if l.alloc.ctl.dcOk o then UMap.get (fun _ => 0) l.alloc.ctl.dcSq o else UMap.get (fun _ => 0) l.alloc.packSq o

/-- Flow lost for `flow_debounce_ms` while the contactors are closed (R227). -/
def Lane.flowLost (l : Lane) (o : Nat) : Bool :=
  l.contactorsClosed o &&
  (match (l.cool o).lowSince with
   | some t => decide (l.cn (Out.flowDebounceMs o) * 200 ≤ l.lap - t)
   | none => false)

/-- FLOW_LOSS (R227, R333): `DEGRADED` with the timer resumed, events 114 and 89; the safety core's supervision counts from now. -/
def Lane.flowLoss (o : Nat) (l : Lane) : Lane :=
  let l1 := l.setp (Out.coolState o) csDegraded
  let l2 := { l1.setCool o { l1.cool o with fcDeg := none, recoverSince := none } with
    safe := { l1.safe with degLap := UMap.put (fun _ => 0) l1.safe.degLap o (l1.lap + 1) } }
  let l3 := (l2.fire 114 o [(l2.flowNow o).getD 0]).coolFn o fnDegraded
  l3.fire 89 (21 + 8 * o) [l3.p (Out.degradedElapsedMs o)]

/-- An outlet that needs its first forecast (R225): until that has completed its four `fc` values read 0, or `i_uncooled_a` without
cooling (R226). -/
def Lane.clearForecast (o : Nat) (l : Lane) : Lane :=
  let v := if l.c (Out.coolMode o) = 1 then 0 else l.c (Out.iUncooledA o)
  (l.setCool o { l.cool o with forecastDone := false, fcDeg := none, fcEpoch := none }).forN 4 (fun i l => l.setp (Out.fc o i) v)

/-- `cool_state` as `cool_mode` sets it: `UNCOOLED` without cooling, else `NORMAL` to begin with; function 5 is `OFF` without
cooling (R222, R226, R349). -/
def Lane.coolModeState (o : Nat) (l : Lane) : Lane :=
  let cs := l.p (Out.coolState o)
  if l.c (Out.coolMode o) = 1 then
    (if cs = csUncooled then (l.setp (Out.coolState o) csNormal).coolFn o fnHealthy
     else if cs = csNormal ∧ l.p (Saf.fnState o 5) = fnOff then l.coolFn o fnHealthy else l)
  else if cs = csUncooled then l
  else
    ((l.setp (Out.coolState o) csUncooled).setp (Out.degradedElapsedMs o) 0).coolFn o fnOff

/-- The model step of one outlet in laps 4..8 (R223, R227, R228), with the sensors as of lap 4 (R220); the flow target is formed with
`cool_mode` 0 as well (R221). -/
def Lane.modelOutlet (o : Nat) (l0 : Lane) : Lane :=
  let lc := l0.coolModeState o
  let l := lc.setp (Out.flowTarget o) (lc.flowTarget o)
  if l.c (Out.coolMode o) ≠ 1 then l
  else
    let x := l.cool o
    let f := flowFactor x.flow4 (l.c (Out.flowNom o))
    let tc := x.cool4.getD (l.coolant o)
    let r := modelStep x.th1 x.th2 (l.meanSquare o) f (l.c (Out.k1Mc o)) (l.c (Out.k2Mc o)) (l.c (Out.tau1Ms o))
      (l.c (Out.tau2Ms o)) tc (l.c (Out.obsTauMs o)) x.pin4
    let l1 := l.setCool o { x with th1 := r.1, th2 := r.2.1, f := f, tCool := tc }
    let l2 := ((l1.setp (Out.theta1 o) (r.1 / 2 ^ 20)).setp (Out.theta2 o) (r.2.1 / 2 ^ 20)).setp (Out.tPinModel o) r.2.2
    if l2.p (Out.coolState o) = csDegraded then l2.addp (Out.degradedElapsedMs o) 1
    else if l2.p (Out.coolState o) = csNormal ∧ l2.flowLost o = true then l2.flowLoss o
    else l2

/-- MODEL_STEP (R223): every outlet fitted, in laps 4..8 of the epoch. -/
def Lane.modelStepAll (outlets : Nat) (l : Lane) : Lane :=
  if 4 ≤ l.lapIn ∧ l.lapIn ≤ 8 then l.forN outlets Lane.modelOutlet else l

/-! ### The forecast (R225, R226) -/

/-- The state of the two forecast passes. -/
structure Fc where
  a1 : Int
  a2 : Int
  u1 : Int
  u2 : Int
  best : Option Int
  out : List Int
deriving DecidableEq, Repr

/-- isqrt of a bound, at most 3,000; no bound yet gives 3,000 (R225). -/
def fcValue (best : Option Int) : Int :=
  match best with
  | none => 3000
  | some b => min 3000 (isqrt b.toNat : Int)

/-- One forecast step of 500 ms (R225). -/
def fcStep (lim tCool f k1 k2 tau1 tau2 : Int) (s : Fc) : Fc :=
  let a1 := s.a1 - (s.a1 * 500).tdiv tau1
  let a2 := s.a2 - (s.a2 * 500).tdiv tau2
  let u1 := s.u1 + ((k1 * 2 ^ 20 - s.u1) * 500).tdiv tau1
  let u2 := s.u2 + (((k2 * 2 ^ 20).tdiv 65536 * f - s.u2) * 500).tdiv tau2
  let free := tCool + (a1 + a2) / 2 ^ 20
  let unit := (u1 + u2) / 2 ^ 20
  let best := if 0 < unit then
      let b := (max 0 (lim - free) * 1000000).tdiv unit
      match s.best with | none => some b | some c => some (min c b)
    else s.best
  { a1 := a1, a2 := a2, u1 := u1, u2 := u2, best := best, out := s.out ++ [fcValue best] }

/-- `n` forecast steps. -/
def fcRun (lim tCool f k1 k2 tau1 tau2 : Int) : Nat → Fc → Fc
  | 0, s => s
  | n + 1, s => fcRun lim tCool f k1 k2 tau1 tau2 n (fcStep lim tCool f k1 k2 tau1 tau2 s)

/-- The pin temperature the forecast keeps below (R225). -/
def Lane.pinLimit (l : Lane) (o : Nat) : Int := min (l.c (Out.pinLimitMc o)) (l.c (Saf.pinHardMc o) - 5000)

/-- Whether the outlet's forecast is due in this epoch (R225). -/
def Lane.forecastDue (l : Lane) (o : Nat) : Bool :=
  decide (l.c (Out.coolMode o) = 1) &&
  (decide (o % 8 = l.epoch % 8) || decide (l.p (Out.coolState o) = csDegraded) || !(l.cool o).forecastDone)

/-- The forecast of one outlet (R225): the 120 values, or all 0 where the model stands above the limit. -/
def Lane.forecastValues (l : Lane) (o : Nat) : List Int :=
  let x := l.cool o
  if l.pinLimit o < l.p (Out.tPinModel o) then List.replicate 120 0
  else (fcRun (l.pinLimit o) x.tCool x.f (l.c (Out.k1Mc o)) (l.c (Out.k2Mc o)) (l.c (Out.tau1Ms o)) (l.c (Out.tau2Ms o))
    120 { a1 := x.th1, a2 := x.th2, u1 := 0, u2 := 0, best := none, out := [] }).out

/-- Whether the outlet's computation of this epoch is finished or dropped. -/
def Lane.handledForecast (l : Lane) (o : Nat) : Bool := decide ((l.cool o).fcEpoch = some l.epoch)

/-- FORECAST of one due outlet (R225), once in an epoch: one that was dropped stays dropped. -/
def Lane.forecastOutlet (o : Nat) (l : Lane) : Lane :=
  if l.c (Out.coolMode o) ≠ 1 then
    l.forN 4 (fun i l => l.setp (Out.fc o i) (l.c (Out.iUncooledA o)))
  else if !l.forecastDue o || l.handledForecast o then l
  else
    let vs := l.forecastValues o
    let l1 := [(0, 9), (1, 29), (2, 59), (3, 119)].foldl (fun l e => l.setp (Out.fc o e.1) (vs.getD e.2 0)) l
    let r := 60000 - l.p (Out.degradedElapsedMs o)
    let k := min 120 ((r + 499) / 500)
    let deg := if l.p (Out.coolState o) = csDegraded then some (vs.getD (k.toNat - 1) 0) else none
    l1.setCool o { l1.cool o with forecastDone := true, fcDeg := deg, fcEpoch := some l.epoch }

/-- FORECAST (R225), in laps 8..140. -/
def Lane.forecastAll (outlets : Nat) (l : Lane) : Lane :=
  if 8 ≤ l.lapIn ∧ l.lapIn ≤ 140 then l.forN outlets Lane.forecastOutlet else l

/-- FORECAST_OVERRUN (R225): the outlet's computation, due and not finished by lap 140, is dropped and counted; the previous forecast
stands. -/
def Lane.forecastOverrun (o : Nat) (l : Lane) : Lane :=
  if 140 ≤ l.lapIn ∧ l.forecastDue o = true ∧ l.handledForecast o = false then
    (l.setCool o { l.cool o with fcEpoch := some l.epoch }).inc (Out.fcOverruns o)
  else l

/-- I_th as the round reads it (R226). -/
def Lane.iThermal (l : Lane) (o : Nat) : Int :=
  let x := l.cool o
  let cs := l.p (Out.coolState o)
  let pinsBad := l.pinsEnabled o && (l.pinMax o).isNone
  if l.c (Out.coolMode o) ≠ 1 then l.c (Out.iUncooledA o)
  else if cs = csExpired then 0
  else if cs = csDegraded then
    min 1500 (match x.fcDeg with | some v => v | none => l.p (Out.fc o 3))
  else if !x.forecastDone then 0
  else if pinsBad then min 1500 (l.p (Out.fc o 3)) else l.p (Out.fc o 3)

/-- The thermal current of every outlet, gathered for the round (R212, R226). -/
def Lane.thermalInputs (outlets : Nat) (l : Lane) : Lane :=
  { l with alloc := { l.alloc with iTherm := (List.range outlets).foldl (fun m o => UMap.put (fun _ => 0) m o (l.iThermal o)) [] } }

/-- MODEL_STEP in one lane: the models, and in laps 4 to 8 what the round takes of them (R34, R223). -/
def Lane.stepThermal (outlets : Nat) (l : Lane) : Lane :=
  if 4 ≤ l.lapIn ∧ l.lapIn ≤ 8 then (l.modelStepAll outlets).thermalInputs outlets else l

/-- The four values sent to the vehicle (R226). -/
def Lane.vehicleForecast (l : Lane) (o : Nat) : List Int :=
  let cs := l.p (Out.coolState o)
  let left := 60000 - l.p (Out.degradedElapsedMs o)
  if l.c (Out.coolMode o) ≠ 1 then List.replicate 4 (l.c (Out.iUncooledA o))
  else if cs = csExpired then [0, 0, 0, 0]
  else [(0, 5000), (1, 15000), (2, 30000), (3, 60000)].map (fun e =>
    if cs = csDegraded ∧ left < e.2 then 0 else l.p (Out.fc o e.1))

/-! ### Degraded mode (R228) -/

/-- DEGRADED_RECOVER (R228): flow at least `flow_limit` + 2,000 mL/min for 5 s. -/
def Lane.degradedRecover (o : Nat) (l : Lane) : Lane :=
  match (l.cool o).recoverSince with
  | some t =>
    if l.p (Out.coolState o) = csDegraded ∧ 1000000 ≤ l.lap - t then
      (l.setp (Out.coolState o) csNormal).coolFn o fnHealthy
    else l
  | none => l

/-- DEGRADED_ELAPSED_RESET (R228): after 300 s of good flow the elapsed time returns to 0. -/
def Lane.degradedElapsedReset (o : Nat) (l : Lane) : Lane :=
  match (l.cool o).goodSince with
  | some t =>
    if l.p (Out.coolState o) = csNormal ∧ 60000000 ≤ l.lap - t then l.setp (Out.degradedElapsedMs o) 0 else l
  | none => l

/-! ### States over a stop (R224) -/

/-- Σ of the series of e^(−x) from term `k` on, in units of 2^−60. -/
def expGo (x : Int) : Nat → Int → Int → Int → Int
  | 0, _, _, acc => acc
  | f + 1, k, t, acc => expGo x f (k + 1) (-(t * x) / 2 ^ 60 / k) (acc + t)

/-- `b` to the power `n`, both in units of 2^−60. -/
def powFix (b : Int) : Nat → Int
  | 0 => 2 ^ 60
  | n + 1 => powFix b n * b / 2 ^ 60

/-- e^(−num/den) to the nearest 2^−31 (log entry 21). -/
def expNeg (num den : Nat) : Int :=
  if den = 0 ∨ 64 * den < num then 0
  else
    let one := expGo (2 ^ 60) 24 1 (2 ^ 60) 0
    let frac := expGo ((num % den * 2 ^ 60 / den : Nat) : Int) 24 1 (2 ^ 60) 0
    (powFix one (num / den) * frac / 2 ^ 60 + 2 ^ 28) / 2 ^ 29

/-- A model state multiplied by a factor in units of 2^−31. -/
def decayed (th decay : Int) : Int := (th * decay).tdiv (2 ^ 31)

/-- The model states written to NV at the entry into `ASLEEP` (R224). -/
def Lane.coolSave (nowMs outlets : Nat) (l : Lane) : Lane :=
  l.forN outlets (fun o l => if l.c (Out.coolMode o) = 1 then l.setCool o { l.cool o with saved := some (nowMs, (l.cool o).th1, (l.cool o).th2) } else l)

/-- The model states at a wake or cold start (R224): decayed over the time since they were written where the legal clock is
valid, else 0. -/
def Lane.coolRestore (nowMs : Nat) (valid : Bool) (outlets : Nat) (l : Lane) : Lane :=
  l.forN outlets (fun o l =>
    let x := l.cool o
    (match x.saved, valid with
    | some (t, th1, th2), true => l.setCool o { x with
        th1 := decayed th1 (expNeg (nowMs - t) (l.cn (Out.tau1Ms o)))
        th2 := decayed th2 (expNeg (nowMs - t) (l.cn (Out.tau2Ms o))) }
    | _, _ => l.setCool o { x with th1 := 0, th2 := 0 }).clearForecast o)

end Sys2Proof.Machine
end

