-- ==== Sys2Proof/Machine/Alloc.lean ====
section
/-!
DEFINITION. Pools and power allocation (R197 to R217): caps, wants, the background estimate, the fill over the pool tree,
the pack currents, and the exchange with a relay team.
-/

namespace Sys2Proof.Machine

/-- No limit (R199), and an unbounded cap (R203). -/
def noLimit : Int := 0xFFFFFFFF
def unbounded : Int := 0xFFFFFFFFFFFFFFFF

/-- The record of pool node `x`. -/
def Lane.pool (l : Lane) (x : Nat) : PoolSt := UMap.get (fun _ => {}) l.pools x

/-- The record of pool node `x` replaced. -/
def Lane.setPool (l : Lane) (x : Nat) (v : PoolSt) : Lane := { l with pools := UMap.put (fun _ => {}) l.pools x v }

/-- The used nodes, in rising order (R197). -/
def usedNodes (m : UMap Int) : List Nat := (cfgUnits m (Pool.kind 0) 256 256).map Prod.fst

/-- A node's `kind`: 1 group, 2 leaf, 3 member. -/
def nodeKind (m : UMap Int) (x : Nat) : Int := cfgAt m (Pool.kind x)

/-- A node's parent, or none for a top (R199). -/
def nodeParent (m : UMap Int) (x : Nat) : Option Nat :=
  let p := cfgAt m (Pool.parent x)
  if p < 256 then some p.toNat else none

/-- The children of `x`, in rising order. -/
def nodeChildren (m : UMap Int) (x : Nat) : List Nat := (usedNodes m).filter (fun c => nodeParent m c == some x)

/-- The top nodes (R201: exactly one in a valid tree). -/
def topNodes (m : UMap Int) : List Nat := (usedNodes m).filter (fun x => (nodeParent m x).isNone)

/-- Levels from the top (R200), on at most `fuel` steps. -/
def depthGo (m : UMap Int) : Nat → Nat → Nat
  | 0, _ => 0
  | f + 1, x => match nodeParent m x with
    | none => 0
    | some p => 1 + depthGo m f p

/-- Levels from the top node. -/
def nodeDepth (m : UMap Int) (x : Nat) : Nat := depthGo m 256 x

/-- The used nodes with children before parents, ties by rising number (R206). -/
def bottomUp (m : UMap Int) : List Nat :=
  let d := (usedNodes m).map (fun x => (x, nodeDepth m x))
  let deepest := d.foldl (fun a e => max a e.2) 0
  (List.range (deepest + 1)).reverse.flatMap (fun k => (d.filter (fun e => e.2 == k)).map Prod.fst)

/-- What a round holds for one node. -/
structure NodeOut where
  cap : Int := 0
  want : Int := 0
  demand : Int := 0
  alloc : Int := 0
  term : Int := 0
  vmin : Option Int := none
  pdc : Int := 0
  meterW : Int := 0
  bg : Int := 0
  meterState : Int := 0
  v : Int := 0
  fallback : Bool := false
deriving DecidableEq, Repr

/-- A node's result so far. -/
def nodeOut (m : UMap NodeOut) (x : Nat) : NodeOut := UMap.get (fun _ => {}) m x

/-- The lesser of two optional values. -/
def minOpt : Option Int → Option Int → Option Int
  | none, b => b
  | a, none => a
  | some a, some b => some (min a b)

/-- The leaf want and its term (R202): 7 vehicle, 8 thermal, 9 capacity, 10 idle. -/
def Lane.leafWant (l : Lane) (x o : Nat) : Int × Int :=
  let v := UMap.get (fun _ => 0) l.alloc.vAlloc o
  let veh := UMap.get (fun _ => {}) l.alloc.vehicles o
  if !veh.looping || decide (v < 100000) then (0, 10)
  else
    let iVeh := min veh.iMax (veh.iTarget + l.c (Pool.targetMarginA x))
    let iTh := UMap.get (fun _ => 0) l.alloc.iTherm o
    let iCap := ((outletPacks l.cfg o).filter (fun k =>
        decide (UMap.get (fun _ => 0) l.alloc.capGen k = (l.pack k).gen))).foldl
      (fun a k => a + UMap.get (fun _ => 0) l.alloc.caps k) 0
    let i := min iVeh (min iTh iCap)
    let w := (i * v).tdiv 1000
    if veh.pMax ≤ w then (veh.pMax, 7)
    else (w, if i = iVeh then 7 else if i = iTh then 8 else 9)

/-- The metered power of a node and whether the meter is missing (R204, R205); none for a node without a meter. -/
def Lane.metered (l : Lane) (x : Nat) : Option (Int × Bool) :=
  let n := l.cn (Pool.meterIndex x)
  let c := l.alloc.ctl
  let k := l.c (Pool.meterKind x)
  if k = 1 then
    some (if l.c (Pool.meterQty x) = 0 then UMap.get (fun _ => 0) c.acP n else UMap.get (fun _ => 0) c.acS n,
      !c.acOk n)
  else if k = 2 then
    let win := l.cn (Pool.s0WindowMs x)
    let now := UMap.get (fun _ => 0) c.s0 n
    let past := (l.pool x).s0Past
    let pulses := now - ((past.find? (fun e => decide (e.1 + win ≤ c.epoch))).getD (past.getLast?.getD (c.epoch, now))).2
    some ((pulses * l.c (S0.s0MwhPerPulse n) * 3600).tdiv (win : Int), !c.s0Ok n)
  else if k = 3 then
    let age := match (l.pool x).hostSeen with
      | some lap => decide (l.cn (Pool.hostTimeoutMs x) * 200 < (l.epoch * 200) - lap)
      | none => true
    some ((l.pool x).hostKw * 1000, age)
  else none

/-- The background estimate stepped (R204). -/
def stepBackground (bg pm pdc eta decay : Int) : Int :=
  let est := pm - (pdc * 1000).tdiv eta
  if bg ≤ est then est else bg - (bg - est).tdiv decay

/-- The cap terms that apply to a node, as code and value (R203, R205, R215). -/
def Lane.capTerms (l : Lane) (x : Nat) (vmin : Option Int) (bg : Int) (mt : Option (Int × Bool)) : List (Int × Int) :=
  let pl := l.c (Pool.pLimitKw x)
  let il := l.c (Pool.iLimitA x)
  let ramp := l.c (Pool.rampKwS x)
  let prev := if (l.pool x).changed then 0 else l.p (Pool.allocW x)
  let limit : List (Int × Int) := match mt with
    | none => if pl ≠ noLimit then [(1, pl * 1000)] else []
    | some (_, missing) =>
      if pl = noLimit then []
      else if missing then [(5, l.c (Pool.fallbackKw x) * 1000)]
      else [(4, max 0 (((pl * 1000 - bg) * l.c (Pool.etaPm x)).tdiv 1000))]
  let current : List (Int × Int) := match vmin with
    | some v =>
      if il = noLimit then []
      else [(2, ((if nodeKind l.cfg x = 2 then min il 3000 else il) * v).tdiv 1000)]
    | none => []
  let ramped : List (Int × Int) := if 0 < ramp then [(3, prev + ramp)] else []
  let team : List (Int × Int) :=
    if l.c (Pool.parent x) = 0xFFFFFFFE then
      match (l.pool x).teamCap with
      | some w => [(6, w)]
      | none => [(5, l.c (Pool.fallbackKw x) * 1000)]
    else []
  limit ++ current ++ ramped ++ team

/-- The want of a member node (R214, R216): a missing report is bridged with the allocation of the previous round, which is 0 for a node
that changed at the last boundary (R203). -/
def Lane.memberWant (l : Lane) (x : Nat) : Int :=
  let s := l.pool x
  if s.fresh then s.memberWant
  else if s.missing ≤ l.cn (Pool.teamHoldRounds x) then (if s.changed then 0 else l.p (Pool.allocW x))
  else l.c (Pool.fallbackKw x) * 1000

/-- The drawn power that a member node counts (R214, R216). -/
def Lane.memberDrawn (l : Lane) (x : Nat) : Int := if (l.pool x).fresh then (l.pool x).memberDrawn else l.memberWant x

/-- One node of the bottom-up pass (R206). DESIGN CHOICE (log entry 115): the team fallback that `fallback_rounds` counts is that of R215
alone, not the `fallback_kw` that an anchor takes for a member node (R216). -/
def Lane.nodePass (l : Lane) (res : UMap NodeOut) (x : Nat) : UMap NodeOut :=
  let kids := (nodeChildren l.cfg x).map (nodeOut res)
  let kind := nodeKind l.cfg x
  let o := l.cn (Pool.outlet x)
  let lw := if kind = 2 then l.leafWant x o
    else if kind = 3 then (l.memberWant x, 0)
    else (kids.foldl (fun a c => a + c.demand) 0, 0)
  let v := if kind = 2 then UMap.get (fun _ => 0) l.alloc.vAlloc o else 0
  let vmin := if kind = 2 then (if lw.1 = 0 then none else some v)
    else kids.foldl (fun a c => minOpt a c.vmin) none
  let pdc := if kind = 2 then UMap.get (fun _ => 0) l.alloc.ctl.dcP o
    else if kind = 3 then l.memberDrawn x
    else kids.foldl (fun a c => a + c.pdc) 0
  let mt := l.metered x
  let bg0 := l.p (Pool.bgW x)
  let bg := match mt with
    | some (pm, false) => stepBackground bg0 pm pdc (l.c (Pool.etaPm x)) (l.c (Pool.bgDecayMs x))
    | _ => bg0
  let terms := l.capTerms x vmin bg mt
  let cap := terms.foldl (fun a t => min a t.2) unbounded
  let demand := min cap lw.1
  let capTerm := (terms.filter (fun t => t.2 == cap)).foldl (fun a t => if a = 0 then t.1 else min a t.1) 0
  let term := if cap < lw.1 then capTerm
    else if kind = 2 then (if cap = lw.1 ∧ capTerm ≠ 0 then capTerm else lw.2) else 0
  let teamFb := decide (l.c (Pool.parent x) = 0xFFFFFFFE) && (l.pool x).teamCap.isNone
  UMap.put (fun _ => {}) res x
    { cap := cap, want := lw.1, demand := demand, term := term, vmin := vmin, pdc := pdc
      meterW := match mt with | some (w, _) => w | none => 0
      bg := bg
      meterState := match mt with | none => 0 | some (_, false) => 1 | some (_, true) => 2
      v := v
      fallback := (match mt with | some (_, true) => true | _ => false) || teamFb }

/-- One sharing pass after another within a priority level (R207), on at most `fuel` passes. `s` holds each child with
its weight, demand and amount given. -/
def shareGo : Nat → List (Nat × Int × Int × Int) → List (Nat × Int × Int × Int) → Int →
    List (Nat × Int × Int × Int) × Int
  | 0, s, done, b => (done ++ s, b)
  | f + 1, s, done, b =>
    if s.isEmpty || decide (b ≤ 0) then (done ++ s, b)
    else
      let w := s.foldl (fun a c => a + c.2.1) 0
      let quota := fun (c : Nat × Int × Int × Int) => (b * c.2.1).tdiv w
      let isFull := fun (c : Nat × Int × Int × Int) => decide (c.2.2.1 - c.2.2.2 ≤ quota c)
      let full := s.filter isFull
      if full.isEmpty then
        let given := s.map (fun c => (c.1, c.2.1, c.2.2.1, c.2.2.2 + quota c))
        let rest := b - s.foldl (fun a c => a + quota c) 0
        let step := fun (acc : List (Nat × Int × Int × Int) × Int) (c : Nat × Int × Int × Int) =>
          if 0 < acc.2 then (acc.1 ++ [(c.1, c.2.1, c.2.2.1, c.2.2.2 + 1)], acc.2 - 1) else (acc.1 ++ [c], acc.2)
        let r := given.foldl step ([], rest)
        (done ++ r.1, r.2)
      else
        shareGo f (s.filter (fun c => !isFull c))
          (done ++ full.map (fun c => (c.1, c.2.1, c.2.2.1, c.2.2.1)))
          (b - full.foldl (fun a c => a + (c.2.2.1 - c.2.2.2)) 0)

/-- A budget shared within one priority level (R207): the amounts given, and what is left. -/
def share (s : List (Nat × Int × Int)) (budget : Int) : List (Nat × Int) × Int :=
  let r := shareGo (s.length + 1) (s.map (fun c => (c.1, c.2.1, c.2.2, 0))) [] budget
  (r.1.map (fun c => (c.1, c.2.2.2)), r.2)

/-- The amounts a group gives its children, level by level (R206). -/
def levelShares (m : UMap Int) (res : UMap NodeOut) (kids : List Nat) (budget : Int) : List (Nat × Int) :=
  ((List.range 16).foldl (fun (acc : List (Nat × Int) × Int) (lev : Nat) =>
    let s := (kids.filter (fun c => decide (cfgAt m (Pool.priority c) = (lev : Int)) && decide (0 < (nodeOut res c).demand))).map
      (fun c => (c, cfgAt m (Pool.weight c), (nodeOut res c).demand))
    let r := share s acc.2
    (acc.1 ++ r.1, r.2)) ([], budget)).1

/-- The fill from a node down (R206), on at most `fuel` levels. -/
def fillGo (m : UMap Int) : Nat → UMap NodeOut → Nat → Int → UMap NodeOut
  | 0, res, _, _ => res
  | f + 1, res, x, budget =>
    let res1 := UMap.put (fun _ => {}) res x { nodeOut res x with alloc := budget }
    if nodeKind m x = 1 then
      let kids := nodeChildren m x
      let given := levelShares m res1 kids budget
      kids.foldl (fun r c =>
        fillGo m f r c (((given.find? (fun g => g.1 == c)).map Prod.snd).getD 0)) res1
    else res1

/-- The whole round's node results (R206). -/
def Lane.roundNodes (l : Lane) : UMap NodeOut :=
  let res := (bottomUp l.cfg).foldl l.nodePass []
  (topNodes l.cfg).foldl (fun r x => fillGo l.cfg 257 r x (nodeOut r x).demand) res

/-- The currents of a leaf (R209): offered to the vehicle, and given to the packs. -/
def leafAmps (n : NodeOut) (iTarget : Int) : Int × Int :=
  if n.want = 0 ∨ n.v = 0 then (0, 0)
  else
    let a := (n.alloc * 1000).tdiv n.v
    (a, min a iTarget)

/-- A current divided among packs in proportion to capacity (R210). -/
def dividePacks (setA : Int) (ks : List (Nat × Int)) : List (Nat × Int) :=
  let c := ks.foldl (fun a k => a + k.2) 0
  if c ≤ 0 then ks.map (fun k => (k.1, 0))
  else
    let base := ks.map (fun k => (k.1, (setA * k.2).tdiv c))
    let rest := setA - base.foldl (fun a k => a + k.2) 0
    (base.foldl (fun (acc : List (Nat × Int) × Int) k =>
      if 0 < acc.2 then (acc.1 ++ [(k.1, k.2 + 1)], acc.2 - 1) else (acc.1 ++ [k], acc.2)) ([], rest)).1

/-- The packs of an outlet that a round drives: in `RUN` when their capacity was read at lap 0 (R34, R212), under the current
pack-to-outlet generation (R210). -/
def Lane.roundPacks (l : Lane) (o : Nat) : List (Nat × Int) :=
  ((outletPacks l.cfg o).filter (fun k =>
    l.alloc.running.contains k && decide (UMap.get (fun _ => 0) l.alloc.capGen k = (l.pack k).gen))).map
    (fun k => (k, UMap.get (fun _ => 0) l.alloc.caps k))

/-- A node's results written to its status points (R200). -/
def Lane.writeNode (x : Nat) (n : NodeOut) (l : Lane) : Lane :=
  let o := l.cn (Pool.outlet x)
  let leaf := decide (nodeKind l.cfg x = 2)
  let amps := if leaf then leafAmps n (UMap.get (fun _ => {}) l.alloc.vehicles o).iTarget else (0, 0)
  let l1 := (((l.setp (Pool.capW x) n.cap).setp (Pool.wantW x) n.want).setp (Pool.demandW x) n.demand).setp
    (Pool.allocW x) n.alloc
  let l2 := (((l1.setp (Pool.meterW x) n.meterW).setp (Pool.bgW x) n.bg).setp (Pool.meterState x) n.meterState).setp
    (Pool.binding x) n.term
  let l3 := ((l2.setp (Pool.vAllocMv x) n.v).setp (Pool.allocA x) amps.1).setp (Pool.setA x) amps.2
  let l4 := if n.alloc < n.demand then l3.inc (Pool.limitedRounds x) else l3
  let l5 := if n.fallback then l4.inc (Pool.fallbackRounds x) else l4
  (l5.setp (Pool.depth x) (nodeDepth l.cfg x)).setPool x { l5.pool x with changed := false }

/-- The pack currents and targets of one leaf's outlet put into the round's results (R210). -/
def Lane.packShares (x : Nat) (n : NodeOut) (l : Lane) : Lane :=
  if nodeKind l.cfg x ≠ 2 then l
  else
    let o := l.cn (Pool.outlet x)
    let amps := leafAmps n (UMap.get (fun _ => {}) l.alloc.vehicles o).iTarget
    l.forL (dividePacks amps.2 (l.roundPacks o)) (fun e l =>
      let fs := l.packIFs e.1
      let t := if fs = 0 then 0 else min 0x7FFFFFFF ((e.2 * 2 ^ 31).tdiv fs)
      { l with alloc := { l.alloc with
          packAmps := UMap.put (fun _ => 0) l.alloc.packAmps e.1 e.2
          packTargets := UMap.put (fun _ => 0) l.alloc.packTargets e.1 t } })

/-- ALLOCATION_ROUND (R206): the round of this epoch, finished in the present lap (laps 8..140). What a module reports to its anchor is
kept: the want of its top node, which the team term does not enter, and the power that its leaves drew (R213). -/
def Lane.allocRound (l : Lane) : Lane :=
  if l.lapIn < 8 ∨ 140 < l.lapIn ∨ l.alloc.doneEpoch = some l.epoch then l
  else
    let res := l.roundNodes
    let up := match topNodes l.cfg with
      | [] => 0
      | x :: _ => (nodeOut res x).want
    let leaves := (usedNodes l.cfg).filter (fun x => nodeKind l.cfg x == 2)
    let l0 := { l with alloc := { l.alloc with
      packAmps := [], packTargets := [], doneEpoch := some l.epoch, endLap := l.lapIn, teamWant := up
      teamDrawn := leaves.foldl (fun a x => a + (nodeOut res x).pdc) 0 } }
    let l1 := l0.forL (usedNodes l.cfg) (fun x l => (l.writeNode x (nodeOut res x)).packShares x (nodeOut res x))
    (l1.setp Al.allocEndLap l.lapIn).setp Al.allocEndLapMax (max (l.p Al.allocEndLapMax) l.lapIn)

/-- ALLOCATION_OVERRUN (R35, R208): a round not finished by lap 140 keeps the previous targets and is counted. -/
def Lane.allocOverrun (me : LaneId) (l : Lane) : Lane :=
  if 140 ≤ l.lapIn ∧ l.alloc.doneEpoch ≠ some l.epoch then
    (l.inc Al.allocOverruns).fire 106 me.num [(l.lapIn : Int)]
  else l

/-- The digest of a round (R208): `alloc_w` of every node and the current of every pack. -/
def Lane.allocDigest (l : Lane) : List (Nat × Int) × UMap Int :=
  ((usedNodes l.cfg).map (fun x => (x, l.p (Pool.allocW x))), l.alloc.packAmps)

/-- TARGET_LOAD (R211): pack targets loaded, sessions given their currents and powers (R246), event 115 for outlets newly limited by the
thermal forecast; an outlet that no leaf names is offered 0 A (R201). A round that overran loads nothing. -/
def Lane.targetLoad (l : Lane) : Lane :=
  if l.lapIn ≠ 150 ∨ l.alloc.doneEpoch ≠ some l.epoch then l
  else
    let l1 := l.forN 64 (fun k l => l.setPack k
      { l.pack k with allocTarget := UMap.get (fun _ => 0) l.alloc.packTargets k })
    let leaves := (usedNodes l1.cfg).filter (fun x => decide (nodeKind l1.cfg x = 2))
    let named := leaves.map (fun x => l1.cn (Pool.outlet x))
    let l2 := l1.forL ((UMap.keys l1.outs).filter (fun o => !named.contains o)) (fun o l => l.setOut o { l.out o with offerA := 0, offerW := 0 })
    let l3 : Lane := { l2 with alloc := { l2.alloc with
      thermal := (leaves.filter (fun x => decide (l2.p (Pool.binding x) = 8))).map (fun x => l2.cn (Pool.outlet x)) } }
    l3.forL leaves (fun x l =>
      let o := l.cn (Pool.outlet x)
      (l.setOut o { l.out o with offerA := l.p (Pool.allocA x), offerW := l.p (Pool.allocW x) }).fireIf
        (decide (l.p (Pool.binding x) = 8) && !l1.alloc.thermal.contains o) 115 o [l.p (Out.fc o 3)])

/-- HOST_POWER_KW_WRITE (R199): the value acts at once and is stamped with the lap. -/
def Lane.hostPower (x : Nat) (v : Int) (l : Lane) : Lane :=
  (l.setp (Pool.hostPowerKw x) v).setPool x { l.pool x with hostLap := some l.lap }

/-! ### Exchange with the relay team (R213 to R216) -/

/-- The node that stands for a member (R197). -/
def memberNode (m : UMap Int) (k : Nat) : Option Nat :=
  (usedNodes m).find? (fun x => nodeKind m x == 3 && cfgAt m (Pool.memberIndex x) == (k : Int))

/-- Whether a lap lies within the time in which an exchange is taken (R409): from lap 150 to the deadline at lap 4. -/
def Lane.exchangeOpen (l : Lane) : Bool := decide (150 ≤ l.lapIn ∨ l.lapIn ≤ 4)

/-- TEAM_REPORT_RECEIVE (R214): a member's want and drawn power for the anchor's next round, which takes them at the deadline. -/
def Lane.teamReport (k : Nat) (want drawn : Int) (l : Lane) : Lane :=
  match memberNode l.cfg k with
  | none => l
  | some x =>
    if l.exchangeOpen then l.setPool x { l.pool x with inWant := want, inDrawn := drawn, arrived := true } else l

/-- TEAM_ALLOCATION_RECEIVE (R215): the anchor's allocation for this module's top node, which the next round takes at the deadline. -/
def Lane.teamAllocation (w : Int) (l : Lane) : Lane :=
  if l.exchangeOpen then
    l.forL ((topNodes l.cfg).filter (fun x => cfgAt l.cfg (Pool.parent x) == 0xFFFFFFFE)) (fun x l =>
      l.setPool x { l.pool x with inCap := w, arrived := true })
  else l

/-- Whether a node takes part in the team exchange: a member's (R214), or a top under a team's anchor (R215). -/
def Lane.exchangeNode (l : Lane) (x : Nat) : Bool :=
  nodeKind l.cfg x == 3 || cfgAt l.cfg (Pool.parent x) == 0xFFFFFFFE

/-- TEAM_EXCHANGE_DEADLINE (R215, R216, R409): at lap 4 the round takes what has arrived; an exchange that has not come counts as
missing. `team_hold_rounds` missing rounds are bridged; then the team cap gives way to the fallback. -/
def Lane.teamDeadline (l : Lane) : Lane :=
  let xs := ((usedNodes l.cfg).filter l.exchangeNode).dedup
  l.forL xs (fun x l =>
    let s := l.pool x
    if s.arrived then
      l.setPool x { s with
        arrived := false, fresh := true, missing := 0, memberWant := s.inWant, memberDrawn := s.inDrawn
        teamCap := if nodeKind l.cfg x = 3 then s.teamCap else some s.inCap }
    else
      let n := s.missing + 1
      (l.setPool x { s with missing := n, fresh := false
                            teamCap := if l.cn (Pool.teamHoldRounds x) < n then none else s.teamCap }).inc
        Al.teamReportsMissing)

end Sys2Proof.Machine
end

