-- ==== Sys2Proof/Machine/Keys.lean ====
section
/-!
DEFINITION. The key store of one lane (R374 to R378, R389 to R392): slots and their attributes, usability, delivery to
engines, working keys, pairing, and the commands that read and load. Applying a message is in KeyUpdate.lean.
-/

namespace Sys2Proof.Machine

/-! ### Attributes (R375, R376) -/

/-- `TYPE` of an attribute word. -/
def kaType (a : Nat) : Nat := bitsAt a 23 20
/-- `FAMILY` of an attribute word. -/
def kaFamily (a : Nat) : Nat := bitsAt a 19 17
/-- `WORKING` of an attribute word. -/
def kaWorking (a : Nat) : Bool := bitAt a 16
/-- `ENGINES` of an attribute word, bits 8..0. -/
def kaEngines (a : Nat) : Nat := bitsAt a 8 0

/-- Engine numbers are the bit numbers of the attribute word: metrology signer, session engines, team link engine, host
transport engine, image verifier, lane mirror engine. -/
def engMeter : Nat := 0
def engTeam : Nat := 5
def engHost : Nat := 6
def engVerify : Nat := 7
def engMirror : Nat := 8

/-- The session engine of an outlet (the worked example uses engine 1 for outlet 1). -/
def engSession (o : Nat) : Nat := 1 + o % 4

/-- The engines that a family admits besides the mirror (R375). -/
def familyEngines (f : Nat) : Nat :=
  match f with
  | 1 => 1
  | 2 => 0x1E
  | 3 => 0x20
  | 4 => 0x40
  | 5 => 0x80
  | _ => 0

/-- The types of stored children that a family admits (R375). -/
def familyTypes (f : Nat) : List Nat :=
  match f with
  | 1 => [2]
  | 2 => [3, 4, 5, 6]
  | 3 => [1]
  | 4 => [1]
  | 5 => [5]
  | _ => []

/-- Key bytes of a type (R380). -/
def typeBytes (t : Nat) : Nat :=
  match t with
  | 1 => 32
  | 2 => 48
  | 3 => 66
  | 4 => 57
  | 5 => 49
  | 6 => 67
  | _ => 0

/-- Operations an engine performs with a key: 1 a signature, 2 a verification, 3 an AEAD record, 4 a derivation (R385). -/
def typeSuits (t op : Nat) : Bool :=
  match op with
  | 1 => decide (t = 2 ∨ t = 3 ∨ t = 4)
  | 2 => decide (t = 5 ∨ t = 6)
  | 3 => decide (t = 1)
  | 4 => decide (t = 1)
  | _ => false

/-! ### Slots (R374, R377) -/

/-- The slot of a store. -/
def slotOf (m : UMap KeySlot) (s : Nat) : KeySlot := UMap.get (fun _ => {}) m s

/-- A slot replaced in a store. -/
def putSlot (m : UMap KeySlot) (s : Nat) (k : KeySlot) : UMap KeySlot := UMap.put (fun _ => {}) m s k

/-- The parent slot (R374): slot 0 of the family parents, the family parent of a stored child, and for a working key the
slot it was derived from. -/
def parentSlot (m : UMap KeySlot) (s : Nat) : Nat :=
  if s ≤ 5 then 0 else if s < 768 then kaFamily (slotOf m s).attr else (slotOf m s).parent

/-- Usability (R377), over the at most four levels of the tree. -/
def usableGo (m : UMap KeySlot) : Nat → Nat → Bool
  | 0, _ => false
  | f + 1, s =>
    let k := slotOf m s
    if k.state ≠ 1 then false
    else if s = 0 then true
    else
      let p := parentSlot m s
      decide (p ≠ s) && decide (k.parentVer = (slotOf m p).ver) && usableGo m f p

/-- Whether the key of slot `s` is usable (R377). -/
def usable (m : UMap KeySlot) (s : Nat) : Bool := usableGo m 4 s

/-- The state code that a slot reads (R377). -/
def slotState (m : UMap KeySlot) (s : Nat) : Nat :=
  let k := slotOf m s
  if k.state = 1 then (if usable m s then 1 else 3) else k.state

/-- Whether this lane's store is bound to the chassis serial and holds a root (R390). -/
def Lane.storeOk (l : Lane) : Bool := decide (l.p Key.storeSerialOk = 1)

/-- Whether the key of slot `s` may be used by an engine; with a store bound to another serial none is (R390). -/
def Lane.keyUsable (l : Lane) (s : Nat) : Bool := l.storeOk && usable l.keys.slots s

/-- The counts of usable and orphaned slots and the binding brought up to date (R379). -/
def Lane.keyPoints (l : Lane) : Lane :=
  let m := l.keys.slots
  let bound := decide ((l.keys.serialLo : Int) = l.p D0.serialLo ∧ (l.keys.serialHi : Int) = l.p D0.serialHi)
    && decide ((slotOf m 0).state = 1)
  let l1 := l.setp Key.storeSerialOk (b01 bound)
  let n := fun (c : Nat) => (((UMap.keys m).filter (fun s => decide (slotState m s = c))).length : Int)
  (l1.setp Key.slotsValid (if bound then n 1 else 0)).setp Key.slotsOrphaned (n 3)

/-- The store of this lane with a slot replaced. -/
def Lane.setSlotKey (s : Nat) (k : KeySlot) (l : Lane) : Lane :=
  { l with keys := { l.keys with slots := putSlot l.keys.slots s k } }

/-! ### Delivery (R378) -/

/-- Key store status codes (R392). -/
def st_KEY_MSG_FORMAT : Nat := 0x0201
def st_KEY_MSG_ORDER : Nat := 0x0202
def st_KEY_SERIAL : Nat := 0x0203
def st_KEY_AUTH_SLOT : Nat := 0x0204
def st_KEY_AUTH_FAIL : Nat := 0x0205
def st_KEY_COUNTER : Nat := 0x0206
def st_KEY_SLOT : Nat := 0x0207
def st_KEY_TYPE : Nat := 0x0208
def st_KEY_ATTR : Nat := 0x0209
def st_KEY_PARENT : Nat := 0x020A
def st_KEY_LOCKOUT : Nat := 0x020B
def st_KEY_TAMPER_PENDING : Nat := 0x020C
def st_KEY_LANE_ABORT : Nat := 0x020D
def st_KEY_BAD_SLOT : Nat := 0x020E
def st_KEY_NONE : Nat := 0x0210
def st_KEY_ORPHANED : Nat := 0x0211
def st_KEY_NOT_ADMITTED : Nat := 0x0212
def st_KEY_WRONG_TYPE : Nat := 0x0213

/-- The verdict of the delivery checks, in their order (R378); `OK` delivers. -/
def Lane.deliveryStatus (l : Lane) (engine slot op : Nat) : Nat :=
  let k := slotOf l.keys.slots slot
  if slot = 0 ∨ 1023 < slot ∨ (6 ≤ slot ∧ slot ≤ 15) then st_KEY_NONE
  else if k.state ≠ 1 then st_KEY_NONE
  else if !l.keyUsable slot then st_KEY_ORPHANED
  else if !bitAt (kaEngines k.attr) engine then st_KEY_NOT_ADMITTED
  else if !(engine == engMirror) && !typeSuits (kaType k.attr) op then st_KEY_WRONG_TYPE
  else st_OK

/-- Whether a key slot's key may seal datagrams of the host (R71): a child of the HOST family, or the commissioning key, whose attribute
admits the host transport engine. -/
def Lane.hostKey (l : Lane) (slot : Nat) : Bool :=
  decide (kaFamily (slotOf l.keys.slots slot).attr = 4 ∨ slot = 16) && decide (l.deliveryStatus engHost slot 3 = st_OK)

/-- The engine that serves an operation of engine `e`: a session engine in reset hands it to the next one that runs (R93 code 6). -/
def Lane.serving (e : Nat) (l : Lane) : Option Nat :=
  if e < 1 ∨ 4 < e then some e
  else ((List.range 4).map (fun d => 1 + (e - 1 + d) % 4)).find? (fun x => !l.inReset 6 (x - 1))

/-- KEY_DELIVERY_REQUEST (R378): the engine takes a copy of the key, or the refusal is counted and shown. With every
session engine in reset none takes it. -/
def Lane.keyDelivery (engine slot op : Nat) (l : Lane) : Lane :=
  match l.serving engine with
  | none => l
  | some e =>
    let v := l.deliveryStatus e slot op
    if v = st_OK then
      let c := (e, slot, (slotOf l.keys.slots slot).ver)
      if l.keys.copies.contains c then l else { l with keys := { l.keys with copies := l.keys.copies ++ [c] } }
    else (l.inc Key.engineRefusals).setp Key.lastRefusal ((slot % 0x10000) * 0x10000 + v)

/-- A delivery whose outcome the requesting function acts on. -/
def Lane.askKey (engine slot op : Nat) (l : Lane) : Lane × Bool :=
  (l.keyDelivery engine slot op, match l.serving engine with
    | some e => decide (l.deliveryStatus e slot op = st_OK)
    | none => false)

/-! ### Working keys (R374, R389) -/

/-- A working key derived from a stored child into slot `s` (R374); its type is AES-256 (R375). -/
def Lane.deriveKey (s parent engines value : Nat) (l : Lane) : Lane :=
  let m := l.keys.slots
  let a := 0x100000 + kaFamily (slotOf m parent).attr * 0x20000 + 0x10000 + 0x100 + engines
  (l.setSlotKey s { state := 1, attr := a, ver := (slotOf m s).ver + 1, parentVer := (slotOf m parent).ver
                    parent := parent, value := leBytes 32 value }).keyPoints

/-- A working key erased. -/
def Lane.eraseKey (s : Nat) (l : Lane) : Lane :=
  if (slotOf l.keys.slots s).state = 0 then l
  else (l.setSlotKey s { ver := (slotOf l.keys.slots s).ver }).keyPoints

/-- The working slot of an outlet's session, and of a team level (log entry 22). -/
def sessionSlot (o : Nat) : Nat := 768 + o
def teamSlot (k : Nat) : Nat := 800 + k

/-- The slot that a role point names, 0 for none. -/
def Lane.role (l : Lane) (a : Nat) : Nat := if l.c a = 0xFFFFFFFF then 0 else l.cn a

/-! ### Pairing and copies (R389, R390) -/

/-- The lane-link key that a shared P-384 secret gives (R389). -/
def linkKeyOf (secret : Nat) : Nat := ofBe (hkdf384 (beBytes 48 secret) [0x6C, 0x61, 0x6E, 0x65, 0x2D, 0x6D, 0x69, 0x72, 0x72, 0x6F, 0x72] 32)

/-- CARTRIDGE_PAIRING (R389): where each cartridge verified the other's certificate, both derive the lane-link key. -/
def Lane.pairing (verified : Bool) (secret : Nat) (l : Lane) : Lane :=
  { l with keys := { l.keys with linkKey := if verified then some (linkKeyOf secret) else none } }

/-- The store of a cartridge that starts in a chassis of another serial is erased (R390). -/
def Lane.checkSerial (l : Lane) : Lane :=
  let empty := l.keys.slots.isEmpty
  if empty || decide ((l.keys.serialLo : Int) = l.p D0.serialLo ∧ (l.keys.serialHi : Int) = l.p D0.serialHi) then l.keyPoints
  else Lane.keyPoints { l with keys := { l.keys with slots := [], copies := [], serialLo := 0, serialHi := 0 } }

/-- The partner's store taken over in `COPY` (R364, R390); a store crosses only under the lane-link key that both cartridges hold. -/
def Lane.copyKeys (l : Lane) (holder : Lane) : Lane :=
  if l.keys.linkKey.isNone ∨ l.keys.linkKey ≠ holder.keys.linkKey then l
  else (Lane.keyPoints { l with keys := { l.keys with
    slots := holder.keys.slots, serialLo := holder.keys.serialLo, serialHi := holder.keys.serialHi } }).setp
      Key.keyCounter (holder.p Key.keyCounter)

/-! ### Commands (R391) -/

/-- The message buffer of a ring. -/
def Lane.keyBuffer (l : Lane) (q : Nat) : List Nat := UMap.get (fun _ => []) l.keys.buffers q

/-- The message buffer of a ring replaced. -/
def Lane.setKeyBuffer (q : Nat) (b : List Nat) (l : Lane) : Lane :=
  { l with keys := { l.keys with buffers := UMap.put (fun _ => []) l.keys.buffers q b } }

/-- `KEY_MSG_LOAD`. -/
def Lane.cmdKeyLoad (r : Request) (l : Lane) : Lane × Reply :=
  let ofs := r.at_ 0 2
  let n := r.at_ 2 2
  if r.len < 4 ∨ n = 0 ∨ 220 < n ∨ r.len ≠ 4 + n then (l, Reply.just st_BAD_LENGTH)
  else
    let old := if ofs = 0 then [] else l.keyBuffer r.ring
    if ofs ≠ old.length ∨ 688 < ofs + n then (l, Reply.just st_KEY_MSG_ORDER)
    else (l.setKeyBuffer r.ring (old ++ r.body.drop 4), Reply.ok [])

/-- The parent slot that `KEY_INFO` returns. -/
def infoParent (m : UMap KeySlot) (s : Nat) : Nat := if (slotOf m s).state = 0 then 0 else parentSlot m s

/-- The public key of a slot (R380, R391): a public key's own bytes, and of a private one the opaque key that belongs to it, in the
compressed form of its curve. -/
def KeySlot.publicBytes (s : Nat) (k : KeySlot) : List Nat :=
  if 5 ≤ kaType k.attr then k.value
  else beBytes (if kaType k.attr = 2 then 49 else if kaType k.attr = 3 then 67 else 57) (Config.publicKey s k.ver)

/-- `KEY_INFO`: never a secret value; of a private or public key the first 16 bytes of SHA-384 over the public key. -/
def Lane.cmdKeyInfo (r : Request) (l : Lane) : Lane × Reply :=
  let s := r.at_ 0 2
  let m := l.keys.slots
  let k := slotOf m s
  if r.len ≠ 2 then (l, Reply.just st_BAD_LENGTH)
  else if 1023 < s then (l, Reply.just st_KEY_BAD_SLOT)
  else
    let hash := if 2 ≤ kaType k.attr ∧ k.state ≠ 0 then [((16, (fieldAt (sha384 (k.publicBytes s)) 0 16 : Int)) : Field)] else []
    (l, Reply.ok ([(0, (slotState m s : Int)), (0, (k.attr : Int)), (0, (k.ver : Int)), (0, (infoParent m s : Int)),
      (0, (k.parentVer : Int))] ++ hash))

/-- `KEY_LIST`. -/
def Lane.cmdKeyList (r : Request) (l : Lane) : Lane × Reply :=
  let s := r.at_ 0 2
  let n := r.at_ 2 2
  if r.len ≠ 4 then (l, Reply.just st_BAD_LENGTH)
  else if n = 0 ∨ 64 < n then (l, Reply.just st_BAD_LENGTH)
  else if 1023 < s ∨ 1024 < s + n then (l, Reply.just st_KEY_BAD_SLOT)
  else
    let f := (List.range n).map (fun i => (s + i))
    let recs := f.map (fun (j : Nat) => [(1, (slotState l.keys.slots j : Int)), (4, ((slotOf l.keys.slots j).attr : Int))])
    (l, { status := st_OK, parts := (chunks 44 recs).map List.flatten })

/-- `KEY_COUNTER_READ`. -/
def Lane.cmdKeyCounter (r : Request) (l : Lane) : Lane × Reply :=
  if r.len ≠ 0 then (l, Reply.just st_BAD_LENGTH)
  else (l, Reply.ok [(8, l.p Key.keyCounter), (8, l.p D0.serialLo), (8, l.p D0.serialHi), (1, l.p Key.updateBlock),
    (1, l.p Key.storeSerialOk)])

end Sys2Proof.Machine
end

