-- ==== Sys2Proof/Machine/Metrology.lean ====
section
/-!
DEFINITION. The metrology of one lane (R255 to R284): correction, gain switching, AC and DC quantities, energy
increments, S0 inputs, pulse outputs, the control set and the checks of references and image. Metering points are
numbered with AC points 0..7 first and DC points from 8; samples are in 10^−9 of range, energies in 2^−32 milli-units.
Quotients whose rounding the spec does not state divide toward zero (log entry 21).
-/

namespace Sys2Proof.Machine

/-- The metrology record changed. -/
def Lane.met! (l : Lane) (f : MetSt → MetSt) : Lane := { l with met := f l.met }

/-- The record of AC point `n`. -/
def Lane.acPt (l : Lane) (n : Nat) : AcSt := UMap.get (fun _ => {}) l.met.ac n

/-- The record of AC point `n` replaced. -/
def Lane.setAc (l : Lane) (n : Nat) (x : AcSt) : Lane :=
  { l with met := { l.met with ac := UMap.put (fun _ => {}) l.met.ac n x } }

/-- The record of DC point `d`. -/
def Lane.dcPt (l : Lane) (d : Nat) : DcSt := UMap.get (fun _ => {}) l.met.dc d

/-- The record of DC point `d` replaced. -/
def Lane.setDc (l : Lane) (d : Nat) (x : DcSt) : Lane :=
  { l with met := { l.met with dc := UMap.put (fun _ => {}) l.met.dc d x } }

/-- The gain record of channel `c` of metering point `m`. -/
def Lane.chan (l : Lane) (m c : Nat) : ChanSt := UMap.get (fun _ => {}) l.met.chans (8 * m + c)

/-- The gain record of channel `c` of metering point `m` replaced. -/
def Lane.setChan (l : Lane) (m c : Nat) (x : ChanSt) : Lane :=
  { l with met := { l.met with chans := UMap.put (fun _ => {}) l.met.chans (8 * m + c) x } }

/-- The temperature record of metering point `m`. -/
def Lane.ntcOf (l : Lane) (m : Nat) : NtcSt := UMap.get (fun _ => {}) l.met.ntc m

/-! ### Correction (R263, R264) -/

/-- The gain of a gain state. -/
def gainOf (g : Nat) : Int := if g = 0 then 1 else if g = 1 then 4 else 16

/-- The corrected sample of R263 before the delay. -/
def corrected (raw : Int) (g : Nat) (offset gain k : Int) : Int :=
  ((raw - 1000 * offset * gainOf g) * (1000000 + gain + k)).tdiv (gainOf g * 1000000)

/-- `cal_gain[c][g]` of metering point `m`. -/
def Lane.calGain (l : Lane) (m c g : Nat) : Int := if m < 8 then l.c (Ac.calGain m c g) else l.c (Dc.calGain (m - 8) c g)

/-- `cal_offset[c]` of metering point `m`. -/
def Lane.calOffset (l : Lane) (m c : Nat) : Int := if m < 8 then l.c (Ac.calOffset m c) else l.c (Dc.calOffset (m - 8) c)

/-- The 32 gain entries, or phase entries, of channel `c` of metering point `m`. -/
def Lane.compTable (l : Lane) (phase : Bool) (m c : Nat) : List Int :=
  (List.range 32).map (fun j =>
    if m < 8 then (if phase then l.c (Ac.compPhase m c j) else l.c (Ac.compGain m c j))
    else if phase then l.c (Dc.compPhase (m - 8) c j) else l.c (Dc.compGain (m - 8) c j))

/-- The table evaluated at a temperature in m°C (R264). -/
def compEval (e : List Int) (t : Int) : Int :=
  if t ≤ -40000 then e.getD 0 0
  else if 115000 ≤ t then e.getD 31 0
  else
    let j := ((t + 40000).tdiv 5000).toNat
    e.getD j 0 + ((e.getD (j + 1) 0 - e.getD j 0) * (t + 40000 - 5000 * (j : Int))).tdiv 5000

/-- The delay of an AC channel in 1/256 of a sample (R263): (`cal_phase` + k_φ) / 18,000,000 s, a sample being 125 µs. -/
def Lane.delay256 (l : Lane) (m c : Nat) : Int :=
  ((l.c (Ac.calPhase m c) + (l.ntcOf m).phase.getD c 0) * 256).tdiv 2250

/-! ### Gain switching (R260) -/

/-- A channel that may switch up does (R260): both complete windows stayed below the threshold and 100 ms have passed since its last
switch to a lower gain. -/
def ChanSt.settle (tick : Nat) (c : ChanSt) : ChanSt × Bool :=
  let thr : Int := if c.gain = 0 then 350000000 else 87500000
  let waited := match c.down with | none => true | some t => decide (800 ≤ tick - t)
  let low := match c.win1, c.win2 with
    | some a, some b => decide (a < thr) && decide (b < thr)
    | _, _ => false
  if decide (c.gain < 2) && low && waited then ({ c with gain := c.gain + 1 }, true) else (c, false)

/-- A channel after one sample of magnitude `x` (R260): the record, and whether the gain changed. -/
def ChanSt.sample (tick : Nat) (x : Int) (clipped : Bool) (c : ChanSt) : ChanSt × Bool :=
  let c1 := { c with cur := max c.cur c.last, last := x }
  if clipped && decide (0 < c.gain) then ({ c1 with gain := 0, down := some tick }, true)
  else if c.gain = 2 ∧ 112500000 ≤ x then ({ c1 with gain := 1, down := some tick }, true)
  else if c.gain = 1 ∧ 450000000 ≤ x then ({ c1 with gain := 0, down := some tick }, true)
  else c1.settle tick

/-- A channel at the end of a window (R260), whose last sample is the latest one or, with `next`, the one before it. -/
def ChanSt.window (tick : Nat) (next : Bool) (c : ChanSt) : ChanSt × Bool :=
  ({ c with
    win2 := c.win1, win1 := some (if next then c.cur else max c.cur c.last), cur := 0, last := if next then c.last else 0
    } : ChanSt).settle tick

/-- A sample that the channel did not take itself: no window that it falls in lets the gain go up (R260, R273). -/
def ChanSt.broken (c : ChanSt) : ChanSt := { c with cur := max c.cur c.last, last := 2000000000 }

/-- A gain change counted, shown and, at an AC point, reported (R260). -/
def Lane.gainShown (m c : Nat) (switched : Bool) (l : Lane) : Lane :=
  let g := ((l.chan m c).gain : Int)
  let l1 := if m < 8 then l.setp (Ac.gainState m c) g else l.setp (Dc.gainState (m - 8) c) g
  if !switched then l1
  else if m < 8 then (l1.inc (Ac.rangeSwitches m)).fire (64 + m) m [Config.eventCause 1]
  else l1.inc (Dc.rangeSwitches (m - 8))

/-- The gain window of every channel of a point ended, before the latest sample where that belongs to the next (`next`). -/
def Lane.endWindow (m n : Nat) (next : Bool) (l : Lane) : Lane :=
  l.forN n (fun c l =>
    let r := (l.chan m c).window l.met.tick next
    (l.setChan m c r.1).gainShown m c r.2)

/-! ### Energy (R268, R270, R276, R285) -/

/-- `reg[q][t]` of metering point `m`. -/
def regAddr (m q t : Nat) : Nat := if m < 8 then RegA.reg m q t else RegD.reg (m - 8) q t

/-- `creg[q][t]`. -/
def cregAddr (m q t : Nat) : Nat := if m < 8 then RegA.creg m q t else RegD.creg (m - 8) q t

/-- `wraps[q][t]`. -/
def wrapsAddr (m q t : Nat) : Nat := if m < 8 then RegA.wraps m q t else RegD.wraps (m - 8) q t

/-- A register advanced by whole milli-units, with its compact values (R285, R287). -/
def Lane.addReg (m q t : Nat) (n : Int) (l : Lane) : Lane :=
  let v := l.p (regAddr m q t) + n
  ((l.setp (regAddr m q t) v).setp (cregAddr m q t) (v / 100000 % 4294967296)).setp (wrapsAddr m q t)
    (v / 100000 / 4294967296)

/-- The source a pulse output repeats (R283): metering point and quantity. -/
def poSource (w : Nat) : Option (Nat × Nat) :=
  match bitsAt w 31 28 with
  | 1 => some (bitsAt w 20 16, bitsAt w 3 0)
  | 2 => some (8 + bitsAt w 20 16, bitsAt w 3 0)
  | _ => none

/-- The record of pulse output `u`. -/
def Lane.po (l : Lane) (u : Nat) : PoSt := UMap.get (fun _ => {}) l.met.po u

/-- The record of pulse output `u` replaced. -/
def Lane.setPo (l : Lane) (u : Nat) (x : PoSt) : Lane :=
  { l with met := { l.met with po := UMap.put (fun _ => {}) l.met.po u x } }

/-- Pulses that fall due (R276), at most as many as the first argument, which is never less than the accumulator's milli-units. -/
def Lane.poDue (u : Nat) : Nat → Lane → Lane
  | 0, l => l
  | f + 1, l =>
    let x := l.po u
    let w := l.c (Po.poMwhPerPulse u) * 2 ^ 32
    if x.acc < w then l
    else
      let l1 := (l.setPo u { x with acc := x.acc - w, due := (l.met.tick :: x.due).take 5 }).inc (Po.poDue u)
      let l2 := if l1.p (Po.poBacklog u) < 65535 then l1.inc (Po.poBacklog u)
        else (l1.inc (Po.poOverflows u)).fire 122 u [l1.p (Po.poOverflows u) + 1]
      Lane.poDue u f l2

/-- The tariff in force (R295). -/
def Lane.tariff (l : Lane) : Nat := l.pn Cal.tariffNow

/-- Energy `e` of quantity `q` of point `m`, in 2^−32 milli-units, credited to tariff `t` and the total; the remainder is
kept (R268, R286). -/
def Lane.credit (m q t : Nat) (e : Int) (l : Lane) : Lane :=
  if e ≤ 0 then l
  else
    let acc := UMap.get (fun _ => 0) l.met.rem (8 * m + q) + e
    let whole := acc / 2 ^ 32
    let l1 := l.met! (fun x => { x with rem := UMap.put (fun _ => 0) x.rem (8 * m + q) (acc % 2 ^ 32) })
    if whole = 0 then l1 else (l1.addReg m q t whole).addReg m q 8 whole

/-- Energy counted everywhere it is used: the registers, the pulse outputs, and the epoch's and second's active
energies (R258, R272, R276). -/
def Lane.addEnergy (m q t : Nat) (e : Int) (l : Lane) : Lane :=
  if e ≤ 0 then l
  else
    let l1 := l.credit m q t e
    let l2 := l1.forN 4 (fun u l =>
      if poSource (l.cn (Po.poSource u)) = some (m, q) then
        (l.setPo u { l.po u with acc := (l.po u).acc + e }).poDue u (((l.po u).acc + e) / 2 ^ 32).toNat
      else l)
    if q < 2 then
      let add := fun (a : UMap Int) => UMap.put (fun _ => 0) a (2 * m + q) (UMap.get (fun _ => 0) a (2 * m + q) + e)
      l2.met! (fun x => { x with epochE := add x.epochE, secE := add x.secE })
    else l2

/-- Whether the cycles of the lane's AC points go on (R280, R302): while the accumulators are frozen after a loss of supply the other
lane's samples fill them. -/
def Lane.metFills (l : Lane) : Bool := decide (l.p Mp.mpState ≠ 1)

/-- Whether the lane's metrology runs (R280). -/
def Lane.metRuns (l : Lane) : Bool := decide (l.p Mp.mpState ≠ 1) && !l.met.lossTicks.isSome

/-- `point_enable`. -/
def Lane.metEnabled (l : Lane) (m : Nat) : Bool :=
  if m < 8 then decide (l.c (Ac.pointEnable m) = 1) else decide (l.c (Dc.pointEnable (m - 8)) = 1)

/-- `i_range_a` and `v_range_v` of a point. -/
def Lane.ranges (l : Lane) (m : Nat) : Int × Int :=
  if m < 8 then (l.c (Ac.vRangeV m), l.c (Ac.iRangeA m)) else (l.c (Dc.vRangeV (m - 8)), l.c (Dc.iRangeA (m - 8)))

/-! ### One sample instant (R257, R261, R263) -/

/-- A value of the other lane interpolated linearly to this lane's instant: `ofs` of 256 back from its latest sample
towards the one before. -/
def interpolate (last prev : Int) (ofs : Nat) : Int := last + ((prev - last) * (ofs : Int)).tdiv 256

/-- One channel's sample: its own corrected value, the value taken, the gain state it was taken at and its flag (R258). -/
structure ChanSample where
  own : Int
  value : Int
  gain : Nat
  flag : Nat
deriving DecidableEq, Repr

/-- One channel's sample: the corrected value, and whether it was filled or kept clipped (R261, R273). `other` is the
other lane's interpolated value where it has one that is not clipped. -/
def Lane.takeSample (m c : Nat) (r : RawSample) (other : Option Int) (l : Lane) : Lane × ChanSample :=
  let ch := l.chan m c
  let k := (l.ntcOf m).gain.getD c 0
  let own := corrected r.raw ch.gain (l.calOffset m c) (l.calGain m c ch.gain) k
  let needs := r.clipped || decide (l.p Mp.refState = 1)
  let filled := needs && other.isSome
  let x : ChanSample :=
    { own := own, value := if filled then other.getD own else own, gain := ch.gain
      flag := if filled then 2 else if r.clipped then 1 else 0 }
  let s := ch.sample l.met.tick (absN own : Int) r.clipped
  let l1 := (l.setChan m c s.1).gainShown m c s.2
  let l2 := if filled then l1.inc (if m < 8 then Ac.filledSamples m else Dc.filledSamples (m - 8))
    else if r.clipped then l1.inc (if m < 8 then Ac.clipSamples m else Dc.clipSamples (m - 8))
    else l1
  (l2, x)

/-- The channels of one point sampled in turn. -/
def Lane.takeAll (m : Nat) (others : List (Option Int)) : Nat → List RawSample → Lane → Lane × List ChanSample
  | _, [], l => (l, [])
  | c, r :: rs, l =>
    let a := l.takeSample m c r (others.getD c none)
    let b := Lane.takeAll m others (c + 1) rs a.1
    (b.1, a.2 :: b.2)

/-- Four-point cubic interpolation at `f`/256 between the second and third of four equally spaced values, newest first
(R267): the polynomial of degree three through them. -/
def cubic (ym1 y0 y1 y2 : Int) (f : Int) : Int :=
  let c0 := -f * (f - 256) * (f - 512)
  let c1 := 3 * (f + 256) * (f - 256) * (f - 512)
  let c2 := -3 * (f + 256) * f * (f - 512)
  let c3 := (f + 256) * f * (f - 256)
  (c0 * ym1 + c1 * y0 + c2 * y1 + c3 * y2).tdiv (6 * 256 * 256 * 256)

/-- A signal delayed by `d`/256 samples, from its history newest first: the polynomial through the two values on each side, through the
latest four where the delay is shorter than a sample or negative (R263, R267, log entry 20). -/
def delayed (h : List Int) (d : Int) : Int :=
  let k := max 1 (d / 256).toNat
  cubic (h.getD (k - 1) 0) (h.getD k 0) (h.getD (k + 1) 0) (h.getD (k + 2) 0) (d - 256 * (k : Int))

/-- The delay of v⊥ in 1/256 samples: a quarter of the previous cycle's period, or of 1/`f_nom` in fixed blocks (R267,
R269). -/
def Lane.quarter (l : Lane) (n : Nat) : Nat :=
  let x := l.acPt n
  if x.fixed then (if l.c (Ac.fNom n) = 1 then 34133 / 4 else 40960 / 4) else x.period / 4

/-- An AC point's sample taken into its buffer, each channel of its own delayed (R263, R267). It counts in the running cycle where the
point is metered (`on`); the inputs of a point that is not enabled are sampled too (R257). -/
def Lane.acSample (n : Nat) (on : Bool) (ts : List ChanSample) (l : Lane) : Lane :=
  let x := l.acPt n
  let raw := (ts.map ChanSample.own :: x.raw).take 16
  let value := fun (c : Nat) (t : ChanSample) => if t.flag = 2 then t.value else delayed (raw.map (fun h => h.getD c 0)) (l.delay256 n c)
  let xs := (List.range ts.length).zipWith value ts
  let v := xs.take 3
  let q := (List.range 3).map (fun k => delayed ((v.getD k 0) :: x.buf.map (fun s => s.v.getD k 0)) (l.quarter n))
  let s : AcSample := { v := v, i := (xs.drop 3).take 3, q := q, tag := l.pacer.teamTime
                        gains := ts.map ChanSample.gain, flags := ts.map ChanSample.flag }
  l.setAc n { x with
    buf := (s :: x.buf).take 256, raw := raw, n := if on then x.n + 1 else 0, fresh := min 256 (x.fresh + 1) }

/-- A DC input's sample, whether its metering point is enabled or not (R257): the latest values and the gain window of 160
samples (R260). -/
def Lane.dcInput (d : Nat) (ts : List ChanSample) (l : Lane) : Lane :=
  let x := l.dcPt d
  let xs := ts.map ChanSample.value
  let x1 := { x with
    win := x.win + 1, v1 := x.v, i1 := x.i, v := xs.getD 0 0, i := xs.getD 1 0, seen := true, tag := l.pacer.teamTime
    gains := ts.map ChanSample.gain, flags := ts.map ChanSample.flag, flags1 := x.flags }
  if 160 ≤ x1.win then (l.setDc d { x1 with win := 0 }).endWindow (8 + d) 2 false else l.setDc d x1

/-- A DC point's sample: sums of the epoch, energy by direction (R270). -/
def Lane.dcSample (d : Nat) (ts : List ChanSample) (l : Lane) : Lane :=
  let l0 := l.dcInput d ts
  let x := l0.dcPt d
  let p := x.v * x.i
  let r := l.ranges (8 + d)
  let e := ((absN p : Int) * r.1 * r.2 * 125 * 2 ^ 32 * 10).tdiv (10 ^ 18 * 1000000 * 36)
  (l0.setDc d { x with n := x.n + 1, sv := x.sv + x.v, si := x.si + x.i, sp := x.sp + p, sq := x.sq + x.i * x.i }).addEnergy (8 + d)
    (if 0 < p then 0 else 1) l.tariff e

/-- A metering point without any sample at this instant: its registers stop and the time counts as a gap (R305). -/
def Lane.gapTick (m : Nat) (l : Lane) : Lane :=
  let g := UMap.get (fun _ => 0) l.met.gapTicks m + 1
  let l1 := l.met! (fun x => { x with
    gapTicks := UMap.put (fun _ => 0) x.gapTicks m (g % 8)
    openI := UMap.put (fun _ => {}) x.openI m
      { UMap.get (fun _ => {}) x.openI m with flags := (UMap.get (fun _ => {}) x.openI m).flags ||| 8 } })
  if g = 8 then l1.inc (if m < 8 then RegA.gapMs m else RegD.gapMs (m - 8)) else l1

/-- A metered tick of a point counted in its interval's `duration_ms` (R291). -/
def Lane.meteredTick (m : Nat) (l : Lane) : Lane :=
  l.met! (fun x => { x with
    openI := UMap.put (fun _ => {}) x.openI m
      { UMap.get (fun _ => {}) x.openI m with ticks := (UMap.get (fun _ => {}) x.openI m).ticks + 1 } })

/-- The latest voltage of DC point `d` in mV and its current in mA (R259). -/
def Lane.dcMv (l : Lane) (d : Nat) : Int := ((l.dcPt d).v * (l.ranges (8 + d)).1 * 1000).tdiv (10 ^ 9)
def Lane.dcMa (l : Lane) (d : Nat) : Int := ((l.dcPt d).i * (l.ranges (8 + d)).2 * 1000).tdiv (10 ^ 9)

/-- The supervision values of outlet `o` in mV and mA from its DC point (R259). -/
def Lane.supervise (l : Lane) (o : Nat) (src : Lane) : Lane :=
  let v := src.dcMv o
  let i := src.dcMa o
  ((l.setOut o { l.out o with vDc := v, iDc := i }).setp (Out.vCableMv o) v).setp (Out.iOutletMa o) i

/-- The cable voltage and the current of outlet `o` as the lane's own ADC sampled them (`own`), which its safety core reads (R330, R333, R346), the run of samples above the limit, and the run of
currents above 1,575 A, counted from 10 ms after the degraded mode started (R333). A run that reached its length stands for the next cycle,
though it ends before. -/
def Lane.ownCable (o : Nat) (own : List ChanSample) (l : Lane) : Lane :=
  let scaled := fun (c : Nat) (r : Int) => (((own.map ChanSample.own).getD c 0) * r * 1000).tdiv (10 ^ 9)
  let v := scaled 0 (l.ranges (8 + o)).1
  let i := scaled 1 (l.ranges (8 + o)).2
  let run := UMap.get (fun _ => 0) l.safe.ovRun o
  let amps := UMap.get (fun _ => 0) l.safe.ampRun o
  let deg := UMap.get (fun _ => 0) l.safe.degLap o
  let above := if l.p (Saf.ovLimitMv o) < v then run + 1 else 0
  let much := if 1575000 < i ∧ deg ≠ 0 ∧ 2000 ≤ l.lap + 1 - deg then amps + 1 else 0
  let hit := fun (b : Bool) (xs : List Nat) => if b && !xs.contains o then xs ++ [o] else xs
  ({ l with safe := { l.safe with
      ovRun := UMap.put (fun _ => 0) l.safe.ovRun o above
      ampRun := UMap.put (fun _ => 0) l.safe.ampRun o much
      ovHit := hit (decide (8 ≤ above)) l.safe.ovHit
      ampHit := hit (decide (20 ≤ much)) l.safe.ampHit } } : Lane).setOut o
    { l.out o with vOwn := v, iOwn := i }

/-- The other lane's values of one input's channels, interpolated from its last two samples: none for a channel of which it took one of the
two from this lane, nor, where this lane's sample is clipped, for one of which one of the two is clipped as well (R261, R273). -/
def filler (clip : Bool) (last prev : List Int) (lastF prevF : List Nat) (ofs : Nat) : List (Option Int) :=
  let no := fun (f : Nat) => decide (f = 2) || (clip && decide (f = 1))
  (List.range last.length).map (fun c =>
    if no (lastF.getD c 0) || no (prevF.getD c 0) then none else some (interpolate (last.getD c 0) (prev.getD c 0) ofs))

/-- The latest corrected values of the other lane at metering point `m`, interpolated, where it samples and sends them (R258): not in
`ASLEEP`. -/
def otherValues (other : Lane) (clip : Bool) (m ofs : Nat) : List (Option Int) :=
  if !(other.active && decide (other.p Mp.mpState = 0) && other.metRuns && decide (other.p Mp.refState = 0)) then []
  else if m < 8 then
    match (other.acPt m).buf with
    | a :: b :: _ => filler clip (a.v ++ a.i) (b.v ++ b.i) a.flags b.flags ofs
    | _ => []
  else
    let x := other.dcPt (m - 8)
    if !x.seen then [] else filler clip [x.v, x.i] [x.v1, x.i1] x.flags x.flags1 ofs

/-- A sample of a point made of the other lane's values alone (R273); none where a channel has none. -/
def filledSample (others : List (Option Int)) : Option (List ChanSample) :=
  if others = [] ∨ others.contains none then none
  else some (others.map (fun o => { own := o.getD 0, value := o.getD 0, gain := 0, flag := 2 }))

/-- One metering point at one sample instant: its own raw samples, else the other lane's, else a gap. The inputs of a point
that is not enabled are sampled like the others (R257), for the other lane and for the uses of R259 and R330, and nothing is metered; so
are those of a point that lacks the other lane's values while the lane's references differ (R273). -/
def Lane.samplePoint (l : Lane) (other : Lane) (ofs m : Nat) (raw : Option (List RawSample)) : Lane :=
  let on := l.metEnabled m
  let clip := raw.isSome && decide (l.p Mp.refState ≠ 1)
  let others := otherValues other clip m ofs
  let filled := filledSample others
  let input := fun (metered : Bool) (ts : List ChanSample) (l : Lane) =>
    if m < 8 then l.acSample m metered ts
    else if metered then l.dcSample (m - 8) ts else l.dcInput (m - 8) ts
  let put := fun (ts : List ChanSample) (l : Lane) => if on then (input true ts l).meteredTick m else input false ts l
  let gap := fun (l : Lane) => if on then l.gapTick m else l
  match raw with
  | some rs =>
    let r := l.takeAll m others 0 rs
    let own := fun (l : Lane) => if m < 8 then l else l.ownCable (m - 8) r.2
    own (if l.p Mp.refState = 1 ∧ filled = none then gap (input false r.2 r.1) else put r.2 r.1)
  | none =>
    let lb := l.forN (if m < 8 then 6 else 2) (fun c l => l.setChan m c (l.chan m c).broken)
    match filled with
    | none => gap lb
    | some ts => put ts (lb.addp (if m < 8 then Ac.filledSamples m else Dc.filledSamples (m - 8)) (ts.length : Nat))

/-- One metering point at a sample instant while the lane is frozen after a loss of supply (R302): the other lane's samples fill; the time
counts as a gap at the restore. -/
def Lane.frozenPoint (l : Lane) (other : Lane) (ofs m : Nat) : Lane :=
  if l.metEnabled m && (filledSample (otherValues other false m ofs)).isSome then l.samplePoint other ofs m none else l

/-- METERING_SAMPLE (R257): one sample instant of a lane. The legal clock advances by 125 µs (R296). While a metrology image loads, the
other lane's samples fill (R280). -/
def Lane.meteringSample (l : Lane) (other : Lane) (ms : MeterSample) : Lane :=
  let l0 := l.met! (fun x => { x with tick := x.tick + 1, legal := x.legal + 1 })
  if l0.p Mp.mpState = 1 then l0.forN 40 (fun m l => if l.metEnabled m then l.gapTick m else l)
  else if l0.met.lossTicks.isSome then l0.forN 40 (fun m l => l.frozenPoint other ms.otherOfs m)
  else
    l0.forN 40 (fun m l =>
      l.samplePoint other ms.otherOfs m
        (if l.p Mp.mpState = 2 then none else (if m < 8 then ms.ac.find? (fun e => e.1 == m) else ms.dc.find? (fun e => e.1 + 8 == m)).map Prod.snd))

/-! ### AC cycles and fixed blocks (R267 to R269) -/

/-- A sum of products over samples. -/
def sumOf (xs : List AcSample) (f : AcSample → Int) : Int := xs.foldl (fun a s => a + f s) 0

/-- The elements of an AC point: all three, or the two used ones in three-wire (R255). -/
def Lane.elements (l : Lane) (n : Nat) : List Nat := if l.c (Ac.wiring n) = 1 then [0, 2] else [0, 1, 2]

/-- The sums over samples that the quantities of one element need: v², i², v·i, v⊥·i. -/
structure ElemSum where
  vv : Int
  ii : Int
  vi : Int
  qi : Int
deriving DecidableEq, Repr

/-- The sums of element `k`. In three-wire, element 2 pairs channel 2 with current channel 5. -/
def elemSum (xs : List AcSample) (k : Nat) : ElemSum :=
  { vv := sumOf xs (fun s => s.v.getD k 0 * s.v.getD k 0)
    ii := sumOf xs (fun s => s.i.getD k 0 * s.i.getD k 0)
    vi := sumOf xs (fun s => s.v.getD k 0 * s.i.getD k 0)
    qi := sumOf xs (fun s => s.q.getD k 0 * s.i.getD k 0) }

/-- The totals Σ P, Σ Q, Σ S of a set of samples, each times N, in 10^−18 of range squared. -/
def totals (es : List ElemSum) : Int × Int × Int :=
  (es.foldl (fun a e => a + e.vi) 0, es.foldl (fun a e => a + e.qi) 0,
   es.foldl (fun a e => a + (isqrt (e.vv * e.ii).toNat : Int)) 0)

/-- The quadrant of R268. -/
def quadrant (p q : Int) : Nat := if 0 ≤ p then (if 0 ≤ q then 1 else 4) else if 0 ≤ q then 2 else 3

/-- An energy in 2^−32 milli-units: a sum times N in 10^−18 of the ranges' product, over `t256` 1/256 samples. -/
def cycleEnergy (sum : Int) (n t256 : Nat) (vr ir : Int) : Int :=
  if n = 0 then 0
  else ((absN sum : Int) * vr * ir * (t256 : Int) * 125 * 2 ^ 32 * 10).tdiv ((n : Int) * 10 ^ 18 * 256 * 1000000 * 36)

/-- The energies of a quadrant (R268) by quantity: active, reactive, apparent. -/
def quadrantQs (k : Nat) : Nat × Nat × Nat :=
  match k with
  | 1 => (0, 2, 6)
  | 2 => (1, 3, 7)
  | 3 => (1, 4, 7)
  | _ => (0, 5, 6)

/-- A demand in W (R292). -/
def demandW (inc duration nominal : Int) : Int := (inc * 3600).tdiv (max duration nominal)

/-- `max_dem_w[t]` of metering point `m`. -/
def maxDemAddr (m t : Nat) : Nat := if m < 8 then RegA.maxDemW m t else RegD.maxDemW (m - 8) t

/-- `max_dem_time[t]`. -/
def maxTimeAddr (m t : Nat) : Nat := if m < 8 then RegA.maxDemTime m t else RegD.maxDemTime (m - 8) t

/-- `dem_last_w`. -/
def demLastAddr (m : Nat) : Nat := if m < 8 then RegA.demLastW m else RegD.demLastW (m - 8)

/-- A register of a stored set advanced, with its compact values (R287). -/
def advanceStored (m q t : Nat) (d : Int) (regs : UMap Int) : UMap Int :=
  let v := UMap.get pointDefault regs (regAddr m q t) + d
  UMap.put pointDefault (UMap.put pointDefault (UMap.put pointDefault regs (regAddr m q t) v) (cregAddr m q t) (v / 100000 % 4294967296))
    (wrapsAddr m q t) (v / 100000 / 4294967296)

/-- A maximum demand of a stored set raised by a demand `d` of the interval that ended at `endMs` (R292). -/
def raiseStored (m t : Nat) (d endMs : Int) (regs : UMap Int) : UMap Int :=
  if UMap.get pointDefault regs (maxDemAddr m t) < d then
    UMap.put pointDefault (UMap.put pointDefault regs (maxDemAddr m t) d) (maxTimeAddr m t) endMs
  else regs

/-- An interval record advanced by the part of a cycle before its end: `d` milli-units of quantity `q`, under tariff `t` (R286). -/
def IntervalRec.advance (q t : Nat) (d : Int) (r : IntervalRec) : IntervalRec :=
  { r with
    inc := r.inc.set q (r.inc.getD q 0 + d)
    impT := if q = 0 then r.impT.set t (r.impT.getD t 0 + d) else r.impT }

/-- The running interval without `d` milli-units under tariff `t` that belong to the interval before it. -/
def OpenInterval.skip (m q t : Nat) (d : Int) (x : OpenInterval) : OpenInterval :=
  let up := fun (b : UMap Int) (a : Nat) => UMap.put (fun _ => 0) b a (UMap.get (fun _ => 0) b a + d)
  { x with base := up (up x.base (regAddr m q 8)) (regAddr m q t) }

/-- What a boundary closed before the part of a cycle that lies before it was known takes that part: the interval record with the
demand formed of it, and the billing period's registers (R286, R292, R293). -/
def Lane.latePart (m q : Nat) (c : CycleCut) (d : Int) (l : Lane) : Lane :=
  let own := fun (r : IntervalRec) => decide (r.point = m) && decide (r.seq = c.record)
  let l1 := if c.record = 0 then l else l.met! (fun x => { x with
    openI := UMap.put (fun _ => {}) x.openI m ((UMap.get (fun _ => {}) x.openI m).skip m q c.tariff d)
    profile := x.profile.map (fun r => if own r then r.advance q c.tariff d else r) })
  let stored := fun (f : UMap Int → UMap Int) (l : Lane) => l.met! (fun x => { x with
    periods := x.periods.map (fun p => if p.no + 1 = c.period then { p with regs := f p.regs } else p) })
  let l2 := if c.period = 0 then l1
    else stored (fun regs => advanceStored m q 8 d (advanceStored m q c.tariff d regs)) l1
  match l2.met.profile.find? own with
  | some r =>
    if q ≠ 0 then l2
    else
      let dem := fun (inc : Int) => demandW inc r.durationMs r.nomMs
      let dT := dem (r.impT.getD c.tariff 0)
      let l3 := l2.setp (demLastAddr m) (dem (r.inc.getD 0 0))
      if c.period ≠ 0 then
        stored (fun regs => UMap.put pointDefault (raiseStored m c.tariff dT r.endMs regs) (demLastAddr m) (dem (r.inc.getD 0 0))) l3
      else if l3.p (maxDemAddr m c.tariff) < dT then (l3.setp (maxDemAddr m c.tariff) dT).setp (maxTimeAddr m c.tariff) r.endMs
      else l3
  | none => l2

/-- Energy of one quantity of a cycle, divided at the cut a boundary made in it (R286): the part before the cut goes to
the tariff, the closed interval record and the period before it. -/
def Lane.cycleCredit (m q : Nat) (e : Int) (n : Nat) (cut : Option CycleCut) (l : Lane) : Lane :=
  match cut with
  | none => l.addEnergy m q l.tariff e
  | some c =>
    let e0 := if n = 0 then 0 else (e * (c.n : Int)).tdiv (n : Int)
    let l1 := l.addEnergy m q c.tariff e0
    let l2 := l1.latePart m q c (l1.p (regAddr m q 8) - l.p (regAddr m q 8))
    l2.addEnergy m q l2.tariff (e - e0)

/-- The running cycle of every AC point divided at this instant (R286), where nothing has divided it before; `f` says what closes. -/
def Lane.cutCycles (f : Nat → CycleCut → CycleCut) (l : Lane) : Lane :=
  l.forN 8 (fun m l =>
    let a := l.acPt m
    if a.n = 0 then l
    else
      match a.cut with
      | none => l.setAc m { a with cut := some (f m { n := a.n, tariff := l.tariff }) }
      | some c => if c.n = a.n then l.setAc m { a with cut := some (f m c) } else l)

/-- Σ P, Σ Q and Σ S of the `count` samples of an AC point that ended `skip` samples ago (R268). -/
def Lane.blockTotals (l : Lane) (n skip count : Nat) : Int × Int × Int :=
  totals ((l.elements n).map (elemSum (((l.acPt n).buf.drop skip).take count)))

/-- The AC point's cycle or block of `count` samples and length `t256` ended `skip` samples ago (R268); the samples since then
begin the next. A boundary in it divides it, one after it stays for the next (R286). -/
def Lane.acBlock (n t256 skip count : Nat) (l : Lane) : Lane :=
  let x := l.acPt n
  let t := l.blockTotals n skip count
  let k := quadrant t.1 t.2.1
  let qs := quadrantQs k
  let r := l.ranges n
  let e := fun (s : Int) => cycleEnergy s count t256 r.1 r.2
  let cut := x.cut.map (fun c => { c with n := min c.n count })
  let l1 := ((l.cycleCredit n qs.1 (e t.1) count cut).cycleCredit n qs.2.1 (e t.2.1) count cut).cycleCredit n qs.2.2
    (e t.2.2) count cut
  let later := x.cut.bind (fun c => if count < c.n then some { c with n := c.n - count } else none)
  let l2 := l1.setAc n { l1.acPt n with n := skip, part := 0, cut := later, ready := x.ready || decide (skip + count ≤ x.fresh) }
  (if l2.p Mp.refState = 1 then l2 else l2.setp (Ac.quadrant n) k).endWindow n 6 (decide (0 < skip))

/-- The reference channel of an AC point (R267): the first voltage channel whose RMS value over the last 20 ms is at least 10% of
range. -/
def Lane.referenceOf (l : Lane) (n : Nat) : Option Nat :=
  let xs := (l.acPt n).buf.take 160
  if xs.length < 160 then none
  else [0, 1, 2].find? (fun k => decide (160 * 100000000 ^ 2 ≤ sumOf xs (fun s => s.v.getD k 0 * s.v.getD k 0)))

/-- The instant of a positive-going zero crossing of the reference between the last two samples, interpolated linearly, in 1/256 of a
sample (R267). -/
def Lane.crossing (l : Lane) (n : Nat) : Option Nat :=
  match l.referenceOf n, (l.acPt n).buf with
  | some k, a :: b :: _ =>
    let x := a.v.getD k 0
    let y := b.v.getD k 0
    if y < 0 ∧ 0 ≤ x then some (256 * l.met.tick - (x * 256 / (x - y)).toNat) else none
  | _, _ => none

/-- A valid period of an AC point taken (R267), between the crossings at `from` and `till` in 1/256 of a sample: the period of the next
cycle's v⊥, the samples that the cycle held, and the frequency. -/
def Lane.takePeriod (n start till : Nat) (l : Lane) : Lane :=
  let t256 := till - start
  let l1 := l.setAc n { l.acPt n with period := t256, count := (till + 255) / 256 - (start + 255) / 256 }
  if l1.p Mp.refState = 1 then l1 else l1.setp (Ac.freqMhz n) ((1000 * 1000000 * 256 : Int).tdiv (t256 * 125))

/-- v⊥ of the samples of an AC point since its last cycle or block formed again with the quarter period now in force: a cycle's first sample
takes that of the cycle just ended (R267), a block after a lost reference or an invalid period a quarter of 1/`f_nom` (R269). -/
def Lane.requarter (n : Nat) (l : Lane) : Lane :=
  let x := l.acPt n
  let d := (l.quarter n : Int)
  let again := fun (j : Nat) (s : AcSample) =>
    { s with q := (List.range 3).map (fun k => delayed (((x.buf.drop j).take 192).map (fun r => r.v.getD k 0)) d) }
  l.setAc n { x with buf := (x.buf.take x.n).zipIdx.map (fun e => again e.2 e.1) ++ x.buf.drop x.n }

/-- The samples of the running cycle closed under the configuration that they were taken under, as that changes (R266). -/
def Lane.closePart (n : Nat) (l : Lane) : Lane :=
  let x := l.acPt n
  if x.n = 0 then l
  else
    let l1 := l.acBlock n (256 * x.n) 0 x.n
    l1.setAc n { l1.acPt n with part := x.part + x.n }

/-- CYCLE_END (R267, R268): the samples show a positive-going zero crossing of the reference, which ends a cycle; the sample at or
after the crossing begins the next. A length outside 14.29..23.81 ms (29,266..48,762 of 1/256 of a sample) leaves the cycle to fixed
blocks; in fixed-block operation two consecutive valid periods return the point to cycle measurement (R269), the samples since the
last block forming one of their own length (log entry 80). The gain windows of a point that is not enabled end as well (R260). -/
def Lane.cycleEnd (n : Nat) (l : Lane) : Lane :=
  match (if l.metFills then l.crossing n else none) with
  | none => l
  | some now =>
    let x := l.acPt n
    let l0 := l.setAc n { x with cross := some now }
    let start := x.cross.getD now
    let t256 := now - start
    if !l.metEnabled n then l0.endWindow n 6 true
    else if t256 < 29266 ∨ 48762 < t256 then
      let l1 := l0.setAc n { l0.acPt n with fixed := true, goodRun := 0 }
      if x.fixed then l1 else l1.requarter n
    else if !x.fixed then ((l0.acBlock n (t256 - 256 * x.part) 1 (x.n - 1)).takePeriod n start now).requarter n
    else if x.goodRun = 0 then (l0.setAc n { l0.acPt n with goodRun := 1 }).takePeriod n start now
    else
      let l1 := if 1 < x.n then l0.acBlock n (256 * (x.n - 1)) 1 (x.n - 1) else l0
      ((l1.setAc n { l1.acPt n with fixed := false, goodRun := 0 }).takePeriod n start now).requarter n

/-- Whether an AC point measures in fixed blocks (R269): it does already, no channel qualifies as reference, or the running period is
longer than any valid one. -/
def Lane.inBlocks (l : Lane) (n : Nat) : Bool :=
  let x := l.acPt n
  x.fixed || (l.referenceOf n).isNone || decide (48762 < 256 * l.met.tick - x.cross.getD 0)

/-- FIXED_BLOCK_END (R269): 160 samples measured without a reference. -/
def Lane.fixedBlockEnd (n : Nat) (l : Lane) : Lane :=
  let x := l.acPt n
  if !(l.metFills && l.metEnabled n && l.inBlocks n) || decide (x.n + x.part < 160) then l
  else
    let l0 := if x.fixed then l else (l.setAc n { x with fixed := true, goodRun := 0 }).requarter n
    let count := 160 - x.part
    (l0.acBlock n (256 * count) (x.n - count) count).inc (Ac.fixedBlocks n)

/-- The sliding-window points of an AC point at the end of an epoch (R267). They keep their last valid values while the lane's references
differ (R41, R273), and wait for a window of samples after a change of configuration (R282). -/
def Lane.acPoints (n : Nat) (l : Lane) : Lane :=
  let x := l.acPt n
  let cnt := if x.fixed then 160 else max 1 x.count
  let xs := x.buf.take cnt
  let len := xs.length
  if len < cnt ∨ x.fresh < cnt ∨ l.p Mp.refState = 1 then l
  else
    let r := l.ranges n
    let m := (len : Int)
    let put := fun (k : Nat) (l : Lane) =>
      let e := elemSum xs k
      ((((l.setp (Ac.vRms n k) ((isqrt (e.vv / m).toNat : Int) * r.1 * 1000 / 10 ^ 9)).setp (Ac.iRms n k)
        ((isqrt (e.ii / m).toNat : Int) * r.2 * 1000 / 10 ^ 9)).setp (Ac.p n k)
        ((e.vi * r.1 * r.2).tdiv (m * 10 ^ 18))).setp (Ac.q n k) ((e.qi * r.1 * r.2).tdiv (m * 10 ^ 18)))
    let l1 := l.forL (l.elements n) put
    let t := totals ((l.elements n).map (elemSum xs))
    let w := fun (s : Int) => (s * r.1 * r.2).tdiv (m * 10 ^ 18)
    let l2 := ((l1.setp (Ac.pTotal n) (w t.1)).setp (Ac.qTotal n) (w t.2.1)).setp (Ac.sTotal n) (w t.2.2)
    l2.setAc n { l2.acPt n with ready := true }

/-- The epoch means of a DC point (R270); they keep their last valid values while the lane's references differ (R41, R273). -/
def Lane.dcPoints (d : Nat) (l : Lane) : Lane :=
  let x := l.dcPt d
  if x.n = 0 then l
  else if l.p Mp.refState = 1 then l.setDc d { x with n := 0, sv := 0, si := 0, sp := 0, sq := 0 }
  else
    let r := l.ranges (8 + d)
    let n := (x.n : Int)
    let l1 := (((l.setp (Dc.vMv d) ((x.sv * r.1 * 1000).tdiv (n * 10 ^ 9))).setp (Dc.iMa d)
      ((x.si * r.2 * 1000).tdiv (n * 10 ^ 9))).setp (Dc.pW d) ((x.sp * r.1 * r.2).tdiv (n * 10 ^ 18))).setp (Dc.iSqA2 d)
      ((x.sq * r.2 * r.2).tdiv (n * 10 ^ 18))
    l1.setDc d { x with n := 0, sv := 0, si := 0, sp := 0, sq := 0, ready := true }

/-- The status of a metering point's measurements (R41, R273, R280, R282). -/
def Lane.metStatus (l : Lane) (m : Nat) : Nat :=
  if !l.metEnabled m then 4
  else if l.p Mp.mpState = 1 ∨ l.p Mp.refState = 1 then 2
  else if (if m < 8 then (l.acPt m).ready else (l.dcPt (m - 8)).ready) then 0
  else 1

/-- The status of an S0 input's count (R275, R280). -/
def Lane.s0Status (l : Lane) (s : Nat) : Nat :=
  if l.c (S0.s0Enable s) ≠ 1 then 4
  else if l.p Mp.mpState = 1 ∨ l.p Mp.refState = 1 ∨ l.p (S0.s0Fault s) ≠ 0 then 2
  else 0

/-- The control set of the epoch that ends (R258): the values of every enabled point with their status, 0 before a first
measurement. -/
def Lane.controlSet (l : Lane) : ControlSet :=
  let ac := (List.range 8).filter (fun n => l.metStatus n = 0 || l.metStatus n = 2)
  let dc := (List.range 32).filter (fun d => l.metStatus (8 + d) = 0 || l.metStatus (8 + d) = 2)
  let s0 := (List.range 16).filter (fun s => l.s0Status s != 4)
  let st := fun (n : Nat) (f : Nat → Nat) => (List.range n).foldl (fun (m : UMap Nat) k => UMap.put (fun _ => 4) m k (f k)) []
  let mk := fun (ks : List Nat) (f : Nat → Int) =>
    ks.foldl (fun (m : UMap Int) k => UMap.put (fun _ => 0) m k (f k)) []
  { epoch := l.epoch
    acP := mk ac (fun n => l.p (Ac.pTotal n))
    acQ := mk ac (fun n => l.p (Ac.qTotal n))
    acS := mk ac (fun n => l.p (Ac.sTotal n))
    dcV := mk dc (fun d => l.p (Dc.vMv d))
    dcI := mk dc (fun d => l.p (Dc.iMa d))
    dcP := mk dc (fun d => l.p (Dc.pW d))
    dcSq := mk dc (fun d => l.p (Dc.iSqA2 d))
    acSt := st 8 l.metStatus
    dcSt := st 32 (fun d => l.metStatus (8 + d))
    s0 := mk s0 (fun s => l.p (S0.s0Count s))
    s0St := st 16 l.s0Status
    energy := l.met.epochE }

/-- The metering points of the epoch that ends, and its control set. -/
def Lane.meterEpochEnd (l : Lane) : Lane :=
  let l1 := l.forN 8 (fun n l => if l.metEnabled n then l.acPoints n else l)
  let l2 := l1.forN 32 (fun d l => if l.metEnabled (8 + d) then l.dcPoints d else l)
  l2.met! (fun x => { x with own := l2.controlSet, epochE := [] })

/-! ### Checks -/

/-- The binary exponent and the mantissa, in 2^−40, of a positive number in 2^−40, on at most so many doublings or halvings. -/
def normalise : Nat → Int → Int → Int × Int
  | 0, e, m => (e, m)
  | f + 1, e, m =>
    if 2 ^ 41 ≤ m then normalise f (e + 1) (m / 2)
    else if m < 2 ^ 40 then normalise f (e - 1) (m * 2)
    else (e, m)

/-- The terms y + y³/3 + y⁵/5 + … of the inverse hyperbolic tangent, in 2^−40, `k` the exponent of the next one. -/
def atanhSum : Nat → Int → Int → Int → Int
  | 0, _, _, _ => 0
  | f + 1, y2, p, k => p / k + atanhSum f y2 (p * y2 / 2 ^ 40) (k + 2)

/-- The natural logarithm of a positive number, both in 2^−40: ln m = 2 artanh ((m − 1) / (m + 1)) for the mantissa and ln 2 for each
binary place. -/
def lnQ (x : Int) : Int :=
  let r := normalise 80 0 x
  let y := (r.2 - 2 ^ 40) * 2 ^ 40 / (r.2 + 2 ^ 40)
  r.1 * 762123384786 + 2 * atanhSum 13 (y * y / 2 ^ 40) y 1

/-- The temperature of an NTC in m°C from its resistance in mΩ by the beta equation (R265), T = 1 / (1/298.15 K + ln(R/R25) / β);
none where the equation gives none, at a resistance of 0 or one too low for it. -/
def ntcMilliC (res25c beta : Int) (milliOhm : Nat) : Option Int :=
  if milliOhm = 0 then none
  else
    let ln := lnQ ((milliOhm : Int) * 2 ^ 40 / (res25c * 1000))
    let den := 100 * beta * 2 ^ 40 + 29815 * ln
    if den ≤ 0 then none else some (298150 * beta * 2 ^ 40 * 100 / den - 273150)

/-- The point that shows the temperature of metering point `m` (R267). -/
def sensorAt (m : Nat) : Nat := if m < 8 then Ac.tSensor m else Dc.tSensor (m - 8)

/-- The point that counts the NTC faults of metering point `m` (R265). -/
def ntcFaultsAt (m : Nat) : Nat := if m < 8 then Ac.ntcFaults m else Dc.ntcFaults (m - 8)

/-- The temperature of point `m` that a resistance of its NTC gives with the point's own two fields of the beta equation (R265). -/
def Lane.ntcValue (l : Lane) (m milliOhm : Nat) : Option Int :=
  if m < 8 then ntcMilliC (l.c (Ac.ntcRes25c m)) (l.c (Ac.ntcBeta m)) milliOhm
  else ntcMilliC (l.c (Dc.ntcRes25c (m - 8))) (l.c (Dc.ntcBeta (m - 8))) milliOhm

/-- The table entries of every channel of metering point `m` evaluated at the point's temperature (R264). -/
def Lane.evalComp (m : Nat) (l : Lane) : Lane :=
  let x := l.ntcOf m
  let n := if m < 8 then 6 else 2
  let y := { x with gain := (List.range n).map (fun c => compEval (l.compTable false m c) x.t)
                    phase := (List.range n).map (fun c => compEval (l.compTable true m c) x.t) }
  l.met! (fun z => { z with ntc := UMap.put (fun _ => {}) z.ntc m y })

/-- NTC_READ (R265): the temperature of point `m` computed from its NTC's resistance. A reading outside −50..+150 °C is a
fault that keeps the last plausible value. The table entries of every channel are evaluated (R264). -/
def Lane.ntcRead (m milliOhm : Nat) (l : Lane) : Lane :=
  if !l.metRuns then l
  else
    let t := (l.ntcValue m milliOhm).getD 1000000
    let ok := decide (-50000 ≤ t ∧ t ≤ 150000)
    let x := l.ntcOf m
    let t1 := if ok then t else x.t
    let l1 := ((l.met! (fun z => { z with
      ntc := UMap.put (fun _ => {}) z.ntc m { x with t := t1, known := x.known || ok } })).evalComp m).setp (sensorAt m) t1
    if ok then l1
    else
      let l2 := l1.inc (ntcFaultsAt m)
      if m < 8 then l2.fire (64 + m) m [Config.eventCause 2] else l2

/-- REFERENCE_CHECK (R273): the difference of the ADC references in ppm. `points` is the variant's number of AC points. -/
def Lane.referenceCheck (points : Nat) (ppm : Int) (l : Lane) : Lane :=
  let bad := decide (100 < absN ppm)
  let l1 := l.setp Mp.refDevPpm ppm
  if bad && decide (l.p Mp.refState = 0) then
    (l1.setp Mp.refState 1).forN points (fun n l => l.fire (64 + n) n [Config.eventCause 3])
  else if bad then l1
  else l1.setp Mp.refState 0

/-- MP_CRC_CHECK (R280): the CRC that the metrology processor computed over its image, and whether it is the value stored with the
image: for an image loaded by command the CRC of what was loaded, for the delivered one as the processor finds it (`same`). An image that
passes runs. -/
def Lane.mpCrcCheck (crc : Nat) (same : Bool) (l : Lane) : Lane :=
  let l1 := l.setp Mp.mpCrc crc
  let good := match l.link.metCrc with | some c => decide (crc = c) | none => same
  l1.setp Mp.mpState (if good then 0 else 1)

/-- The points of the lanes' deviation at metering point `m` (R272). -/
def devPpmAt (m : Nat) : Nat := if m < 8 then Ac.laneDevPpm m else Dc.laneDevPpm (m - 8)
def devEventsAt (m : Nat) : Nat := if m < 8 then Ac.laneDevEvents m else Dc.laneDevEvents (m - 8)

/-- The deviation of a lane's energy `o` of a second from the holder's `h`, in ppm; none where the holder's is 0. -/
def devPpm (h o : Int) : Int := if h = 0 then 0 else ((o - h) * 1000000).tdiv h

/-- The larger of the deviations of the two active energies of metering point `m` in the last second (R272). -/
def laneDevPpm (own holder : UMap Int) (m : Nat) : Int :=
  let d := fun (q : Nat) => devPpm (UMap.get (fun _ => 0) holder (2 * m + q)) (UMap.get (fun _ => 0) own (2 * m + q))
  if absN (d 0) < absN (d 1) then d 1 else d 0

/-- Whether an active energy of metering point `m` differs from the holder's by more than 0.1% of it and 0.002% of that of full
range (R272). -/
def Lane.devLarge (l : Lane) (holder : UMap Int) (m : Nat) : Bool :=
  let r := l.ranges m
  let full := (r.1 * r.2 * 1000 * 2 ^ 32 * (if m < 8 then 3 else 1)).tdiv 3600
  [0, 1].any (fun q =>
    let h := UMap.get (fun _ => 0) holder (2 * m + q)
    decide (((absN (UMap.get (fun _ => 0) l.met.secE (2 * m + q) - h) : Int) * 100000) > h * 100 + full * 2))

/-- METER_LANE_COMPARE (R272): the standby's active energies of the last second against the holder's. -/
def Lane.meterCompare (l : Lane) (holder : Lane) : Lane :=
  let l1 := l.forN 40 (fun m l =>
    if !(l.metEnabled m) then l
    else
      let l1 := l.setp (devPpmAt m) (laneDevPpm l.met.secE holder.met.secE m)
      if l.devLarge holder.met.secE m then (l1.inc (devEventsAt m)).mark 7 else l1)
  l1.met! (fun x => { x with secE := [] })

/-! ### S0 inputs (R274, R275) -/

/-- The record of S0 input `s`. -/
def Lane.s0 (l : Lane) (s : Nat) : S0St := UMap.get (fun _ => {}) l.met.s0 s

/-- The record of S0 input `s` replaced. -/
def Lane.setS0 (l : Lane) (s : Nat) (x : S0St) : Lane :=
  { l with met := { l.met with s0 := UMap.put (fun _ => {}) l.met.s0 s x } }

/-- S0_PULSE (R274): an ON state that began has lasted `onMs` ms; it counts once `onMs` reaches `s0_min_on_ms`. -/
def Lane.s0Pulse (s onMs : Nat) (l : Lane) : Lane :=
  if l.c (S0.s0Enable s) ≠ 1 then l
  else
    let x := l.s0 s
    let l1 := (l.setS0 s { x with onMs := some onMs }).setp (S0.s0State s) 1
    if !x.counted && decide (l.cn (S0.s0MinOnMs s) ≤ onMs) then
      (l1.setS0 s { l1.s0 s with counted := true }).inc (S0.s0Count s)
    else l1

/-- An S0 fault counted and reported. -/
def Lane.s0Fault (s : Nat) (code : Int) (l : Lane) : Lane :=
  if l.p (S0.s0Fault s) = code then l
  else ((l.setp (S0.s0Fault s) code).inc (S0.s0Faults s)).fire 121 s [code]

/-- S0_STUCK (R275): ON for longer than `s0_max_on_ms`. -/
def Lane.s0Stuck (s onMs : Nat) (l : Lane) : Lane :=
  if l.c (S0.s0Enable s) = 1 ∧ l.cn (S0.s0MaxOnMs s) < onMs ∧ (l.s0 s).onMs ≠ none then
    (l.setS0 s { l.s0 s with onMs := some onMs }).s0Fault s 1
  else l

/-- S0_OFF_TRANSITION (R274, R275): a too-short ON state is a glitch; a stuck fault clears. -/
def Lane.s0Off (s : Nat) (l : Lane) : Lane :=
  if l.c (S0.s0Enable s) ≠ 1 then l
  else
    let x := l.s0 s
    let l1 := (l.setS0 s { x with onMs := none, counted := false }).setp (S0.s0State s) 0
    let l2 := if x.onMs.isSome && !x.counted then l1.inc (S0.s0Glitches s) else l1
    if l2.p (S0.s0Fault s) = 1 then l2.setp (S0.s0Fault s) 0 else l2

/-- S0_LANE_DISAGREE (R275): the lanes' counts have differed for more than 1 s. -/
def Lane.s0Disagree (l : Lane) (other : Lane) (s : Nat) : Lane :=
  if l.c (S0.s0Enable s) = 1 ∧ l.p (S0.s0Count s) ≠ other.p (S0.s0Count s) then l.s0Fault s 2 else l

/-! ### Pulse outputs (R276 to R278) -/

/-- The pulse width in ticks of 125 µs (R277). -/
def poWidth (backlog : Int) (due : List Nat) : Nat :=
  if 1 < backlog then 16
  else
    match due with
    | [] => 240
    | [_] => 240
    | d :: _ =>
      let n := due.length - 1
      let mean := (d - due.getD n d) / n
      min 240 (max 16 (mean / 2))

/-- PULSE_OUTPUT_TICK (R277): the holder starts a pulse when one is backlogged and the pause has lasted as long as the
last pulse. -/
def Lane.pulseTick (u : Nat) (l : Lane) : Lane :=
  let x := l.po u
  let b := l.p (Po.poBacklog u)
  if !x.level && decide (x.width ≤ l.met.tick - x.since) && decide (0 < b) then
    let w := poWidth b x.due
    ((l.setPo u { x with level := true, since := l.met.tick, width := w }).setp (Po.poBacklog u) (b - 1)).setp
      (Po.poWidthUs u) (w * 125)
  else l

/-- PULSE_END (R277): a pulse that has lasted its width ends. -/
def Lane.pulseEnd (u : Nat) (l : Lane) : Lane :=
  let x := l.po u
  if x.level && decide (x.width ≤ l.met.tick - x.since) then
    (l.setPo u { x with level := false, since := l.met.tick }).inc (Po.poEmitted u)
  else l

/-- The state of pulse output `u` mirrored from the holder (R278), its instants in the lane's own ticks. -/
def Lane.mirrorPulse (l : Lane) (holder : Lane) (u : Nat) : Lane :=
  let x := holder.po u
  ((((l.setPo u { x with
    since := l.met.tick - (holder.met.tick - x.since), due := x.due.map (fun d => l.met.tick - (holder.met.tick - d)) }).setp (Po.poBacklog u)
    (holder.p (Po.poBacklog u))).setp (Po.poDue u) (holder.p (Po.poDue u))).setp (Po.poEmitted u)
    (holder.p (Po.poEmitted u))).setp (Po.poWidthUs u) (holder.p (Po.poWidthUs u))

/-! ### What arrives over the lane link (R258, R259, R297) -/

/-- The S0 counts that nodes with an S0 meter keep over their windows (R204): one entry for each epoch in which the count
changed, newest first, and the latest one from before the window. -/
def Lane.s0Kept (l : Lane) : Lane :=
  let c := l.alloc.ctl
  l.forL ((usedNodes l.cfg).filter (fun x => decide (l.c (Pool.meterKind x) = 2))) (fun x l =>
    let now := UMap.get (fun _ => 0) c.s0 (l.cn (Pool.meterIndex x))
    let past := (l.pool x).s0Past
    let all := if past.head?.map Prod.snd = some now then past else (c.epoch, now) :: past
    let inside := all.takeWhile (fun e => decide (c.epoch < e.1 + l.cn (Pool.s0WindowMs x)))
    l.setPool x { l.pool x with s0Past := inside ++ (all.drop inside.length).take 1 })

/-- The measurements of every point wait for a first one again, after a wake (R282). -/
def Lane.meterFresh (l : Lane) : Lane :=
  l.met! (fun x => { x with
    ac := x.ac.map (fun e => (e.1, { e.2 with fresh := 0, ready := false }))
    dc := x.dc.map (fun e => (e.1, { e.2 with ready := false })) })

/-- The metrology at a power-up: channels at ×1 (R260), no plausible temperature yet (R265), no measurement complete (R282). -/
def Lane.meterPowerUp (l : Lane) : Lane :=
  let l1 := l.met! (fun x => { x with
    chans := [], ntc := []
    ac := x.ac.map (fun e => (e.1, ({} : AcSt)))
    dc := x.dc.map (fun e => (e.1, ({} : DcSt))) })
  l1.forN 40 (fun m l =>
    let l1 := l.forN (if m < 8 then 6 else 2) (fun c l => l.gainShown m c false)
    if l1.metEnabled m then l1.evalComp m else l1)

/-- CONTROL_SET_RECEIVE (R258, R259): at lap 2 the holder's values of the last epoch are taken for control. -/
def Lane.takeControl (l : Lane) (src : Lane) : Lane :=
  if l.lapIn = 2 then ({ l with alloc := { l.alloc with ctl := src.met.own } } : Lane).s0Kept else l

/-- The legal time in ms. -/
def Lane.legalMs (l : Lane) : Int := (l.met.legal / 8 : Nat)

/-- HOLDER_SAMPLE_RECEIVE (R258, R259, R278): the holder's DC samples serve for supervision and its pulse outputs are mirrored. -/
def Lane.holderSample (l : Lane) (holder : Lane) (outlets : Nat) : Lane :=
  let l1 := l.forN outlets (fun o l => l.supervise o holder)
  let l2 := l1.forN 4 (fun u l => l.mirrorPulse holder u)
  l2.met! (fun x => { x with lastHolderTick := some x.tick })

end Sys2Proof.Machine
end

