-- ==== Sys2Proof/Machine/Billing.lean ====
section
/-!
DEFINITION. Billing registers, tariffs and meter security of one lane (R285 to R315): the legal calendar, intervals,
demand and billing periods, the legal clock, the power-fail store, adoption, signed session records, logs, tamper and
the legal display. Local times are legal local time in ms; `end_ms` fields are legal UTC.
-/

namespace Sys2Proof.Machine

/-! ### The legal calendar (R290, R294, R295) -/

/-- Day number since 1970-01-01 of a date. -/
def daysOf (y m d : Int) : Int :=
  let y1 := if m ≤ 2 then y - 1 else y
  let era := y1 / 400
  let yoe := y1 - era * 400
  let mp := if 2 < m then m - 3 else m + 9
  let doy := (153 * mp + 2) / 5 + d - 1
  era * 146097 + (yoe * 365 + yoe / 4 - yoe / 100 + doy) - 719468

/-- Year, month and day of a day number. -/
def dateOf (days : Int) : Int × Int × Int :=
  let z := days + 719468
  let era := z / 146097
  let doe := z - era * 146097
  let yoe := (doe - doe / 1460 + doe / 36524 - doe / 146096) / 365
  let doy := doe - (365 * yoe + yoe / 4 - yoe / 100)
  let mp := (5 * doy + 2) / 153
  let d := doy - (153 * mp + 2) / 5 + 1
  let m := if mp < 10 then mp + 3 else mp - 9
  ((if m ≤ 2 then yoe + era * 400 + 1 else yoe + era * 400), m, d)

/-- One day in ms. -/
def dayMs : Int := 86400000

/-- Legal local time (R290). -/
def Lane.localMs (l : Lane) : Int := l.legalMs + l.c Cal.tzOffsetMin * 60000

/-- A local time as legal UTC. -/
def Lane.toUtc (l : Lane) (t : Int) : Int := t - l.c Cal.tzOffsetMin * 60000

/-- The used special days, with year, month, day and profile (R294). -/
def specialDays (m : UMap Int) : List (Int × Int × Int × Nat) :=
  ((cfgUnits m (Cal.special 0) 64 1).filter (fun e => bitAt e.2.toNat 31)).map
    (fun e => let w := e.2.toNat; ((bitsAt w 27 16 : Int), (bitsAt w 15 12 : Int), (bitsAt w 11 7 : Int), bitsAt w 4 0))

/-- The used seasons, with start month and day, and season number (R294). -/
def seasons (m : UMap Int) : List (Int × Int × Nat) :=
  (List.range 4).filterMap (fun s =>
    let w := (cfgAt m (Cal.seasonStart s)).toNat
    if bitAt w 31 then some ((bitsAt w 11 8 : Int), (bitsAt w 4 0 : Int), s) else none)

/-- The later of two season starts, by month and day. -/
def laterSeason (a b : Int × Int × Nat) : Int × Int × Nat :=
  if 32 * b.1 + b.2.1 < 32 * a.1 + a.2.1 then a else b

/-- The day profile of a day (R295). -/
def dayProfile (m : UMap Int) (days : Int) : Nat :=
  let d := dateOf days
  let sp := specialDays m
  match sp.find? (fun e => e.1 == d.1 && e.2.1 == d.2.1 && e.2.2.1 == d.2.2) with
  | some e => e.2.2.2
  | none =>
    match sp.find? (fun e => e.1 == 0 && e.2.1 == d.2.1 && e.2.2.1 == d.2.2) with
    | some e => e.2.2.2
    | none =>
      let ss := seasons m
      let before := ss.filter (fun e => decide (32 * e.1 + e.2.1 ≤ 32 * d.2.1 + d.2.2))
      let pick := if before.isEmpty then ss else before
      match pick with
      | [] => 0
      | s :: rest =>
        let b := rest.foldl laterSeason s
        (cfgAt m (Cal.seasonDay b.2.2 ((days + 3) % 7).toNat)).toNat

/-- The used switch points of a day profile, minute and tariff, in rising order of the minute (R294, R295). -/
def switchPoints (m : UMap Int) (p : Nat) : List (Int × Nat) :=
  let xs := ((cfgUnits m (Cal.daySw p 0) 16 1).filter (fun e => bitAt e.2.toNat 31)).map
    (fun e => ((bitsAt e.2.toNat 26 16 : Int), bitsAt e.2.toNat 2 0))
  xs.foldl (fun acc x => acc.takeWhile (fun y => decide (y.1 ≤ x.1)) ++ x :: acc.dropWhile (fun y => decide (y.1 ≤ x.1))) []

/-- The tariff in force at local time `t` (R295): that of the day's last switch point by then, else `eve`, the tariff in force at the end
of the day before. -/
def tariffAt (m : UMap Int) (eve : Nat) (t : Int) : Nat :=
  match ((switchPoints m (dayProfile m (t / dayMs))).filter (fun e => decide (e.1 ≤ t % dayMs / 60000))).getLast? with
  | some e => e.2
  | none => eve

/-- The next instant after `t` at which the calendar may change the tariff: a switch point of the day, else midnight. -/
def nextSwitch (m : UMap Int) (t : Int) : Int :=
  let day := t / dayMs
  match (switchPoints m (dayProfile m day)).find? (fun e => decide (t < day * dayMs + e.1 * 60000)) with
  | some e => day * dayMs + e.1 * 60000
  | none => (day + 1) * dayMs

/-- The first billing close after `t` (R293). -/
def nextBilling (m : UMap Int) (t : Int) : Int :=
  let d := dateOf (t / dayMs)
  let day := cfgAt m Cal.billCloseDay
  let here := daysOf d.1 d.2.1 day * dayMs
  if t < here then here
  else if d.2.1 = 12 then daysOf (d.1 + 1) 1 day * dayMs else daysOf d.1 (d.2.1 + 1) day * dayMs

/-! ### Logs (R311) -/

/-- A metrology log entry about a lane written (R311). -/
def Lane.logOf (lane kind : Nat) (detail : List Int) (l : Lane) : Lane :=
  let n := l.pn Cal.logEntries + 1
  let k := UMap.get (fun _ => 0) l.met.kindNo kind + 1
  let e : LogEntry := { number := n, kind := kind, kindNo := k, lane := lane, utcMs := l.legalMs, epoch := l.epoch
                        detail := detail }
  (l.met! (fun x => { x with log := (e :: x.log).take 1048576
                             kindNo := UMap.put (fun _ => 0) x.kindNo kind k })).setp Cal.logEntries n

/-- A metrology log entry of the lane's own written (R311). -/
def Lane.logEntry (kind : Nat) (detail : List Int) (l : Lane) : Lane := l.logOf l.id.num kind detail

/-! ### Intervals and demand (R290 to R292) -/

/-- The quantities of a metering point (R285). -/
def quantities (m : Nat) : List Nat := if m < 8 then [0, 1, 2, 3, 4, 5, 6, 7] else [0, 1]

/-- The register values of a point, total and per tariff. -/
def Lane.regSnapshot (l : Lane) (m : Nat) : UMap Int :=
  (quantities m).foldl (fun a q =>
    (List.range 9).foldl (fun (a : UMap Int) t => UMap.put (fun _ => 0) a (regAddr m q t) (l.p (regAddr m q t))) a) []

/-- The running interval of point `m`. -/
def Lane.openI (l : Lane) (m : Nat) : OpenInterval := UMap.get (fun _ => {}) l.met.openI m

/-- The running interval of point `m` replaced. -/
def Lane.setOpenI (l : Lane) (m : Nat) (x : OpenInterval) : Lane :=
  l.met! (fun y => { y with openI := UMap.put (fun _ => {}) y.openI m x })

/-- The metering points in use. -/
def Lane.metPoints (l : Lane) : List Nat := (List.range 40).filter l.metEnabled

/-- A flag taken back from the running interval of every point in use. -/
def Lane.unflagAll (n : Nat) (l : Lane) : Lane :=
  l.forL l.metPoints (fun m l => l.setOpenI m { l.openI m with flags := setBit (l.openI m).flags n false })

/-- A flag set in the running interval of every point in use (R291). -/
def Lane.flagAll (bit : Nat) (l : Lane) : Lane :=
  l.forL l.metPoints (fun m l => l.setOpenI m { l.openI m with flags := (l.openI m).flags ||| bit })

/-- The flags that the present state gives a record: `clock_invalid` and `seal_open` (R303, R312). -/
def Lane.stateFlags (l : Lane) : Nat :=
  (if l.p Cal.clockState = 1 then 16 else 0) + (if l.p Cal.sealState = 1 then 32 else 0)

/-- A point's demand of a closing interval against its maxima (R292). -/
def Lane.demands (m : Nat) (x : OpenInterval) (endMs : Int) (l : Lane) : Lane :=
  let dur : Int := (x.ticks / 8 : Nat)
  let nom := x.lenMs
  let d := fun (t : Nat) =>
    demandW (l.p (regAddr m 0 t) - UMap.get (fun _ => 0) x.base (regAddr m 0 t)) dur nom
  let l1 := l.forN 8 (fun t l =>
    if l.p (maxDemAddr m t) < d t then (l.setp (maxDemAddr m t) (d t)).setp (maxTimeAddr m t) endMs else l)
  l1.setp (demLastAddr m) (d 8)

/-- `profile_seq` of a point. -/
def seqAddr (m : Nat) : Nat := if m < 8 then RegA.profileSeq m else RegD.profileSeq (m - 8)

/-- The record of point `m` written and its next interval opened (R291). `endMs` is the scheduled end; the interval that opens has flags
`fl`, starts at local time `start` and has the length `len`, or that of the one it goes on from (R299). -/
def Lane.closePoint (endMs : Int) (fl : Nat) (start : Int) (len : Option Int) (m : Nat) (l : Lane) : Lane :=
  let x := l.openI m
  let n := l.pn (seqAddr m) + 1
  let r : IntervalRec :=
    { point := m, endMs := endMs, seq := n, durationMs := x.ticks / 8, flags := x.flags ||| l.stateFlags
      tariff := x.tariff
      inc := (quantities m).map (fun q => l.p (regAddr m q 8) - UMap.get (fun _ => 0) x.base (regAddr m q 8))
      impT := (List.range 8).map (fun t => l.p (regAddr m 0 t) - UMap.get (fun _ => 0) x.base (regAddr m 0 t))
      nomMs := x.lenMs, gen := if m < 8 then 0 else l.pn (Out.sessionGen (m - 8)) }
  let keep := fun (e : IntervalRec) => decide (endMs - e.endMs ≤ 400 * dayMs)
  let l1 := (l.demands m x endMs).setp (seqAddr m) n
  let l2 := l1.met! (fun y => { y with profile := r :: y.profile.filter keep })
  l2.setOpenI m
    { flags := fl ||| l2.stateFlags, tariff := l2.tariff, base := l2.regSnapshot m, startMs := start, lenMs := len.getD x.lenMs }

/-- The interval that runs at a point not in use, which writes no record: its start, length and tariff hold for the point once a commit
enables it (R291, R292). -/
def Lane.idlePoint (fl : Nat) (start : Int) (len : Option Int) (m : Nat) (l : Lane) : Lane :=
  l.setOpenI m { flags := fl, tariff := l.tariff, base := l.regSnapshot m, startMs := start, lenMs := len.getD (l.openI m).lenMs }

/-- The running interval of every point in use closed and the next one opened (R290, R299); the running AC cycles are divided (R286). -/
def Lane.closePoints (endMs : Int) (fl : Nat) (start : Int) (len : Option Int) (l : Lane) : Lane :=
  let l1 := (l.forL l.metPoints (Lane.closePoint endMs fl start len)).forL ((List.range 40).filter (fun m => !l.metEnabled m))
    (Lane.idlePoint fl start len)
  l1.cutCycles (fun m c => { c with record := l.pn (seqAddr m) + 1 })

/-- The next boundary after local time `t` under the interval length in force (R290). -/
def Lane.boundaryAfter (l : Lane) (t : Int) : Int :=
  let len := l.c Cal.intervalMin * 60000
  (t / len + 1) * len

/-- A boundary applied (R290): records written where `rec`, the next interval opened and marked `short` where it is
shorter than its length. -/
def Lane.applyBoundary (wr : Bool) (fl : Nat) (l : Lane) : Lane :=
  let b := l.met.nextBoundary
  let nb := l.boundaryAfter b
  let short := if nb - b < l.c Cal.intervalMin * 60000 then 128 else 0
  let endMs := l.toUtc b
  let split := if l.met.splitOpen then l.flagAll 1 else l
  let l1 := if wr then
      ((split.closePoints endMs (fl ||| short) b (some (l.c Cal.intervalMin * 60000))).met! (fun x => { x with splitOpen := false })).fire 98 0 [endMs]
    else l
  (l1.met! (fun x => { x with
    lastBoundary := b, nextBoundary := nb
    lastClosed := l1.pts })).setp Cal.intervalEndMs (l1.toUtc nb)

/-- INTERVAL_CLOSE (R290): applied only when legal local time has reached the boundary, and not while the accumulators are frozen after a
loss of supply (R302). -/
def Lane.intervalClose (l : Lane) : Lane :=
  if l.met.lossTicks.isNone ∧ l.met.nextBoundary ≤ l.localMs then l.applyBoundary true 0 else l

/-! ### Billing periods and tariff (R293, R295) -/

/-- Every register and maximum demand by address (R293). -/
def Lane.periodRegs (l : Lane) : UMap Int :=
  l.pts.filter (fun e => decide (0x60000 ≤ e.1 ∧ e.1 < 0x6C000))

/-- The maximum demands of every point returned to 0 (R293). -/
def Lane.clearDemand (l : Lane) : Lane :=
  l.forN 40 (fun m l => l.forN 8 (fun t l => (l.setp (maxDemAddr m t) 0).setp (maxTimeAddr m t) 0))

/-- The session-to-lane generations of the outlets (R60). -/
def Lane.sessionGens (l : Lane) : UMap Nat :=
  (List.range 32).foldl (fun m o => UMap.put (fun _ => 0) m o (l.pn (Out.sessionGen o))) []

/-- The billing period closed at local time `b` (R293); the running AC cycles are divided (R286). -/
def Lane.applyBilling (b : Int) (l : Lane) : Lane :=
  let r : PeriodRec := { no := l.pn Cal.periodNo, startMs := l.met.periodStart, endMs := l.toUtc b, regs := l.periodRegs, gens := l.sessionGens }
  let l1 := (l.cutCycles (fun _ c => { c with period := r.no + 1 })).met! (fun x => { x with
    periods := (r :: x.periods).take 36, lastPeriod := b, periodStart := l.toUtc b })
  ((l1.clearDemand).setp Cal.periodNo (r.no + 1 : Nat)).fire 99 0 [(r.no : Int)]

/-- The tariff in force at the end of the day before `day` (R295): as it was when that day was first evaluated, else the present one. -/
def Lane.eveTariff (l : Lane) (day : Int) : Nat :=
  match (l.met.dayTariffs.filter (fun e => decide (day ≤ e.1))).getLast? with
  | some e => e.2
  | none => l.tariff

/-- The tariff evaluated at local time `t` (R295); a change divides the running AC cycles and fires event 100. An interval that starts
at that instant starts under the new tariff (R291, R301). -/
def Lane.evalTariff (t : Int) (l : Lane) : Lane :=
  let old := l.tariff
  let day := t / dayMs
  let eve := l.eveTariff day
  let new := tariffAt l.cfg eve t
  let known := l.met.dayTariffs.any (fun e => decide (day ≤ e.1))
  let l0 := l.met! (fun x => { x with
    tariffAt := t, dayTariffs := if known then x.dayTariffs else ((day, eve) :: x.dayTariffs).take 400 })
  if new = old then l0
  else
    let l1 := (l0.cutCycles (fun _ c => c)).setp Cal.tariffNow new
    (l1.forN 40 (fun m l =>
      if (l.openI m).startMs = t then l.setOpenI m { l.openI m with tariff := new } else l)).fire 100 0 [(new : Int)]

/-- Everything scheduled up to local time `upTo` applied in order of time; at equal times interval, period, tariff (R301).
`recs` counts the interval records still to be written, `fl` is set in every interval that opens. -/
def Lane.applyDue (upTo : Int) (fl : Nat) : Nat → Nat → Lane → Lane
  | 0, _, l => l
  | f + 1, recs, l =>
    let bi := l.met.nextBoundary
    let bb := nextBilling l.cfg l.met.lastPeriod
    let bt := nextSwitch l.cfg l.met.tariffAt
    if upTo < bi ∧ upTo < bb ∧ upTo < bt then l
    else if bi ≤ bb ∧ bi ≤ bt then Lane.applyDue upTo fl f (recs - 1) (l.applyBoundary (decide (0 < recs)) fl)
    else if bb ≤ bt then Lane.applyDue upTo fl f recs (l.applyBilling bb)
    else Lane.applyDue upTo fl f recs (l.evalTariff bt)

/-- Everything scheduled up to local time `upTo` applied (R301). No more can fall due than three events a minute. -/
def Lane.applyAll (upTo : Int) (fl recs : Nat) (l : Lane) : Lane :=
  let first := min l.met.nextBoundary (min l.met.lastPeriod l.met.tariffAt)
  l.applyDue upTo fl (3 * ((upTo - first) / 60000 + 2).toNat) recs

/-- BILLING_CLOSE (R293, R301): interval boundaries due at or before the close come first. -/
def Lane.billingClose (l : Lane) : Lane :=
  let b := nextBilling l.cfg l.met.lastPeriod
  if l.met.lossTicks.isSome ∨ l.localMs < b then l
  else
    let l1 := if l.met.nextBoundary ≤ b then l.intervalClose else l
    l1.applyBilling b

/-- TARIFF_EVALUATION (R295, R301): intervals and periods that are due are closed first, and switches that lie behind come in their
order. -/
def Lane.tariffEvaluation (l : Lane) : Lane :=
  let now := l.localMs
  let due := decide (l.met.nextBoundary ≤ now) || decide (nextBilling l.cfg l.met.lastPeriod ≤ now)
  if l.met.lossTicks.isSome then l
  else (if due then l.applyAll now 0 ((now - l.met.nextBoundary) / 60000 + 1).toNat else l).evalTariff now

/-! ### The legal clock (R296 to R300) -/

/-- The clock stepped to `t` (legal UTC ms), with the boundaries that a forward step passes applied; `recs` of them write
a record. -/
def Lane.stepClock (t : Int) (recs : Nat) (l : Lane) : Lane :=
  let old := l.localMs
  let l1 := l.met! (fun x => { x with legal := (t * 8).toNat })
  let l2 := if old < l1.localMs then l1.applyAll l1.localMs 0 recs else l1
  l2.evalTariff l2.localMs

/-- Whether a `CLOCK_SET` by Δ lies within the limit of a lane whose clock is valid (R298). -/
def Lane.clockWithin (l : Lane) (delta : Int) (valid : Bool) : Bool :=
  valid && decide ((absN delta : Int) ≤ l.c Cal.clockLimitS * 1000)

/-- `CLOCK_SET` carried out (R298, R299) at legal UTC `t`, as the holder has judged it. -/
def Lane.clockSet (t : Int) (within : Bool) (l : Lane) : Lane :=
  let before := l.legalMs
  if within then
    let l1 := ((l.inc Cal.adjWithin).flagAll 2).stepClock t 1
    (l1.logEntry 1 [before, t]).fire 96 0 [t - before]
  else
    let endMs := l.toUtc l.met.nextBoundary
    let l1 := (l.flagAll 1)
    let l2 := l1.closePoints endMs 1 (t + l.c Cal.tzOffsetMin * 60000) none
    let l3 := ((l2.unflagAll 4).met! (fun x => { x with
      splitOpen := true
      sessions := x.sessions.map (fun e => (e.1, if e.2.endMs.isNone then { e.2 with flags := e.2.flags ||| 2 } else e.2)) })).setp
        Cal.clockState 0
    ((l3.stepClock t 0).logEntry 2 [before, t] |>.inc Cal.splits).fire 97 0 [before, t]

/-- The legal time with the steps that wait made (R298). -/
def Lane.clockAhead (l : Lane) : Int := l.legalMs + (l.met.clockSteps.map ClockStep.delta).foldl (· + ·) 0

/-- A `CLOCK_SET` taken (R298): the step by the holder's Δ waits for the first sample after the lap. -/
def Lane.clockAsk (delta : Int) (within : Bool) (l : Lane) : Lane :=
  l.met! (fun x => { x with clockSteps := x.clockSteps ++ [⟨l.lap, delta, within⟩] })

/-- The steps that wait for a sample made, each by its own Δ. -/
def Lane.clockStep (l : Lane) : Lane :=
  (l.met! (fun x => { x with clockSteps := [] })).forL l.met.clockSteps (fun e l => l.clockSet (l.legalMs + e.delta) e.within)

/-- The steps made at the first sample of a later lap (R298). -/
def Lane.clockDue (l : Lane) : Lane :=
  if l.met.clockSteps.any (fun e => decide (e.lap < l.lap) || !l.pacer.laps) then l.clockStep else l

/-- The standby's legal clock follows the holder's (R297): from regaining one on it steps to the holder's time, which applies the boundaries
and switches passed and shows in `clock_follow_ms`. -/
def Lane.followClock (l : Lane) (holder : Lane) : Lane :=
  if holder.met.clockSteps ≠ [] then l
  else
    let step := holder.legalMs - l.legalMs
    let l1 := if l.met.follows then l
      else (if step = 0 then l else l.stepClock holder.legalMs 1).setp Cal.clockFollowMs step
    l1.met! (fun x => { x with legal := holder.met.legal, follows := true })

/-! ### Seal and tamper (R312 to R314) -/

/-- A change of the CAL SEAL switch (R312). -/
def Lane.sealChange (opened : Bool) (l : Lane) : Lane :=
  let v := b01 opened
  if l.p Cal.sealState = v then l
  else
    let l1 := (l.setp Cal.sealState v).logEntry 3 [v]
    let l2 := l1.inc Cal.sealCounter
    let l3 := if opened then l2.flagAll 32 else l2
    l3.fire 95 0 [l3.p Cal.sealCounter]

/-- The sum of `pack_i` × `pack_i_fs` over an outlet's packs, in mA (R313). -/
def Lane.packSumMa (l : Lane) (o : Nat) : Int :=
  (outletPacks l.cfg o).foldl (fun a k => a + (l.p (Pk.packI k) * l.packIFs k * 1000).tdiv (2 ^ 31)) 0

/-- Whether cause 1 or 2 holds at outlet `o` (R313). -/
def Lane.dcTamper (l : Lane) (cause o : Nat) : Bool :=
  let i := l.p (Dc.iMa o)
  let s := l.packSumMa o
  let r := l.c (Dc.iRangeA o) * 1000
  decide (l.p (Out.contactorState o) = 1) &&
  (if cause = 1 then
    decide (i * s < 0) && decide (r * 2 ≤ (absN i : Int) * 100) && decide (r * 2 ≤ (absN s : Int) * 100)
   else decide (max ((absN s : Int) * 3) r ≤ (s - i) * 100))

/-- Whether cause 3 holds at AC point `n` (R313). -/
def Lane.neutralTamper (l : Lane) (n : Nat) : Bool :=
  let xs := (l.acPt n).buf.take (if (l.acPt n).fixed then 160 else max 1 (l.acPt n).count)
  let m := max 1 xs.length
  let sum := sumOf xs (fun s => let a := s.v.getD 0 0 + s.v.getD 1 0 + s.v.getD 2 0; a * a)
  let rms := (isqrt (sum / m).toNat : Int) / 3
  let phase := fun k => (isqrt ((sumOf xs (fun s => s.v.getD k 0 * s.v.getD k 0)) / m).toNat : Int)
  decide (l.c (Ac.wiring n) = 0) && decide (100000000 ≤ rms) && [0, 1, 2].any (fun k => decide (500000000 ≤ phase k))

/-- A tamper condition's record brought up to date at the end of an epoch (R313). -/
def TamperSt.scan (epoch : Nat) (holds : Bool) (x : TamperSt) : TamperSt :=
  if holds then { x with since := if x.since = 0 then epoch + 1 else x.since, clear := 0 }
  else
    let clear := if x.recorded then (if x.clear = 0 then epoch + 1 else x.clear) else 0
    if x.recorded && decide (60000 ≤ epoch + 1 - clear) then {} else { x with since := 0, clear := clear }

/-- The tamper record of a cause and point. -/
def Lane.tamper (l : Lane) (cause point : Nat) : TamperSt := UMap.get (fun _ => {}) l.met.tampers (64 * cause + point)

/-- The tamper record of a cause and point replaced. -/
def Lane.setTamper (l : Lane) (cause point : Nat) (x : TamperSt) : Lane :=
  l.met! (fun y => { y with tampers := UMap.put (fun _ => {}) y.tampers (64 * cause + point) x })

/-- The epoch by which tamper conditions are timed: the always-on domain's where no laps run (R314). -/
def Lane.tamperEpoch (l : Lane) : Nat := if l.lapping then l.epoch else l.pacer.aoEpoch

/-- The conditions that follow from measurements, at the end of an epoch, in every power state (R314). -/
def Lane.tamperScan (l : Lane) : Lane :=
  let l1 := l.forN 32 (fun o l =>
    if l.metEnabled (8 + o) then
      (l.setTamper 1 o ((l.tamper 1 o).scan l.tamperEpoch (l.dcTamper 1 o))).setTamper 2 o
        ((l.tamper 2 o).scan l.tamperEpoch (l.dcTamper 2 o))
    else l)
  l1.forN 8 (fun n l =>
    if l.metEnabled n then l.setTamper 3 n ((l.tamper 3 n).scan l.tamperEpoch (l.neutralTamper n)) else l)

/-- Whether a condition has held for its time (R313): 2 s, 10 s and 5 s for causes 1 to 3; the contacts of causes 4 and 5
and the cartridge event of cause 6 act at once, and again once they have been clear for 60 s. -/
def Lane.tamperDue (l : Lane) (cause point clearMs : Nat) : Bool :=
  let x := l.tamper cause point
  let held := fun (ms : Nat) => decide (x.since ≠ 0 ∧ ms ≤ l.tamperEpoch + 1 - x.since)
  match cause with
  | 1 => !x.recorded && held 2000
  | 2 => !x.recorded && held 10000
  | 3 => !x.recorded && held 5000
  | 4 => !x.recorded || decide (60000 ≤ clearMs)
  | 5 => !x.recorded || decide (60000 ≤ clearMs)
  | 6 => !x.recorded || decide (60000 ≤ clearMs)
  | _ => false

/-- `update_block` (R387): a record of cause 4, 5 or 6 is unacknowledged. -/
def Lane.showBlock (l : Lane) : Lane :=
  l.setp Key.updateBlock (b01 (l.met.unacked.any (fun e => decide (4 ≤ e.2 ∧ e.2 ≤ 6))))

/-- Whether a tamper record of a cause and point concerns the session at outlet `o` (R309): causes 1 and 2 that of their own DC point,
the others every session. -/
def tampersSession (cause point o : Nat) : Bool := decide (3 ≤ cause) || decide (point = o)

/-- A tamper record written (R313, R314): the log entry, event 94, and event 105 until it is acknowledged; the open sessions it concerns
carry it (R309). -/
def Lane.writeTamper (cause point : Nat) (values : List Int) (l : Lane) : Lane :=
  let n := l.pn Cal.tamperCounter + 1
  let l1 := (l.setTamper cause point { l.tamper cause point with recorded := true, clear := 0 }).logEntry 6
    ((cause : Int) :: (point : Int) :: values)
  let l2 := ((l1.setp Cal.tamperCounter n).met! (fun x => { x with
    unacked := x.unacked ++ [(n, cause)]
    sessions := x.sessions.map (fun e => (e.1,
      if e.2.endMs.isNone && tampersSession cause point e.1 then { e.2 with flags := e.2.flags ||| 8 } else e.2)) })).inc
        Cal.tamperUnacked
  ((l2.showBlock.flagAll 256).fire 94 n [(cause : Int)]).fire 105 0 [(n : Int)]

/-- A tamper record (R313, R314): the record, event 94, and event 105 until it is acknowledged; the open sessions it concerns carry
it (R309). `clearMs` is how long the contact of cause 4 or 5 had been closed before. -/
def Lane.tamperRecord (cause point clearMs : Nat) (values : List Int) (l : Lane) : Lane :=
  if !l.tamperDue cause point clearMs then l
  else match l.keys.apply with
  | some a =>
    if 4 ≤ cause ∧ a.tampers.all (fun t => t.1 ≠ cause ∨ t.2.1 ≠ point) = true then
      { l with keys := { l.keys with apply := some { a with tampers := a.tampers ++ [(cause, point, clearMs, values)] } } }
    else if 4 ≤ cause then l
    else l.writeTamper cause point values
  | none => l.writeTamper cause point values


/-- A tamper record acknowledged (R316). -/
def Lane.tamperAck (n ring : Nat) (l : Lane) : Lane :=
  let l1 := (l.met! (fun x => { x with unacked := x.unacked.filter (fun k => k.1 != n) })).addp Cal.tamperUnacked (-1)
  (l1.logEntry 11 [(n : Int), (ring : Int)]).showBlock

/-! ### The power-fail store (R302 to R304) -/

/-- What one copy of the store holds (R302). -/
def Lane.storeNow (l : Lane) : StoreCopy :=
  { seq := l.met.storeSeq + 1
    regs := l.pts.filter (fun e => decide (0x60000 ≤ e.1 ∧ e.1 < 0x70000))
    rem := l.met.rem, open_ := l.met.openI, sessions := l.met.sessions, legal := l.met.legal, epoch := max l.epoch l.pacer.aoEpoch
    lastBoundary := l.met.lastBoundary, nextBoundary := l.met.nextBoundary, unacked := l.met.unacked, tampers := l.met.tampers }

/-- SUPPLY_LOSS as the metrology processor takes it (R301, R302): what falls due at that instant, accumulators frozen, the outage start
mark, and the store written to the older copy. Event 101 fires. -/
def Lane.meterLoss (l : Lane) : Lane :=
  if l.met.lossTicks.isSome then l
  else
    let due := max (max l.met.nextBoundary (nextBilling l.cfg l.met.lastPeriod)) (nextSwitch l.cfg l.met.tariffAt)
    let l1 := (l.applyAll l.localMs 0 (due.toNat + 1)).logEntry 7 []
    let c := l1.storeNow
    let l2 := l1.met! (fun x => { x with
      lossTicks := some x.legal, storeSeq := c.seq
      store0 := if c.seq % 2 = 1 then some c else x.store0
      store1 := if c.seq % 2 = 0 then some c else x.store1 })
    l2.fire 101 l.id.num [Config.eventCause 4]

/-- The copy that a restore takes: the newer one whose CRC holds (R303). -/
def MetSt.pickStore (m : MetSt) (ok0 ok1 : Bool) : Option StoreCopy :=
  match (if ok0 then m.store0 else none), (if ok1 then m.store1 else none) with
  | some a, some b => if a.seq < b.seq then some b else some a
  | some a, none => some a
  | none, r => r

/-- The domain 6 points of a list put in place of the present ones. -/
def Lane.putRegs (regs : UMap Int) (l : Lane) : Lane :=
  { l with pts := (l.pts.filter (fun e => decide (e.1 < 0x60000))) ++ regs
      ++ l.pts.filter (fun e => decide (0x70000 ≤ e.1)) }

/-- The always-on epoch counter after a loss of supply (R108): that of the store, advanced by the time without supply, and never
behind a number already used. -/
def Lane.epochRestore (c : Option StoreCopy) (adv : Nat) (l : Lane) : Lane :=
  let e := match c with
    | some x => x.epoch
    | none => l.pacer.aoEpoch
  { l with pacer := { l.pacer with aoEpoch := max l.pacer.aoEpoch (e + adv) } }

/-- What was latched while the metrology was off written at the start (R312, R314): a tamper record bears the latched time while the
legal clock is valid, and everything else the time of the start. -/
def Lane.replay (t0 start : Nat) (x : Latch) (l : Lane) : Lane :=
  let at_ := fun (t : Nat) (l : Lane) => l.met! (fun x => { x with legal := t })
  match x with
  | .seal opened => l.sealChange opened
  | .tamper cause point clearMs downMs values =>
    at_ start ((at_ (if l.p Cal.clockState = (0 : Int) then t0 + 8 * downMs else start) l).tamperRecord cause point clearMs values)

/-- Whether a latch is of the seal. -/
def Latch.isSeal (x : Latch) : Bool :=
  match x with
  | .seal _ => true
  | .tamper .. => false

/-- The latches written: the tamper records before any other entry, each kind in its order (R314). -/
def Lane.replayAll (t0 : Nat) (l : Lane) : Lane :=
  let xs := l.met.latches.reverse
  (l.met! (fun x => { x with latches := [] })).forL (xs.filter (fun x => !x.isSeal) ++ xs.filter Latch.isSeal)
    (fun x l => l.replay t0 l.met.legal x)

/-- What the chosen copy of the store holds put back; with neither copy valid, the registers closed last and an interval that starts
from them (R303, R304). The metrology starts anew with it. -/
def Lane.storeBack (c : Option StoreCopy) (l : Lane) : Lane :=
  let l1 := match c with
    | some c => (l.putRegs c.regs).met! (fun x => { x with
        rem := c.rem, openI := c.open_, sessions := c.sessions, unacked := c.unacked, tampers := c.tampers
        lastBoundary := c.lastBoundary, nextBoundary := c.nextBoundary })
    | none =>
      let regs := fun (e : Nat × Int) => decide (0x60000 ≤ e.1 ∧ e.1 < 0x6C000)
      let l0 := l.putRegs (l.met.lastClosed.filter regs
        ++ l.pts.filter (fun (e : Nat × Int) => decide (0x6C000 ≤ e.1 ∧ e.1 < 0x70000)))
      (l0.met! (fun x => { x with rem := [], sessions := [] })).forL l0.metPoints (fun m l =>
        l.setOpenI m { tariff := l.tariff, base := l.regSnapshot m, startMs := l.met.lastBoundary, lenMs := l.c Cal.intervalMin * 60000 })
  l1.showBlock.meterPowerUp

/-- SUPPLY_RESTORE as the metrology processor takes it (R303, R304): `ms` is the time the backup store kept, `clockOk`
whether the legal clock ran throughout, `ok0`/`ok1` which copies' CRCs hold. Beside a lane that metered throughout the loss is no
outage, and everything is taken from that lane (R308). -/
def Lane.meterRestore (ms : Nat) (clockOk ok0 ok1 held : Bool) (l : Lane) : Lane :=
  match l.met.lossTicks with
  | none => l
  | some t0 =>
    let back := fun (l : Lane) => l.met! (fun x => { x with lossTicks := none, legal := t0 + ms * 8 })
    if held then
      -- supply came back within the hold-up: the frozen time counts, and is a gap unless the other lane's samples filled it (R302, R305)
      let l1 := ((back l).replayAll t0).forL l.metPoints
        (fun m l => l.addp (if m < 8 then RegA.gapMs m else RegD.gapMs (m - 8)) ms)
      if l.met.partner then l1 else l1.flagAll 8
    else
      let c := l.met.pickStore ok0 ok1
      let l1 := (back (l.storeBack c)).setp Cal.storeState (if c.isNone then 2 else if ok0 && ok1 then 0 else 1)
      let l2 := (if clockOk then l1 else l1.setp Cal.clockState 1).replayAll t0
      let l3 := if c.isNone then (l2.logEntry 9 [l2.met.lastBoundary]).flagAll 512 else l2
      let l4 := l3.epochRestore c (if clockOk then ms else 1)
      if l.met.partner then l4.fire 101 l.id.num [Config.eventCause 5]
      else
        let l5 := l4.flagAll 4
        let l6 := if l5.p Cal.clockState = (0 : Int) then l5.applyAll l5.localMs 4 (ms / 60000 + 2) else l5
        ((l6.logEntry 8 [(ms : Int)]).inc Cal.outages).fire 101 l.id.num [Config.eventCause 5]

/-- Whether a latch is of the cartridge event of the lane of that number, which the other lane records (R313 cause 6). -/
def Latch.ofLane (x : Latch) (n : Nat) : Bool :=
  match x with
  | .tamper 6 point _ _ _ => decide (point = n)
  | _ => false

/-- A change at a contact as the lane's metrology takes it (R312, R314): at once, or latched while the lane is unpowered. -/
def Lane.contact (x : Latch) (l : Lane) : Lane :=
  if l.met.lossTicks.isSome || !l.power.aoOn then l.met! (fun m => { m with latches := x :: m.latches })
  else
    match x with
    | .seal opened => l.sealChange opened
    | .tamper cause point clearMs _ values => l.tamperRecord cause point clearMs values

/-! ### Adoption and copying (R306 to R308) -/

/-- A session accumulator moved by what an adoption adds to the total import, the total export and each tariff's import (R306). -/
def SessionAcc.move (imp exp : Int) (tariffs : List Int) (x : SessionAcc) : SessionAcc :=
  let add := fun (xs : List Int) => xs.zipWith (· + ·) tariffs
  { x with
    impStart := x.impStart + imp, expStart := x.expStart + exp, tariffStart := add x.tariffStart
    impEnd := x.impEnd + imp, expEnd := x.expEnd + exp, tariffEnd := add x.tariffEnd }

/-- The latest interval record of point `m`. -/
def Lane.lastRecord (l : Lane) (m : Nat) : Option IntervalRec := l.met.profile.find? (fun r => decide (r.point = m))

/-- INTERVAL_ADOPTION (R306): the standby takes the holder's records and registers of the interval that both have just closed; its own
open interval goes on from there, and its sessions move by the same amounts. A record of another session-to-lane generation is discarded
and counted (R62, R247). -/
def Lane.adopt (l : Lane) (holder : Lane) : Lane :=
  if !l.met.copied then l
  else
    l.forL l.metPoints (fun m l =>
      match (holder.lastRecord m).filter (fun r => (l.lastRecord m).any (fun e => decide (e.endMs = r.endMs))) with
      | none => l
      | some r =>
        if 8 ≤ m ∧ r.gen ≠ l.pn (Out.sessionGen (m - 8)) then l.inc (Sd.staleDiscards 3)
        else
        let hb := (holder.openI m).base
        let mine := (l.openI m).base
        let moved := fun (q t : Nat) => UMap.get (fun _ => 0) hb (regAddr m q t) - UMap.get (fun _ => 0) mine (regAddr m q t)
        let l1 := (quantities m).foldl (fun (l : Lane) q => (List.range 9).foldl (fun (l : Lane) t =>
          if moved q t = 0 then l else l.addReg m q t (moved q t)) l) l
        let l2 := (l1.setOpenI m { l1.openI m with base := hb }).setp
          (if m < 8 then RegA.adoptDevMwh m else RegD.adoptDevMwh (m - 8)) (moved 0 8)
        let l3 := (l2.met! (fun x => { x with
          profile := r :: x.profile.filter (fun e => !(decide (e.point = m) && decide (e.seq = r.seq))) })).setp
          (seqAddr m) r.seq
        if m < 8 then l3
        else l3.met! (fun x => { x with sessions := x.sessions.map (fun e =>
          if e.1 = m - 8 then (e.1, e.2.move (moved 0 8) (moved 1 8) ((List.range 8).map (moved 0))) else e) }))

/-- Everything that R308 copies from the holder to a lane that resynchronises. -/
def Lane.copyMetrology (l : Lane) (holder : Lane) : Lane :=
  (l.putRegs (holder.pts.filter (fun e => decide (0x60000 ≤ e.1 ∧ e.1 < 0x70000)))).met! (fun x => { x with
    rem := holder.met.rem, openI := holder.met.openI, profile := holder.met.profile, periods := holder.met.periods
    log := holder.met.log, records := holder.met.records, sessions := holder.met.sessions, legal := holder.met.legal
    kindNo := holder.met.kindNo, unacked := holder.met.unacked, lastBoundary := holder.met.lastBoundary
    nextBoundary := holder.met.nextBoundary, lastPeriod := holder.met.lastPeriod, periodStart := holder.met.periodStart
    tariffAt := holder.met.tariffAt, dayTariffs := holder.met.dayTariffs, splitOpen := holder.met.splitOpen, clockSteps := holder.met.clockSteps, tampers := holder.met.tampers, copied := true })

/-! ### Signed session records (R309) -/

/-- The open session accumulator of outlet `o`. -/
def Lane.sessionAcc (l : Lane) (o : Nat) : Option SessionAcc := (l.met.sessions.find? (fun e => e.1 == o)).map Prod.snd

/-- The outlet contactors closed: the session's energies start (R309). -/
def Lane.sessionOpen (o : Nat) (l : Lane) : Lane :=
  if (l.sessionAcc o).isSome then l
  else
    let m := 8 + o
    let s : SessionAcc :=
      { startMs := l.legalMs, impStart := l.p (regAddr m 0 8), expStart := l.p (regAddr m 1 8)
        tariffStart := (List.range 8).map (fun t => l.p (regAddr m 0 t)), gapStart := l.p (RegD.gapMs o)
        flags := if l.p Cal.clockState = 1 then 16 else 0 }
    l.met! (fun x => { x with sessions := UMap.insert o s (UMap.erase x.sessions o) })

/-- The outlet contactors opened: the session's energies end (R309). -/
def Lane.sessionClose (o : Nat) (l : Lane) : Lane :=
  match l.sessionAcc o with
  | none => l
  | some s =>
    if s.endMs.isSome then l
    else
    let m := 8 + o
    let s2 := { s with
      flags := s.flags ||| (if l.p Cal.clockState = 1 then 16 else 0)
      endMs := some l.legalMs, impEnd := l.p (regAddr m 0 8), expEnd := l.p (regAddr m 1 8)
      tariffEnd := (List.range 8).map (fun t => l.p (regAddr m 0 t)) }
    l.met! (fun x => { x with sessions := UMap.insert o s2 (UMap.erase x.sessions o) })

/-- Bytes 0..247 of a signed session record as fields (R309). -/
def Lane.recordFields (l : Lane) (o n : Nat) (s : SessionAcc) : List Field :=
  let x := l.out o
  let flags := s.flags ||| (if x.takeovers = 0 then 0 else 1) ||| (if x.faulted then 32 else 0)
    ||| (if l.p (RegD.gapMs o) = s.gapStart then 0 else 4)
  [(1, 1), (1, (flags : Int)), (2, (o : Int)), (8, (n : Int)), (8, l.p D0.serialLo), (8, l.p D0.serialHi),
   (8, l.p (Out.sessionId o)), (6, (x.evccid : Int)), (2, (x.idMode : Int))]
  ++ ((List.range 64).map (fun k => (1, if x.idMode = 0 then 0 else (x.contractId.getD k 0 : Int))))
  ++ [(8, s.startMs), (8, s.endMs.getD 0), (8, s.impStart), (8, s.impEnd), (8, s.expStart), (8, s.expEnd)]
  ++ ((List.range 8).map (fun t => (8, s.tariffEnd.getD t 0 - s.tariffStart.getD t 0)))
  ++ [(8, l.p Mp.mpImageId), (4, l.p Mp.mpCrc), (4, l.p (Out.sessionGen o)), (2, (l.role Key.roleMeterSign : Int)),
      (2, (x.takeovers : Int)), (4, l.p (RegD.gapMs o) - s.gapStart), (4, 0)]

/-- The record made when a session in which the contactors closed enters `UNLATCH` (R309): numbered in one sequence,
signed by the holder. -/
def Lane.signRecord (o : Nat) (l : Lane) : Lane :=
  match l.sessionAcc o with
  | none => l
  | some s =>
    let n := l.pn Cal.recordsSigned + 1
    let f := l.recordFields o n s
    let k := l.askKey engMeter (l.role Key.roleMeterSign) 1
    let sig := if !k.2 then some (0, 0) else if l.link.grant then some (Config.signature l.id.num f) else none
    let l1 := k.1.met! (fun x => { x with
      records := ({ no := n, fields := f, sig := sig } :: x.records).take 100000
      sessions := x.sessions.filter (fun e => e.1 != o) })
    (l1.setp Cal.recordsSigned n).fire 102 o [(n : Int)]

/-- The outlet and the session-to-lane generation that a signed record carries (R309). -/
def SignedRec.outlet (r : SignedRec) : Nat := (r.fields.getD 2 (0, 0)).2.toNat
def SignedRec.gen (r : SignedRec) : Int := (r.fields.getD (r.fields.length - 5) (0, 0)).2

/-- SIGNED_RECORD_RECEIVE (R309): the standby stores the holder's signed record of that number; a record of another generation than
the session's is discarded and counted (R62, R247). -/
def Lane.takeRecord (l : Lane) (holder : Lane) (n : Nat) : Lane :=
  match holder.met.records.find? (fun r => decide (r.no = n)) with
  | none => l
  | some r =>
    if r.gen ≠ l.p (Out.sessionGen r.outlet) then l.inc (Sd.staleDiscards 3)
    else l.met! (fun x => { x with records := x.records.map (fun e => if e.no = n then r else e) })

/-- The `key_slot` field of a record's fields replaced (R309, R386); it is the fourth field from the end but one. -/
def withSlot (f : List Field) (slot : Int) : List Field :=
  (f.take (f.length - 4)) ++ [(2, slot)] ++ f.drop (f.length - 3)

/-- Records that a takeover left unsigned are signed by the new holder (R309); records kept with a zero signature are
signed once a usable signing key is in place, with event 102 again for each (R386). -/
def Lane.signOwed (l : Lane) : Lane :=
  if !(decide (l.deliveryStatus engMeter (l.role Key.roleMeterSign) 1 = st_OK) && l.link.grant) then l
  else
    let slot := (l.role Key.roleMeterSign : Int)
    let owed := l.met.records.filter (fun r => decide (r.sig = some (0, 0)))
    let l1 := l.met! (fun x => { x with records := x.records.map (fun r =>
      if r.sig = none then { r with sig := some (Config.signature l.id.num r.fields) }
      else if r.sig = some (0, 0) then
        { r with fields := withSlot r.fields slot, sig := some (Config.signature l.id.num (withSlot r.fields slot)) }
      else r) })
    l1.forL owed.reverse (fun r l => l.fire 102 ((r.fields.getD 2 (0, 0)).2.toNat) [(r.no : Int)])

/-! ### The legal display (R315) -/

/-- DISPLAY_SCROLL (R315): after `scroll_dwell_s` the next item; an entry of kind 0 or the list's end returns to the
first. -/
def Lane.displayScroll (l : Lane) : Lane :=
  if l.proxClock < l.met.displayLap + 200000 * l.cn Cal.scrollDwellS then l
  else
  let nxt := l.met.display + 1
  let go := if 32 ≤ nxt then 0 else if bitsAt (l.cn (Cal.scroll nxt)) 31 24 = 0 then 0 else nxt
  l.met! (fun x => { x with display := go, displayLap := l.proxClock })

/-- The number that an item of kind 3 shows: whole kWh, kvarh or kVAh in 10 digits (R288). -/
def displayRegister (reg : Int) : Int := reg / 1000000 % 10000000000

/-- What the display shows: the item's position 01..32, its kind and parameter, the values that its kind shows, and whether SEAL stands
beside them (R312, R315). -/
structure Shown where
  position : Nat
  kind : Nat
  param : Nat
  values : List Int
  sealShown : Bool
deriving DecidableEq, Repr

/-- The metering point that the parameter of kind 3 or 4 names (R315). -/
def itemPoint (w : Nat) : Nat := if bitAt w 23 then 8 + bitsAt w 20 16 else bitsAt w 20 16

/-- The values that an item of a kind shows (R315), `of` the lane that the parameter of kinds 7 and 8 names: the date as year, month and
day, the time as hour, minute and second, a demand in W with the time of its interval's end. The test of kind 12 shows no value. -/
def Lane.itemValues (l : Lane) (of : Lane) (kind w : Nat) : List Int :=
  let m := itemPoint w
  match kind with
  | 1 => let d := dateOf (l.localMs / dayMs); [d.1, d.2.1, d.2.2]
  | 2 => let t := l.localMs % dayMs / 1000; [t / 3600, t / 60 % 60, t % 60]
  | 3 => [displayRegister (l.p (regAddr m (bitsAt w 11 8) (bitsAt w 3 0)))]
  | 4 => [l.p (maxDemAddr m (bitsAt w 3 0)), l.p (maxTimeAddr m (bitsAt w 3 0))]
  | 5 => [l.p Cal.tariffNow]
  | 6 => [(l.p D0.serialHi * 2 ^ 64 + l.p D0.serialLo) % 10000000000]
  | 7 => [of.p Mp.mpImageId]
  | 8 => [of.p Mp.mpCrc]
  | 9 => [l.p Cal.sealCounter]
  | 10 => [l.p Cal.tamperCounter, l.p Cal.tamperUnacked]
  | 11 => [l.p Cal.clockState, l.p Cal.adjWithin, l.p Cal.splits]
  | _ => []

/-- A scroll item as delivered (R315): total active import of AC point 0 is that of DC point 0 on a variant without AC points. -/
def scrollOn (v : Variant) (w : Nat) : Nat := if v.acPoints = 0 ∧ w = 0x03000008 then 0x03800008 else w

/-- What the display shows of a lane's list and values; `lanes` gives the lane of a number, 0 the holder (R315). -/
def Lane.displayItem (l : Lane) (v : Variant) (lanes : Nat → Lane) : Shown :=
  let w := scrollOn v (l.cn (Cal.scroll l.met.display))
  let kind := bitsAt w 31 24
  { position := l.met.display + 1, kind := kind, param := bitsAt w 23 0
    values := l.itemValues (lanes (bitsAt w 23 0)) kind w, sealShown := decide (l.p Cal.sealState = 1) }

end Sys2Proof.Machine
end

