-- ==== Sys2Proof/Machine/Sessions.lean ====
section
/-!
DEFINITION. Outlets and vehicle sessions of one lane (R230 to R253, R531, R532): the steps and their entry actions,
faults and hold conditions, the vehicle's messages, the step limits, and the end of degraded cooling.
-/

namespace Sys2Proof.Machine

/-! ### Steps (R239) -/

/-- Session step codes of R239. -/
def ssIdle : Int := 0
def ssPlugged : Int := 1
def ssLink : Int := 2
def ssAuth : Int := 3
def ssParam : Int := 4
def ssConnect : Int := 5
def ssIsolation : Int := 6
def ssPrecharge : Int := 7
def ssEvClose : Int := 8
def ssCharge : Int := 9
def ssRampdown : Int := 10
def ssEvOpen : Int := 11
def ssDischarge : Int := 12
def ssOpen : Int := 13
def ssUnlatch : Int := 14
def ssBlocked : Int := 15

/-- The step of outlet `o`. -/
def Lane.ss (l : Lane) (o : Nat) : Int := l.p (Out.sessionStep o)

/-- Event 0 + o (R90): step, fault code, generation. -/
def Lane.outEvent (o : Nat) (l : Lane) : Lane :=
  l.fire o o [l.ss o, l.p (Out.faultCode o), l.p (Out.sessionGen o)]

/-- Laps in a number of milliseconds (R24: a lap is 5 µs). -/
def msLaps (ms : Nat) : Nat := ms * 200

/-- Both contactors open, as `contactor_state` shows (R531). -/
def Lane.contactorsOpen (l : Lane) (o : Nat) : Bool := decide (l.p (Out.contactorState o) = 0)

/-- The DC point voltage is at most 60 V (R245). -/
def Lane.cableSafe (l : Lane) (o : Nat) : Bool := decide ((l.out o).vDc ≤ 60000)

/-- The outlet current is at most 5 A (R244). -/
def Lane.currentLow (l : Lane) (o : Nat) : Bool := decide ((absN (l.out o).iDc : Int) ≤ 5000)

/-- Every pack of the outlet is in a given state. -/
def Lane.packsAll (l : Lane) (o : Nat) (st : Int) : Bool := (outletPacks l.cfg o).all (fun k => decide (l.p (Pk.packState k) = st))

/-- Whether a Class P function of the outlet or of the module is tripped, or function 1 holds after its expiry
(R240, R334). -/
def Lane.tripped (l : Lane) (o : Nat) : Bool :=
  let bad := fun (v : Int) => decide (v = 2 ∨ v = 3)
  (List.range 7).any (fun i => bad (l.p (Saf.fnState o i))) || (List.range 3).any (fun i => bad (l.p (SafM.fnStateMod i)))

/-- The ramp of R242 starts from the present `OUTLET_V`. -/
def Lane.rampStart (o : Nat) (l : Lane) : Lane :=
  l.setOut o { l.out o with rampUv := l.outletUv o, shortCount := 0, tolSince := none, isoSince := none }

/-- The latch commanded unlocked where R234 allows it: contactors open, and commanded so, and the cable at most 60 V. -/
def Lane.unlatch (o : Nat) (l : Lane) : Lane :=
  if !(l.out o).ctrCmd && l.contactorsOpen o && l.cableSafe o && (l.out o).latchCmd then
    l.setOut o { l.out o with latchCmd := false, latchLap := l.lap }
  else l

/-! ### Faults and holds (R249, R250) -/

/-- The hold conditions of a fault code as a mask of `blocked` codes (R249, R250). -/
def holdMask (code : Nat) : Nat :=
  match code with
  | 1 => 64
  | 2 => 2 + 8
  | 3 => 4
  | 7 => 4
  | 9 => 2 + 8
  | 14 => 2 + 8
  | 15 => 4 + 8
  | 16 => 4
  | 17 => 16
  | 18 => 8
  | 0 => 0
  | _ => 2

/-- The `blocked` code that the open conditions show: the lowest-numbered (R250). -/
def blockedCode (holds : Nat) (hostBlock : Bool) : Int :=
  let m := setBit holds 5 hostBlock
  match [1, 2, 3, 4, 5, 6].find? (fun (n : Nat) => bitAt m n) with
  | some n => (n : Int)
  | none => 0

/-- `blocked` brought up to date; a change fires event 0 + o (R90). -/
def Lane.reblock (o : Nat) (l : Lane) : Lane :=
  let b := blockedCode (l.out o).holds (l.out o).hostBlock
  if l.p (Out.blocked o) = b then l else (l.setp (Out.blocked o) b).outEvent o

/-- A hold condition of the outlet met (R250). -/
def Lane.holdMet (o n : Nat) (l : Lane) : Lane :=
  (l.setOut o { l.out o with holds := setBit (l.out o).holds n false }).reblock o

/-- A fault recorded without the stop (R249): counted, its conditions added, the code kept unless a new condition
comes. -/
def Lane.recordFault (o code : Nat) (l : Lane) : Lane :=
  let x := l.out o
  let m := holdMask code
  let adds := decide (x.holds ||| m ≠ x.holds)
  let l1 := (l.setOut o { x with holds := x.holds ||| m, faulted := true }).inc (Out.faults o)
  let l2 := if l.p (Out.faultCode o) = 0 ∨ adds = true then l1.setp (Out.faultCode o) code else l1
  (l2.setp (Out.blocked o) (blockedCode (l2.out o).holds (l2.out o).hostBlock)).outEvent o

/-! ### Steps (R239) -/

/-- A session starts (R249, R250, R330): the fault code and the holds clear, the vehicle's values and the last session's link are
forgotten. -/
def Lane.sessionStart (o : Nat) (l : Lane) : Lane :=
  let x := l.out o
  let l1 := l.setOut o { x with
    holds := 0, faulted := false, latchCmd := true, latchLap := l.lap, decision := none, authExpired := false
    evccid := 0, contractId := [], idMode := 0, vMaxKnown := false, terminate := false, failNext := false, dropDue := false, stopAsked := false
    schedSent := [], tls := {}, packsAsked := false, takeovers := 0, isoPassed := false
    res := {}, resSent := true, resStart := false, resend := false
    preReached := false }
  (((((((l1.setp (Out.faultCode o) 0).setp (Out.evVTargetMv o) 0).setp (Out.evITargetA o) 0).setp (Out.evIMaxA o) 0).setp
    (Out.evPMaxW o) 0).setp (Out.evVMaxMv o) 0).setp (Out.blocked o) 0).inc (Out.sessions o)

/-- The entry action of a step (R239). -/
def Lane.stepAction (o : Nat) (s : Int) (l : Lane) : Lane :=
  if s = ssPlugged then l.sessionStart o
  else if s = ssConnect then l.setOut o { l.out o with packsAsked := false, ctrLap := none, readyLap := none }
  else if s = ssIsolation then (l.rampStart o).setOut o { (l.rampStart o).out o with isoPassed := false }
  else if s = ssPrecharge then (l.rampStart o).setOut o { (l.rampStart o).out o with preReached := false }
  else if s = ssDischarge then
    let l1 := l.rampStart o
    l1.setOut o { l1.out o with discharge := match (l1.out o).discharge with | some t => some t | none => some l1.lap }
  else if s = ssOpen then (l.setOut o { l.out o with welded := false }).forL (outletPacks l.cfg o) Lane.packStop
  else if s = ssUnlatch then
    let l1 := (((l.sessionClose o).signRecord o).eraseKey (sessionSlot o)).unlatch o
    -- after the team's degraded time has expired, a session that ends is held with `safety_stop` (R334)
    if l1.fnHeld 1 then l1.recordFault o 18 else l1
  else l

/-- Outlet `o` enters step `s`; event 0 + o fires (R239). -/
def Lane.enterStep (o : Nat) (s : Int) (l : Lane) : Lane :=
  if l.ss o = s then l
  else
    let l1 := (l.setp (Out.sessionStep o) s).setOut o { l.out o with
      stepLap := l.lap, lastReq := l.lap
      par := if s = ssIdle ∨ s = ssBlocked then none else (l.out o).par }
    (l1.stepAction o s).outEvent o

/-! ### Stops and trips (R187, R239, R327, R532) -/

/-- The contactors commanded open; `contactor_ms` counts from the command (R245). -/
def Lane.openContactors (o : Nat) (l : Lane) : Lane :=
  let x := l.out o
  l.setOut o { x with ctrCmd := false, ctrLap := if x.ctrCmd then some l.lap else x.ctrLap }

/-- The contactors commanded open as a session stop may (R245): the packs stopped, the cable at most 60 V and the current at most 5 A. -/
def Lane.openIfSafe (o : Nat) (l : Lane) : Lane :=
  if (l.out o).ctrCmd && l.packsAll o pkIdle && l.cableSafe o && l.currentLow o then l.openContactors o else l

/-- A session stopped from any cause (R239), with the starts of its packs (R187): before `CHARGE` through `DISCHARGE` where the contactors are closed and
otherwise to `UNLATCH`, where packs that run are stopped and the contactors opened as R245 lets them; in `CHARGE` through `RAMPDOWN`; a
session already stopping is left as it is. -/
def Lane.stopSession (o : Nat) (l : Lane) : Lane :=
  let s := l.ss o
  if s = ssCharge then (l.setOut o { l.out o with terminate := true }).enterStep o ssRampdown
  else if ssPlugged ≤ s ∧ s < ssCharge then
    let l := l.forL ((outletPacks l.cfg o).filter (fun k => decide (l.p (Pk.packState k) = pkClosing))) Lane.packStop
    if l.contactorsClosed o then l.enterStep o ssDischarge
    else
      let l1 := (l.setOut o { l.out o with welded := false }).forL (outletPacks l.cfg o) Lane.packStop
      (l1.openIfSafe o).enterStep o ssUnlatch
  else l

/-- An outlet fault (R249). -/
def Lane.outletFault (o code : Nat) (l : Lane) : Lane := (l.recordFault o code).stopSession o

/-- Every phase of an outlet's packs sent `OFF` with `arm` 0, and the packs in `IDLE` (R243, R327). -/
def Lane.outletOff (o : Nat) (l : Lane) : Lane := l.forL (outletPacks l.cfg o) Lane.packOff

/-- What a Class P trip does to the outlet's session (R327, R532): the fault, contactors de-energised, phases disarmed,
the session at once in `DISCHARGE` from `CONNECT` to `OPEN`, in `UNLATCH` from `PLUGGED` to `PARAM`. Supervision of the
discharge starts with the trip (R346). -/
def Lane.tripSession (o code : Nat) (l : Lane) : Lane :=
  let s := l.ss o
  let known := decide (code = 2) && decide (l.p (Out.faultCode o) = 2) && decide (ssDischarge ≤ s)
  let l0 := if decide (s = ssIdle) || known then l else l.recordFault o code
  let l1 := l0.openContactors o
  let off := (l1.setOut o { l1.out o with failNext := (l1.out o).failNext || decide (ssPlugged ≤ s ∧ s ≤ ssOpen) }).outletOff o
  if ssConnect ≤ s ∧ s ≤ ssOpen then off.enterStep o ssDischarge
  else if ssPlugged ≤ s ∧ s < ssConnect then off.enterStep o ssUnlatch
  else off

/-! ### The steps that advance by themselves (R239, R240, R244, R245) -/

/-- Whether the outlet may leave `IDLE` (R239, R250, R463). -/
def Lane.mayStart (l : Lane) (o : Nat) : Bool :=
  decide (l.c (Out.outletEnable o) = 1) && decide (l.p (Out.proxState o) = 1) && decide ((l.out o).holds = 0)
    && !(l.out o).hostBlock && l.power.sleep.isNone

/-- Cooling lets the contactors close (R222, R240). -/
def Lane.coolLets (l : Lane) (o : Nat) : Bool := decide (l.p (Out.coolReady o) = 1) || decide (l.sc o (Out.coolMode o) = 0)

/-- The conditions of R240 for energising the contactors; an `EXPIRED` outlet closes none (R228). -/
def Lane.mayClose (l : Lane) (o : Nat) : Bool :=
  l.coolLets o && decide (l.p (Out.coolState o) ≠ csExpired) && l.cableSafe o
    && decide (l.outletUv o ≤ 60000000) && !l.tripped o

/-- Whether an outlet goes from `UNLATCH` to `IDLE` (R239, R250): nothing holds it. -/
def Lane.freeOf (l : Lane) (o : Nat) : Bool := !(l.out o).hostBlock && decide ((l.out o).holds = 0)

/-- One advance of the outlet's session by the conditions that hold now. -/
def Lane.advance (o : Nat) (l : Lane) : Lane :=
  let s := l.ss o
  let x := l.out o
  if s = ssIdle then (if l.mayStart o then l.enterStep o ssPlugged else l)
  else if s = ssPlugged then (if l.p (Out.latchState o) = 1 then l.enterStep o ssLink else l)
  else if s = ssConnect then
    if !x.ctrCmd then
      (if l.mayClose o then l.setOut o { x with ctrCmd := true, ctrLap := some l.lap }
       else if l.coolLets o && x.readyLap.isNone then l.setOut o { x with readyLap := some l.lap }
       else l)
    else if !l.contactorsClosed o then l
    else if !x.packsAsked then
      ((l.setOut o { x with packsAsked := true, ctrLap := some l.lap }).sessionOpen o).forL
        (outletPacks l.cfg o) Lane.packStart
    else if l.packsAll o pkRun then l.enterStep o ssIsolation
    else if (outletPacks l.cfg o).any (fun k => decide (l.p (Pk.packState k) = pkIdle)) then l.outletFault o 8
    else l
  else if s = ssOpen then
    let l1 := l.openIfSafe o
    if l1.contactorsOpen o && l1.cableSafe o && !(l1.out o).ctrCmd then l1.enterStep o ssUnlatch else l1
  else if s = ssUnlatch then
    let l1 := (l.openIfSafe o).unlatch o
    if l1.p (Out.latchState o) = 0 ∧ (l1.out o).latchCmd = false then
      (if l1.freeOf o then l1.enterStep o ssIdle else l1.enterStep o ssBlocked)
    else l1
  else if s = ssBlocked then
    let l1 := l.unlatch o
    if (l1.out o).holds = 0 ∧ (l1.out o).hostBlock = false then l1.enterStep o ssIdle else l1
  else l

/-- `OUTLET_V` within `precharge_tol_mv` of the step's final voltage (R241, R239). -/
def Lane.inTolerance (l : Lane) (o : Nat) : Bool :=
  match l.rampEnd o with
  | some mv => decide ((absN (l.outletUv o - mv * 1000) : Int) ≤ l.sc o (Out.prechargeTolMv o) * 1000)
  | none => false

/-- The timers of one lap: time within tolerance, and the hold of the insulation test with the monitor OK (R241). -/
def Lane.sessionTimers (o : Nat) (l : Lane) : Lane :=
  let x := l.out o
  let s := l.ss o
  let run := fun (b : Bool) (t : Option Nat) => if b then (match t with | some k => some k | none => some l.lap) else none
  if s = ssIsolation ∨ s = ssPrecharge then
    let t := run (l.inTolerance o) x.tolSince
    let iso := run (decide (s = ssIsolation) && (x.isoSince.isSome || l.inTolerance o) && l.safe.imdOk.contains o) x.isoSince
    if t = x.tolSince ∧ iso = x.isoSince then l else l.setOut o { x with tolSince := t, isoSince := iso }
  else l

/-- The cooling hold met once `cool_ready` is 1 again and `EXPIRED` has ended with it (R228, R249, R250). -/
def Lane.coolHold (o : Nat) (l : Lane) : Lane :=
  if l.p (Out.coolReady o) = 1 ∧ l.p (Out.coolState o) ≠ csExpired ∧ bitAt (l.out o).holds 4 = true then (l.holdMet o 4).advance o else l

/-- A session whose keys are orphaned closes (R386): no keys remain, TCP is reset, and the outlet stops as a controller
stop without messages. -/
def Lane.dropSession (o : Nat) (l : Lane) : Lane :=
  (l.setOut o { l.out o with tls := { closed := true }, terminate := true, dropDue := false }).stopSession o

/-- The outlet's connection to the vehicle in one lap (R231, R243, R248). The holder begins a response that is waiting, once its
segment is idle and what it draws is mirrored or no lane stands by (`alone`, R238), and counts it where a takeover left it owed; it
sends an acknowledgement that has been owed for 10 ms; and TLS closes 2 s after a short. -/
def Lane.linkLap (o : Nat) (alone : Bool) (l : Lane) : Lane :=
  let x := l.out o
  let begin := l.link.grant && !x.resSent && !x.resStart && decide (x.txIdle ≤ l.lap) && (alone || !x.tls.mirrorOwed)
  let l0 := if begin then l.setOut o { x with resStart := true, resend := false } else l
  let l1 := if begin && x.resend then l0.inc (Out.takeoverResends o) else l0
  let t := (l1.out o).tls
  let ack := l.link.grant && t.ackOwed && decide (max (t.ackLap + msLaps 10) x.txIdle ≤ l.lap)
  let shut := match t.closeLap with | some n => decide (n ≤ l.lap) | none => false
  if ack || shut then
    l1.setOut o { l1.out o with tls := { t with
      ackOwed := t.ackOwed && !ack, closeLap := if shut then none else t.closeLap, up := t.up && !shut, closed := t.closed || shut } }
  else l1

/-- The session work of one lap for every outlet with a session, or that may start one. -/
def Lane.sessionLap (outlets : Nat) (alone : Bool) (l : Lane) : Lane :=
  l.forN outlets (fun o l =>
    if l.ss o = ssIdle ∧ l.p (Out.proxState o) = 0 ∧ (l.out o).holds = 0 then l
    else (((l.coolHold o).sessionTimers o).advance o).linkLap o alone)

/-! ### Inputs of an outlet (R233, R234, R235, R531) -/

/-- The band of an identification line voltage in mV (R233), with the thresholds that the outlet's session has. -/
def Lane.proxOf (l : Lane) (o lineMv : Nat) : Int :=
  if l.sc o (Out.proxThr1Mv o) ≤ lineMv then 0 else if l.sc o (Out.proxThr0Mv o) ≤ lineMv then 1 else 2

/-- A new band of the identification line, with the time for which the line was open (R250): since the lane's laps last started where
it has been open since then. The fault band raises `prox_fault`, whose hold ends as the line leaves it (R249). -/
def Lane.proxTake (o : Nat) (band : Int) (l : Lane) : Lane :=
  let was := l.p (Out.proxState o)
  let l1 := (l.setp (Out.proxState o) band).setOut o
    { l.out o with
      openSince := if band = 0 then some l.proxClock else none
      openFor := if band = 1 ∧ was = 0 then some (l.proxClock - (l.out o).openSince.getD l.safe.startLap) else none }
  let l2 := if band = 2 then l1.recordFault o 1 else l1
  if was = 2 then l2.holdMet o 6 else l2

/-- PROX_BAND_CHANGE in `ASLEEP` (R233): the always-on domain follows the line, the time that it is open, and the fault that it
shows. -/
def Lane.proxKept (o lineMv : Nat) (l : Lane) : Lane :=
  if l.p (Out.proxState o) = l.proxOf o lineMv then l else l.proxTake o (l.proxOf o lineMv)

/-- PROX_BAND_CHANGE (R233, R235, R249, R250): the band has lasted 20 ms. -/
def Lane.proxChange (o : Nat) (band : Int) (l : Lane) : Lane :=
  if l.p (Out.proxState o) = band then l
  else
    let s := l.ss o
    let was := l.p (Out.proxState o)
    let l3 := l.proxTake o band
    if ssConnect ≤ s ∧ s ≤ ssOpen then (if was = 1 then l3.outletFault o 2 else l3)
    else if ssPlugged ≤ s ∧ s < ssConnect then l3.stopSession o
    else if s = ssBlocked ∧ band = 0 ∧ blockedCode ((l3.out o).holds - 2 * bitN (l3.out o).holds 1) (l3.out o).hostBlock = 0
      then l3.enterStep o ssIdle
    else l3.advance o

/-- PLUG_CYCLE (R250): `open` for at least 1 s, then `inserted`. -/
def Lane.plugCycle (o : Nat) (l : Lane) : Lane :=
  match (l.out o).openFor with
  | none => l
  | some n =>
    if l.p (Out.proxState o) = 1 ∧ msLaps 1000 ≤ n then
      ((l.setOut o { l.out o with openFor := none }).holdMet o 1).advance o
    else l

/-- A plug cycle seen by a lane's always-on domain while the lane runs no session (R250): the condition is met. -/
def Lane.plugKept (o : Nat) (l : Lane) : Lane :=
  match (l.out o).openFor with
  | none => l
  | some n =>
    if !l.active && decide (l.p (Out.proxState o) = 1 ∧ msLaps 1000 ≤ n) then
      let x := { l.out o with openFor := none, holds := setBit (l.out o).holds 1 false }
      (l.setOut o x).setp (Out.blocked o) (blockedCode x.holds x.hostBlock)
    else l

/-- LATCH_FB_CHANGE (R234): 0 unlocked, 1 locked, 2 moving, 3 disagreeing. -/
def Lane.latchChange (o : Nat) (st : Int) (l : Lane) : Lane := (l.setp (Out.latchState o) st).advance o

/-- `contactor_state` from the two feedbacks (R531): 0 both open, 1 both closed, 2 while either moves, else 3, where the two differ and
so one of them disagrees with its command. -/
def contactorCode (plus minus : ContactorFb) : Int :=
  if plus = .opened ∧ minus = .opened then 0
  else if plus = .closed ∧ minus = .closed then 1
  else if plus = .moving ∨ minus = .moving then 2
  else 3

/-- CONTACTOR_FEEDBACK_CHANGE (R531): the two feedbacks as they now stand. `cooldown_s` runs from the contactors being open (R221). -/
def Lane.contactorChange (o : Nat) (plus minus : ContactorFb) (l : Lane) : Lane :=
  let was := l.p (Out.contactorState o)
  let st := contactorCode plus minus
  let l1 := (l.setOut o { l.out o with ctrPlus := plus, ctrMinus := minus }).setp (Out.contactorState o) st
  let l2 := if st = 0 ∧ was ≠ 0 then l1.sessionClose o else l1
  let l3 := if st = 1 then l2.setCool o { l2.cool o with openedLap := none }
    else if st = 0 ∧ was ≠ 0 then l2.setCool o { l2.cool o with openedLap := some l2.lap }
    else l2
  (l3.setp (Out.flowTarget o) (l3.flowTarget o)).advance o

/-! ### Messages of the vehicle (R236 to R246, R532) -/

/-- Response codes that the model's `SegRes` records: OK, FAILED, FAILED_SequenceError. -/
def rcOk : Nat := 0
def rcFailed : Nat := 1
def rcSequence : Nat := 2

/-- A response formed in both lanes. A lane that holds the grant (`g`: some lane does) begins it on the segment at once where it may
transmit (R231); it counts as sent once it has been seen whole on the segment (R248). -/
def Lane.respond (o msg code : Nat) (data : List Int) (g : Bool) (l : Lane) : Lane :=
  let x := l.out o
  l.setOut o { x with
    res := { msg := msg, code := code, data := data, gen := l.pn (Out.sessionGen o) }, resSent := false, resend := false
    resStart := g && l.link.grant && decide (x.txIdle ≤ l.lap) && !x.tls.mirrorOwed }

/-- A request that the present step does not expect (R532). -/
def Lane.unexpected (o msg : Nat) (g : Bool) (l : Lane) : Lane :=
  let l1 := l.respond o msg rcSequence [] g
  if ssPlugged ≤ l.ss o ∧ l.ss o ≤ ssCharge then l1.outletFault o 19 else l1

/-- A request of the vehicle: without a link to it, none arrives; answered with FAILED after a trip or a short (R243, R532), by `f` where the step expects
it, else as unexpected. A closed connection carries none; outside a session a connection that is still open does, so that what is owed
to the vehicle after `UNLATCH` is answered. -/
def Lane.request (o msg : Nat) (g : Bool) (expected : Bool) (f : Lane → Lane) (l : Lane) : Lane :=
  let l1 := l.setOut o { l.out o with lastReq := l.lap, tls := { (l.out o).tls with records := (l.out o).tls.records + 1 } }
  let outside := decide (l.ss o = ssIdle ∨ l.ss o = ssPlugged ∨ l.ss o = ssBlocked)
  if (outside && !(l.out o).tls.up) || (l.out o).tls.closed || (l.out o).dropDue then l
  else if (l1.out o).failNext then (l1.setOut o { l1.out o with failNext := false }).respond o msg rcFailed [] g
  else if expected then f l1
  else l1.unexpected o msg g

/-- The ports of the vehicle segment (R232): SDP over UDP and the ISO 15118-20 server over TCP. -/
def sdpPort : Nat := 15118
def v2gPort : Nat := 57120

/-- The MAC address 02-4F-4C-ss-ss-oo that both lanes present on outlet `o`'s segment (R232). -/
def Lane.outletMac (l : Lane) (o : Nat) : List Nat :=
  let s := (l.pn D0.serialLo) % 65536
  [0x02, 0x4F, 0x4C, s / 256, s % 256, o]

/-- The IPv6 link-local address formed from a MAC address (R232): FE80::/64 and the modified EUI-64 identifier, which inverts the
universal bit of the first byte and puts FF FE in the middle. -/
def linkLocal (mac : List Nat) : List Nat :=
  [0xFE, 0x80, 0, 0, 0, 0, 0, 0, Nat.xor (mac.getD 0 0) 2] ++ (mac.take 3).drop 1 ++ [0xFF, 0xFE] ++ mac.drop 3

/-- SDP_REQUEST (R232), received on `sdpPort`: the server's port and address, from `LINK` on. -/
def Lane.sdp (o : Nat) (g : Bool) (l : Lane) : Lane :=
  if ssLink ≤ l.ss o ∧ l.ss o < ssRampdown then
    l.respond o 1 rcOk ((v2gPort : Int) :: (linkLocal (l.outletMac o)).map (fun (b : Nat) => (b : Int))) g
  else l

/-- The TLS settings of R237 by their numbers in the TLS 1.3 registries: cipher suites AES-256-GCM and ChaCha20-Poly1305, groups x448
and secp521r1, signature schemes ecdsa_secp521r1_sha512 and ed448. -/
def tlsSuites : List Nat := [0x1302, 0x1303]
def tlsGroups : List Nat := [0x1E, 0x19]
def tlsSchemes : List Nat := [0x0603, 0x0808]

/-- TLS_CLIENT_HELLO (R237): cipher suite, group and signature scheme picked from those offered; nothing in common, or a SECC key that is
not delivered (R378), is a failure with `link_timeout`. `draws` is what the holder draws (R238), which it mirrors before its answer is
sent. -/
def Lane.clientHello (o : Nat) (suites groups schemes : List Nat) (draws : SessionDraws) (g : Bool) (l : Lane) : Lane :=
  if l.ss o ≠ ssLink then l
  else
    match tlsSuites.find? (fun k => suites.contains k), tlsGroups.find? (fun k => groups.contains k),
        tlsSchemes.find? (fun k => schemes.contains k) with
    | some su, some gr, some sc =>
      let k := l.askKey (engSession o) (l.role Key.roleSecc) 1
      if !k.2 then (k.1.respond o 2 rcFailed [] g).outletFault o 4
      else
      let l := k.1
      let x := l.out o
      (l.setOut o { x with tls := { x.tls with
        helloLap := some l.lap, suite := su, group := gr, scheme := sc, mirrorOwed := l.link.grant
        randoms := if l.link.grant then x.tls.randoms ++ [draws.random, draws.ephemeral, draws.nonce] else x.tls.randoms } }).respond
        o 2 rcOk [(su : Int), (gr : Int), (sc : Int)] g
    | _, _, _ => (l.respond o 2 rcFailed [] g).outletFault o 4

/-- HANDSHAKE_TIMEOUT (R237): 5 s from ClientHello without a complete handshake. -/
def Lane.handshakeTimeout (o : Nat) (l : Lane) : Lane :=
  match (l.out o).tls.helloLap with
  | some t => if (l.out o).tls.up = false ∧ msLaps 5000 ≤ l.lap - t ∧ l.ss o = ssLink then l.outletFault o 4 else l
  | none => l

/-- SESSION_RANDOM_RECEIVE (R238): the standby takes the holder's draws, secrets and record number; those of another session-to-lane
generation are discarded and counted (R62, R247). -/
def Lane.mirrorRandoms (l : Lane) (holder : Lane) (o : Nat) : Lane :=
  let h := (holder.out o).tls
  if holder.p (Out.sessionGen o) ≠ l.p (Out.sessionGen o) then l.inc (Sd.staleDiscards 3)
  else l.setOut o { l.out o with tls := { (l.out o).tls with
    randoms := h.randoms, secrets := h.secrets, records := h.records, up := h.up } }

/-- The holder's draws are mirrored: the answer that waited for them may be sent (R238). -/
def Lane.mirrorDone (o : Nat) (l : Lane) : Lane :=
  l.setOut o { l.out o with tls := { (l.out o).tls with mirrorOwed := false } }

/-- OUTLET_SEGMENT_FRAME (R232): a TCP or TLS frame without a request. From the vehicle it moves the receive position and
owes an acknowledgement; from the holder, observed by the other lane, the transmit position, and the response is seen whole (R248).
A session whose keys were orphaned while it was on its way closes with it (R386). `secret` is one that the
handshake derived, `done` says that the handshake completed. -/
def Lane.segmentFrame (o : Nat) (fromVehicle : Bool) (seq len secret : Nat) (done : Bool) (l : Lane) : Lane :=
  let x := l.out o
  let t := x.tls
  let t1 := if fromVehicle then { t with rxSeq := max t.rxSeq (seq + len), ackOwed := decide (0 < len), ackLap := l.lap }
    else { t with txSeq := max t.txSeq (seq + len), txSeen := seq + len, ackOwed := false }
  let t2 := if done then { t1 with up := true, secrets := t1.secrets ++ [secret] } else t1
  let l1 := l.setOut o { x with tls := t2, resSent := x.resSent || !fromVehicle, resStart := x.resStart && fromVehicle }
  if x.dropDue && !fromVehicle then l1.dropSession o
  else if done then l1.deriveKey (sessionSlot o) (l.role Key.roleSecc) 0x1E secret else l1

/-- What ISO 15118-20 sessions are offered (R236): the protocol of the first edition, the DC service, the scheduled control mode, no
value-added service. -/
def appProtocols : List AppProtocol := [⟨20, 1⟩]
def servicesOffered : List Nat := [2]
def controlModes : List Nat := [1]
def valueAddedOffered : List Nat := []

/-- SUPPORTED_APP_PROTOCOL_REQ (R236). -/
def Lane.appProtocol (o : Nat) (offers : List AppProtocol) (g : Bool) (l : Lane) : Lane :=
  l.request o 3 g (decide (l.ss o = ssLink)) (fun l =>
    if offers.any (fun p => appProtocols.contains p) then l.respond o 3 rcOk [] g else (l.respond o 3 rcFailed [] g).outletFault o 4)

/-- SESSION_SETUP_REQ (R239): SessionSetupRes sent, `AUTH` entered. -/
def Lane.sessionSetup (o evccid id : Nat) (g : Bool) (l : Lane) : Lane :=
  l.request o 4 g (decide (l.ss o = ssLink)) (fun l =>
    (((l.setOut o { l.out o with evccid := evccid }).setp (Out.sessionId o) id).respond o 4 rcOk [(id : Int)] g).enterStep
      o ssAuth)

/-- AUTHORIZATION_SETUP_REQ (R239): the identification modes offered. -/
def Lane.authSetup (o : Nat) (g : Bool) (l : Lane) : Lane :=
  l.request o 5 g (decide (l.ss o = ssAuth)) (fun l => l.respond o 5 rcOk [l.sc o (Out.idMode o)] g)

/-- Identification refused (R532). -/
def Lane.authRefused (o msg : Nat) (g : Bool) (l : Lane) : Lane := (l.respond o msg rcFailed [] g).outletFault o 5

/-- A contract trust anchor taken from the key store for a chain check (R375, R378): the first of `role_anchor` that is
delivered to the outlet's session engine. -/
def Lane.askAnchor (o : Nat) (l : Lane) : Lane × Bool :=
  (List.range 8).foldl (fun (a : Lane × Bool) i =>
    if a.2 || decide (a.1.c (Key.roleAnchor i) = 0xFFFFFFFF) then a
    else a.1.askKey (engSession o) (a.1.cn (Key.roleAnchor i)) 2) (l, false)

/-- AUTHORIZATION_REQ (R239, R532): mode 0 external identification, 1 Plug and Charge with the outcome of the chain
check, for which alone a client certificate is asked (R237). -/
def Lane.authorization (o mode : Nat) (chainOk : Bool) (contract : List Nat) (g : Bool) (l : Lane) : Lane :=
  l.request o 6 g (decide (l.ss o = ssAuth)) (fun l =>
    if !bitAt (l.scn o (Out.idMode o)) mode then l.authRefused o 6 g
    else
      let l1 := l.setOut o { l.out o with
        idMode := mode, contractId := contract, tls := { (l.out o).tls with certAsked := decide (mode = 1) } }
      if mode = 1 then
        let k := l1.askAnchor o
        (if chainOk && k.2 then (k.1.respond o 6 rcOk [0] g).enterStep o ssParam else k.1.authRefused o 6 g)
      else
        match (l1.out o).decision with
        | some true => (l1.respond o 6 rcOk [0] g).enterStep o ssParam
        | some false => l1.authRefused o 6 g
        | none => l1.respond o 6 rcOk [1] g)

/-- A list of service numbers in a response, after its length. -/
def listed (xs : List Nat) : List Int := (xs.length : Int) :: xs.map (fun (x : Nat) => (x : Int))

/-- SERVICE_DISCOVERY_REQ (R236): the energy services offered, then the value-added ones. -/
def Lane.serviceDiscovery (o : Nat) (g : Bool) (l : Lane) : Lane :=
  l.request o 7 g (decide (l.ss o = ssParam)) (fun l =>
    l.respond o 7 rcOk (listed servicesOffered ++ listed valueAddedOffered) g)

/-- SERVICE_DETAIL_REQ (R236): the control modes offered. -/
def Lane.serviceDetail (o : Nat) (g : Bool) (l : Lane) : Lane :=
  l.request o 8 g (decide (l.ss o = ssParam)) (fun l => l.respond o 8 rcOk (listed controlModes) g)

/-- SERVICE_SELECTION_REQ (R236): what is selected must be offered. -/
def Lane.serviceSelection (o service mode : Nat) (valueAdded : List Nat) (g : Bool) (l : Lane) : Lane :=
  l.request o 9 g (decide (l.ss o = ssParam)) (fun l =>
    if servicesOffered.contains service && controlModes.contains mode && valueAdded.all (fun v => valueAddedOffered.contains v) then l.respond o 9 rcOk [] g else (l.respond o 9 rcFailed [] g).outletFault o 4)

/-- EVMaximumVoltage received (R330). -/
def Lane.takeVMax (o : Nat) (vMax : Nat) (l : Lane) : Lane :=
  (l.setp (Out.evVMaxMv o) vMax).setOut o { l.out o with vMaxKnown := true }

/-- DC_CHARGE_PARAMETER_DISCOVERY_REQ (R246): the outlet's limits. -/
def Lane.chargeParameters (o vMax iMax pMax : Nat) (g : Bool) (l : Lane) : Lane :=
  l.request o 10 g (decide (l.ss o = ssParam)) (fun l =>
    (((l.takeVMax o vMax).setp (Out.evIMaxA o) iMax).setp (Out.evPMaxW o) pMax).respond o 10 rcOk
      [l.sc o (Out.iRatingA o), l.sc o (Out.vMaxMv o)] g)

/-- The leaf of outlet `o` in the pool tree. -/
def leafOf (m : UMap Int) (o : Nat) : Option Nat :=
  (usedNodes m).find? (fun x => nodeKind m x == 2 && cfgAt m (Pool.outlet x) == (o : Int))

/-- The schedule of R246: entries of a duration in seconds and a power in W, the last, of duration 0, to the session's end. -/
def Lane.schedule (l : Lane) (o : Nat) : List Int :=
  let v := match leafOf l.cfg o with | some x => l.p (Pool.vAllocMv x) | none => 0
  let ps := (l.vehicleForecast o).map (fun i => (i * v).tdiv 1000)
  ([5, 10, 15, 30, 0].zip (ps ++ [ps.getD 3 0])).flatMap (fun e => [e.1, e.2])

/-- SCHEDULE_EXCHANGE_REQ (R246): in `PARAM`, and in `CHARGE` after a notice. -/
def Lane.scheduleExchange (o : Nat) (g : Bool) (l : Lane) : Lane :=
  l.request o 11 g (decide (l.ss o = ssParam ∨ l.ss o = ssCharge)) (fun l =>
    (l.setOut o { l.out o with schedSent := l.vehicleForecast o }).respond o 11 rcOk (l.schedule o) g)

/-- DC_CABLE_CHECK_REQ (R240, R241): the first enters `CONNECT`; Finished only after the pass. -/
def Lane.cableCheck (o : Nat) (g : Bool) (l : Lane) : Lane :=
  let s := l.ss o
  l.request o 12 g (decide (s = ssParam ∨ s = ssConnect ∨ s = ssIsolation)) (fun l =>
    if s = ssParam then ((l.respond o 12 rcOk [1] g).enterStep o ssConnect).advance o
    else if (l.out o).isoPassed && decide (s = ssIsolation) then l.respond o 12 rcOk [0] g
    else l.respond o 12 rcOk [1] g)

/-- DC_PRE_CHARGE_REQ (R242): the first after the pass enters `PRECHARGE`. -/
def Lane.preCharge (o target : Nat) (g : Bool) (l : Lane) : Lane :=
  let s := l.ss o
  l.request o 13 g (decide (s = ssPrecharge) || (decide (s = ssIsolation) && (l.out o).isoPassed)) (fun l =>
    let l0 := if l.p (Out.evVTargetMv o) = (target : Int) then l
      else l.setOut o { l.out o with tolSince := none, preReached := false }
    ((l0.setp (Out.evVTargetMv o) target).enterStep o ssPrecharge).respond o 13 rcOk [(l.out o).vDc] g)

/-- POWER_DELIVERY_REQ (R239, R236): kind 0 start, 1 stop, 2 standby, which is answered as a stop. The response to a stop
is sent when the current has fallen (R244). -/
def Lane.powerDelivery (o kind : Nat) (g : Bool) (l : Lane) : Lane :=
  let s := l.ss o
  let start := decide (kind = 0)
  l.request o 14 g ((start && decide (s = ssPrecharge) && (l.out o).preReached)
      || (!start && decide (s = ssCharge ∨ s = ssRampdown))) (fun l =>
    if start then (l.respond o 14 rcOk [] g).enterStep o ssEvClose
    else (l.setOut o { l.out o with stopAsked := true }).enterStep o ssRampdown)

/-- Whether the next DC_ChargeLoopRes carries ScheduleRenegotiation (R246): a forecast value moved by more than
`fc_notify_a`, at most once every 5 s. -/
def Lane.renegotiate (l : Lane) (o : Nat) : Bool :=
  let x := l.out o
  decide (msLaps 5000 ≤ l.lap - x.schedLap)
    && ((l.vehicleForecast o).zip x.schedSent).any (fun e => decide (l.sc o (Out.fcNotifyA o) < (absN (e.1 - e.2) : Int)))

/-- DC_CHARGE_LOOP_REQ (R244, R246): the vehicle's values for the next round; the response carries the offer, the notice
(0 none, 1 Terminate, 2 ScheduleRenegotiation) and the present values. -/
def Lane.chargeLoop (o iTarget iMax pMax vTarget vMax : Nat) (g : Bool) (l : Lane) : Lane :=
  let s := l.ss o
  l.request o 15 g (decide (s = ssEvClose ∨ s = ssCharge) || (decide (s = ssRampdown) && (l.out o).terminate)) (fun l =>
    let l1 := ((((l.takeVMax o vMax).setp (Out.evITargetA o) iTarget).setp (Out.evIMaxA o) iMax).setp (Out.evPMaxW o)
      pMax).setp (Out.evVTargetMv o) vTarget
    let l2 := if s = ssEvClose then l1.enterStep o ssCharge else l1
    let re := l2.renegotiate o
    let note : Int := if (l2.out o).terminate then 1 else if re then 2 else 0
    let l3 := if note = 2 then l2.setOut o { l2.out o with schedLap := l2.lap } else l2
    l3.respond o 15 rcOk [(l3.out o).offerA, (l3.out o).offerW, note, (l3.out o).vDc, (l3.out o).iDc] g)

/-- DC_WELDING_DETECTION_REQ (R239). -/
def Lane.weldingDetection (o : Nat) (g : Bool) (l : Lane) : Lane :=
  let s := l.ss o
  l.request o 16 g (decide (s = ssEvOpen ∨ s = ssDischarge)) (fun l =>
    (l.respond o 16 rcOk [(l.out o).vDc] g).enterStep o ssDischarge)

/-- The outlet's TLS connection closed (R243). -/
def Lane.closeTls (o : Nat) (l : Lane) : Lane :=
  l.setOut o { l.out o with tls := { (l.out o).tls with up := false, closed := true, closeLap := none } }

/-- SESSION_STOP_REQ (R239, R532): a stop before `CHARGE`; after `EV_OPEN` the way to `DISCHARGE`; while the session is
closing, or is over, the answer alone. TLS closes with the answer (R243). -/
def Lane.sessionStopReq (o : Nat) (g : Bool) (l : Lane) : Lane :=
  let s := l.ss o
  let r := l.request o 17 g (decide (s < ssCharge) || decide (ssEvOpen ≤ s)) (fun l =>
    let l1 := (l.respond o 17 rcOk [] g).closeTls o
    if s < ssCharge then l1.stopSession o
    else if s = ssEvOpen then l1.enterStep o ssDischarge
    else l1)
  if (l.out o).failNext && !(r.out o).failNext then r.closeTls o else r

/-! ### Limits and completions (R239 to R245) -/

/-- The step's limit in laps, and the fault it raises; none where the step has no limit of its own, some `none` where
ISO 15118-20 sets the time (R239). In `CONNECT` it runs once cooling lets the contactors close, as the wait for cooling has its own
limit of 10 s (R240). -/
def Lane.stepLimit (l : Lane) (o : Nat) : Option (Option Nat × Nat) :=
  let s := l.ss o
  let x := l.out o
  if s = ssPlugged then some (some (msLaps (l.scn o (Out.latchMs o))), 3)
  else if s = ssLink then some (some (msLaps 20000), 4)
  else if s = ssAuth then some (some (msLaps (l.scn o (Out.authTimeoutS o) * 1000)), 5)
  else if s = ssParam then some (none, 13)
  else if s = ssConnect then
    (let matrix := ((outletPacks l.cfg o).map (fun k => l.cn (Pk.matrixTimeoutMs k))).foldl max 0
     if !x.ctrCmd then (if x.readyLap.isSome then some (some (msLaps (l.scn o (Out.contactorMs o) + matrix)), 7) else none)
     else if !l.contactorsClosed o then some (some (msLaps (l.scn o (Out.contactorMs o))), 7)
     else if x.packsAsked then some (some (msLaps matrix), 8)
     else none)
  else if s = ssIsolation then (if x.isoPassed then some (none, 13) else some (some (msLaps 10000), 10))
  else if s = ssPrecharge then
    (if x.preReached then some (none, 13) else some (some (msLaps (l.scn o (Out.prechargeTimeoutMs o))), 12))
  else if s = ssEvClose then some (some (msLaps 2000), 13)
  else if s = ssCharge then some (some (msLaps (l.scn o (Out.evLoopTimeoutMs o))), 13)
  else if s = ssRampdown then some (some (msLaps 2000), 13)
  else if s = ssEvOpen then some (some (msLaps (l.scn o (Out.evOpenMs o))), 0)
  else if s = ssOpen then (if x.ctrCmd then none else some (some (msLaps (l.scn o (Out.contactorMs o))), 16))
  else if s = ssUnlatch then
    -- the latch is not commanded before the contactors are open (R234); until then the limit is theirs (R245)
    (if !x.latchCmd || (l.contactorsOpen o && !x.ctrCmd) then some (some (msLaps (l.scn o (Out.latchMs o))), 3)
     else if x.ctrCmd then none else some (some (msLaps (l.scn o (Out.contactorMs o))), 16))
  else none

/-- The lap from which the step's limit counts: in `CONNECT` the contactor command, or before it the lap since which cooling lets
them close; in `OPEN` the contactor command; the last request in `CHARGE`, else the entry. -/
def Lane.limitFrom (l : Lane) (o : Nat) : Nat :=
  let s := l.ss o
  let x := l.out o
  if s = ssConnect ∧ x.ctrCmd = false then x.readyLap.getD x.stepLap
  else if s = ssConnect ∨ s = ssOpen then x.ctrLap.getD x.stepLap
  else if s = ssCharge then x.lastReq
  else if s = ssUnlatch then
    (if x.latchCmd && !l.contactorsOpen o then x.ctrLap.getD x.stepLap else max x.stepLap x.latchLap)
  else x.stepLap

/-- STEP_LIMIT_EXPIRY (R239, R245). -/
def Lane.stepExpiry (o : Nat) (l : Lane) : Lane :=
  match l.stepLimit o with
  | none => l
  | some (lim, code) =>
    let past := match lim with | some n => decide (n ≤ l.lap - l.limitFrom o) | none => true
    if !past then l
    else
      let s := l.ss o
      if s = ssEvOpen then l.enterStep o ssDischarge
      else if s = ssRampdown then (l.recordFault o 13).enterStep o ssEvOpen
      else if s = ssOpen ∨ code = 16 then
        (if l.contactorsOpen o || (l.out o).welded then l else (l.setOut o { l.out o with welded := true }).recordFault o 16)
      else if s = ssUnlatch then (l.recordFault o 3).enterStep o ssBlocked
      else if s = ssAuth then (l.setOut o { l.out o with authExpired := true, failNext := true }).outletFault o 5
      else l.outletFault o code

/-- COOL_NOT_READY_TIMEOUT (R240). -/
def Lane.coolNotReady (o : Nat) (l : Lane) : Lane :=
  if l.ss o = ssConnect ∧ l.sc o (Out.coolMode o) = 1 ∧ l.p (Out.coolReady o) = 0 ∧ msLaps 10000 ≤ l.lap - (l.out o).stepLap
  then l.outletFault o 6 else l

/-- ISOLATION_PASS (R241). -/
def Lane.isolationPass (o : Nat) (l : Lane) : Lane :=
  match (l.out o).isoSince with
  | some t =>
    if l.ss o = ssIsolation ∧ msLaps (l.scn o (Out.isoHoldMs o)) ≤ l.lap - t then
      l.setOut o { l.out o with isoPassed := true }
    else l
  | none => l

/-- PRECHARGE_REACHED (R239): within tolerance for 20 ms. -/
def Lane.prechargeReached (o : Nat) (l : Lane) : Lane :=
  match (l.out o).tolSince with
  | some t =>
    if l.ss o = ssPrecharge ∧ msLaps 20 ≤ l.lap - t then l.setOut o { l.out o with preReached := true } else l
  | none => l

/-- PRECHARGE_SHORT (R243): the count has reached 4,001. TLS closes after SessionStop or 2 s. -/
def Lane.prechargeShort (o : Nat) (l : Lane) : Lane :=
  if (l.ss o = ssIsolation ∨ l.ss o = ssPrecharge) ∧ 4001 ≤ (l.out o).shortCount then
    let l1 := ((l.outletOff o).recordFault o 11)
    (l1.setOut o { l1.out o with
      failNext := true, shortCount := 0, tls := { (l1.out o).tls with closeLap := some (l1.lap + msLaps 2000) } }).enterStep o ssDischarge
  else l

/-- RAMPDOWN_COMPLETE (R239, R244): at most 5 A once the vehicle has asked for the stop; PowerDeliveryRes is sent. A session without
keys or connection ends the step by the current alone (R386). -/
def Lane.rampdownComplete (o : Nat) (g : Bool) (l : Lane) : Lane :=
  if l.ss o ≠ ssRampdown ∨ l.currentLow o = false then l
  else if (l.out o).stopAsked then (l.respond o 14 rcOk [] g).enterStep o ssEvOpen
  else if !(l.out o).tls.up then l.enterStep o ssEvOpen
  else l

/-- The discharge supervision of a lane ends once its own cable voltage is at 60 V or less (R346). -/
def Lane.discharged (o : Nat) (l : Lane) : Lane :=
  match (l.out o).discharge with
  | some t =>
    if (l.out o).vOwn ≤ 60000 then
      (l.setOut o { l.out o with discharge := none }).setp (Out.dischargeMs o) ((l.lap - t) / 200 : Nat)
    else l
  | none => l

/-- DISCHARGE_COMPLETE (R239, R245, R346): at most 60 V; the supervision ends. -/
def Lane.dischargeComplete (o : Nat) (l0 : Lane) : Lane :=
  let l := l0.discharged o
  if l.cableSafe o = true ∧ l.ss o = ssDischarge then (l.enterStep o ssOpen).advance o else l

/-- DEGRADED_EXPIRY (R228, R244, R333): the timer has reached 60,000 ms. -/
def Lane.degradedExpiry (o : Nat) (l : Lane) : Lane :=
  if l.p (Out.coolState o) = csDegraded ∧ 60000 ≤ l.p (Out.degradedElapsedMs o) then
    let l1 := ((l.setp (Out.coolState o) csExpired).coolFn o fnExpired).fire 90 (21 + 8 * o) []
    let l2 := { l1 with safe := { l1.safe with expiredLap := UMap.put (fun _ => 0) l1.safe.expiredLap o (l1.lap + 1) } }
    l2.outletFault o 17
  else l

/-! ### Takeover (R247, R248) -/

/-- The inter-packet gap of a 10 Mbit/s segment, 96 bit times of 100 ns (R231), in laps. -/
def segmentGap : Nat := 2

/-- A new holder's sessions (R247, R248): generations of open sessions go up, and responses still owed are sent again and
counted. A frame that the former holder had begun is cut off, and the new holder begins only after the inter-packet gap (R231). -/
def Lane.sessionTakeover (outlets : Nat) (gained : Bool) (l : Lane) : Lane :=
  l.forN outlets (fun o l =>
    let s := l.ss o
    if s = ssIdle ∨ s = ssBlocked then l
    else
      let x := l.out o
      let l1 := l.incGen (Out.sessionGen o)
      l1.setOut o { x with
        res := { x.res with gen := l1.pn (Out.sessionGen o) }
        takeovers := x.takeovers + 1, resStart := false, resend := gained && !x.resSent, txIdle := l.lap + segmentGap })

/-! ### Commands (R252, R253) -/

/-- Session status codes of R253. -/
def st_NO_SESSION : Nat := 0x0101
def st_WRONG_STEP : Nat := 0x0102
def st_OUTLET_DISABLED : Nat := 0x0103
def st_SAFETY_HELD : Nat := 0x0104
def st_AUTH_EXPIRED : Nat := 0x0105

/-- A session command of one outlet: absent and disabled outlets fail first (R7, R253). -/
def Lane.outletCmd (outlets : Nat) (r : Request) (n : Nat) (f : Nat → Lane → Lane × Reply) (l : Lane) : Lane × Reply :=
  if r.len ≠ n then (l, Reply.just st_BAD_LENGTH)
  else
    let o := r.at_ 0 1
    if outlets ≤ o then (l, Reply.just st_UNIT_ABSENT)
    else if l.sc o (Out.outletEnable o) = 0 then (l, Reply.just st_OUTLET_DISABLED)
    else f o l

/-- `SESSION_AUTHORIZE` (R252, R532). -/
def Lane.cmdAuthorize (outlets : Nat) (r : Request) (l : Lane) : Lane × Reply :=
  l.outletCmd outlets r 2 (fun o l =>
    let d := r.at_ 1 1
    if 1 < d then (l, Reply.just st_RANGE)
    else if l.ss o ≠ ssAuth then
      (l, Reply.just (if (l.out o).authExpired then st_AUTH_EXPIRED else st_WRONG_STEP))
    else if d = 1 then (l.setOut o { l.out o with decision := some true }, Reply.ok [])
    else ((l.setOut o { l.out o with decision := some false, failNext := true }).outletFault o 5, Reply.ok []))

/-- `SESSION_STOP` (R244, R252). -/
def Lane.cmdSessionStop (outlets : Nat) (r : Request) (l : Lane) : Lane × Reply :=
  l.outletCmd outlets r 1 (fun o l =>
    if l.ss o < ssPlugged ∨ ssCharge < l.ss o then (l, Reply.just st_NO_SESSION)
    else (l.stopSession o, Reply.ok []))

/-- `OUTLET_BLOCK` (R252). -/
def Lane.cmdBlock (outlets : Nat) (r : Request) (l : Lane) : Lane × Reply :=
  l.outletCmd outlets r 2 (fun o l =>
    let b := r.at_ 1 1
    if 1 < b then (l, Reply.just st_RANGE)
    else
      let l1 := (l.setOut o { l.out o with hostBlock := decide (b = 1) }).reblock o
      (if b = 1 then l1.stopSession o else l1.advance o, Reply.ok []))

/-- `OUTLET_CLEAR` (R252). -/
def Lane.cmdClear (outlets : Nat) (r : Request) (l : Lane) : Lane × Reply :=
  l.outletCmd outlets r 1 (fun o l =>
    if bitAt (l.out o).holds 2 then ((l.holdMet o 2).advance o, Reply.ok [])
    else if bitAt (l.out o).holds 3 then (l, Reply.just st_SAFETY_HELD)
    else (l, Reply.ok []))

/-- `SESSION_INFO` (R252). -/
def Lane.cmdSessionInfo (outlets : Nat) (r : Request) (l : Lane) : Lane × Reply :=
  l.outletCmd outlets r 1 (fun o l =>
    if l.ss o = ssIdle ∨ l.ss o = ssBlocked then (l, Reply.just st_NO_SESSION)
    else
      let x := l.out o
      (l, Reply.ok ([(8, l.p (Out.sessionId o)), (6, (x.evccid : Int))]
        ++ (List.range 64).map (fun k => (1, (x.contractId.getD k 0 : Int)))
        ++ [(1, (x.idMode : Int)), (2, (x.tls.suite : Int))])))

/-- `SESSION_RESTART` (R252). -/
def Lane.cmdRestart (outlets : Nat) (r : Request) (l : Lane) : Lane × Reply :=
  l.outletCmd outlets r 1 (fun o l =>
    if l.ss o ≠ ssIdle ∧ l.ss o ≠ ssBlocked then (l, Reply.just st_WRONG_STEP)
    else if bitAt (l.out o).holds 1 then ((l.holdMet o 1).advance o, Reply.ok [])
    else if bitAt (l.out o).holds 3 then (l, Reply.just st_SAFETY_HELD)
    else (l, Reply.ok []))

end Sys2Proof.Machine
end

