-- ==== Sys2Proof/Machine/Protect.lean ====
section
/-!
DEFINITION. The safety core of each lane (R319 to R351): demands, trips, resets, the safety outputs, test pulses, SAFE
LOOP, safety telegrams and discharge supervision. Function numbers are those of R319.
-/

namespace Sys2Proof.Machine

/-! ### Functions (R319, R320) -/

/-- Function `i` (0..6) of outlet `o`. -/
def outFn (o i : Nat) : Nat := 16 + 8 * o + i

/-- The safety core's record changed. -/
def Lane.safe! (l : Lane) (f : SafeSt → SafeSt) : Lane := { l with safe := f l.safe }

/-- The outlet current in mA that the lane's own ADC sampled last (R333). -/
def Lane.ownAmps (l : Lane) (o : Nat) : Int := (l.out o).iOwn

/-- The outlet fault recorded for a trip of function `i` of an outlet with a cause (R327). -/
def tripFault (i cause : Nat) : Nat :=
  match i with
  | 0 => if cause = 12 then 2 else 18
  | 1 => 9
  | 2 => 14
  | 4 => 15
  | _ => 18

/-- A trip's effect on outlet `o` (R327): the session stops. What its de-energised outputs start (R346, R347) follows as the outputs are
brought up to date (`Lane.showOutputs`). A trip of the outlet's own function (`own`) records its fault in `IDLE` and `BLOCKED` as well, one of the
module only on outlets with a session (R249, R327). -/
def Lane.tripOutlet (o code : Nat) (own : Bool) (l : Lane) : Lane :=
  let had := !(decide (l.ss o = ssIdle) || decide (l.ss o = ssBlocked))
  if had then l.tripSession o code
  else ((if own then l.recordFault o code else l).openContactors o).outletOff o

/-- Function `n` trips with a cause (R322, R327, R351): latched in both channels or in one, event 88, and its effect. A
function already held stays so, with a new demand returning it to `TRIPPED`. -/
def Lane.tripFn (outlets n cause : Nat) (ch1 ch2 : Bool) (l : Lane) : Lane :=
  let add := fun (b : Bool) (xs : List Nat) => if b && !xs.contains n then xs ++ [n] else xs
  let l0 := l.safe! (fun s => { s with
    trip1 := add ch1 s.trip1, trip2 := add ch2 s.trip2
    demand := if s.demand.contains n then s.demand else s.demand ++ [n] })
  let was := l.fnHeld n
  let l1 := l0.setp (fnAddr n) fnTripped
  if was then l1
  else
    let l2 := l1.fire 88 n [(cause : Int)]
    if n < 3 then
      let l3 := l2.setp SafM.modTripCause cause
      if n = 1 then l3
      else
        let l4 := l3.forN outlets (fun o l => l.tripOutlet o 18 false)
        l4.forL (usedPacks l4.cfg) Lane.packOff
    else
      let o := (n - 16) / 8
      ((l2.setp (Saf.tripCause o) cause).inc (Saf.trips o)).tripOutlet o (tripFault ((n - 16) % 8) cause) true

/-! ### The safety outputs (R323, R324) -/

/-- Whether the input filters have seen a full window since the core started (R321): 3 ms, and 100 ms for the pins. The always-on domain
keeps those of ESTOP, RESET and SAFE LOOP IN filled over `ASLEEP`. -/
def Lane.inputsKnown (l : Lane) : Bool := decide (600 ≤ l.lap - l.safe.startLap)
def Lane.filtersKnown (l : Lane) : Bool := l.safe.filled || l.inputsKnown
def Lane.pinsKnown (l : Lane) : Bool := decide (20000 ≤ l.lap - l.safe.startLap)

/-- Whether both channels of a lane permit an output (R324, R327, R329, R336). -/
def Lane.permits (l : Lane) (x : Nat) : Bool :=
  let modOk := !l.fnHeld 0 && !l.fnHeld 2 && l.filtersKnown
  if x < 2 then modOk && !(l.safe.startupHold && decide (l.c SafM.startupReset = 1))
  else if x = 2 then modOk && decide (l.c SafM.loopMode = 1)
  else
    let o := (x - 3) / 3
    let ok := modOk && l.inputsKnown && l.pinsKnown && (List.range 7).all (fun i => !l.fnHeld (outFn o i))
    if (x - 3) % 3 = 2 then ok && decide (ssConnect ≤ l.ss o ∧ l.ss o ≤ ssDischarge) else ok && (l.out o).ctrCmd

/-- Whether a lane's channels demand an output off (R324): a trip of either, in the lane's own view. -/
def Lane.demandsOff (l : Lane) (x : Nat) : Bool :=
  let t := fun (n : Nat) => l.safe.trip1.contains n || l.safe.trip2.contains n
  t 0 || t 2 || (if x < 3 then false else (List.range 7).any (fun i => t (outFn ((x - 3) / 3) i)))

/-- Whether an output is driven, but for a test pulse (R324, R337, R340). SAFE LOOP IN gates the outputs with `loop_mode` 1 only (R339). -/
def State.driven (s : State) (x : Nat) : Bool :=
  match s.arbiter.grant with
  | none => false
  | some i =>
    let l := s.lane i
    let m := s.lane i.other
    l.active && !(l.power.sleep.any SleepPrep.committed) && l.permits x && !(m.active && m.demandsOff x)
      && !(s.chassis.loopGate && decide (l.c SafM.loopMode = 1))

/-- Whether a test pulse of the lane granted the baton holds an output off (R336). -/
def State.pulsed (s : State) (x : Nat) : Bool := s.arbiter.grant.any (fun i => (s.lane i).safe.pulses.any (fun e => e.1 == x))

/-- Whether an output is energised (R324, R336, R337, R340). -/
def State.energised (s : State) (x : Nat) : Bool := s.driven x && !s.pulsed x

/-- What the outputs of outlet `o` start as they go off, each lane on its own cable voltage: BDIS the wait of R347, counted where a trip or the
discharge supervision did it above 60 V; CTR by a Class P trip above 60 V the discharge supervision (R346). -/
def Lane.outputsFell (driven tripped : Nat → Bool) (o : Nat) (l : Lane) : Lane :=
  let fell := fun (x : Nat) => l.safe.outsOn.contains x && !driven x
  let high := decide (60000 < (l.out o).vOwn)
  let l1 := if fell (5 + 3 * o) then l.setOut o { l.out o with bdisOff := some l.lap }
    else if driven (5 + 3 * o) then l.setOut o { l.out o with bdisOff := none } else l
  let l2 := if fell (5 + 3 * o) && tripped (5 + 3 * o) && high then l1.inc (Saf.backupDischarges o) else l1
  if (fell (3 + 3 * o) || fell (4 + 3 * o)) && tripped (3 + 3 * o) && high && (l2.out o).discharge.isNone then
    l2.setOut o { l2.out o with discharge := some l2.lap }
  else l2

/-- The outputs of a lane brought up to date: its points (R349, R350), and what those that went off start. -/
def Lane.showOutputs (driven pulsed tripped : Nat → Bool) (outlets : Nat) (l : Lane) : Lane :=
  let on := fun (x : Nat) => driven x && !pulsed x
  let m := b01 (on 0) + 2 * b01 (on 1) + 4 * b01 (on 2)
  let l1 := (l.setp SafM.safeOutState m).forN outlets (fun o l =>
    (l.outputsFell driven tripped o).setp (Saf.outState o) (b01 (on (3 + 3 * o)) + 2 * b01 (on (4 + 3 * o)) + 4 * b01 (on (5 + 3 * o))))
  l1.safe! (fun s => { s with outsOn := (List.range (3 + 3 * outlets)).filter driven })

/-- Every output's state shown in both lanes. -/
def State.drive (s : State) : State :=
  let n := s.chassis.variant.outlets
  let tripped := fun (x : Nat) => s.a.demandsOff x || s.b.demandsOff x
  { s with a := s.a.showOutputs s.driven s.pulsed tripped n, b := s.b.showOutputs s.driven s.pulsed tripped n }

/-- The LATCH output of outlet `o` in its locked state (R332, R234): as the lane granted the baton commands it, and held so in hardware while
either lane's cable voltage is above 60 V or CTR+ or CTR− is energised. -/
def State.latchLocked (s : State) (o : Nat) : Bool :=
  (match s.arbiter.grant with | some i => ((s.lane i).out o).latchCmd | none => false)
    || (s.a.present && decide (60000 < (s.a.out o).vOwn)) || (s.b.present && decide (60000 < (s.b.out o).vOwn))
    || s.energised (3 + 3 * o) || s.energised (4 + 3 * o)

/-! ### One safety cycle (R321, R326, R330 to R333, R338, R340) -/

/-- The overvoltage limit of outlet `o` in mV (R330). -/
def Lane.ovLimit (l : Lane) (o : Nat) : Int :=
  if (l.out o).vMaxKnown && decide (l.ss o ≠ ssIdle) then
    min (l.p (Out.evVMaxMv o)) (l.sc o (Out.vMaxMv o)) + l.c (Saf.ovMarginMv o)
  else 60000 + l.c (Saf.ovMarginMv o)

/-- CTR+ or CTR− of the outlet energised. -/
def Lane.ctrOn (l : Lane) (o : Nat) : Bool :=
  bitAt (l.pn (Saf.outState o)) 0 || bitAt (l.pn (Saf.outState o)) 1

/-- The members whose telegrams the safety layer expects (R342): those of the first team level that this controller
belongs to, without itself. -/
def Lane.safetyMembers (l : Lane) : List Nat :=
  let w := l.pn (Team.teamMembers 0)
  let me := bitsAt (l.cn (Team.teamLvl 0)) 14 12
  (List.range 8).filter (fun m => bitAt w m && decide (m ≠ me))

/-- An input of the emergency stop counts as open (R326): its contact, the other source's pulse, or two own pulses missed in succession. -/
def Contacts.open1 (c : Contacts) (i : SafetyInputs) : Bool := !i.estop1 || i.cross1 || decide (2 ≤ c.miss1)
def Contacts.open2 (c : Contacts) (i : SafetyInputs) : Bool := !i.estop2 || i.cross2 || decide (2 ≤ c.miss2)

/-- The demand of the emergency stop contacts on one channel's inputs (R326): the cause. -/
def Contacts.demand (c : Contacts) (i : SafetyInputs) : Option Nat :=
  if c.open1 i then some 1 else if c.open2 i then some 2 else if c.discrepancy then some 3 else none

/-- The demand of function 0 on one channel's inputs (R326, R340, R343): the cause. What a filter has not seen yet demands nothing (R321); of
the members, those configured are judged. -/
def Lane.estopDemand (l : Lane) (c : Contacts) (i : SafetyInputs) : Option Nat :=
  let known := l.filtersKnown
  let loop := decide (l.c SafM.loopMode = 1)
  let from_ := fun (f : TgSender → Bool) => l.safe.senders.any (fun e => l.safetyMembers.contains e.1 && f e.2)
  match (if known then c.demand i else none) with
  | some n => some n
  | none =>
    if loop && ((known && !i.loopIn) || c.loopFault) then some 4
    else if from_ (fun x => x.demand) then some 5
    else if from_ (fun x => x.late) then some 6
    else none

/-- The selected hardwired pin readings of an outlet (R331). -/
def Lane.pinReadings (l : Lane) (i : SafetyInputs) (o : Nat) : List Int :=
  match i.pins.find? (fun e => e.1 == o) with
  | none => []
  | some e =>
    let m := l.cn (Saf.pinSensors o)
    (if bitAt m 0 then [e.2.1] else []) ++ (if bitAt m 1 then [e.2.2] else [])

/-- More than 5 A on the outlet 2 s after `EXPIRED` or later (R333). -/
def Lane.expiredAmps (l : Lane) (o : Nat) : Bool :=
  let t := UMap.get (fun _ => 0) l.safe.expiredLap o
  decide (t ≠ 0 ∧ l.p (Out.coolState o) = csExpired ∧ msLaps 2000 ≤ l.lap + 1 - t ∧ 5000 < l.ownAmps o)

/-- Whether the filters that function `k` of an outlet reads have seen their window (R321). -/
def Lane.fnKnown (l : Lane) (k : Nat) : Bool :=
  if k = 0 ∨ k = 1 then l.inputsKnown else if k = 3 then l.pinsKnown else true

/-- The demand of one function of an outlet on one channel's inputs: the cause. -/
def Lane.outletDemand (l : Lane) (i : SafetyInputs) (o k : Nat) : Option Nat :=
  let live := l.ctrOn o || decide (60000 < (l.out o).vOwn)
  match k with
  | 0 =>
    if !l.inputsKnown || !live then none
    else if i.proxOut.contains o then some 12
    else if i.latchOut.contains o then some 13
    else none
  | 1 =>
    if !l.inputsKnown || !l.ctrOn o then none
    else if i.imdOpen.contains o then some 7
    else if i.imdWire.contains o then some 8
    else none
  | 2 => if l.safe.ovHit.contains o ∨ 8 ≤ UMap.get (fun _ => 0) l.safe.ovRun o then some 9 else none
  | 3 =>
    let ts := l.pinReadings i o
    if !l.pinsKnown || ts.isEmpty then none
    else if ts.any (fun t => decide (t < -50000 ∨ 250000 < t)) then some 11
    else if ts.any (fun t => decide (l.c (Saf.pinHardMc o) < t)) then some 10
    else none
  | 4 => if l.fnHeld (outFn o 4) && decide (60000 < (l.out o).vOwn) then some 14 else none
  | 5 =>
    let since := UMap.get (fun _ => 0) l.safe.degLap o
    let run := l.safe.ampHit.contains o || decide (20 ≤ UMap.get (fun _ => 0) l.safe.ampRun o)
    if l.p (Out.coolState o) = csDegraded ∧ since ≠ 0 ∧ run = true then some 16
    else if l.fnHeld (outFn o 5) = true ∧ l.expiredAmps o = true then some 16
    else none
  | _ => if [3, 4, 5].any (fun k => i.lowOuts.contains (k + 3 * o)) then some 15 else none

/-- The demand of function 2 (R338). -/
def supplyDemand (i : SafetyInputs) : Option Nat := if [0, 1, 2].any i.lowOuts.contains then some 15 else none

/-- A function evaluated on both channels: it trips where either demands; without a demand a tripped one becomes
`RESETTABLE` (R328), and one not yet healthy becomes so; while its inputs are not `known` it stays as it is (R321). -/
def Lane.evalFn (outlets n : Nat) (known : Bool) (c1 c2 : Option Nat) (l : Lane) : Lane :=
  match c1, c2 with
  | none, none =>
    if !known then l else
    let l1 := l.safe! (fun s => { s with demand := s.demand.filter (fun k => k != n) })
    if l1.p (fnAddr n) = fnTripped then l1.setp (fnAddr n) fnResettable
    else if l1.p (fnAddr n) = fnOff then l1.setp (fnAddr n) fnHealthy
    else l1
  | a, b => l.tripFn outlets n (a.getD (b.getD 0)) a.isSome b.isSome

/-- The emergency-stop contacts of one channel in a cycle of 1 ms (R326): own pulses missed, the difference and the discrepancy. -/
def Contacts.cycle (i : SafetyInputs) (c0 : Contacts) : Contacts :=
  let missed := fun (n : Nat) (p : Option Bool) => match p with | none => n | some true => 0 | some false => n + 1
  let c := { c0 with miss1 := missed c0.miss1 i.pulse1, miss2 := missed c0.miss2 i.pulse2 }
  let x := c.open1 i
  let y := c.open2 i
  let n := if x != y then c.diff + 1 else 0
  let both := if x && y then c.both + 1 else 0
  let closed := !x && !y
  { c with
    diff := n
    both := both
    discrepancy := (c.discrepancy || decide (100 < n)) && !(closed && c.ready)
    ready := !closed && (c.ready || decide (200 ≤ both)) }

/-- The test pulses of SAFE LOOP IN as one channel sees them in a cycle (R340): the lap of the last, and the fault it ends. -/
def Contacts.loop (seen : Bool) (lap : Nat) (c : Contacts) : Contacts := if seen then { c with pulseLap := lap, loopFault := false } else c

/-- The contacts as both channels see them (R326). -/
def SafeSt.contacts (i1 i2 : SafetyInputs) (s : SafeSt) : SafeSt := { s with con1 := s.con1.cycle i1, con2 := s.con2.cycle i2 }

/-! ### Safety telegrams (R341 to R345) -/

/-- Whether sequence number `a` is later than `b` as a serial number. -/
def seqLater (a b : Nat) : Bool := decide (0 < (a + 4294967296 - b) % 4294967296 ∧ (a + 4294967296 - b) % 4294967296 < 2147483648)

/-- The record of a sender. -/
def Lane.tgSender (l : Lane) (m : Nat) : TgSender := UMap.get (fun _ => {}) l.safe.senders m

/-- The state that a function returns to when it is reset (R328): healthy, that of the cooling flow as the cooling stands (R333, R349). -/
def Lane.fnRest (l : Lane) (n : Nat) : Int :=
  if 16 ≤ n ∧ n % 8 = 5 then
    let cs := l.p (Out.coolState ((n - 16) / 8))
    if cs = csDegraded then fnDegraded else if cs = csExpired then fnExpired else if cs = csUncooled then fnOff else fnHealthy
  else fnHealthy

/-- A RESET edge accepted (R328, R329), at this controller or at another member (R345): every `RESETTABLE` function is reset, a
`TRIPPED` one refused, the start-up hold ends. -/
def Lane.acceptReset (outlets : Nat) (l : Lane) : Lane :=
  let fns := [0, 1, 2] ++ (List.range outlets).flatMap (fun o => (List.range 7).map (outFn o))
  let l1 := (l.inc SafM.resetAccepts).safe! (fun s => { s with
    startupHold := false, resetHeld := false })
  let l2 := l1.forL fns (fun n l =>
    if l.p (fnAddr n) = fnResettable then
      ((l.safe! (fun s => { s with trip1 := s.trip1.filter (fun k => k != n)
                                   trip2 := s.trip2.filter (fun k => k != n) })).setp (fnAddr n) (l.fnRest n)).fire 91 n []
    else if l.p (fnAddr n) = fnTripped then l.inc SafM.resetRefused
    else l)
  l2.forN outlets (fun o l => if bitAt (l.out o).holds 3 && !l.tripped o then (l.holdMet o 3).advance o else l)

/-- An edge of this controller's own RESET accepted, which its telegrams carry to the other members with `reset_scope` 1 (R345). -/
def Lane.ownReset (outlets : Nat) (l : Lane) : Lane :=
  (if l.c SafM.resetScope = 1 then l.safe! (fun s => { s with resetCount := (s.resetCount + 1) % 65536 }) else l).acceptReset outlets

/-- A telegram accepted (R343, R345). -/
def Lane.acceptTg (outlets : Nat) (t : Telegram) (l : Lane) : Lane :=
  let x := l.tgSender t.sender
  let y := { x with seq := some t.seq, time := t.sendTime, resets := t.resetCount, demand := bitAt t.demand 0, late := false }
  let l1 := l.safe! (fun s => { s with senders := UMap.put (fun _ => {}) s.senders t.sender y })
  let l2 := if bitAt t.demand 0 then l1.tripFn outlets 0 5 true true else l1
  if decide (l.c SafM.resetScope = 1) && x.seq.isSome && decide (0 < (t.resetCount + 65536 - x.resets) % 65536)
      && decide ((t.resetCount + 65536 - x.resets) % 65536 < 32768) then l2.acceptReset outlets
  else l2

/-- SAFETY_TELEGRAM_RECEIVE (R342): checked and held for comparison. -/
def Lane.takeTelegram (net : Nat) (t : Telegram) (l : Lane) : Lane :=
  let late := l.pacer.teamTime - t.sendTime
  let old := match (l.tgSender t.sender).seq with | some q => !seqLater t.seq q | none => false
  if (t.teamId : Int) ≠ l.c SafM.teamId ∨ l.safetyMembers.contains t.sender = false ∨ t.crcOk = false ∨ old = true
      ∨ 3000000 < late ∨ late < -1000000 then l.inc SafM.tgRejected
  else l.safe! (fun s => { s with
    held := s.held ++ [{ net := net, lap := l.lap, t := t }]
    net1Lap := if net = 1 then l.lap else s.net1Lap
    net2Lap := if net = 2 then l.lap else s.net2Lap })

/-- The run in which both nets deliver agreeing copies of a member goes on, or ends (R344). -/
def Lane.agreed (m : Nat) (ok : Bool) (l : Lane) : Lane :=
  let x := l.tgSender m
  l.safe! (fun s => { s with
    senders := UMap.put (fun _ => {}) s.senders m { x with agree := if ok then some (x.agree.getD l.lap) else none } })

/-- The comparison of one held telegram with its copy from the other net (R343). -/
def Lane.compareTg (outlets : Nat) (c : TgCopy) (l : Lane) : Lane :=
  let drop := fun (l : Lane) => l.safe! (fun s => { s with
    held := s.held.filter (fun d => !(d.t.sender == c.t.sender && d.t.seq == c.t.seq)) })
  if !l.safe.held.contains c then l
  else
    match l.safe.held.find? (fun d => d.t.sender == c.t.sender && d.t.seq == c.t.seq && d.net != c.net) with
    | some d =>
      let l1 := drop l
      if c.t = d.t then (l1.acceptTg outlets c.t).agreed c.t.sender true
      else ((l1.inc SafM.tgMismatch).fire 93 c.net [(c.t.sender : Int)]).agreed c.t.sender false
    | none =>
      if c.lap + 200 ≤ l.lap then
        let l1 := (drop l).agreed c.t.sender false
        let missing := if c.net = 1 then 1 else 0
        if l.p (SafM.fnStateMod 1) = fnDegraded ∧ bitAt (l.pn SafM.netState) missing = false then l1.acceptTg outlets c.t
        else l1
      else l

/-- The telegram that this controller sends at the start of a cycle, and its 32 bytes (R341): the baton holder sends it, and the standby
numbers along. -/
def Lane.sendTelegram (l : Lane) : Lane :=
  if l.c SafM.teamSafety ≠ 1 then l
  else
    let s := l.safe
    let t : Telegram :=
      { teamId := l.cn SafM.teamId, sender := bitsAt (l.cn (Team.teamLvl 0)) 14 12, version := 1
        seq := (s.seqTx + 1) % 4294967296, sendTime := l.pacer.teamTime
        demand := (if l.c SafM.estopScope = 1 ∧ l.fnHeld 0 = true then 1 else 0) + (if l.fnHeld 1 then 2 else 0)
        resetCount := if l.c SafM.resetScope = 1 then s.resetCount else 0, crcOk := true }
    l.safe! (fun s => { s with
      seqTx := t.seq, sent := if l.link.grant then some t else none, sentBytes := if l.link.grant then t.bytes else [] })

/-- SAFETY_CYCLE (R321): both channels of a lane evaluate every function on their own inputs. -/
def Lane.safetyCycle (outlets : Nat) (i1 i2 : SafetyInputs) (l : Lane) : Lane :=
  let l0 := l.safe! (fun s =>
    let s1 := s.contacts i1 i2
    { s1 with
      con1 := s1.con1.loop i1.loopPulse l.lap, con2 := s1.con2.loop i2.loopPulse l.lap
      imdOk := (List.range outlets).filter (fun o => !(i1.imdOpen.contains o || i1.imdWire.contains o
        || i2.imdOpen.contains o || i2.imdWire.contains o)) })
  let l1 := (l0.safe.held).foldl (fun l c => Lane.compareTg outlets c l) l0.sendTelegram
  let st : Int := b01 i1.estop1 + 2 * b01 i1.estop2 + 4 * b01 i1.reset + 8 * b01 (l1.safe.con1.discrepancy || l1.safe.con2.discrepancy)
  let loop : Int := if l1.c SafM.loopMode = 0 then 0 else if l1.safe.con1.loopFault || l1.safe.con2.loopFault then 3 else if i1.loopIn then 1 else 2
  let l2 := (l1.setp SafM.safeInState st).setp SafM.loopState loop
  let l3 := (l2.evalFn outlets 0 l2.filtersKnown (l2.estopDemand l2.safe.con1 i1) (l2.estopDemand l2.safe.con2 i2)).evalFn outlets 2 true
    (supplyDemand i1) (supplyDemand i2)
  let l4 := l3.forN outlets (fun o l =>
    let hot := (l.pinReadings i1 o).foldl (fun a t => match a with | none => some t | some v => some (max v t)) (none : Option Int)
    let deg := UMap.get (fun _ => 0) l.safe.degLap o
    let since := if l.p (Out.coolState o) = csDegraded then (if deg = 0 then l.lap + 1 else deg) else 0
    let a := ((l.setp (Saf.ovLimitMv o) (l.ovLimit o)).setp (Saf.tPinHard o) (hot.getD (l.p (Saf.tPinHard o)))).safe! (fun s =>
      { s with degLap := UMap.put (fun _ => 0) s.degLap o since })
    a.forN 7 (fun k l =>
      if k = 5 ∧ l.fnHeld (outFn o 5) = false ∧ (l.outletDemand i1 o 5).isNone = true then l
      else l.evalFn outlets (outFn o k) (l.fnKnown k) (l.outletDemand i1 o k) (l.outletDemand i2 o k)) |>.discharged o)
  let same := l4.safe.trip1.all l4.safe.trip2.contains && l4.safe.trip2.all l4.safe.trip1.contains
  l4.safe! (fun s =>
    let n := if same then 0 else s.diffRun + 1
    { s with diffRun := n, chanFault := s.chanFault || decide (2 ≤ n), ovHit := [], ampHit := [] })

/-- TRIP_LATCH_RECEIVE (R322): a trip latched by the other lane is latched by both channels. -/
def Lane.takeTrip (l : Lane) (other : Lane) (outlets n : Nat) : Lane :=
  if other.safe.trip1.contains n || other.safe.trip2.contains n then
    let cause := if n < 3 then other.pn SafM.modTripCause else other.pn (Saf.tripCause ((n - 16) / 8))
    l.tripFn outlets n cause true true
  else l

/-- RESET_EDGE (R328, R329): an edge counts after 200 ms open and 50 ms closed; before the first grant it is held. -/
def Lane.resetEdge (granted : Bool) (outlets openMs closedMs : Nat) (l : Lane) : Lane :=
  if openMs < 200 ∨ closedMs < 50 then l
  else if granted then l.ownReset outlets
  else l.safe! (fun s => { s with resetHeld := true })

/-- A held edge acts at the grant (R329). -/
def Lane.heldReset (outlets : Nat) (l : Lane) : Lane := if l.safe.resetHeld then l.ownReset outlets else l

/-! ### Test pulses (R336 to R338) -/

/-- The epochs, modulo 500, in which an output is pulsed (R336). -/
def pulseEpochs (x : Nat) : List Nat :=
  if x = 0 then [1] else if x = 1 then [251] else if x = 2 then [3, 253]
  else [10 + 5 * ((x - 3) % 3) + 15 * ((x - 3) / 3)]

/-- TEST_PULSE_START (R336). -/
def Lane.pulseStart (x : Nat) (energised : Bool) (l : Lane) : Lane :=
  if energised && decide (l.lapIn = 20) && (pulseEpochs x).contains (l.epoch % 500) then
    l.safe! (fun s => { s with pulses := s.pulses ++ [(x, l.lap)] })
  else l

/-- The function that a fault of an output trips (R338). -/
def outputFn (x : Nat) : Nat := if x < 3 then 2 else outFn ((x - 3) / 3) 6

/-- The channel of an output (R323, R338, log entry 81): SAFE OUT 1 and 2, and CTR+ and CTR− of an outlet, are each other's partner
channels 1 and 2; SAFE LOOP OUT and BDIS have one. -/
def outputChannel (x : Nat) : Int := if x = 1 ∨ (3 ≤ x ∧ (x - 3) % 3 = 1) then 2 else 1

/-- A read-back fault counted, with event 92 (R338). -/
def Lane.outputFault (x : Nat) (l : Lane) : Lane := (l.inc SafM.tpFaults).fire 92 x [outputChannel x]

/-- Whether the test pulse of an output is at its end: after `tp_width_us` (R336). -/
def Lane.pulseOver (l : Lane) (x : Nat) : Bool :=
  l.safe.pulses.any (fun e => e.1 == x && decide (l.cn SafM.tpWidthUs / 5 ≤ l.lap - e.2))

/-- A channel that has seen no test pulse of the other controller for 1,100 ms since the core started (R340). -/
def Lane.pulseLost (l : Lane) (c : Contacts) : Bool := decide (msLaps 1100 ≤ l.lap - max c.pulseLap l.safe.startLap)

/-- LOOP_TEST_PULSE_TIMEOUT (R340): each channel that has seen none for 1,100 ms raises function 0. -/
def Lane.loopTimeout (outlets : Nat) (l : Lane) : Lane :=
  let m1 := l.pulseLost l.safe.con1
  let m2 := l.pulseLost l.safe.con2
  if l.c SafM.loopMode = 1 ∧ (m1 || m2) = true then
    ((l.safe! (fun s => { s with
      con1 := { s.con1 with loopFault := s.con1.loopFault || m1 }
      con2 := { s.con2 with loopFault := s.con2.loopFault || m2 } })).setp SafM.loopState 3).tripFn outlets 0 4 m1 m2
  else l

/-- The members named count as heard at the present instant, as the telegrams of a team begin to be watched (R343). -/
def Lane.telegramsFrom (ms : List Nat) (l : Lane) : Lane :=
  l.forL ms (fun m l => l.safe! (fun s => { s with
    senders := UMap.put (fun _ => {}) s.senders m { UMap.get (fun _ => {}) s.senders m with time := l.pacer.teamTime, late := false } }))

/-- TELEGRAM_TIMEOUT (R343): 13 ms since the send time of the member's last accepted telegram. -/
def Lane.telegramTimeout (outlets m : Nat) (l : Lane) : Lane :=
  let x := l.tgSender m
  if l.c SafM.teamSafety = 1 ∧ l.safetyMembers.contains m = true ∧ 13000000 < l.pacer.teamTime - x.time then
    let l1 := (l.inc SafM.tgTimeouts).safe! (fun s => { s with senders := UMap.put (fun _ => {}) s.senders m { x with late := true, agree := none } })
    l1.tripFn outlets 0 6 true true
  else l

/-- NET_LOST (R334, R344): `net` is 1 or 2. -/
def Lane.netLost (net : Nat) (l : Lane) : Lane :=
  let mine := if net = 1 then l.safe.net1Lap else l.safe.net2Lap
  let other := if net = 1 then l.safe.net2Lap else l.safe.net1Lap
  let st := l.pn SafM.netState
  if l.c SafM.teamSafety = 1 ∧ (net = 1 ∨ net = 2) ∧ msLaps 13 ≤ l.lap - mine ∧ l.lap - other < msLaps 13 then
    let l1 := (l.setp SafM.netState (setBit st (net - 1) false : Nat)).safe! (fun s => { s with bothLap := none })
    if l1.p (SafM.fnStateMod 1) = fnHealthy ∨ l1.p (SafM.fnStateMod 1) = fnOff then
      (l1.setp (SafM.fnStateMod 1) fnDegraded).fire 89 1 [l1.p SafM.teamElapsedMs]
    else if l1.p (SafM.fnStateMod 1) = fnResettable then
      -- the demand of the expired time clears only while both nets are restored
      (l1.setp (SafM.fnStateMod 1) fnTripped).fire 89 1 [l1.p SafM.teamElapsedMs]
    else l1
  else l

/-- Whether both nets have delivered agreeing copies from every configured member for 10 s (R344). -/
def Lane.netsAgree (l : Lane) : Bool :=
  decide (l.c SafM.teamSafety = 1) && !l.safetyMembers.isEmpty
    && l.safetyMembers.all (fun m => (l.tgSender m).agree.any (fun t => decide (msLaps 10000 ≤ l.lap - t)))

/-- NET_RESTORED (R334, R344). -/
def Lane.netRestored (net : Nat) (l : Lane) : Lane :=
  if (net = 1 ∨ net = 2) ∧ l.netsAgree = true then
    let st := setBit (l.pn SafM.netState) (net - 1) true
    let l1 := l.setp SafM.netState (st : Nat)
    if st % 4 ≠ 3 then l1
    else
      let l2 := l1.safe! (fun s => { s with bothLap := some (s.bothLap.getD l1.lap) })
      let f := l2.p (SafM.fnStateMod 1)
      if f = fnDegraded ∨ f = fnOff then l2.setp (SafM.fnStateMod 1) fnHealthy
      else if f = fnTripped then l2.setp (SafM.fnStateMod 1) fnResettable
      else l2
  else l

/-- TEAM_DEGRADED_EXPIRY (R334): event 90, every session stopped, function 1 trips with cause 17; a session that has reached its end then
is held, as are those that end later (`Lane.stepAction`). -/
def Lane.teamExpiry (outlets : Nat) (l : Lane) : Lane :=
  if l.p (SafM.fnStateMod 1) = fnDegraded ∧ 300000 ≤ l.p SafM.teamElapsedMs then
    (((l.fire 90 1 []).forN outlets Lane.stopSession).tripFn outlets 1 17 true true).forN outlets (fun o l =>
      if l.ss o = ssUnlatch then l.recordFault o 18 else l)
  else l

/-- TEAM_ELAPSED_RESET (R334): 300 s of both nets delivering. -/
def Lane.teamElapsedReset (l : Lane) : Lane :=
  match l.safe.bothLap with
  | some t => if msLaps 300000 ≤ l.lap - t then l.setp SafM.teamElapsedMs 0 else l
  | none => l

/-- The degraded time of function 1 at the end of an epoch (R334). -/
def Lane.teamElapsed (l : Lane) : Lane :=
  if l.p (SafM.fnStateMod 1) = fnDegraded then l.inc SafM.teamElapsedMs else l

/-! ### Discharge and current supervision (R333, R346, R347) -/

/-- DISCHARGE_SUPERVISION_EXPIRY (R346). -/
def Lane.dischargeExpiry (outlets o : Nat) (l : Lane) : Lane :=
  match (l.out o).discharge with
  | some t =>
    if msLaps 1000 ≤ l.lap - t ∧ 60000 < (l.out o).vOwn then l.tripFn outlets (outFn o 4) 14 true true else l
  | none => l

/-- BACKUP_DISCHARGE_CHECK (R347): event 88 again, 2 s after BDIS was de-energised. -/
def Lane.backupCheck (o : Nat) (l : Lane) : Lane :=
  match (l.out o).bdisOff with
  | some t =>
    if msLaps 2000 ≤ l.lap - t ∧ 60000 < (l.out o).vOwn then
      (l.setOut o { l.out o with bdisOff := none }).fire 88 (outFn o 4) [14]
    else l
  | none => l

/-- DEGRADED_CURRENT_CHECK (R333): more than 5 A 2 s after `EXPIRED`. -/
def Lane.degradedCurrent (outlets o : Nat) (l : Lane) : Lane :=
  if l.expiredAmps o then l.tripFn outlets (outFn o 5) 16 true true else l

end Sys2Proof.Machine
end

