-- ==== Sys2Proof/Machine/KeyUpdate.lean ====
section
/-!
DEFINITION. Key update messages (R380 to R388): the checks, the trial store, the commit point in both lanes, and what
orphaned keys do to sessions, records and rings.
-/

namespace Sys2Proof.Machine

/-! ### The message (R380) -/

/-- One operation of a message: slot, op, attribute word, value. -/
structure KeyOp where
  slot : Nat
  op : Nat
  attr : Nat
  value : List Nat
deriving DecidableEq, Repr

/-- A loaded message opened under the authorising key (R381): its bytes 0..31 and, where the tag verifies, its operations in clear. -/
def openMessage (key msg : List Nat) : Option (List Nat) :=
  let ct := (msg.drop 32).take (msg.length - 48)
  (gcmOpen key ([0x4B, 0x55, 0x50, 0x44] ++ (msg.drop 20).take 8) (msg.take 32) ct (msg.drop (32 + ct.length))).map (msg.take 32 ++ ·)

/-- Operation `i` of an opened message's bytes. -/
def keyOpAt (m : List Nat) (i : Nat) : KeyOp :=
  let b := 32 + 80 * i
  { slot := fieldAt m b 2, op := fieldAt m (b + 2) 1, attr := fieldAt m (b + 4) 4, value := (m.drop (b + 8)).take 72 }

/-- The message's operations. -/
def keyOps (m : List Nat) : List KeyOp := (List.range (fieldAt m 1 1)).map (keyOpAt m)

/-! ### Checks 7 to 11 (R383) -/

/-- Check 7: the slot is one that messages write, and is allowed to `auth` (R381): of a family parent, a stored child of its own family, which a
slot with a key of another family is not (DEDUCED, log entry 53). -/
def opSlotOk (m : UMap KeySlot) (auth : Nat) (o : KeyOp) : Bool :=
  if 1 ≤ o.slot ∧ o.slot ≤ 5 then decide (auth = 0)
  else if 16 ≤ o.slot ∧ o.slot ≤ 767 then
    let k := slotOf m o.slot
    decide (auth = 0) || (decide (o.op ≠ 1 ∨ kaFamily o.attr = auth)
      && decide (kaFamily k.attr = auth ∨ (o.op = 1 ∧ k.state = 0)))
  else false

/-- Check 8: a write's type is allowed in its family, and its value is zero past the type's length. -/
def opTypeOk (o : KeyOp) : Bool :=
  if o.op ≠ 1 then true
  else (if o.slot ≤ 5 then decide (kaType o.attr = 1) else (familyTypes (kaFamily o.attr)).contains (kaType o.attr))
    && (o.value.drop (typeBytes (kaType o.attr))).all (fun b => decide (b = 0))

/-- Check 9: a write's engines lie within its family, `E_MIRROR` is 1 and `WORKING` is 0. -/
def opAttrOk (o : KeyOp) : Bool :=
  if o.op ≠ 1 then true
  else
    let allowed := if o.slot ≤ 5 then 0 else familyEngines (kaFamily o.attr)
    bitAt o.attr 8 && !kaWorking o.attr && decide ((kaEngines o.attr % 256) ||| allowed = allowed)

/-- Check 10: a write's family matches its slot; a stored child's family parent is usable in the trial store. -/
def opParentOk (m : UMap KeySlot) (o : KeyOp) : Bool :=
  if o.op ≠ 1 then true
  else if o.slot ≤ 5 then decide (kaFamily o.attr = o.slot)
  else decide (1 ≤ kaFamily o.attr ∧ kaFamily o.attr ≤ 5) && usable m (kaFamily o.attr)

/-- An operation carried out on a trial store: a write advances `key_ver` and takes its parent's, of a parent that a `later` operation of
the message writes the new one's (R383); an invalidation keeps
the attributes and drops the value. The reserved bits of the attribute word stay 0 (R376). -/
def applyOp (m : UMap KeySlot) (o : KeyOp) (later : List KeyOp) : UMap KeySlot :=
  let old := slotOf m o.slot
  if o.op = 1 then
    let p := if o.slot ≤ 5 then 0 else kaFamily o.attr
    let more := (later.filter (fun x => x.op == 1 && x.slot == p)).length
    putSlot m o.slot { state := 1, attr := o.attr &&& 0x00FF01FF, ver := old.ver + 1, parentVer := (slotOf m p).ver + more, parent := p
                       value := o.value.take (typeBytes (kaType o.attr)) }
  else putSlot m o.slot { old with state := 2, value := [] }

/-- The trial store before each operation, and the store after the last. -/
def trialRun : UMap KeySlot → List KeyOp → List (UMap KeySlot × KeyOp) × UMap KeySlot
  | m, [] => ([], m)
  | m, o :: os =>
    let r := trialRun (applyOp m o os) os
    ((m, o) :: r.1, r.2)

/-- The index of the first operation that fails a check. -/
def failingOp (ok : UMap KeySlot → KeyOp → Bool) (xs : List (UMap KeySlot × KeyOp)) : Option Nat :=
  xs.findIdx? (fun x => !ok x.1 x.2)

/-- Checks 1 to 11 (R383) on a loaded message: the status, the index of a failing operation (0xFFFF for none), the
trial store, and the slots that its operations name. An `op` other than 1 and 2 is a format error (log entry 23). -/
def Lane.checkMessage (l : Lane) (msg : List Nat) (len : Nat) : Nat × Nat × UMap KeySlot × List Nat :=
  let m := l.keys.slots
  let n := fieldAt msg 1 1
  let auth := fieldAt msg 28 2
  if l.p Key.updateBlock = 1 then (st_KEY_TAMPER_PENDING, 0xFFFF, m, [])
  else if fieldAt msg 0 1 ≠ 1 ∨ n = 0 ∨ 8 < n ∨ fieldAt msg 2 2 ≠ 48 + 80 * n ∨ len ≠ 48 + 80 * n ∨ msg.length ≠ len then
    (st_KEY_MSG_FORMAT, 0xFFFF, m, [])
  else if (fieldAt msg 4 8 : Int) ≠ l.p D0.serialLo ∨ (fieldAt msg 12 8 : Int) ≠ l.p D0.serialHi then
    (st_KEY_SERIAL, 0xFFFF, m, [])
  else if 5 < auth ∨ l.keyUsable auth = false then (st_KEY_AUTH_SLOT, 0xFFFF, m, [])
  else match openMessage (slotOf m auth).value msg with
  | none => (st_KEY_AUTH_FAIL, 0xFFFF, m, [])
  | some clear =>
  if (fieldAt msg 20 8 : Int) ≤ l.p Key.keyCounter then (st_KEY_COUNTER, 0xFFFF, m, [])
  else
    let ops := keyOps clear
    let t := trialRun m ops
    match ops.findIdx? (fun o => !(o.op == 1 || o.op == 2)) with
    | some i => (st_KEY_MSG_FORMAT, i, m, [])
    | none =>
    match failingOp (fun m o => opSlotOk m auth o) t.1 with
    | some i => (st_KEY_SLOT, i, m, [])
    | none =>
    match failingOp (fun _ o => opTypeOk o) t.1 with
    | some i => (st_KEY_TYPE, i, m, [])
    | none =>
    match failingOp (fun _ o => opAttrOk o) t.1 with
    | some i => (st_KEY_ATTR, i, m, [])
    | none =>
    match failingOp opParentOk t.1 with
    | some i => (st_KEY_PARENT, i, m, [])
    | none => if usable t.2 16 then (st_OK, 0xFFFF, t.2, (ops.map KeyOp.slot).eraseDups) else (st_KEY_LOCKOUT, 0xFFFF, m, [])

/-! ### Applying it (R384) -/

/-- `KEY_MSG_APPLY` in lap L: the checks, and the trial store in the shadow area. The response comes at the commit point. The ring's buffer
is cleared whatever becomes of it (R391). While another message is under application it is `BUSY` (DESIGN CHOICE, log entry 83), but behind a
tamper block every one fails with that (R387). -/
def Lane.cmdKeyApply (r : Request) (l : Lane) : Lane × Option Reply :=
  let msg := l.keyBuffer r.ring
  let l1 := l.setKeyBuffer r.ring []
  if r.len ≠ 2 then (l1, some (Reply.just st_BAD_LENGTH))
  else if l.keys.apply.isSome then
    (l1, some (if l.p Key.updateBlock = 1 then { status := st_KEY_TAMPER_PENDING, parts := [[(2, 0xFFFF)]] } else Reply.just st_BUSY))
  else
    let v := l.checkMessage msg (r.at_ 0 2)
    ({ l1 with keys := { l1.keys with apply := some {
        lap := l.lap, req := r, auth := fieldAt msg 28 2, status := v.1, index := v.2.1, trial := v.2.2.1, counter := fieldAt msg 20 8
        touched := v.2.2.2 } } }, none)

/-- KEY_DIGEST_EXCHANGE in lap L + 1: the digest of trial store and status compared with the partner's. The digest is
taken to tell different stores apart (log entry 5). -/
def Lane.keyExchange (l : Lane) (other : Lane) : Lane :=
  match l.keys.apply, other.keys.apply with
  | some a, some b =>
    if l.lap = a.lap + 1 then
      { l with keys := { l.keys with apply := some { a with
          agreed := some (decide (a.status = b.status ∧ a.trial = b.trial)) } } }
    else l
  | _, _ => l

/-- The outcome at the commit point (R384, R388). -/
def Lane.keyVerdict (l : Lane) (a : KeyApply) (inStep : Bool) : Nat :=
  if a.status ≠ st_OK then a.status
  else if inStep && decide (a.agreed ≠ some true) then st_KEY_LANE_ABORT
  else if l.p Key.updateBlock = 1 ∨ a.tampers ≠ [] then st_KEY_TAMPER_PENDING
  else st_OK

/-- Whether the commit point has come without an exchange of digests (R384). -/
def Lane.keySilent (l : Lane) : Bool := l.keys.apply.any (fun a => decide (a.lap + 2 ≤ l.lap) && a.agreed.isNone)

/-- What orphaned keys do from the commit point onward (R385, R386): engines overwrite their copies, sessions close, one whose response is
still on its way once that has gone, team session keys
are erased, and the counters of a replaced transport slot restart. -/
def Lane.orphanEffects (touched : List Nat) (l : Lane) : Lane :=
  let m := l.keys.slots
  let l1 := { l with
    keys := { l.keys with copies := l.keys.copies.filter (fun c => usable m c.2.1 && decide ((slotOf m c.2.1).ver = c.2.2)) }
    host := { l.host with
      counters := l.host.counters.filter (fun e => !(touched.contains e.1))
      savedCounter := l.host.savedCounter.filter (fun e => !(touched.contains e.1))
      outCounter := l.host.outCounter.filter (fun e => !(touched.contains e.1)) } }
  let l2 := l1.forL (UMap.keys l1.outs) (fun o l =>
    if !(l.out o).tls.up || usable m (sessionSlot o) then l
    else if (l.out o).resSent then l.dropSession o
    else l.setOut o { l.out o with dropDue := true })
  l2.forN 8 (fun k l => if usable m (teamSlot k) then l else l.eraseKey (teamSlot k))

/-- Slots that have a descendant in the store. -/
def hasChild (m : UMap KeySlot) (s : Nat) : Bool :=
  (UMap.keys m).any (fun c => decide (c ≠ s ∧ (slotOf m c).state ≠ 0 ∧ parentSlot m c = s))

/-- The family that an event names for a slot: a family parent's own number, else the attribute's. -/
def slotFamily (m : UMap KeySlot) (s : Nat) : Nat := if s ≤ 5 then s else kaFamily (slotOf m s).attr

/-- KEY_COMMIT_POINT at the start of lap L + 2: the shadow becomes active or is dropped, the
response is sent, events 104 and 103 fire. -/
def Lane.keyCommit (inStep : Bool) (l : Lane) : Lane :=
  match l.keys.apply with
  | none => l
  | some a =>
    if l.lap < a.lap + 2 then l
    else
      let v := l.keyVerdict a inStep
      let l0 : Lane := { l with keys := { l.keys with apply := none } }
      let done := if v = st_OK then
        let old := l0.keys.slots
        let l1 := Lane.keyPoints { l0 with keys := { l0.keys with slots := a.trial } }
        let l2 := ((l1.setp Key.keyCounter a.counter).inc Key.updatesApplied).orphanEffects a.touched
        -- the response on a ring whose transport key the message replaced goes under the old key (R385)
        let g := l2.ring a.req.ring
        let l2 := if a.touched.contains g.keySlot then l2.setRing a.req.ring { g with
            oldKey := some ((slotOf old g.keySlot).value, UMap.get (fun _ => 0) l.host.outCounter g.keySlot) } else l2
        let l3 := (l2.answer a.req (Reply.ok [(8, (a.counter : Int))])).fire 104 a.auth [0]
        l3.forL (a.touched.filter (hasChild old)) (fun s l => l.fire 103 s [(slotFamily old s : Int)])
      else
        ((l0.inc Key.updatesRefused).answer a.req { status := v, parts := [[(2, (a.index : Int))]] }).fire 104 a.auth [(v : Int)]
      -- tamper records that came while the message was being applied are written now (R388)
      done.forL a.tampers (fun t l => l.tamperRecord t.1 t.2.1 t.2.2.1 t.2.2.2)

end Sys2Proof.Machine
end

