-- ==== Sys2Proof/Machine/Team.lean ====
section
/-!
DEFINITION. Relay teams of one lane (R393 to R413): levels, team frames, beacons and member states, membership changes,
paths, and the bypass switches. Team arms and triggers act on records and stand in Acquire.lean.
-/

namespace Sys2Proof.Machine

/-! ### Levels (R393, R394) -/

/-- Level `k` of this controller. -/
def Lane.lvl (l : Lane) (k : Nat) : TeamLevel := UMap.get (fun _ => {}) l.team.levels k

/-- Level `k` replaced. -/
def Lane.setLvl (k : Nat) (x : TeamLevel) (l : Lane) : Lane :=
  { l with team := { l.team with levels := UMap.put (fun _ => {}) l.team.levels k x } }

/-- Whether level `k` is used. -/
def lvlUsed (m : UMap Int) (k : Nat) : Bool := bitAt (cfgAt m (Team.teamLvl k)).toNat 31

/-- `TEAM_ID` of level `k`. -/
def lvlTeam (m : UMap Int) (k : Nat) : Nat := bitsAt (cfgAt m (Team.teamLvl k)).toNat 30 15

/-- Own member index at level `k`. -/
def lvlMember (m : UMap Int) (k : Nat) : Nat := bitsAt (cfgAt m (Team.teamLvl k)).toNat 14 12

/-- The used levels. -/
def usedLevels (m : UMap Int) : List Nat := (List.range 8).filter (lvlUsed m)

/-- The rules on used levels (R394). -/
def teamGroupOk (m : UMap Int) : Bool :=
  let us := usedLevels m
  decide (us = List.range us.length)
    && us.all (fun k => decide (k = 0) || decide (lvlMember m (k - 1) = 0))
    && us.all (fun k => us.all (fun j => decide (j = k) || decide (lvlTeam m j ≠ lvlTeam m k)))
    && (decide (cfgAt m SafM.teamSafety ≠ 1) || decide (cfgAt m SafM.teamId = (lvlTeam m 0 : Int)))

/-- The team epoch at level `k` (R408). -/
def Lane.teamEpoch (l : Lane) (k : Nat) : Int := (l.epoch : Int) + l.p (Team.epochOffset k)

/-- The offset of a request's epoch numbers from this lane's: team epochs where other members are named (R48, R408). A lane whose epochs are
misaligned takes its epoch whose lap 0 lies nearest (R408). -/
def Lane.epochShift (l : Lane) (team : Bool) : Int :=
  if team then l.teamEpoch 0 - l.epoch - (if l.p Pc.epochMisaligned ≠ 0 ∧ (l.lvl 0).offsetLate = true then 1 else 0) else 0

/-- The state of member `m` at level `k` as its point shows it (R403). -/
def Lane.memberState (l : Lane) (k m : Nat) : Nat := bitsAt (l.pn (Team.memberStates k)) (2 * m + 1) (2 * m)

/-- Members counted in rounds, arming and snapshots: those in the state `MEMBER` (R403). -/
def Lane.teamMembersOf (l : Lane) (k : Nat) : List Nat := (List.range 8).filter (fun m => decide (l.memberState k m = 2))

/-- The mask and the candidates of a level shown (R394): a candidate's beacons arrive, and it is not in the mask. -/
def Lane.showMask (k : Nat) (l : Lane) : Lane :=
  let x := l.lvl k
  let cand := ((List.range 8).filter (fun m =>
    let y := UMap.get (fun _ => ({} : TeamMember)) x.members m
    (y.seen || decide (0 < y.run)) && !bitAt x.mask m)).foldl
    (fun a m => a + 2 ^ m) 0
  l.setp (Team.teamMembers k) (x.mask + 256 * cand : Nat)

/-- Whether team traffic may flow: the key named by `role_team` is usable and admits the team link engine (R386, R402). -/
def Lane.teamKeyOk (l : Lane) : Bool := decide (l.deliveryStatus engTeam (l.role Key.roleTeam) 4 = st_OK)

/-- The session key of a level (R402): HKDF-SHA-384 over the key named by `role_team`, with the team's number and `key_gen` in the info, each
of two bytes (R12). -/
def Lane.teamSessionKey (k : Nat) (l : Lane) : Nat :=
  ofLe (hkdf384 (slotOf l.keys.slots (l.role Key.roleTeam)).value
    ([0x74, 0x65, 0x61, 0x6D] ++ leBytes 2 (lvlTeam l.cfg k) ++ leBytes 2 (l.lvl k).keyGen) 32)

/-- Whether a level's session key stands, derived from the key that `role_team` names now. -/
def Lane.teamKeyHeld (k : Nat) (l : Lane) : Bool :=
  l.keyUsable (teamSlot k) && decide ((slotOf l.keys.slots (teamSlot k)).parent = l.role Key.roleTeam)

/-- The team link engine asks for the session key of a level, which is derived where none stands (R374, R402); a refusal counts (R378). -/
def Lane.teamKey (k : Nat) (l : Lane) : Lane × Bool :=
  if l.teamKeyHeld k then l.askKey engTeam (teamSlot k) 3
  else
    let a := l.askKey engTeam (l.role Key.roleTeam) 4
    if a.2 then (a.1.deriveKey (teamSlot k) (l.role Key.roleTeam) 0x20 (l.teamSessionKey k), true) else a

/-- A team frame sent at level `k` with the next `seq`, in both directions (R396, R399, R400). Without a usable team key nothing is sent;
the standby's transmitters are dark, though it builds the frames and counts `seq` as the holder does (R23). -/
def Lane.teamSend (k kind net dest : Nat) (body : List Field) (l0 : Lane) : Lane :=
  let a := l0.teamKey k
  let l := a.1
  if !a.2 then l
  else
    let q := (l.lvl k).seq + 1
    let l1 := l.setLvl k { l.lvl k with seq := q }
    let f : SentFrame := {
      level := k, kind := kind, dir := 0, lap := l.lap, seq := q, net := net, dest := dest, epoch := l.teamEpoch k
      keyGen := (l.lvl k).keyGen, body := body }
    let fs := [f, { f with dir := 1 }]
    let l2 := { l1 with team := { l1.team with built := (fs ++ l1.team.built).take 64 } }
    if l2.link.grant then { l2 with team := { l2.team with sent := (fs ++ l2.team.sent).take 64 } } else l2

/-- The frames that a grant change may have cut off, built in the lap before, are sent again by the new holder with their `seq` (R399). -/
def Lane.teamResend (l : Lane) : Lane :=
  { l with team := { l.team with sent := (l.team.built.filter (fun f => decide (l.lap ≤ f.lap + 1)) ++ l.team.sent).take 64 } }

/-- Every member addressed (R400). -/
def toAll : Nat := 0xFF

/-- The safety telegram of a cycle in its team frames, one on each net (R341, R401). -/
def Lane.telegramFrames (l : Lane) : Lane :=
  if l.c SafM.teamSafety ≠ 1 then l
  else
    let body : List Field := l.safe.sentBytes.map (fun (b : Nat) => (1, (b : Int)))
    (l.teamSend 0 2 1 toAll body).teamSend 0 2 2 toAll body

/-! ### Beacons and rings (R397, R401, R403, R405) -/

/-- The controller's serial as one number. -/
def Lane.serial (l : Lane) : Nat := l.pn D0.serialLo + 2 ^ 64 * l.pn D0.serialHi

/-- The content of a beacon (R401): serial, own epoch, team epoch, the states of lanes A and B, `pacer_state`, member mask and `key_gen`. -/
def Lane.beaconBody (k stA stB : Nat) (l : Lane) : List Field :=
  [(16, (l.serial : Int)), (8, (l.epoch : Int)), (8, l.teamEpoch k), (1, (stA : Int)), (1, (stB : Int)), (1, l.p Pc.pacerState),
    (1, ((l.lvl k).mask : Int)), (2, ((l.lvl k).keyGen : Int))]

/-- A member's record at a level. -/
def Lane.teamMember (l : Lane) (k m : Nat) : TeamMember := UMap.get (fun _ => {}) (l.lvl k).members m

/-- A member's record replaced. -/
def Lane.setTeamMember (k m : Nat) (x : TeamMember) (l : Lane) : Lane :=
  l.setLvl k { l.lvl k with members := UMap.put (fun _ => {}) (l.lvl k).members m x }

/-- BEACON_SEND (R401): at lap 10 of every epoch, on both nets, at every level, with the states of lanes A and B. With no lane on the
transmitters (`driven`), or without a key, none goes out and no return is due (R397). A controller that sends its own beacon counts as
heard (R403; DEDUCED, log entry 117). -/
def Lane.beaconSend (stA stB : Nat) (driven : Bool) (l : Lane) : Lane :=
  if l.lapIn ≠ 10 ∨ usedLevels l.cfg = [] then l
  else
    let l1 := l.forL (usedLevels l.cfg) (fun k l =>
      let m := lvlMember l.cfg k
      let l2 := (l.teamSend k 1 1 toAll (l.beaconBody k stA stB)).teamSend k 1 2 toAll (l.beaconBody k stA stB)
      if driven && l2.teamKeyHeld k then
        l2.setTeamMember k m { l2.teamMember k m with seen := true, serial := l2.serial, gen := (l2.lvl k).keyGen }
      else l2)
    { l1 with team := { l1.team with returns := []
                                     beaconEpoch := if driven && (usedLevels l1.cfg).all l1.teamKeyHeld then some l1.epoch else none } }

/-- The ring state shown, and event 77 or 78 (R397). -/
def Lane.ringWhole (net : Nat) (whole : Bool) (l : Lane) : Lane :=
  let w := setBit (l.pn Team.ringState) (net - 1) whole
  let l1 := { l with team := if net = 1 then { l.team with whole1 := whole } else { l.team with whole2 := whole } }
  (l1.setp Team.ringState (w : Nat)).fire (76 + net) net [(w : Int)]

/-- One net's check at lap 60: the beacon of every level has come back in both directions. -/
def Lane.checkNet (net : Nat) (l : Lane) : Lane :=
  let all := (usedLevels l.cfg).all (fun k => l.team.returns.contains (k, net, 0) && l.team.returns.contains (k, net, 1))
  let whole := if net = 1 then l.team.whole1 else l.team.whole2
  let run := if all then (if net = 1 then l.team.run1 else l.team.run2) + 1 else 0
  let l1 := { l with team := if net = 1 then { l.team with run1 := run } else { l.team with run2 := run } }
  if !all && whole then l1.ringWhole net false
  else if all && !whole && decide (16 ≤ run) then l1.ringWhole net true
  else l1

/-- BEACON_RETURN_CHECK (R397): at lap 60 of the epoch in which the beacon was sent. -/
def Lane.beaconCheck (l : Lane) : Lane :=
  if l.lapIn = 60 ∧ l.team.beaconEpoch = some l.epoch then (l.checkNet 1).checkNet 2 else l

/-- The state of a member after an epoch with or without its beacon (R403); `held` where its serials clash (R405) or its beacons show that it
has yet to take a change of the mask (R404). -/
def nextState (inMask held : Bool) (old run miss : Nat) : Nat :=
  if !inMask then 0
  else if held then 1
  else if 10 ≤ run then 2
  else if 10 ≤ miss then 3
  else if 0 < run ∧ old ≠ 2 then 1
  else old

/-- One member's state brought up to date at lap 20. Serials that clash in an epoch keep the member `JOINING`, until its beacons clash no
more (R405). -/
def Lane.memberUpdate (k m : Nat) (l : Lane) : Lane :=
  let x := l.teamMember k m
  let y := { x with seen := false, conflict := x.clash, clash := false, run := if x.seen then x.run + 1 else 0, miss := if x.seen then 0 else x.miss + 1 }
  let old := l.memberState k m
  let st := nextState (bitAt (l.lvl k).mask m) (y.conflict || (decide (0 < y.run) && decide (y.gen < (l.lvl k).keyGen))) old y.run y.miss
  let l1 := l.setTeamMember k m y
  if st = old then l1
  else
    let w := l.pn (Team.memberStates k)
    let l2 := (l1.setp (Team.memberStates k) ((w - old * 4 ^ m + st * 4 ^ m : Nat))).fire 79 m [(k : Int), (m : Int)]
    if (st = 0 ∨ st = 1) ∧ k = 0 then l2.safe! (fun s => { s with
        senders := if st = 0 then UMap.erase s.senders m
          else UMap.put (fun _ => {}) (UMap.erase s.senders m) m { time := l2.pacer.teamTime } }) else l2

/-- MEMBER_STATE_UPDATE (R403): at lap 20. -/
def Lane.memberStates (l : Lane) : Lane :=
  if l.lapIn ≠ 20 then l
  else l.forL (usedLevels l.cfg) (fun k l => (l.forN 8 (Lane.memberUpdate k)).showMask k)

/-- A new mask and `key_gen` in force at a level (R402 to R404): the beacons of a member that enters it count from now on, its telegrams are
awaited from now on, and the session key of the old `key_gen` goes. -/
def Lane.newMask (k mask keyGen : Nat) (l : Lane) : Lane :=
  let old := (l.lvl k).mask
  let l1 := (l.forN 8 (fun m l =>
    if bitAt mask m && !bitAt old m then l.setTeamMember k m { l.teamMember k m with run := 0, miss := 0 } else l))
  let l2 := (l1.setLvl k { l1.lvl k with mask := mask, keyGen := keyGen }).showMask k
  let fresh := l2.safetyMembers.filter (fun m => !bitAt old m)
  let l3 := if k = 0 then l2.telegramsFrom fresh else l2
  if (l.lvl k).keyGen = keyGen then l3 else l3.eraseKey (teamSlot k)

/-- The offset from the team epoch, set from the first beacon at the uppermost level where another is the anchor, for every level; the
outermost anchor's epoch is the team epoch (R408; DEDUCED, log entry 107). `offsetLate` keeps whether the beacon, sent at lap 10 of its team epoch,
came before the lap 0 that lies nearest to the team epoch's (R106). -/
def Lane.setOffset (k : Nat) (teamEpoch : Int) (l : Lane) : Lane :=
  if (l.lvl k).offsetSet ∨ lvlMember l.cfg k = 0 then l
  else l.forL (usedLevels l.cfg) (fun j l =>
    (l.setp (Team.epochOffset j) (teamEpoch - l.epoch)).setLvl j { l.lvl j with offsetSet := true, offsetLate := decide (110 ≤ l.lapIn) })

/-- A beacon of member `m` at level `k` (R403 to R405, R408). A clash of serials is counted once while it lasts. -/
def Lane.takeBeacon (k m serial mask keyGen : Nat) (teamEpoch : Int) (l : Lane) : Lane :=
  let x := l.teamMember k m
  let clash := if m = lvlMember l.cfg k then decide (serial ≠ l.serial) else x.seen && decide (serial ≠ x.serial)
  let l1 := l.setTeamMember k m { x with seen := true, serial := serial, epoch := teamEpoch, clash := x.clash || clash, gen := keyGen }
  let l2 := if clash && !x.clash && !x.conflict then (l1.inc Team.memberConflicts).fire 79 m [(k : Int), (m : Int)] else l1
  let l3 := l2.setOffset k teamEpoch
  if m = 0 ∧ (l3.lvl k).keyGen < keyGen then l3.newMask k mask keyGen else l3

/-! ### Paths (R75, R85, R406) -/

/-- Where a path leads from this controller: `none` for a member that is not in the mask, `some none` for this controller,
`some (some (k, m))` for member `m` at level `k`. -/
def pathGo (l : Lane) (path top : Nat) : Nat → Nat → Option (Option (Nat × Nat))
  | 0, _ => some none
  | d + 1, i =>
    if top < i + 1 then none
    else
      let k := top - 1 - i
      let m := bitsAt path (3 * i + 6) (3 * i + 4)
      if !bitAt (l.lvl k).mask m then none
      else if m = lvlMember l.cfg k then pathGo l path top d (i + 1)
      else some (some (k, m))

/-- The number of levels that a request's walk starts above (R406): all that are used for a request of the host; one that a member has
forwarded goes on at the level over which it came. -/
def Lane.walkTop (l : Lane) (r : Request) : Nat := if r.ring < 32 then (usedLevels l.cfg).length else (r.ring - 32) / 8 + 1

/-- The walk of a request's path (R406). -/
def Lane.walk (l : Lane) (r : Request) : Option (Option (Nat × Nat)) :=
  let d := r.path % 16
  if 8 < d then none else pathGo l r.path (l.walkTop r) d 0

/-- The path that goes with a request to a member at level `k` (R406): the entries from the one that names it on. -/
def Lane.restPath (l : Lane) (r : Request) (k : Nat) : Nat :=
  let i := l.walkTop r - 1 - k
  (r.path % 16 - i) + 16 * (r.path % 2 ^ 28 / 2 ^ (4 + 3 * i))

/-- The path that leads from this controller's outermost team to member `m` at level `k` (R75, R406). -/
def Lane.pathTo (l : Lane) (k m : Nat) : Nat :=
  let top := (usedLevels l.cfg).length
  (top - k) + (List.range (top - k)).foldl (fun a i =>
    a + (if i + 1 = top - k then m else lvlMember l.cfg (top - 1 - i)) * 2 ^ (4 + 3 * i)) 0

/-! ### Frames (R396, R400 to R402) -/

/-- The kind number of a payload (R401). -/
def TeamPayload.kind : TeamPayload → Nat
  | .beacon .. => 1
  | .telegram .. => 2
  | .report .. => 3
  | .allocation .. => 4
  | .requests .. => 5
  | .responses .. => 6
  | .arm .. => 7
  | .trigger .. => 8
  | .change .. => 9
  | .ack .. => 10
  | .bulk .. => 11

/-- The level that a team id names. -/
def levelOf (m : UMap Int) (id : Nat) : Option Nat := (usedLevels m).find? (fun k => decide (lvlTeam m k = id))

/-- Whether a report or allocation of a round arrives in time (R409): from lap 150 of that round's epoch to lap 4 of the
next. -/
def Lane.roundTimely (l : Lane) (k : Nat) (round : Int) : Bool :=
  decide (l.teamEpoch k = round ∧ 150 ≤ l.lapIn) || decide (l.teamEpoch k = round + 1 ∧ l.lapIn ≤ 4)

/-- TEAM_REPORT_RECEIVE (R214, R403, R409): of a member in the state `MEMBER`, at the anchor of a level. -/
def Lane.takeReport (k m : Nat) (round want drawn : Int) (l : Lane) : Lane :=
  if l.roundTimely k round ∧ lvlUsed l.cfg k = true ∧ lvlMember l.cfg k = 0 ∧ l.memberState k m = 2 then l.teamReport m want drawn else l

/-- TEAM_ALLOCATION_RECEIVE (R215, R409). -/
def Lane.takeAllocation (k : Nat) (round w : Int) (l : Lane) : Lane :=
  if l.roundTimely k round ∧ lvlUsed l.cfg k = true then l.teamAllocation w else l

/-- Whether a kept part belongs to the answer of member `m` at level `k` to the request that an entry names. -/
def partOf (k m : Nat) (e : MemberEntry) (p : Nat × MemberEntry) : Bool :=
  decide (p.1 = 8 * k + m ∧ p.2.seq = e.seq ∧ p.2.hostTag = e.hostTag)

/-- An entry of a response from member `m` at level `k`, to which a forwarded request's path led (R85, R401): its parts are
gathered, and the whole answer is the request's. -/
def Lane.memberEntry (k m : Nat) (e : MemberEntry) (l : Lane) : Lane :=
  match l.host.memberCalls.find? (fun c => c.2.seq == e.seq && c.2.hostTag == e.hostTag
      && decide (l.walk c.2 = some (some (k, m)))) with
  | none => l
  | some c =>
    let rest := l.host.memberParts.filter (fun p => !(partOf k m e p && decide (p.2.part = e.part)))
    let mine := (8 * k + m, e) :: rest.filter (partOf k m e)
    let have_ : Nat → Option (Nat × MemberEntry) := fun i => mine.find? (fun p => p.2.part == i)
    match mine.find? (fun p => p.2.last) with
    | some z =>
      if (List.range (z.2.part + 1)).all (fun i => (have_ i).isSome) then
        ({ l with host := { l.host with
          memberCalls := l.host.memberCalls.filter (fun d => d != c), memberParts := rest.filter (fun p => !partOf k m e p) } }).answer c.2
          { status := z.2.status, epoch := z.2.epoch,
            parts := (List.range (z.2.part + 1)).filterMap (fun i => (have_ i).map (fun (p : Nat × MemberEntry) => p.2.fields)) }
      else { l with host := { l.host with memberParts := (8 * k + m, e) :: rest } }
    | none => { l with host := { l.host with memberParts := (8 * k + m, e) :: rest } }

/-- The entries of one frame, in their order. -/
def Lane.memberEntries (k m : Nat) (es : List MemberEntry) (l : Lane) : Lane := l.forL es (Lane.memberEntry k m)

/-- A forwarded request given up (R85): it is no longer in progress, and enters no history, since a repetition asks the member
again. -/
def Lane.giveUpOn (r : Request) (l : Lane) : Lane :=
  let g := l.ring r.ring
  l.setRing r.ring { g with
    inProgress := g.inProgress.filter (fun x => x.seq != r.seq)
    takes := g.takes.filter (fun x => x.1 != r.seq)
    unreached := (r :: g.unreached.filter (fun x => x.seq != r.seq)).take 64 }

/-- MEMBER_ANSWER_TIMEOUT (R85): no answer within 20 ms. -/
def Lane.memberTimeout (seq : Nat) (l : Lane) : Lane :=
  match l.host.memberCalls.find? (fun c => c.2.seq == seq) with
  | none => l
  | some c =>
    if l.lap < c.1 + msLaps 20 then l
    else (({ l with host := { l.host with
        memberCalls := l.host.memberCalls.filter (fun d => d != c)
        memberParts := l.host.memberParts.filter (fun (p : Nat × MemberEntry) => !decide (p.2.seq = c.2.seq ∧ p.2.hostTag = c.2.hostTag)) } }).giveUpOn c.2).answerOnly
      c.2 st_UNREACHABLE

/-- A request forwarded to this member by member `m` of level `k` (R75, R85): a repetition of one that it has executed brings the answer of
its history, one of a request under execution changes nothing, any other is executed at the next lap start. -/
def Lane.memberRequest (k m : Nat) (r : Request) (l : Lane) : Lane :=
  let q := 32 + 8 * k + m
  let x : Request := { r with ring := q }
  let g := l.ring q
  match g.history.find? (fun h => h.seq == r.seq && h.command == r.command && h.hostTag == r.hostTag) with
  | some h => l.queue q (h.entries.map (fun e => { e with resent := true }))
  | none =>
    if g.inProgress.any (fun y => y == x) then l
    else
      let l1 := l.setRing q { g with inProgress := g.inProgress ++ [x] }
      { l1 with host := { l1.host with taken := l1.host.taken ++ [{ lap := l.lap, req := x }] } }

/-- The requests of one frame, in their order. -/
def Lane.memberRequests (k m : Nat) (rs : List Request) (l : Lane) : Lane := l.forL rs (Lane.memberRequest k m)

/-- A membership change received from the anchor: acknowledged with kind 10 and held for its epoch (R404). -/
def Lane.takeChange (k mask keyGen : Nat) (epoch : Int) (l : Lane) : Lane :=
  (l.setLvl k { l.lvl k with change := some { mask := mask, keyGen := keyGen, epoch := epoch } }).teamSend k 10 1 1 [(8, epoch)]

/-- An acknowledgement at the anchor. -/
def Lane.takeAck (k m : Nat) (epoch : Int) (l : Lane) : Lane :=
  match (l.lvl k).change with
  | none => l
  | some c => if c.epoch = epoch then l.setLvl k { l.lvl k with change := some { c with acks := setBit c.acks m true } } else l

/-- The content of a kind 7 frame (R410). -/
def TeamArm.body (a : TeamArm) : List Field :=
  [(4, (a.id : Int)), (8, a.epoch), (4, (a.preMs : Int)), (4, (a.postMs : Int)), (4, (a.mib : Int))]

/-- An arm at level `k` that the anchor of the lower teams passes on down (R410): this controller is the anchor of every level below one
that it belongs to (R393). -/
def Lane.passArm (k : Nat) (a : TeamArm) (l : Lane) : Lane :=
  l.forN k (fun j l => (l.setLvl j { l.lvl j with arm := some a }).teamSend j 7 1 toAll a.body)

/-- A team arm received from the anchor (R410). -/
def Lane.takeArm (k id : Nat) (epoch : Int) (preMs postMs mib : Nat) (l : Lane) : Lane :=
  let a : TeamArm := { id := id, epoch := epoch, preMs := preMs, postMs := postMs, mib := mib }
  (l.setLvl k { l.lvl k with arm := some a }).passArm k a

/-- What an accepted frame does, by kind: allocations, arms and changes are the anchor's to send, reports and acknowledgements its to take
(R404, R409, R410); a trigger (kind 8) is acted on in Acquire.lean. -/
def Lane.actOn (k : Nat) (f : TeamFrame) (l : Lane) : Lane :=
  match f.payload with
  | .beacon serial _ _ _ mask keyGen => l.takeBeacon k f.sender serial mask keyGen f.teamEpoch
  | .telegram t => l.takeTelegram f.net t
  | .report r w d => l.takeReport k f.sender r w d
  | .allocation r w => if f.sender = 0 then l.takeAllocation k r w else l
  | .requests rs => l.memberRequests k f.sender rs
  | .responses es => l.memberEntries k f.sender es
  | .arm id e a b c => if f.sender = 0 then l.takeArm k id e a b c else l
  | .trigger _ _ _ => l
  | .change mask g e => if f.sender = 0 then l.takeChange k mask g e else l
  | .ack e => if lvlMember l.cfg k = 0 then l.takeAck k f.sender e else l
  | .bulk es => l.memberEntries k f.sender es

/-- Whether a frame is the beacon that its sender sent in epoch `e`. -/
def TeamFrame.beaconOf (f : TeamFrame) (e : Nat) : Bool :=
  match f.payload with
  | .beacon _ x _ _ _ _ => decide (x = e)
  | _ => false

/-- A frame that this controller sent at level `k`, back from the ring (R396, R397): stripped; a return of the epoch's beacon is noted. -/
def Lane.ownFrame (k : Nat) (f : TeamFrame) (l : Lane) : Lane :=
  if f.beaconOf l.epoch = false then l
  else
    let l1 := { l with team := { l.team with
      returns := if l.team.returns.contains (k, f.net, f.dir) then l.team.returns else l.team.returns ++ [(k, f.net, f.dir)] } }
    l1.setp Team.transitMaxUs (max (l1.p Team.transitMaxUs) f.transitUs)

/-- Whether the frame is this controller's own. -/
def Lane.isOwn (l : Lane) (k : Nat) (f : TeamFrame) : Bool :=
  decide (f.sender = lvlMember l.cfg k) && (match f.payload with | .beacon s _ _ _ _ _ => decide (s = l.serial) | _ => true)

/-- Whether the frame is accepted: addressed to this member, its tag good under a usable key. -/
def Lane.addressed (l : Lane) (k : Nat) (f : TeamFrame) : Bool := bitAt f.dest (lvlMember l.cfg k)

/-- A passing frame forwarded with `ttl` lowered (R396), by the lane with the grant: the other lane's transmitters are dark (R23). -/
def Lane.passFrame (f : TeamFrame) (l : Lane) : Lane :=
  if l.link.grant then
    { l with team := { l.team with forwarded := ((f.teamId, f.sender, f.net, f.dir, f.seq, f.ttl - 1) :: l.team.forwarded).take 32 } }
  else l

/-- TEAM_FRAME_RECEIVE (R396, R400): own frames are stripped; others are forwarded with `ttl` lowered, and the first copy
of each sender, net and `seq` is accepted. -/
def Lane.teamFrame (act : Nat → TeamFrame → Lane → Lane) (f : TeamFrame) (l : Lane) : Lane :=
  match levelOf l.cfg f.teamId with
  | some k =>
    if l.isOwn k f then l.ownFrame k f
    else if f.ttl ≤ 1 then l.inc Team.teamTtlDrops
    else
      let a := (l.passFrame f).teamKey k
      let l1 := a.1
      if !f.tagOk || !a.2 then l1.inc Team.teamAuthFail
      else if (l1.lvl k).heard.contains (f.sender, f.net, f.seq) then l1.inc Team.teamDup
      else
        let l2 := l1.setLvl k { l1.lvl k with heard := (f.sender, f.net, f.seq) :: (l1.lvl k).heard }
        if l2.addressed k f then act k f l2 else l2
  | none =>
    if f.ttl ≤ 1 then l.inc Team.teamTtlDrops
    else l.passFrame f

/-- BYPASS_SWITCH (R398): the shown position of a net's bypass. -/
def Lane.showBypass (net : Nat) (closed : Bool) (l : Lane) : Lane :=
  let w := setBit (l.pn Team.ringState) (net + 1) closed
  if w = l.pn Team.ringState then l else (l.setp Team.ringState (w : Nat)).fire (76 + net) net [(w : Int)]

/-- Relay team status codes (R413). -/
def st_TEAM_PARTIAL : Nat := 0x0402
/-! ### Membership (R404) -/

/-- Whether every member of both the old and the new mask but the anchor has acknowledged the change (R404). -/
def TeamChange.acked (c : TeamChange) (old : Nat) : Bool :=
  (List.range 8).all (fun m => !(bitAt old m && bitAt c.mask m && decide (m ≠ 0)) || bitAt c.acks m)

/-- MEMBERSHIP_CHANGE_APPLY (R404): from the named team epoch on; the anchor answers. -/
def Lane.changeApply (k : Nat) (l : Lane) : Lane :=
  match (l.lvl k).change with
  | none => l
  | some c =>
    if l.teamEpoch k < c.epoch then l
    else
      let old := (l.lvl k).mask
      let l2 := (l.setLvl k { l.lvl k with change := none }).newMask k c.mask c.keyGen
      match c.req with
      | none => l2
      | some r => l2.answer r { status := if c.acked old then st_OK else st_TEAM_PARTIAL, epoch := c.epoch.toNat }

def st_NOT_ANCHOR : Nat := 0x0401
def st_TEAM_EPOCH : Nat := 0x0403
def st_TEAM_NOT_FORMED : Nat := 0x0404
def st_NOT_ARMED : Nat := 0x0405
def st_MASK_INVALID : Nat := 0x0406

/-- `TEAM_STATUS` (R412); the grandmaster's path is in the form of R75, and 0 for this controller (log entry 45). -/
def Lane.cmdTeamStatus (fitted : Bool) (r : Request) (l : Lane) : Lane × Reply :=
  if !fitted then (l, Reply.just st_UNIT_ABSENT)
  else if r.len ≠ 1 then (l, Reply.just st_BAD_LENGTH)
  else
    let k := r.at_ 0 1
    if 7 < k ∨ lvlUsed l.cfg k = false then (l, Reply.just st_TEAM_NOT_FORMED)
    else
      let gm := match l.pacer.best with
        | some (_, d, _) =>
          let at_ := (usedLevels l.cfg).reverse.flatMap (fun j =>
            ((List.range 8).filter (fun m => decide ((l.teamMember j m).serial = d) && decide (m ≠ lvlMember l.cfg j))).map (fun m => (j, m)))
          (at_.head?.map (fun e => l.pathTo e.1 e.2)).getD 0
        | none => 0
      (l, Reply.ok ([(4, l.c (Team.teamLvl k)), (0, ((l.lvl k).mask : Int)), (0, l.p (Team.memberStates k))]
        ++ (List.range 8).map (fun m => (16, if m = lvlMember l.cfg k then (l.serial : Int) else ((l.teamMember k m).serial : Int)))
        ++ [(8, l.p (Team.epochOffset k)), (4, l.p Team.ringState), (0, (gm : Int))]))

/-- `TEAM_MEMBERS` (R404, R412): at the anchor, for a team epoch 20 to 60,000 ahead; answered at that epoch. -/
def Lane.cmdTeamMembers (fitted : Bool) (r : Request) (l : Lane) : Lane × Option Reply :=
  if !fitted then (l, some (Reply.just st_UNIT_ABSENT))
  else if r.len ≠ 16 then (l, some (Reply.just st_BAD_LENGTH))
  else
    let k := r.at_ 0 1
    let mask := r.at_ 1 1
    let e : Int := r.at_ 8 8
    if 7 < k ∨ lvlUsed l.cfg k = false then (l, some (Reply.just st_TEAM_NOT_FORMED))
    else if lvlMember l.cfg k ≠ 0 then (l, some (Reply.just st_NOT_ANCHOR))
    else if mask % 2 = 0 then (l, some (Reply.just st_MASK_INVALID))
    else if e < l.teamEpoch k + 20 ∨ l.teamEpoch k + 60000 < e then (l, some (Reply.just st_TEAM_EPOCH))
    else if (l.lvl k).change.isSome then (l, some (Reply.just st_BUSY))
    else
      let x := l.lvl k
      ((l.setLvl k { x with change := some { mask := mask, keyGen := x.keyGen + 1, epoch := e, req := some r } }).teamSend k 9 1 toAll
        [(1, (mask : Int)), (2, (x.keyGen + 1 : Nat)), (8, e)],
        none)

/-! ### Takeover (R402) -/

/-- After a takeover, start or wake, `seq` goes on 2^24 further (R402). -/
def Lane.teamTakeover (l : Lane) : Lane :=
  l.forL (usedLevels l.cfg) (fun k l => l.setLvl k { l.lvl k with seq := (l.lvl k).seq + 2 ^ 24 })

end Sys2Proof.Machine
end

