-- ==== Sys2Proof/Machine/CanBus.lean ====
section
/-!
DEFINITION. The equipment bus of one lane (R414 to R426, R436, R437): receive objects and shadows, transmit objects, the
schedule matrix, errors, sleep and wake.
-/

namespace Sys2Proof.Machine

/-- Bus `b` of this lane. -/
def Lane.bus (l : Lane) (b : Nat) : CanBus := UMap.get (fun _ => {}) l.can b

/-- Bus `b` replaced. -/
def Lane.setBus (b : Nat) (x : CanBus) (l : Lane) : Lane := { l with can := UMap.put (fun _ => {}) l.can b x }

/-- `can_state` codes of R426. -/
def canOff : Int := 0
def canActive : Int := 1
def canPassive : Int := 2
def canBusOff : Int := 3
def canAsleep : Int := 4
def canListen : Int := 5

/-- Payload lengths of R414. -/
def canLengths (fdf : Bool) : List Nat :=
  [0, 1, 2, 3, 4, 5, 6, 7, 8] ++ (if fdf then [12, 16, 20, 24, 32, 48, 64] else [])

/-- Event 72 + b with both error counters (R424). -/
def Lane.canEvent (b : Nat) (l : Lane) : Lane := l.fire (72 + b) b [l.p (Can.tec b), l.p (Can.rec b)]

/-- The state that an enabled bus shows while awake: normal mode at the holder, listen-only at the standby (R415). -/
def Lane.canMode (l : Lane) : Int := if l.link.grant then canActive else canListen

/-- A controller that is switched off or put to sleep leaves bus-off (R424). -/
def Lane.canClear (b : Nat) (l : Lane) : Lane := l.setBus b { l.bus b with off := false, recovering := false, busy := false }

/-- `can_state` brought to what enable, sleep and grant give (R415, R425, R426). -/
def Lane.canRefresh (b : Nat) (l : Lane) : Lane :=
  let s := l.p (Can.canState b)
  if l.c (Can.canEnable b) = 0 then (if s = canOff then l else (l.canClear b).setp (Can.canState b) canOff)
  else if (l.bus b).asleep then (l.canClear b).setp (Can.canState b) canAsleep
  else if s = canOff ∨ s = canAsleep ∨ (l.link.grant = true ∧ s = canListen) ∨ (l.link.grant = false ∧ s ≠ canListen) then
    l.setp (Can.canState b) l.canMode
  else l

/-! ### Receiving (R417 to R419) -/

/-- Whether receive object `n` of the bus takes the frame (R418). -/
def rxMatches (m : UMap Int) (b : Nat) (f : CanFrame) (n : Nat) : Bool :=
  let w := (cfgAt m (Can.rxCfg b n)).toNat
  let mask := (cfgAt m (Can.rxMask b n)).toNat
  let bits := if f.ide then 29 else 11
  bitAt w 31 && (bitAt w 30 == f.ide)
    && decide ((f.id % 2 ^ bits) &&& (mask % 2 ^ bits) = (w % 2 ^ bits) &&& (mask % 2 ^ bits))

/-- Whether two lanes hold different contents in a receive object, as after a frame that one of them missed (R20, R417). -/
def rxDiffers (a b : Lane) : Bool :=
  (List.range 4).any (fun n => ((a.bus n).rx.map (fun e => (e.1, e.2.data, e.2.lap))) != ((b.bus n).rx.map (fun e => (e.1, e.2.data, e.2.lap))))

/-- The object that takes a frame: the lowest-numbered (R418). -/
def rxObject (m : UMap Int) (b : Nat) (f : CanFrame) : Option Nat := (List.range 64).find? (rxMatches m b f)

/-- CAN_FRAME_RECEIVE (R414, R417, R418): remote frames are discarded; a frame that matches waits for the next lap
start. A bus that is off, asleep or in bus-off takes none. -/
def Lane.canReceive (b : Nat) (f : CanFrame) (l : Lane) : Lane :=
  let s := l.p (Can.canState b)
  if s = canOff ∨ s = canBusOff ∨ s = canAsleep ∨ f.remote = true then l
  else
    let l1 := l.inc (Can.rxFrames b)
    match rxObject l.cfg b f with
    | none => l1.inc (Can.unmatched b)
    | some n =>
      let x := l1.bus b
      l1.setBus b { x with arrived := x.arrived ++
        [(n, { data := f.data, fdf := f.fdf, brs := f.brs, tag := l.pacer.teamTime, placed := true })] }

/-- One frame placed at the start of the lap (R417, R419). -/
def Lane.canPlaceOne (b n : Nat) (f : RxObj) (l : Lane) : Lane :=
  let x := l.bus b
  let f1 := { f with lap := l.lap }
  let old := UMap.get (fun _ => ({} : RxObj)) x.rx n
  let l1 := l.inc (Can.rxCount b n)
  if x.reading.contains n then
    let l2 := if (UMap.get (fun _ => ({} : RxObj)) x.shadow n).placed then l1.inc (Can.shadowLosses b) else l1
    l2.setBus b { x with shadow := UMap.put (fun _ => {}) x.shadow n f1 }
  else
    let l2 := if old.placed && !old.wasRead then l1.inc (Can.overwrites b) else l1
    (l2.setBus b { x with rx := UMap.put (fun _ => {}) x.rx n f1 }).sensorsFrom b n f.data

/-- Reads that end with the lap: full shadows are promoted (R419). -/
def Lane.canEndReads (b : Nat) (l : Lane) : Lane :=
  let x := l.bus b
  if x.reading.isEmpty then l
  else
    x.reading.foldl (fun l n =>
      let y := l.bus b
      let s := UMap.get (fun _ => ({} : RxObj)) y.shadow n
      if s.placed then
        (l.setBus b { y with rx := UMap.put (fun _ => {}) y.rx n s, shadow := UMap.erase y.shadow n }).sensorsFrom b n s.data
      else l) (l.setBus b { x with reading := [] })

/-- The frames that arrived since the last lap start, placed (R417). -/
def Lane.canPlace (b : Nat) (l : Lane) : Lane :=
  let x := l.bus b
  if x.arrived.isEmpty then l
  else x.arrived.foldl (fun l e => l.canPlaceOne b e.1 e.2) (l.setBus b { x with arrived := [] })

/-- `CAN_RX_READ` (R419, R436): the object as it stands; the read lasts to the end of the lap. -/
def Lane.canRead (b n : Nat) (l : Lane) : Lane × List Field :=
  let x := l.bus b
  let o := UMap.get (fun _ => ({} : RxObj)) x.rx n
  let y := { x with
    rx := if o.placed then UMap.put (fun _ => {}) x.rx n { o with wasRead := true } else x.rx
    reading := if x.reading.contains n then x.reading else x.reading ++ [n] }
  (l.setBus b y, o.data.map (fun (v : Nat) => (1, (v : Int))) ++ [(0, (o.data.length : Int)), (0, b01 o.fdf), (0, b01 o.brs),
    (0, (o.lap : Int)), (0, o.tag), (0, b01 o.wasRead)])

/-! ### Transmitting (R416, R420 to R422) -/

/-- Arbitration priority of an object's identifier: smaller wins; a base identifier wins over an extended one that
begins alike. -/
def canPriority (m : UMap Int) (b n : Nat) : Nat :=
  let w := (cfgAt m (Can.txCfg b n)).toNat
  if bitAt w 30 then 2 * (w % 2 ^ 29) + 1 else 2 * ((w % 2 ^ 11) * 2 ^ 18)

/-- `EN` and `TT` of a transmit object. -/
def txEnabled (m : UMap Int) (b n : Nat) : Bool := bitAt (cfgAt m (Can.txCfg b n)).toNat 31
def txTimed (m : UMap Int) (b n : Nat) : Bool := bitAt (cfgAt m (Can.txCtl b n)).toNat 30

/-- The transmit object. -/
def CanBus.txObj (x : CanBus) (n : Nat) : TxObj := UMap.get (fun _ => {}) x.tx n

/-- The requests that may start now: in a free window the event-triggered ones, in a column of an object that object's
(R422). -/
def CanBus.startable (x : CanBus) : List CanReq :=
  if x.column.isNone then []
  else if x.cell = 0xFE then x.pending.filter (fun r => !r.cell)
  else x.pending.filter (fun r => r.cell && r.obj == x.cell)

/-- The request of highest priority among the candidates. -/
def firstByPriority (m : UMap Int) (b : Nat) : List CanReq → Option CanReq
  | [] => none
  | r :: rs =>
    match firstByPriority m b rs with
    | none => some r
    | some s => if canPriority m b s.obj < canPriority m b r.obj then some s else some r

/-- The `LEN` payload bytes that object `n` sends of a buffer (R414, R426); bytes that nobody has written are 0 (DESIGN CHOICE, log entry
118). -/
def txBytes (m : UMap Int) (b n : Nat) (buf : List Nat) : List Nat :=
  (buf ++ List.replicate 64 0).take (bitsAt (cfgAt m (Can.txCtl b n)).toNat 6 0)

/-- A pending request starts where none is under way and no other node holds the bus: the back buffer becomes the front buffer at the
frame start (R420); an event-triggered frame carries it, a scheduled one the front buffer of its column's opening (R422), and one that a
grant change cut off what it carried before (R416). Nothing starts while no lane is granted the baton, whose drivers alone are enabled
(R23, R354), nor during a reset of the controller (R93); the standby tracks the holder's frames (R416). -/
def Lane.canStart (b : Nat) (l : Lane) : Lane :=
  let x := l.bus b
  let s := l.p (Can.canState b)
  if l.link.granted = false ∨ x.flight.isSome ∨ x.busy = true ∨ s = canOff ∨ s = canBusOff ∨ s = canAsleep ∨ l.inReset 2 b = true then l
  else
    match firstByPriority l.cfg b x.startable with
    | none => l
    | some r =>
      let o := x.txObj r.obj
      let front := o.back.getD o.front
      l.setBus b { x with
        pending := x.pending.filter (fun q => q != r)
        flight := some { r with payload := txBytes l.cfg b r.obj (if r.cell || r.again then r.payload else front) }
        tx := if r.again then x.tx else UMap.put (fun _ => {}) x.tx r.obj { front := front, back := none } }

/-- A request that falls due during bus-off is withdrawn, and the controller in bus-off counts it (R424). -/
def Lane.dueInBusOff (b : Nat) (l : Lane) : Lane :=
  if l.p (Can.canState b) = canBusOff then l.inc (Can.ttMissed b) else l

/-- A write into an object's back buffer, by the host or by firmware (R420). -/
def Lane.canWrite (b n : Nat) (data : List Nat) (l : Lane) : Lane :=
  let x := l.bus b
  let o := x.txObj n
  let y := { x with tx := UMap.put (fun _ => {}) x.tx n { o with back := some data } }
  if txTimed l.cfg b n then l.setBus b y
  else if y.off then (l.setBus b y).dueInBusOff b
  else
    let p := if y.pending.any (fun r => !r.cell && !r.again && r.obj == n) then y.pending
      else y.pending ++ [{ obj := n, cell := false, payload := data }]
    (l.setBus b { y with pending := p }).canStart b

/-- The bank of the schedule in force (R421). -/
def CanBus.col (x : CanBus) (b k : Nat) : Int := cfgAt x.bank (Can.colOfsUs b k)
def CanBus.sched (x : CanBus) (b c k : Nat) : Nat := (cfgAt x.bank (Can.sched b c k)).toNat

/-- The bus's own configuration points. -/
def busCfg (m : UMap Int) (b : Nat) : UMap Int :=
  m.filter (fun e => decide (0x92000 + 0x1000 * b ≤ e.1 ∧ e.1 < 0x93000 + 0x1000 * b))

/-- The start of a matrix cycle of the bank in force takes the committed schedule (R421), whose basic cycles go by the lap number from
there on (log entry 118). -/
def Lane.canMatrix (b : Nat) (l : Lane) : Lane :=
  let n := 64 * (cfgAt (l.bus b).bank (Can.cycleLaps b)).toNat
  if n ≠ 0 ∧ l.lap % n = 0 then l.setBus b { l.bus b with bank := busCfg l.cfg b } else l

/-- The running basic cycle (R421). -/
def Lane.canCycle (l : Lane) (b : Nat) : Nat := (l.lap / max 1 (cfgAt (l.bus b).bank (Can.cycleLaps b)).toNat) % 64

/-- A request that never started withdrawn and counted (R422). -/
def Lane.canWithdraw (b : Nat) (l : Lane) : Lane :=
  let x := l.bus b
  let late := x.pending.filter CanReq.cell
  if late.isEmpty then l
  else (l.setBus b { x with pending := x.pending.filter (fun r => !r.cell) }).addp (Can.ttMissed b) late.length

/-- CAN_COLUMN_OPEN (R422): a column of the running basic cycle; the column before it closes. A frame of another node that holds the bus
keeps the requests waiting. -/
def Lane.canColumnOpen (b c : Nat) (e : CanColumn) (l0 : Lane) : Lane :=
  let k := e.column
  let l := if (l0.bus b).busy = e.busy then l0 else l0.setBus b { l0.bus b with busy := e.busy }
  if (l.bus b).col b k = 0xFFFFFFFF ∨ c ≠ l.canCycle b ∨ 31 < k then l
  else
    let l1 := l.canWithdraw b
    let x := l1.bus b
    let v := x.sched b c k
    let y := { x with column := some k, cell := v }
    if v < 64 then
      if txEnabled l.cfg b v = false ∨ l.p (Can.canState b) = canOff ∨ l.p (Can.canState b) = canAsleep then l1.setBus b y
      else if y.off then (l1.setBus b y).dueInBusOff b
      else (l1.setBus b { y with pending := y.pending ++ [{ obj := v, cell := true, payload := (x.txObj v).front }] }).canStart b
    else (l1.setBus b y).canStart b

/-- CAN_COLUMN_CLOSE (R422). -/
def Lane.canColumnClose (b : Nat) (l : Lane) : Lane :=
  let l1 := l.canWithdraw b
  l1.setBus b { l1.bus b with column := none, cell := 0xFF }

/-- The bus after a frame's end: another node's frame holds it (`busy`), or the next pending request may start (R422). -/
def Lane.canNext (b : Nat) (busy : Bool) (l : Lane) : Lane := (l.setBus b { l.bus b with busy := busy }).canStart b

/-- CAN_TX_COMPLETE at the lane that drives the bus, which counts the frame (R354, R422). -/
def Lane.canSent (b : Nat) (busy : Bool) (l : Lane) : Lane :=
  ((l.setBus b { l.bus b with flight := none }).inc (Can.txFrames b)).canNext b busy

/-- CAN_TX_COMPLETE at the standby, which received the holder's frame `r`: the request with the same identifier and payload is done (R416). -/
def Lane.canHeard (b : Nat) (busy : Bool) (r : CanReq) (l : Lane) : Lane :=
  let x := l.bus b
  let same := fun (q : CanReq) => decide (q.obj = r.obj ∧ q.cell = r.cell)
  let l1 := match x.flight with
    | some q =>
      if same q && decide (q.payload = r.payload) then l.setBus b { x with flight := none }
      else l.setBus b { x with pending := x.pending.filter (fun y => !same y) }
    | none => l.setBus b { x with pending := x.pending.filter (fun y => !same y) }
  l1.canNext b busy

/-- The requests that are not done and still due after a grant change (R416): a scheduled one only while its column is open. -/
def CanBus.owed (x : CanBus) : List CanReq :=
  ((match x.flight with | some r => [{ r with again := true }] | none => []) ++ x.pending).filter
    (fun r => !r.cell || (x.column.isSome && r.obj == x.cell))

/-- A grant change at a lane that tracks the requests (R415, R416): the frame under way is cut off, and what is owed waits to be sent. -/
def Lane.canCut (b : Nat) (l : Lane) : Lane :=
  let x := l.bus b
  if l.c (Can.canEnable b) = 0 ∨ x.asleep = true then l
  else l.setBus b { x with flight := none, pending := x.owed, off := false, recovering := false, busy := false }

/-- A grant change at the lane that gains it (R415, R416): error counters 0, and every request not done that is still due is sent
again and counted. -/
def Lane.canTakeover (b : Nat) (l : Lane) : Lane :=
  if l.c (Can.canEnable b) = 0 ∨ (l.bus b).asleep = true then l.canRefresh b
  else
    ((((l.setp (Can.tec b) 0).setp (Can.rec b) 0).setp (Can.canState b) canActive).canCut b).addp (Can.canResends b) (l.bus b).owed.length

/-! ### Errors (R424) -/

/-- CAN_ERROR_STATE_CHANGE (R424): error active, error passive or bus-off, with the error counters. Only a controller in
normal mode changes. -/
def Lane.canError (b : Nat) (st : Int) (tec rec_ : Nat) (l : Lane) : Lane :=
  let s := l.p (Can.canState b)
  if !(s = canActive ∨ s = canPassive ∨ s = canBusOff) then l
  else
    let l1 := ((l.setp (Can.canState b) st).setp (Can.tec b) tec).setp (Can.rec b) rec_
    let l2 := if st = canBusOff ∧ s ≠ canBusOff then
        let x := l1.bus b
        let n := x.pending.length + (if x.flight.isSome then 1 else 0)
        ((l1.setBus b { x with pending := [], flight := none, recovering := false, off := true }).addp (Can.ttMissed b) n).inc (Can.busOffs b)
      else if st ≠ canBusOff ∧ s = canBusOff then l1.setBus b { l1.bus b with recovering := false, off := false }
      else l1
    if st = s then l2 else l2.canEvent b

/-- What the standby follows of the holder's bus-off (R416, R424): requests pending at its start are withdrawn. -/
def Lane.canFollow (b : Nat) (l h : Lane) : Lane :=
  let x := l.bus b
  let off := decide (h.p (Can.canState b) = canBusOff)
  l.setBus b (if off && !x.off then { x with pending := [], flight := none, off := true } else { x with off := off })

/-- CAN_BUSOFF_RECOVERY (R424): 128 occurrences of 11 recessive bits. -/
def Lane.canRejoin (b : Nat) (l : Lane) : Lane :=
  if l.p (Can.canState b) = canBusOff ∧ (l.c (Can.boffAuto b) = 1 ∨ (l.bus b).recovering = true) then
    ((((l.setp (Can.canState b) canActive).setp (Can.tec b) 0).setp (Can.rec b) 0).setBus b
      { l.bus b with recovering := false, off := false }).canEvent b
  else l

/-! ### Sleep and wake (R425) -/

/-- The bus put to sleep. -/
def Lane.canSleep (b : Nat) (l : Lane) : Lane :=
  let x := l.bus b
  (l.setBus b { x with asleep := true, pending := [], flight := none, column := none, cell := 0xFF }).canRefresh b

/-- The bus woken; event 72 + b fires. -/
def Lane.canWake (b : Nat) (l : Lane) : Lane :=
  if (l.bus b).asleep then ((l.setBus b { l.bus b with asleep := false }).canRefresh b).canEvent b else l

/-- Whether what a sleeping bus carries wakes it (R425): `frame` is none for the wake-up pattern. -/
def Lane.canWakes (l : Lane) (b : Nat) (frame : Option CanFrame) : Bool :=
  (l.bus b).asleep &&
    match l.c (Can.wakeMode b), frame with
    | 1, none => true
    | 2, some f =>
      let id := l.cn (Can.wakeId b)
      let mask := l.cn (Can.wakeMask b)
      let bits := if f.ide then 29 else 11
      let data := l.cn (Can.wakeData b)
      !f.fdf && (bitAt id 30 == f.ide) && decide (l.c (Can.nomKbps b) ≤ 500)
        && decide ((f.id % 2 ^ bits) &&& (mask % 2 ^ bits) = (id % 2 ^ bits) &&& (mask % 2 ^ bits))
        && (decide (data = 0) || decide (ofLe f.data &&& data ≠ 0))
    | _, _ => false

/-! ### Commands (R436, R437) -/

/-- Status codes of R437. -/
def st_CAN_OBJ_DISABLED : Nat := 0x0801
def st_CAN_LENGTH : Nat := 0x0802
def st_CAN_ASLEEP : Nat := 0x0803
def st_CAN_NOT_BUS_OFF : Nat := 0x0804

/-- `CAN_TX_WRITE`. -/
def Lane.cmdCanTx (r : Request) (l : Lane) : Lane × Reply :=
  let b := r.at_ 0 1
  let n := r.at_ 1 1
  let len := r.at_ 2 1
  if r.len < 4 ∨ r.len ≠ 4 + len then (l, Reply.just st_BAD_LENGTH)
  else if 3 < b ∨ 63 < n then (l, Reply.just st_RANGE)
  else if l.c (Can.canEnable b) = 0 ∨ txEnabled l.cfg b n = false then (l, Reply.just st_CAN_OBJ_DISABLED)
  else if (l.bus b).asleep then (l, Reply.just st_CAN_ASLEEP)
  else if (canLengths (bitAt (l.cn (Can.txCfg b n)) 29)).contains len = false then (l, Reply.just st_CAN_LENGTH)
  else (l.canWrite b n (r.body.drop 4), Reply.ok [])

/-- `CAN_RX_READ`. -/
def Lane.cmdCanRx (r : Request) (l : Lane) : Lane × Reply :=
  let b := r.at_ 0 1
  let n := r.at_ 1 1
  if r.len ≠ 2 then (l, Reply.just st_BAD_LENGTH)
  else if 3 < b ∨ 63 < n then (l, Reply.just st_RANGE)
  else if l.c (Can.canEnable b) = 0 ∨ bitAt (l.cn (Can.rxCfg b n)) 31 = false then (l, Reply.just st_CAN_OBJ_DISABLED)
  else if (l.bus b).asleep then (l, Reply.just st_CAN_ASLEEP)
  else
    let x := l.canRead b n
    (x.1, Reply.ok x.2)

/-- A command that names only a bus. -/
def Lane.busCmd (r : Request) (f : Nat → Lane → Lane × Reply) (l : Lane) : Lane × Reply :=
  let b := r.at_ 0 1
  if r.len ≠ 1 then (l, Reply.just st_BAD_LENGTH)
  else if 3 < b then (l, Reply.just st_RANGE)
  else if l.c (Can.canEnable b) = 0 then (l, Reply.just st_CAN_OBJ_DISABLED)
  else f b l

/-- `CAN_SLEEP`. -/
def Lane.cmdCanSleep (r : Request) (l : Lane) : Lane × Reply :=
  l.busCmd r (fun b l => if (l.bus b).asleep then (l, Reply.just st_CAN_ASLEEP) else (l.canSleep b, Reply.ok []))

/-- `CAN_WAKE`. -/
def Lane.cmdCanWake (r : Request) (l : Lane) : Lane × Reply := l.busCmd r (fun b l => (l.canWake b, Reply.ok []))

/-- `CAN_RECOVER`. -/
def Lane.cmdCanRecover (r : Request) (l : Lane) : Lane × Reply :=
  l.busCmd r (fun b l =>
    if (l.bus b).asleep then (l, Reply.just st_CAN_ASLEEP)
    else if l.c (Can.boffAuto b) = 1 ∨ (l.bus b).off = false then
      (l, Reply.just st_CAN_NOT_BUS_OFF)
    else (l.setBus b { l.bus b with recovering := true }, Reply.ok []))

end Sys2Proof.Machine
end

