-- ==== Sys2Proof/Machine/MastLink.lean ====
section
/-!
DEFINITION. The mast link of one lane (R427 to R437): frames and their Reed–Solomon parity, transactions, the channel
maps, and the commands.
-/

namespace Sys2Proof.Machine

/-! ### Reed–Solomon parity (R429) -/

/-- A byte multiplied by x in GF(2^8) with field polynomial 0x11D. -/
def gfDouble (a : Nat) : Nat := if a < 128 then 2 * a else (2 * a) ^^^ 0x11D

/-- The product of two bytes in the field. -/
def rsMulGo : Nat → Nat → Nat → Nat
  | 0, _, _ => 0
  | n + 1, a, b => (if b % 2 = 1 then a else 0) ^^^ rsMulGo n (gfDouble a) (b / 2)

/-- The product of two bytes in the field. -/
def gfMul (a b : Nat) : Nat := rsMulGo 8 a b

/-- The power α^k. -/
def gfPow : Nat → Nat
  | 0 => 1
  | k + 1 => gfDouble (gfPow k)

/-- A polynomial, highest coefficient first, multiplied by (x + r). -/
def polyRoot (r : Nat) (p : List Nat) : List Nat :=
  List.zipWith (fun a b => a ^^^ gfMul r b) (p ++ [0]) (0 :: p)

/-- The generator with roots α^0 .. α^(n−1). -/
def rsGenerator : Nat → List Nat
  | 0 => [1]
  | n + 1 => polyRoot (gfPow n) (rsGenerator n)

/-- One byte of the systematic division. -/
def rsStep (gen reg : List Nat) (b : Nat) : List Nat :=
  let f := b ^^^ reg.headD 0
  List.zipWith (fun a g => a ^^^ gfMul f g) (reg.drop 1 ++ [0]) (gen.drop 1)

/-- The parity bytes of a codeword's data. -/
def rsParity (n : Nat) (data : List Nat) : List Nat := data.foldl (rsStep (rsGenerator n)) (List.replicate n 0)

/-! ### Frames (R429) -/

/-- The preamble's bits as bytes, bit 0 first, and the sync byte. -/
def mastPreamble : List Nat := [0x55, 0x55, 0xE5]

/-- The header of a request: from the controller to node `n`, with the body map in bytes 4..6. -/
def mastHeader (n rep seq map len : Nat) : List Nat := [n, 0, 0x10 + rep % 16, seq % 256] ++ leBytes 3 map ++ [len]

/-- A request's bytes: preamble, header codeword, body codeword. -/
def mastFrame (n rep seq map : Nat) (payload : List Nat) : List Nat :=
  let h := mastHeader n rep seq map payload.length
  let body := payload ++ leBytes 4 (crc32c (h ++ payload))
  mastPreamble ++ h ++ rsParity 8 h ++ body ++ rsParity 16 body

/-- Bits that a segment carries at a level (R428). -/
def segmentBits (fnom : Int) (level : Nat) : Nat := (if fnom = 1 then [11, 5, 5, 2] else [14, 7, 7, 3]).getD level 0

/-- When segment `s` of a mains cycle starts, in µs after the cycle's zero crossing (R428). -/
def Lane.segmentStart (l : Lane) (t s : Nat) : Nat :=
  l.cn (Mast.zcOffsetUs t) + s * (UMap.get (fun _ => ({} : MastPort)) l.mast.ports t).periodUs / 6

/-- Mains cycles that a number of bits takes at so many bits a cycle. -/
def bitCycles (bits perCycle : Nat) : Nat := if perCycle = 0 then 0 else (bits + perCycle - 1) / perCycle

/-- Whether a codeword decodes (R430): twice its errors plus its erasures within its parity bytes. -/
def decodes (errors erasures parity : Nat) : Bool := decide (2 * errors + erasures ≤ parity)

/-- What a lane's receiver makes of a response (R430, R433). -/
def MastResponse.by_ (a : MastResponse) : LaneId → MastDecode
  | .A => a.laneA
  | .B => a.laneB

/-- Whether a response's header decodes in a lane, and whether its body does with a good CRC (R429, R430). -/
def MastResponse.headOk (a : MastResponse) (i : LaneId) : Bool := decodes (a.by_ i).headErrors (a.by_ i).headErasures 8
def MastResponse.bodyOk (a : MastResponse) (i : LaneId) : Bool :=
  decodes (a.by_ i).errors (a.by_ i).erasures 16 && decide ((a.by_ i).crc = crc32c (a.header ++ a.payload))

/-- The fields of a response's header (R429): destination, source, type, `seq` and body map. -/
def MastResponse.dest (a : MastResponse) : Nat := a.header.getD 0 0
def MastResponse.source (a : MastResponse) : Nat := a.header.getD 1 0
def MastResponse.kind (a : MastResponse) : Nat := a.header.getD 2 0 / 16
def MastResponse.seq (a : MastResponse) : Nat := a.header.getD 3 0
def MastResponse.map_ (a : MastResponse) : Nat := ofLe ((a.header.drop 4).take 3)

/-- The fields of its payload (R429): the quality per segment, 4 bits each, the node's status byte, and the node data. -/
def MastResponse.report (a : MastResponse) : List Nat :=
  (List.range 6).map (fun s => bitsAt (ofLe (a.payload.take 3)) (4 * s + 3) (4 * s))
def MastResponse.status (a : MastResponse) : Nat := a.payload.getD 3 0
def MastResponse.data (a : MastResponse) : List Nat := a.payload.drop 4

/-! ### Records -/

/-- Port `t`, 0 for MAST 1. -/
def Lane.mastPort (l : Lane) (t : Nat) : MastPort := UMap.get (fun _ => {}) l.mast.ports t

/-- Port `t` replaced. -/
def Lane.setMastPort (t : Nat) (x : MastPort) (l : Lane) : Lane :=
  { l with mast := { l.mast with ports := UMap.put (fun _ => {}) l.mast.ports t x } }

/-- Node `n` = 1..16. -/
def Lane.mastNodeSt (l : Lane) (n : Nat) : MastNode := UMap.get (fun _ => {}) l.mast.nodes n

/-- Node `n` replaced. -/
def Lane.setMastNode (n : Nat) (x : MastNode) (l : Lane) : Lane :=
  { l with mast := { l.mast with nodes := UMap.put (fun _ => {}) l.mast.nodes n x } }

/-- Whether node `n` is enabled, and its port. -/
def nodeOn (m : UMap Int) (n : Nat) : Bool := bitAt (cfgAt m (Mast.mastNode (n - 1))).toNat 31
def nodePort (m : UMap Int) (n : Nat) : Nat := bitN (cfgAt m (Mast.mastNode (n - 1))).toNat 0

/-- The enabled nodes of a port by ascending number (R431). -/
def portNodes (m : UMap Int) (t : Nat) : List Nat :=
  (List.range' 1 16).filter (fun n => nodeOn m n && nodePort m n == t)

/-- The entry of segment `s` in a channel map: level and pair (R428). -/
def mapLevel (w s : Nat) : Nat := bitsAt w (4 * s + 2) (4 * s)
def mapPair (w s : Nat) : Nat := bitN w (4 * s + 3)

/-- The map word of a list of levels and pairs. -/
def mapWord : List (Nat × Nat) → Nat
  | [] => 0
  | (lv, p) :: t => (lv % 8 + 8 * (p % 2)) + 16 * mapWord t

/-- Mains cycles that a frame takes (R428, R429): preamble and header, 152 bits at level 3 in every segment, then from the next segment 0
the payload with CRC and parity in the body map. -/
def frameCycles (fnom : Int) (map len : Nat) : Nat :=
  bitCycles 152 (6 * segmentBits fnom 3)
    + bitCycles (8 * (len + 20)) ((List.range 6).foldl (fun a s => a + segmentBits fnom (mapLevel map s)) 0)

/-- Every segment at level 3 (R432). -/
def startMap : Nat := 0x333333

/-- A port after a reset of the mast link, a start or a wake (R432). -/
def Lane.mastStart (t : Nat) (l : Lane) : Lane :=
  let l2 := l.setp (Mast.mapNow t) startMap
  l2.setMastPort t { l2.mastPort t with active := false, repeatDue := false, repeats := 0, good := 0, recovering := true }

/-! ### Mains cycles (R428) -/

/-- The mains period in µs for a frequency setting. -/
def mainsPeriod (fnom : Int) : Nat := if fnom = 1 then 16667 else 20000

/-- Level for a quality (R432). -/
def levelFor (q : Nat) : Nat := if q ≤ 3 then 0 else if q ≤ 6 then 1 else if q ≤ 9 then 2 else if q ≤ 12 then 3 else 4

/-- Own noise class of a segment and pair. -/
def MastPort.noise (x : MastPort) (s p : Nat) : Nat := x.own.getD (2 * s + p) 0

/-- The quality of segment `s` on a pair (R432): the worst of the own class and the latest report of each node of the port. -/
def Lane.pairQ (l : Lane) (t s p : Nat) : Nat :=
  (portNodes l.cfg t).foldl (fun q n => max q ((l.mastNodeSt n).report.getD s 0)) ((l.mastPort t).noise s p)

/-- The quality of segment `s` (R432): the worst of the own class, at levels 2 and above over both pairs, and the latest
report of each node of the port. -/
def Lane.mastQ (l : Lane) (t s : Nat) : Nat :=
  let w := l.pn (Mast.mapStored t)
  if mapLevel w s < 2 then l.pairQ t s (mapPair w s) else max (l.pairQ t s 0) (l.pairQ t s 1)

/-- MAINS_ZERO_CROSSING (R428, R432): the period of the cycle that ends and the guard noise of each segment and pair.
Outside ±5 % the port transmits nothing and the cycle counts. -/
def Lane.zeroCrossing (t periodUs : Nat) (noise : List Nat) (l : Lane) : Lane :=
  let nom := mainsPeriod (l.c Mast.mastFnom)
  -- the frequency lies within ±5 % of nominal: nom/period in 0.95..1.05
  let ok := decide (95 * periodUs ≤ 100 * nom ∧ 100 * nom ≤ 105 * periodUs)
  let x := l.mastPort t
  let l1 := l.setMastPort t { x with cycles := x.cycles + 1, periodUs := periodUs, inBand := ok, own := noise }
  let w := l1.pn (Mast.mapStored t)
  let allow := (List.range 6).map (fun s => if levelFor (l1.mastQ t s) < mapLevel w s then x.allow.getD s 0 + 1 else 0)
  let l2 := l1.setMastPort t { l1.mastPort t with allow := allow }
  if ok then l2 else l2.inc (Mast.mainsOut t)

/-! ### Transactions (R431) -/

/-- The next node of a port after `n`, by ascending number and round again. -/
def nextNode (ns : List Nat) (n : Nat) : Option Nat :=
  match ns.find? (fun k => decide (n < k)) with
  | some k => some k
  | none => ns.head?

/-- The request to node `n` on port `t` sent with repeat count `rep` and what it carries. The response is due in the third cycle after the
request's last one (R431). -/
def Lane.mastRequest (t n rep : Nat) (carried : Option (List Nat)) (l : Lane) : Lane :=
  let x := l.mastPort t
  let payload := carried.getD []
  l.setMastPort t { x with
    node := n, active := true, repeatDue := false, repeats := rep, carried := carried, failed := false
    dueCycle := x.cycles + frameCycles (l.c Mast.mastFnom) (l.pn (Mast.mapNow t)) payload.length + 2
    frame := mastFrame n rep (l.mastNodeSt n).seq (l.pn (Mast.mapNow t)) payload }

/-- MAST_REQUEST_SEND (R431): a repeat that is due, with what the request carried, else the next node's request with its next queued data,
from the mains cycle on in which the next transaction may start. -/
def Lane.mastSend (t : Nat) (l : Lane) : Lane :=
  let x := l.mastPort t
  if !x.inBand || x.active || decide (x.cycles < x.nextCycle) then l
  else if x.repeatDue then (l.inc (Mast.repeats (x.node - 1))).mastRequest t x.node (x.repeats + 1) x.carried
  else
    match nextNode (portNodes l.cfg t) x.node with
    | none => l
    | some n =>
      let nd := { l.mastNodeSt n with seq := ((l.mastNodeSt n).seq + 1) % 256 }
      ((l.setMastNode n nd).inc (Mast.polls (n - 1))).mastRequest t n 0 nd.queue.head?

/-- Segment `s` of the adapted map (R432): lowered at once by its quality, and by one level where its bytes were bad;
raised one step after 64 allowed cycles; the pair changed where the other is better by 2. -/
def Lane.adaptSegment (l : Lane) (t : Nat) (bad : List Nat) (s : Nat) : Nat × Nat :=
  let x := l.mastPort t
  let w := l.pn (Mast.mapStored t)
  let lv := mapLevel w s
  let tgt := levelFor (l.mastQ t s)
  let low := max tgt (if bad.contains s then lv + 1 else 0)
  let nl := if lv < low then min low 4 else if tgt < lv ∧ 64 ≤ x.allow.getD s 0 then lv - 1 else lv
  let p := mapPair w s
  let np := if nl < 2 ∧ l.pairQ t s (1 - p) + 2 ≤ l.pairQ t s p then 1 - p else p
  (nl, np)

/-- A map that would leave every segment at level 4 holds the segment of lowest quality at level 3 (R432). -/
def holdOne (q : Nat → Nat) (m : List (Nat × Nat)) : List (Nat × Nat) :=
  if m.all (fun e => e.1 == 4) then
    let best := (List.range 6).foldl (fun b s => if q s < q b then s else b) 0
    m.zipIdx.map (fun e => if e.2 = best then (3, e.1.2) else e.1)
  else m

/-- The map in use against the adapted one: a more robust level at once, a less robust one at once unless the port still
returns from a start, which takes one level after every 16 good transactions. -/
def useMap (recovering step : Bool) (now : Nat) (m : List (Nat × Nat)) : List (Nat × Nat) :=
  m.zipIdx.map (fun e =>
    let cur := mapLevel now e.2
    if cur ≤ e.1.1 ∨ recovering = false then e.1 else (if step then cur - 1 else cur, e.1.2))

/-- The channel map of a port adapted once per transaction (R432), `good` or not. Event 76 for each lowering. -/
def Lane.adapt (t : Nat) (bad : List Nat) (good : Bool) (l : Lane) : Lane :=
  let x := l.mastPort t
  let old := l.pn (Mast.mapStored t)
  let m := holdOne (l.mastQ t) ((List.range 6).map (l.adaptSegment t bad))
  let now := l.pn (Mast.mapNow t)
  let use := useMap x.recovering (good && decide (x.good % 16 = 0)) now m
  let lowered := ((List.range 6).filter (fun s => decide (mapLevel old s < (m.getD s (0, 0)).1))).foldl (fun a s => a + 2 ^ s) 0
  let raised := fun (s : Nat) => decide ((m.getD s (0, 0)).1 < mapLevel old s)
  let l1 := (l.setp (Mast.mapStored t) (mapWord m : Nat)).setp (Mast.mapNow t) (mapWord use : Nat)
  let l2 := l1.setMastPort t { x with
    recovering := x.recovering && decide (mapWord use ≠ mapWord m)
    allow := (List.range 6).map (fun s => if raised s then 0 else x.allow.getD s 0) }
  l2.fireIf (decide (lowered ≠ 0)) 76 (x.node - 1) [(lowered : Int)]

/-- Whether a response belongs to the running transaction of its port (R429, R431): its header decoded in this lane, and it is a response of
the polled node to the controller, with the request's `seq`. -/
def Lane.answers (l : Lane) (t : Nat) (a : MastResponse) : Bool :=
  let n := (l.mastPort t).node
  (l.mastPort t).active && a.headOk l.id && decide (a.kind = 2 ∧ a.dest = 0 ∧ a.source = n ∧ (l.mastNodeSt n).seq = a.seq)

/-- What a lane takes of a response (R430): a body that failed is discarded and counted; a good one is stored. -/
def Lane.mastDecode (t : Nat) (a : MastResponse) (l : Lane) : Lane :=
  let n := (l.mastPort t).node
  let i := n - 1
  if !l.answers t a then l
  else if !a.bodyOk l.id then l.inc (Mast.mastFailed i)
  else
    let l1 := if (a.by_ l.id).corrected.any (fun c => decide (c ≠ 0)) then l.inc (Mast.mastCorrected i) else l
    l1.setMastNode n { l1.mastNodeSt n with
      data := a.data, dataSeq := a.seq, tag := l1.pacer.teamTime, report := a.report, status := a.status, known := true }

/-- MAST_RESPONSE_RECEIVE at the holder (R431, R432): a good response ends the transaction, the next one may start in the third mains
cycle from here on, and a lost node is found again; the map adapts to the bytes that were bad and to the new report. -/
def Lane.mastResponse (t : Nat) (a : MastResponse) (l : Lane) : Lane :=
  let x := l.mastPort t
  if !l.answers t a || (x.failed && !a.bodyOk l.id) then l
  else if !a.bodyOk l.id then
    (l.setMastPort t { x with failed := true }).adapt t ((List.range 6).filter (fun s => decide (mapLevel a.map_ s < 4))) false
  else
    let i := x.node - 1
    let cor := (a.by_ l.id).corrected
    let bad := if 4 ≤ cor.sum then (List.range 6).filter (fun s => decide (0 < cor.getD s 0)) else []
    let nd := l.mastNodeSt x.node
    let l1 := l.setMastNode x.node { nd with fails := 0, queue := if x.carried.isSome then nd.queue.drop 1 else nd.queue, report := a.report }
    let l2 := (l1.setp (Mast.nodeState i) 1).fireIf (decide (l1.p (Mast.nodeState i) = 2)) 76 i [0]
    (l2.setMastPort t { l2.mastPort t with
      active := false, repeats := 0, good := x.good + 1, nextCycle := x.cycles + 3 }).adapt t bad true

/-- A transaction without a response (R431): it has failed, and its request is repeated up to `mast_retries` times; after 8 failed transactions
in a row, each repeat being one of its own, the node is lost. -/
def Lane.mastMissed (t : Nat) (l : Lane) : Lane :=
  let x := l.mastPort t
  let n := x.node
  let nd := l.mastNodeSt n
  let more := decide (x.repeats < l.cn Mast.mastRetries)
  let l1 := (l.setMastPort t { x with
    active := false, repeatDue := more, repeats := if more then x.repeats else 0, nextCycle := x.cycles }).setMastNode n { nd with fails := nd.fails + 1 }
  if nd.fails + 1 = 8 then (l1.setp (Mast.nodeState (n - 1)) 2).fire 76 (n - 1) [0] else l1

/-- MAST_RESPONSE_TIMEOUT (R431): at the end of the 11th mains cycle after the one in which the response was due. The map adapts after this
transaction too (R432, as the example of the crane's motor shows), where it has not done so after a body that failed. -/
def Lane.mastTimeout (t : Nat) (l : Lane) : Lane :=
  let x := l.mastPort t
  if !x.active || decide (x.cycles < x.dueCycle + 12) then l
  else if x.failed then l.mastMissed t
  else (l.mastMissed t).adapt t [] false

/-- A grant change that cuts off a request under way, before the two cycles ahead of its response: the new holder repeats it (R433). -/
def Lane.mastTakeover (l : Lane) : Lane :=
  l.forN 2 (fun t l =>
    let x := l.mastPort t
    if x.active && decide (x.cycles + 2 < x.dueCycle) then l.mastMissed t else l)

/-- The holder's map, queues and transaction state as the standby follows them (R433). -/
def Lane.mastFollow (l : Lane) (holder : Lane) (t : Nat) : Lane :=
  let l1 := (l.setp (Mast.mapNow t) (holder.p (Mast.mapNow t))).setp (Mast.mapStored t) (holder.p (Mast.mapStored t))
  let l2 := l1.setMastPort t { holder.mastPort t with own := (l.mastPort t).own }
  l2.forL (portNodes l.cfg t) (fun n l =>
    (l.setMastNode n { l.mastNodeSt n with queue := (holder.mastNodeSt n).queue, seq := (holder.mastNodeSt n).seq
                                           fails := (holder.mastNodeSt n).fails }).setp (Mast.nodeState (n - 1))
      (holder.p (Mast.nodeState (n - 1))))

/-- Whether a lane decodes a frame to a sleeping controller as the alert of an enabled node (R429, R434). -/
def Lane.alertValid (l : Lane) (t : Nat) (a : MastResponse) : Bool :=
  let n := a.source
  a.headOk l.id && decide (a.kind = 6 ∧ a.dest = 0 ∧ 1 ≤ n ∧ n ≤ 16) && nodeOn l.cfg n && nodePort l.cfg n == t

/-! ### Commands (R436, R437) -/

/-- Status codes of R437. -/
def st_MAST_NODE_OFF : Nat := 0x0811
def st_MAST_QUEUE_FULL : Nat := 0x0812
def st_MAST_NO_DATA : Nat := 0x0813

/-- `MAST_WRITE`. -/
def Lane.cmdMastWrite (fitted : Bool) (r : Request) (l : Lane) : Lane × Reply :=
  let n := r.at_ 0 1
  let len := r.at_ 1 1
  if !fitted then (l, Reply.just st_UNIT_ABSENT)
  else if r.len < 2 ∨ r.len ≠ 2 + len ∨ 48 < len then (l, Reply.just st_BAD_LENGTH)
  else if n = 0 ∨ 16 < n then (l, Reply.just st_RANGE)
  else if !nodeOn l.cfg n then (l, Reply.just st_MAST_NODE_OFF)
  else
    let nd := l.mastNodeSt n
    if 4 ≤ nd.queue.length then (l, Reply.just st_MAST_QUEUE_FULL)
    else (l.setMastNode n { nd with queue := nd.queue ++ [r.body.drop 2] }, Reply.ok [])

/-- `MAST_READ`. -/
def Lane.cmdMastRead (fitted : Bool) (r : Request) (l : Lane) : Lane × Reply :=
  let n := r.at_ 0 1
  if !fitted then (l, Reply.just st_UNIT_ABSENT)
  else if r.len ≠ 1 then (l, Reply.just st_BAD_LENGTH)
  else if n = 0 ∨ 16 < n then (l, Reply.just st_RANGE)
  else if !nodeOn l.cfg n then (l, Reply.just st_MAST_NODE_OFF)
  else
    let nd := l.mastNodeSt n
    if !nd.known then (l, Reply.just st_MAST_NO_DATA)
    else (l, Reply.ok (nd.data.map (fun (v : Nat) => (1, (v : Int))) ++ [(0, (nd.dataSeq : Int)), (0, nd.tag)]
      ++ nd.report.map (fun (v : Nat) => (0, (v : Int))) ++ [(0, (nd.status : Int))]))

/-- `MAST_MAP_READ`. -/
def Lane.cmdMastMap (fitted : Bool) (r : Request) (l : Lane) : Lane × Reply :=
  let t := r.at_ 0 1
  if !fitted then (l, Reply.just st_UNIT_ABSENT)
  else if r.len ≠ 1 then (l, Reply.just st_BAD_LENGTH)
  else if 1 < t then (l, Reply.just st_RANGE)
  else
    (l, Reply.ok ([(0, l.p (Mast.mapNow t)), (0, l.p (Mast.mapStored t))]
      ++ (List.range 12).map (fun i => (0, (l.pairQ t (i / 2) (i % 2) : Int)))))

end Sys2Proof.Machine
end

