-- ==== Sys2Proof/Machine/Tune.lean ====
section
/-!
DEFINITION. Injection measurements and trace buffers of one lane (R438 to R445, R452, R453).
-/

namespace Sys2Proof.Machine

/-! ### Sine and cosine (R439, R441) -/

/-- π in units of 2^−80. -/
def piFix : Int := 3797952473636338580787993

/-- Terms of the alternating series from `term` on: each is the last times −x² / ((k + 1)(k + 2)), in units of 2^−80. -/
def seriesGo (xx : Int) : Nat → Int → Int → Int → Int
  | 0, _, _, acc => acc
  | f + 1, k, term, acc =>
    let t := -(term * xx / (2 ^ 80)) / ((k + 1) * (k + 2))
    seriesGo xx f (k + 2) t (acc + t)

/-- The sine of an angle in the first quadrant, in units of 2^−80. -/
def sinFix (x : Int) : Int := seriesGo (x * x / 2 ^ 80) 14 1 x x

/-- The cosine of an angle in the first quadrant, in units of 2^−80. -/
def cosFix (x : Int) : Int := seriesGo (x * x / 2 ^ 80) 14 0 (2 ^ 80) (2 ^ 80)

/-- The sine of 2π × phase / 2^32, in units of 2^−80. -/
def sinPhase (phase : Nat) : Int :=
  let p := phase % 2 ^ 32
  let q := p / 2 ^ 30
  let x := ((p % 2 ^ 30 : Nat) : Int) * piFix / 2 ^ 31
  if q = 0 then sinFix x else if q = 1 then cosFix x else if q = 2 then -(sinFix x) else -(cosFix x)

/-- The cosine of 2π × phase / 2^32, in units of 2^−80. -/
def cosPhase (phase : Nat) : Int := sinPhase (phase + 2 ^ 30)

/-- An entry of the correlator's table (R441): Q1.31, indexed by bits 31:16 of the phase. -/
def tableQ (v : Int) : Int := sat32 ((v + 2 ^ 48) / 2 ^ 49)
def sinTable (phase : Nat) : Int := tableQ (sinPhase (phase % 2 ^ 32 / 2 ^ 16 * 2 ^ 16))
def cosTable (phase : Nat) : Int := tableQ (cosPhase (phase % 2 ^ 32 / 2 ^ 16 * 2 ^ 16))

/-! ### Frequency points (R441) -/

/-- The largest `k` in `lo..hi` with `ok k`, by bisection; `lo` is taken to satisfy it. -/
def largestGo (ok : Nat → Bool) : Nat → Nat → Nat → Nat
  | 0, lo, _ => lo
  | f + 1, lo, hi =>
    if hi ≤ lo then lo
    else
      let mid := (lo + hi + 1) / 2
      if ok mid then largestGo ok f mid hi else largestGo ok f lo (mid - 1)

/-- ⌊k0 × (k1/k0)^(i/(m−1)) + 0.5⌋: the largest `k` with (2k − 1)^(m−1) ≤ 2^(m−1) k0^(m−1−i) k1^i. -/
def harmonic (k0 k1 m i : Nat) : Nat :=
  if m ≤ 1 then k0
  else
    let e := m - 1
    largestGo (fun k => decide ((2 * k - 1) ^ e ≤ 2 ^ e * (k0 ^ (e - i) * k1 ^ i))) 33 k0 k1

/-- The list without repeats. -/
def dedupNat (xs : List Nat) : List Nat := xs.foldl (fun a k => if a.contains k then a else a ++ [k]) []

/-- The frequency in mHz of a phase increment at decimation `d`, to the nearest (log entry 21). -/
def phiMilliHz (phi d : Nat) : Nat := (2 * phi * 200000000 + 2 ^ (32 + d)) / (2 * 2 ^ (32 + d))

/-- The points of a PRBS measurement. -/
def prbsPoints (d n h settle periods k0 k1 m : Nat) : List TunePoint :=
  let nh := (2 ^ n - 1) * h
  (dedupNat ((List.range m).map (harmonic k0 k1 m))).map (fun k =>
    { phi := (2 * 2 ^ 32 * k + nh) / (2 * nh), mHz := (2 * k * 200000000 + nh * 2 ^ d) / (2 * (nh * 2 ^ d))
      settle := settle * nh, meas := periods * nh })

/-- The phase increment of stepped-sine point `i` of `m`: round(2^32 × f × T_s) with f spaced logarithmically. -/
def sinePhi (d fLo fHi m i : Nat) : Nat :=
  let e := max 1 (m - 1)
  let c := 5 * 2 ^ (32 + d)
  largestGo (fun k => decide ((2 * k - 1) ^ e * (10 ^ 9) ^ e ≤ (2 * c) ^ e * (fLo ^ (e - i) * fHi ^ i))) 33 0 (2 ^ 31)

/-- round(cycles × 2^32 / φ). -/
def cyclesEvals (cycles phi : Nat) : Nat := if phi = 0 then 0 else (2 * cycles * 2 ^ 32 + phi) / (2 * phi)

/-- The points of a stepped sine. -/
def sinePoints (d fLo fHi m settle cycles : Nat) : List TunePoint :=
  (List.range m).map (fun i =>
    let phi := sinePhi d fLo fHi m i
    { phi := phi, mHz := phiMilliHz phi d, settle := cyclesEvals settle phi, meas := cyclesEvals cycles phi })

/-! ### The request (R440, R452, R453) -/

/-- Status codes of R453. -/
def st_TUNE_BUSY : Nat := 0x0501
def st_TUNE_SLOT : Nat := 0x0502
def st_TUNE_PARAM : Nat := 0x0503
def st_GUARD_REQUIRED : Nat := 0x0504
def st_TUNE_NONE : Nat := 0x0505
def st_TRACE_EMPTY : Nat := 0x0506
def st_ACQ_ARMED : Nat := 0x0507
def st_ACQ_MEMORY : Nat := 0x0508
def st_ACQ_PAUSED : Nat := 0x0509
def st_ACQ_NO_RECORD : Nat := 0x050A
def st_ACQ_NOT_ARMED : Nat := 0x050B
def st_ACQ_NOT_ANCHOR : Nat := 0x050C

/-- Evaluations of a measurement. -/
def planTotal (kind n h settle periods stepLaps : Nat) (pts : List TunePoint) : Nat :=
  if kind = 1 then (settle + periods) * (2 ^ n - 1) * h
  else if kind = 2 then pts.foldl (fun a p => a + p.settle + p.meas) 0
  else stepLaps

/-- Whether a slot's measurement needs a guard pack (R442). -/
def guardNeeded (m : UMap Int) (t : Nat) : Bool :=
  enDest (entryLo m t) == 1 || ([1, 2, 3, 4, 5] : List Nat).contains (enFbMode (entryLo m t)) || enRefMode (entryHi m t) == 5

/-- The measurement that a `TUNE_START` body describes, where it lies within the limits of R440. -/
def Lane.tunePlan (l : Lane) (r : Request) : Option TunePlan :=
  let t := r.at_ 0 2
  let kind := r.at_ 3 1
  let d := enDecim (entryHi l.cfg t)
  let base : TunePlan :=
    { slot := t, node := r.at_ 2 1, kind := kind, amp := (r.at_ 4 4 : Nat), nodeA := r.at_ 8 1, nodeB := r.at_ 9 1
      guard := if r.at_ 10 1 = 0xFF then none else some (r.at_ 10 1), guardA := r.at_ 12 4
      startEpoch := l.epoch + 1, endLap := 0 }
  let common := decide (0 < base.amp ∧ base.amp ≤ 0x20000000 ∧ base.node ≤ 2 ∧ base.nodeA ≤ 6 ∧ base.nodeB ≤ 6)
  let finish := fun (p : TunePlan) =>
    let first := ((List.range (2 ^ d)).find? (fun j => (200 * p.startEpoch + j) % 2 ^ d == enPhaseOfs (entryHi l.cfg t))).getD 0
    { p with endLap := 200 * p.startEpoch + first + (p.total - 1) * 2 ^ d, lfsr := 2 ^ p.n - 1 }
  if !common then none
  else if kind = 1 then
    let n := r.at_ 16 1
    let h := r.at_ 17 1
    let settle := r.at_ 18 1
    let periods := r.at_ 20 2
    let k0 := r.at_ 22 2
    let k1 := r.at_ 24 2
    let m := r.at_ 26 2
    let total := planTotal 1 n h settle periods 0 []
    if 7 ≤ n ∧ n ≤ 15 ∧ 1 ≤ h ∧ h ≤ 64 ∧ settle ≤ 16 ∧ 1 ≤ periods ∧ periods ≤ 1024 ∧ total ≤ 120000000
        ∧ 1 ≤ k0 ∧ k0 < k1 ∧ 2 * (k1 + 1) ≤ (2 ^ n - 1) * h ∧ 1 ≤ m then
      let pts := prbsPoints d n h settle periods k0 k1 m
      if ((List.range m).map (harmonic k0 k1 m)).any (fun k => k % (2 ^ n - 1) == 0) then none
      else some (finish { base with n := n, h := h, settle := settle * (2 ^ n - 1) * h, total := total, points := pts })
    else none
  else if kind = 2 then
    let fLo := r.at_ 16 4
    let fHi := r.at_ 20 4
    let m := r.at_ 24 2
    let settle := r.at_ 26 2
    let cycles := r.at_ 28 2
    if 0 < fLo ∧ fLo < fHi ∧ fHi * 2 ^ d ≤ 80000000 ∧ 2 ≤ m ∧ m ≤ 256 ∧ settle ≤ 1000 ∧ 1 ≤ cycles ∧ cycles ≤ 10000 then
      let pts := sinePoints d fLo fHi m settle cycles
      let total := planTotal 2 0 1 0 0 0 pts
      if total ≤ 120000000 ∧ pts.all (fun p => decide (0 < p.phi)) then some (finish { base with total := total, points := pts })
      else none
    else none
  else if kind = 3 then
    let s := r.at_ 16 4
    if 1 ≤ s ∧ s ≤ 65536 then some (finish { base with total := s }) else none
  else none

/-- `TUNE_START` (R438, R440, R442). DESIGN CHOICE (log entry 95): a guard pack that the variant does not fit guards nothing, so it is
`GUARD_REQUIRED` (R453) and not `UNIT_ABSENT` (R7). -/
def Lane.cmdTuneStart (r : Request) (l : Lane) : Lane × Reply :=
  let t := r.at_ 0 2
  let kind := r.at_ 3 1
  let need := if kind = 1 then 28 else if kind = 2 then 30 else 20
  if r.len ≠ need then (l, Reply.just st_BAD_LENGTH)
  else if l.tune.plan.isSome then (l, Reply.just st_TUNE_BUSY)
  else if 2047 < t ∨ enValid (entryHi l.cfg t) = false then (l, Reply.just st_TUNE_SLOT)
  else
    match l.tunePlan r with
    | none => (l, Reply.just st_TUNE_PARAM)
    | some p =>
      let bad := match p.guard with
        | none => guardNeeded l.cfg t
        | some k => decide (63 < k) || decide (l.p (Pk.packState k) ≠ pkRun)
      if bad then (l, Reply.just st_GUARD_REQUIRED)
      else ({ l with tune := { l.tune with plan := some p } },
        Reply.ok [(0, (200 * p.startEpoch : Nat)), (0, (p.endLap : Int))])

/-! ### The injected sequence (R438, R439) -/

/-- The parity of a number's bits. -/
def parityGo : Nat → Nat → Bool
  | 0, _ => false
  | f + 1, v => (decide (v % 2 = 1)) != parityGo f (v / 2)

/-- One advance of the Fibonacci register of degree `n`; its taps are those of the maker's table (log entry 12). -/
def lfsrStep (n reg : Nat) : Nat :=
  reg / 2 + (if parityGo n (reg &&& Config.prbsTaps n) then 2 ^ (n - 1) else 0)

/-- round(a × sin(2π φ m / 2^32)). -/
def sineValue (a : Int) (phi m : Nat) : Int := (a * sinPhase (phi * m % 2 ^ 32) + 2 ^ 79) / 2 ^ 80

/-- The value injected at the measurement's next evaluation. -/
def TunePlan.value (p : TunePlan) : Int :=
  if p.total ≤ p.m ∨ 4 ≤ p.devRun then 0
  else if p.kind = 1 then (if p.lfsr % 2 = 1 then p.amp else -p.amp)
  else if p.kind = 2 then sineValue p.amp ((p.points.getD p.pt ⟨0, 0, 0, 0⟩).phi) p.mPt
  else p.amp

/-- The injections i_r, i_e, i_u of every slot in this lap. -/
def Lane.injection (l : Lane) (t : Nat) : Int × Int × Int :=
  match l.tune.plan with
  | none => (0, 0, 0)
  | some p =>
    if !l.tune.running || decide (p.slot ≠ t) then (0, 0, 0)
    else
      let v := p.value
      if p.node = 0 then (v, 0, 0) else if p.node = 1 then (0, v, 0) else (0, 0, v)

/-- The value of a node of slot `t`'s latest evaluation (R441). -/
def Lane.nodeValue (l : Lane) (t code : Nat) : Int :=
  let x := l.slot t
  match code with
  | 0 => x.injNow
  | 1 => x.refNow
  | 2 => x.fbNow
  | 3 => x.preNow
  | 4 => x.e1
  | 5 => x.compNow
  | _ => x.out

/-! ### The end of a measurement (R442, R443) -/

/-- A measurement ended without a result (R443). -/
def Lane.tuneAbort (cause : Int) (l : Lane) : Lane :=
  match l.tune.plan with
  | none => l
  | some p =>
    let l1 := { l with tune := { l.tune with plan := none, running := false } }
    let l2 := (l1.setp Ta.tuneCause cause).setp Ta.tuneState (if cause = 7 then 5 else 4)
    if cause = 7 then l2 else (l2.inc Ta.tuneAborts).fire 113 p.slot [p.dev]

/-- The outlet that a slot serves: its unit is a phase, a pack or an outlet, as its destination and its modes name (R161, R163). -/
def slotOutlet (m : UMap Int) (t : Nat) : Option Nat :=
  let u := enUnit (entryLo m t)
  let fb := enFbMode (entryLo m t)
  let ref := enRefMode (entryHi m t)
  let dest := enDest (entryLo m t)
  if dest = 1 ∨ fb = 1 ∨ fb = 2 ∨ ref = 4 then (packOf m u).bind (outletOf m)
  else if fb = 3 ∨ fb = 4 ∨ ref = 5 then outletOf m u
  else if dest = 2 ∨ fb = 5 ∨ fb = 6 ∨ ref = 6 ∨ ref = 7 then some u
  else none

/-- The amplitude guard and the other ends that the pack block's lap shows (R442, R443), before the window opens. -/
def Lane.tuneGuard (tripped : Nat → Bool) (l : Lane) : Lane :=
  match l.tune.plan with
  | none => l
  | some p =>
    if !l.tune.running then l
    else if (match slotOutlet l.cfg p.slot with | some o => tripped o | none => tripped 0xFFFF) then l.tuneAbort 4
    else
      match p.guard with
      | none => l
      | some k =>
        if l.p (Pk.packState k) ≠ pkRun then l.tuneAbort 3
        else
          let dev := (absN (l.p (Pk.packI k) - l.p (Pk.target k)) : Int) * l.p (Pk.packIFs k)
          let past := decide ((p.guardA : Int) * 2 ^ 31 < dev)
          let devA := dev / 2 ^ 31
          let q := { p with devRun := if past then p.devRun + 1 else (if 4 ≤ p.devRun then p.devRun else 0), dev := max p.dev devA }
          ({ l with tune := { l.tune with plan := some q } }).setp Ta.tuneGuardDevA q.dev

/-- TUNE_GUARD_ABORT (R442): the band exceeded in 4 consecutive laps. -/
def Lane.tuneGuardAbort (l : Lane) : Lane :=
  match l.tune.plan with
  | some p => if l.tune.running && decide (4 ≤ p.devRun) then l.tuneAbort 1 else l
  | none => l

/-- TUNE_MEASUREMENT_START (R438): at lap 0 of the epoch after the request. -/
def Lane.tuneStart (l : Lane) : Lane :=
  match l.tune.plan with
  | some p =>
    if l.tune.running || decide (l.epoch ≠ p.startEpoch) || decide (l.lapIn ≠ 0) then l
    else
      let l1 := { l with tune := { l.tune with running := true } }
      ((((l1.setp Ta.tuneState (if p.settle = 0 ∧ p.kind ≠ 2 then 2 else 1)).setp Ta.tuneSlot p.slot).setp Ta.tuneProgress 0).setp
        Ta.tuneGuardDevA 0).inc Ta.tuneRuns
  | none => l

/-! ### The correlator (R441) -/

/-- One evaluation accumulated for a point at phase `m`. -/
def TuneAcc.add (acc : TuneAcc) (a b : Int) (phase : Nat) : TuneAcc :=
  let c := cosTable phase
  let s := sinTable phase
  { ar := acc.ar + a * c, ai := acc.ai - a * s, br := acc.br + b * c, bi := acc.bi - b * s, n := acc.n + 1 }

/-- The accumulators after one evaluation; the phase counts evaluations from the start of the sequence (R441), while a stepped sine's own
value counts from the start of its point (R439). -/
def TunePlan.accumulate (p : TunePlan) (a b : Int) : UMap TuneAcc :=
  let put := fun (accs : UMap TuneAcc) (i phi m : Nat) =>
    UMap.put (fun _ => ({} : TuneAcc)) accs i ((UMap.get (fun _ => ({} : TuneAcc)) accs i).add a b (phi * m % 2 ^ 32))
  if p.kind = 1 then
    if p.m < p.settle then p.accs else p.points.zipIdx.foldl (fun accs e => put accs e.2 e.1.phi p.m) p.accs
  else if p.kind = 2 then
    let q := p.points.getD p.pt ⟨0, 0, 0, 0⟩
    if p.mPt < q.settle then p.accs else put p.accs p.pt q.phi p.m
  else p.accs

/-- The sequence advanced by one evaluation. -/
def TunePlan.advance (p : TunePlan) : TunePlan :=
  let q := p.points.getD p.pt ⟨0, 0, 0, 0⟩
  let last := decide (p.kind = 2) && decide (q.settle + q.meas ≤ p.mPt + 1)
  { p with
    m := p.m + 1
    pt := if last then p.pt + 1 else p.pt
    mPt := if last then 0 else p.mPt + 1
    lfsr := if p.kind = 1 ∧ (p.m + 1) % p.h = 0 then lfsrStep p.n p.lfsr else p.lfsr }

/-- After the window of a lap: where the slot was evaluated, the nodes are correlated and the sequence goes on. -/
def Lane.tuneLap (l : Lane) : Lane :=
  match l.tune.plan with
  | none => l
  | some p =>
    if !l.tune.running || !(l.slot p.slot).ran || decide (p.total ≤ p.m) then l
    else
      let measured := decide (p.kind = 1 ∧ p.settle ≤ p.m) || decide (p.kind = 2 ∧ (p.points.getD p.pt ⟨0, 0, 0, 0⟩).settle ≤ p.mPt)
      let q := { p.advance with
        accs := p.accumulate (l.nodeValue p.slot p.nodeA) (l.nodeValue p.slot p.nodeB)
        limited := p.limited || (measured && (l.slot p.slot).limited)
        doneEpoch := if p.total ≤ p.m + 1 then some l.epoch else none }
      (({ l with tune := { l.tune with plan := some q } }).setp Ta.tuneState (if measured || decide (p.kind = 3) then 2 else 1)).setp
        Ta.tuneProgress (q.m * 1000 / max 1 p.total : Nat)

/-- A quotient to the nearest whole number. -/
def nearest (num den : Int) : Int := if den = 0 then 0 else (2 * num + den) / (2 * den)

/-- The result of a point (R441): H = X_B / X_A in units of 2^−16, and 2 |X_A| / M in Q1.31. Where X_A is 0 the spec
states no response: a free value stands (log entry 12). -/
def TuneAcc.result (a : TuneAcc) (mHz free : Nat) : TuneResult :=
  let den := a.ar * a.ar + a.ai * a.ai
  let h := fun (v : Int) => if den = 0 then wrapS 32 (Config.freeValue free : Nat) else sat32 (nearest (v * 65536) den)
  { mHz := mHz, re := h (a.br * a.ar + a.bi * a.ai), im := h (a.bi * a.ar - a.br * a.ai)
    amp := if a.n = 0 then 0 else 2 * isqrt den.toNat / (a.n * 2 ^ 31) }

/-- TUNE_COMPLETE (R443): at lap 4 of the epoch after the last evaluation. A step has no correlator result (R440). -/
def Lane.tuneComplete (l : Lane) : Lane :=
  match l.tune.plan with
  | none => l
  | some p =>
    match p.doneEpoch with
    | none => l
    | some e =>
      if l.epoch < e + 1 ∨ (l.epoch = e + 1 ∧ l.lapIn < 4) then l
      else
        let res := if p.kind = 3 then [] else
          p.points.zipIdx.map (fun q => (UMap.get (fun _ => ({} : TuneAcc)) p.accs q.2).result q.1.mHz l.lap)
        let flags := (if p.limited then 1 else 0) + (if p.takeover then 2 else 0)
        let l1 := { l with tune := { plan := none, running := false, result := res, flags := flags, haveResult := decide (p.kind ≠ 3) } }
        (((l1.setp Ta.tuneState 3).setp Ta.tuneCause 0).setp Ta.tuneProgress 1000).fire 112 p.slot [(res.length : Int)]

/-- A takeover during a measurement (R443). -/
def Lane.tuneTakeover (l : Lane) : Lane :=
  match l.tune.plan with
  | some p => if l.tune.running then { l with tune := { l.tune with plan := some { p with takeover := true } } } else l
  | none => l

/-- A committed change to a point of the slot, or a new loop-to-slot generation, ends the measurement (R443). -/
def Lane.tuneConfig (old : UMap Int) (oldGen : Nat → Nat) (l : Lane) : Lane :=
  match l.tune.plan with
  | none => l
  | some p =>
    let base := 0x80000 + 32 * p.slot
    let changed := (List.range 0x16).any (fun i => decide (cfgAt old (base + i) ≠ cfgAt l.cfg (base + i)))
    if changed || decide (oldGen p.slot ≠ l.slotGen p.slot) then l.tuneAbort 2 else l

/-- `TUNE_RESULT` (R452): up to 13 records per part. Only a completed measurement has a result, so its end cause is 0 (R443). -/
def Lane.cmdTuneResult (r : Request) (l : Lane) : Lane × Reply :=
  let first := r.at_ 0 2
  if r.len ≠ 2 then (l, Reply.just st_BAD_LENGTH)
  else if !l.tune.haveResult then (l, Reply.just st_TUNE_NONE)
  else
    let n := l.tune.result.length
    let head : List Field := [(2, (n : Int)), (1, (l.tune.flags : Int)), (1, 0), (4, 0)]
    let recs := (l.tune.result.drop first).map (fun x =>
      [((4 : Nat), (x.mHz : Int)), (4, x.re), (4, x.im), (4, (x.amp : Int))])
    (l, { status := st_OK, parts := partsOr head ((chunks 13 recs).map (fun p => head ++ p.flatten)) })

/-! ### Trace buffers (R444, R445) -/

/-- Slot and node of a probe, where it is enabled. -/
def Lane.probe (l : Lane) (e p : Nat) : Option (Nat × Nat) :=
  let w := l.cn (Pb.probe e p)
  if bitAt w 31 then some (bitsAt w 26 16, w % 8) else none

/-- Whether samples are being recorded: armed, and not past the post-trigger count. -/
def Lane.tracing (l : Lane) : Bool :=
  let st := l.p Ta.traceState
  decide (st = 1) || (decide (st = 2) && (match l.trace.trigLap with | some g => decide (l.lap ≤ g + 65535 - l.trace.pre) | none => false))

/-- Every enabled probe stores its node's value at the end of the window; while its engine is in reset it stores 0. -/
def Lane.traceLap (l : Lane) : Lane :=
  if !l.tracing then l
  else
    let t := l.trace
    let off := ((if l.engine.off0 then [(l.lap, 0)] else []) ++ (if l.engine.off1 then [(l.lap, 1)] else []) : List (Nat × Nat))
    let samples := (List.range 16).foldl (fun m i =>
      match l.probe (i / 8) (i % 8) with
      | none => m
      | some (s, c) =>
        let down := if i / 8 = 0 then l.engine.off0 else l.engine.off1
        let v := if down then 0 else l.nodeValue s c
        UMap.put (fun _ => []) m i (((l.lap, v) :: UMap.get (fun _ => []) m i).take 65536)) t.samples
    { l with trace := { t with samples := samples, resetLaps := (off ++ t.resetLaps).take 131072 } }

/-- A trigger on armed probes (R445): too early it is ignored and counted. -/
def Lane.traceTrigger (source : Nat) (l : Lane) : Lane :=
  if l.p Ta.traceState ≠ 1 ∨ l.trace.source ≠ source then l
  else if l.lap < l.trace.armLap + l.trace.pre then l.inc Ta.traceTrigIgnored
  else (({ l with trace := { l.trace with trigLap := some l.lap } }).setp Ta.traceState 2).setp Ta.traceTrigLap l.lap

/-- TRACE_COMPLETE (R445). -/
def Lane.traceComplete (l : Lane) : Lane :=
  match l.trace.trigLap with
  | some g => if l.p Ta.traceState = 2 ∧ g + 65535 - l.trace.pre < l.lap then l.setp Ta.traceState 3 else l
  | none => l

/-- `TRACE_ARM` (R445, R452): a second one with source 0 triggers probes armed with source 0. -/
def Lane.cmdTraceArm (r : Request) (l : Lane) : Lane × Reply :=
  let src := r.at_ 2 1
  if r.len ≠ 3 then (l, Reply.just st_BAD_LENGTH)
  else if 4 < src then (l, Reply.just st_RANGE)
  else if src = 0 ∧ l.p Ta.traceState = 1 ∧ l.trace.source = 0 then (l.traceTrigger 0, Reply.ok [])
  else (({ l with trace := { pre := r.at_ 0 2, source := src, armLap := l.lap } }).setp Ta.traceState 1, Reply.ok [])

/-- A part of a trace: the lap of its first sample, its samples, and the flagged laps that the engine spent in reset (R444; the spec
gives that flag no place in the response). -/
def tracePart (resets : List Nat) (xs : List (Nat × Int)) (first : Nat) : List Field :=
  (8, (((xs.head?.map Prod.fst).getD first : Nat) : Int)) :: (xs.map (fun x => ((4 : Nat), x.2))
    ++ (xs.filter (fun x => resets.contains x.1)).map (fun x => ((0 : Nat), (x.1 : Int))))

/-- `TRACE_READ` (R452): up to 54 samples per part, of the laps that the triggered trace holds (R445). -/
def Lane.cmdTraceRead (r : Request) (l : Lane) : Lane × Reply :=
  let e := r.at_ 0 1
  let p := r.at_ 1 1
  let first := r.at_ 2 2
  let count := r.at_ 4 2
  if r.len ≠ 6 then (l, Reply.just st_BAD_LENGTH)
  else if 1 < e ∨ 7 < p then (l, Reply.just st_RANGE)
  else
    match l.trace.trigLap with
    | none => (l, Reply.just st_TRACE_EMPTY)
    | some g =>
      let from_ := g - l.trace.pre + first
      let xs := (UMap.get (fun _ => []) l.trace.samples (8 * e + p)).reverse.filter (fun x =>
        decide (from_ ≤ x.1 ∧ x.1 < from_ + count))
      let resets := (l.trace.resetLaps.filter (fun x => x.2 == e)).map Prod.fst
      (l, { status := st_OK, parts := (chunks 54 xs).map (fun c => tracePart resets c from_) })

/-- `TUNE_STOP` (R443, R445): answered once the injection is 0. -/
def Lane.cmdTuneStop (r : Request) (l : Lane) : Lane × Reply :=
  if r.len ≠ 0 then (l, Reply.just st_BAD_LENGTH) else ((l.tuneAbort 7).traceTrigger 0, Reply.ok [])

end Sys2Proof.Machine
end

