-- ==== Sys2Proof/Machine/Acquire.lean ====
section
/-!
DEFINITION. The acquisition engine of one lane (R446 to R452): channels, records, triggers, TRIG OUT, and the team's arms
and triggers (R410, R412).
-/

namespace Sys2Proof.Machine

/-! ### Records (R449) -/

/-- The armed record: the one in state 1, 2 or 3. -/
def Lane.armed (l : Lane) : Option AcqRecord := l.acq.records.find? (fun r => decide (1 ≤ r.state ∧ r.state ≤ 3))

/-- The record of a number replaced. -/
def Lane.setRecord (r : AcqRecord) (l : Lane) : Lane :=
  { l with acq := { l.acq with records := l.acq.records.map (fun x => if x.no = r.no then r else x) } }

/-- `acq_state` and `acq_free_mib` shown (R454). -/
def Lane.showAcq (l : Lane) : Lane :=
  let st := match l.armed with | some r => r.state | none => 0
  let used := l.acq.records.foldl (fun a r => a + r.mib) 0
  (l.setp Ta.acqState (st : Nat)).setp Ta.acqFreeMib ((l.acq.partition - used : Nat) : Int)

/-- Entries that a record holds (R448, R449): 24 bytes each. -/
def AcqRecord.capacity (r : AcqRecord) : Nat := r.mib * 1048576 / 24

/-- A record that ends in a state; event 111 at the end of a record that completed or filled. -/
def Lane.endRecord (st : Nat) (l : Lane) : Lane :=
  match l.armed with
  | none => l
  | some r =>
    let l1 := ({ l with acq := { l.acq with met := none } }).setRecord { r with state := st } |>.showAcq
    l1.fireIf (decide (st ≠ 6)) 111 r.no [(r.entries.length : Int)]

/-- An entry put into the armed record: circular before the trigger, dropped where a recording record is full. -/
def AcqRecord.put (e : AcqEntry) (r : AcqRecord) : AcqRecord :=
  if r.entries.length < r.capacity then { r with entries := e :: r.entries }
  else if r.state = 3 then r
  else
    let old := r.entries.getLast?
    let young := match old with | some o => decide (e.time - o.time < (r.preMs : Int) * 1000000) | none => false
    { r with entries := e :: r.entries.dropLast, flags := if young then r.flags ||| 1 else r.flags }

/-! ### Channels (R446, R447) -/

/-- Kind and selector of a channel. -/
def Lane.acqKind (l : Lane) (c : Nat) : Nat := bitsAt (l.cn (Acq.acqSrc c)) 31 28
def Lane.acqSel (l : Lane) (c : Nat) : Nat := bitsAt (l.cn (Acq.acqSrc c)) 22 0

/-- A channel's record. -/
def Lane.acqChan (l : Lane) (c : Nat) : AcqChan := UMap.get (fun _ => {}) l.acq.chans c

/-- A channel's record replaced. -/
def Lane.setAcqChan (c : Nat) (x : AcqChan) (l : Lane) : Lane :=
  { l with acq := { l.acq with chans := UMap.put (fun _ => {}) l.acq.chans c x } }

/-- The channels in use. -/
def Lane.usedChans (l : Lane) : List Nat := ((cfgUnits l.cfg (Acq.acqSrc 0) 256 4).map Prod.fst).filter (fun c => decide (l.acqKind c ≠ 0))

/-- A sample's tag: its team time and its lap (R448). The tag of now is the starter instant of the lap. -/
abbrev AcqTag := Int × Nat

/-- The tag of the lap's starter instant (R112). -/
def Lane.tagNow (l : Lane) : AcqTag := (l.pacer.teamTime, l.lap)

/-- The tag of an evaluation of slot `t`: the starter instant and the slot's completion time (R165), in whole ns. -/
def Lane.tagSlot (l : Lane) (t : Nat) : AcqTag := (l.pacer.teamTime + ((1400 + (t / 2 * 2 + 24) * 625 / 256 : Nat) : Int), l.lap)

/-- A value of channel `c` put into the armed record (R447): at most 200 entries a lap, that is 40,000,000 a second;
those beyond are dropped and counted, and the channel's next entry carries `overflow`. -/
def Lane.acqStore (c : Nat) (value : Int) (status flags : Nat) (tag : AcqTag) (l : Lane) : Lane :=
  match l.armed with
  | none => l
  | some r =>
    if l.acq.paused then l
    else
      let x := l.acqChan c
      if 200 ≤ l.acq.lapCount then (l.inc Ta.acqOverflowEntries).setAcqChan c { x with overflow := true }
      else
        let e : AcqEntry := { time := tag.1, value := value, channel := c, status := status
                              flags := flags ||| (if x.overflow then 32 else 0), lap := tag.2 % 2 ^ 32 }
        let l1 := (l.setRecord (r.put e)).setAcqChan c
          { x with known := true, value := value, status := status, lap := l.lap, overflow := false }
        { l1 with acq := { l1.acq with lapCount := l1.acq.lapCount + 1 } }

/-- A marker entry (R448). -/
def Lane.acqMarker (flags : Nat) (time : Int) (l : Lane) : Lane :=
  match l.armed with
  | none => l
  | some r => l.setRecord (r.put { time := time, value := 0, channel := 0xFFFF, status := 0, flags := flags, lap := l.lap % 2 ^ 32 })

/-! ### Triggers (R450) -/

/-- TRIG OUT `k` pulsed for 10 µs where it selects the event (R450); the standby drives neither output (R23). -/
def Lane.trigOut (event : Int) (l : Lane) : Lane :=
  if !l.link.grant then l
  else
    let l1 := if l.c (Ta.trigOut 0) = event then { l with acq := { l.acq with pulse0 := some l.lap } } else l
    if l1.c (Ta.trigOut 1) = event then { l1 with acq := { l1.acq with pulse1 := some l1.lap } } else l1

/-- TRIG_OUT_PULSE_END (R450): after 10 µs, two laps. -/
def Lane.trigOutEnd (k : Nat) (l : Lane) : Lane :=
  let due := fun (p : Option Nat) => match p with | some t => if t + 2 ≤ l.lap then none else some t | none => none
  if k = 0 then { l with acq := { l.acq with pulse0 := due l.acq.pulse0 } }
  else { l with acq := { l.acq with pulse1 := due l.acq.pulse1 } }

/-- The used levels whose arm in force has this id (R410). -/
def Lane.armLevels (id : Nat) (l : Lane) : List Nat :=
  (usedLevels l.cfg).filter (fun k => match (l.lvl k).arm with | some a => a.armed && decide (a.id = id) | none => false)

/-- The path of this controller at level `k`, in the form of R75: one entry, its member index there (R406). -/
def Lane.pathAt (k : Nat) (l : Lane) : Nat := 1 + 16 * lvlMember l.cfg k

/-- The earliest trigger of an arm noted at every level that holds it. -/
def Lane.noteTrigger (id : Nat) (tag : Int) (path : Nat) (l : Lane) : Lane :=
  l.forL (l.armLevels id) (fun k l =>
    l.setLvl k { l.lvl k with arm := (l.lvl k).arm.map (fun a => { a with best := some (tag, path) }) })

/-- Kind 8 sent at the levels `ks` (R410). -/
def Lane.sendTrigger (ks : List Nat) (id : Nat) (tag : Int) (path : Lane → Nat → Nat) (l : Lane) : Lane :=
  l.forL ks (fun k l => l.teamSend k 8 1 toAll [(4, (id : Int)), (4, (path l k : Int)), (8, tag)])

/-- Laps for which a team-armed record keeps its pre-trigger buffer running after its own trigger: 1 ms (R410). -/
def triggerGrace : Nat := 200

/-- The entries that a record triggered at `time` holds (R449), and those of `graceMs` before them. -/
def AcqRecord.released (time graceMs : Int) (r : AcqRecord) : AcqRecord :=
  { r with entries := r.entries.filter (fun e => decide (time - ((r.preMs : Int) + graceMs) * 1000000 ≤ e.time)) }

/-- A trigger that finds the armed record in `FILLING` or paused is ignored and counted (R449, R451). -/
def Lane.acqRefuses (l : Lane) : Bool :=
  match l.armed with
  | some r => decide (r.state = 1) || (l.acq.paused && decide (r.state = 2))
  | none => false

/-- A trigger accepted in `READY`: the earliest decides, so that a condition met before it and still to be taken goes first (R450);
recording starts, older entries than `pre_ms` are released (a team-armed record keeps those of 1 ms more
for an earlier team trigger, R410), a marker is stored, event 110 fires, a team-armed record sends kind 8 (R449, R450). -/
def Lane.acqAccept (source0 : Nat) (time0 : Int) (l : Lane) : Lane :=
  match l.armed with
  | none => l
  | some r =>
    if l.acqRefuses then ({ l with acq := { l.acq with met := none } } : Lane).inc Ta.acqTrigIgnored
    else if r.state ≠ 2 then l
    else
      let (source, time) := match l.acq.met with
        | some m => if m.1 ≤ time0 then (m.2 + 1, m.1) else (source0, time0)
        | none => (source0, time0)
      let l1 := ({ l with acq := { l.acq with met := none } }).setRecord
        (({ r with state := 3, trig := some time, trigLap := l.lap, trigSource := source } : AcqRecord).released time (if r.level.isSome then 1 else 0))
      let l2 := (((l1.acqMarker 4 time).showAcq.fire 110 source [(source : Int)]).traceTrigger 2).trigOut 1
      match r.level with
      | some k =>
        if source = 7 then l2
        else (l2.noteTrigger r.armId time (l2.pathAt k)).sendTrigger (l2.armLevels r.armId) r.armId time (fun l k => l.pathAt k)
      | none => l2

/-- A trigger that arrives: ignored and counted in `FILLING` or during a pause (R449, R451). -/
def Lane.acqTrigger (source : Nat) (time : Int) (l : Lane) : Lane × Bool :=
  match l.armed with
  | none => (l, false)
  | some r =>
    if l.acqRefuses then (l.inc Ta.acqTrigIgnored, false)
    else if r.state = 2 then (l.acqAccept source time, true)
    else (l, false)

/-- A condition met: in `READY` the earliest waits for its trigger; in `FILLING` it is ignored and counted. -/
def Lane.acqMet (i : Nat) (time : Int) (l : Lane) : Lane :=
  match l.armed with
  | none => l
  | some r =>
    if l.acqRefuses then l.inc Ta.acqTrigIgnored
    else if r.state = 2 then
      match l.acq.met with
      | some m => if time < m.1 then { l with acq := { l.acq with met := some (time, i) } } else l
      | none => { l with acq := { l.acq with met := some (time, i) } }
    else l

/-- ACQ_TRIGGER_CONDITION (R450): the condition that was met starts recording; its source numbers are 1..4. -/
def Lane.acqCondition (l : Lane) : Lane :=
  match l.acq.met with
  | none => l
  | some m => l.acqAccept (m.2 + 1) m.1

/-- Whether a condition's sense fits a step from `a` to `b` across its threshold (R450). -/
def senseMet (sense : Nat) (thr a b : Int) : Bool :=
  let up := decide (a ≤ thr ∧ thr < b)
  let down := decide (thr ≤ a ∧ b < thr)
  if sense = 0 then up else if sense = 1 then down else up || down

/-- The conditions on a channel's samples (R450), at one sample. -/
def Lane.acqCompare (c : Nat) (value time : Int) (l : Lane) : Lane :=
  let x := l.acqChan c
  let l1 := if !x.sampled then l else
    l.forN 4 (fun i l =>
      let w := l.cn (Ta.acqTrig i)
      if bitAt w 31 && decide (bitsAt w 30 28 = 3) && decide (w % 256 = c) && senseMet (bitsAt w 27 26) (l.c (Ta.acqThr i)) x.sample value
      then l.acqMet i time else l)
  l1.setAcqChan c { l1.acqChan c with sample := value, sampled := true }

/-- One sample of a channel: compared with the conditions, and stored where it changed by more than the deadband, or at
all for kinds 3 and 4 (R447). -/
def Lane.acqSample (c : Nat) (value : Int) (status : Nat) (tag : AcqTag) (l : Lane) : Lane :=
  let x := l.acqChan c
  let k := l.acqKind c
  let moved := if k ≤ 2 then decide (x.status ≠ status) || decide (l.c (Acq.acqDeadband c) < (absN (value - x.value) : Int))
    else decide (x.value ≠ value)
  let l1 := l.acqCompare c value tag.1
  if !x.known || moved then l1.acqStore c value status 0 tag else l1

/-- A hub link bit (R446). -/
def Lane.hubBit (l : Lane) (sel : Nat) : Bool :=
  let h := sel % 32
  let x := l.hub h
  match bitsAt sel 9 5 with
  | 0 => decide (l.p (Hub.linkState h) = lkReady)
  | 1 => decide (l.p (Hub.blind h) = 1)
  | 2 => decide (l.p (Hub.lockout h) = 1)
  | 3 => x.heldLap
  | 4 => x.crcBad
  | b => if 16 ≤ b then bitAt x.tripped (b - 16) else false

/-- The end of the 1 ms for which a team-armed record keeps its pre-trigger buffer running (R410, R449). -/
def Lane.acqRelease (l : Lane) : Lane :=
  match l.armed with
  | some r =>
    if r.level.isSome ∧ r.state = 3 ∧ r.trigLap + triggerGrace ≤ l.lap then l.setRecord (r.released (r.trig.getD 0) 0) else l
  | none => l

/-- Channels of loop nodes and link bits sampled in a lap (R446), and the lap's entry budget opened. -/
def Lane.acqLap (l : Lane) : Lane :=
  if l.armed.isNone then l
  else
    let l0 := ({ l with acq := { l.acq with lapCount := 0 } } : Lane).acqRelease
    l0.forL l0.usedChans (fun c l =>
      let s := l.acqSel c
      if l.acqKind c = 2 then
        (if (l.slot (s % 2048)).ran then l.acqSample c (l.nodeValue (s % 2048) (bitsAt s 14 12)) 0 (l.tagSlot (s % 2048)) else l)
      else if l.acqKind c = 3 then l.acqSample c (b01 (l.hubBit s)) 0 l.tagNow
      else l)

/-- Channels of ledger points sampled from a sealed image (R446): value and status as the image gives them, tagged with the end of the
image's epoch, and with its last lap. -/
def Lane.acqImage (read : Nat → Int × Nat) (endTime : Int) (l : Lane) : Lane :=
  if l.armed.isNone then l
  else l.forL l.usedChans (fun c l =>
    if l.acqKind c = 1 then let v := read (l.acqSel c); l.acqSample c v.1 v.2 (endTime, l.lap - l.lapIn - 1) else l)

/-- Channels of I/O lines (R446): every edge is stored. -/
def Lane.acqLines (line : Nat → Bool) (l : Lane) : Lane :=
  if l.armed.isNone then l
  else l.forL l.usedChans (fun c l =>
    if l.acqKind c = 4 then l.acqSample c (b01 (line (l.acqSel c))) 0 l.tagNow else l)

/-- ACQ_KEEPALIVE (R447): nothing stored for `acq_keepalive_ms`. -/
def Lane.acqKeepalive (c : Nat) (l : Lane) : Lane :=
  let x := l.acqChan c
  let ms := l.cn (Acq.acqKeepaliveMs c)
  if ms ≠ 0 ∧ l.acqKind c ≠ 0 ∧ x.known = true ∧ x.lap + msLaps ms ≤ l.lap then
    l.acqStore c (if x.sampled then x.sample else x.value) x.status 2 l.tagNow
  else l

/-- The present value of a channel at arming (R447); one that is not stored stays unknown, so that its next sample is. -/
def Lane.acqInitial (line : Nat → Bool) (read : Nat → Int × Nat) (c : Nat) (l : Lane) : Lane :=
  let s := l.acqSel c
  let v := match l.acqKind c with
    | 1 => read s
    | 2 => (l.nodeValue (s % 2048) (bitsAt s 14 12), 0)
    | 3 => (b01 (l.hubBit s), 0)
    | _ => (b01 (line s), 0)
  (l.setAcqChan c { value := v.1, status := v.2, lap := l.lap, sample := v.1, sampled := true }).acqStore c v.1 v.2 1 l.tagNow

/-- The next record number: the lowest not held. -/
def Lane.nextRecord (l : Lane) : Nat := ((List.range 256).find? (fun n => !(l.acq.records.any (fun r => r.no == n)))).getD 0

/-- A record opened (R449). -/
def Lane.acqOpen (line : Nat → Bool) (read : Nat → Int × Nat) (armId preMs postMs mib : Nat) (level : Option Nat) (l : Lane) : Lane :=
  let r : AcqRecord := { no := l.nextRecord, state := 1, armId := armId, preMs := preMs, postMs := postMs, mib := mib
                         level := level, armLap := l.lap }
  let l1 := { l with acq := { l.acq with records := l.acq.records ++ [r], lapCount := 0, met := none } }
  if l.inReset 4 0 then l else (l1.forL l1.usedChans (Lane.acqInitial line read)).showAcq

/-- ACQ_PRE_ELAPSED (R449). -/
def Lane.acqPre (l : Lane) : Lane :=
  match l.armed with
  | some r => if r.state = 1 ∧ r.armLap + msLaps r.preMs ≤ l.lap then (l.setRecord { r with state := 2 }).showAcq else l
  | none => l

/-- ACQ_POST_ELAPSED (R449): `post_ms` after the trigger time. -/
def Lane.acqPost (l : Lane) : Lane :=
  match l.armed with
  | some r =>
    if r.state = 3 ∧ (r.trig.getD 0) + (r.postMs : Int) * 1000000 ≤ l.pacer.teamTime then l.endRecord 4 else l
  | none => l

/-- ACQ_MEMORY_FULL (R449). -/
def Lane.acqFull (l : Lane) : Lane :=
  match l.armed with
  | some r => if r.state = 3 ∧ r.capacity ≤ r.entries.length then l.endRecord 5 else l
  | none => l

/-- The pause of the warm and hot bands (R451): marked at both ends. -/
def Lane.acqPause (pause : Bool) (l : Lane) : Lane :=
  if l.acq.paused = pause then l
  else { l.acqMarker (if pause then 8 else 16) l.pacer.teamTime with
    acq := { (l.acqMarker (if pause then 8 else 16) l.pacer.teamTime).acq with paused := pause } }

/-- Whether condition `i` is one of input `k` = 0, 1 whose sense fits the edge (R450). -/
def Lane.edgeMeets (l : Lane) (i k : Nat) (rising : Bool) : Bool :=
  let w := l.cn (Ta.acqTrig i)
  bitAt w 31 && decide (bitsAt w 30 28 = k + 1) && (decide (bitsAt w 27 26 = 2) || decide (bitsAt w 27 26 = if rising then 0 else 1))

/-- TRIG_IN_EDGE (R450): an edge of at least 100 ns on input `k` = 0, 1: conditions, and trace triggers 3 and 4. -/
def Lane.trigIn (k : Nat) (rising : Bool) (l : Lane) : Lane :=
  let l1 := l.forN 4 (fun i l => if l.edgeMeets i k rising then l.acqMet i l.pacer.teamTime else l)
  l1.traceTrigger (3 + k)

/-- A takeover: the new holder's own record goes on with a marker (R451). -/
def Lane.acqTakeover (l : Lane) : Lane := l.acqMarker 64 l.pacer.teamTime

/-- A lane that resynchronises loses its records (R451). -/
def Lane.acqLost (l : Lane) : Lane := ({ l with acq := { l.acq with records := [], met := none, chans := [] } } : Lane).showAcq

/-- Entry to `ASLEEP`, or the acquisition's own reset: the armed record is closed (R451). -/
def Lane.acqClose (l : Lane) : Lane := l.endRecord 6

/-! ### Team arms and triggers (R410, R412) -/

/-- TEAM_ARM_APPLY (R410): at the arm's team epoch every member arms its record; a member that cannot hold one more record
records nothing. A controller that the arm reaches at several levels holds one record of it. -/
def Lane.teamArmApply (line : Nat → Bool) (read : Nat → Int × Nat) (k : Nat) (l : Lane) : Lane :=
  let v := l.lvl k
  match v.arm with
  | none => l
  | some a =>
    let held := match l.armed with | some r => r.level.isSome && decide (r.armId = a.id) | none => false
    if a.armed || decide (l.teamEpoch k < a.epoch) || decide (l.memberState k (lvlMember l.cfg k) ≠ 2) then l
    else if held then l.setLvl k { v with arm := some { a with armed := true } }
    else if l.armed.isSome || decide (16 ≤ l.acq.records.length) || decide (l.pn Ta.acqFreeMib < a.mib) then l
    else (l.setLvl k { v with arm := some { a with armed := true } }).acqOpen line read a.id a.preMs a.postMs a.mib (some k)

/-- The team-armed record of `id` that records from its trigger on. -/
def Lane.teamRecording (id : Nat) (l : Lane) : Option AcqRecord :=
  match l.armed with
  | some r => if r.level.isSome ∧ r.armId = id ∧ r.state = 3 then some r else none
  | none => none

/-- A record triggered at `old` taken back to an earlier trigger of the team: its marker moves with it (R410, R450). -/
def AcqRecord.retrigger (tag : Int) (r : AcqRecord) : AcqRecord :=
  ({ r with trig := some tag, trigSource := 7, entries := r.entries.filter (fun e => !(e.channel == 0xFFFF && e.flags == 4)) } : AcqRecord).released tag 1

/-- Whether the armed record is the team-armed record of `id` (R449). -/
def Lane.teamRecord (id : Nat) (l : Lane) : Bool := match l.armed with | some r => r.level.isSome && decide (r.armId = id) | none => false

/-- A trigger passed on from level `k` to the other levels that hold its arm (DESIGN CHOICE, log entry 108). -/
def Lane.relayTrigger (k id path : Nat) (tag : Int) (l : Lane) : Lane :=
  l.sendTrigger ((l.armLevels id).filter (fun j => j != k)) id tag (fun _ _ => path)

/-- A kind 8 frame (R410): one that finds the record in `FILLING` or paused is ignored and counted (R449, R451); the earliest time tag of the
arm in force decides, at equal tags the lower path. An earlier one replaces a
record's own trigger for 1 ms; one that comes after that is neither taken nor counted (DESIGN CHOICE, log entry 108). -/
def Lane.teamTrigger (k id path : Nat) (tag : Int) (l : Lane) : Lane :=
  match (l.lvl k).arm with
  | none => l
  | some a =>
    if a.id ≠ id ∨ a.armed = false then l
    else if l.teamRecord id && l.acqRefuses then (l.inc Ta.acqTrigIgnored).relayTrigger k id path tag
    else
      match a.best with
      | none =>
        let l1 := l.noteTrigger id tag path
        (if l1.teamRecord id then l1.acqAccept 7 tag else l1).relayTrigger k id path tag
      | some b =>
        if tag < b.1 ∨ (tag = b.1 ∧ path < b.2) then
          match l.teamRecording id with
          | some r =>
            if r.trigLap + triggerGrace < l.lap then l
            else (((l.noteTrigger id tag path).setRecord (r.retrigger tag)).acqMarker 4 tag).relayTrigger k id path tag
          | none => (l.noteTrigger id tag path).relayTrigger k id path tag
        else l.inc Team.teamTrigLate

/-- What an accepted frame does, kind 8 included. -/
def Lane.actOnFrame (k : Nat) (f : TeamFrame) (l : Lane) : Lane :=
  match f.payload with
  | .trigger id path tag => l.teamTrigger k id path tag
  | _ => l.actOn k f

/-- `TEAM_TRIGGER` (R412): answered once kind 8 is sent. -/
def Lane.cmdTeamTrigger (fitted : Bool) (r : Request) (l : Lane) : Lane × Reply :=
  if !fitted then (l, Reply.just st_UNIT_ABSENT)
  else if r.len ≠ 8 then (l, Reply.just st_BAD_LENGTH)
  else
    let k := r.at_ 0 1
    if 7 < k ∨ lvlUsed l.cfg k = false then (l, Reply.just st_TEAM_NOT_FORMED)
    else
      match (l.lvl k).arm with
      | some a =>
        if a.id = r.at_ 4 4 ∧ a.armed = true then
          let q := l.teamKey k
          if !q.2 then (q.1, Reply.just st_UNREACHABLE)
          else ((l.sendTrigger [k] a.id l.pacer.teamTime (fun l k => l.pathAt k)).teamTrigger k a.id (l.pathAt k) l.pacer.teamTime, Reply.ok [])
        else (l, Reply.just st_NOT_ARMED)
      | none => (l, Reply.just st_NOT_ARMED)

/-! ### Commands (R452) -/

/-- `ACQ_ARM`. Two points are the model's choice: on a variant without a relay team a team arm is `NOT_ANCHOR`, as R410 says of a controller
that is no anchor (log entry 96), and an arm while the acquisition engine is in reset (R93 code 4) is `BUSY` (log entry 94). -/
def Lane.cmdAcqArm (line : Nat → Bool) (read : Nat → Int × Nat) (r : Request) (l : Lane) : Lane × Reply :=
  let pre := r.at_ 0 4
  let post := r.at_ 4 4
  let mib := r.at_ 8 2
  let scope := r.at_ 10 1
  let k := r.at_ 11 1
  let e := r.at_ 12 8
  if r.len ≠ 20 then (l, Reply.just st_BAD_LENGTH)
  else if 60000 < pre ∨ post = 0 ∨ 3600000 < post ∨ mib < 16 ∨ 4096 < mib ∨ 1 < scope then (l, Reply.just st_RANGE)
  else if scope = 1 ∧ (7 < k ∨ lvlUsed l.cfg k = false ∨ lvlMember l.cfg k ≠ 0) then (l, Reply.just st_ACQ_NOT_ANCHOR)
  else if l.inReset 4 0 then (l, Reply.just st_BUSY)
  else if scope = 0 ∧ l.acq.paused = true then (l, Reply.just st_ACQ_PAUSED)
  else if l.armed.isSome then (l, Reply.just st_ACQ_ARMED)
  else if 16 ≤ l.acq.records.length ∨ l.pn Ta.acqFreeMib < mib then (l, Reply.just st_ACQ_MEMORY)
  else
    let id := l.acq.nextArm
    let l1 := { l with acq := { l.acq with nextArm := (id + 1) % 2 ^ 32 } }
    let rep := Reply.ok [(1, (l.nextRecord : Int)), (4, (id : Int))]
    if scope = 0 then (l1.acqOpen line read id pre post mib none, rep)
    else
      let least := l.teamEpoch k + 4
      let at_ := if e = 0 then least else (e : Int)
      if at_ < least then (l, Reply.just st_EPOCH_RANGE)
      else
        let a : TeamArm := { id := id, epoch := at_, preMs := pre, postMs := post, mib := mib }
        (((l1.setLvl k { l1.lvl k with arm := some a }).teamSend k 7 1 toAll a.body).passArm k a, rep)

/-- `ACQ_DISARM`. -/
def Lane.cmdAcqDisarm (r : Request) (l : Lane) : Lane × Reply :=
  if r.len ≠ 0 then (l, Reply.just st_BAD_LENGTH)
  else if l.armed.isNone then (l, Reply.just st_ACQ_NOT_ARMED)
  else (l.acqClose, Reply.ok [])

/-- `ACQ_TRIGGER`: the trigger time, or 0 where it is ignored. -/
def Lane.cmdAcqTrigger (r : Request) (l : Lane) : Lane × Reply :=
  if r.len ≠ 0 then (l, Reply.just st_BAD_LENGTH)
  else if l.armed.isNone then (l, Reply.just st_ACQ_NOT_ARMED)
  else
    let x := l.acqTrigger 5 l.pacer.teamTime
    (x.1, Reply.ok [(8, if x.2 then l.pacer.teamTime else 0)])

/-- `ACQ_LIST`. -/
def Lane.cmdAcqList (r : Request) (l : Lane) : Lane × Reply :=
  if r.len ≠ 0 then (l, Reply.just st_BAD_LENGTH)
  else
    let recs := l.acq.records.map (fun x => ([(0, (x.no : Int)), (0, (x.state : Int)), (0, (x.armId : Int)), (0, x.trig.getD 0),
      (0, (x.trigSource : Int)), (0, (x.entries.length : Int)), (0, (x.flags : Int))] : List Field))
    (l, { status := st_OK, parts := (chunks 7 recs).map List.flatten })

/-- An entry put behind those of its time tag and before later ones (R452). -/
def AcqEntry.insert (e : AcqEntry) : List AcqEntry → List AcqEntry
  | [] => [e]
  | x :: xs => if e.time < x.time then e :: x :: xs else x :: AcqEntry.insert e xs

/-- A record's entries in the order of their time tags, of equal ones in the order of storing (R452). -/
def AcqRecord.inOrder (r : AcqRecord) : List AcqEntry := r.entries.reverse.foldl (fun xs e => e.insert xs) []

/-- `ACQ_READ`: entries in time order, 9 per part. -/
def Lane.cmdAcqRead (r : Request) (l : Lane) : Lane × Reply :=
  if r.len ≠ 16 then (l, Reply.just st_BAD_LENGTH)
  else
    match l.acq.records.find? (fun x => x.no == r.at_ 0 1) with
    | none => (l, Reply.just st_ACQ_NO_RECORD)
    | some x =>
      let c := r.at_ 2 2
      let es := x.inOrder.filter (fun e => c == 0xFFFF || e.channel == c)
      let f := ((es.drop (r.at_ 4 8)).take (r.at_ 12 4)).map (fun e =>
        ([(8, e.time), (8, e.value), (2, (e.channel : Int)), (1, (e.status : Int)), (1, (e.flags : Int)), (4, (e.lap : Int))] : List Field))
      (l, { status := st_OK, parts := (chunks 9 f).map List.flatten })

/-- `ACQ_DELETE`. -/
def Lane.cmdAcqDelete (r : Request) (l : Lane) : Lane × Reply :=
  if r.len ≠ 1 then (l, Reply.just st_BAD_LENGTH)
  else if l.acq.records.any (fun x => x.no == r.at_ 0 1) then
    (({ l with acq := { l.acq with records := l.acq.records.filter (fun x => x.no != r.at_ 0 1) } }).showAcq, Reply.ok [])
  else (l, Reply.just st_ACQ_NO_RECORD)

end Sys2Proof.Machine
end

