-- ==== Sys2Proof/Machine/Thermal.lean ====
section
/-!
DEFINITION. Thermal and memory health of one lane (R478 to R490): sensors, bands, rails and fans, the critical shutdown,
thermal records, and the DRAM codes. Readings are in units of 0.0625 °C.
-/

namespace Sys2Proof.Machine

/-- The thermal state updated. -/
def Lane.therm! (l : Lane) (f : ThermSt → ThermSt) : Lane := { l with therm := f l.therm }

/-- The median of a list of readings, the lower of the two middle ones. -/
def medianOf (xs : List Int) : Int := medianLow xs

/-! ### Sensors (R480) -/

/-- Whether sensor `i` fails its plausibility check in a round. -/
def sensorBad (xs : List (Option Int)) (i : Nat) : Bool :=
  match xs.getD i none with
  | none => true
  | some v =>
    let others := ((List.range 8).filter (fun j => decide (j ≠ i))).filterMap (fun j => xs.getD j none)
    decide (v < -45 * 16) || decide (130 * 16 < v)
      || (decide (i < 8) && !others.isEmpty && decide (30 * 16 < (absN (v - medianOf others) : Int)))

/-- One sensor's runs and mark after a round: 3 failing rounds mark it failed, 20 plausible ones clear the mark. -/
def ThermSt.sensor (bad : Bool) (i : Nat) (t : ThermSt) : ThermSt × Bool :=
  let f := if bad then UMap.get (fun _ => 0) t.fail i + 1 else 0
  let g := if bad then 0 else UMap.get (fun _ => 0) t.good i + 1
  let was := t.failed.contains i
  let now := (was && decide (g < 20)) || decide (3 ≤ f)
  ({ t with
      fail := UMap.put (fun _ => 0) t.fail i f, good := UMap.put (fun _ => 0) t.good i g
      failed := if now then (if was then t.failed else t.failed ++ [i]) else t.failed.filter (fun j => j != i) },
    now && !was)

/-- A reading in m°C. -/
def milliC (v : Int) : Int := v * 125 / 2

/-- A sensor shown: a failed one reads 125 °C with status `invalid` (code 2 of R41). -/
def Lane.showSensor (failed : Bool) (i : Nat) (v : Option Int) (l : Lane) : Lane :=
  if failed then l.setps (Th.tSensor i) 125000 2
  else match v with
    | some x => l.setps (Th.tSensor i) (milliC x) 0
    | none => l

/-! ### Bands (R481, R482) -/

/-- The lower limit of a band, in units of 0.0625 °C; the critical band lies above 100 °C. -/
def bandLow (b : Nat) : Int := if b = 1 then 70 * 16 else if b = 2 then 85 * 16 else if b = 3 then 100 * 16 + 1 else -100000

/-- Consecutive rounds, for each band's lower limit, in which `ok` held of it. -/
def roundRuns (ok : Nat → Bool) (m : UMap Nat) : UMap Nat :=
  ([1, 2, 3] : List Nat).foldl (fun m b => UMap.put (fun _ => 0) m b (if ok b then UMap.get (fun _ => 0) m b + 1 else 0)) m

/-- The band after a round: a higher one after 2 rounds at or above its own limit, a lower one after 20 rounds at least 3 K below the
limit of the band above it. -/
def ThermSt.band (band : Nat) (t : Int) (s : ThermSt) : ThermSt × Nat :=
  let ups := roundRuns (fun b => decide (bandLow b ≤ t)) s.upRun
  let downs := roundRuns (fun b => decide (t ≤ bandLow b - 3 * 16)) s.downRun
  let up := ([1, 2, 3] : List Nat).foldl (fun a b => if 2 ≤ UMap.get (fun _ => 0) ups b then max a b else a) band
  let down := ([3, 2, 1] : List Nat).foldl (fun a b => if a = b ∧ 20 ≤ UMap.get (fun _ => 0) downs b then b - 1 else a) band
  ({ s with upRun := ups, downRun := downs }, if band < up then up else down)

/-- The processor clocks' divisor of a band. -/
def bandDiv (b : Nat) : Nat := if b = 0 then 1 else if b = 1 then 2 else 4

/-! ### Thermal records (R485) -/

/-- The bytes of a record. -/
def Lane.thermBytes (l : Lane) (kind before : Nat) (tMax : Int) (xs : List (Option Int)) (pwrMv : Nat) (fans : List Nat) : List Nat :=
  leBytes 8 (l.pacer.teamTime % 2 ^ 64).toNat ++ leBytes 8 (if l.power.fastOn then l.epoch else l.pacer.aoEpoch) ++ [kind, before, l.id.num, 0] ++ leBytes 2 (wrapU 16 tMax)
    ++ (List.range 14).flatMap (fun i => leBytes 2 (wrapU 16 (if l.therm.failed.contains i then 2000 else (xs.getD i none).getD 2000)))
    ++ leBytes 2 (l.therm.failed.foldl (fun a i => a + 2 ^ i) 0) ++ leBytes 2 pwrMv
    ++ (List.range 4).flatMap (fun i => leBytes 2 (fans.getD i 0)) ++ [l.pn Th.clkDiv, 0]

/-- A record written to the points. -/
def Lane.writeRecord (bytes : List Nat) (l : Lane) : Lane :=
  l.forN 8 (fun i l => l.setps (Th.thermalRecord i) (fieldAt bytes (8 * i) 8) 0)

/-! ### Rails and fans (R479) -/

/-- The fan speed commanded for a temperature, per mille between minimum (0) and full speed (1000). -/
def fanLevel (t : Int) (fault : Bool) : Int :=
  if fault then 1000 else clampI 0 1000 ((t - 50 * 16) * 1000 / (30 * 16))

/-- Rounds in 2 s. -/
def fanRounds : Nat := 40

/-- Rail and fan bookkeeping of one round. -/
def Lane.railsAndFans (h : Housekeeping) (l : Lane) : Lane :=
  let t := l.therm
  let rails := (List.range 32).foldl (fun m i =>
    UMap.put (fun _ => 0) m i (if h.badRails.contains i then UMap.get (fun _ => 0) m i + 1 else 0)) t.rails
  let fans := (List.range 4).foldl (fun m i =>
    UMap.put (fun _ => 0) m i (if 2 * h.fanRpm.getD i 0 < h.fanCmd.getD i 0 then UMap.get (fun _ => 0) m i + 1 else 0)) t.fans
  let bits := (List.range 32).foldl (fun a i => if 3 ≤ UMap.get (fun _ => 0) rails i then a + 2 ^ i else a) 0
  let l1 := (l.therm! (fun t => { t with rails := rails, fans := fans })).setp Th.railFaults (bits : Nat)
  (l1.forN 4 (fun i l => l.setp (Th.fanRpm i) (h.fanRpm.getD i 0 : Nat))).therm! (fun t =>
    { t with fanFaults := t.fanFaults.filter (fun i => decide (0 < UMap.get (fun _ => 0) t.fans i)) })

/-- FAN_FAULT (R479): a fan below 50 % of its commanded speed for 2 s; the others run at full speed. -/
def Lane.fanFault (i : Nat) (l : Lane) : Lane :=
  if fanRounds ≤ UMap.get (fun _ => 0) l.therm.fans i ∧ l.therm.fanFaults.contains i = false then
    l.therm! (fun t => { t with fanFaults := t.fanFaults ++ [i], fanLevel := 1000 })
  else l

/-! ### Corrections (R489) -/

/-- Corrections of the last rolling hour. -/
def hourSum (epoch : Nat) (xs : List (Nat × Nat)) : Nat :=
  xs.foldl (fun a e => if epoch < e.1 + 3600000 then a + e.2 else a) 0

/-- `MEM_CORRECTED` and event 87 (R489): set when a rate exceeds its threshold or a device is marked failed (`fails`), each with the
event of its own, and cleared after a full hour below both with no device marked. -/
def Lane.memCheck (fails : Bool) (l : Lane) : Lane :=
  let keep := fun (xs : List (Nat × Nat)) => xs.filter (fun e => decide (l.epoch < e.1 + 3600000))
  let l1 := l.therm! (fun t => { t with inner := keep t.inner, outer := keep t.outer })
  let past := (if l.cn Th.ceThrInner < hourSum l.epoch l.therm.inner then [1] else [])
    ++ (if l.cn Th.ceThrOuter < hourSum l.epoch l.therm.outer then [2] else [])
  let new := past.filter (fun k => !l.therm.exceeded.contains k) ++ (if fails then [3] else [])
  let l2 := l1.therm! (fun t => { t with exceeded := past })
  if past.isEmpty && decide (l.pn Th.devFailed = 0) then
    l2.therm! (fun t =>
      match t.overSince, t.clearSince with
      | some _, some c => if c + 3600000 ≤ l.epoch then { t with overSince := none, clearSince := none } else t
      | some _, none => { t with clearSince := some l.epoch }
      | none, _ => t)
  else
    (l2.therm! (fun t => { t with overSince := some (t.overSince.getD l.epoch), clearSince := none })).forL new (fun k l =>
      l.fire 87 l.id.num [(k : Int)])

/-! ### The housekeeping round (R479 to R483) -/

/-- The plausibility of every sensor, and the records of sensors newly marked failed. -/
def Lane.roundSensors (h : Housekeeping) (l : Lane) : Lane × Bool :=
  (List.range 14).foldl (fun (a : Lane × Bool) i =>
    let r := a.1.therm.sensor (sensorBad h.sensors i) i
    let l1 := a.1.therm! (fun _ => r.1)
    (l1.showSensor (r.1.failed.contains i) i (h.sensors.getD i none), a.2 || r.2)) (l, false)

/-- `t_max` of a round: the highest reading, a failed sensor counting as 125 °C. A reading not completed counts once its
sensor is marked. -/
def Lane.roundMax (h : Housekeeping) (l : Lane) : Int :=
  (List.range 14).foldl (fun a i =>
    if l.therm.failed.contains i then max a 2000
    else match h.sensors.getD i none with | some v => max a v | none => a) (-10000)

/-- The entry to the critical band (R483): counted, recorded, and the lane shuts down. -/
def Lane.enterCritical (l : Lane) : Lane :=
  (l.inc Th.criticalShutdowns).therm! (fun t => { t with
    shut := true, coolS := 0, fanLevel := 1000, shutdowns := l.epoch :: t.shutdowns.filter (fun e => decide (l.epoch < e + 86400000)) })

/-- HOUSEKEEPING_ROUND (R479): the lane's own readings, band, rails, fans and corrections. A lane in the critical band is
shut down by Lanes.lean. -/
def Lane.housekeeping (h : Housekeeping) (l : Lane) : Lane :=
  let r := l.roundSensors h
  let l1 := r.1
  let tm := l1.roundMax h
  let before := l1.pn Th.tBand
  let b := l1.therm.band before tm
  let l2 := ((((l1.therm! (fun _ => { b.1 with rounds := b.1.rounds + 1 })).setp Th.tMax (milliC tm)).setp Th.tFailed
    (l1.therm.failed.foldl (fun a i => a + 2 ^ i) 0 : Nat)).setp Pw.pwrInMv h.pwrMv).setp Pw.holdupMs h.holdupMs
  let l3 := l2.railsAndFans h
  let l4 := if h.innerCe = 0 then l3
    else (l3.addp Th.dramInnerCe h.innerCe).therm! (fun t => { t with inner := (l3.epoch, h.innerCe) :: t.inner })
  let l5 := (l4.memCheck false).therm! (fun t => { t with fanLevel := fanLevel tm (!t.fanFaults.isEmpty) })
  let l6 := if r.2 then l5.writeRecord (l5.thermBytes 3 before tm h.sensors h.pwrMv h.fanRpm) else l5
  if b.2 = before then l6
  else
    let l7 := ((l6.setp Th.tBand b.2).inc Th.bandChanges).fire 86 l.id.num [(b.2 : Int), milliC tm]
    let l8 := if before < 2 ∧ b.2 = 2 then l7.writeRecord (l7.thermBytes 1 before tm h.sensors h.pwrMv h.fanRpm)
      else if b.2 = 3 then l7.writeRecord (l7.thermBytes 2 before tm h.sensors h.pwrMv h.fanRpm) else l7
    let l9 := (l8.setp Th.opticsSet (min b.2 2)).therm! (fun t => { t with divNext := bandDiv b.2, refreshHalved := decide (b.2 = 2) })
    let l10 := l9.acqPause (decide (b.2 = 1 ∨ b.2 = 2))
    if b.2 = 3 then l10.enterCritical else l10

/-- The divisor in force from an epoch boundary on (R482). -/
def Lane.clockDivisor (l : Lane) : Lane := l.setp Th.clkDiv l.therm.divNext

/-- ASLEEP_THERMAL_CHECK (R484): sensors 8 to 13 once per second in the always-on domain. After a critical shutdown the
seconds below 70 °C count; in `ASLEEP` a reading above 100 °C writes a record and drives the fans. -/
def Lane.asleepThermal (xs : List Int) (l : Lane) : Lane :=
  let cool := xs.all (fun v => decide (v < 70 * 16))
  let hot := xs.any (fun v => decide (100 * 16 < v))
  let tm := xs.foldl max (-10000)
  if l.therm.shut then l.therm! (fun t => { t with coolS := if cool then t.coolS + 1 else 0 })
  else if l.power.power ≠ 4 then l
  else if hot then
    let pad := List.replicate 8 (none : Option Int) ++ xs.map some
    (l.writeRecord (l.thermBytes 2 (l.pn Th.tBand) tm pad (l.pn Pw.pwrInMv) ((List.range 4).map (fun i => l.pn (Th.fanRpm i))))).therm! (fun t => { t with fanLevel := 1000 })
  else l.therm! (fun t => { t with fanLevel := fanLevel tm (!t.fanFaults.isEmpty) })

/-- Whether a critical shutdown may be followed by a start (R484): 300 s below 70 °C, and not the third shutdown within 24 h, after which
the lane is parked. -/
def Lane.mayRestart (l : Lane) : Bool := l.therm.shut && decide (300 ≤ l.therm.coolS) && !l.link.parked

/-! ### Memory (R486 to R488) -/

/-- A correction by the outer code on device `d` (R487, R488): counted, and the device marked failed beyond 1,024 distinct
lines. -/
def Lane.outerCorrect (d line : Nat) (l : Lane) : Lane :=
  let old := UMap.get (fun _ => []) l.therm.devLines d
  let lines := if old.contains line then old else line :: old
  let l1 := ((l.inc Th.dramOuterCe).inc (Th.devCe d)).therm! (fun t => { t with
    devLines := UMap.put (fun _ => []) t.devLines d lines, outer := (l.epoch, 1) :: t.outer })
  let fails := decide (1024 < lines.length) && !bitAt (l1.pn Th.devFailed) d
  let l2 := if fails then l1.setp Th.devFailed (setBit (l1.pn Th.devFailed) d true : Nat) else l1
  l2.memCheck fails

/-- An uncorrectable line (R487): counted and kept; the give-up follows in Lanes.lean. -/
def Lane.uncorrectable (line : Nat) (l : Lane) : Lane := (l.inc Th.dramUe).setp Th.ueLastLine line

/-- Lines of 64 bytes in the lane's DRAM: 8 data devices of 16 Gbit (R486). -/
def dramLines : Nat := 8 * 2 ^ 34 / 512

/-- SCRUB (R488): the next line of the pass; it pauses in `ASLEEP`. -/
def Lane.scrubNext (l : Lane) : Lane :=
  if l.power.power = 4 then l
  else
    let n := l.therm.scrubLine + 1
    let l1 := if dramLines ≤ n then (l.inc Th.scrubPasses).therm! (fun t => { t with scrubLine := 0 })
      else l.therm! (fun t => { t with scrubLine := n })
    l1.setp Th.scrubProgress (l1.therm.scrubLine * 1000 / dramLines : Nat)

end Sys2Proof.Machine
end

