-- ==== Sys2Proof/Machine/Lanes.lean ====
section
/-!
DEFINITION. Lanes, baton and failover (R352 to R373): the arbiter's evaluation, giving up, silent failure, the cut-over,
resynchronisation, eligibility, comparison, health flags, images and the cartridge.
-/

namespace Sys2Proof.Machine

/-! ### The Pacer's state (R95, R100, R101, R109) -/

/-- The Pacer block updated. -/
def Lane.pac (l : Lane) (f : PacerSt → PacerSt) : Lane := { l with pacer := f l.pacer }

/-- State codes of R113. -/
def pcSearch : Int := 0
def pcFree : Int := 1
def pcTrack : Int := 2
def pcAcquire : Int := 3
def pcHoldover : Int := 4
def pcReturn : Int := 5
def pcRefHold : Int := 6

/-- The Pacer's state (R100). -/
def Lane.pcState (l : Lane) : Int := l.p Pc.pacerState

/-- The Pacer passes to a state; each change fires event 85 (R100). -/
def Lane.pacerTo (st : Int) (l : Lane) : Lane :=
  if l.pcState = st then l
  else ((l.setp Pc.pacerState st).pac (fun x => { x with enteredLap := l.lap })).fire 85 0 [st]

/-- Whether the source whose frequency the configuration selects is qualified (R95). -/
def Lane.sourceOk (l : Lane) : Bool :=
  let s := l.c Pc.pacerSource
  if s = 1 then l.pacer.refinOk
  else if s = 2 then l.pacer.synciOk
  else if s = 3 then l.pacer.synciOk || l.pacer.refinOk
  else false

/-- The Pacer's state brought into accord with the references of a lane that steers by them (R101): a source that is lost or has
come back, SYNCI lost beside a qualified REFIN, SYNCI back in `REF_HOLD`. -/
def Lane.pacerCheck (l : Lane) : Lane :=
  let s := l.c Pc.pacerSource
  let st := l.pcState
  let steered := decide (st = pcTrack) || decide (st = pcAcquire) || decide (st = pcRefHold)
  let waits := decide (st = pcHoldover) || decide (st = pcReturn) || decide (st = pcFree)
  if s = 0 then l
  else if steered && !l.sourceOk then l.pacerTo pcHoldover
  else if waits && l.sourceOk then l.pacerTo pcAcquire
  else if st = pcTrack ∧ s = 3 ∧ l.pacer.synciOk = false then l.pacerTo pcAcquire
  else if st = pcRefHold ∧ l.pacer.synciOk = true then l.pacerTo pcAcquire
  else l

/-- The PTP state shown; a change fires event 124 (R90). -/
def Lane.ptpTo (st : Int) (l : Lane) : Lane := if l.p Pc.ptpState = st then l else (l.setp Pc.ptpState st).fire 124 0 [st]

/-- Team time, the state of the boundary clock and what is still to be made of a correction, taken from the lane whose laps this one joins
(R109, R110, R112). -/
def Lane.takeTime (l h : Lane) : Lane :=
  (l.pac (fun x => { x with
    teamTime := h.pacer.teamTime, todPending := h.pacer.todPending, todSlew := h.pacer.todSlew
    best := h.pacer.best, peerDelays := h.pacer.peerDelays })).ptpTo (h.p Pc.ptpState)

/-- A lane that steers to the holder's marker shows the holder's Pacer state and offsets (R109). -/
def Lane.followPacer (l h : Lane) : Lane :=
  if h.pcState = pcSearch then l
  else
    let l1 := l.pacerTo h.pcState
    (((l1.setp Pc.freqOffset (h.p Pc.freqOffset)).setp Pc.phaseError (h.p Pc.phaseError))).pac (fun x => { x with
      enteredLap := h.pacer.enteredLap })

/-- So many milliseconds of a powered cartridge (R367). -/
def Lane.powerFor (ms : Nat) (l : Lane) : Lane :=
  if l.power.aoOn then
    let n := l.link.powered + ms
    ({ l with link := { l.link with powered := n } } : Lane).setp Hp.opHours (n / 3600000 : Nat)
  else l

/-- One of them. -/
def Lane.powerMs (l : Lane) : Lane := l.powerFor 1

/-- The references of a lane whose fast domain is off: to be qualified anew (R96, R97, R108). -/
def Lane.refsOff (l : Lane) : Lane := l.pac (fun x => { x with refinOk := false, synciOk := false })

/-! ### Shared steps -/

/-- The link block updated. -/
def Lane.lnk (l : Lane) (f : LinkSt → LinkSt) : Lane := { l with link := f l.link }

/-- Event `n` fires in every lane that computes (R89). -/
def State.fireBoth (n unit : Nat) (detail : List Int) (s : State) : State :=
  s.eachLane Lane.active (fun _ _ l => l.fire n unit detail)

/-- The event notifications of a lane's rings: source, repeats, lap of the first firing, unit and latest detail. -/
def Lane.eventNotes (l : Lane) : List (Nat × Nat × Nat × Nat × List Int) :=
  l.host.rings.flatMap (fun g => (g.2.entries ++ g.2.waiting).filterMap (fun e =>
    match e.body with
    | .event n rep _ lp u d => some (n, rep, lp, u, d)
    | _ => none))

/-- The events that lane `i` has raised since the state `old`, raised in the other lane as well where that computes (R89). -/
def State.alsoFire (s : State) (i : LaneId) (old : State) : State :=
  let before := (old.lane i).eventNotes
  let new := (s.lane i).eventNotes.filter (fun e => !before.contains e)
  s.onLane i.other Lane.active (fun _ _ l => l.forL new (fun e l => l.fire e.1 e.2.2.2.1 e.2.2.2.2))

/-- The same for a fact that the other lane's own link brings it too: what is raised there counts for its own finding (R89). -/
def State.alsoTell (s : State) (i : LaneId) (old : State) : State :=
  let before := (old.lane i).eventNotes
  let new := (s.lane i).eventNotes.filter (fun e => !before.contains e)
  (s.alsoFire i old).onLane i.other Lane.active (fun _ _ l => { l with host := { l.host with
    mirrored := new.map (fun e => (e.1, e.2.2.2.1, e.2.2.2.2, l.lap)) ++ l.host.mirrored.filter (fun e => decide (l.lap ≤ e.2.2.2 + 1)) } })

/-- The lap the arbiter counts (R353): laps of the controller, whatever number each lane gives its own. -/
def State.lapNow (s : State) : Nat := s.arbiter.lap

/-- The lane that holds the baton, where it computes. -/
def State.holder (s : State) : Option LaneId :=
  match s.arbiter.grant with
  | some i => if (s.lane i).active then some i else none
  | none => none

/-- The lane that drives the pulse outputs and the legal display: the baton holder, and in `ASLEEP` and during a wake the keeper
(R460, R474). -/
def State.keeperLane (s : State) : Option LaneId :=
  let keeps := fun (l : Lane) => l.alwaysOn && l.power.keeper && (decide (l.power.power = 4) || decide (l.power.power = 5))
  match s.holder with
  | some h => some h
  | none => if keeps s.a then some .A else if keeps s.b then some .B else none

/-- What the controller's legal display shows: its lane's item (R315); the standby's drive is withheld (R23). -/
def State.legalDisplay (s : State) : Option Shown :=
  s.keeperLane.map (fun h => (s.lane h).displayItem s.chassis.variant (fun n => if n = 1 then s.a else if n = 2 then s.b else s.lane h))

/-- Whether a lane steers by its own references: the holder does, and a lane with no holder beside it (R109). -/
def State.steers (s : State) (i : LaneId) : Bool :=
  match s.holder with
  | some h => decide (h = i) || !(s.lane i).lapping
  | none => true

/-- The lane beside the holder follows the holder's Pacer (R109). -/
def State.pacerFollow (s : State) : State :=
  match s.holder with
  | some h => s.onLane h.other Lane.lapping (fun s _ l => l.followPacer (s.lane h))
  | none => s

/-- The lane of a standby, or of a lane that resynchronises beside the holder. -/
def LaneState.inStep : LaneState → Bool
  | .holder => true
  | .standby => true
  | _ => false

/-- The points of a lane that show its state (R356, R364, R367). -/
def Lane.showState (l : Lane) : Lane :=
  (l.setp Hp.laneState l.link.state.code).setp Hp.resyncPhase l.link.phase.code

/-- A request answered in every lane that computes. -/
def State.answerBoth (r : Request) (rep : Reply) (s : State) : State :=
  s.eachLane Lane.active (fun _ _ l => l.answer r rep)

/-- A lane put into a state and phase (R356, R364). A change of state fires event 83; the entry to state 2 answers a request
that waits for it (R93 code 0x09, R371). -/
def State.laneTo (i : LaneId) (st : LaneState) (ph : Phase) (s : State) : State :=
  let old := (s.lane i).link.state
  let up := st.inStep && !old.inStep
  let s1 := s.onLane i (fun _ => true) (fun _ _ l =>
    let l0 := if st = .holder then l.met! (fun x => { x with copied := true })
      else if old = .reset ∧ st = .resync then l.met! (fun x => { x with copied := false })
      -- the holder's samples are waited for from here on (R259)
      else if st = .standby ∨ ph = .shadow then l.met! (fun x => { x with lastHolderTick := some x.tick }) else l
    let l1 := (l0.lnk (fun x => { x with state := st, phase := ph, phaseLap := l.lap })).showState
    let l2 := l1.setp Hp.resyncProgress 0
    let l3 := if st = .resync ∧ old ≠ .resync then l2.linksUp.acqLost else l2.linksUp
    if up then l3.setp Hp.inStepSince l.pacer.teamTime else l3)
  let s2 := if old = st then s1 else (s1.alsoFire i s).fireBoth 83 i.num [(st.code : Int)]
  match (s2.lane i).link.fwAnswer with
  | some r =>
    if st = .resync ∧ old ≠ .resync then
      let s3 := (s2.onLane i (fun _ => true) (fun _ _ l => l.lnk (fun x => { x with fwAnswer := none }))).answerBoth r (Reply.ok [])
      if r.command = 0x50 then s3.fireBoth 119 9 [0, (r.lane : Int)] else s3
    else s2
  | none => s2

/-- What a lane loses when it is reset or withdrawn (R356, R363, R473): a measurement ends (R443), the lane's laps stop (R98), and what only
its DRAM held is lost, datagrams not yet forwarded among it. `fault` says that a cause of R360 did it. The Pacer's change to `SEARCH` fires
event 85 in the other lane too (R89, R100). -/
def State.laneCleared (i : LaneId) (fault : Bool) (s : State) : State :=
  let s0 := s.eachLane Lane.active (fun _ _ l => l.tuneAbort 5)
  let s1 := s0.onLane i (fun _ => true) (fun _ _ l =>
    let l1 := l.lnk (fun x => { x with
      booted := false, want := false, grant := false, halted := none, giveUp := none, releaseLap := none
      liveLaps := [], faultReset := fault, shadowClean := 0, logging := false, changeLog := [] })
    let l2 : Lane := { l1 with
      host := { l1.host with forward := [] }
      acq := { partition := l.cn Ta.acqPartitionMib }, trace := {}, tune := {}, imgs := [], sealing := none, sealDone := false
      pacer := { l1.pacer with laps := false, locked := false }
      safe := { l1.safe with filled := false, chanFault := false, diffRun := 0, resetHeld := false }
      power := { l1.power with sleep := none } }
    ((((l2.pacerTo pcSearch).linksDown.setp Ta.traceState 0).setp Ta.tuneState 0).setp Hp.healthFlags 0).showAcq)
  if (s.lane i).pcState = pcSearch then s1
  else s1.onLane i.other Lane.active (fun _ _ l => l.fire 85 0 [pcSearch])

/-- A whole-lane reset (R356, R473): the lane starts again in `BOOT`. -/
def State.laneReset (i : LaneId) (fault : Bool) (s : State) : State := (s.laneCleared i fault).laneTo i .reset .boot

/-- A lane whose fast domain goes off (R457, R483): in state 1 until its fast domain starts again. The third critical shutdown within 24 h
parks the lane (R484). -/
def State.fastOff (i : LaneId) (fault : Bool) (s : State) : State :=
  (s.laneReset i fault).onLane i (fun _ => true) (fun _ _ l => { l.refsOff.lnk (fun x => { x with
      parked := x.parked || (l.therm.shut && decide (2 < l.therm.shutdowns.length)) }) with
    power := { l.power with fastOn := false } })

/-- A parked lane: in state 1, safe to remove (R371, R373). -/
def State.park (i : LaneId) (s : State) : State :=
  (s.laneReset i false).onLane i (fun _ => true) (fun _ _ l => l.lnk (fun x => { x with parked := true }))

/-- A lane that leaves step without a reset: state 2 at `ALIGN` (R364). -/
def State.leaveStep (i : LaneId) (s : State) : State :=
  if (s.lane i).link.state = .standby then
    (s.onLane i (fun _ => true) (fun _ _ l => l.lnk (fun x => { x with
      want := false, shadowClean := 0, cmpRun := 0, allocRun := 0, linkHubs := [], linkRound := false }))).laneTo i .resync .align
  else if (s.lane i).link.phase = .shadow then
    s.onLane i (fun _ => true) (fun _ _ l => l.lnk (fun x => { x with shadowClean := 0 }))
  else s

/-- The health point of the cause of a give-up (R360, R367). -/
def Lane.countGiveUp (cause : Nat) (l : Lane) : Lane := (l.setp Hp.giveUpCause cause).inc Hp.giveUps

/-! ### Diagnoses (R359 to R362) -/

/-- What a give-up for a cause takes from the lane (R360): its supply, its fast domain, a reset, or only the baton. -/
def causeRank (cause : Nat) : Nat :=
  if cause = 3 then 3 else if cause = 6 then 2 else if cause = 4 ∨ cause = 5 then 1 else 0

/-- The cause that a holder gives up for when another follows one that is latched (R360, R361). DESIGN CHOICE (log entry 93): the first
stands, but for one that takes more from the lane. -/
def stronger (old : Option Nat) (cause : Nat) : Nat :=
  match old with
  | none => cause
  | some c => if causeRank c < causeRank cause then cause else c

/-- A cause that acts at once (R360): 1, 2 and 16 stop LIVE of the holder and reset any other lane; 3, 4, 5, 6 and 14
latch a give-up in the holder and power down, reset or shut down any other lane; 10 to 13 take the standby out of step. -/
def State.diagnose (i : LaneId) (cause : Nat) (s : State) : State :=
  let l := s.lane i
  if l.link.state = .absent then s
  else if l.link.state = .holder then
    if cause = 1 ∨ cause = 2 ∨ cause = 16 then
      s.onLane i (fun _ => true) (fun _ _ l => l.lnk (fun x => { x with halted := some cause }))
    else if cause = 3 ∨ cause = 4 ∨ cause = 5 ∨ cause = 6 ∨ cause = 14 then
      s.onLane i (fun _ => true) (fun _ _ l => l.lnk (fun x => { x with giveUp := some (stronger x.giveUp cause) }))
    else s
  else if cause = 1 ∨ cause = 2 ∨ cause = 16 ∨ cause = 4 ∨ cause = 5 then
    s.laneReset i true
  else if cause = 3 then s.fastOff i false
  else if cause = 6 then s.fastOff i true
  else if cause = 15 then s.park i
  else if 10 ≤ cause ∧ cause ≤ 13 then s.leaveStep i
  else s

/-- GIVE_UP (R359): at 3,650 ns a latched request drops WANT and sets the release flag of this lap's blocks. -/
def Lane.giveUpNow (l : Lane) : Lane :=
  match l.link.giveUp with
  | some c =>
    if l.link.want then
      (l.lnk (fun x => { x with want := false, releaseLap := some l.lap })).countGiveUp c
    else l
  | none => l

/-- Whether the two lanes' firmware may share the plant (R370). -/
def fwShare (a b : Lane) : Bool :=
  decide (a.p Hp.fwCompatMin ≤ b.p Hp.fwCompat) && decide (b.p Hp.fwCompatMin ≤ a.p Hp.fwCompat)

/-- Lanes of different `fw_compat` run mixed (R370). -/
def State.mixed (s : State) : Bool := s.a.active && s.b.active && decide (s.a.p Hp.fwCompat ≠ s.b.p Hp.fwCompat)

/-- Whether a lane's LIVE toggles in the present lap (R352). -/
def State.liveNow (s : State) (i : LaneId) : Bool := (s.lane i).link.liveLaps.any (fun n => n == s.lapNow)

/-- Eligibility of a standby (R365). -/
def State.eligible (s : State) (i : LaneId) : Bool :=
  let l := s.lane i
  decide (l.link.state = .standby) && l.active && s.liveNow i && !l.link.cmpPersist && !l.link.tvPersist
    && l.link.giveUp.isNone && fwShare l (s.lane i.other)

/-- Cause 7 (R360): some hub blind in lane `i` while the partner's hub reports valid measurements. -/
def State.uplinkCause (s : State) (i : LaneId) : Bool :=
  let l := s.lane i
  let o := s.lane i.other
  o.active && (enabledHubs l.cfg).any (fun h => decide (l.p (Hub.blind h) = 1) && decide (o.p (Hub.blind h) = 0) && (o.hub h).fastGood)

/-- Cause 8 (R360): lane `i`'s metrology processor or references bad while the partner's are good. -/
def State.metrologyCause (s : State) (i : LaneId) : Bool :=
  let bad := fun (l : Lane) => decide (l.p Mp.mpState ≠ 0) || decide (l.p Mp.refState = 1)
  (s.lane i.other).active && bad (s.lane i) && !bad (s.lane i.other)

/-- The standing cause of a holder that is conditional on an eligible partner (R360 causes 7, 8, 9 and 15), if any. -/
def State.conditional (s : State) (i : LaneId) : Option Nat :=
  let l := s.lane i
  let o := s.lane i.other
  if s.uplinkCause i then some 7
  else if s.metrologyCause i then some 8
  else if l.link.portsDown && o.present && !o.link.portsDown then some 9
  else if l.link.ejectOpen then some 15
  else none

/-- Every lap's evaluation of eligibility and of the conditional causes (R361, R365). -/
def State.lapDiagnosis (s : State) : State :=
  let want := fun (s : State) (i : LaneId) (l : Lane) =>
    if l.link.state = .standby then
      let e := s.eligible i
      l.lnk (fun x => { x with want := e, wantLap := if e && !x.want then s.lapNow else x.wantLap })
    else l
  let s1 := s.eachLane Lane.active want
  s1.eachLane Lane.active (fun s i l =>
    if l.link.state = .holder ∧ l.link.giveUp = none then
      match s.conditional i with
      | some c => if s.eligible i.other then l.lnk (fun x => { x with giveUp := some c }) else l
      | none => l
    else l)

/-! ### Health flags (R368) -/

/-- Whether a health cause occurred within the last 1,000 epochs. -/
def Lane.recentFlag (l : Lane) (bit : Nat) : Bool :=
  let e := UMap.get (fun _ => 0) l.link.flagMs bit
  decide (0 < e) && decide (l.epoch + 1 < e + 1000)

/-- The bits of `health_flags` that hold in lane `i`, by number. -/
def State.healthBit (s : State) (i : LaneId) (n : Nat) : Bool :=
  let l := s.lane i
  let o := s.lane i.other
  match n with
  | 31 => l.link.want
  | 17 => o.link.mismatchCart
  | 16 => s.mixed
  | 15 => l.link.cmpPersist
  | 14 => l.link.tvPersist
  | 13 => l.rejectHeld
  | 12 => decide (0 < UMap.get (fun _ => 0) l.link.flagMs 12)
  | 11 => l.recentFlag 11
  | 10 => l.link.portsDown && o.present && !o.link.portsDown
  | 9 => s.metrologyCause i
  | 8 => s.uplinkCause i
  | 7 => l.recentFlag 7
  | 6 => l.recentFlag 6
  | 5 => l.recentFlag 5
  | 4 => l.therm.overSince.isSome
  | 3 => decide (l.p Th.tBand = 1) || decide (l.p Th.tBand = 2)
  | 2 => decide (l.p Pw.pwrInMv < 16800) || decide (32000 < l.p Pw.pwrInMv) || !l.therm.fanFaults.isEmpty || decide (l.p Th.railFaults ≠ 0)
  | 1 => decide (l.link.state = .holder) && (s.conditional i).isSome && !s.eligible i.other
  | 0 => !o.link.state.inStep
  | _ => false

/-- `health_flags` of lane `i`. -/
def State.healthWord (s : State) (i : LaneId) : Nat :=
  (List.range 32).foldl (fun a n => if s.healthBit i n then a + 2 ^ n else a) 0

/-- Every lap's health flags of each lane that is powered and not halted, one in state 1 too, with events 81 and 82 on a rise that `health_mask` admits (R367, R368). -/
def State.health (s : State) : State :=
  let put := fun (i : LaneId) (s0 : State) =>
    if !((s0.lane i).present && (s0.lane i).power.fastOn && (s0.lane i).link.halted.isNone) then s0
    else
      let old := (s0.lane i).pn Hp.healthFlags
      let new := s0.healthWord i
      let mask := (s0.lane i).cn (Hp.healthMask + 0x8000 * i.num)
      let s1 := s0.onLane i (fun _ => true) (fun _ _ l => l.setp Hp.healthFlags new)
      let rises := (List.range 32).filter (fun n => bitAt new n && !bitAt old n && bitAt mask n)
      rises.foldl (fun (s : State) (n : Nat) => s.fireBoth (81 + i.num) i.num [(n : Int)]) s1
  put .B (put .A s)

/-! ### The arbiter (R353 to R355) -/

/-- A LIVE toggle of the lane in lap `n` or one of the `k` laps before it. -/
def Lane.liveWithin (l : Lane) (n k : Nat) : Bool := l.link.liveLaps.any (fun m => decide (m ≤ n ∧ n ≤ m + k))

/-- A lane that qualifies for a new grant in lap `n`. -/
def Lane.qualifies (l : Lane) (n : Nat) : Bool := l.present && l.link.want && l.liveWithin n 0

/-- The arbiter's table (R353): the grant and baton number after the evaluation in lap `n`. -/
def State.grantNext (s : State) (n : Nat) : Arbiter :=
  let up := (s.arbiter.baton + 1) % 4294967296
  match s.arbiter.grant with
  | some h =>
    let l := s.lane h
    if l.present && l.link.want && l.liveWithin n 2 then s.arbiter
    else if (s.lane h.other).qualifies n then { s.arbiter with grant := some h.other, baton := up }
    else { s.arbiter with grant := none }
  | none =>
    match s.a.qualifies n, s.b.qualifies n with
    | true, true => { s.arbiter with grant := some (if s.b.link.wantLap < s.a.link.wantLap then .B else .A), baton := up }
    | true, false => { s.arbiter with grant := some .A, baton := up }
    | false, true => { s.arbiter with grant := some .B, baton := up }
    | false, false => s.arbiter

/-- The baton lines as each present lane sees them (R352, R354), and the number each lane stores (R355). -/
def State.grantLines (s : State) : State :=
  s.eachLane Lane.present (fun s i l =>
    (l.lnk (fun x => { x with
      grant := decide (s.arbiter.grant = some i), granted := s.arbiter.grant.isSome, batonSeen := s.arbiter.baton, batonStore := s.arbiter.baton })).setp
      D0.batonNumber s.arbiter.baton)

/-- What the lane that loses the grant does (R360, R363). -/
def State.loseGrant (i : LaneId) (s0 : State) : State :=
  let s := s0.onLane i (fun _ => true) (fun _ _ l => { l.safe! (fun x => { x with pulses := [], sent := none }) with
    host := { l.host with forward := [] } })
  let l := s.lane i
  match l.link.halted, l.link.giveUp with
  | some c, g =>
    let s1 := s.onLane i (fun _ => true) (fun _ _ l => l.countGiveUp c)
    if g = some 3 then s1.fastOff i false else if g = some 6 then s1.fastOff i true else s1.laneReset i true
  | none, some c =>
    if c = 3 then s.fastOff i false
    else if c = 6 then s.fastOff i true
    else if c = 4 ∨ c = 5 then s.laneReset i true
    else if c = 15 then s.park i
    else (s.onLane i (fun _ => true) (fun _ _ l => l.lnk (fun x => { x with giveUp := none }))).laneTo i .resync .align
  | none, none =>
    if l.active then
      (s.onLane i (fun _ => true) (fun _ _ l => l.lnk (fun x => { x with want := false }))).laneTo i .resync .align
    else s

/-- Unacknowledged entries of every ring sent again at once (R64, R81, R89). -/
def Lane.resendAll (l : Lane) : Lane :=
  { l with host := { l.host with rings := l.host.rings.map (fun e =>
      (e.1, { e.2 with entries := e.2.entries.map (fun x => { x.stamp l.sends with resent := true }) })) } }

/-- After a takeover or a wake the outbound datagram counters go on 2^24 further, so that no nonce repeats (R73). -/
def Lane.skipCounters (l : Lane) : Lane :=
  { l with host := { l.host with outCounter := l.host.outCounter.map (fun e => (e.1, e.2 + 2 ^ 24)) } }

/-- The interval and session flags of a takeover (R291, R307, R309). -/
def Lane.takeoverFlags (l : Lane) : Lane :=
  let l1 := l.flagAll 64
  l1.met! (fun x => { x with sessions := x.sessions.map (fun e => (e.1, { e.2 with flags := e.2.flags ||| 1 })) })

/-- Status codes of R372. -/
def st_IMAGE_BAD : Nat := 0x0301
def st_IMAGE_INCOMPATIBLE : Nat := 0x0302
def st_BANK_RUNNING : Nat := 0x0303
def st_LOAD_ORDER : Nat := 0x0304
def st_NOT_VERIFIED : Nat := 0x0305
def st_NOT_ELIGIBLE : Nat := 0x0306
def st_NOT_PARKED : Nat := 0x0307

/-- A firmware update step (R371): event 123 in every lane. -/
def State.fwStep (i : LaneId) (k : Nat) (s : State) : State := s.fireBoth 123 i.num [Config.eventCause (20 + k)]

/-- What the new holder and the lane beside it do at the grant instant (R363). A takeover is a grant that passes from a lane, or
comes to a standby through `NONE`; the first grant after a start is none. The new holder steers to the configured source (R109). -/
def State.gainGrant (i : LaneId) (old : Option LaneId) (oldNo : Nat) (s : State) : State :=
  let n := s.chassis.variant.outlets
  let s1 := s.onLane i (fun _ => true) (fun _ _ l =>
    let l1 := (l.lnk (fun x => { x with want := true, faultReset := false })).inc Hp.grants
    let l2 := (l1.forN 4 Lane.canTakeover).mastTakeover
    l2.resendAll.signOwed)
  let s2 := s1.laneTo i .holder .none
  let passed := old.isSome || decide ((s.lane i).link.state = .standby)
  let s3 := s2.eachLane Lane.active (fun _ j l =>
    let l1 := if passed then (if j = i then (l.sessionTakeover n true).tuneTakeover.acqTakeover else (l.sessionTakeover n false).tuneTakeover).takeoverFlags else l
    let again := fun (l : Lane) => if j = i ∧ passed = true then l.teamResend else l
    let l2 := ((again (if passed then l1.skipCounters else l1)).teamTakeover.heldReset n).forN 4 Lane.canRefresh
    let l2 := l2.forN 4 (fun b l => (if j = i then l else l.canCut b).canStart b)
    let l3 := l2.useRecords (s2.lane i)
    if j = i then l3.pacerCheck else l3)
  let s3 := s3.eachLane (fun _ => true) (fun _ _ l => l.safe! (fun x => { x with resetHeld := false }))
  let s4 := s3.fireBoth 80 i.num [(oldNo : Int), (s.arbiter.baton : Int)]
  match (s4.lane i).link.handover with
  | some r =>
    let s5 := s4.eachLane Lane.present (fun _ _ l => l.lnk (fun x => { x with handover := none }))
    if (r.lane = 2) = (i = .B) then (s5.answerBoth r (Reply.ok [(4, (s.arbiter.baton : Int))])).fwStep i 6
    else s5.answerBoth r (Reply.just st_NOT_ELIGIBLE)
  | none => s4

/-- A lane booted in state 1 beside a lane that holds the baton enters state 2 at `ALIGN` (R356, R357). -/
def State.joinBooted (s : State) : State :=
  let go := fun (i : LaneId) (s : State) =>
    let l := s.lane i
    if l.link.state = .reset ∧ l.link.booted = true ∧ s.arbiter.grant = some i.other then
      (s.onLane i (fun _ => true) (fun _ _ l => l.lnk (fun x => { x with want := false }))).laneTo i .resync .align
    else s
  go .B (go .A s)

/-- GRANT_EVALUATION (R353): once per lap, at the first STROBE of a present lane whose laps run; a further one in the lap is ignored. -/
def State.grantEvaluation (s : State) : State :=
  if !(s.a.lapping || s.b.lapping) || decide (s.arbiter.evaluated = some s.lapNow) then s
  else
    let old := s.arbiter
    let new : Arbiter := { s.grantNext s.lapNow with evaluated := some s.lapNow }
    if new.grant = old.grant then ({ s with arbiter := new } : State).grantLines.joinBooted
    else
      let s1 := ({ s with arbiter := new } : State).grantLines
      let s2 := match old.grant with
        | some h => s1.loseGrant h
        | none => s1
      let s3 := match new.grant with
        | some w => s2.gainGrant w old.grant old.baton
        | none => s2
      s3.joinBooted

/-- Serial-number order of baton numbers (R135, R355): `a` is later than `b`. -/
def batonLater (a b : Nat) : Bool :=
  let d := (a + 4294967296 - b) % 4294967296
  decide (0 < d ∧ d < 2147483648)

/-- WATCHDOG_MISS (R360 cause 1, R362). -/
def State.watchdogMiss (i : LaneId) (s : State) : State := s.diagnose i 1

/-- What a lane's hardware brings to a lap besides its vectors: a lock lost (R360 cause 2) or an incomplete command block (cause 16) stop
its LIVE; with no other lane's laps to lose the grant in, the lane's hardware resets it at once (R363). Failed lane-link frames count
(R367), and the conditions of causes 9 and 15 clear (R361). -/
def State.laneInput (i : LaneId) (x : LapInput) (s : State) : State :=
  let s1 := s.onLane i Lane.present (fun _ _ l => (l.addp Hp.laneLinkErrors x.linkErrors).lnk (fun y => { y with
    portsDown := y.portsDown && !x.portUp, ejectOpen := y.ejectOpen && !x.leverClosed }))
  if !(s.lane i).lapping then s1
  else if x.unlocked then
    if decide (s.holder = some i) && (s.lane i.other).lapping then
      ((s1.onLane i (fun _ => true) (fun _ _ l =>
        (l.pac (fun y => { y with laps := false, locked := false })).pacerTo pcSearch)).onLane i.other Lane.active
          (fun _ _ l => l.fire 85 0 [pcSearch])).diagnose i 2
    else (s1.onLane i (fun l => decide (s.holder = some i) && l.link.halted.isNone) (fun _ _ l => l.countGiveUp 2)).laneReset i true
  else if x.unsent then s1.diagnose i 16
  else s1

/-- HOST_PORTS_DOWN (R360 cause 9): both own ports without link for 1 s while a partner port has link. -/
def Lane.hostPortsDown (l : Lane) : Lane := l.lnk (fun x => { x with portsDown := true })

/-! ### Boot and resynchronisation (R356, R357, R364) -/

/-- The number a lane loads into the arbiter at a cold start before it raises WANT (R355). -/
def State.loadBaton (i : LaneId) (s : State) : State :=
  let v := ((s.lane i).link.batonStore + 1) % 4294967296
  if s.arbiter.grant.isNone && batonLater v s.arbiter.baton then { s with arbiter := { s.arbiter with baton := v } } else s

/-- A booted lane in state 1: with a holder present it enters state 2; with none, once its laps run, it loads its baton
number and raises WANT (R355 to R357, R469, R470). At a wake the lane that is not the keeper waits. -/
def State.bootedLane (i : LaneId) (s : State) : State :=
  let l := s.lane i
  if l.link.state ≠ .reset ∨ l.link.booted = false ∨ l.link.parked = true ∨ l.link.mismatchCart = true then s
  else
    let s := s.onLane i (fun l => decide (l.p Mp.mpState = 2)) (fun _ _ l => l.setp Mp.mpState 0)
    match s.arbiter.grant with
    | some h => if h = i then s else (s.laneTo i .resync .align)
    | none =>
      let waits := decide (l.power.power = 5) && !l.power.keeper
      if l.pacer.laps && !waits && !l.link.want then
        let s1 := if l.power.power = 5 then s else s.loadBaton i
        s1.onLane i (fun _ => true) (fun s _ l => l.lnk (fun x => { x with want := true, wantLap := s.lapNow }))
      else s

/-- BOOT_COMPLETE (R364): the boot tests have passed. The red indicator of a fault reset ends (R373). -/
def State.bootComplete (i : LaneId) (s : State) : State :=
  let l := s.lane i
  if l.link.state ≠ .reset ∨ l.power.fastOn = false ∨ l.link.parked = true ∨ l.link.mismatchCart = true ∨ l.therm.shut = true then s
  else
    (s.onLane i (fun _ => true) (fun _ _ l =>
      (l.lnk (fun x => { x with booted := true, faultReset := false })).linksUp)).alsoFire i s |>.bootedLane i

/-- Whether every enabled hub of the lane is `READY`. -/
def Lane.hubsReady (l : Lane) : Bool := (enabledHubs l.cfg).all (fun h => decide (l.p (Hub.linkState h) = lkReady))

/-- The laps of a lane started anew at the holder's marker, with the holder's numbers and time (R109, R364); a lane that runs with
them already goes on. -/
def Lane.joinLaps (l h : Lane) : Lane :=
  let l1 := l.takeTime h
  if l.lap = h.lap then l1 else { l1 with lap := h.lap, safe := { l1.safe with startLap := h.lap } }

/-- RESYNC_ALIGN_COMPLETE (R364): laps aligned with the holder's and every enabled hub `READY`. -/
def State.alignComplete (i : LaneId) (s : State) : State :=
  let l := s.lane i
  if l.link.phase = .align ∧ l.pacer.laps = true ∧ s.arbiter.grant = some i.other ∧ l.hubsReady = true then
    (((s.onLane i (fun _ => true) (fun s i l => l.joinLaps (s.lane i.other))).laneTo i .resync .copy).pacerFollow).onLane i.other
      (fun _ => true) (fun _ _ l => l.lnk (fun x => { x with logging := true, changeLog := [] }))
  else s

/-- Whether a point is a lane's own: domain 9, `test_fails` of every slot (R113, R164), and what its own images are (R92). The
generation of a hub's record goes with the record in force (R150). -/
def ownPoint (a : Nat) : Bool :=
  (decide (a / 0x10000 = 9) && !(List.range 32).any (fun h => decide (a = Hub.cfgGen h))) || (decide (a / 0x10000 = 8) && decide (a % 32 = 0x1D)) || decide (D0.fwId 0 ≤ a ∧ a ≤ D0.fwId 7)

/-- The points of domain 9 that stand for what both lanes compute alike (R387, R394, R403, R408): the team's masks, member states and epoch
offsets, the state of its rings, and the block on key updates. -/
def Lane.copyTeam (l h : Lane) : Lane :=
  (((l.forN 8 (fun k l => ((l.setp (Team.teamMembers k) (h.p (Team.teamMembers k))).setp (Team.memberStates k)
    (h.p (Team.memberStates k))).setp (Team.epochOffset k) (h.p (Team.epochOffset k)))).setp Team.ringState (h.p Team.ringState))).setp
      Key.updateBlock (h.p Key.updateBlock)

/-- What the points of domain 9 show of a measurement, which both lanes carry on alike (R438, R454); each counts its own. -/
def Lane.copyTune (l h : Lane) : Lane :=
  l.forL [Ta.tuneState, Ta.tuneSlot, Ta.tuneCause, Ta.tuneProgress, Ta.tuneGuardDevA] (fun a l => l.setp a (h.p a))

/-- What a lane copies from the holder (R67, R308, R364). Its own identity, Pacer but for team time, arbiter lines, power block, hubs but
for the identity records in use (R529), domain 9 points, test-vector counts (R164), equipment-bus controllers, acquisition and trace records, and thermal record stay. -/
def Lane.copyFrom (l : Lane) (h : Lane) : Lane :=
  let rest := h.pts.filter (fun e => !ownPoint e.1)
  let ownS := l.stat.filter (fun e => decide (e.1 / 0x10000 = 9))
  let restS := h.stat.filter (fun e => decide (e.1 / 0x10000 ≠ 9))
  let merge := fun (a b : List Nat) => a ++ b.filter (fun n => !a.contains n)
  let l1 : Lane := { l with
    cfg := h.cfg
    pts := (l.pts.filter (fun e => ownPoint e.1)).foldl (fun m e => UMap.put pointDefault m e.1 e.2) rest
    stat := restS ++ ownS
    means := h.means, sums := h.sums
    host := { h.host with
      forward := [], sent := [], mirrored := [], ports := l.host.ports, authFail := l.host.authFail, replay := l.host.replay, dupDatagrams := l.host.dupDatagrams }
    phases := h.phases, packs := h.packs, slots := h.slots
    engine := { h.engine with off0 := false, off1 := false, repeatSlot := none }
    alloc := h.alloc, pools := h.pools, cools := h.cools, outs := h.outs
    safe := { h.safe with
      trip1 := merge h.safe.trip1 l.safe.trip1, trip2 := merge h.safe.trip2 l.safe.trip2
      startLap := l.safe.startLap, filled := l.safe.filled }
    team := h.team, mast := h.mast, imgs := h.imgs, tune := h.tune
    acq := { l.acq with nextArm := h.acq.nextArm } }
  -- a trip latched in this lane alone stays one (R322)
  let l2 := l1.forL (merge l.safe.trip1 l.safe.trip2) (fun n l => if l.fnHeld n then l else l.setp (fnAddr n) fnTripped)
  (((((l2.takeTime h).copyKeys h).copyMetrology h).copyRecords h).copyTeam h).copyTune h

/-- COPY_COMPLETE (R364). What the holder has logged since the copy epoch is in what the lane takes. -/
def State.copyComplete (i : LaneId) (s : State) : State :=
  if (s.lane i).link.phase = .copy ∧ s.arbiter.grant = some i.other then
    ((s.onLane i (fun _ => true) (fun s _ l => l.copyFrom (s.lane i.other))).laneTo i .resync .catchup).onLane i.other
      (fun _ => true) (fun _ _ l => l.lnk (fun x => { x with logging := false, changeLog := [] }))
  else s

/-- The entries of a store by address for the points of domains 0..4, 7 and 8 (R364) that are not a lane's own (R164, log entry 77). -/
def comparedPoints {α : Type} (m : UMap α) : UMap α :=
  m.filter (fun e => !ownPoint e.1 && (decide (e.1 / 0x10000 ≤ 4) || decide (e.1 / 0x10000 = 7) || decide (e.1 / 0x10000 = 8)))

/-- Whether the latest images that two lanes have sealed themselves are of one epoch and equal in domains 0..4, 7 and 8. -/
def imagesEqual (a b : List Image) : Bool :=
  match a, b with
  | x :: _, y :: _ => decide (x.lane ≠ y.lane) && decide (x.epoch = y.epoch) && decide (comparedPoints x.cfg = comparedPoints y.cfg)
      && decide (comparedPoints x.pts = comparedPoints y.pts) && decide (comparedPoints x.stat = comparedPoints y.stat)
      && decide (x.phaseGen = y.phaseGen) && decide (x.packGen = y.packGen) && decide (x.identified = y.identified)
      && decide (comparedPoints (x.written.map (fun a => (a, ()))) = comparedPoints (y.written.map (fun a => (a, ()))))
  | _, _ => false

/-- CATCHUP_COMPLETE (R364): the lane's sealed image equals the holder's. -/
def State.catchupComplete (i : LaneId) (s : State) : State :=
  if (s.lane i).link.phase = .catchup ∧ s.arbiter.grant = some i.other
      ∧ imagesEqual (s.lane i).imgs (s.lane i.other).imgs = true then
    (s.onLane i (fun _ => true) (fun _ _ l => l.lnk (fun x => { x with shadowClean := 0 }))).laneTo i .resync .shadow
  else s

/-- SHADOW_COMPLETE (R364): 1,000 consecutive epochs without a mismatch. The ledger history in NV, which is copied in the background
from here on, is taken in whole (log entry 72). -/
def State.shadowComplete (i : LaneId) (s : State) : State :=
  if (s.lane i).link.phase = .shadow ∧ 1000 ≤ (s.lane i).link.shadowClean then
    (s.onLane i (fun _ => true) (fun _ _ l =>
      (l.lnk (fun x => { x with returnMs := if x.leftCmp then some l.epoch else x.returnMs, leftCmp := false, cmpRun := 0, allocRun := 0, faultReset := false })).inc
        Hp.resyncs)).laneTo i .standby .none |>.onLane i (fun _ => true) (fun s i l =>
      if s.arbiter.grant = some i.other then { l with hist := (s.lane i.other).hist } else l)
  else s

/-- The limits of the phases in laps (R364). -/
def phaseLimit : Phase → Option Nat
  | .none => none
  | .boot => some (20 * 200000)
  | .align => some (2 * 200000)
  | .copy => some (60 * 200000)
  | .catchup => some (5 * 200000)
  | .shadow => some (20 * 200000)

/-- The changes that the 2 GiB of the resynchronisation buffers hold (R37, R364), 24 bytes each as in the history (log entry 65). -/
def resyncItems : Nat := 2 * 2 ^ 30 / 24

/-- RESYNC_PHASE_TIMEOUT (R364): a phase beyond its limit in time, or `COPY` beyond the log's, restarts the resynchronisation from `ALIGN`. `BOOT`, whose end
laps need not count, restarts there only beside a holder; with none the lane stays in state 1. -/
def State.phaseTimeout (i : LaneId) (s : State) : State :=
  let l := s.lane i
  let again := fun (s : State) =>
    ((s.onLane i (fun _ => true) (fun _ _ l => (l.lnk (fun x => { x with shadowClean := 0 })).inc Hp.resyncRestarts)).laneTo i
      .resync .align).fireBoth 83 i.num [2]
  match l.link.phase with
  | .none => s
  | .boot =>
    if l.power.fastOn = false ∨ l.link.parked = true ∨ l.link.mismatchCart = true ∨ l.therm.shut = true then s
    else if s.arbiter.grant = some i.other then again s
      else s.onLane i Lane.present (fun _ _ l => l.inc Hp.resyncRestarts)
  | ph =>
    match phaseLimit ph with
    | some n =>
      if l.pacer.laps = true ∧ l.lap < l.link.phaseLap + n ∧ ¬(ph = .copy ∧ resyncItems < (s.lane i.other).link.changeLog.length) then s
      else again s
    | none => s

/-! ### Comparison (R30, R208, R360, R366) -/

/-- A bit-exact mismatch that takes the standby out of step, or, again within 3,600 s of its return, marks it for good. A
lane in `SHADOW` starts its count of clean epochs again. -/
def State.compareFault (i : LaneId) (s : State) : State :=
  let l := s.lane i
  if l.link.state = .standby then
    let again := match l.link.returnMs with
      | some e => decide (l.epoch < e + 3600000)
      | none => false
    if again then s.onLane i (fun _ => true) (fun _ _ l => l.lnk (fun x => { x with cmpPersist := true, want := false }))
    else (s.onLane i (fun _ => true) (fun _ _ l => l.lnk (fun x => { x with leftCmp := true }))).leaveStep i
  else s.leaveStep i

/-- Whether a hub's block carries a duty of a loop engine that is in reset in a lane: the comparison for the engine's slots is
suspended (R93 code 0x08). -/
def Lane.engineOff (l : Lane) (h : Nat) : Bool :=
  (List.range 16).any (fun i => match dutySlot l.cfg (16 * h + i) with
    | some t => if t % 2 = 0 then l.engine.off0 else l.engine.off1
    | none => false)

/-- Hubs whose command blocks of this lap differ between the lanes (R30), where none of their slots' engines is in reset (R93). -/
def blockDiffs (a b : Lane) : List Nat :=
  (enabledHubs a.cfg).filter (fun h => !a.engineOff h && !b.engineOff h && decide ((a.hub h).block.compareCrc ≠ (b.hub h).block.compareCrc))

/-- Whether the lanes received different fast blocks from hub `h` because of a link error (R30): one of them has no good block,
holds the hub blind, or has its link in another state. A CAN frame that one lane alone received counts alike (R417). -/
def linkDiffers (b l : Lane) (h : Nat) : Bool :=
  decide ((l.hub h).fastGood ≠ (b.hub h).fastGood) || decide (l.p (Hub.blind h) ≠ b.p (Hub.blind h))
    || decide (l.p (Hub.linkState h) ≠ b.p (Hub.linkState h)) || rxDiffers b l

/-- Whether a difference on hub `h` is caused by a link error: it comes with one, or has lasted since one (DEDUCED: the loops
carry it on). -/
def linkCaused (b l : Lane) (h : Nat) : Bool := linkDiffers b l h || l.link.linkHubs.contains h

/-- The hubs whose lanes differ because of a link error after this lap, whose command blocks differ on `diffs`. -/
def linkHubsNext (b l : Lane) (diffs : List Nat) : List Nat :=
  (enabledHubs l.cfg).filter (fun h => linkDiffers b l h || (l.link.linkHubs.contains h && diffs.contains h))

/-- LANE_LINK_CRC_RECEIVE (R30, R366): the standby compares. A difference that a link error causes counts as a link
mismatch; others in two consecutive laps take it out of step with cause `compare`. Event 109 fires per hub with the count
that took it. -/
def State.crcReceive (s : State) : State :=
  match s.holder with
  | none => s
  | some h =>
    let i := h.other
    let l := s.lane i
    if !(l.active && (l.link.state.inStep || decide (l.link.phase = .shadow))) then s
    else
      let diffs := blockDiffs l (s.lane h)
      let byLink := diffs.filter (fun x => linkCaused (s.lane h) l x)
      let own := diffs.filter (fun x => !(byLink.contains x))
      let traced := linkHubsNext (s.lane h) l diffs
      let s1 := s.onLane i (fun _ => true) (fun _ _ l =>
        let l1 := (l.addp Hp.cbMismatch own.length).addp Hp.cbMismatchLink byLink.length
        let l2 := l1.lnk (fun x => { x with
          cmpRun := if own.isEmpty then 0 else x.cmpRun + 1
          linkHubs := traced
          linkRound := x.linkRound || !traced.isEmpty
          flagMs := UMap.put (fun _ => 0) x.flagMs 12 0 })
        if own.isEmpty then l2 else (l2.mark 5).lnk (fun x => { x with shadowClean := 0 }))
      let s2 := diffs.foldl (fun s x => s.fireBoth 109 x
        [(s.lane i).p (if byLink.contains x then Hp.cbMismatchLink else Hp.cbMismatch)]) s1
      let s2 := s2.onLane h (fun _ => true) (fun _ _ l => l.lnk (fun x => { x with
        flagMs := UMap.put (fun _ => 0) x.flagMs 12 0 }))
      if 2 ≤ (s2.lane i).link.cmpRun then
        (s2.compareFault i).onLane i (fun _ => true) (fun _ _ l => l.lnk (fun x => { x with cmpRun := 0 }))
      else s2

/-- LANE_LINK_TIMEOUT (R360 cause 13): the holder goes on alone, the standby leaves step. -/
def State.linkTimeout (s : State) : State :=
  let s1 := s.eachLane Lane.active (fun _ _ l => l.mark 12)
  match s.holder with
  | some h => s1.diagnose h.other 13
  | none => s1

/-- ALLOC_DIGEST_EXCHANGE (R208, R366): at lap 140 the round digests are compared. The standby counts a difference;
mismatches of two consecutive rounds take it out of step, except where the lanes run mixed (R370) and where a link error
since the last exchange made the lanes' inputs differ (R366; DEDUCED). A round that overran in one lane is handled under
R35 and not compared. -/
def State.allocExchange (s : State) : State :=
  match s.holder with
  | none => s
  | some h =>
    let i := h.other
    let l := s.lane i
    let m := s.lane h
    if !(l.active && (l.link.state.inStep || decide (l.link.phase = .shadow))) || decide (l.lapIn ≠ 140)
        || decide (l.alloc.doneEpoch ≠ some l.epoch) || decide (m.alloc.doneEpoch ≠ some m.epoch) then s
    else if l.allocDigest = m.allocDigest then
      s.onLane i (fun _ => true) (fun _ _ l => l.lnk (fun x => { x with
        allocRun := 0, linkRound := !x.linkHubs.isEmpty }))
    else
      let s1 := s.onLane i (fun _ => true) (fun _ _ l =>
        ((l.inc Al.allocDigestMismatch).mark 6).lnk (fun x => { x with
          allocRun := if x.linkRound || rxDiffers m l then 0 else x.allocRun + 1, shadowClean := 0, linkRound := !x.linkHubs.isEmpty }))
      if 2 ≤ (s1.lane i).link.allocRun ∧ s.mixed = false then
        (s1.compareFault i).onLane i (fun _ => true) (fun _ _ l => l.lnk (fun x => { x with allocRun := 0 }))
      else s1

/-- The rounds of a comparison of digests in the lane beside the holder (R366): a difference adds to its run and starts the count of clean
epochs anew, and the second one in succession takes the standby out of step, except where the lanes run mixed (R370). `run` and `set` are
the comparison's run. -/
def State.digestRound (differs : Bool) (run : LinkSt → Nat) (set : Nat → LinkSt → LinkSt) (s : State) : State :=
  match s.holder with
  | none => s
  | some h =>
    let i := h.other
    if !((s.lane i).active && (decide ((s.lane i).link.state = .standby) || decide ((s.lane i).link.phase = .shadow))) then s
    else if !differs then s.onLane i (fun _ => true) (fun _ _ l => l.lnk (set 0))
    else
      let s1 := s.onLane i (fun _ => true) (fun _ _ l => l.lnk (fun x => { set (run x + 1) x with shadowClean := 0 }))
      if 2 ≤ run (s1.lane i).link ∧ s.mixed = false then
        (s1.compareFault i).onLane i (fun _ => true) (fun _ _ l => l.lnk (set 0))
      else s1

/-! ### Cartridges (R3, R5, R356, R373) -/

/-- LANE_INSERTED (R3, R356): PRES goes high. `fresh` says that the cartridge has not run in this chassis before, `small` that it is
a PTR-LC-2560, which in a PTR-5120-D is held in reset (R3). A tamper record of cause 6 follows by TAMPER_RECORD (R313). -/
def State.laneInserted (i : LaneId) (fresh small : Bool) (serial : Nat) (s : State) : State :=
  if (s.lane i).present then s
  else
    let s1 := s.onLane i (fun _ => true) (fun _ i l =>
      let base : Lane := if fresh then { Lane.reset i with keys := {} } else { l with link := { l.link with ejectOpen := false }, therm := { l.therm with shut := false, coolS := 0 } }
      let l1 := { base with link := { base.link with
        state := .absent, phase := .boot, booted := false, want := false, parked := false, small := small
        mismatchCart := small && decide (s.chassis.variant = Variant.D)
        ejectOpen := false, faultReset := false }, power := { base.power with fastOn := false, aoOn := true } }
      (((l1.setp Hp.cartridgeSerial serial).setp D0.serialLo s.chassis.serialLo).setp D0.serialHi s.chassis.serialHi).setp
        D0.capability ((s.lane i.other).capability s.chassis.variant) |>.checkSerial |>.meterPowerUp)
    s1.laneTo i .reset .boot

/-- LANE_REMOVED (R356, R373): PRES goes low. The lane drives nothing from here on. -/
def State.laneRemoved (i : LaneId) (s : State) : State :=
  if !(s.lane i).present then s
  else
    let s1 := s.laneCleared i false
    (s1.onLane i (fun _ => true) (fun _ _ l =>
      { l.refsOff.lnk (fun x => { x with parked := false, mismatchCart := false }) with
        power := { l.power with fastOn := false } })).laneTo i .absent .none

/-- EJECT_OPEN (R373): a holder gives up conditionally (cause 15); any other lane parks. -/
def State.ejectOpen (i : LaneId) (s : State) : State :=
  let l := s.lane i
  if l.link.state = .absent then s
  else
    let s1 := s.onLane i (fun _ => true) (fun _ _ l => l.lnk (fun x => { x with ejectOpen := true }))
    if l.link.state = .holder then s1 else s1.park i

/-- The cartridge indicator (R373). -/
inductive Indicator where
  | off | greenSteady | greenFlash | amberFlash | amberSteady | blueSteady | redFlash | redSteady
deriving DecidableEq, Repr

/-- What the cartridge indicator of lane `i` shows (R373). -/
def State.indicator (s : State) (i : LaneId) : Indicator :=
  let l := s.lane i
  if l.link.mismatchCart || (l.therm.shut && decide (2 < l.therm.shutdowns.length)) then .redSteady
  else
    match l.link.state with
    | .absent => .off
    | .reset =>
      if l.link.parked then .blueSteady
      else if l.link.faultReset then .redSteady
      else if l.power.fastOn then .amberFlash else .off
    | .resync => .amberFlash
    | .standby => if s.eligible i then .greenFlash else .amberSteady
    | .holder => if l.link.ejectOpen && !s.eligible i.other then .redFlash else .greenSteady

/-! ### Lane and firmware commands (R371, R372) -/

/-- A command that works on both lanes at once: it answers now, or later (none). -/
abbrev StateCmd := State → State × Option Reply

/-- A command that names a lane: `BAD_LENGTH` where the header's lane is 0 or no lane, `UNIT_ABSENT` for a missing lane
(R371). -/
def namedLane (r : Request) (f : LaneId → StateCmd) : StateCmd := fun s =>
  if r.lane = 0 ∨ 2 < r.lane then (s, some (Reply.just st_BAD_LENGTH))
  else
    let i : LaneId := if r.lane = 1 then .A else .B
    if !(s.lane i).present then (s, some (Reply.just st_UNIT_ABSENT)) else f i s

/-- LANE_STATUS (R371): the state, flags and firmware data of each lane, and the baton number. -/
def cmdLaneStatus (r : Request) : StateCmd := fun s =>
  if r.len ≠ 0 then (s, some (Reply.just st_BAD_LENGTH))
  else
    let f := fun (l : Lane) => [Hp.laneState, Hp.healthFlags, Hp.resyncPhase, Hp.giveUpCause, Hp.fwBank, Hp.fwCompat].map
      (fun a => ((0, l.p a) : Field))
    (s, some (Reply.ok (f s.a ++ f s.b ++ [(0, (s.arbiter.baton : Int))])))

/-- BATON_HANDOVER (R371): the holder gives up with cause 14; the new holder answers in the lap after the grant. -/
def cmdHandover (r : Request) : StateCmd := namedLane r (fun i s =>
  if r.len ≠ 0 then (s, some (Reply.just st_BAD_LENGTH))
  else if s.arbiter.grant = some i then (s, some (Reply.just st_BATON_HELD))
  else if !s.eligible i then (s, some (Reply.just st_NOT_ELIGIBLE))
  else
    let s1 := s.eachLane Lane.active (fun _ _ l => l.lnk (fun x => { x with handover := some r }))
    (s1.diagnose i.other 14, none))

/-- The banks of a kind: 0 main, 1 metrology. -/
def LinkSt.bank (x : LinkSt) (kind b : Nat) : Bank := UMap.get (fun _ => {}) (if kind = 0 then x.banks else x.metBanks) b

/-- A bank replaced. -/
def LinkSt.setBank (kind b : Nat) (v : Bank) (x : LinkSt) : LinkSt :=
  if kind = 0 then { x with banks := UMap.put (fun _ => {}) x.banks b v }
  else { x with metBanks := UMap.put (fun _ => {}) x.metBanks b v }

/-- The running bank of a kind. -/
def Lane.runningBank (l : Lane) (kind : Nat) : Nat := if kind = 0 then l.pn Hp.fwBank else l.link.metActive

/-- FW_LOAD (R369, R371). -/
def cmdFwLoad (r : Request) : StateCmd := namedLane r (fun i s =>
  let kind := r.at_ 0 1
  let b := r.at_ 1 1
  let ofs := r.at_ 4 4
  let len := r.at_ 8 2
  let l := s.lane i
  let old := if ofs = 0 then [] else (l.link.bank kind b).data
  if r.len < 17 ∨ len = 0 ∨ 208 < len ∨ r.len ≠ 16 + len then (s, some (Reply.just st_BAD_LENGTH))
  else if 1 < kind ∨ 1 < b then (s, some (Reply.just st_RANGE))
  else if l.runningBank kind = b then (s, some (Reply.just st_BANK_RUNNING))
  else if ofs ≠ old.length ∨ 2147483648 < ofs + len then (s, some (Reply.just st_LOAD_ORDER))
  else
    let v : Bank := { data := old ++ r.body.drop 16 }
    ((s.onLane i (fun _ => true) (fun _ _ l => l.lnk (LinkSt.setBank kind b v))).fwStep i 0, some (Reply.ok [])))

/-- FW_VERIFY (R369): the signature is checked in the image verifier with a key of the UPDATE family; whether it holds
is the request's verdict (log entry 5). -/
def cmdFwVerify (r : Request) : StateCmd := namedLane r (fun i s =>
  let kind := r.at_ 0 1
  let b := r.at_ 1 1
  let l := s.lane i
  let v := l.link.bank kind b
  let roles := ((List.range 4).filter (fun k => decide (l.c (Key.roleUpdate k) ≠ 0xFFFFFFFF))).map (fun k => l.role (Key.roleUpdate k))
  let key := roles.any (fun k => decide (l.deliveryStatus engVerify k 2 = st_OK))
  -- the image verifier asks for the keys that the roles name (R378, R379)
  let ask := fun (l : Lane) => l.forL roles (fun k l => l.keyDelivery engVerify k 2)
  if r.len ≠ 8 then (s, some (Reply.just st_BAD_LENGTH))
  else if 1 < kind ∨ 1 < b then (s, some (Reply.just st_RANGE))
  else if !(r.verdict && key && decide (v.data.length = r.at_ 4 4)) then
    ((s.onLane i (fun _ => true) (fun _ _ l => (ask l).lnk (LinkSt.setBank kind b { v with verified := false }))).fwStep i 1,
      some (Reply.just st_IMAGE_BAD))
  else
    let n := Config.imageNumbers v.data
    let w := { v with verified := true, id := n.1, compat := n.2.1, compatMin := n.2.2 }
    ((s.onLane i (fun _ => true) (fun _ _ l => (ask l).lnk (LinkSt.setBank kind b w))).fwStep i 1,
      some (Reply.ok [(8, (n.1 : Int)), (4, (n.2.1 : Int)), (4, (n.2.2 : Int))])))

/-- FW_ACTIVATE (R280, R311, R371): the named standby resets into the bank; answered when it enters state 2. -/
def cmdFwActivate (r : Request) : StateCmd := namedLane r (fun i s =>
  let kind := r.at_ 0 1
  let b := r.at_ 1 1
  let l := s.lane i
  let o := s.lane i.other
  let v := l.link.bank kind b
  if r.len ≠ 2 then (s, some (Reply.just st_BAD_LENGTH))
  else if 1 < kind ∨ 1 < b then (s, some (Reply.just st_RANGE))
  else if s.arbiter.grant = some i then (s, some (Reply.just st_BATON_HELD))
  else if s.arbiter.grant ≠ some i.other then (s, some (Reply.just st_NO_PARTNER))
  else if l.link.state ≠ .standby then (s, some (Reply.just st_NOT_STANDBY))
  else if kind = 1 ∧ s.chassis.sealOpen = false then (s, some (Reply.just st_SEALED))
  else if !v.verified then (s, some (Reply.just st_NOT_VERIFIED))
  else if kind = 0 ∧ ¬((o.p Hp.fwCompatMin ≤ (v.compat : Int)) ∧ ((v.compatMin : Int) ≤ o.p Hp.fwCompat)) then
    (s, some (Reply.just st_IMAGE_INCOMPATIBLE))
  else
    let s1 := s.onLane i (fun _ => true) (fun _ _ l =>
      let l1 := l.lnk (fun x => { x with fwAnswer := some r, metActive := if kind = 1 then b else x.metActive })
      if kind = 0 then
        (((l1.setp Hp.fwBank b).setp Hp.fwCompat v.compat).setp Hp.fwCompatMin v.compatMin).setp (D0.fwId 0) v.id
      else
        (((l1.setp Mp.mpImageId v.id).setp (D0.fwId 1) v.id).setp Mp.mpState 2).lnk
          (fun x => { x with metCrc := some (crc32c v.data) }))
    -- each lane's log has the entry, so that the holder's, which the restarted lane copies (R308), keeps it (R311, log entry 90)
    let s2 := if kind = 1 then s1.eachLane Lane.alwaysOn (fun _ _ k =>
        k.logOf i.num 10 [l.p Mp.mpImageId, (v.id : Int)]) else s1
    ((s2.laneReset i false).fwStep i 2, none))

/-- LANE_PARK (R371). -/
def cmdLanePark (r : Request) : StateCmd := namedLane r (fun i s =>
  if r.len ≠ 0 then (s, some (Reply.just st_BAD_LENGTH))
  else if s.arbiter.grant = some i then (s, some (Reply.just st_BATON_HELD))
  else ((s.park i).fwStep i 3, some (Reply.ok [])))

/-- LANE_ELIGIBLE (R371): the persistence marks cleared; a standby resynchronises. -/
def cmdLaneEligible (r : Request) : StateCmd := namedLane r (fun i s =>
  if r.len ≠ 0 then (s, some (Reply.just st_BAD_LENGTH))
  else
    let s1 := s.onLane i (fun _ => true) (fun _ _ l => l.lnk (fun x => { x with cmpPersist := false, tvPersist := false }))
    ((s1.leaveStep i).fwStep i 5, some (Reply.ok [])))

end Sys2Proof.Machine
end

