-- ==== Sys2Proof/Machine/Pacer.lean ====
section
/-!
DEFINITION. The Pacer (R94 to R112): reference qualification, its states, the start of laps, LOCKA, team time over PTP and
`tod_set`.
-/

namespace Sys2Proof.Machine

/-- What a lane's Pacer makes of its references: a lane that steers by them changes its state (R101); one that follows the holder's
marker only notes them (R109). -/
def Lane.steered (steer : Bool) (l : Lane) : Lane := if steer then l.pacerCheck else l

/-- REFIN_QUALIFIED (R96, R101). -/
def Lane.refinQualified (steer : Bool) (l : Lane) : Lane := (l.pac (fun x => { x with refinOk := true })).steered steer

/-- REFIN_LOST (R96, R101). -/
def Lane.refinLost (steer : Bool) (l : Lane) : Lane :=
  if !l.pacer.refinOk then l else ((l.pac (fun x => { x with refinOk := false })).inc Pc.refinLosses).steered steer

/-- SYNCI_QUALIFIED (R97, R101). -/
def Lane.synciQualified (steer : Bool) (l : Lane) : Lane := (l.pac (fun x => { x with synciOk := true })).steered steer

/-- SYNCI_LOST (R97, R101). -/
def Lane.synciLost (steer : Bool) (l : Lane) : Lane :=
  if !l.pacer.synciOk then l else ((l.pac (fun x => { x with synciOk := false })).inc Pc.synciLosses).steered steer

/-- EPOCH_MARKER_MISALIGNED (R106): the marker's place in the lane's own epoch, −100..+99 laps; the alignment stays. A marker at lap
0 shows no offset. -/
def Lane.markerMisaligned (l : Lane) : Lane :=
  if !l.pacer.laps then l
  else if l.lapIn = 0 then l.setp Pc.epochMisaligned 0
  else
    let ofs : Int := if l.lapIn < 100 then (l.lapIn : Int) else (l.lapIn : Int) - 200
    (l.setp Pc.epochMisaligned ofs).fire 85 0 [l.pcState]

/-- BAND_SEARCH_LOCK (R98): the inner PLL locks in the band nearest mid-range; it never relocks while laps run. -/
def Lane.bandLock (band : Nat) (l : Lane) : Lane :=
  if l.pacer.laps || !l.power.fastOn then l
  else ((l.setp Pc.band (band % 16)).pacerTo pcSearch).pac (fun x => { x with locked := true })

/-- ACQUIRE_COMPLETE (R101): the frequency, and where the source gives it the lap phase, has reached the source; the
measured offsets are shown. -/
def Lane.acquireComplete (steer : Bool) (freq phase : Int) (l : Lane) : Lane :=
  if steer = false ∨ l.pcState ≠ pcAcquire ∨ l.sourceOk = false then l
  else
    let l1 := (l.setp Pc.freqOffset freq).setp Pc.phaseError phase
    if l.c Pc.pacerSource = 3 ∧ l.pacer.synciOk = false then l1.pacerTo pcRefHold else l1.pacerTo pcTrack

/-- HOLDOVER_EXPIRY (R101): after 10 s. -/
def Lane.holdoverExpiry (steer : Bool) (l : Lane) : Lane :=
  if steer = true ∧ l.pcState = pcHoldover ∧ l.pacer.enteredLap + 2000000 ≤ l.lap then l.pacerTo pcReturn else l

/-- RETURN_COMPLETE (R101): the frequency is nominal. DESIGN CHOICE (log entry 111): in `ACQUIRE` and `RETURN`, where the rules bound the
rate alone, `freq_offset` and `phase_error` show the values at entry, and take the final ones as the state ends. -/
def Lane.returnComplete (steer : Bool) (l : Lane) : Lane :=
  if steer = true ∧ l.pcState = pcReturn then (l.setp Pc.freqOffset 0).pacerTo pcFree else l

/-- The Pacer at an epoch boundary (R95, R101): a committed change of `pacer_source`, or a source that was qualified already as laps
started. -/
def Lane.pacerConfig (steer : Bool) (l : Lane) : Lane :=
  let s := l.c Pc.pacerSource
  let l1 := l.pac (fun x => { x with source := s })
  if !steer then l1
  else if s = l.pacer.source then l1.pacerCheck
  else
    if s = 0 then (if l.pcState = pcFree then l1 else l1.pacerTo pcReturn)
    else if l1.sourceOk then l1.pacerTo pcAcquire
    else if l.pcState = pcFree then l1 else l1.pacerTo pcHoldover

/-- What the mailboxes keep only in DRAM is lost (R471, R473); every ring expects `seq` 1. -/
def Lane.hostLost (l : Lane) : Lane :=
  let ring := fun (q : Ring) => ({ q with
    nextSeq := 1, nextRsp := 1, ackSeq := 0, held := [], inProgress := [], takes := [], lastTaken := 0, ackSent := 0
    unreached := [], history := [], entries := [], waiting := []
    staging := [], subs := q.subs.map (fun b => { b with full := true, pending := [], skipped := 0 }) } : Ring)
  { l with
    host := { l.host with
      rings := l.host.rings.map (fun e => (e.1, ring e.2)), taken := [], notices := [], forward := []
      mirrored := [], commits := [], trial := none, waitingReads := [], resets := [], memberCalls := [], memberParts := [] }
    imgs := [], sealing := none, sealDone := false }

/-- A session that the loss of DRAM interrupted (log entry 32): what its record needs stays, and it goes on in `OPEN`, or in
`UNLATCH` where no contactor had been asked for; holds and blocks stay. -/
def Lane.sessionLost (o : Nat) (l : Lane) : Lane :=
  let x := l.out o
  let s := l.ss o
  let l1 := l.setOut o { ({} : OutletSt) with
    holds := x.holds, hostBlock := x.hostBlock, faulted := x.faulted, takeovers := x.takeovers, latchCmd := x.latchCmd
    evccid := x.evccid, contractId := x.contractId, idMode := x.idMode, stepLap := l.lap, lastReq := l.lap }
  if s = ssIdle ∨ s = ssBlocked then l1
  else l1.setp (Out.sessionStep o) (if ssConnect ≤ s ∧ s ≤ ssOpen then ssOpen else ssUnlatch)

/-- What the plant blocks keep only in DRAM is lost as a lane starts again from reset (R473; log entry 32): packs are in `IDLE`
and their phases parked, histories, means, allocations and sensor readings are gone. Generations, counters, removals and what NV
holds stay. -/
def Lane.plantLost (l : Lane) : Lane :=
  let l1 := (l.forL (UMap.keys l.outs) Lane.sessionLost)
  let l2 := l1.forN 64 (fun k l =>
    if l.p (Pk.packState k) = pkIdle then l else ((l.setp (Pk.packState k) pkIdle).setp (Pk.target k) 0))
  let l3 := (l2.setp Al.allocEndLapMax 0).forL ((cfgUnits l.cfg (Ph.pack 0) 512 128).map Prod.fst) (fun p l =>
    let l1 := if l.switching p then l.setp (Ph.memberState p) msParked else l
    if l1.p (Ph.weight p) = 0 then l1 else l1.setp (Ph.weight p) 0)
  { l3 with
    phases := (l3.phases.map (fun e => (e.1, { ({} : PhaseSt) with
        gen := e.2.gen, tripMs := e.2.tripMs, limited := e.2.limited, falseHeld := e.2.falseHeld, lost := e.2.lost, cut := e.2.cut, excluded := e.2.lost && e.2.excluded }))).filter
      (fun e => decide (e.2 ≠ {}))
    packs := (l3.packs.map (fun e => (e.1, { ({} : PackSt) with gen := e.2.gen }))).filter (fun e => decide (e.2 ≠ {}))
    slots := [], engine := {}, alloc := {}, pools := [], means := [], sums := [], hist := l3.hist
    cools := (l3.cools.map (fun e => (e.1, { ({} : CoolSt) with th1 := e.2.th1, th2 := e.2.th2, saved := e.2.saved }))).filter
      (fun e => decide (e.2 ≠ {}))
    can := (l3.can.map (fun e => (e.1, { ({} : CanBus) with bank := e.2.bank, asleep := e.2.asleep }))).filter
      (fun e => decide (e.2 ≠ {})) }

/-- LAPS_START (R107 to R109): after lock, a lane beside one whose laps run starts with that lane's numbers at its epoch
marker; else it starts at the next epoch of its always-on counter, at nominal frequency, or in `TRACK` at that of the source, which
no rule states: there `freq_offset` and `phase_error` are free values within the bounds of R99 and R101 (log entry 73). The start
corrects an epoch offset (R106). What the start fires the other lane fires too (R89, R100), so the lane maps its events as a computing lane
beside it does. DESIGN CHOICE (log entry 110): beside a lane whose laps run the start takes that lane's present lap, which may lie
inside an epoch; and team time, which stands still while no laps run, goes on from where it stood unless a lane beside has it. -/
def State.lapsStart (i : LaneId) (s : State) : State :=
  let l := s.lane i
  let o := s.lane i.other
  if l.pacer.laps || !l.pacer.locked || !l.power.fastOn || !l.present || l.link.parked || l.link.mismatchCart then s
  else
    let src := l.c Pc.pacerSource
    let own : Int := if (src = 2 ∨ src = 3) ∧ l.pacer.synciOk = true then pcTrack else if src = 0 then pcFree else pcHoldover
    let st := if o.active then o.pcState else own
    let n := if o.lapping then o.lap else 200 * (l.pacer.aoEpoch + 1)
    let freq : Int := if o.active then o.p Pc.freqOffset
      else if own = pcTrack then (Config.freeValue s.free % 400001 : Nat) - 200000 else 0
    let phase : Int := if o.active then o.p Pc.phaseError
      else if own = pcTrack then (Config.freeValue (s.free + 1) % 10001 : Nat) - 5000 else 0
    let s1 := ({ s with free := s.free + 2 } : State).onLane i (fun _ => true) (fun _ _ l =>
      let cap : Nat := if o.lapping then o.pn D0.capability else capabilityWord s.chassis.variant false false
      let l0 : Lane := ({ l with lap := n, host := { l.host with evMap := if o.active then o.host.evMap else l.host.evMap } } : Lane).setp
        D0.capability cap
      let l1 := if decide (l.power.power = 5) && l.link.booted then l0 else l0.hostLost.plantLost
      let l2 := l1.pac (fun x => { x with
        laps := true, source := src, aoEpoch := n / 200 })
      let l3 := if s.chassis.variant.team && decide (l2.p Pc.ptpState = 0) then l2.setp Pc.ptpState 1 else l2
      -- the offset from the team epoch is set anew once laps have started, and kept while they run (R408)
      let l4 := if o.lapping then l3.takeTime o
        else l3.forN 8 (fun k l => if (l.lvl k).offsetSet then l.setLvl k { l.lvl k with offsetSet := false } else l)
      let l5 := ((l4.setp Pc.freqOffset freq).setp Pc.phaseError phase).setp Pc.epochMisaligned 0
      (({ l5 with safe := { l5.safe with startLap := n }, met := { l5.met with follows := false } } : Lane).pacerTo st).linksUp |>.telegramsFrom l5.safetyMembers)
    (s1.alsoFire i s).bootedLane i

/-- The pulse density of LOCKA in per cent (R100, R103): 0 where the lane does not hold the baton. -/
def Lane.lockaPercent (l : Lane) : Nat :=
  if !l.link.grant || !l.pacer.laps then 0
  else if l.pcState = pcFree ∨ l.pcState = pcTrack then 80
  else if l.pcState = pcSearch then 0 else 50

/-- The width of the lap's starter pulse on SYNCO in oscillator periods (R104): wider at lap 0 of an epoch; 0 where the lane does not
drive SYNCO (R23). -/
def Lane.syncoPeriods (l : Lane) : Nat :=
  if !l.link.grant || !l.pacer.laps then 0 else if l.lapIn = 0 then 8 else 4

/-- ASLEEP_EPOCH_TICK (R65, R367). -/
def Lane.asleepTick (l : Lane) : Lane :=
  if l.power.power = 4 ∧ l.power.aoOn = true then (l.pac (fun x => { x with aoEpoch := x.aoEpoch + 1 })).powerMs else l

/-! ### Team time (R110 to R112) -/

/-- A correction of the time of day (R111): up to 1 ms is slewed, more is stepped with event 124. -/
def Lane.correctTime (target : Int) (l : Lane) : Lane :=
  let d := target - l.pacer.teamTime
  if (absN d : Int) ≤ 1000000 then l.pac (fun x => { x with todSlew := d })
  else (l.pac (fun x => { x with teamTime := target, todSlew := 0 })).fire 124 0 [l.pacer.teamTime, target]

/-- Whether the controller takes its time from another clock (R110). -/
def Lane.ptpFollows (l : Lane) : Bool := decide (l.p Pc.ptpState = 2) || decide (l.p Pc.ptpState = 4)

/-- TOD_SET_WRITE (R111): kept for the next epoch boundary; a controller that follows a grandmaster takes no time of its
own. -/
def Lane.todSet (v : Int) (l : Lane) : Lane :=
  if l.ptpFollows then l else l.pac (fun x => { x with todPending := some v })

/-- The epoch boundary's part of R111: a pending value is taken, and a slew goes on at 100 ns in each epoch. -/
def Lane.todEpoch (l : Lane) : Lane :=
  let l1 := match l.pacer.todPending with
    | some v => (l.pac (fun x => { x with todPending := none })).correctTime v
    | none => l
  let d := clampI (-100) 100 l1.pacer.todSlew
  l1.pac (fun x => { x with teamTime := x.teamTime + d, todSlew := x.todSlew - d })

/-- Whether a master with priority and clock is better than another (R110): the default algorithm on the two values in which
controllers differ. -/
def betterMaster (p c q d : Nat) : Bool := decide (p < q) || (decide (p = q) && decide (c < d))

/-- Three Announce intervals of 1 s: a master silent for so long is dropped (R411; PRESUMED, log entry 47). -/
def announceTimeout : Nat := 600000

/-- A controller whose own priority has become the best, or whose best master has fallen silent, is the grandmaster (R110, R411). -/
def Lane.ptpOwn (l : Lane) : Lane :=
  match l.pacer.best with
  | some (q, d, _) =>
    if betterMaster q d (l.cn Pc.ptpPriority1) l.serial = true ∧ l.lap < l.pacer.bestLap + announceTimeout then l else (l.pac (fun x => { x with best := none })).ptpTo 3
  | none => l.ptpTo 3

/-- PTP_MESSAGE (R110): the delay of a peer belongs to its port, and time is taken on the port of the best master only; another
port that hears it is passive. -/
def Lane.ptpMessage (port : Nat) (m : PtpMessage) (l : Lane) : Lane :=
  if l.p Pc.ptpState = 0 then l
  else
    match m with
    | .announce domain priority clock =>
      if domain ≠ l.cn Pc.ptpDomain then l
      else if !betterMaster priority clock (l.cn Pc.ptpPriority1) l.serial then
        match l.pacer.best with
        | none => l.ptpTo 3
        | some (_, d, _) => if clock = d then (l.pac (fun x => { x with best := none })).ptpTo 3 else l.ptpOwn
      else
        match l.pacer.best with
        | none => (l.pac (fun x => { x with best := some (priority, clock, port), bestLap := l.lap })).ptpTo 2
        | some (q, d, k) =>
          if clock = d ∧ port ≠ k then l.ptpTo 4
          else if clock = d then l.pac (fun x => { x with best := some (priority, clock, port), bestLap := l.lap })
          else if betterMaster priority clock q d then
            (l.pac (fun x => { x with best := some (priority, clock, port), bestLap := l.lap })).ptpTo 2
          else l
    | .sync domain clock timeNs =>
      if domain ≠ l.cn Pc.ptpDomain then l
      else
        match l.pacer.best with
        | some (_, d, k) =>
          if clock = d ∧ port = k ∧ l.ptpFollows = true then
            let t := timeNs + UMap.get (fun _ => 0) l.pacer.peerDelays port
            (l.setp Pc.ptpOffset (l.pacer.teamTime - t)).correctTime t
          else l
        | none => l
    | .pdelay delayNs => l.pac (fun x => { x with peerDelays := UMap.put (fun _ => 0) x.peerDelays port delayNs })

/-- PTP_SEND_INTERVAL (R110): 0 Sync, 1 Announce, 2 Pdelay_Req. A controller that has heard no better clock by its own
Announce is the grandmaster. -/
def Lane.ptpSend (kind : Nat) (l : Lane) : Lane :=
  if l.p Pc.ptpState = 0 then l
  else if kind = 0 then l.pac (fun x => { x with syncSeq := (x.syncSeq + 1) % 65536 })
  else if kind = 1 then
    (l.pac (fun x => { x with announceSeq := (x.announceSeq + 1) % 65536 })).ptpOwn
  else if kind = 2 then l.pac (fun x => { x with pdelaySeq := (x.pdelaySeq + 1) % 65536 })
  else l

end Sys2Proof.Machine
end

