-- ==== Sys2Proof/Machine/Power.lean ====
section
/-!
DEFINITION. Power states, sleep and wake, the timetable, cold starts and module restart (R455 to R477).
-/

namespace Sys2Proof.Machine

/-- The power block updated. -/
def Lane.pow (l : Lane) (f : PowerSt → PowerSt) : Lane := { l with power := f l.power }

/-- Every present lane's power block updated. -/
def State.powBoth (f : Lane → PowerSt → PowerSt) (s : State) : State :=
  s.eachLane Lane.present (fun _ _ l => l.pow (f l))

/-- Power-state codes of R458. -/
def pwStart : Nat := 0
def pwReady : Nat := 1
def pwRun : Nat := 2
def pwPrep : Nat := 3
def pwAsleep : Nat := 4
def pwWaking : Nat := 5

/-! ### Timetable (R467) -/

/-- An entry's lead in seconds: 0 selects `tt_lead_s`. -/
def Lane.ttLead (l : Lane) (e : TtEntry) : Nat := if e.leadS = 0 then l.cn Pw.ttLeadS else e.leadS

/-- The legal time in ms at which an entry falls due. -/
def Lane.ttDue (l : Lane) (e : TtEntry) : Int := (e.arrivalMs : Int) - (l.ttLead e : Int) * 1000

/-- The next due time of the entries that have not fallen due; 0 when none (R475). -/
def Lane.ttNext (l : Lane) : Int :=
  let ds := (l.power.tt.filter (fun e => !e.fired)).map l.ttDue
  match ds with
  | [] => 0
  | d :: t => t.foldl min d

/-- The timetable points (R475). -/
def Lane.ttShow (l : Lane) : Lane := (l.setp Pw.ttEntries (l.power.tt.length : Nat)).setp Pw.ttNextDueMs l.ttNext

/-- Whether an entry falls due within `s` seconds (R462 cause 6, R465); none does while the legal clock is invalid (R467). -/
def Lane.ttWithin (l : Lane) (s : Nat) : Bool :=
  decide (l.p Cal.clockState ≠ 1) && l.power.tt.any (fun e => !e.fired && decide (l.ttDue e ≤ l.legalMs + (s : Int) * 1000))

/-- TIMETABLE_EXPIRY (R467): an entry is removed 1 h after its arrival. -/
def Lane.ttExpiry (id : Nat) (l : Lane) : Lane :=
  (l.pow (fun x => { x with tt := x.tt.filter (fun e =>
    !(decide (e.id = id) && decide ((e.arrivalMs : Int) + 3600000 ≤ l.legalMs))) })).ttShow

/-- The entry of an id that is due and has not fallen due yet; none while the legal clock is invalid. -/
def Lane.ttReady (l : Lane) (id : Nat) : Option TtEntry :=
  if l.p Cal.clockState = 1 then none
  else l.power.tt.find? (fun e => decide (e.id = id) && !e.fired && decide (l.ttDue e ≤ l.legalMs))

/-- An entry marked as having fallen due. -/
def Lane.ttFire (e : TtEntry) (l : Lane) : Lane :=
  (l.pow (fun x => { x with tt := x.tt.map (fun y => if y = e then { y with fired := true } else y) })).ttShow

/-! ### Sleep (R462 to R465) -/

/-- The sleep entry under way ended, and the request that began it answered (R464). -/
def State.cancelSleep (s : State) : State :=
  let go := fun (s : State) (req : Option Request) =>
    let s1 := s.powBoth (fun l x => { x with sleep := none, readySince := some l.epoch })
    match req with
    | some r => s1.answerBoth r (Reply.just 0x0702)
    | none => s1
  match s.a.power.sleep, s.b.power.sleep with
  | some p, _ => if p.committed then s else go s p.req
  | none, some p => if p.committed then s else go s p.req
  | none, none => s

/-- Whether an `FW_ACTIVATE` of this lane is in progress (R369); a whole-lane reset by R93 waits for its answer in the same field. -/
def Lane.activating (l : Lane) : Bool := match l.link.fwAnswer with | some r => decide (r.command ≠ 0x50) | none => false

/-- The lowest failing precondition of a sleep (R462), 0 where all hold. -/
def State.sleepCause (s : State) (l : Lane) : Nat :=
  let outlets := List.range s.chassis.variant.outlets
  let busy := fun (o : Nat) => decide (l.c (Out.outletEnable o) = 1) &&
    !((decide (l.ss o = ssIdle) || decide (l.ss o = ssBlocked)) && l.contactorsOpen o)
  let packs := (List.range s.chassis.variant.packs).any (fun k => decide (l.p (Pk.packState k) ≠ pkIdle))
  if outlets.any busy then 1
  else if packs then 2
  else if s.a.link.state = .resync ∨ s.b.link.state = .resync then 3
  else if l.keys.apply.isSome || s.a.activating || s.b.activating then 4
  else if !(usedLevels l.cfg).isEmpty || decide (l.c SafM.loopMode = 1) then 5
  else if l.ttWithin (l.cn Pw.sleepMinS) then 6
  else 0

/-- SLEEP_PRECHECK (R462): at lap 160 of the epoch before S. A failure answers `SLEEP_REFUSED` and is counted. -/
def State.sleepPrecheck (s : State) : State :=
  match s.holder with
  | none => s
  | some h =>
    let l := s.lane h
    match l.power.sleep with
    | none => s
    | some p =>
      if p.checked || decide (l.epoch + 1 ≠ p.epoch) || decide (l.lapIn ≠ 160) then s
      else
        let c := s.sleepCause l
        if c = 0 then s.powBoth (fun _ x => { x with sleep := x.sleep.map (fun q => { q with checked := true }) })
        else
          let s1 := s.eachLane Lane.active (fun _ _ l =>
            (l.inc Pw.sleepRefusals).pow (fun x => { x with sleep := none, readySince := some l.epoch }))
          match p.req with
          | some r => s1.answerBoth r { status := 0x0701, parts := [[(1, (c : Int))]] }
          | none => s1

/-- Staging areas and held commits discarded (R66). DESIGN CHOICE (log entry 74): a commit that is due and was not held when the sleep
point comes is dropped with them, unanswered and uncounted. -/
def Lane.discardStaged (l : Lane) : Lane :=
  let areas := (l.host.rings.filter (fun e => !e.2.staging.isEmpty)).length
  let held := (l.host.commits.filter (fun c => c.held)).length
  let rings : UMap Ring := l.host.rings.map (fun e => (e.1, { e.2 with staging := [] }))
  ({ l with host := { l.host with rings := rings, commits := [], trial := none } } : Lane).addp D0.sleepDiscards (areas + held : Nat)

/-- The datagram counters written to NV (R73, R302, R463). -/
def Lane.saveCounters (l : Lane) : Lane :=
  { l with host := { l.host with savedCounter := l.host.counters.map (fun e => (e.1, e.2.highest.toNat)) } }

/-- SLEEP_POINT (R463): at lap 4 of S the answer is sent, event 117 fires, and the entry can no longer be cancelled. -/
def State.sleepPoint (s : State) : State :=
  match s.holder with
  | none => s
  | some h =>
    match (s.lane h).power.sleep with
    | none => s
    | some p =>
      let l := s.lane h
      if !p.checked || p.committed || decide (l.epoch ≠ p.epoch) || decide (l.lapIn ≠ 4) then s
      else
        let n := s.chassis.variant.outlets
        let s1 := s.eachLane Lane.active (fun _ _ l =>
          let l1 := ((l.fire 117 0 [l.ttNext]).pow (fun x => { x with
            sleep := x.sleep.map (fun q => { q with committed := true }) })).saveCounters
          ((l1.discardStaged).coolSave l1.legalMs.toNat n).showBypass 1 true |>.showBypass 2 true)
        let s2 := { s1 with chassis := { s1.chassis with bypass1 := true, bypass2 := true } }
        (match p.req with
          | some r => s2.answerBoth r { status := st_OK, parts := [[(8, (p.epoch : Int))]] }
          | none => s2)

/-- SLEEP_WANT_DROP (R463): at lap 190 of S both lanes drop WANT; the lane that holds the baton is the keeper (R460). -/
def State.sleepWantDrop (s : State) : State :=
  s.eachLane Lane.active (fun s i l =>
    match l.power.sleep with
    | some p =>
      if p.committed && decide (l.epoch = p.epoch) && decide (l.lapIn = 190) then
        (l.lnk (fun x => { x with want := false })).pow (fun x => { x with keeper := decide (s.arbiter.grant = some i) })
      else l
    | none => l)

/-- What a lane keeps and stops as its fast clocks stop (R443, R451, R463, R473); of the keys in engines only the transport
keys of the enabled rings stay, in the always-on domain (R389). Every bus sleeps
(R425); the always-on domain keeps the filters of the safety lines filled (R321). -/
def Lane.fallAsleep (l : Lane) : Lane :=
  let l1 := (l.tuneAbort 6).met! (fun x => { x with follows := false })
  let l2 := ((l1.acqClose).forN 4 Lane.canSleep).inc Pw.sleeps
  let l3 := l2.lnk (fun x => { x with grant := false, want := false, booted := true, giveUp := none, releaseLap := none, liveLaps := [] })
  let slots := (List.range 32).filterMap (fun q =>
    let g := l.ring q
    if g.enabled && l.hostKey g.keySlot then some g.keySlot else none)
  let l4 := ({ l3 with keys := { l3.keys with copies := [], aoCopies := slots.eraseDups }
                       safe := { l3.safe with filled := true } } : Lane).pow (fun x => { x with
    power := pwAsleep, fastOn := false, sleep := none, wakeSeen := 0, asleepFrom := l.epoch + 1 })
  ((l4.refsOff.pac (fun x => { x with laps := false, locked := false, aoEpoch := l.epoch })).pacerTo pcSearch).linksDown

/-- Both mast ports started where the variant fits them (R432). -/
def Lane.mastStarts (v : Variant) (l : Lane) : Lane :=
  if v.mast then
    let l1 := (l.mastStart 0).mastStart 1
    { l1 with mast := { l1.mast with nodes := (l1.mast.nodes.map (fun e => (e.1, { e.2 with known := false }))).filter (fun e => decide (e.2 ≠ {})) } }
  else l

/-- Every enabled bus is up again after a wake (R468); event 72 + b fires (R425). -/
def Lane.busUp (b : Nat) (l : Lane) : Lane :=
  if l.c (Can.canEnable b) = 1 then l.canWake b else l.setBus b { l.bus b with asleep := false }

/-- Whether an epoch lies wholly in `ASLEEP` (R65). -/
def Lane.fellAsleep (l : Lane) (e : Nat) : Bool := l.power.asleep.any (fun r => decide (r.1 ≤ e ∧ e ≤ r.2))

/-- The snapshots that wait for an epoch which has fallen wholly in `ASLEEP` answered `EPOCH_ASLEEP` (R65). -/
def Lane.asleepReads (l : Lane) : Lane :=
  let gone := l.host.waitingReads.filter (fun w => l.fellAsleep w.epoch)
  let l1 : Lane := { l with host := { l.host with waitingReads := l.host.waitingReads.filter (fun w => !l.fellAsleep w.epoch) } }
  l1.forL gone (fun w l => l.answer w.req (Reply.just st_EPOCH_ASLEEP))

/-- A wake source recognised in `ASLEEP` starts both lanes that sleep (R466); completed acquisition records are still there (R451). -/
def State.startWake (source : Nat) (s : State) : State :=
  let absent := fun (i : LaneId) => !(s.lane i).present
  s.eachLane (fun l => l.present && decide (l.power.power = pwAsleep)) (fun s i l =>
    let l1 := l.pow (fun x => { x with
      power := pwWaking, fastOn := true, latched := none, wakeSeen := x.wakeSeen ||| 2 ^ (source - 1)
      wakeStartMs := l.legalMs, timing := true, wakeEvent := true
      keeper := x.keeper || (absent i.other && !(s.lane i).power.keeper)
      asleep := (x.asleepFrom, l.pacer.aoEpoch) :: x.asleep })
    let l2 : Lane := { l1.skipCounters with
      keys := { l1.keys with aoCopies := [] }, acq := { l1.acq with partition := l.cn Ta.acqPartitionMib, chans := [] } }.meterFresh
    ((l2.asleepReads.coolRestore l.legalMs.toNat (decide (l.p Cal.clockState ≠ 1)) s.chassis.variant.outlets).setp Pw.lastWakeSource
      source) |>.mastStarts s.chassis.variant |>.showAcq |>.forN 4 Lane.busUp)

/-- ASLEEP_ENTRY (R463): at the end of lap 199 of S. A wake source that fired since lap 4 starts the wake at once (R464). -/
def State.asleepEntry (sealIt : Lane → Lane) (s : State) : State :=
  let due := fun (l : Lane) => match l.power.sleep with
    | some p => p.committed && decide (l.epoch = p.epoch) && decide (l.lapIn = 199)
    | none => false
  if !(due s.a && s.a.active) && !(due s.b && s.b.active) then s
  else
    -- every lane enters state 1 (R356); the event is raised while the lanes still compute
    let note := fun (i : LaneId) (s : State) =>
      if (s.lane i).present ∧ (s.lane i).link.state ≠ .reset then s.fireBoth 83 i.num [(LaneState.reset.code : Int)] else s
    let s1 := (note .B (note .A s)).eachLane Lane.active (fun _ _ l => (sealIt l).fallAsleep)
    let go := fun (i : LaneId) (s : State) => if (s.lane i).present then s.laneTo i .reset .none else s
    let s2 := go .B (go .A s1)
    match s.a.power.latched, s.b.power.latched with
    | some k, _ => s2.startWake k
    | none, some k => s2.startWake k
    | none, none => s2

/-- Whether a wake source acts (R466): sources 1 to 5 need their bit of `wake_mask`. -/
def Lane.wakes (l : Lane) (source : Nat) : Bool :=
  if source = 0 ∨ 7 < source then false else if source ≤ 5 then bitAt (l.cn Pw.wakeMask) (source - 1) else true

/-- The lane that recognises a wake source (R466): lane A, or lane B where only that one is present or `ASLEEP`. -/
def State.wakeLane (s : State) : LaneId :=
  if s.a.present && (decide (s.a.power.power = pwAsleep) || !(s.b.present && decide (s.b.power.power = pwAsleep))) then .A else .B

/-- WAKE (R464, R466): in `ASLEEP` it starts both lanes; before the entry's point it cancels the entry; after it, it is
latched; during a wake it is noted. -/
def State.wake (source : Nat) (s : State) : State :=
  let l := s.lane s.wakeLane
  if !l.wakes source then s
  else if l.power.power = pwAsleep then s.startWake source
  else if l.power.power = pwWaking then s.powBoth (fun _ x => { x with wakeSeen := x.wakeSeen ||| 2 ^ (source - 1) })
  else
    match l.power.sleep with
    | none => s
    | some p =>
      if p.committed then
        s.powBoth (fun _ x => { x with latched := some (x.latched.getD source), wakeSeen := x.wakeSeen ||| 2 ^ (source - 1) })
      else s.cancelSleep

/-- KEEPER_TIMEOUT (R469): 3.0 s after the wake source the other lane becomes the keeper and raises WANT, whatever keeps the keeper from
doing so. -/
def State.keeperTimeout (s : State) : State :=
  let go := fun (i : LaneId) (s : State) =>
    let l := s.lane i
    let o := s.lane i.other
    if l.power.keeper = true ∧ l.link.want = false ∧ s.arbiter.grant = none
        ∧ o.present = true ∧ o.power.power = pwWaking ∧ o.power.wakeStartMs + 3000 ≤ o.legalMs ∧ o.power.keeper = false then
      let s1 := (s.onLane i (fun _ => true) (fun _ _ l => l.pow (fun x => { x with keeper := false }))).onLane i.other
        (fun _ => true) (fun _ _ l => l.pow (fun x => { x with keeper := true }))
      some (s1.bootedLane i.other)
    else none
  match go .A s with
  | some t => t
  | none => (go .B s).getD s

/-- TIMETABLE_DUE (R464, R466, R467): it is wake source 5. In `ASLEEP` and during a start its event follows; else event 118 fires. -/
def State.timetableDue (id : Nat) (s : State) : State :=
  let owed := fun (l : Lane) => decide (l.power.power = pwAsleep) || decide (l.power.power = pwWaking) || decide (l.power.power = pwStart)
  let k : LaneId := if s.a.alwaysOn then .A else .B
  match (s.lane k).ttReady id with
  | none => s
  | some e =>
    let s1 := s.eachLane Lane.alwaysOn (fun _ _ l =>
      let l1 := l.ttFire e
      if owed l then l1.pow (fun x => { x with ttOwed := x.ttOwed ++ [id] })
      else l1.fire 118 id [(l.ttLead e : Int)])
    s1.wake 5

/-- AUTO_SLEEP_START (R465). -/
def State.autoSleep (s : State) : State :=
  match s.holder with
  | none => s
  | some h =>
    let l := s.lane h
    let long := match l.power.readySince with
      | some e => decide (e + 1000 * l.cn Pw.sleepIdleS ≤ l.epoch)
      | none => false
    if l.c Pw.autoSleep = 1 ∧ l.power.power = pwReady ∧ l.power.sleep = none ∧ long = true ∧ l.ttWithin (l.cn Pw.sleepMinS) = false then
      s.eachLane Lane.active (fun _ _ l => l.pow (fun x => { x with sleep := some { epoch := l.epoch + 2, req := none } }))
    else s

/-! ### The power state of an epoch (R458, R459, R461) -/

/-- Whether an outlet is energised or a pack out of `IDLE`. -/
def State.runs (s : State) (l : Lane) : Bool :=
  (List.range s.chassis.variant.outlets).any (fun o => s.energised (3 + 3 * o) || s.energised (4 + 3 * o))
    || (List.range s.chassis.variant.packs).any (fun k => decide (l.p (Pk.packState k) ≠ pkIdle))

/-- Each lap that finds an outlet energised or a pack out of `IDLE` makes its epoch one of `RUN` (R459). -/
def State.noteRun (s : State) : State :=
  s.eachLane Lane.active (fun s _ l => if !l.power.ran && s.runs l then l.pow (fun x => { x with ran := true }) else l)

/-- The blocks whose clocks are stopped (R461); bits 0 to 3 are kept by SESSION_ENGINE_IDLE. -/
def Lane.gateClocks (mast : Bool) (l : Lane) : Lane :=
  let w := l.pn Pw.clockGate % 16
  let team := if (usedLevels l.cfg).isEmpty then 16 else 0
  let acq := if l.armed.isSome then 0 else 64
  let noMast := if mast && (List.range 16).any (fun n => nodeOn l.cfg (n + 1)) then 0 else 128
  l.setp Pw.clockGate (w + team + 32 + acq + noMast : Nat)

/-- The power state at the end of an epoch (R459), with the time of a start, which ends at its first grant (R475), and that of a wake,
which ends when the enabled stage links are `READY` besides (R468). -/
def State.powerEpoch (s : State) : State :=
  s.eachLane Lane.active (fun s _ l =>
    let x := l.power
    let starting := decide (x.power = pwStart) || decide (x.power = pwWaking)
    let st := if starting && s.arbiter.grant.isNone then x.power
      else if x.sleep.isSome then pwPrep
      else if x.ran || s.runs l then pwRun else pwReady
    let cold := decide (l.p Pw.lastWakeSource = 0)
    let timed := x.timing && s.arbiter.grant.isSome && (cold || l.hubsReady)
    let l1 := l.pow (fun y => { y with
      power := st, ran := false
      readySince := if st = pwReady then some (y.readySince.getD l.epoch) else none
      timing := y.timing && !timed })
    let ms : Int := l.legalMs - (if cold then x.coldStartMs else x.wakeStartMs)
    let l2 := if timed then
        if !cold then (l1.setp Pw.wakeMs ms).setp Pw.wakeMaxMs (max (l1.p Pw.wakeMaxMs) ms)
        else l1.setp Pw.startMs ms
      else l1
    ((l2.setp Pw.powerState st).gateClocks s.chassis.variant.mast).ttShow)

/-- The events owed since a wake, with the first image sealed after it (R467, R469). Every subscription is then full. -/
def Lane.wakeEvents (l : Lane) : Lane :=
  let l1 := if l.power.wakeEvent then
      let l2 := (l.fire 116 (l.pn Pw.lastWakeSource) [l.p Pw.lastWakeSource, (l.power.wakeSeen : Int), l.p D0.sleepDiscards]).pow
        (fun x => { x with wakeEvent := false })
      { l2 with host := { l2.host with rings := l2.host.rings.map (fun e =>
          (e.1, { e.2 with subs := e.2.subs.map (fun b => { b with full := true }) })) } }
    else l
  let l3 := l1.forL l1.power.ttOwed (fun id l =>
    match l.power.tt.find? (fun e => e.id == id) with
    | some e => l.fire 118 id [(l.ttLead e : Int)]
    | none => l.fire 118 id [])
  l3.pow (fun x => { x with ttOwed := [] })

/-! ### Cold start, supply and restart (R455, R457, R470 to R473) -/

/-- What a cold start loses (R471); every ring expects `seq` 1, and datagram counters follow R73. DESIGN CHOICE (log entry 103): a key slot
of which no counter was ever accepted or saved has no saved value to exceed. -/
def Lane.coldLoss (l0 : Lane) : Lane :=
  let l := l0.hostLost
  let slots := mergeKeys (UMap.keys l.host.counters) (UMap.keys l.host.savedCounter)
  let l := (l.setp Ta.traceState 0).setp Ta.tuneState 0
  let n : UMap CounterWindow := slots.foldl (fun m k => UMap.put (fun _ => {}) m k
    { highest := (UMap.get (fun _ => 0) l.host.savedCounter k + 2 ^ 20 : Nat) + 64, recent := [] }) []
  { l with
    host := { l.host with counters := n, outCounter := l.host.outCounter.map (fun e => (e.1, e.2 + 2 ^ 24)) }
    acq := { partition := l.cn Ta.acqPartitionMib }, trace := {}, tune := {}
    safe := { l.safe with startupHold := true, filled := false, resetHeld := false } }

/-- The fast domain of a lane starts as at a cold start (R451, R470). -/
def Lane.coldStart (v : Variant) (l : Lane) : Lane :=
  let l1 := (l.coldLoss).inc Pw.coldStarts
  let l2 := l1.pow (fun x => { x with
    fastOn := true, power := pwStart, sleep := none, keeper := false, coldStartMs := l.legalMs, timing := true
    latched := none, restart := none })
  ((l2.coolRestore l.legalMs.toNat (decide (l.p Cal.clockState ≠ 1)) v.outlets).setp Pw.lastWakeSource 0).setp
    Pw.powerState pwStart |>.keyPoints |>.mastStarts v |>.showAcq

/-- The random start of a lane's safety telegrams at a cold start (R341): an open value (log entry 12). -/
def State.drawSeq (i : LaneId) (s : State) : State :=
  ({ s with free := s.free + 1 } : State).onLane i (fun _ => true) (fun _ _ l =>
    l.safe! (fun x => { x with seqTx := Config.freeValue s.free % 4294967296 }))

/-- SUPPLY_GOOD (R455, R470): the input has been good for 100 ms and the hold-up suffices. The shut-down of a critical band
stays (R484). -/
def State.supplyGood (i : LaneId) (s : State) : State :=
  let l := s.lane i
  if !l.present || l.power.fastOn || l.therm.shut || decide (l.power.power = pwAsleep) && l.power.aoOn then s
  else (s.onLane i (fun _ => true) (fun s _ l => (l.pow (fun x => { x with aoOn := true })).coldStart s.chassis.variant)).drawSeq i

/-- A lane that loses its supply in `ASLEEP` (R457, R473): its DRAM is lost, and it makes a cold start once the supply returns. -/
def Lane.sleepLoss (l : Lane) : Lane := (l.pow (fun x => { x with power := pwStart })).lnk (fun x => { x with booted := false })

/-- SUPPLY_LOSS (R302, R457): the store is written, and the lane gives up or powers down. -/
def State.supplyLoss (i : LaneId) (s : State) : State :=
  if !(s.lane i).alwaysOn then s
  else
    let meters := (s.lane i.other).alwaysOn && (s.lane i.other).met.lossTicks.isNone
    let s0 := s.onLane i.other (fun _ => true) (fun _ _ l => l.met! (fun x => { x with partner := false }))
    let s1 := s0.onLane i (fun _ => true) (fun _ _ l =>
      let first := l.met.lossTicks.isNone
      let l1 := l.meterLoss.met! (fun x => { x with partner := if first then meters else x.partner })
      l1.saveCounters)
    if (s.lane i).power.power = pwAsleep then s1.onLane i (fun _ => true) (fun _ _ l => l.sleepLoss) else s1.diagnose i 3

/-- SUPPLY_RESTORE in a lane (R303): its metrology starts, and with it the always-on domain. -/
def Lane.powerBack (ms : Nat) (clockOk ok0 ok1 held : Bool) (l : Lane) : Lane :=
  if l.met.lossTicks.isNone then l else (l.meterRestore ms clockOk ok0 ok1 held).pow (fun x => { x with aoOn := true })

/-- BACKUP_STORE_EXHAUSTED (R296): the legal clock and the always-on domain stop; DRAM contents are lost. -/
def Lane.backupGone (l : Lane) : Lane :=
  if !l.met.lossTicks.isSome then l
  else
    ((({ l with safe := { l.safe with resetHeld := false } }.pow (fun x => { x with
      aoOn := false, fastOn := false, power := pwStart })).setp Cal.clockState 1).lnk
      (fun x => { x with booted := false, want := false, grant := false }))

/-- CRITICAL_RESTART (R484): the lane starts again as at a cold start. -/
def State.criticalRestart (i : LaneId) (s : State) : State :=
  if (s.lane i).mayRestart then
    (s.onLane i (fun _ => true) (fun s _ l =>
      (l.therm! (fun t => { t with shut := false, coolS := 0 })).coldStart s.chassis.variant)).drawSeq i
  else s

/-- LANE_UNPARK (R371, R484): the parked lane starts, with a cold start where its fast domain is off. -/
def cmdLaneUnpark (r : Request) : StateCmd := namedLane r (fun i s =>
  if r.len ≠ 0 then (s, some (Reply.just st_BAD_LENGTH))
  else if !(s.lane i).link.parked then (s, some (Reply.just st_NOT_PARKED))
  else
    let s1 := s.onLane i (fun _ => true) (fun s _ l =>
      let l1 := (l.lnk (fun x => { x with parked := false })).therm! (fun t => { t with shut := false, coolS := 0 })
      if l.power.fastOn then l1 else l1.coldStart s.chassis.variant)
    ((if (s.lane i).power.fastOn then s1 else s1.drawSeq i).fwStep i 4, some (Reply.ok [])))

/-- Whether a module restart is refused (R472). -/
def State.restartRefused (s : State) (l : Lane) : Bool :=
  (List.range s.chassis.variant.outlets).any l.contactorsClosed
    || (List.range s.chassis.variant.packs).any (fun k => decide (l.p (Pk.packState k) ≠ pkIdle))

/-- The answer to MODULE_RESTART at lap 4 of the epoch after its execution (R472). -/
def State.restartAnswer (s : State) : State :=
  let due := fun (l : Lane) => match l.power.restart with
    | some (e, r) => if l.active && !l.power.restartAnswered && decide (l.epoch = e) && decide (4 ≤ l.lapIn) then some r else none
    | none => none
  match due s.a, due s.b with
  | some r, _ => (s.powBoth (fun _ x => { x with restartAnswered := true })).answerBoth r (Reply.ok [])
  | none, some r => (s.powBoth (fun _ x => { x with restartAnswered := true })).answerBoth r (Reply.ok [])
  | none, none => s

/-- MODULE_RESTART_RESET (R472): at the end of the epoch after execution both lanes enter reset and start as at a cold
start; the always-on domains keep running. -/
def State.moduleRestart (s : State) : State :=
  let due := fun (l : Lane) => match l.power.restart with
    | some (e, _) => l.active && decide (l.epoch = e) && decide (l.lapIn = 199)
    | none => false
  if !due s.a && !due s.b then s
  else
    let go := fun (i : LaneId) (s : State) =>
      if (s.lane i).present && !(s.lane i).link.parked && (s.lane i).power.fastOn then
        ((s.laneReset i false).onLane i (fun _ => true) (fun s _ l =>
          (l.coldStart s.chassis.variant).pow (fun x => { x with restart := none, restartAnswered := false }))).drawSeq i
      else s
    let s1 := go .B (go .A s)
    let s2 := { s1 with chassis := { s1.chassis with bypass1 := true, bypass2 := true } }
    s2.eachLane Lane.present (fun _ _ l => (l.showBypass 1 true).showBypass 2 true)

/-! ### Commands (R476, R477) -/

/-- Status codes of R477. -/
def st_TT_FULL : Nat := 0x0703
def st_TT_RANGE : Nat := 0x0704
def st_RESTART_REFUSED : Nat := 0x0705

/-- SLEEP_ENTER (R462): S is two epochs on; the answer comes with the outcome. A second entry while one is under way finds
the function busy (log entry 85). -/
def cmdSleepEnter (r : Request) : StateCmd := fun s =>
  if r.len ≠ 0 then (s, some (Reply.just st_BAD_LENGTH))
  else if s.a.power.sleep.isSome || s.b.power.sleep.isSome then (s, some (Reply.just st_BUSY))
  else
    (s.eachLane Lane.active (fun _ _ l =>
      (l.pow (fun x => { x with sleep := some { epoch := l.epoch + 2, req := some r } })).setp Pw.powerState pwPrep), none)

/-- The entries of a TT_WRITE body. -/
def ttEntriesOf (r : Request) : List TtEntry :=
  (List.range (r.at_ 0 1)).map (fun k =>
    { id := r.at_ (8 + 16 * k) 2, leadS := r.at_ (10 + 16 * k) 2, arrivalMs := r.at_ (16 + 16 * k) 8 })

/-- One entry written: arrival 0 deletes the id, an existing id is replaced. -/
def ttPut (tt : List TtEntry) (e : TtEntry) : List TtEntry :=
  let rest := tt.filter (fun x => x.id != e.id)
  if e.arrivalMs = 0 then rest else rest ++ [e]

/-- TT_WRITE (R467, R476): all entries or none. -/
def Lane.cmdTtWrite (r : Request) (l : Lane) : Lane × Reply :=
  let n := r.at_ 0 1
  if r.len < 8 ∨ n = 0 ∨ 13 < n ∨ r.len ≠ 8 + 16 * n then (l, Reply.just st_BAD_LENGTH)
  else
    let es := ttEntriesOf r
    let bad := fun (e : TtEntry) => decide (e.arrivalMs ≠ 0) &&
      (decide ((e.arrivalMs : Int) ≤ l.legalMs) || decide (l.legalMs + 400 * 86400000 < (e.arrivalMs : Int)) || decide (3600 < e.leadS))
    let tt := es.foldl ttPut l.power.tt
    if es.any bad then (l, Reply.just st_TT_RANGE)
    else if 64 < tt.length then (l, Reply.just st_TT_FULL)
    else ((l.pow (fun x => { x with tt := tt })).ttShow, Reply.ok [])

/-- The entries in order of due time. -/
def Lane.ttSorted (l : Lane) : List TtEntry :=
  sortBy (fun a b => decide (l.ttDue a ≤ l.ttDue b)) l.power.tt

/-- TT_READ (R476): parts of 13 entries, each with the next due time. -/
def Lane.cmdTtRead (r : Request) (l : Lane) : Lane × Reply :=
  if r.len ≠ 1 then (l, Reply.just st_BAD_LENGTH)
  else
    let es := l.ttSorted.drop (r.at_ 0 1)
    let fields := fun (e : TtEntry) => ([(2, (e.id : Int)), (2, (e.leadS : Int)), (4, 0), (8, (e.arrivalMs : Int))] : List Field)
    (l, { status := st_OK, parts := partsOr [(8, l.ttNext)] ((chunks 13 es).map (fun c => (c.map fields).flatten ++ [(8, l.ttNext)])) })

/-- TT_CLEAR (R476). -/
def Lane.cmdTtClear (r : Request) (l : Lane) : Lane × Reply :=
  if r.len ≠ 0 then (l, Reply.just st_BAD_LENGTH)
  else ((l.pow (fun x => { x with tt := [] })).ttShow, Reply.ok [])

/-- POWER_STATUS (R476). -/
def cmdPowerStatus (r : Request) : StateCmd := fun s =>
  if r.len ≠ 0 then (s, some (Reply.just st_BAD_LENGTH))
  else
    let l := if s.arbiter.grant = some .B then s.b else s.a
    let keeper : Int := if s.a.power.keeper then 1 else if s.b.power.keeper then 2 else 0
    (s, some (Reply.ok [(0, l.p Pw.powerState), (0, s.a.p Pw.pwrInMv), (0, s.a.p Pw.holdupMs), (0, s.b.p Pw.pwrInMv),
      (0, s.b.p Pw.holdupMs), (0, l.ttNext), (0, l.p Pw.lastWakeSource), (0, l.p Pw.wakeMs), (0, keeper)]))

/-- MODULE_RESTART (R472): the answer comes at lap 4 of the next epoch. A second one before the reset finds the function busy (log entry
85). -/
def cmdModuleRestart (r : Request) : StateCmd := fun s =>
  let l := if s.arbiter.grant = some .B then s.b else s.a
  if r.len ≠ 0 then (s, some (Reply.just st_BAD_LENGTH))
  else if l.power.restart.isSome then (s, some (Reply.just st_BUSY))
  else if s.restartRefused l then (s, some (Reply.just st_RESTART_REFUSED))
  else (s.powBoth (fun _ x => { x with restart := some (l.epoch + 1, r), restartAnswered := false }), none)

end Sys2Proof.Machine
end

