-- ==== Sys2Proof/Machine/Commit.lean ====
section
/-!
DEFINITION. Staging and commit: what a write is checked against when it is staged (R52), the preconditions and validation
groups of a commit (R55 to R58, R142, R170, R177, R178, R201, R251, R339, R394, R423, R529), and the bank swap at the
epoch boundary (R56, R59, R60, R172).
-/

namespace Sys2Proof.Machine

/-! ### Addresses (R9, R42) -/

/-- The member index of a point address. -/
def addrMember (a : Nat) : Nat := bitsAt a 22 20

/-- Domain and index of a point address. -/
def addrPoint (a : Nat) : Nat := a % 0x100000

/-- The lane that a domain 9 address selects, by bit 15; lane A for other domains. -/
def addrLane (a : Nat) : LaneId := if addrPoint a / 0x10000 = 9 ∧ bitAt a 15 = true then .B else .A

/-- The key under which a point is held: domain 9 without bit 15. -/
def addrKey (a : Nat) : Nat := if addrPoint a / 0x10000 = 9 then 0x90000 + a % 0x8000 else addrPoint a

/-- The key under which a configuration write is held: `health_mask` is each lane's own (R367). -/
def cfgKey (a : Nat) : Nat := if addrKey a = Hp.healthMask then addrPoint a else addrKey a

/-- Whether an address lies outside every domain of R10, or has a bit above bit 22, which no address of R9 has (DESIGN CHOICE, log
entry 63). -/
def addrBad (a : Nat) : Bool := decide (0x800000 ≤ a) || decide (0xA0000 ≤ addrPoint a)

/-- The value that 8 bytes carry for a point of a type (R39, R40). -/
def ofRaw (type : Nat) (raw : Nat) : Int :=
  if type = 2 ∨ type = 5 ∨ type = 6 then (if raw < 2 ^ 32 then wrapS 32 raw else wrapS 64 raw)
  else if type = 4 then wrapS 64 raw else (raw : Int)

/-! ### Field maps checked at staging (R52) -/

/-- `entry_hi` (R163): a used entry has form 1 or 2, a decimation up to 10, an offset below 2^DECIM and a reference mode of
the table; a free entry is 0. -/
def entryHiOk (w : Nat) : Bool :=
  if enValid w then
    (decide (enForm w = 1) || decide (enForm w = 2)) && decide (enDecim w ≤ 10) && decide (enPhaseOfs w < 2 ^ enDecim w)
      && decide (enRefMode w ≤ 7)
  else decide (w = 0)

/-- `entry_lo` (R163). -/
def entryLoOk (w : Nat) : Bool :=
  decide (enFbMode w ≤ 6) && decide (enDest w ≠ 3) && decide (bitsAt w 15 11 = 0)

/-- A sensor descriptor (R218). -/
def srcOk (w : Nat) : Bool :=
  decide (bitsAt w 22 17 + 2 ≤ 64) && decide (10 ≤ bitsAt w 14 0) && decide (bitsAt w 14 0 ≤ 10000)

/-- A CAN identifier word: with IDE 0 bits 28..11 are 0. -/
def canIdOk (w : Nat) : Bool := bitAt w 30 || decide (bitsAt w 28 11 = 0)

/-- Days of a month, February with 29. -/
def monthDays (m : Nat) : Nat := if m = 2 then 29 else if m = 4 ∨ m = 6 ∨ m = 9 ∨ m = 11 then 30 else 31

/-- A switch point (R294). -/
def daySwOk (w : Nat) : Bool := decide (bitsAt w 26 16 ≤ 1439) && decide (bitsAt w 30 27 = 0) && decide (bitsAt w 15 3 = 0)

/-- A season start (R294). -/
def seasonOk (w : Nat) : Bool :=
  decide (bitsAt w 30 12 = 0) && decide (bitsAt w 7 5 = 0)
    && (!bitAt w 31 || (decide (1 ≤ bitsAt w 11 8 ∧ bitsAt w 11 8 ≤ 12)
      && decide (1 ≤ bitsAt w 4 0 ∧ bitsAt w 4 0 ≤ monthDays (bitsAt w 11 8))))

/-- A special day (R294). -/
def specialOk (w : Nat) : Bool :=
  decide (bitsAt w 30 28 = 0) && decide (bitsAt w 6 5 = 0)
    && (!bitAt w 31 || ((decide (bitsAt w 27 16 = 0) || decide (2000 ≤ bitsAt w 27 16))
      && decide (1 ≤ bitsAt w 15 12 ∧ bitsAt w 15 12 ≤ 12)
      && decide (1 ≤ bitsAt w 11 7 ∧ bitsAt w 11 7 ≤ monthDays (bitsAt w 15 12))))

/-- A pulse output source (R281): kinds 0 to 2, a point of the kind, DC quantities 0 and 1. -/
def poSourceOk (w : Nat) : Bool :=
  decide (bitsAt w 27 21 = 0) && decide (bitsAt w 15 4 = 0)
    && (if bitsAt w 31 28 = 0 then true
      else if bitsAt w 31 28 = 1 then decide (bitsAt w 20 16 ≤ 7) && decide (bitsAt w 3 0 ≤ 7)
      else decide (bitsAt w 31 28 = 2) && decide (bitsAt w 3 0 ≤ 1))

/-- A display item (R315). -/
def scrollOk (w : Nat) : Bool :=
  let k := bitsAt w 31 24
  let p := bitsAt w 23 0
  if k = 3 then decide (bitsAt w 22 21 = 0) && decide (bitsAt w 15 12 = 0) && decide (bitsAt w 7 4 = 0)
    && decide (bitsAt w 3 0 ≤ 8) && (if bitAt w 23 then decide (bitsAt w 11 8 ≤ 1) else decide (bitsAt w 11 8 ≤ 7 ∧ bitsAt w 20 16 ≤ 7))
  else if k = 4 then decide (bitsAt w 22 21 = 0) && decide (bitsAt w 15 4 = 0) && decide (bitsAt w 3 0 ≤ 8)
    && (bitAt w 23 || decide (bitsAt w 20 16 ≤ 7))
  else if k = 7 ∨ k = 8 then decide (p ≤ 2) else decide (k ≤ 12) && decide (p = 0)

/-- An acquisition source (R446). -/
def acqSrcOk (w : Nat) : Bool :=
  let sel := bitsAt w 22 0
  decide (bitsAt w 27 23 = 0) &&
  (match bitsAt w 31 28 with
  | 0 => decide (sel = 0)
  | 1 => decide (sel < 0xA0000) && (pointAt (addrKey sel)).isSome
  | 2 => decide (sel < 2 ^ 15) && !bitAt sel 11 && decide (bitsAt sel 14 12 ≤ 6)
  | 3 => decide (sel < 2 ^ 10) && (decide (bitsAt sel 9 5 ≤ 4) || decide (16 ≤ bitsAt sel 9 5))
  | 4 => decide (sel ≤ 91)
  | _ => false)

/-- The conditions that field maps and chapters set for a value besides its range, by address. -/
def fieldOk (a : Nat) (v : Int) : Bool :=
  let w := v.toNat
  let idx := a % 0x10000
  match a / 0x10000 with
  | 3 => if 0x412 ≤ idx % 2048 ∧ idx % 2048 < 0x419 then srcOk w else true
  | 5 => if 0x8400 ≤ idx ∧ idx < 0x8500 ∧ idx % 64 = 0 then poSourceOk w else true
  | 6 =>
    if 0xC000 ≤ idx ∧ idx < 0xC200 then daySwOk w
    else if 0xC200 ≤ idx ∧ idx < 0xC220 ∧ idx % 8 = 0 then seasonOk w
    else if 0xC240 ≤ idx ∧ idx < 0xC280 then specialOk w
    else if idx = 0xC300 then decide (60 % w = 0)
    else if 0xC310 ≤ idx ∧ idx < 0xC330 then scrollOk w
    else true
  | 8 => if idx % 32 = 0 then entryHiOk w else if idx % 32 = 1 then entryLoOk w else true
  | 9 =>
    if 0x0600 ≤ idx ∧ idx < 0x0640 then decide (bitsAt w 11 0 = 0)
    else if 0x0740 ≤ idx ∧ idx < 0x0744 then
      decide (bitsAt w 25 8 = 0) && decide (bitsAt w 30 28 ≤ 3) && decide (bitsAt w 27 26 ≤ 2)
        && (!bitAt w 31 || decide (1 ≤ bitsAt w 30 28))
    else if 0x0800 ≤ idx ∧ idx < 0x0810 then
      decide (bitsAt w 30 27 = 0) && decide (bitsAt w 15 3 = 0) && (!bitAt w 31 || decide (bitsAt w 26 16 % 2 = (idx - 0x0800) / 8))
    else if 0x2000 ≤ idx ∧ idx < 0x6000 then
      let f := idx % 0x1000
      if f = 0x002 then decide (w = 125 ∨ w = 250 ∨ w = 500 ∨ w = 1000)
      else if f = 0x003 then decide (w = 1000 ∨ w = 2000 ∨ w = 4000 ∨ w = 5000)
      else if f = 0x00A then canIdOk w && !bitAt w 31 && !bitAt w 29
      else if f = 0x00B then !bitAt w 31 && !bitAt w 29
      else if 0x100 ≤ f ∧ f < 0x180 ∧ f % 2 = 0 then canIdOk w && !bitAt w 29
      else if 0x200 ≤ f ∧ f < 0x280 then
        (if f % 2 = 0 then canIdOk w else decide (bitsAt w 29 7 = 0))
      else if 0x800 ≤ f then decide (w ≤ 63 ∨ w = 0xFE ∨ w = 0xFF)
      else true
    else if 0x6010 ≤ idx ∧ idx < 0x6020 then decide (bitsAt w 30 1 = 0)
    else if 0x7000 ≤ idx ∧ idx < 0x7400 ∧ idx % 4 = 0 then acqSrcOk w
    else true
  | _ => true

/-- Whether the address is a watch's `watch_addr`, which must name an assigned point (R91). -/
def watchAddrBad (key : Nat) (v : Int) : Bool :=
  decide (0x90900 ≤ key ∧ key ≤ 0x90917) && decide (key % 8 = 0)
    && (decide (0xA0000 ≤ v.toNat) || (pointAt (addrKey v.toNat)).isNone)

/-- The check of one staged or immediate write (R52): address, access, range and field conditions. `member` is the
controller's own member index. -/
def writeStatus (member a raw : Nat) : Nat :=
  if addrBad a then st_BAD_ADDRESS
  else if addrMember a ≠ member then st_UNIT_ABSENT
  else
    match pointAt (addrKey a) with
    | none => st_BAD_ADDRESS
    | some r =>
      if r.acc = .ro ∨ (r.acc = .rs ∧ addrLane a = .B ∧ addrKey a ≠ Hp.healthMask) then st_READ_ONLY
      else
        let v := ofRaw r.type raw
        if !r.inRange v || !fieldOk (addrKey a) v then st_RANGE
        else if watchAddrBad (addrKey a) v then st_BAD_ADDRESS
        else st_OK

/-! ### Trial configurations -/

/-- A configuration with writes applied in order (R55). -/
def applyWrites (m : UMap Int) (ws : List (Nat × Int)) : UMap Int :=
  ws.foldl (fun m w => UMap.put pointDefault m w.1 w.2) m

/-- Whether a commit writes a point. -/
def writesAt (ws : List (Nat × Int)) (a : Nat) : Bool := ws.any (fun w => w.1 == a)

/-- Whether a commit writes a point of an address range. -/
def writesIn (ws : List (Nat × Int)) (lo hi : Nat) : Bool := ws.any (fun w => decide (lo ≤ w.1 ∧ w.1 < hi))

/-- Whether a commit writes a lap-table entry. -/
def writesEntry (ws : List (Nat × Int)) : Bool :=
  ws.any (fun w => decide (0x80000 ≤ w.1 ∧ w.1 < 0x90000 ∧ w.1 % 32 ≤ 1))

/-- The lowest of a list of addresses, 0 for none. -/
def lowest : List Nat → Nat
  | [] => 0
  | a :: t => t.foldl min a

/-- The failing field of a rule (R55): the lowest involved field that the commit writes, else the lowest involved. -/
def failingField (ws : List (Nat × Int)) (involved : List Nat) : Nat :=
  match involved.filter (writesAt ws) with
  | [] => lowest involved
  | xs => lowest xs

/-! ### Preconditions (R55, R58) -/

/-- Calibration fields and compensation tables (R58, R266, R294): the configuration of AC and DC points and of pulse outputs, and of
the calendar the time zone, the clock limit, the dwell and the scroll list. -/
def sealedPoint (a : Nat) : Bool :=
  let idx := a % 0x10000
  (decide (a / 0x10000 = 5) && (decide (idx < 0x8000) || decide (0x8400 ≤ idx ∧ idx < 0x8500)))
    || (decide (a / 0x10000 = 6) && (decide (0xC302 ≤ idx ∧ idx ≤ 0xC304) || decide (0xC310 ≤ idx ∧ idx < 0xC330)))

/-- Whether a domain 7 field may not be written now (R58, R350). -/
def Lane.energisedPoint (l : Lane) (outlets : Nat) (a : Nat) : Bool :=
  let idx := a % 0x10000
  decide (a / 0x10000 = 7) &&
    (if idx < 0x8000 then !l.contactorsOpen (idx / 1024) else (List.range outlets).any (fun o => !l.contactorsOpen o))

/-- Whether a display item names a metering point that is not fitted (R7, R315). -/
def scrollAbsent (v : Variant) (w : Nat) : Bool :=
  (decide (bitsAt w 31 24 = 3) || decide (bitsAt w 31 24 = 4))
    && (if bitAt w 23 then decide (v.dcPoints ≤ bitsAt w 20 16) else decide (v.acPoints ≤ bitsAt w 20 16))

/-- Whether an acquisition source names a hub, an outlet's line or a point of a unit that is not fitted (R7, R446). -/
def acqSrcAbsent (v : Variant) (w : Nat) : Bool :=
  let sel := bitsAt w 22 0
  match bitsAt w 31 28 with
  | 1 => unitAbsent v sel
  | 3 => decide (v.ports ≤ bitsAt sel 4 0)
  | 4 => (decide (28 ≤ sel ∧ sel < 60) && decide (v.outlets ≤ sel - 28)) || (decide (60 ≤ sel) && decide (v.outlets ≤ sel - 60))
  | _ => false

/-- Whether a written value names a unit that is not fitted (R7, R170, R201, R281, R315, R446): the field that holds its number, or the one
that makes it count where the commit leaves the number as it is. DESIGN CHOICE (log entry 115): an AC point 8 to 15, which no variant
has, is absent too where `meter_kind` 1 names it. -/
def namesAbsent (v : Variant) (trial : UMap Int) (ws : List (Nat × Int)) (w : Nat × Int) : Bool :=
  let a := w.1
  let idx := a % 0x10000
  let n := w.2.toNat
  match a / 0x10000 with
  | 1 => decide (a = Ph.pack (idx / 128)) && decide (n ≠ 255) && decide (v.packs ≤ n)
  | 2 => decide (idx % 1024 = 0) && decide (n ≠ 255) && decide (v.outlets ≤ n)
  | 4 =>
    let x := idx / 256
    let by_ := fun (i j : Nat) (a : Nat) => decide (idx % 256 = i) || (decide (idx % 256 = j) && !writesAt ws a)
    (by_ 2 0 (Pool.outlet x) && decide (cfgAt trial (Pool.kind x) = 2) && decide (v.outlets ≤ (cfgAt trial (Pool.outlet x)).toNat)
        && decide ((cfgAt trial (Pool.outlet x)).toNat < 255))
      || (by_ 10 9 (Pool.meterIndex x) && decide (cfgAt trial (Pool.meterKind x) = 1)
        && decide (v.acPoints ≤ (cfgAt trial (Pool.meterIndex x)).toNat))
      || (decide (idx % 256 = 0) && decide (n = 3) && !v.team)
      || (decide (idx % 256 = 1) && decide (n = 0xFFFFFFFE) && !v.team)
  | 5 => decide (0x8400 ≤ idx ∧ idx < 0x8500) && decide (idx % 64 = 0)
      && ((decide (bitsAt n 31 28 = 1) && decide (v.acPoints ≤ bitsAt n 20 16))
        || (decide (bitsAt n 31 28 = 2) && decide (v.dcPoints ≤ bitsAt n 20 16)))
  | 6 => decide (0xC310 ≤ idx ∧ idx < 0xC330) && scrollAbsent v n
  | 8 =>
    let t := idx / 32
    if idx % 32 = 1 ∨ (idx % 32 = 0 ∧ writesAt ws (Slot.entryLo t) = false) then
      let hi := entryHi trial t
      let lo := entryLo trial t
      let u := enUnit lo
      enValid hi &&
        ((decide (enFbMode lo = 1 ∨ enFbMode lo = 2 ∨ enRefMode hi = 4 ∨ enDest lo = 1) && decide (v.phases ≤ u))
          || (decide (enFbMode lo = 3 ∨ enFbMode lo = 4 ∨ enRefMode hi = 5) && decide (v.packs ≤ u))
          || (decide (enFbMode lo = 5 ∨ enFbMode lo = 6 ∨ enRefMode hi = 6 ∨ enRefMode hi = 7 ∨ enDest lo = 2)
            && decide (v.outlets ≤ u)))
    else false
  | 9 => (decide (0x1000 ≤ idx ∧ idx < 0x1800) && decide (6 ≤ idx % 64 ∧ idx % 64 < 13) && decide (n ≠ 255) && decide (v.outlets ≤ n))
      || (decide (0x7000 ≤ idx ∧ idx < 0x7400 ∧ idx % 4 = 0) && acqSrcAbsent v n)
  | _ => false

/-- Whether a commit is one of those that R177 names. -/
def packCommit (ws : List (Nat × Int)) : Bool :=
  writesEntry ws || ws.any (fun w =>
    let idx := w.1 % 0x10000
    match w.1 / 0x10000 with
    | 1 => decide (w.1 = Ph.pack (idx / 128)) || decide (w.1 = Ph.iRated (idx / 128))
    | 2 => decide (w.1 = Pk.outlet (idx / 1024)) || decide (w.1 = Pk.tjDerate (idx / 1024)) || decide (w.1 = Pk.tjMax (idx / 1024))
    | 9 => decide (0x1000 ≤ idx ∧ idx < 0x1800) && decide (6 ≤ idx % 64 ∧ idx % 64 < 13)
    | _ => false)

/-- Outlets that a commit enables (R251). -/
def enabledBy (ws : List (Nat × Int)) : List Nat :=
  (List.range 32).filter (fun o => ws.any (fun w => decide (w.1 = Out.outletEnable o ∧ w.2 = 1)))

/-- Whether a commit is one that checks the rules on hubs' identity records (R529): one that R177 or R251 names. -/
def identityCommit (ws : List (Nat × Int)) : Bool := packCommit ws || !(enabledBy ws).isEmpty

/-- The phases bound to a pack in a configuration. -/
def boundPhases (m : UMap Int) : List Nat := (List.range 512).filter (fun p => (packOf m p).isSome)

/-- The fields whose rule needs a hub's record and lacks it: the bindings of unfitted phases and of phases on a hub of which
no record is known, and the enabling of an outlet that such phases serve (R529). -/
def Lane.identityLack (l : Lane) (trial : UMap Int) (ws : List (Nat × Int)) : List Nat :=
  let ps := if identityCommit ws then boundPhases trial else []
  let lacks := fun (p : Nat) => !(l.hub (p / 16)).idKnown || !l.fitted p
  let served := (enabledBy ws).filter (fun o => ((outletPacks trial o).flatMap (packPhases trial)).any lacks)
  (ps.filter lacks).map Ph.pack ++ served.map Out.outletEnable

/-- Phases whose pack or selector a commit changes (R178). -/
def movedPhases (old trial : UMap Int) : List Nat :=
  (List.range 512).filter (fun p => decide (cfgAt old (Ph.pack p) ≠ cfgAt trial (Ph.pack p))
    || decide (selectorOf old p ≠ selectorOf trial p))

/-- A disarmed phase. -/
def Lane.disarmed (l : Lane) (p : Nat) : Bool := !(l.phase p).arm && !bitAt (l.hub (p / 16)).armed (p % 16)

/-- Whether a commit that sets `test_mode` finds the hub's phases armed or its selectors in use (R142). -/
def Lane.testModeBad (l : Lane) (w : Nat × Int) : Bool :=
  let h := (w.1 % 0x10000 - 0x1000) / 64
  decide (0x91000 ≤ w.1 ∧ w.1 < 0x91800) && decide (w.1 = Hub.testMode h) && decide (w.2 = 1)
    && (List.range 16).any (fun i => !l.disarmed (16 * h + i) || decide (selectorOf l.cfg (16 * h + i) ≠ 0))

/-- The points that a commit writes whose change R178 guards. -/
def matrixWrites (ws : List (Nat × Int)) : List Nat :=
  (ws.filter (fun w =>
    let idx := w.1 % 0x10000
    match w.1 / 0x10000 with
    | 1 => decide (w.1 = Ph.pack (idx / 128))
    | 2 => decide (idx % 1024 = 0)
    | 9 => decide (0x1000 ≤ idx ∧ idx < 0x1800) && decide (6 ≤ idx % 64 ∧ idx % 64 < 13)
    | _ => false)).map Prod.fst

/-- The preconditions in order: status and the fields that fail it, `OK` where all hold (R55). -/
def Lane.preconditions (v : Variant) (sealOpen : Bool) (l : Lane) (state trial : UMap Int) (ws : List (Nat × Int)) :
    Nat × List Nat :=
  let sealBad := (ws.filter (fun w => sealedPoint w.1)).map Prod.fst
  let live := (ws.filter (fun w => l.energisedPoint v.outlets w.1)).map Prod.fst
  let absent := (ws.filter (fun w => unitAbsent v w.1 || namesAbsent v trial ws w)).map Prod.fst
  let lack := l.identityLack trial ws
  let test := (ws.filter l.testModeBad).map Prod.fst
  let mw := matrixWrites ws
  let moved := if mw.isEmpty then [] else (movedPhases state trial).filter (fun p => !l.disarmed p)
  let guards := fun (p : Nat) => Ph.pack p :: ((packOf state p).toList ++ (packOf trial p).toList).map Pk.outlet
    ++ (List.range 7).map (fun i => Hub.busOutlet (p / 16) 0 + i)
  let armed := test ++ (moved.flatMap guards).filter mw.contains
  if !sealOpen && !sealBad.isEmpty then (st_SEALED, sealBad)
  else if !live.isEmpty then (st_OUTLET_ENERGISED, live)
  else if !(absent ++ lack).isEmpty then (st_UNIT_ABSENT, absent ++ lack)
  else if !armed.isEmpty then (st_ARMED, armed)
  else (st_OK, [])

/-! ### Validation groups (R57). A rule answers with the fields that its failing instances involve, none where it holds. -/

/-- Group 1, slot cascade (R170, R251), but for its rule on hubs' records. `old` is the configuration in force. -/
def groupCascade (old before m : UMap Int) (ws : List (Nat × Int)) : List (List Nat) :=
  let ts := validSlots m
  let ref := fun (t : Nat) => enRefSlot (entryHi m t)
  let entry := fun (t : Nat) => [Slot.entryHi t, Slot.entryLo t]
  let used := fun (s : Nat) => enValid (entryHi m s)
  let bad1 := ts.filter (fun t => let md := enRefMode (entryHi m t)
    ((decide (md = 2) || decide (md = 3) || decide (md = 4)) && !used (ref t))
      || (decide (md = 4) && !used (enTrimSlot (entryLo m t))))
  let bad2 := ts.filter (fun t => let md := enRefMode (entryHi m t)
    let s := ref t
    (decide (md = 2) || decide (md = 4)) &&
      (decide (2 * (t / 2) < 2 * (s / 2) + 24) || decide (enDecim (entryHi m t) < enDecim (entryHi m s))
        || decide (enPhaseOfs (entryHi m t) % 2 ^ enDecim (entryHi m s) ≠ enPhaseOfs (entryHi m s))))
  let same := fun (d t : Nat) => ts.any (fun u => decide (u ≠ t) && decide (enDest (entryLo m u) = d)
    && decide (enUnit (entryLo m u) = enUnit (entryLo m t)))
  let bad3 := ts.filter (fun t => decide (enDest (entryLo m t) = 1) && (decide (enDecim (entryHi m t) ≠ 0) || same 1 t))
  let bad4 := ts.filter (fun t => decide (enDest (entryLo m t) = 2) && (decide (10 < enDecim (entryHi m t)) || same 2 t))
  let bad5 := ts.filter (fun t => (decide (enRefMode (entryHi m t) = 4) || decide (enFbMode (entryLo m t) = 1)
    || decide (enFbMode (entryLo m t) = 2)) && (packOf m (enUnit (entryLo m t))).isNone)
  let moves := ((List.range 2048).filter (fun t => writesAt ws (Slot.moveFrom t))).filter
    (fun t => decide (cfgAt m (Slot.moveFrom t) ≠ 0xFFFFFFFF))
  let bad6 := moves.filter (fun t =>
    let s := (cfgAt m (Slot.moveFrom t)).toNat
    !enValid (entryHi old s) || (decide (entryHi before s = entryHi m s) && decide (entryLo before s = entryLo m s))
      || moves.any (fun u => decide (u ≠ t) && decide (cfgAt m (Slot.moveFrom u) = (s : Int))))
  let vs := fun (o : Nat) => ts.filter (fun t => enFbMode (entryLo m t) == 5 && enUnit (entryLo m t) == o
    && enRefMode (entryHi m t) == 6 && enDest (entryLo m t) == 0)
  let en := enabledBy ws
  let both := fun (t : Nat) => entry t ++ [Slot.entryHi (ref t)]
  [bad1.flatMap (fun t => both t ++ (if enRefMode (entryHi m t) = 4 then [Slot.entryHi (enTrimSlot (entryLo m t))] else [])),
    bad2.flatMap both, bad3.flatMap entry, bad4.flatMap entry,
    bad5.flatMap (fun t => entry t ++ [Ph.pack (enUnit (entryLo m t))]),
    bad6.flatMap (fun t => Slot.moveFrom t :: entry (cfgAt m (Slot.moveFrom t)).toNat),
    (en.filter (fun o => decide ((vs o).length ≠ 1))).flatMap (fun o => Out.outletEnable o :: (vs o).flatMap entry),
    (en.filter (fun o => (vs o).any (fun t => decide (enDecim (entryHi m t) ≠ 0)))).flatMap
      (fun o => Out.outletEnable o :: (vs o).flatMap entry),
    (en.filter (fun o => (outletPacks m o).isEmpty)).map Out.outletEnable]

/-- The rule of group 1 on hubs' records (R251, R529): `v_max_mv` of every enabled outlet is within the full scale of the hubs that serve
it. -/
def Lane.vMaxRule (l : Lane) (m : UMap Int) : List Nat :=
  let serving := fun (o : Nat) => (outletPacks m o).flatMap (packPhases m)
  let bad := (List.range 32).filter (fun o => decide (cfgAt m (Out.outletEnable o) = 1)
    && (serving o).any (fun p => decide (l.p (Hub.vFs (p / 16)) * 1000 < cfgAt m (Out.vMaxMv o))))
  bad.flatMap (fun o => [Out.outletEnable o, Out.vMaxMv o] ++ (outletPacks m o).map Pk.outlet ++ (serving o).map Ph.pack)

/-- Slots of which a commit writes a field of the compensator group: entry, coefficients, limits, gains, feedforward. -/
def compSlots (ws : List (Nat × Int)) : List Nat :=
  (List.range 2048).filter (fun t => writesIn ws (Slot.entryHi t) (Slot.entryHi t + 0x10))

/-- Group 2, slot compensator (R170). -/
def groupCompensator (m : UMap Int) (ts : List Nat) : List (List Nat) :=
  let us := ts.filter (fun t => enValid (entryHi m t))
  let bad1 := us.filter (fun t => decide (enForm (entryHi m t) = 1)
    && (decide (cfgAt m (Slot.b t 3) ≠ 0) || decide (cfgAt m (Slot.a t 2) ≠ 0)))
  let bad2 := ts.filter (fun t => decide (cfgAt m (Slot.outHi t) < cfgAt m (Slot.outLo t))
    || (enValid (entryHi m t) && (decide (enDest (entryLo m t) = 1) || decide (enDest (entryLo m t) = 2))
      && decide (cfgAt m (Slot.outLo t) < 0)))
  let bad3 := us.filter (fun t => (decide (enFfMode (entryLo m t) = 1) || decide (enFfMode (entryLo m t) = 3))
    && !(decide (enDest (entryLo m t) = 1) && decide (0 < cfgAt m (Slot.vffMin t))
      && decide (cfgAt m (Slot.vffMin t) ≤ cfgAt m (Slot.vffNom t))))
  [bad1.flatMap (fun t => [Slot.entryHi t, Slot.b t 3, Slot.a t 2]),
    bad2.flatMap (fun t => [Slot.entryLo t, Slot.outLo t, Slot.outHi t]),
    bad3.flatMap (fun t => [Slot.entryLo t, Slot.vffNom t, Slot.vffMin t])]

/-- The packs whose phases lie on hubs of different full scales, as fields (R177, R529). -/
def Lane.scaleRule (l : Lane) (m : UMap Int) : List Nat :=
  let ks := (List.range 64).filter (fun k => !(packPhases m k).isEmpty)
  let fs := ks.filter (fun k => (packPhases m k).any (fun p =>
    decide (l.p (Hub.iFs (p / 16)) ≠ l.p (Hub.iFs (packHub m k))) || decide (l.p (Hub.vFs (p / 16)) ≠ l.p (Hub.vFs (packHub m k)))))
  fs.flatMap (fun k => (packPhases m k).map Ph.pack)

/-- The phases rated above their hub's full scale, as fields (R529). -/
def Lane.ratedRule (l : Lane) (m : UMap Int) : List Nat :=
  ((boundPhases m).filter (fun p => decide (l.p (Hub.iFs (p / 16)) < cfgAt m (Ph.iRated p)))).flatMap (fun p => [Ph.pack p, Ph.iRated p])

/-- Group 3, pack membership (R57, R177, R529). -/
def Lane.groupPack (l : Lane) (m : UMap Int) : List (List Nat) :=
  let ps := boundPhases m
  let ks := (List.range 64).filter (fun k => !(packPhases m k).isEmpty)
  let many := ks.filter (fun k => decide (48 < (packPhases m k).length))
  let noBus := ps.filter (fun p => match packOf m p with
    | some k => (match outletOf m k with | some o => decide (busPosition m (p / 16) o = 0) | none => false)
    | none => false)
  let share := (validSlots m).filter (fun t => decide (enRefMode (entryHi m t) = 4) &&
    (let s := enRefSlot (entryHi m t)
    !(enValid (entryHi m s) && decide (enFbMode (entryLo m s) = 3)
      && decide (packOf m (enUnit (entryLo m t)) = some (enUnit (entryLo m s))))))
  let tj := (List.range 64).filter (fun k => decide (cfgAt m (Pk.tjMax k) ≤ cfgAt m (Pk.tjDerate k)))
  [many.flatMap (fun k => (packPhases m k).map Ph.pack), noBus.flatMap (fun p => Ph.pack p
      :: ((packOf m p).toList.map Pk.outlet ++ (List.range 7).map (fun i => Hub.busOutlet (p / 16) 0 + i))),
    l.scaleRule m,
    share.flatMap (fun t => [Slot.entryHi t, Slot.entryLo t, Slot.entryHi (enRefSlot (entryHi m t)),
      Slot.entryLo (enRefSlot (entryHi m t)), Ph.pack (enUnit (entryLo m t))]),
    tj.flatMap (fun k => [Pk.tjDerate k, Pk.tjMax k]),
    l.ratedRule m]

/-- Whether following parents from a node comes back to it or does not end within 256 steps. -/
def poolCycleGo (m : UMap Int) : Nat → Nat → Bool
  | 0, _ => true
  | f + 1, x => match nodeParent m x with | some y => poolCycleGo m f y | none => false

/-- Group 5, pool tree (R57, R201), with the rules on team levels (R394) and on SAFE LOOP in a team (R339). DESIGN CHOICE (log entry 115): at
a controller that anchors more than one level, the mask of level 0 says which members are configured. -/
def Lane.groupPool (l : Lane) (m : UMap Int) (ws : List (Nat × Int)) : List (List Nat) :=
  let xs := usedNodes m
  let kind := nodeKind m
  let par := fun (x : Nat) => cfgAt m (Pool.parent x)
  let tops := xs.filter (fun x => decide (par x = 0xFFFFFFFF) || decide (par x = 0xFFFFFFFE))
  let leaves := xs.filter (fun x => decide (kind x = 2))
  let outOf := fun (x : Nat) => cfgAt m (Pool.outlet x)
  let unmetered := xs.filter (fun x =>
    (decide (cfgAt m (Pool.meterKind x) = 1) && decide (cfgAt m (Ac.pointEnable (cfgAt m (Pool.meterIndex x)).toNat) = 0))
      || (decide (cfgAt m (Pool.meterKind x) = 2) && decide (cfgAt m (S0.s0Enable (cfgAt m (Pool.meterIndex x)).toNat) = 0)))
  let members := xs.filter (fun x => decide (kind x = 3))
  let badMember := members.filter (fun x =>
    let k := (cfgAt m (Pool.memberIndex x)).toNat
    !(lvlUsed m 0 && decide (lvlMember m 0 = 0) && decide (1 ≤ k ∧ k ≤ 7) && bitAt (l.lvl 0).mask k
      && (members.filter (fun y => decide (cfgAt m (Pool.memberIndex y) = (k : Int)))).length = 1))
  let loopBad := ws.any (fun w => decide (w.1 = SafM.loopMode ∧ w.2 = 1)) && lvlUsed m 0 && decide (2 < (l.teamMembersOf 0).length)
  [(xs.filter (poolCycleGo m 256)).map Pool.parent,
    (leaves.filter (fun x => decide (31 < outOf x))).map Pool.outlet,
    (leaves.filter (fun x => leaves.any (fun y => decide (y ≠ x) && decide (outOf y = outOf x)))).map Pool.outlet,
    (xs.filter (fun x => decide (cfgAt m (Pool.weight x) = 0))).map Pool.weight,
    if xs.isEmpty || decide (tops.length = 1) then [] else (if tops.isEmpty then xs else tops).map Pool.parent,
    (xs.filter (fun x => match nodeParent m x with | some y => decide (kind y ≠ 1) | none => false)).map Pool.parent,
    (xs.filter (fun x => (decide (kind x = 2) || decide (kind x = 3)) && !(nodeChildren m x).isEmpty)).map Pool.kind,
    (tops.filter (fun x => decide (kind x ≠ 1))).map Pool.kind,
    unmetered.flatMap (fun x => [Pool.meterKind x, Pool.meterIndex x]),
    badMember.flatMap (fun x => [Pool.kind x, Pool.memberIndex x]),
    if teamGroupOk m then [] else (List.range 8).map Team.teamLvl ++ [SafM.teamSafety, SafM.teamId],
    if loopBad then [SafM.loopMode] else []]

/-- Group 6, hub timing (R57, R143). -/
def groupHub (m : UMap Int) (ws : List (Nat × Int)) : List (List Nat) :=
  let hs := (List.range 32).filter (fun h => writesIn ws (Hub.deadTimeNs h) (Hub.refreshLaps h + 1))
  let bad := hs.filter (fun h => decide (2500 < 2 * cfgAt m (Hub.deadTimeNs h) + cfgAt m (Hub.refreshNs h)))
  [bad.flatMap (fun h => [Hub.deadTimeNs h, Hub.refreshNs h])]

/-- Whether a list rises strictly. -/
def risesStrictly : List Nat → Bool
  | a :: b :: t => decide (a < b) && risesStrictly (b :: t)
  | _ => true

/-- Group 7, tariff calendar (R57). -/
def groupCalendar (m : UMap Int) : List (List Nat) :=
  let sw := fun (p : Nat) => ((List.range 16).map (fun k => (cfgAt m (Cal.daySw p k)).toNat)).filter (bitAt · 31)
  let bad := (List.range 32).filter (fun p => !risesStrictly ((sw p).map (fun w => bitsAt w 26 16)))
  let day := fun (i : Nat) => (cfgAt m (Cal.special i)).toNat
  let used := (List.range 64).filter (fun i => bitAt (day i) 31)
  let twice := used.filter (fun i => used.any (fun j => decide (j ≠ i) && decide (bitsAt (day i) 27 7 = bitsAt (day j) 27 7)))
  [bad.flatMap (fun p => (List.range 16).map (Cal.daySw p)), twice.map Cal.special]

/-- Group 8, demand and billing (R57). -/
def groupBilling (m : UMap Int) : List (List Nat) :=
  let n := (cfgAt m Cal.intervalMin).toNat
  let d := cfgAt m Cal.billCloseDay
  [if n ≠ 0 ∧ 60 % n = 0 then [] else [Cal.intervalMin], if 1 ≤ d ∧ d ≤ 28 then [] else [Cal.billCloseDay]]

/-- Groups 9 to 12, the equipment buses (R423). -/
def groupBus (m : UMap Int) (b : Nat) : List (List Nat) :=
  let ofs := (List.range 32).map (fun k => (k, (cfgAt m (Can.colOfsUs b k)).toNat))
  let used := ofs.filter (fun e => decide (e.2 ≠ 0xFFFFFFFF))
  let late := used.any (fun e => decide ((cfgAt m (Can.cycleLaps b)).toNat * 5 ≤ e.2)) || !risesStrictly (used.map Prod.snd)
  let tx := fun (n : Nat) => (cfgAt m (Can.txCfg b n)).toNat
  let ctl := fun (n : Nat) => (cfgAt m (Can.txCtl b n)).toNat
  let cells := (cfgUnits m (Can.sched b 0 0) (64 * 32) 1).filter (fun e => decide (0 ≤ e.2 ∧ e.2 ≤ 63))
  let badCell := cells.filter (fun e => !(bitAt (tx e.2.toNat) 31 && bitAt (ctl e.2.toNat) 30))
  let pumps := (List.range 32).filter (fun o =>
    let w := cfgAt m (Out.pumpTx o)
    decide (w ≠ 0xFFFFFFFF) && decide (bitsAt w.toNat 7 6 = b) && !bitAt (tx (bitsAt w.toNat 5 0)) 31)
  let classic := decide (cfgAt m (Can.canMode b) = 0)
  let fd := (List.range 64).filter (fun n => classic && (bitAt (tx n) 29 || bitAt (ctl n) 31))
  let lens := (List.range 64).filter (fun n => !(canLengths (bitAt (tx n) 29)).contains (bitsAt (ctl n) 6 0))
  [if late then used.map (fun e => Can.colOfsUs b e.1) else [],
    badCell.map (fun e => Can.sched b 0 0 + e.1) ++ pumps.map Out.pumpTx,
    fd.flatMap (fun n => [Can.txCfg b n, Can.txCtl b n]), lens.map (Can.txCtl b)]

/-- The groups that a commit has checked, in number order, each with its rules (R55, R57). Group 4's rule, that a pack serves
at most one outlet, holds of every configuration: a pack has one `outlet` point. `old` is the active bank, `before` the configuration
with the commits taken before this one, `m` the trial. -/
def Lane.groups (l : Lane) (old before m : UMap Int) (ws : List (Nat × Int)) : List (Nat × List (List Nat)) :=
  let moves := ws.any (fun w => decide (0x80000 ≤ w.1 ∧ w.1 < 0x90000 ∧ w.1 % 32 = 0x12))
  let c := compSlots ws
  let pool := writesIn ws 0x40000 0x50000 || writesIn ws (Team.teamLvl 0) (Team.teamLvl 0 + 64)
    || writesAt ws SafM.teamSafety || writesAt ws SafM.teamId || writesAt ws SafM.loopMode
  (if writesEntry ws || moves || !(enabledBy ws).isEmpty then [(1, groupCascade old before m ws)] else [])
    ++ (if identityCommit ws then [(1, [l.vMaxRule m])] else [])
    ++ (if c.isEmpty then [] else [(2, groupCompensator m c)])
    ++ (if packCommit ws then [(3, l.groupPack m)] else if identityCommit ws then [(3, [l.scaleRule m, l.ratedRule m])] else [])
    ++ (if pool then [(5, l.groupPool m ws)] else [])
    ++ [(6, groupHub m ws)]
    ++ (if writesIn ws 0x6C000 0x6C280 then [(7, groupCalendar m)] else [])
    ++ (if writesAt ws Cal.intervalMin || writesAt ws Cal.billCloseDay then [(8, groupBilling m)] else [])
    ++ ((List.range 4).filter (fun b => writesIn ws (0x92000 + 0x1000 * b) (0x93000 + 0x1000 * b))).map
        (fun b => (9 + b, groupBus m b))

/-- The first rule that fails, with its group (R55). -/
def firstFailure (gs : List (Nat × List (List Nat))) : Option (Nat × List Nat) :=
  gs.findSome? (fun g => (g.2.find? (fun r => !r.isEmpty)).map (fun r => (g.1, r)))

/-- One commit validated against the state before it (R55): its outcome and the state after it. -/
def Lane.validate (v : Variant) (sealOpen : Bool) (l : Lane) (state : UMap Int) (c : Commit) : Commit × UMap Int :=
  let trial := applyWrites state c.writes
  let pre := l.preconditions v sealOpen state trial c.writes
  if pre.1 ≠ st_OK then ({ c with status := pre.1, group := 0, field := failingField c.writes pre.2 }, state)
  else
    match firstFailure (l.groups l.cfg state trial c.writes) with
    | some (g, r) => ({ c with status := st_PAIR_MISMATCH, group := g, field := failingField c.writes r }, state)
    | none => ({ c with status := st_OK }, trial)

/-- The commits due at an epoch, in the order taken (R55). -/
def HostSt.due (h : HostSt) (epoch : Nat) : List Commit :=
  sortBy (fun a b => decide (a.order ≤ b.order)) (h.commits.filter (fun c => decide (c.target = epoch) && !c.settled))

/-- The phases that a trial configuration moves are not armed until the commit takes effect or fails (R178). -/
def Lane.freezeMoved (m : UMap Int) (l : Lane) : Lane :=
  (movedPhases l.cfg m).foldl (fun l p => l.setPhase p { l.phase p with frozen := true }) l

/-- COMMIT_VALIDATION (R55, R178): at lap 160 every commit due at the next epoch is validated; phases that a commit moves are
not armed from here on. -/
def Lane.commitValidation (v : Variant) (sealOpen : Bool) (l : Lane) : Lane :=
  let due := l.host.due (l.epoch + 1)
  if l.lapIn ≠ 160 ∨ l.host.trial ≠ none then l
  else
    let r := due.foldl (fun (a : List Commit × UMap Int) c =>
      let x := l.validate v sealOpen a.2 c
      (a.1 ++ [x.1], x.2)) ([], l.cfg)
    let rest := l.host.commits.filter (fun c => decide (c.target ≠ l.epoch + 1))
    let l1 : Lane := { l with host := { l.host with commits := rest ++ r.1, trial := some r.2 } }
    l1.freezeMoved r.2

/-- The answer to a commit that fell due (R54, R55), to another member by its team epoch (R408). A held one fires event 84 instead. -/
def Lane.commitOutcome (epoch : Nat) (c : Commit) (l : Lane) : Lane :=
  if c.held then l.fire 84 c.ring [(c.seq : Int), (c.status : Int)]
  else
    let body : List Field := if c.status = st_OK then [(1, 0)]
      else if c.status = st_LANE_DISAGREE then [] else [(1, (c.group : Int)), (3, 0), (4, (c.field : Int))]
    l.answer { ring := c.ring, seq := c.seq, hostTag := c.hostTag, command := 0x0021, lane := 0, path := 0, body := [] }
      { status := c.status, epoch := if c.status = st_OK then (epoch + l.epochShift (decide (32 ≤ c.ring))).toNat else 0, parts := [body] }

/-- The phases that a commit kept from arming are free again (R178). -/
def Lane.thaw (l : Lane) : Lane :=
  l.forL ((l.phases.filter (fun e => e.2.frozen)).map Prod.fst) (fun p l => l.setPhase p { l.phase p with frozen := false })

/-- The ledger watches that writes in force from an epoch on concern are armed from that epoch's image on (R91). -/
def Lane.armWatches (epoch : Nat) (ws : List (Nat × Int)) (l : Lane) : Lane :=
  l.forL ((List.range 3).filter (fun w => writesIn ws (Wat.watchAddr w) (Wat.watchAddr w + 4))) (fun w l =>
    { l with host := { l.host with
      watch := UMap.put (fun _ => 0) l.host.watch w (UMap.get (fun _ => 0) l.host.watch w % 4 + 4 * epoch) } })

/-- The commits due settled (R33, R55): answered, and kept till the swap where they take effect (R39 flag bit 0); where the lanes'
digests differ all fail. -/
def Lane.settleCommits (agree : Bool) (l : Lane) : Lane :=
  let e := l.epoch + 1
  let due := l.host.due e
  if due.isEmpty || l.host.trial.isNone then l
  else
    let l0 := if agree then l else l.inc Hp.commitDisagree
    let done := (due.filter (fun c => agree && decide (c.status = st_OK))).map (fun c => { c with held := false, settled := true })
    let l1 : Lane := { l0 with host := { l0.host with
      commits := l0.host.commits.filter (fun c => decide (c.target ≠ e)) ++ done, trial := if agree then l0.host.trial else none } }
    let good := (due.filter (fun c => decide (c.status = st_OK))).flatMap (fun c => c.writes)
    let l2 := if agree then l1.armWatches e good else l1.thaw
    due.foldl (fun l c => l.commitOutcome e (if agree then c else { c with status := st_LANE_DISAGREE }) ) l2

/-- COMMIT_DIGEST_EXCHANGE (R33, R55, R67, R370): lanes in step compare the validated state; a lane that resynchronises or runs
mixed adopts the holder's outcome. -/
def State.commitExchange (s : State) : State :=
  match s.holder with
  | none => s.eachLane (fun l => l.active && decide (l.lapIn = 190)) (fun _ _ l => l.settleCommits true)
  | some h =>
    let l := s.lane h
    let o := s.lane h.other
    if l.lapIn ≠ 190 then s
    else
      let both := o.active && decide (o.link.state = .standby) && !s.mixed
      let agree := !both || (decide (l.host.trial = o.host.trial) && decide (l.host.due (l.epoch + 1) = o.host.due (l.epoch + 1)))
      let follow := o.active && !both
      let s1 := s.onLane h (fun _ => true) (fun _ _ l => l.settleCommits agree)
      s1.onLane h.other Lane.active (fun _ _ o =>
        if follow then
          let cs := o.host.commits.filter (fun c => decide (c.target ≠ l.epoch + 1)) ++ l.host.due (l.epoch + 1)
          ({ o with host := { o.host with trial := l.host.trial, commits := cs } } : Lane).settleCommits true
        else o.settleCommits agree)

/-! ### The bank swap (R56, R59, R60, R172) -/

/-- Whether a slot's loop-to-slot binding changes (R172). -/
def slotChanged (old new : UMap Int) (t : Nat) : Bool :=
  let h0 := entryHi old t
  let h1 := entryHi new t
  let l0 := entryLo old t
  let l1 := entryLo new t
  decide (enValid h0 ≠ enValid h1) || decide (enForm h0 ≠ enForm h1) || decide (enRefMode h0 ≠ enRefMode h1)
    || decide (enFbMode l0 ≠ enFbMode l1) || decide (enUnit l0 ≠ enUnit l1) || decide (enDest l0 ≠ enDest l1)

/-- Stored output histories brought within the slot's limits (R172). -/
def Lane.clampHistories (t : Nat) (l : Lane) : Lane :=
  let x := l.slot t
  let c := fun (v : Int) => min (max v (l.c (Slot.outLo t))) (l.c (Slot.outHi t))
  l.setSlot t { x with u1 := c x.u1, u2 := c x.u2, u3 := c x.u3 }

/-- Whether a commit narrows or moves a slot's limits. -/
def limitsChanged (old new : UMap Int) (t : Nat) : Bool :=
  decide (cfgAt old (Slot.outLo t) ≠ cfgAt new (Slot.outLo t)) || decide (cfgAt old (Slot.outHi t) ≠ cfgAt new (Slot.outHi t))

/-- One slot at the swap: its generation goes up and its histories are initialised, or taken from the slot that `move_from`
names as it stood under the old bank (R172, R173). -/
def Lane.swapSlot (old : Lane) (t : Nat) (l : Lane) : Lane :=
  if !slotChanged old.cfg l.cfg t then l.clampHistories t
  else
    let l1 := l.incGen (Slot.generation t)
    let from_ := l.c (Slot.moveFrom t)
    let x := l1.slot t
    if 0 ≤ from_ ∧ from_ < 2048 then
      let y := old.slot from_.toNat
      (l1.setSlot t { x with
        e1 := y.e1, e2 := y.e2, e3 := y.e3, u1 := y.u1, u2 := y.u2, u3 := y.u3, r1 := y.r1, init := false }).clampHistories t
    else l1.setSlot t { x with init := true }

/-- The configuration in force from an epoch boundary on: `move_from` acts at the swap alone (R164). -/
def clearMoves (m : UMap Int) : UMap Int :=
  m.filter (fun e => !(decide (0x80000 ≤ e.1 ∧ e.1 < 0x90000 ∧ e.1 % 32 = 0x12)))

/-- The generation of a hub record after `g`: it skips values whose bits 15:0 are 0 (R150). -/
def nextCfgGen (g : Nat) : Nat :=
  let n := (g + 1) % 4294967296
  if n % 65536 = 0 then n + 1 else n

/-- Every block swaps banks (R55, R56): the trial configuration comes into force, generations of changed bindings go up (R60),
hub records get a new number (R141), nodes of a new kind or parent have no previous allocation (R203). -/
def Lane.swapBanks (l : Lane) : Lane :=
  match l.host.trial with
  | none => l.thaw
  | some m =>
   let l0 : Lane := { l with
     cfg := m
     host := { l.host with trial := none, commits := l.host.commits.filter (fun c => !c.settled) } }
   if m = l.cfg then l0.thaw
   else
    let phases := (List.range 512).filter (fun p => decide (l.c (Ph.pack p) ≠ l0.c (Ph.pack p)))
    let packs := (List.range 64).filter (fun k => decide (l.c (Pk.outlet k) ≠ l0.c (Pk.outlet k)))
    let hubs := (List.range 32).filter (fun h => decide (hubRecord l.cfg 0 h ≠ hubRecord m 0 h))
    let slots := (List.range 2048).filter (fun t => slotChanged l.cfg m t || limitsChanged l.cfg m t)
    let nodes := (List.range 256).filter (fun x => decide (l.c (Pool.kind x) ≠ l0.c (Pool.kind x))
      || decide (l.c (Pool.parent x) ≠ l0.c (Pool.parent x)))
    let l1 := l0.forL phases (fun p l => l.setPhase p { l.phase p with gen := nextGen (l.phase p).gen, frozen := false })
    let l2 := l1.forL packs (fun k l => l.setPack k { l.pack k with gen := nextGen (l.pack k).gen })
    let l3 := l2.forL hubs (fun h l => l.setp (Hub.cfgGen h) (nextCfgGen (l.pn (Hub.cfgGen h)) : Nat))
    let l4 := l3.forL slots (Lane.swapSlot l)
    -- another member behind a node starts without an exchange (R214, R216), and another pulse input without a past (R204)
    let members := (usedNodes m).filter (fun x => decide (l.c (Pool.memberIndex x) ≠ l0.c (Pool.memberIndex x)))
    let pulses := (usedNodes m).filter (fun x => nodes.contains x || decide (l.c (Pool.meterIndex x) ≠ l0.c (Pool.meterIndex x))
      || decide (l.c (Pool.meterKind x) ≠ l0.c (Pool.meterKind x))
      || (List.range 16).any (fun n => decide (l0.cn (Pool.meterIndex x) = n) && decide (l.c (S0.s0Enable n) ≠ l0.c (S0.s0Enable n))))
    -- a changed node starts without an exchange behind it (R203, R215, R216)
    let l5 := l4.forL nodes (fun x l => l.setPool x
      { l.pool x with changed := true, teamCap := none, missing := 0, fresh := false, arrived := false })
    let l6 := (l5.forL members (fun x l => l.setPool x { l.pool x with missing := 0, fresh := false, arrived := false })).forL pulses
      (fun x l => l.setPool x { l.pool x with s0Past := [] })
    let l7 : Lane := { l6 with cfg := clearMoves l6.cfg }
    let l8 := l7.thaw
    let l9 := if phases = [] then l8
      else l8.forL ((usedPacks l.cfg) ++ ((usedPacks m).filter (fun k => !((usedPacks l.cfg).contains k)))) Lane.showMembers
    l9.tuneConfig l.cfg (fun t => (l.pn (Slot.generation t)))

end Sys2Proof.Machine
end

