-- ==== Sys2Proof/Machine/Ledger.lean ====
section
/-!
DEFINITION. The state ledger (R39 to R67, R82, R84, R91): capturing and sealing an epoch's image, point records, snapshots,
history, subscriptions and watches, and the inputs that the allocation holds from lap 0 (R34).
-/

namespace Sys2Proof.Machine

/-! ### Means over an epoch (R39, R44) -/

/-- The points with capture `mean` of the units in use. -/
def meanPoints (m : UMap Int) (outlets : Nat) : List Nat :=
  (boundPhases m).flatMap (fun p => [Ph.iMeas p, Ph.vOut p, Ph.vDc p])
    ++ (usedPacks m).flatMap (fun k => [Pk.packI k, Pk.packV k])
    ++ (List.range outlets).flatMap (fun o => [Out.vCableMv o, Out.iOutletMa o])

/-- The sums of the epoch that runs, one value a lap; key 0 counts the laps. The `OUTLET_V` values that the allocation
averages (R202) are summed beside them. -/
def Lane.sumLap (outlets : Nat) (l : Lane) : Lane :=
  let add := fun (m : UMap Int) (k : Nat) (v : Int) => UMap.put (fun _ => 0) m k (UMap.get (fun _ => 0) m k + v)
  let s := (meanPoints l.cfg outlets).foldl (fun m a => add m a (l.p a)) (add l.sums 0 1)
  let v := (List.range outlets).foldl (fun m o => if (outletPacks l.cfg o).isEmpty then m else add m o (l.outletV o)) l.alloc.vSum
  { l with sums := s, alloc := { l.alloc with vSum := v } }

/-- The mean of a sum over the laps counted, to the nearest (log entry 21). -/
def meanOf (n : Int) (v : Int) : Int := if n = 0 then 0 else roundDiv v n

/-- The means of the epoch that ends, of every `mean` point in use; none where no lap was counted. -/
def Lane.closeMeans (outlets : Nat) (l : Lane) : Lane :=
  let n := UMap.get (fun _ => 0) l.sums 0
  { l with
    means := if n = 0 then [] else (meanPoints l.cfg outlets).map (fun a => (a, meanOf n (UMap.get (fun _ => 0) l.sums a)))
    sums := [] }

/-! ### The allocation's inputs (R34, R202) -/

/-- Inputs of the round of an epoch, held from the start of its lap 0: capacities of the packs in `RUN` with the generation
they are tagged with, that of `old`, the lane before the bank swap (a capacity whose binding the swap changes is discarded, R62),
vehicle limits, the host's power values with their age (R205, R212), and the mean outlet voltages of the epoch before in mV. -/
def Lane.allocInputs (laps : Int) (outlets : Nat) (old : Lane) (l : Lane) : Lane :=
  let run := (usedPacks l.cfg).filter (fun k => decide (l.p (Pk.packState k) = pkRun))
  let os := List.range outlets
  let vehicle := fun (o : Nat) => ({ iMax := l.p (Out.evIMaxA o), iTarget := l.p (Out.evITargetA o)
                                     pMax := l.p (Out.evPMaxW o), looping := decide (l.ss o = ssCharge) } : VehicleIn)
  let volts := fun (o : Nat) =>
    (meanOf laps (UMap.get (fun _ => 0) l.alloc.vSum o) * l.p (Hub.vFs (outletHub l.cfg o)) * 1000).tdiv (2 ^ 31)
  let stale := run.filter (fun k => decide ((old.pack k).gen ≠ (l.pack k).gen))
  let l0 := l.addp (Sd.staleDiscards 1) (stale.length : Nat)
  let l1 := l0.forL (UMap.keys l0.pools) (fun x l =>
    let y := UMap.get (fun _ => ({} : PoolSt)) l.pools x
    { l with pools := UMap.put (fun _ => {}) l.pools x { y with hostKw := l.p (Pool.hostPowerKw x), hostSeen := y.hostLap } })
  { l1 with alloc := { l1.alloc with
      running := run
      packSq := os.foldl (fun m o => UMap.put (fun _ => 0) m o (old.packSquare o)) []
      caps := run.foldl (fun m k => UMap.put (fun _ => 0) m k (l.p (Pk.capacityA k))) []
      capGen := run.foldl (fun m k => UMap.put (fun _ => 0) m k (old.pack k).gen) []
      vehicles := os.foldl (fun m o => UMap.put (fun _ => {}) m o (vehicle o)) []
      vAlloc := os.foldl (fun m o => UMap.put (fun _ => 0) m o (volts o)) []
      vSum := [] } }

/-! ### Images (R44, R45) -/

/-- Metering points in use whose first measurement has not completed (R282). -/
def Lane.unready (l : Lane) : List Nat :=
  (List.range 40).filter (fun m => if m < 8 then !(l.acPt m).ready else !(l.dcPt (m - 8)).ready)

/-- The points of domain 9 among a store. -/
def domain9 {α : Type} (m : UMap α) : UMap α := m.filter (fun e => decide (e.1 / 0x10000 = 9))

/-- An image of the lane's points as they stand, `pts` the values of its status points. -/
def Lane.imageNow (s : State) (i : LaneId) (l : Lane) (pts : UMap Int) : Image :=
  let o := s.lane i.other
  { lane := i, epoch := l.epoch, baton := s.arbiter.baton, cfg := l.cfg, pts := pts, stat := l.stat
    phaseGen := l.phases.filterMap (fun e => if e.2.gen = 0 then none else some (e.1, e.2.gen))
    packGen := l.packs.filterMap (fun e => if e.2.gen = 0 then none else some (e.1, e.2.gen))
    unready := l.unready
    copied := l.met.copied
    identified := (l.hubs.filter (fun e => e.2.idKnown)).map Prod.fst
    written := l.host.commits.flatMap (fun c => c.writes.map Prod.fst)
    partner := if o.present then some (o.active, domain9 o.pts, domain9 o.stat) else none }

/-- The image of the epoch that ends, captured at the end of lap 199 (R44). `fw` is the lane that holds the baton, or
this lane where none does. -/
def Lane.capture (s : State) (i : LaneId) (l : Lane) : Lane :=
  let l1 := l.closeMeans s.chassis.variant.outlets
  let fw := s.lane (s.holder.getD i)
  let l2 := ((l1.setp D0.capability (l.capability s.chassis.variant)).setp D0.epoch l.epoch).setp
    D0.epochLap (l.epoch * 200 : Nat)
  let l3 := (l2.setp D0.batonNumber s.arbiter.baton).setp D0.chassisRev s.chassis.rev
  let pts := (List.range 8).foldl (fun m k => UMap.put pointDefault m (D0.fwId k) (fw.p (D0.fwId k))) l3.pts
  let shown := l3.means.foldl (fun m e => UMap.put pointDefault m e.1 e.2) pts
  { l3.setp D0.capability (capabilityWord s.chassis.variant s.a.outOfReset s.b.outOfReset) with
    sealing := some (l3.imageNow s i shown), sealDone := false }

/-! ### Point records (R39 to R42) -/

/-- The record of a point: value, type, status, capture, flags, generation (R39). -/
def pointRecord (value : Int) (type st cap flags gen : Nat) : List Field :=
  [(8, value), (1, (type : Int)), (1, (st : Int)), (1, (cap : Int)), (1, (flags : Int)), (4, (gen : Int))]

/-- The record of an index that no field is assigned to (R42). -/
def absentIndex : List Field := pointRecord 0 0 3 0 0 0

/-- The value and the status of a record. -/
def recordValue (r : List Field) : Int := (r.getD 0 (8, 0)).2
def recordStatus (r : List Field) : Nat := ((r.getD 2 (1, 0)).2).toNat

/-- Whether a point's unit is fitted and not bound (R41): a phase in no pack or not fitted by its hub's record, a pack
without phases, an unused pool node, a metering point that is not enabled, a slot that holds no loop, but for `test_fails` of such a
slot, where test vectors run (R164, R165), and the scales of a hub of which no record has been received (R529). -/
def Image.unbound (img : Image) (a : Nat) : Bool :=
  let i := a % 0x10000
  let c := cfgAt img.cfg
  match a / 0x10000 with
  | 1 =>
    let p := i / 128
    decide (c (Ph.pack p) = 255) || !bitAt ((UMap.get pointDefault img.pts (Hub.phasesFitted (p / 16))).toNat) (p % 16)
  | 2 => (packPhases img.cfg (i / 1024)).isEmpty
  | 4 => decide (c (Pool.kind (i / 256)) = 0)
  | 5 =>
    if i < 0x4000 then decide (c (Ac.pointEnable (i / 2048)) = 0)
    else if i < 0x8000 then decide (c (Dc.pointEnable ((i - 0x4000) / 512)) = 0)
    else false
  | 8 => !enValid (entryHi img.cfg (i / 32)) && decide (i % 32 ≠ 0x1D)
  | 9 =>
    let f := i % 0x8000
    let h := (f - 0x1000) / 64
    decide (0x1000 ≤ f ∧ f < 0x1800) && [0x17, 0x18, 0x19].contains (f % 64) && !img.identified.contains h
  | _ => false

/-- Whether a measurement point belongs to a metering point without a first measurement (R282). -/
def Image.unmeasured (img : Image) (a : Nat) : Bool :=
  let i := a % 0x10000
  decide (a / 0x10000 = 5) &&
    (if i < 0x4000 then img.unready.contains (i / 2048)
     else if i < 0x8000 then img.unready.contains (8 + (i - 0x4000) / 512)
     else false)

/-- The placement generation that a point depends on (R60), 0 for none. -/
def Image.generation (img : Image) (a : Nat) : Nat :=
  let i := a % 0x10000
  match a / 0x10000 with
  | 1 => UMap.get (fun _ => 0) img.phaseGen (i / 128)
  | 2 => UMap.get (fun _ => 0) img.packGen (i / 1024)
  | 3 => (UMap.get pointDefault img.pts (Out.sessionGen (i / 2048))).toNat
  | 8 => (UMap.get pointDefault img.pts (Slot.generation (i / 32))).toNat
  | _ => 0

/-- Whether a point's value is computed from the baton holder's metering values (R39 flag bit 1, R259): of an outlet the DC point's
values and what the thermal model makes of them, of a pool node what a round makes of them, which is every status point but the
leaf's voltage and the depth. -/
def meteringPoint (a : Nat) : Bool :=
  let i := a % 0x10000
  match a / 0x10000 with
  | 3 =>
    let o := i / 2048
    ([Out.vCableMv o, Out.iOutletMa o, Out.theta1 o, Out.theta2 o, Out.tPinModel o] ++ (List.range 4).map (Out.fc o)).contains a
  | 4 =>
    let x := i / 256
    [Pool.capW x, Pool.wantW x, Pool.demandW x, Pool.allocW x, Pool.meterW x, Pool.bgW x, Pool.meterState x, Pool.binding x
     , Pool.allocA x, Pool.setA x, Pool.limitedRounds x, Pool.fallbackRounds x].contains a
  | _ => false

/-- Whether a point reads `invalid` in an image of its own lane: every point of domain 5 while the lane's references differ (R273), of
domains 5 and 6 while its metrology is stopped on its checksum (R280), of domain 6 until a lane that resynchronises has copied the
holder's (R308), and the count of a faulted S0 input (R275). -/
def Image.invalid (img : Image) (a : Nat) : Bool :=
  let i := a % 0x10000
  let p := UMap.get pointDefault img.pts
  match a / 0x10000 with
  | 5 =>
    decide (p Mp.refState = 1 ∨ p Mp.mpState = 1)
      || (decide (0x8000 ≤ i ∧ i < 0x8400) && decide (a = S0.s0Count ((i - 0x8000) / 64)) && decide (p (S0.s0Fault ((i - 0x8000) / 64)) ≠ 0))
  | 6 => decide (p Mp.mpState = 1) || !img.copied
  | _ => false

/-- The record of a point of this controller in an image, `a` with bit 15 selecting the lane in domain 9 (R42). The points of a
missing lane are absent, but for the plant's configuration, which both lanes share (R8). -/
def Image.record (v : Variant) (img : Image) (a : Nat) : List Field :=
  let key := addrKey a
  match pointAt key with
  | none => absentIndex
  | some row =>
    let own := decide (a / 0x10000 ≠ 9) || decide (addrLane a = img.lane)
    let gone := unitAbsent v a || (!own && img.partner.isNone && decide (row.acc ≠ .rs ∨ key = Hp.healthMask))
    let part := img.partner.getD (false, [], [])
    let cfg := decide (row.cap = 4)
    let st0 := if own then UMap.get (fun _ => 0) img.stat key else max (UMap.get (fun _ => 0) part.2.2 key) (if part.1 then 0 else 1)
    let st := if gone then 3 else if cfg then (if own && img.invalid key then 2 else 0)
      else if img.unbound key then 4 else if img.invalid key then max st0 2
      else if img.unmeasured key then max st0 1 else st0
    let value := if st = 3 ∨ st = 4 then 0
      else if st = 1 ∧ cfg = false ∧ img.unmeasured key = true then 0
      else if row.acc = .rs then
        (if Cal.scroll 0 ≤ key ∧ key ≤ Cal.scroll 31 then (scrollOn v (cfgAt img.cfg key).toNat : Int) else cfgAt img.cfg (cfgKey a))
      else if own then UMap.get pointDefault img.pts key else UMap.get pointDefault part.2.1 key
    let flags := (if img.written.contains (cfgKey a) then 1 else 0) + (if meteringPoint key then 2 else 0)
    pointRecord value row.type st row.cap flags (img.generation key)

/-- The record of a point of another member that no image has delivered (R41, R48): its last delivered value. -/
def Lane.unreachable (l : Lane) (a : Nat) : List Field :=
  match pointAt (addrKey (addrPoint a)) with
  | none => absentIndex
  | some row => pointRecord (UMap.get (fun _ => 0) l.host.remote a) row.type 5 row.cap 0 0

/-- This controller's own member index (R9, R394): 0 outside a team. -/
def Lane.ownMember (l : Lane) : Nat := if lvlUsed l.cfg 0 then lvlMember l.cfg 0 else 0

/-- Whether an address names a point of another team member. -/
def Lane.foreign (l : Lane) (a : Nat) : Bool :=
  lvlUsed l.cfg 0 && decide (addrMember a ≠ l.ownMember)

/-- Whether an address names a member of a team while this controller is in none, or a member that is not in the mask (R9). -/
def Lane.noMember (l : Lane) (a : Nat) : Bool :=
  if lvlUsed l.cfg 0 then decide (addrMember a ≠ l.ownMember) && !bitAt (l.lvl 0).mask (addrMember a)
  else decide (addrMember a ≠ 0)

/-- The sealed image of an epoch. -/
def Lane.imageOf (l : Lane) (e : Nat) : Option Image := l.imgs.find? (fun x => x.epoch == e)

/-- The newest epoch whose image is readable (R45). -/
def Lane.latest (l : Lane) : Option Nat := l.imgs.head?.map (fun x => x.epoch)

/-! ### Sealing (R45, R49 to R51, R82, R91) -/

/-- The entries of either store that the other does not have, by key. -/
def differing {α : Type} [BEq α] (x y : UMap α) : List Nat :=
  (x.filter (fun e => !y.contains e)).map Prod.fst ++ (y.filter (fun e => !x.contains e)).map Prod.fst

/-- The assigned addresses of a unit whose fields begin at `base`. -/
def unitPoints (base size : Nat) : List Nat := ((List.range size).map (base + ·)).filter (fun a => (pointAt a).isSome)

/-- The units, as base address and size, whose points change in status or generation with a changed point: a binding, an enable, a
hub's fitted phases, a generation that a point shows. -/
def unitsOf (a b : Image) (key : Nat) : List (Nat × Nat) :=
  let i := key % 0x10000
  match key / 0x10000 with
  | 1 =>
    if key = Ph.pack (i / 128) then
      (0x10000 + 128 * (i / 128), 128) :: ([cfgAt a.cfg key, cfgAt b.cfg key].filter (· ≠ 255)).map (fun k => (0x20000 + 1024 * k.toNat, 1024))
    else []
  | 3 => if key = Out.sessionGen (i / 2048) then [(0x30000 + 2048 * (i / 2048), 2048)] else []
  | 4 => if key = Pool.kind (i / 256) then [(0x40000 + 256 * (i / 256), 256)] else []
  | 5 =>
    if 0x8000 ≤ i ∧ i < 0x8400 then [(0x58000 + 64 * ((i - 0x8000) / 64), 64)]
    else if key = Ac.pointEnable (i / 2048) ∧ i < 0x4000 then [(0x50000 + 2048 * (i / 2048), 2048)]
    else if key = Dc.pointEnable ((i - 0x4000) / 512) ∧ i < 0x8000 then [(0x54000 + 512 * ((i - 0x4000) / 512), 512)]
    else []
  | 8 => if key = Slot.entryHi (i / 32) ∨ key = Slot.generation (i / 32) then [(0x80000 + 32 * (i / 32), 32)] else []
  | 9 =>
    let h := (i - 0x1000) / 64
    if key = Mp.refState ∨ key = Mp.mpState then [(0x50000, 0x10000), (0x60000, 0x10000)]
    else if 0x1000 ≤ i ∧ i < 0x1800 ∧ (key = Hub.phasesFitted h ∨ key = Hub.iFs h ∨ key = Hub.vFs h) then
      (List.range 16).map (fun k => (0x10000 + 128 * (16 * h + k), 128))
    else []
  | _ => []

/-- The addresses whose records may differ between two images (R45): changed values and statuses, points that a commit will write,
and the points of units whose status or generation changes (R39, R41, R60, R282). -/
def changedKeys (a b : Image) : List Nat :=
  let keys := (differing a.cfg b.cfg ++ differing a.pts b.pts ++ differing a.stat b.stat).eraseDups
  let flagged := a.written.filter (fun x => !b.written.contains x) ++ b.written.filter (fun x => !a.written.contains x)
  let ready := a.unready.filter (fun x => !b.unready.contains x) ++ b.unready.filter (fun x => !a.unready.contains x)
  let units := keys.flatMap (unitsOf a b)
    ++ (differing a.phaseGen b.phaseGen).map (fun p => (0x10000 + 128 * p, 128))
    ++ (differing a.packGen b.packGen).map (fun k => (0x20000 + 1024 * k, 1024))
    ++ (if a.copied = b.copied then [] else [(0x60000, 0x10000)])
    ++ ready.map (fun m => if m < 8 then (0x50000 + 2048 * m, 2048) else (0x54000 + 512 * (m - 8), 512))
  (keys ++ flagged ++ units.eraseDups.flatMap (fun u => unitPoints u.1 u.2)).eraseDups

/-- The address of a held key: a point of domain 9 is that of the image's lane. -/
def Image.addrOf (img : Image) (key : Nat) : Nat :=
  if key / 0x10000 = 9 ∧ key % 0x10000 < 0x8000 then key + 0x8000 * img.lane.num else key

/-- The address in the other lane of a held key of domain 9. -/
def Image.otherAddr (img : Image) (key : Nat) : Nat := key + 0x8000 * img.lane.other.num

/-- The addresses of the other lane's points whose records may differ between two images: changed ones, and all of them where that
lane has come or gone; and both lanes' addresses of committed values of domain 9, and of those that a commit will write, which the lanes
share (R42). -/
def otherKeys (a b : Image) : List Nat :=
  let pa := a.partner.getD (false, [], [])
  let pb := b.partner.getD (false, [], [])
  let keys := differing pa.2.1 pb.2.1 ++ differing pa.2.2 pb.2.2
    ++ (if a.partner.isSome = b.partner.isSome ∧ pa.1 = pb.1 then [] else unitPoints 0x90000 0x8000)
  let flagged := (a.written.filter (fun x => !b.written.contains x) ++ b.written.filter (fun x => !a.written.contains x)).filter
    (fun k => decide (k / 0x10000 = 9))
  (keys.eraseDups).map b.otherAddr
    ++ (differing (domain9 a.cfg) (domain9 b.cfg) ++ flagged).flatMap (fun k => [0x90000 + k % 0x8000, 0x98000 + k % 0x8000])

/-- The records of the ledger history that NV holds (R37): 20 GiB of items of an epoch and a record, 24 bytes each (log entry 65). -/
def historyItems : Nat := 20 * 2 ^ 30 / 24

/-- The DRAM of a lane in MiB that no partition takes: 16 GiB less firmware, ledger, history, session stacks, profile cache and
resynchronisation buffers, and less the acquisition partition (R37). -/
def dramReserveMib (acq : Nat) : Nat := 16384 - (3072 + 1024 + 2048 + 1024 + 512 + 2048) - acq

/-- The records that changed from one image to the next, for the ledger history (R45). -/
def historyOf (v : Variant) (old : Option Image) (img : Image) : List Change :=
  let keys := match old with
    | none => (img.pts.map Prod.fst ++ (img.cfg.map Prod.fst)).map img.addrOf
    | some o => (changedKeys o img).map img.addrOf ++ otherKeys o img
  keys.filterMap (fun a =>
    let r := img.record v a
    match old with
    | some o => if o.record v a = r then none else some { epoch := img.epoch, addr := a, record := r }
    | none => some { epoch := img.epoch, addr := a, record := r })

/-- The state of a watch after an image (R91): 1 armed, 2 and 3 disarmed by a firing above and below. The return is
measured on the side that fired. -/
def watchNext (st : Nat) (above below : Bool) (v thr hyst : Int) : Nat :=
  if st = 1 then (if above then 2 else if below then 3 else 1)
  else if st = 2 then (if hyst < thr - v then 1 else 2)
  else if st = 3 then (if hyst < v - thr then 1 else 3)
  else st

/-- One ledger watch evaluated on an image (R91). A watch written by a commit arms with the first image in which that commit
is in force. -/
def Lane.watchOne (v : Variant) (img : Image) (w : Nat) (l : Lane) : Lane :=
  let a := (cfgAt img.cfg (Wat.watchAddr w)).toNat
  let dir := cfgAt img.cfg (Wat.watchDir w)
  let r := img.record v a
  let value := wrapS 64 (recordValue r)
  let thr := cfgAt img.cfg (Wat.watchThr w)
  let held := UMap.get (fun _ => 0) l.host.watch w
  let armed := decide (4 ≤ held) && decide (held / 4 ≤ img.epoch)
  let st := if armed then 1 else held % 4
  if dir = 0 ∨ 1 < recordStatus r then l
  else
    let above := decide (thr < value) && (decide (dir = 1) || decide (dir = 3))
    let below := decide (value < thr) && (decide (dir = 2) || decide (dir = 3))
    let n := watchNext st above below value thr (cfgAt img.cfg (Wat.watchHyst w))
    let code := if armed then n else n + held / 4 * 4
    let l1 : Lane := { l with host := { l.host with watch := UMap.put (fun _ => 0) l.host.watch w code } }
    if st = 1 ∧ n ≠ 1 then (l1.inc (Wat.watchFires w)).fire (125 + w) w [(a : Int), value] else l1

/-- The addresses of a subscription's points with their deadbands, in order. -/
def Sub.points (b : Sub) : List (Nat × Nat) :=
  b.ranges.flatMap (fun r => (List.range r.2.1).map (fun k => (r.1 + k, r.2.2)))

/-- The record of a subscribed point. No rule says how another member's points reach a subscription. DESIGN CHOICE (log entry 109): such a
point is accepted and reads `unreachable`, with the value that a snapshot delivered last. -/
def Lane.readPoint (v : Variant) (img : Image) (l : Lane) (a : Nat) : List Field :=
  if l.foreign a then l.unreachable a else img.record v (addrPoint a)

/-- The points of a subscription that an image notifies (R49, R50, R51): points that stay absent in the first notification only. The
epochs of a period count from that of the first notification. -/
def Lane.subDue (v : Variant) (img : Image) (l : Lane) (b : Sub) : List Nat :=
  if b.full then b.points.map Prod.fst
  else
    let was := fun (a : Nat) => (b.last.find? (fun x => x.1 == a)).map (fun x => x.2.1)
    let live := b.points.filter (fun e => decide (recordStatus (l.readPoint v img e.1) ≠ 3) || decide (was e.1 ≠ some 3))
    if b.periodic then
      if b.period ≠ 0 ∧ (img.epoch - b.since) % b.period = 0 then live.map Prod.fst else []
    else
      (live.filter (fun e =>
        let r := l.readPoint v img e.1
        match b.last.find? (fun x => x.1 == e.1) with
        | none => true
        | some x => decide (recordStatus r ≠ x.2.1) || decide ((e.2 : Int) < (recordValue r - x.2.2).natAbs))).map Prod.fst

/-- The entries of one notification: up to 10 items each, all of one image (R51, R76). -/
def noteEntries (epoch id skipped : Nat) (items : List (Nat × List Field)) : List Entry :=
  let cs := chunks 10 items
  (List.range cs.length).map (fun k =>
    { part := k, last := decide (k + 1 = cs.length), epoch := epoch, body := .points id (min skipped 0xFFFF) (cs.getD k []) })

/-- The index of a subscription replaced in its ring. -/
def Ring.setSub (b : Sub) (r : Ring) : Ring := { r with subs := r.subs.map (fun x => if x.id = b.id then b else x) }

/-- A subscription's notification sent where its ring has room, else kept pending (R51). `due` are the points of this image;
`more` says that a new image brings them. `skipped` counts the epochs merged, that is, those with points to notify whose notification
found no room; the epoch of an image that is sent at once is not among them (DESIGN CHOICE, log entry 64). -/
def Lane.notify (v : Variant) (img : Image) (q : Nat) (b : Sub) (due : List Nat) (more : Bool) (l : Lane) : Lane :=
  let r := l.ring q
  let all := b.pending ++ due.filter (fun a => !b.pending.contains a)
  if all.isEmpty then l
  else if r.room true && r.waiting.isEmpty then
    let sent := (b.points.map Prod.fst).filter (fun a => all.contains a)
    let items := sent.map (fun a => (a, l.readPoint v img a))
    let last := items.map (fun e => (e.1, recordStatus e.2, recordValue e.2))
    let b1 := { b with
      full := false, pending := [], skipped := 0, since := if b.full then img.epoch else b.since
      last := last ++ b.last.filter (fun x => !sent.contains x.1) }
    (l.setRing q (r.setSub b1)).queue q (noteEntries img.epoch b.id b.skipped items)
  else
    l.setRing q (r.setSub { b with pending := all, skipped := if more && !due.isEmpty then b.skipped + 1 else b.skipped })

/-- The subscriptions of every ring served from a new image (R50). -/
def Lane.notifyAll (v : Variant) (img : Image) (l : Lane) : Lane :=
  l.forN 32 (fun q l => l.forL ((l.ring q).subs.filter (fun b => b.started)) (fun b l => l.notify v img q b (l.subDue v img b) true))

/-- NOTIFICATION_ROOM (R51): one notification with the union of the points pending, from the latest sealed image. -/
def Lane.notificationRoom (v : Variant) (q id : Nat) (l : Lane) : Lane :=
  match l.imgs.head?, (l.ring q).subs.find? (fun b => b.id == id) with
  | some img, some b => if b.started && !b.pending.isEmpty then l.notify v img q b [] false else l
  | _, _ => l

/-- The image captured at the end of the last epoch becomes readable (R45): what depends on a readable image is done with it. -/
def Lane.publish (v : Variant) (l : Lane) : Lane :=
  match l.sealing with
  | none => l
  | some img =>
    let old := l.imgs.head?
    let new := historyOf v old img
    let l1 : Lane := { l with
      imgs := (img :: l.imgs).take 64, sealing := none, sealDone := false, hist := (new ++ l.hist).take historyItems
      link := { l.link with changeLog := if l.link.logging then new ++ l.link.changeLog else l.link.changeLog } }
    let l2 := l1.forN 3 (Lane.watchOne v img)
    let l3 := l2.wakeEvents
    let read := fun (k : Nat) => let r := img.record v (addrPoint k); (recordValue r, recordStatus r)
    (l3.notifyAll v img).acqImage read (l3.pacer.teamTime - 5000 * (l3.lapIn : Int))

/-- IMAGE_SEAL (R45): in laps 0 to 3 the image is sealed and waits for the start of lap 4; in lap 4 it is readable at once. -/
def Lane.sealImage (v : Variant) (l : Lane) : Lane :=
  if l.lapIn < 4 then { l with sealDone := l.sealing.isSome } else l.publish v

/-! ### Snapshots (R46 to R48) -/

/-- The addresses of a body's ranges, from offset 12 on, each 8 bytes. -/
def rangeAddrs (r : Request) (n : Nat) : List Nat :=
  (List.range n).flatMap (fun k => (List.range (r.at_ (12 + 8 * k + 4) 2)).map (fun j => r.at_ (12 + 8 * k) 4 + j))

/-- The ranges of a snapshot body, none where its length or counts do not fit (R83). -/
def snapshotAddrs (r : Request) : Option (List Nat) :=
  let n := r.at_ 8 2
  let counts := (List.range n).map (fun k => r.at_ (12 + 8 * k + 4) 2)
  if n = 0 ∨ 26 < n ∨ r.len ≠ 12 + 8 * n ∨ counts.any (fun c => decide (c = 0 ∨ 1024 < c)) = true ∨ 1024 < counts.foldl (· + ·) 0 then none
  else some (rangeAddrs r n)

/-- The answer of a snapshot on an image, 14 records a part (R46, R76). `got` holds what other members delivered. DESIGN CHOICE (log
entry 109): of a member that has delivered only some parts of its image in time, the delivered records read as delivered and only the rest
read `unreachable` (R48). -/
def Lane.snapshotReply (v : Variant) (img : Image) (addrs : List Nat) (got : List (Nat × List (List Field))) (ofs : Int) (l : Lane) :
    Reply :=
  if addrs.any addrBad then Reply.just st_BAD_ADDRESS
  else
    let rec_ := fun (k a : Nat) =>
      if l.foreign a then
        let before := ((addrs.take k).filter (fun x => decide (addrMember x = addrMember a))).length
        match got.find? (fun g => g.1 == addrMember a) with
        | some g => g.2.getD before (l.unreachable a)
        | none => l.unreachable a
      else img.record v (addrPoint a)
    let rs := (List.range addrs.length).map (fun k => rec_ k (addrs.getD k 0))
    { status := st_OK, epoch := (img.epoch + ofs).toNat, parts := (chunks 14 rs).map List.flatten }

/-- The newest own epoch that every one of the named members has sealed, by their last beacons, and this lane (R48): a member
whose beacon shows team epoch e has sealed e − 1. -/
def Lane.sealedByAll (others : List Nat) (shift latest : Int) (l : Lane) : Int :=
  others.foldl (fun m k => min m ((UMap.get (fun _ => ({} : TeamMember)) (l.lvl 0).members k).epoch - 1 - shift)) latest

/-- Whether a request is another member's part of its own snapshot: it came over the team with no path of its own (R48). -/
def Request.memberRead (r : Request) : Bool := decide (32 ≤ r.ring ∧ r.path % 16 = 0)

/-- The addresses that this controller answers: all of them, or its own points for another member's snapshot (R48). -/
def Lane.readAddrs (r : Request) (addrs : List Nat) (l : Lane) : List Nat :=
  if r.memberRead then addrs.filter (fun a => !l.foreign a) else addrs

/-- Whether a snapshot's epoch numbers are team epochs: it names other members, or came from one (R48, R408). -/
def Lane.teamRead (r : Request) (addrs : List Nat) (l : Lane) : Bool := addrs.any l.foreign || decide (32 ≤ r.ring)

/-- The request that goes to the members of a snapshot: every one returns the image of the same team epoch (R48). -/
def Request.teamSnapshot (r : Request) (e : Nat) : Request := { r with path := 0, body := leBytes 8 e ++ r.body.drop 8 }

/-- `SNAPSHOT` (R47, R48): answered from a readable image, or left to wait for one. A snapshot that names points of other
members sends the request to them and waits up to 2 ms. Three points are the model's choice (log entry 66): an address that names
both an absent member and a reserved domain answers `UNIT_ABSENT`; a past epoch within the last 64 whose image this lane does not
hold answers `EPOCH_GONE`; epoch 0 while no image is readable waits for that of the running epoch. -/
def Lane.cmdSnapshot (v : Variant) (r : Request) (l : Lane) : Lane × Option Reply :=
  match (snapshotAddrs r).map (l.readAddrs r) with
  | none => (l, some (Reply.just st_BAD_LENGTH))
  | some addrs =>
    if addrs.any (fun a => l.noMember a) then (l, some (Reply.just st_UNIT_ABSENT))
    else
      let others := (addrs.filter l.foreign).map addrMember |>.eraseDups |>.filter (fun m => decide (l.memberState 0 m = 2))
      let shift := l.epochShift (l.teamRead r addrs)
      let asked := r.at_ 0 8
      let latest := l.latest.getD (l.epoch - 1)
      let e : Int := if asked = 0 then (if l.imgs.isEmpty then l.epoch else l.sealedByAll others shift latest) else asked - shift
      if e < 0 ∨ l.fellAsleep e.toNat = true then (l, some (Reply.just (if e < 0 then st_EPOCH_GONE else st_EPOCH_ASLEEP)))
      else if e < (latest : Int) - 63 then (l, some (Reply.just st_EPOCH_GONE))
      else if (latest : Int) + 64 < e then (l, some (Reply.just st_EPOCH_RANGE))
      else if others.isEmpty then
        match l.imageOf e.toNat with
        | some img => (l, some (l.snapshotReply v img addrs [] shift))
        | none =>
          if e ≤ (latest : Int) ∧ l.imgs ≠ [] then (l, some (Reply.just st_EPOCH_GONE))
          else
            let w : WaitingRead := { req := r, epoch := e.toNat, lap := l.lap }
            ({ l with host := { l.host with waitingReads := l.host.waitingReads ++ [w] } }, none)
      else
        let w : WaitingRead := { req := r, epoch := e.toNat, lap := l.lap, wait := others }
        (({ l with host := { l.host with waitingReads := l.host.waitingReads ++ [w] } } : Lane).teamSend 0 5 1
          (others.foldl (fun a m => a + 2 ^ m) 0) (r.teamSnapshot (e + shift).toNat).fields, none)

/-- Whether a waiting snapshot can be answered. -/
def Lane.readReady (l : Lane) (w : WaitingRead) : Bool := w.wait.isEmpty && (l.imageOf w.epoch).isSome

/-- One waiting snapshot answered where it can be. -/
def Lane.answerRead (v : Variant) (w : WaitingRead) (l : Lane) : Lane :=
  match l.imageOf w.epoch, (snapshotAddrs w.req).map (l.readAddrs w.req) with
  | some img, some addrs =>
    let l1 : Lane := { l with host := { l.host with waitingReads := l.host.waitingReads.filter (fun x => x != w) } }
    l1.answer w.req (l1.snapshotReply v img addrs w.got (l.epochShift (l.teamRead w.req addrs)))
  | _, _ => l

/-- SNAPSHOT_IMAGE_READY (R47): the snapshots whose image has become readable are answered. -/
def Lane.snapshotReady (v : Variant) (l : Lane) : Lane := l.forL (l.host.waitingReads.filter l.readReady) (Lane.answerRead v)

/-- SNAPSHOT_MEMBER_TIMEOUT (R48): 2 ms after the request the points of members that have not delivered read `unreachable`. -/
def Lane.snapshotTimeout (v : Variant) (seq : Nat) (l : Lane) : Lane :=
  match l.host.waitingReads.find? (fun w => w.req.seq == seq && !w.wait.isEmpty) with
  | none => l
  | some w =>
    if l.lap < w.lap + msLaps 2 then l
    else
      let ws := l.host.waitingReads.map (fun x => if x = w then { x with wait := [] } else x)
      ({ l with host := { l.host with waitingReads := ws } } : Lane).snapshotReady v

/-- Whether an entry is of a member's answer to a snapshot that waits for it (R48). -/
def Lane.awaits (m : Nat) (e : MemberEntry) (l : Lane) : Bool :=
  l.host.waitingReads.any (fun w => w.req.seq == e.seq && w.req.hostTag == e.hostTag && w.wait.contains m)

/-- A part of a member's image delivered for a waiting snapshot (R48): its records in the order asked, kept as last delivered. A
member that answers with another epoch's image, or with no image, has not delivered. -/
def Lane.memberImage (v : Variant) (m : Nat) (e : MemberEntry) (l : Lane) : Lane :=
  match l.host.waitingReads.find? (fun w => w.req.seq == e.seq && w.req.hostTag == e.hostTag && w.wait.contains m) with
  | none => l
  | some w =>
    let old := ((w.got.find? (fun g => g.1 == m)).map (fun g => g.2)).getD []
    if e.status ≠ st_OK ∨ (e.epoch : Int) ≠ w.epoch + l.epochShift true ∨ old.length ≠ 14 * e.part then l
    else
      let recs := old ++ chunksGo 6 e.fields.length e.fields
      let mine := ((snapshotAddrs w.req).getD []).filter (fun a => decide (addrMember a = m))
      let kept := (mine.zip recs).foldl (fun mp e => UMap.put (fun _ => 0) mp e.1 (recordValue e.2)) l.host.remote
      let w1 : WaitingRead := { w with
        wait := if e.last then w.wait.filter (fun x => x != m) else w.wait
        got := (m, recs) :: w.got.filter (fun g => g.1 != m) }
      let ws := l.host.waitingReads.map (fun x => if x = w then w1 else x)
      ({ l with host := { l.host with waitingReads := ws, remote := kept } } : Lane).snapshotReady v

/-- `READ_STAGED` (R53): the staged value, and the committed or present value where nothing is staged; `s` holds the lane beside
it, whose own points bit 15 selects (R42). -/
def Lane.cmdReadStaged (s : State) (r : Request) (l : Lane) : Lane × Reply :=
  match snapshotAddrs r with
  | none => (l, Reply.just st_BAD_LENGTH)
  | some addrs =>
    if addrs.any (fun a => l.noMember a || l.foreign a) then (l, Reply.just st_UNIT_ABSENT)
    else if addrs.any addrBad then (l, Reply.just st_BAD_ADDRESS)
    else
      let g := (l.ring r.ring).staging
      let img : Image := { l.imageNow s l.id l.pts with cfg := g.foldl (fun m e => UMap.put pointDefault m e.1 e.2) l.cfg }
      let rs := addrs.map (fun a => img.record s.chassis.variant (addrPoint a))
      (l, { status := st_OK, parts := (chunks 14 rs).map List.flatten })

/-- `HISTORY` (R82): the changed records of one point between two epochs, 9 items a part, oldest first. -/
def Lane.cmdHistory (r : Request) (l : Lane) : Lane × Reply :=
  let a := r.at_ 0 4
  if r.len ≠ 20 then (l, Reply.just st_BAD_LENGTH)
  else if l.noMember a || l.foreign a then (l, Reply.just st_UNIT_ABSENT)
  else if addrBad a then (l, Reply.just st_BAD_ADDRESS)
  else
    let shift := l.epochShift (decide (32 ≤ r.ring))
    let xs := (l.hist.filter (fun c => decide (c.addr = addrPoint a)
      && decide (((r.at_ 4 8 : Nat) : Int) ≤ c.epoch + shift ∧ c.epoch + shift ≤ ((r.at_ 12 8 : Nat) : Int)))).reverse
    (l, { status := st_OK, parts := (chunks 9 (xs.map (fun c => ((8, c.epoch + shift) : Field) :: c.record))).map List.flatten })

/-! ### Subscriptions (R49, R84) -/

/-- The ranges of a `SUBSCRIBE` body, from offset 8 on, each 16 bytes. -/
def subRanges (r : Request) (n : Nat) : List (Nat × Nat × Nat) :=
  (List.range n).map (fun k => (r.at_ (8 + 16 * k) 4, r.at_ (8 + 16 * k + 4) 2, r.at_ (8 + 16 * k + 8) 8))

/-- `SUBSCRIBE` (R49, R83, R84). Mode 0 is `change` and 1 is `period` (log entry 24). A request with `more` that names a started
subscription adds its ranges, and the subscription starts again with the request without `more` (DESIGN CHOICE, log entry 67). -/
def Lane.cmdSubscribe (r : Request) (l : Lane) : Lane × Reply :=
  let id := r.at_ 0 2
  let mode := r.at_ 2 1
  let more := decide (r.at_ 3 1 ≠ 0)
  let n := r.at_ 6 2
  let rs := subRanges r n
  let g := l.ring r.ring
  let old := g.subs.find? (fun b => b.id == id)
  if r.len < 8 ∨ 13 < n ∨ r.len ≠ 8 + 16 * n then (l, Reply.just st_BAD_LENGTH)
  else if 15 < id ∨ (match old with | some b => b.started && !more | none => false) = true then
    (l, Reply.just st_SUBSCRIPTION_FULL)
  else if 1 < mode ∨ (mode = 1 ∧ r.at_ 4 2 = 0) then (l, Reply.just st_RANGE)
  else if rs.any (fun x => addrBad x.1 || addrBad (x.1 + x.2.1 - 1)) then (l, Reply.just st_BAD_ADDRESS)
  else if rs.any (fun x => l.noMember x.1) then (l, Reply.just st_UNIT_ABSENT)
  else
    let base : Sub := old.getD { id := id, periodic := decide (mode = 1), period := r.at_ 4 2 }
    let b : Sub := { base with
      ranges := base.ranges ++ rs, started := !more, full := true, since := l.epoch, pending := [], skipped := 0, last := [] }
    let rest := g.subs.filter (fun x => x.id != id)
    if 4096 < b.points.length then (l.setRing r.ring { g with subs := rest }, Reply.just st_BAD_LENGTH)
    else (l.setRing r.ring { g with subs := rest ++ [b] }, Reply.ok [(2, (id : Int))])

/-- `UNSUBSCRIBE` (R83). -/
def Lane.cmdUnsubscribe (r : Request) (l : Lane) : Lane × Reply :=
  let g := l.ring r.ring
  if r.len ≠ 2 then (l, Reply.just st_BAD_LENGTH)
  else if !(g.subs.any (fun b => b.id == r.at_ 0 2)) then (l, Reply.just st_NOT_FOUND)
  else (l.setRing r.ring { g with subs := g.subs.filter (fun b => b.id != r.at_ 0 2) }, Reply.ok [])

/-! ### Staging and commit (R52 to R54) -/

/-- The access of an address. -/
def accessAt (a : Nat) : Option Access := (pointAt (addrKey (addrPoint a))).map (fun r => r.acc)

/-- The writes of a `STAGE` body: address and raw value. -/
def stageWrites (r : Request) (n : Nat) : List (Nat × Nat) :=
  (List.range n).map (fun k => (r.at_ (8 + 12 * k) 4, r.at_ (8 + 12 * k + 4) 8))

/-- The value that a write carries, by the type of its point. -/
def writeValue (w : Nat × Nat) : Int := ofRaw ((pointAt (addrKey (addrPoint w.1))).elim 3 (fun r => r.type)) w.2

/-- The status of one write of a `STAGE` request (R52): its own check, then the conditions of an immediate write (R148), and a
unit that the variant does not fit under an immediate write (R7). -/
def Lane.stageStatus (v : Variant) (l : Lane) (w : Nat × Nat) : Nat :=
  let a := addrPoint w.1
  let st := writeStatus l.ownMember w.1 w.2
  if st ≠ st_OK then st
  else if accessAt w.1 = some .rs then st_OK
  else if unitAbsent v a then st_UNIT_ABSENT
  else if a = Ph.testGate (a % 0x10000 / 128) ∧ a / 0x10000 = 1 then l.testGateStatus (a % 0x10000 / 128) w.2
  else st_OK

/-- A write outside staging carried out (R13, R52): by its address. -/
def Lane.immediate (w : Nat × Nat) (l : Lane) : Lane :=
  let a := addrPoint w.1
  let i := a % 0x10000
  match a / 0x10000 with
  | 1 => if a = Ph.rearm (i / 128) then l.rearmWrite (i / 128) else l.testGateWrite (i / 128) w.2
  | 4 => l.hostPower (i / 256) (writeValue w)
  | 8 => if (l.slot (i / 32)).init then l else l.setSlot (i / 32) { l.slot (i / 32) with init := true }
  | 9 => l.todSet (writeValue w)
  | _ => l

/-- Whether a write puts a non-zero `entry_lo` into an entry that the request, the staging area or else the committed
configuration leaves with `VALID` 0 (R163). DESIGN CHOICE (log entry 113): a write of 0 to `entry_hi` is no write of a non-zero field,
so it is taken although a non-zero `entry_lo` stays staged or committed. -/
def Lane.looseEntry (l : Lane) (staged : UMap Int) (ws : List (Nat × Nat)) (w : Nat × Nat) : Bool :=
  let a := addrPoint w.1
  let hi := match ws.reverse.find? (fun x => addrPoint x.1 + 1 == a) with
    | some x => writeValue x
    | none => (staged.find? (fun (e : Nat × Int) => e.1 + 1 == a)).elim (l.c (a - 1)) Prod.snd
  decide (a / 0x10000 = 8) && decide (a % 32 = 1) && decide (writeValue w ≠ 0) && !enValid hi.toNat

/-- A write of `test_gate` that asks for both switches, refused with `RANGE`, is a false start of its phase (R147). -/
def Lane.refusedTest (st : Nat) (w : Nat × Nat) (l : Lane) : Lane :=
  let a := addrPoint w.1
  let p := a % 0x10000 / 128
  if st = st_RANGE ∧ a / 0x10000 = 1 ∧ a = Ph.testGate p ∧ bitsAt w.2 1 0 = 3 then l.falseStart p 1 else l

/-- `STAGE` (R52): checked as a whole, then carried out in the order of the request. -/
def Lane.cmdStage (v : Variant) (r : Request) (l : Lane) : Lane × Reply :=
  let n := r.at_ 0 2
  let ws := stageWrites r n
  if r.len < 8 ∨ 18 < n ∨ r.len ≠ 8 + 12 * n then (l, Reply.just st_BAD_LENGTH)
  else
    let g := (l.ring r.ring).staging
    let full := fun (k : Nat) (w : Nat × Nat) =>
      let before := ((ws.take k).filter (fun x => decide (accessAt x.1 = some .rs))).map (fun x => cfgKey (addrPoint x.1))
      let new := (before.eraseDups.filter (fun a => !(UMap.keys g).contains a)).length
      let key := cfgKey (addrPoint w.1)
      decide (accessAt w.1 = some .rs) && !(UMap.keys g).contains key && !before.contains key && decide (16384 ≤ g.length + new)
    let bad := (List.range n).findSome? (fun k =>
      let w := ws.getD k (0, 0)
      let st := l.stageStatus v w
      if st ≠ st_OK then some (k, st)
      else if l.looseEntry g ws w then some (k, st_RANGE)
      else if full k w then some (k, st_STAGING_FULL) else none)
    match bad with
    | some (k, st) => (l.refusedTest st (ws.getD k (0, 0)), { status := st, parts := [[(1, (k : Int))]] })
    | none =>
      let l1 := ws.foldl (fun l w =>
        if accessAt w.1 = some .rs then
          let q := l.ring r.ring
          let key := cfgKey (addrPoint w.1)
          l.setRing r.ring { q with staging := UMap.insert key (writeValue w) (q.staging.erase key) }
        else l.immediate w) l
      (l1, Reply.ok [])

/-- The lap in which a request was taken; the lap before for one that no ring holds as taken. -/
def Lane.takeLapOf (l : Lane) (r : Request) : Nat :=
  match (l.ring r.ring).takes.find? (fun x => x.1 == r.seq) with
  | some x => x.2
  | none => l.lap - 1

/-- The earliest epoch that R32 allows for a request: the lap of its take decides, not that of its execution. Taken at lap 159 or
before, the next epoch; later, the one after. -/
def Lane.earliestEpoch (l : Lane) (r : Request) : Nat :=
  let t := l.takeLapOf r
  max (l.epoch + 1) (if t % 200 < 160 then t / 200 + 1 else t / 200 + 2)

/-- The held commits of a ring (R54): those whose target lies later than the earliest epoch that R32 allows. -/
def Lane.heldCommits (l : Lane) (q first : Nat) : List Commit :=
  l.host.commits.filter (fun c => c.held && decide (c.ring = q) && decide (first < c.target))

/-- A commit that falls due at the next epoch although its lap of execution lies behind the validation of lap 160 (R32, R80): it is
validated after the others, on the state that they leave (log entry 27). -/
def Lane.lateCommit (v : Variant) (sealOpen : Bool) (l : Lane) (c : Commit) : Commit × Option (UMap Int) :=
  match l.host.trial with
  | none => (c, none)
  | some m =>
    if c.target ≠ l.epoch + 1 then (c, some m)
    else
      let x := l.validate v sealOpen m c
      (x.1, some x.2)

/-- `COMMIT` (R32, R54). -/
def Lane.cmdCommit (v : Variant) (sealOpen : Bool) (r : Request) (l : Lane) : Lane × Option Reply :=
  let first := l.earliestEpoch r
  let shift := l.epochShift (decide (32 ≤ r.ring))
  let asked := r.at_ 0 8
  let e := if asked = 0 then first else ((asked : Int) - shift).toNat
  let g := l.ring r.ring
  if r.len ≠ 8 then (l, some (Reply.just st_BAD_LENGTH))
  else if e < first ∨ l.epoch + 60000 < e then (l, some (Reply.just st_EPOCH_RANGE))
  else
    let held := decide (first < e)
    if held && decide (4 ≤ (l.heldCommits r.ring first).length) then
      (l, some (Reply.just st_COMMIT_QUEUE_FULL))
    else
      let c : Commit := { ring := r.ring, seq := r.seq, hostTag := r.hostTag, target := e, held := held, order := l.host.order
                          writes := g.staging }
      let x := l.lateCommit v sealOpen c
      let l1 := l.setRing r.ring { g with staging := [] }
      let l2 : Lane := { l1 with host := { l1.host with
        commits := l1.host.commits ++ [x.1], order := l1.host.order + 1, trial := x.2 } }
      let l3 := match x.2 with
        | some m => l2.freezeMoved m
        | none => l2
      (l3, if held then some { status := st_OK, epoch := (e + shift).toNat, parts := [[(1, 1)]] } else none)

/-- `DISCARD` (R54). -/
def Lane.cmdDiscard (r : Request) (l : Lane) : Lane × Reply :=
  if r.len ≠ 0 then (l, Reply.just st_BAD_LENGTH)
  else (l.setRing r.ring { l.ring r.ring with staging := [] }, Reply.ok [])

/-- `COMMIT_LIST` (R83): the held commits of the ring with their target epochs. -/
def Lane.cmdCommitList (r : Request) (l : Lane) : Lane × Reply :=
  if r.len ≠ 0 then (l, Reply.just st_BAD_LENGTH)
  else
    let xs := l.heldCommits r.ring (l.earliestEpoch r)
    let shift := l.epochShift (decide (32 ≤ r.ring))
    (l, Reply.ok (xs.flatMap (fun c => [((0, (c.seq : Int)) : Field), (0, (c.target : Int) + shift)])))

end Sys2Proof.Machine
end

