-- ==== Sys2Proof/Machine/Mailbox.lean ====
section
/-!
DEFINITION. Host mailboxes (R68 to R93): datagrams, acceptance and taking of requests, ring settings, events, capability
discovery and per-function reset.
-/

namespace Sys2Proof.Machine

/-- The host block updated. -/
def Lane.hst (l : Lane) (f : HostSt → HostSt) : Lane := { l with host := f l.host }

/-! ### Acceptance of request entries (R77, R78) -/

/-- A response kept in the history sent again: marked where its entries are still on the ring, placed anew where they have been
released (R78, R81). -/
def Lane.resendHistory (q : Nat) (h : History) (l : Lane) : Lane :=
  let g := l.ring q
  let mine := fun (e : Entry) => !e.isNote && decide (e.reqSeq = h.seq)
  if g.entries.any mine then
    l.setRing q { g with entries := g.entries.map (fun e => if mine e then { e.stamp l.sends with resent := true } else e) }
  else l.queue q (h.entries.map (fun e => { e with resent := true }))

/-- `RING_RESYNC` (R77): held requests end unexecuted, the history is cleared, and `seq` starts at 1. Staging area, held
commits and subscriptions stay. -/
def Lane.resync (q : Nat) (l : Lane) : Lane :=
  l.setRing q { l.ring q with held := [], history := [], unreached := [], nextSeq := 1, lastTaken := 0, ackSent := 0 }

/-- A request that has gone to another member, sent down its path (R85, R401). -/
def Lane.callMember (r : Request) (l : Lane) : Lane :=
  match l.walk r with
  | some (some (k, m)) => (l.hst (fun h => { h with memberCalls := h.memberCalls ++ [(l.lap, r)] })).teamSend k 5 1 (2 ^ m)
      { r with path := l.restPath r k }.fields
  | _ => l

/-- One accepted request entry (R78). A repetition of a request
that no member has answered in time asks the member again (R85). DESIGN CHOICE (log entry 68): of two different requests held
under one `seq` the first stands, and a repetition of a request that is still being executed changes nothing. -/
def Lane.accept (r : Request) (l : Lane) : Lane :=
  let g := l.ring r.ring
  let d := wrapS 32 ((r.seq : Int) - g.nextSeq)
  if r.seq = 0 ∧ r.command = 4 then (if r.len = 0 then (l.resync r.ring).answerOnly r st_OK else l.answerOnly r st_BAD_LENGTH)
  else if -64 ≤ d ∧ d < 0 then
    match g.history.find? (fun h => h.seq == r.seq) with
    | some h =>
      if h.command = r.command ∧ h.hostTag = r.hostTag then l.resendHistory r.ring h else l.answerOnly r st_SEQ_CONFLICT
    | none =>
      let same := fun (x : Request) => x.seq == r.seq && x.command == r.command && x.hostTag == r.hostTag
      if g.inProgress.any same then l
      else if g.unreached.any same then
        (if l.host.memberCalls.any (fun c => c.2.ring == r.ring && same c.2) then l else l.callMember r)
      else l.answerOnly r st_SEQ_CONFLICT
  else if d < -64 then l.answerOnly r st_SEQ_STALE
  else if 63 < d then l.answerOnly r st_SEQ_AHEAD
  else if g.held.any (fun x => x.seq == r.seq) then l
  else l.setRing r.ring { g with held := g.held ++ [r] }

/-- Whether an entry with this `rsp_seq` lies beyond an acknowledgement. -/
def unacked (ack rsp : Nat) : Bool := batonLater rsp ack

/-- The host's acknowledgement: entries up to `ack_seq` are released, and waiting ones take their room (R81, R82). -/
def Lane.acknowledge (q ack : Nat) (l : Lane) : Lane :=
  let g := l.ring q
  l.setRing q (Ring.settle l.sends { g with ackSeq := ack, entries := g.entries.filter (fun e => unacked ack e.rspSeq) })

/-! ### Datagrams (R69 to R73) -/

/-- Whether a datagram is authentic (R71, R72): its tag holds under a key that admits the host transport engine and is the
one configured for the ring, and the ring is enabled. -/
def Lane.authentic (l : Lane) (d : Datagram) : Bool :=
  let g := l.ring d.ring
  decide (d.ring < 32) && g.enabled && decide (g.keySlot = d.keySlot) && d.tagOk && l.hostKey d.keySlot

/-- The counters accepted under a key slot. -/
def Lane.window (l : Lane) (slot : Nat) : CounterWindow := UMap.get (fun _ => {}) l.host.counters slot

/-- Whether a counter is too old or was accepted before (R72). -/
def CounterWindow.stale (w : CounterWindow) (c : Nat) : Bool := decide ((c : Int) ≤ w.highest - 64) || w.recent.contains c

/-- A counter accepted (R72, R73); `other` says that it came in through the other lane. NV takes the highest counter at
least every 2^20 datagrams. -/
def Lane.takeCounter (slot c : Nat) (other : Bool) (l : Lane) : Lane :=
  let w := l.window slot
  let top := max w.highest c
  let live := fun (x : Nat) => decide (top - 64 < (x : Int))
  let w1 : CounterWindow := {
    highest := top, recent := (c :: w.recent).filter live
    viaOther := (if other then c :: w.viaOther else w.viaOther).filter live }
  let saved := UMap.get (fun _ => 0) l.host.savedCounter slot
  l.hst (fun h => { h with
    counters := UMap.put (fun _ => {}) h.counters slot w1
    savedCounter := if (saved : Int) + 2 ^ 20 ≤ top then UMap.put (fun _ => 0) h.savedCounter slot top.toNat else h.savedCounter })

/-- The effect of an accepted datagram in one lane: the host's address, its acknowledgement and its entries (R69, R78,
R81). -/
def Lane.takeEntries (f : Forward) (l : Lane) : Lane :=
  let l1 := l.setRing f.ring { l.ring f.ring with source := f.source }
  (l1.acknowledge f.ring f.ackSeq).forL (f.entries.map (fun r => { r with ring := f.ring })) Lane.accept

/-- A failed authentication counted, with event 120 beyond 16 at one port in one second (R72, R90); the ports HOST A1, A2, B1
and B2 are numbered 0 to 3. -/
def State.authFailure (i : LaneId) (port : Nat) (s : State) : State :=
  let u := 2 * i.num + port
  let s1 := s.onLane i (fun _ => true) (fun _ _ l => l.hst (fun h => { h with
    authFail := h.authFail + 1
    authBurst := (u, l.lap) :: h.authBurst.filter (fun e => decide (l.lap < e.2 + 200000)) }))
  let n := ((s1.lane i).host.authBurst.filter (fun e => e.1 == u)).length
  if 16 < n then s1.fireBoth 120 u [(n : Int)] else s1

/-- The delivery request of the host transport engine for a datagram of an enabled ring: a refusal is counted (R378). -/
def State.keyAsked (i : LaneId) (d : Datagram) (s : State) : State :=
  let g := (s.lane i).ring d.ring
  if decide (d.ring < 32) && g.enabled && decide (g.keySlot = d.keySlot) then
    s.onLane i (fun _ => true) (fun _ _ l => l.keyDelivery engHost d.keySlot 3)
  else s

/-- The settings of one of the lane's two HOST ports (R68). -/
def Lane.hostPort (l : Lane) (p : Nat) : HostPort := UMap.get (fun _ => {}) l.host.ports p

/-- The port by which a lane answers a source (R69): its own enabled one on the subnet of the source's address, which stands above the
16 bits of its UDP port. -/
def Lane.portFor (l : Lane) (dest : Nat) : Nat :=
  let net := fun (q : HostPort) (a : Nat) => a / 2 ^ (128 - q.prefixLen)
  ([0, 1].find? (fun p => (l.hostPort p).enabled
    && decide (net (l.hostPort p) (dest / 65536) = net (l.hostPort p) (l.hostPort p).addr))).getD 0

/-- DATAGRAM_RECEIVE (R68 to R73). Only UDP port 50120 of an enabled port takes mailbox datagrams; DESIGN CHOICE (log entry 89): one of
another version, kind, count or length is dropped and counted nowhere. A wake datagram is checked by the always-on
domain with the copies it holds (R389), at HOST A1 and HOST B1 only, and both lanes hold its counter; before ASLEEP it ends a sleep entry
(R464). -/
def State.datagram (i : LaneId) (d : Datagram) (s : State) : State :=
  let l := s.lane i
  let shape := decide (d.udpPort = 50120) && decide (d.port < 2) && (l.hostPort d.port).enabled && decide (d.version = 1) && decide (d.count = d.entries.length)
    && (if d.kind = 0 then decide (1 ≤ d.count ∧ d.count ≤ 4) else decide ((d.kind = 2 ∨ d.kind = 3) ∧ d.count = 0))
  if !shape then s
  else if !l.active then
    if d.kind = 3 ∧ d.port = 0 ∧ l.alwaysOn = true ∧ l.power.power = pwAsleep then
      if d.tagOk && l.keys.aoCopies.contains d.keySlot && (l.ring d.ring).enabled && decide ((l.ring d.ring).keySlot = d.keySlot) then
        if (l.window d.keySlot).stale d.counter then s.onLane i (fun _ => true) (fun _ _ l => l.hst (fun h => { h with replay := h.replay + 1 }))
        else (s.eachLane (fun l => decide (l.id = i) || (l.alwaysOn && decide (l.power.power = pwAsleep))) (fun _ j l =>
          l.takeCounter d.keySlot d.counter (decide (j ≠ i)))).wake 3
      else s.authFailure i d.port
    else s
  else if !l.authentic d then (s.keyAsked i d).authFailure i d.port
  else if (l.window d.keySlot).stale d.counter then
    s.onLane i (fun _ => true) (fun _ _ l => l.hst (fun h =>
      if (l.window d.keySlot).viaOther.contains d.counter then { h with dupDatagrams := h.dupDatagrams + 1 }
      else { h with replay := h.replay + 1 }))
  else
    let f : Forward := { ring := d.ring, keySlot := d.keySlot, counter := d.counter, source := d.source, ackSeq := d.ackSeq
                         entries := d.entries }
    let s1 := s.onLane i (fun _ => true) (fun _ _ l =>
      ((l.takeCounter d.keySlot d.counter false).takeEntries f).hst (fun h => { h with forward := h.forward ++ [f] }))
    if d.kind = 3 ∧ d.port = 0 then s1.wake 3 else s1

/-- FORWARDED_REQUEST (R69): the oldest entries that the other lane has forwarded arrive in lane `i`; a copy of a datagram that
the lane has taken itself is dropped and counted (R72). -/
def State.forwarded (i : LaneId) (s : State) : State :=
  match (s.lane i.other).host.forward with
  | [] => s
  | f :: rest =>
    let s1 := s.onLane i.other (fun _ => true) (fun _ _ l => l.hst (fun h => { h with forward := rest }))
    s1.onLane i Lane.active (fun _ _ l =>
      if (l.window f.keySlot).recent.contains f.counter then l.hst (fun h => { h with dupDatagrams := h.dupDatagrams + 1 })
      else (l.takeCounter f.keySlot f.counter true).takeEntries f)

/-- What ring `q` sends in this lap: the entries sent in it, up to four to a datagram, or an acknowledgement alone where a request
has been taken since the last datagram (R70). -/
def Ring.bodies (g : Ring) (lap : Nat) : List (Nat × List Entry) :=
  let es := g.entries.filter (fun e => decide (e.sentLap = lap + 1))
  if es.isEmpty then (if g.lastTaken = g.ackSent then [] else [(2, [])]) else (chunks 4 es).map (fun b => (1, b))

/-- The datagrams of ring `q` in this lap, sent by the lane that holds the baton to the source of the ring's latest datagram
(R69 to R71), each with the next outbound counter of its key slot (R73). Without a usable transport key nothing can be sealed, and the refusal counts (R378); the
response to a message that replaced the ring's key goes under the old one (R385). -/
def Lane.ringDatagrams (q : Nat) (l : Lane) : Lane :=
  let g := l.ring q
  let bs := g.bodies l.lap
  let c0 := UMap.get (fun _ => 0) l.host.outCounter g.keySlot
  let asked := l.askKey engHost g.keySlot 3
  let key : Option (List Nat × Nat) := match g.oldKey with
    | some k => some k
    | none => if asked.2 then some ((slotOf l.keys.slots g.keySlot).value, c0) else none
  if !l.link.grant || bs.isEmpty then l
  else match key with
  | none => asked.1
  | some (bytes, c) =>
    let out := bs.zipIdx.map (fun x => ({
      kind := x.1.1, keySlot := g.keySlot, counter := c + x.2, ring := q, ackSeq := g.lastTaken, dest := g.source
      port := l.portFor g.source
      entries := x.1.2, key := bytes } : OutDatagram))
    (l.setRing q { g with ackSent := g.lastTaken }).hst (fun h => { h with
      sent := h.sent ++ out, outCounter := UMap.put (fun _ => 0) h.outCounter g.keySlot (if g.oldKey.isSome then c0 else c + bs.length) })

/-- The 32-byte header of a datagram to the host (R70). -/
def OutDatagram.header (d : OutDatagram) : List Nat :=
  fieldsBytes [(1, 1), (1, (d.kind : Int)), (2, (d.keySlot : Int)), (8, (d.counter : Int)), (1, (d.ring : Int)),
    (1, (d.entries.length : Int)), (2, 0), (4, (d.ackSeq : Int)), (12, 0)]

/-- The 12-byte nonce of a datagram to the host (R71). -/
def OutDatagram.nonce (d : OutDatagram) : List Nat := fieldsBytes [(2, (d.keySlot : Int)), (1, 1), (1, 0), (8, (d.counter : Int))]

/-- A datagram as it is sent (R71): the header, then the entries sealed under the ring's transport key. -/
def OutDatagram.bytes (d : OutDatagram) : List Nat :=
  d.header ++ gcmSeal d.key d.nonce d.header (d.entries.flatMap (fun e => fieldsBytes e.fields))

/-- The settings that `RING_SET` has given a ring, in force for the datagrams after its response (R83). -/
def Ring.settled (g : Ring) : Ring :=
  match g.setting with
  | some x => { g with enabled := x.enabled, keySlot := x.keySlot, rights := x.rights, setting := none, oldKey := none }
  | none => { g with oldKey := none }

/-- The datagrams of one ring in a lap; entries of a member's ring go back over their level as response frames, those
of history and acquisition data as bulk frames (R85, R401). -/
def Lane.ringOut (q : Nat) (l : Lane) : Lane :=
  let g := l.ring q
  if 32 ≤ q then
    let k := (q - 32) / 8
    let send := fun (kind : Nat) (es : List Entry) (l : Lane) =>
      if es.isEmpty then l else l.teamSend k kind 1 (2 ^ ((q - 32) % 8)) (es.flatMap Entry.fields)
    if g.entries.isEmpty then l
    else send 11 (g.entries.filter Entry.bulk) (send 6 (g.entries.filter (fun e => !e.bulk))
      (l.setRing q { g with entries := [], ackSeq := g.nextRsp }))
  else l.ringDatagrams q

/-- The datagrams of a lap (R70); then the settings of R83 hold. -/
def Lane.sendDatagrams (l : Lane) : Lane :=
  (l.hst (fun h => { h with sent := [] })).forL (l.host.rings.map Prod.fst) (fun q l =>
    let l1 := l.ringOut q
    l1.setRing q (l1.ring q).settled)

/-- A lane's outbound counters brought up to those of the lane that sends (R73). -/
def Lane.counterMirror (l h : Lane) : Lane := l.hst (fun x => { x with outCounter := h.host.outCounter })

/-- RESEND_TIMER (R81): entries of a ring not acknowledged 20 ms after they were last sent are sent again by the holder. -/
def Lane.resendTimer (q : Nat) (l : Lane) : Lane :=
  if !l.link.grant then l
  else
    let g := l.ring q
    l.setRing q { g with entries := g.entries.map (fun e =>
      if e.sentLap ≠ 0 ∧ e.sentLap + msLaps 20 ≤ l.lap + 1 then { e.stamp l.sends with resent := true } else e) }

/-! ### Taking (R79, R80) -/

/-- The request of ring `q` that may be taken: the next `seq`, with a free entry on the response ring. -/
def Lane.takeable (l : Lane) (q : Nat) : Option Request :=
  let g := l.ring q
  if g.enabled && decide (g.entries.length < 64) then g.held.find? (fun r => r.seq == g.nextSeq) else none

/-- A request taken out of its ring in lap `n`. -/
def Lane.takeAt (n : Nat) (r : Request) (l : Lane) : Lane :=
  let g := l.ring r.ring
  (l.setRing r.ring { g with
    held := g.held.filter (fun x => x.seq != r.seq), nextSeq := nextSeqNo r.seq, lastTaken := r.seq
    takes := (r.seq, n) :: g.takes.filter (fun x => x.1 != r.seq)
    inProgress := g.inProgress.filter (fun x => x.seq != r.seq) ++ [r] }).hst (fun h => { h with
      taken := h.taken ++ [{ lap := n, req := r }] })

/-- A request taken out of its ring now. -/
def Lane.takeOut (r : Request) (l : Lane) : Lane := l.takeAt l.lap r

/-- The rings in the order in which they are served, beginning after the one served last. -/
def Lane.ringOrder (l : Lane) : List Nat := (List.range 32).map (fun k => (l.host.lastRing + 1 + k) % 32)

/-- Up to `n` requests taken in turn; `notice` says that a take notice goes to a standby. -/
def Lane.takeUpTo (notice : Bool) : Nat → Lane → Lane
  | 0, l => l
  | n + 1, l =>
    match l.ringOrder.findSome? (fun q => (l.takeable q).map (fun r => (q, r))) with
    | none => l
    | some (q, r) =>
      let l1 := (l.takeOut r).hst (fun h => { h with
        lastRing := q, notices := if notice then h.notices ++ [(q, r.seq, l.lap)] else h.notices })
      Lane.takeUpTo notice n l1

/-- REQUEST_TAKE (R79): once at the start of a lap, by the baton holder; none from the point of a sleep on (R463). -/
def State.requestTake (s : State) : State :=
  match s.holder with
  | none => s
  | some h =>
    let l := s.lane h
    let o := s.lane h.other
    let sleeping := match l.power.sleep with | some p => p.committed | none => false
    if sleeping || decide (l.host.takeLap = l.lap + 1) then s
    else
      let notice := o.active && decide (o.link.state = .standby)
      s.onLane h (fun _ => true) (fun _ _ l => (Lane.takeUpTo notice 4 l).hst (fun x => { x with takeLap := l.lap + 1 }))

/-- TAKE_NOTICE (R79): the standby takes the same requests in the order of the notices, in the laps that the notices name, and
acknowledges. -/
def State.takeNotice (s : State) : State :=
  match s.holder with
  | none => s
  | some h =>
    let l := s.lane h
    if !(s.lane h.other).active then s
    else
      let rs := l.host.notices.filterMap (fun n => (l.host.taken.find? (fun t => t.req.ring == n.1 && t.req.seq == n.2.1)))
      let s1 := s.onLane h.other (fun _ => true) (fun _ _ o => o.forL rs (fun t o =>
        if o.host.taken.any (fun x => x.req == t.req) then o else o.takeAt t.lap t.req))
      let s2 := s1.onLane h.other (fun _ => true) (fun _ _ o => o.hst (fun x => { x with lastRing := l.host.lastRing }))
      s2.onLane h (fun _ => true) (fun _ _ l => l.hst (fun x => { x with notices := [] }))

/-- TAKE_NOTICE_TIMEOUT (R80, R360 cause 12): 2 laps without an acknowledgement, the holder executes alone and the standby
leaves step. -/
def State.noticeTimeout (s : State) : State :=
  match s.holder with
  | none => s
  | some h =>
    let l := s.lane h
    if !(l.host.notices.any (fun n => decide (n.2.2 + 2 ≤ l.lap))) then s
    else
      let s1 := s.onLane h (fun _ => true) (fun _ _ l => l.hst (fun x => { x with notices := [] }))
      let s2 := s1.onLane h.other Lane.active (fun _ _ l => (l.inc Hp.takeNoticeMisses).mark 11)
      s2.diagnose h.other 12

/-- The requests that both lanes execute in the lap that begins: those taken before it and acknowledged (R79). -/
def Lane.readyRequests (l : Lane) : List Request :=
  (l.host.taken.filter (fun t => decide (t.lap < l.lap)
    && !(l.host.notices.any (fun n => decide (n.1 = t.req.ring ∧ n.2.1 = t.req.seq))))).map (fun t => t.req)

/-- A request's execution noted in a lane: its ring stands behind it. -/
def Lane.retire (r : Request) (l : Lane) : Lane :=
  let takeLap := ((l.host.taken.find? (fun t => t.req == r)).map (fun t => t.lap)).getD l.lap
  let l1 := l.hst (fun h => { h with taken := h.taken.filter (fun t => t.req != r) })
  let g := l1.ring r.ring
  if g.held.any (fun x => x == r) then
    l1.setRing r.ring { g with
      held := g.held.filter (fun x => x != r), nextSeq := nextSeqNo r.seq, lastTaken := r.seq
      takes := (r.seq, takeLap) :: g.takes.filter (fun x => x.1 != r.seq), inProgress := g.inProgress ++ [r] }
  else l1

/-! ### Execution in both lanes (R75, R79, R85) -/

/-- The lane whose copy decides what both lanes answer: the holder, else one that computes. -/
def State.refLane (s : State) : Option LaneId :=
  match s.holder with
  | some h => some h
  | none => if s.a.active then some .A else if s.b.active then some .B else none

/-- A lane's command carried out in the lanes that the request selects (R75); both lanes answer with the reply of the named
lane, or with the holder's. A named lane that does not compute is as one not present. -/
def onLanes (r : Request) (f : Lane → Lane × Option Reply) : StateCmd := fun s =>
  let sel := fun (i : LaneId) => (decide (r.lane = 0) || decide (r.lane = i.num + 1)) && (s.lane i).active
  if !(sel .A || sel .B) then (s, some (Reply.just st_UNIT_ABSENT))
  else
    let x := f s.a
    let y := f s.b
    let s1 : State := { s with a := if sel .A then x.1 else s.a, b := if sel .B then y.1 else s.b }
    (s1, if sel .A && (!sel .B || decide (s.refLane = some .A)) then x.2 else y.2)

/-- The same for a command that always answers at once. -/
def onLanesNow (r : Request) (f : Lane → Lane × Reply) : StateCmd :=
  onLanes r (fun l => let x := f l; (x.1, some x.2))

/-- The right that a command needs (R74, R83): none for `RING_RESYNC`; `EVENT_MAP` is checked entry by entry. -/
def rightOf (code : Nat) (r : Request) : Option Nat :=
  if code = 0x0004 ∨ code = 0x0040 then none
  else if code = 0x0003 then some 6
  else if code = 0x0011 ∨ code = 0x0020 ∨ code = 0x0021 ∨ code = 0x0022 then some 1
  else if code = 0x0050 then some (if r.at_ 0 1 = 9 then 5 else 3)
  else if code < 0x0100 ∨ code = 0x0104 then some 0
  else if code / 0x100 = 2 then some 4
  else if code / 0x100 = 3 ∨ code = 0x0705 then some 5
  else if code = 0x0605 ∨ code = 0x0606 then some 1
  else if code / 0x100 = 6 then some 0
  else some 2

/-- The entries of an `EVENT_MAP`: event and ring. -/
def eventEntries (r : Request) : List (Nat × Nat) :=
  (List.range (r.at_ 0 2)).map (fun k => (r.at_ (2 + 4 * k) 2, r.at_ (4 + 4 * k) 1))

/-- Whether the ring lacks the right that an `EVENT_MAP` needs (R74, R83): its own ring needs `READ`, any other ring, or taking a source
from another ring, `ADMIN`; a request without entries needs either. -/
def Lane.mapLacks (r : Request) (l : Lane) : Bool :=
  let rights := (l.ring r.ring).rights
  let own := fun (e : Nat × Nat) => decide (e.2 = r.ring)
    || (decide (e.2 = 255) && (decide (l.evRing e.1 = 255) || decide (l.evRing e.1 = r.ring)))
  (eventEntries r).any (fun e => if own e then !bitAt rights 0 && !bitAt rights 6 else !bitAt rights 6)
    || (!bitAt rights 0 && !bitAt rights 6)

/-- The places and lengths of the bytes that a command's body gives as 0 (R83, R82, R371, R412, R436, R452, R476). -/
def zeroBytes (code : Nat) (r : Request) : List (Nat × Nat) :=
  let each := fun (n first stride len : Nat) => (List.range (min n 64)).map (fun k => (first + stride * k, len))
  match code with
  | 0x0010 => (10, 2) :: each (r.at_ 8 2) 18 8 2
  | 0x0011 => (10, 2) :: each (r.at_ 8 2) 18 8 2
  | 0x0020 => [(2, 6)]
  | 0x0030 => each (r.at_ 6 2) 14 16 2
  | 0x0040 => each (r.at_ 0 2) 5 4 1
  | 0x0050 => [(1, 1)]
  | 0x0302 => [(2, 2), (10, 6)]
  | 0x0303 => [(2, 2)]
  | 0x0401 => [(2, 6)]
  | 0x0402 => [(1, 3)]
  | 0x0500 => (11, 1) :: (if r.at_ 3 1 = 0 then [(19, 1)] else [])
  | 0x0524 => [(1, 1)]
  | 0x0601 => [(2, 6)]
  | 0x0701 => (1, 7) :: each (r.at_ 0 1) 12 16 4
  | 0x0800 => [(3, 1)]
  | _ => []

/-- Whether the bytes that the body's format gives as 0 are 0; else the request is answered `RANGE` (DESIGN CHOICE, log entry 117). -/
def zerosOk (code : Nat) (r : Request) : Bool := (zeroBytes code r).all (fun z => decide (r.at_ z.1 z.2 = 0))

/-- The commands whose execution cancels a sleep entry (R464). -/
def cancelsSleep (code : Nat) : Bool := [0x0050, 0x0201, 0x0301, 0x0304, 0x0305, 0x0401].contains code

/-- A request executed (R75, R79, R83, R85): its path, its ring's right and its lane are checked, then the command acts and
is answered in both lanes, or is answered later. A request for another member goes on to it where its ring has the right (R74). -/
def State.run (code : Nat) (r : Request) (f : StateCmd) (s : State) : State :=
  match s.refLane with
  | none => s
  | some i =>
    let l := s.lane i
    let named : LaneId := if r.lane = 2 then .B else .A
    let lacks := match rightOf code r with
      | some b => !bitAt (l.ring r.ring).rights b
      | none => false
    match l.walk r with
    | none => s.answerBoth r (Reply.just st_PATH_INVALID)
    | some (some _) =>
      if lacks || (decide (code = 0x0040) && l.mapLacks r) then s.answerBoth r (Reply.just st_NOT_PERMITTED)
      else s.eachLane Lane.active (fun _ _ l => l.callMember r)
    | some none =>
      if lacks then s.answerBoth r (Reply.just st_NOT_PERMITTED)
      else if 2 < r.lane then s.answerBoth r (Reply.just st_BAD_LENGTH)
      else if r.lane ≠ 0 ∧ (s.lane named).present = false then s.answerBoth r (Reply.just st_UNIT_ABSENT)
      else if !zerosOk code r then s.answerBoth r (Reply.just st_RANGE)
      else
        let x := f (if cancelsSleep code then s.cancelSleep else s)
        match x.2 with
        | some rep => x.1.answerBoth r rep
        | none => x.1

/-! ### Common commands (R83, R87, R92) -/

/-- `NOP`. -/
def Lane.cmdNop (r : Request) (l : Lane) : Lane × Reply := (l, Reply.ok (r.body.map (fun (b : Nat) => (1, (b : Int)))))

/-- The identities of a lane's running images, or zeros where the lane is absent. -/
def fwIds (l : Lane) : List Field := (List.range 8).map (fun k => (8, if l.present then l.p (D0.fwId k) else 0))

/-- `CAPS` (R92). Bit 0 of the family bitmap stands for the commands below 0x0100 (log entry 25). -/
def cmdCaps (r : Request) : StateCmd := fun s =>
  if r.len ≠ 0 then (s, some (Reply.just st_BAD_LENGTH))
  else
    let v := s.chassis.variant
    let l := s.lane (s.refLane.getD .A)
    let fam : Nat := if v.team then 0x1FF else 0x1EF
    (s, some (Reply.ok ([((4, (l.capability v : Int)) : Field), (8, (s.chassis.serialLo : Int)),
      (8, (s.chassis.serialHi : Int)), (4, (s.chassis.rev : Int)), (4, (s.arbiter.baton : Int)), (1, s.a.link.state.code),
      (1, s.b.link.state.code), (2, (fam : Int))] ++ fwIds s.a ++ fwIds s.b
      ++ [(8, (l.latest.getD 0 : Int)), (2, 1024), (1, 32), (1, 64), (52, 0)])))

/-- `RING_SET` (R74, R83). A ring that is enabled for the first time starts at `seq` 1 (R77). The settings hold from the lap's
datagrams on, which carry the response. DESIGN CHOICE (log entry 92): ring 0 takes another key slot, and rights other than `ADMIN`. -/
def Lane.cmdRingSet (r : Request) (l : Lane) : Lane × Reply :=
  let q := r.at_ 0 1
  let on := r.at_ 1 1
  let rights := r.at_ 4 1
  if r.len ≠ 5 then (l, Reply.just st_BAD_LENGTH)
  else if 31 < q ∨ 1 < on ∨ 127 < rights then (l, Reply.just st_RANGE)
  else
    let x : RingSetting := { enabled := decide (on = 1 ∨ q = 0), keySlot := r.at_ 2 2
                             rights := if q = 0 then rights ||| 0x40 else rights }
    (l.setRing q { l.ring q with setting := some x }, Reply.ok [])

/-- `RING_RESYNC` as a command executed (R77). DESIGN CHOICE (log entry 69): one that comes with a `seq` other than 0 is taken in
order and acts as the same command. -/
def Lane.cmdRingResync (r : Request) (l : Lane) : Lane × Reply :=
  if r.len ≠ 0 then (l, Reply.just st_BAD_LENGTH) else (l.resync r.ring, Reply.ok [])

/-- `RING_STATUS` (R83). -/
def Lane.cmdRingStatus (r : Request) (l : Lane) : Lane × Reply :=
  let q := r.at_ 0 1
  if r.len ≠ 1 then (l, Reply.just st_BAD_LENGTH)
  else if 31 < q then (l, Reply.just st_RANGE)
  else
    let g := l.ring q
    let pend := g.notes + (g.waiting.filter Entry.isNote).length + (g.subs.filter (fun b => !b.pending.isEmpty)).length
    let held := (l.heldCommits q (l.earliestEpoch r)).length
    (l, Reply.ok [(0, (g.nextSeq : Int)), (0, (g.nextRsp : Int)), (0, (pend : Int)), (0, (held : Int)), (0, (l.host.authFail : Int)),
      (0, (l.host.replay : Int))])

/-- Whether an event source belongs to an absent unit (R8, R88): an outlet, a hub, an AC point, the mast link, or the relay team's
own sources 77 to 79. DESIGN CHOICE (log entry 70): safety telegrams (93) and the PTP time of day (124) are no units of a team
that is not fitted. A missing lane's sources do not fire, and may be mapped. -/
def eventAbsent (v : Variant) (n : Nat) : Bool :=
  if n < 32 then decide (v.outlets ≤ n)
  else if n < 64 then decide (v.ports ≤ n - 32)
  else if n < 72 then decide (v.acPoints ≤ n - 64)
  else if n = 76 then !v.mast
  else if n = 77 ∨ n = 78 ∨ n = 79 then !v.team
  else false

/-- `EVENT_MAP` (R74, R83, R87): all entries or none. DESIGN CHOICE (log entry 71): taking away the mapping of an absent
unit's source also fails with `UNIT_ABSENT`. -/
def Lane.cmdEventMap (v : Variant) (r : Request) (l : Lane) : Lane × Reply :=
  let n := r.at_ 0 2
  let es := eventEntries r
  if r.len < 2 ∨ 55 < n ∨ r.len ≠ 2 + 4 * n then (l, Reply.just st_BAD_LENGTH)
  else if es.any (fun e => decide (127 < e.1) || (decide (31 < e.2) && decide (e.2 ≠ 255))) then (l, Reply.just st_RANGE)
  else if l.mapLacks r then (l, Reply.just st_NOT_PERMITTED)
  else if es.any (fun e => eventAbsent v e.1) then (l, Reply.just st_UNIT_ABSENT)
  else
    (l.hst (fun h => { h with evMap := es.foldl (fun m e => UMap.put (fun _ => 255) m e.1 e.2) h.evMap }), Reply.ok [])

/-- `EVENT_MAP_READ` (R83). -/
def Lane.cmdEventMapRead (r : Request) (l : Lane) : Lane × Reply :=
  if r.len ≠ 0 then (l, Reply.just st_BAD_LENGTH)
  else (l, Reply.ok ((List.range 128).map (fun n => (1, (l.evRing n : Int)))))

/-! ### Per-function reset (R93) -/

/-- The metering point that a unit of code 0x05 names. -/
def frontEnd (unit : Nat) : Nat := if unit < 0x100 then unit else 8 + (unit - 0x100)

/-- Whether a function's unit exists: in any variant, and in this one. -/
def resetUnit (v : Variant) (code unit : Nat) : Bool × Bool :=
  match code with
  | 1 => (decide (unit < 32), decide (unit < v.outlets))
  | 2 => (decide (unit < 4), true)
  | 3 => (true, v.mast)
  | 4 => (true, true)
  | 5 => (decide (unit < 8 ∨ (0x100 ≤ unit ∧ unit < 0x120)),
      if unit < 0x100 then decide (unit < v.acPoints) else decide (unit - 0x100 < v.dcPoints))
  | 6 => (decide (unit < 4), true)
  | 7 => (decide (unit < 32), decide (unit < v.ports))
  | 8 => (decide (unit < 2), true)
  | 9 => (true, true)
  | _ => (false, false)

/-- The lane selectors that a code allows. -/
def resetLanes (code : Nat) : List Nat :=
  if code = 1 then [0] else if code = 2 ∨ code = 3 ∨ code = 4 then [0, 1, 2] else [1, 2]

/-- What the reset of a function stops in a lane (R93). An operation in flight in a session engine (code 6) is retried on another one
inside the lane, so only the engine's loaded keys go. -/
def Lane.resetStart (code unit : Nat) (l : Lane) : Lane :=
  match code with
  | 1 => l.stopSession unit
  | 2 =>
    let b := l.bus unit
    l.setBus unit { b with
      arrived := [], rx := [], shadow := [], reading := [], flight := none, pending := b.pending.filter (fun p => !p.cell) }
  | 3 => (l.mastStart 0).mastStart 1
  | 4 => l.acqClose
  | 5 =>
    let m := frontEnd unit
    (l.met! (fun x => { x with chans := x.chans.filter (fun e => decide (e.1 / 8 ≠ m)) })).forN (if m < 8 then 6 else 2)
      (fun c l => l.gainShown m c false)
  | 6 => { l with keys := { l.keys with copies := l.keys.copies.filter (fun c => decide (c.1 ≠ 1 + unit)) } }
  | 7 => if l.p (Hub.linkState unit) = lkOff then l else l.linkTo unit lkDark
  | 8 => { l with engine := if unit = 0 then { l.engine with off0 := true } else { l.engine with off1 := true } }
  | _ => l

/-- What a function does as it runs again: a loop engine takes its output histories from the other lane where that holds the
baton (R93). -/
def Lane.resetEnd (l : Lane) (holder : Lane) (copy : Bool) (code unit : Nat) : Lane :=
  if code = 2 then l.canStart unit
  else if code ≠ 8 then l
  else
    let l1 : Lane := { l with engine := if unit = 0 then { l.engine with off0 := false } else { l.engine with off1 := false } }
    if !copy then l1
    else
      let mine := fun (e : Nat × SlotSt) => decide (e.1 % 2 = unit)
      let keys := ((l1.slots.filter mine).map Prod.fst ++ (holder.slots.filter mine).map Prod.fst).eraseDups
      l1.forL keys (fun t l => l.setSlot t (holder.slot t))

/-- `RESET_FUNCTION` (R93). Lane 0 names both lanes, so it needs both present. A code or unit that no row of the table has, or a lane that its row does not allow, is out of
range. -/
def cmdReset (r : Request) : StateCmd := fun s =>
  let code := r.at_ 0 1
  let unit := r.at_ 2 2
  let u := resetUnit s.chassis.variant code unit
  let i : LaneId := if r.lane = 2 then .B else .A
  let l := s.lane i
  let o := s.lane i.other
  let unit := if code = 3 ∨ code = 4 ∨ code = 9 then 0 else unit
  let busy := fun (l : Lane) => l.host.resets.any (fun x => decide (x.code = code ∧ x.unit = unit)
    && (decide (x.lanes = 0) || decide (r.lane = 0) || decide (x.lanes = r.lane)))
  let armed := (List.range 16).any (fun k => (l.phase (16 * unit + k)).arm || bitAt (l.hub unit).armed k)
  let refused : Nat :=
    if code = 5 ∧ o.link.state.inStep = false then st_NO_PARTNER
    else if code = 7 ∧ s.arbiter.grant = some i ∧ armed = true then st_ARMED
    else if code = 8 ∧ s.arbiter.grant = some i then st_NOT_STANDBY
    else if code = 9 ∧ s.arbiter.grant = some i then st_BATON_HELD
    else if code = 9 ∧ s.arbiter.grant ≠ some i.other then st_NO_PARTNER
    else st_OK
  if r.len ≠ 4 then (s, some (Reply.just st_BAD_LENGTH))
  else if !u.1 || !(resetLanes code).contains r.lane then (s, some (Reply.just st_RANGE))
  else if !u.2 || (decide (r.lane = 0) && !(s.a.present && s.b.present)) then (s, some (Reply.just st_UNIT_ABSENT))
  else if busy s.a || busy s.b || (decide (code = 9) && l.link.fwAnswer.isSome) then (s, some (Reply.just st_BUSY))
  else if refused ≠ st_OK then (s, some (Reply.just refused))
  else if code = 9 then
    ((s.onLane i (fun _ => true) (fun _ _ l => l.lnk (fun x => { x with fwAnswer := some { r with command := 0x50 } }))).laneReset i false,
      none)
  else
    let go := fun (j : LaneId) (l0 : Lane) =>
      let l := if code = 8 then l0.tuneAbort 5 else l0
      let l1 := if r.lane = 0 ∨ r.lane = j.num + 1 then l.resetStart code unit else l
      l1.hst (fun h => { h with resets := h.resets ++
        [{ code := code, unit := unit, lanes := r.lane, req := r, mark := if code = 1 then l.p (Out.sessions unit) else 0 }] })
    (s.eachLane Lane.active (fun _ j l => go j l), none)

/-- FUNCTION_RESET_COMPLETE (R93): the function runs again, the request is answered and event 119 fires. A session stack
runs again once the session that it stopped has ended, whether or not a new one has begun since. -/
def State.resetComplete (code unit : Nat) (s : State) : State :=
  let mine := fun (x : FnReset) => decide (x.code = code ∧ x.unit = unit)
  let open_ := fun (l : Lane) (x : FnReset) => decide (code = 1) && decide (l.ss unit ≠ ssIdle) && decide (l.ss unit ≠ ssBlocked)
    && decide (l.p (Out.sessions unit) = x.mark)
  s.eachLane Lane.active (fun s i l =>
    match l.host.resets.find? mine with
    | none => l
    | some x =>
      if open_ l x then l
      else
        let l1 := l.hst (fun h => { h with resets := h.resets.filter (fun y => !mine y) })
        let here := decide (x.lanes = 0) || decide (x.lanes = i.num + 1)
        let l2 := if here then l1.resetEnd (s.lane i.other) (decide (s.holder = some i.other)) code unit else l1
        (l2.answer x.req (Reply.ok [])).fire 119 code [(unit : Int), (x.lanes : Int)])

/-! ### Billing commands (R316, R317) -/

/-- Billing status codes (R317). -/
def st_PERIOD_GONE : Nat := 0x0601
def st_PROFILE_GONE : Nat := 0x0602
def st_LOG_GONE : Nat := 0x0603
def st_RECORD_GONE : Nat := 0x0604
def st_NO_RECORD : Nat := 0x0605
def st_CLOCK_RANGE : Nat := 0x0606
def st_CLOCK_RATE : Nat := 0x0607
def st_ALREADY_ACKED : Nat := 0x0608
def st_METROLOGY_STOPPED : Nat := 0x0609

/-- The metering point of a kind and number, checked: `RANGE` outside the kinds, `UNIT_ABSENT` where it is not fitted. -/
def meterPoint (v : Variant) (kind n : Nat) : Except Nat Nat :=
  if 1 < kind then .error st_RANGE
  else if kind = 0 then (if 8 ≤ n then .error st_RANGE else if v.acPoints ≤ n then .error st_UNIT_ABSENT else .ok n)
  else (if 32 ≤ n then .error st_RANGE else if v.dcPoints ≤ n then .error st_UNIT_ABSENT else .ok (8 + n))

/-- A billing command in a lane whose metrology runs (R280, R317). -/
def Lane.billing (l : Lane) (ok : Bool) (f : Lane → Lane × Reply) : Lane × Reply :=
  if !ok then (l, Reply.just st_BAD_LENGTH) else if l.p Mp.mpState ≠ 0 then (l, Reply.just st_METROLOGY_STOPPED) else f l

/-- `PERIOD_READ` (R293, R316). -/
def Lane.cmdPeriod (v : Variant) (r : Request) (l : Lane) : Lane × Reply :=
  l.billing (decide (r.len = 3)) (fun l =>
    match meterPoint v (r.at_ 1 1) (r.at_ 2 1) with
    | .error e => (l, Reply.just e)
    | .ok m =>
      if 35 < r.at_ 0 1 then (l, Reply.just st_RANGE)
      else
        match l.met.periods[r.at_ 0 1]? with
        | none => (l, Reply.just st_PERIOD_GONE)
        | some p =>
          let reg := fun (a : Nat) => ((8, UMap.get pointDefault p.regs a) : Field)
          let regs := (quantities m).flatMap (fun q => (List.range 9).map (fun t => reg (regAddr m q t)))
          let dem := (List.range 8).flatMap (fun t =>
            if m < 8 then [reg (RegA.maxDemW m t), reg (RegA.maxDemTime m t)]
            else [reg (RegD.maxDemW (m - 8) t), reg (RegD.maxDemTime (m - 8) t)])
          let head : List Field := [(0, (p.no : Int)), (0, p.startMs), (0, p.endMs)]
          (l, { status := st_OK, parts := chunks 25 (head ++ regs ++ dem) }))

/-- The fields of an interval record (R291). -/
def IntervalRec.fields (x : IntervalRec) : List Field :=
  [((8, x.endMs) : Field), (4, (x.seq % 2 ^ 32 : Int)), (4, (x.durationMs : Int)), (2, (x.flags : Int)), (1, (x.tariff : Int)), (1, 0)]
    ++ x.inc.map (fun v => (8, v))

/-- `PROFILE_READ` (R291, R316): the closed intervals from a time on, in order of `seq`; as many to a part as fit. -/
def Lane.cmdProfile (v : Variant) (r : Request) (l : Lane) : Lane × Reply :=
  let n := r.at_ 16 2
  l.billing (decide (r.len = 18)) (fun l =>
    match meterPoint v (r.at_ 0 1) (r.at_ 1 1) with
    | .error e => (l, Reply.just e)
    | .ok m =>
      if n = 0 ∨ 2880 < n then (l, Reply.just st_RANGE)
      else
        let xs := (l.met.profile.filter (fun x => decide (x.point = m) && decide ((r.at_ 8 8 : Int) ≤ x.endMs))).reverse
        if (r.at_ 8 8 : Int) < l.legalMs - 400 * dayMs ∨ xs = [] then (l, Reply.just st_PROFILE_GONE)
        else (l, { status := st_OK, parts := (chunks (if m < 8 then 2 else 6) ((xs.take n).map IntervalRec.fields)).map List.flatten }))

/-- The fields of a log entry (R311); the detail takes 32 bytes, its values in words of 8 (log entry 6). -/
def LogEntry.fields (x : LogEntry) : List Field :=
  [((8, (x.number : Int)) : Field), (2, (x.kind : Int)), (4, (x.kindNo : Int)), (1, (x.lane : Int)), (1, 0), (8, x.utcMs),
    (8, (x.epoch : Int))] ++ (List.range 4).map (fun k => (8, x.detail.getD k 0))

/-- `LOG_READ` (R311, R316): 3 entries a part. -/
def Lane.cmdLog (r : Request) (l : Lane) : Lane × Reply :=
  let first := r.at_ 0 8
  let n := r.at_ 8 2
  let kind := r.at_ 10 2
  l.billing (decide (r.len = 12)) (fun l =>
    if n = 0 ∨ 4096 < n ∨ 11 < kind then (l, Reply.just st_RANGE)
    else
      let oldest := l.met.log.foldl (fun a e => min a e.number) (l.pn Cal.logEntries)
      if first < oldest ∧ l.met.log ≠ [] ∧ 1 < oldest then (l, Reply.just st_LOG_GONE)
      else
        let xs := (l.met.log.filter (fun e => decide (first ≤ e.number) && (decide (kind = 0) || decide (e.kind = kind)))).reverse
        (l, { status := st_OK, parts := (chunks 3 ((xs.take n).map LogEntry.fields)).map List.flatten }))

/-- `RECORD_READ` (R309, R316): the signed record in 2 parts, the second from its tariff energies on. -/
def Lane.cmdRecord (r : Request) (l : Lane) : Lane × Reply :=
  let n := r.at_ 0 8
  l.billing (decide (r.len = 8)) (fun l =>
    match l.met.records.find? (fun x => x.no == n) with
    | some x =>
      let fs := x.fields ++ (sigBytes x.sig).map (fun (b : Nat) => ((1, (b : Int)) : Field))
      (l, { status := st_OK, parts := [fs.take 79, fs.drop 79] })
    | none =>
      if n = 0 ∨ l.pn Cal.recordsSigned < n then (l, Reply.just st_NO_RECORD) else (l, Reply.just st_RECORD_GONE))

/-- `CLOCK_READ` (R316). -/
def Lane.cmdClockRead (r : Request) (l : Lane) : Lane × Reply :=
  l.billing (decide (r.len = 0)) (fun l =>
    (l, Reply.ok [(0, l.legalMs), (0, l.p Cal.clockState), (0, l.c Cal.tzOffsetMin), (0, (l.tariff : Int)), (0, l.p Cal.adjWithin),
      (0, l.p Cal.splits)]))

/-- 2020-01-01 and 2100-01-01 in legal UTC ms. -/
def clockFirst : Int := 1577836800000
def clockEnd : Int := 4102444800000

/-- `CLOCK_SET` (R298, R299, R316): Δ against the holder's legal time, applied as one step in both lanes. -/
def cmdClockSet (r : Request) : StateCmd := fun s =>
  let t : Int := r.at_ 0 8
  let l := s.lane (s.refLane.getD .A)
  let waiting := !l.met.clockSteps.isEmpty
  let delta := t - l.clockAhead
  let valid := waiting || decide (l.p Cal.clockState = 0)
  let within := l.clockWithin delta valid
  let split := l.met.splitOpen || l.met.clockSteps.any (fun e => !e.within)
  if r.len ≠ 8 then (s, some (Reply.just st_BAD_LENGTH))
  else if l.p Mp.mpState ≠ 0 then (s, some (Reply.just st_METROLOGY_STOPPED))
  else if t < clockFirst ∨ clockEnd ≤ t then (s, some (Reply.just st_CLOCK_RANGE))
  else if !within && split && valid then (s, some (Reply.just st_CLOCK_RATE))
  else (s.eachLane Lane.active (fun _ _ l => l.clockAsk delta within), some (Reply.ok [(8, delta), (0, if within then 0 else 1)]))

/-- `TAMPER_ACK` (R316). -/
def Lane.cmdTamperAck (r : Request) (l : Lane) : Lane × Reply :=
  let n := r.at_ 0 4
  l.billing (decide (r.len = 4)) (fun l =>
    if l.met.unacked.any (fun k => k.1 == n) then (l.tamperAck n r.ring, Reply.ok [])
    else if 1 ≤ n ∧ n ≤ l.pn Cal.tamperCounter then (l, Reply.just st_ALREADY_ACKED)
    else (l, Reply.just st_NOT_FOUND))

/-- `PUBKEY_READ` (R310, R316). -/
def Lane.cmdPubkey (r : Request) (l : Lane) : Lane × Reply :=
  l.billing (decide (r.len = 0)) (fun l =>
    let slot := l.role Key.roleMeterSign
    (l, Reply.ok [(2, (slot : Int)), (97, (Config.publicKey slot (slotOf l.keys.slots slot).ver : Int))]))

end Sys2Proof.Machine
end

