-- ==== Sys2Proof/Machine/Commands.lean ====
section
/-!
DEFINITION. The I/O lines that the acquisition engine reads (R446), a host command's effect by its command code (R83), and
the execution of the requests that were taken (R79).
-/

namespace Sys2Proof.Machine

/-! ### Lines and points that the acquisition engine reads (R446) -/

/-- The I/O line `k` of R446 as lane `i` sees it. -/
def State.line (s : State) (i : LaneId) (k : Nat) : Bool :=
  let l := s.lane i
  if k = 0 then s.chassis.trig0
  else if k = 1 then s.chassis.trig1
  else if k = 2 then s.a.acq.pulse0.isSome || s.b.acq.pulse0.isSome
  else if k = 3 then s.a.acq.pulse1.isSome || s.b.acq.pulse1.isSome
  else if k = 4 then l.safe.estop1
  else if k = 5 then l.safe.estop2
  else if k = 6 then l.safe.resetIn
  else if k = 7 then l.safe.loopIn
  else if k < 24 then (l.s0 (k - 8)).onMs.isSome
  else if k < 28 then (l.po (k - 24)).level
  else if k < 60 then decide (l.p (Out.proxState (k - 28)) = 1)
  else s.energised (3 + 3 * (k - 60))

/-- Every change of a line sampled in both lanes (R446, R447). -/
def State.lines (s : State) : State :=
  s.eachLane Lane.active (fun s i l => l.acqLines (s.line i))

/-- A ledger point's value and status in the latest sealed image; `invalid` with 0 where there is none. -/
def Lane.readImage (v : Variant) (l : Lane) (a : Nat) : Int × Nat :=
  match l.imgs.head? with
  | some img => let r := img.record v (addrPoint a); (recordValue r, recordStatus r)
  | none => (0, 2)

/-! ### The effect of each host command (R83) -/

/-- `NOP` (R83), command 0x0001. -/
def doNop (r : Request) : StateCmd := onLanesNow r (Lane.cmdNop r)

/-- `CAPS` (R92), command 0x0002. -/
def doCaps (r : Request) : StateCmd := cmdCaps r

/-- `RING_SET` (R83), command 0x0003. -/
def doRingSet (r : Request) : StateCmd := onLanesNow r (Lane.cmdRingSet r)

/-- `RING_RESYNC` (R77), command 0x0004. -/
def doRingResync (r : Request) : StateCmd := onLanesNow r (Lane.cmdRingResync r)

/-- `RING_STATUS` (R83), command 0x0005. -/
def doRingStatus (r : Request) : StateCmd := onLanesNow r (Lane.cmdRingStatus r)

/-- `SNAPSHOT` (R47), command 0x0010. -/
def doSnapshot (r : Request) : StateCmd := fun s =>
  onLanes r (Lane.cmdSnapshot s.chassis.variant r) s

/-- `READ_STAGED` (R53), command 0x0011. -/
def doReadStaged (r : Request) : StateCmd := fun s =>
  onLanesNow r (Lane.cmdReadStaged s r) s

/-- `HISTORY` (R82), command 0x0012. -/
def doHistory (r : Request) : StateCmd := onLanesNow r (Lane.cmdHistory r)

/-- `STAGE` (R52), command 0x0020. -/
def doStage (r : Request) : StateCmd := fun s =>
  onLanesNow r (Lane.cmdStage s.chassis.variant r) s

/-- `COMMIT` (R54), command 0x0021. -/
def doCommit (r : Request) : StateCmd := fun s =>
  onLanes r (Lane.cmdCommit s.chassis.variant s.chassis.sealOpen r) s

/-- `DISCARD` (R54), command 0x0022. -/
def doDiscard (r : Request) : StateCmd := onLanesNow r (Lane.cmdDiscard r)

/-- `COMMIT_LIST` (R83), command 0x0023. -/
def doCommitList (r : Request) : StateCmd := onLanesNow r (Lane.cmdCommitList r)

/-- `SUBSCRIBE` (R49), command 0x0030. -/
def doSubscribe (r : Request) : StateCmd := onLanesNow r (Lane.cmdSubscribe r)

/-- `UNSUBSCRIBE` (R83), command 0x0031. -/
def doUnsubscribe (r : Request) : StateCmd := onLanesNow r (Lane.cmdUnsubscribe r)

/-- `EVENT_MAP` (R87), command 0x0040. A lane that runs its laps and does not compute yet holds the map too, so that what its links
find is raised in both lanes (R89). -/
def doEventMap (r : Request) : StateCmd := fun s =>
  let x := onLanesNow r (Lane.cmdEventMap s.chassis.variant r) s
  let i := s.refLane.getD .A
  (x.1.onLane i.other (fun l => l.lapping && !l.active) (fun s _ l => { l with host := { l.host with evMap := (s.lane i).host.evMap } }), x.2)

/-- `EVENT_MAP_READ` (R83), command 0x0041. -/
def doEventMapRead (r : Request) : StateCmd := onLanesNow r (Lane.cmdEventMapRead r)

/-- `RESET_FUNCTION` (R93), command 0x0050. -/
def doResetFunction (r : Request) : StateCmd := cmdReset r

/-- `SESSION_AUTHORIZE` (R252), command 0x0100. -/
def doSessionAuthorize (r : Request) : StateCmd := fun s =>
  onLanesNow r (Lane.cmdAuthorize s.chassis.variant.outlets r) s

/-- `SESSION_STOP` (R252), command 0x0101. -/
def doSessionStop (r : Request) : StateCmd := fun s =>
  onLanesNow r (Lane.cmdSessionStop s.chassis.variant.outlets r) s

/-- `OUTLET_BLOCK` (R252), command 0x0102. -/
def doOutletBlock (r : Request) : StateCmd := fun s =>
  onLanesNow r (Lane.cmdBlock s.chassis.variant.outlets r) s

/-- `OUTLET_CLEAR` (R252), command 0x0103. -/
def doOutletClear (r : Request) : StateCmd := fun s =>
  onLanesNow r (Lane.cmdClear s.chassis.variant.outlets r) s

/-- `SESSION_INFO` (R252), command 0x0104. -/
def doSessionInfo (r : Request) : StateCmd := fun s =>
  onLanesNow r (Lane.cmdSessionInfo s.chassis.variant.outlets r) s

/-- `SESSION_RESTART` (R252), command 0x0105. -/
def doSessionRestart (r : Request) : StateCmd := fun s =>
  onLanesNow r (Lane.cmdRestart s.chassis.variant.outlets r) s

/-- `KEY_MSG_LOAD` (R391), command 0x0200. -/
def doKeyMsgLoad (r : Request) : StateCmd := onLanesNow r (Lane.cmdKeyLoad r)

/-- `KEY_MSG_APPLY` (R384), command 0x0201. -/
def doKeyMsgApply (r : Request) : StateCmd := onLanes r (Lane.cmdKeyApply r)

/-- `KEY_INFO` (R391), command 0x0202. -/
def doKeyInfo (r : Request) : StateCmd := onLanesNow r (Lane.cmdKeyInfo r)

/-- `KEY_LIST` (R391), command 0x0203. -/
def doKeyList (r : Request) : StateCmd := onLanesNow r (Lane.cmdKeyList r)

/-- `KEY_COUNTER_READ` (R391), command 0x0204. -/
def doKeyCounterRead (r : Request) : StateCmd := onLanesNow r (Lane.cmdKeyCounter r)

/-- `LANE_STATUS` (R371), command 0x0300. -/
def doLaneStatus (r : Request) : StateCmd := cmdLaneStatus r

/-- `BATON_HANDOVER` (R371), command 0x0301. -/
def doBatonHandover (r : Request) : StateCmd := cmdHandover r

/-- `FW_LOAD` (R371), command 0x0302. -/
def doFwLoad (r : Request) : StateCmd := cmdFwLoad r

/-- `FW_VERIFY` (R369), command 0x0303. -/
def doFwVerify (r : Request) : StateCmd := cmdFwVerify r

/-- `FW_ACTIVATE` (R371), command 0x0304. -/
def doFwActivate (r : Request) : StateCmd := cmdFwActivate r

/-- `LANE_PARK` (R371), command 0x0305. -/
def doLanePark (r : Request) : StateCmd := cmdLanePark r

/-- `LANE_UNPARK` (R371), command 0x0306. -/
def doLaneUnpark (r : Request) : StateCmd := cmdLaneUnpark r

/-- `LANE_ELIGIBLE` (R371), command 0x0307. -/
def doLaneEligible (r : Request) : StateCmd := cmdLaneEligible r

/-- `TEAM_STATUS` (R412), command 0x0400. -/
def doTeamStatus (r : Request) : StateCmd := fun s =>
  onLanesNow r (Lane.cmdTeamStatus s.chassis.variant.team r) s

/-- `TEAM_MEMBERS` (R404), command 0x0401. -/
def doTeamMembers (r : Request) : StateCmd := fun s =>
  onLanes r (Lane.cmdTeamMembers s.chassis.variant.team r) s

/-- `TEAM_TRIGGER` (R412), command 0x0402. -/
def doTeamTrigger (r : Request) : StateCmd := fun s =>
  onLanesNow r (Lane.cmdTeamTrigger s.chassis.variant.team r) s

/-- `TUNE_START` (R438), command 0x0500. -/
def doTuneStart (r : Request) : StateCmd := onLanesNow r (Lane.cmdTuneStart r)

/-- `TUNE_STOP` (R443), command 0x0501. -/
def doTuneStop (r : Request) : StateCmd := onLanesNow r (Lane.cmdTuneStop r)

/-- `TUNE_RESULT` (R452), command 0x0502. -/
def doTuneResult (r : Request) : StateCmd := onLanesNow r (Lane.cmdTuneResult r)

/-- `TRACE_ARM` (R445), command 0x0510. -/
def doTraceArm (r : Request) : StateCmd := onLanesNow r (Lane.cmdTraceArm r)

/-- `TRACE_READ` (R452), command 0x0511. -/
def doTraceRead (r : Request) : StateCmd := onLanesNow r (Lane.cmdTraceRead r)

/-- `ACQ_ARM` (R449), command 0x0520. -/
def doAcqArm (r : Request) : StateCmd := fun s =>
  onLanesNow r (fun l => Lane.cmdAcqArm (s.line l.id) (l.readImage s.chassis.variant) r l) s

/-- `ACQ_DISARM` (R452), command 0x0521. -/
def doAcqDisarm (r : Request) : StateCmd := onLanesNow r (Lane.cmdAcqDisarm r)

/-- `ACQ_TRIGGER` (R452), command 0x0522. -/
def doAcqTrigger (r : Request) : StateCmd := onLanesNow r (Lane.cmdAcqTrigger r)

/-- `ACQ_LIST` (R452), command 0x0523. -/
def doAcqList (r : Request) : StateCmd := onLanesNow r (Lane.cmdAcqList r)

/-- `ACQ_READ` (R452), command 0x0524. -/
def doAcqRead (r : Request) : StateCmd := onLanesNow r (Lane.cmdAcqRead r)

/-- `ACQ_DELETE` (R452), command 0x0525. -/
def doAcqDelete (r : Request) : StateCmd := onLanesNow r (Lane.cmdAcqDelete r)

/-- `PERIOD_READ` (R316), command 0x0600. -/
def doPeriodRead (r : Request) : StateCmd := fun s =>
  onLanesNow r (Lane.cmdPeriod s.chassis.variant r) s

/-- `PROFILE_READ` (R316), command 0x0601. -/
def doProfileRead (r : Request) : StateCmd := fun s =>
  onLanesNow r (Lane.cmdProfile s.chassis.variant r) s

/-- `LOG_READ` (R316), command 0x0602. -/
def doLogRead (r : Request) : StateCmd := onLanesNow r (Lane.cmdLog r)

/-- `RECORD_READ` (R316), command 0x0603. -/
def doRecordRead (r : Request) : StateCmd := onLanesNow r (Lane.cmdRecord r)

/-- `CLOCK_READ` (R316), command 0x0604. -/
def doClockRead (r : Request) : StateCmd := onLanesNow r (Lane.cmdClockRead r)

/-- `CLOCK_SET` (R298), command 0x0605. -/
def doClockSet (r : Request) : StateCmd := cmdClockSet r

/-- `TAMPER_ACK` (R316), command 0x0606. -/
def doTamperAck (r : Request) : StateCmd := onLanesNow r (Lane.cmdTamperAck r)

/-- `PUBKEY_READ` (R316), command 0x0607. -/
def doPubkeyRead (r : Request) : StateCmd := onLanesNow r (Lane.cmdPubkey r)

/-- `SLEEP_ENTER` (R462), command 0x0700. -/
def doSleepEnter (r : Request) : StateCmd := cmdSleepEnter r

/-- `TT_WRITE` (R476), command 0x0701. -/
def doTtWrite (r : Request) : StateCmd := onLanesNow r (Lane.cmdTtWrite r)

/-- `TT_READ` (R476), command 0x0702. -/
def doTtRead (r : Request) : StateCmd := onLanesNow r (Lane.cmdTtRead r)

/-- `TT_CLEAR` (R476), command 0x0703. -/
def doTtClear (r : Request) : StateCmd := onLanesNow r (Lane.cmdTtClear r)

/-- `POWER_STATUS` (R476), command 0x0704. -/
def doPowerStatus (r : Request) : StateCmd := cmdPowerStatus r

/-- `MODULE_RESTART` (R472), command 0x0705. -/
def doModuleRestart (r : Request) : StateCmd := cmdModuleRestart r

/-- `CAN_TX_WRITE` (R420), command 0x0800. -/
def doCanTxWrite (r : Request) : StateCmd := onLanesNow r (Lane.cmdCanTx r)

/-- `CAN_RX_READ` (R419), command 0x0801. -/
def doCanRxRead (r : Request) : StateCmd := onLanesNow r (Lane.cmdCanRx r)

/-- `CAN_SLEEP` (R425), command 0x0802. -/
def doCanSleep (r : Request) : StateCmd := onLanesNow r (Lane.cmdCanSleep r)

/-- `CAN_WAKE` (R425), command 0x0803. -/
def doCanWake (r : Request) : StateCmd := onLanesNow r (Lane.cmdCanWake r)

/-- `CAN_RECOVER` (R424), command 0x0804. -/
def doCanRecover (r : Request) : StateCmd := onLanesNow r (Lane.cmdCanRecover r)

/-- `MAST_WRITE` (R436), command 0x0810. -/
def doMastWrite (r : Request) : StateCmd := fun s =>
  onLanesNow r (Lane.cmdMastWrite s.chassis.variant.mast r) s

/-- `MAST_READ` (R436), command 0x0811. -/
def doMastRead (r : Request) : StateCmd := fun s =>
  onLanesNow r (Lane.cmdMastRead s.chassis.variant.mast r) s

/-- `MAST_MAP_READ` (R436), command 0x0812. -/
def doMastMapRead (r : Request) : StateCmd := fun s =>
  onLanesNow r (Lane.cmdMastMap s.chassis.variant.mast r) s

/-- The command that a code names (R83), none for a code that no row has. -/
def commandOf (code : Nat) (r : Request) : Option StateCmd :=
  match code with
  | 0x0001 => some (doNop r)
  | 0x0002 => some (doCaps r)
  | 0x0003 => some (doRingSet r)
  | 0x0004 => some (doRingResync r)
  | 0x0005 => some (doRingStatus r)
  | 0x0010 => some (doSnapshot r)
  | 0x0011 => some (doReadStaged r)
  | 0x0012 => some (doHistory r)
  | 0x0020 => some (doStage r)
  | 0x0021 => some (doCommit r)
  | 0x0022 => some (doDiscard r)
  | 0x0023 => some (doCommitList r)
  | 0x0030 => some (doSubscribe r)
  | 0x0031 => some (doUnsubscribe r)
  | 0x0040 => some (doEventMap r)
  | 0x0041 => some (doEventMapRead r)
  | 0x0050 => some (doResetFunction r)
  | 0x0100 => some (doSessionAuthorize r)
  | 0x0101 => some (doSessionStop r)
  | 0x0102 => some (doOutletBlock r)
  | 0x0103 => some (doOutletClear r)
  | 0x0104 => some (doSessionInfo r)
  | 0x0105 => some (doSessionRestart r)
  | 0x0200 => some (doKeyMsgLoad r)
  | 0x0201 => some (doKeyMsgApply r)
  | 0x0202 => some (doKeyInfo r)
  | 0x0203 => some (doKeyList r)
  | 0x0204 => some (doKeyCounterRead r)
  | 0x0300 => some (doLaneStatus r)
  | 0x0301 => some (doBatonHandover r)
  | 0x0302 => some (doFwLoad r)
  | 0x0303 => some (doFwVerify r)
  | 0x0304 => some (doFwActivate r)
  | 0x0305 => some (doLanePark r)
  | 0x0306 => some (doLaneUnpark r)
  | 0x0307 => some (doLaneEligible r)
  | 0x0400 => some (doTeamStatus r)
  | 0x0401 => some (doTeamMembers r)
  | 0x0402 => some (doTeamTrigger r)
  | 0x0500 => some (doTuneStart r)
  | 0x0501 => some (doTuneStop r)
  | 0x0502 => some (doTuneResult r)
  | 0x0510 => some (doTraceArm r)
  | 0x0511 => some (doTraceRead r)
  | 0x0520 => some (doAcqArm r)
  | 0x0521 => some (doAcqDisarm r)
  | 0x0522 => some (doAcqTrigger r)
  | 0x0523 => some (doAcqList r)
  | 0x0524 => some (doAcqRead r)
  | 0x0525 => some (doAcqDelete r)
  | 0x0600 => some (doPeriodRead r)
  | 0x0601 => some (doProfileRead r)
  | 0x0602 => some (doLogRead r)
  | 0x0603 => some (doRecordRead r)
  | 0x0604 => some (doClockRead r)
  | 0x0605 => some (doClockSet r)
  | 0x0606 => some (doTamperAck r)
  | 0x0607 => some (doPubkeyRead r)
  | 0x0700 => some (doSleepEnter r)
  | 0x0701 => some (doTtWrite r)
  | 0x0702 => some (doTtRead r)
  | 0x0703 => some (doTtClear r)
  | 0x0704 => some (doPowerStatus r)
  | 0x0705 => some (doModuleRestart r)
  | 0x0800 => some (doCanTxWrite r)
  | 0x0801 => some (doCanRxRead r)
  | 0x0802 => some (doCanSleep r)
  | 0x0803 => some (doCanWake r)
  | 0x0804 => some (doCanRecover r)
  | 0x0810 => some (doMastWrite r)
  | 0x0811 => some (doMastRead r)
  | 0x0812 => some (doMastMapRead r)
  | _ => none

/-- A request executed by its command code; an unknown code answers `UNKNOWN_COMMAND` (R83, R86). -/
def State.execute (r : Request) (s : State) : State :=
  match commandOf r.command r with
  | some f => s.run r.command r f
  | none => s.run 0x0004 r (fun s => (s, some (Reply.just st_UNKNOWN_COMMAND)))

/-- The requests taken before this lap and acknowledged, executed in the order of the take notices; every lane that
computes counts them as taken first (R79). -/
def State.executeTaken (s : State) : State :=
  match s.refLane with
  | none => s
  | some i =>
    (s.lane i).readyRequests.foldl (fun s r => (s.eachLane Lane.active (fun _ _ l => l.retire r)).execute r) s

end Sys2Proof.Machine
end

