-- ==== Sys2Proof/Machine/Swap.lean ====
section
/-!
DEFINITION. What the blocks do at the epoch boundary at which a commit brings new configuration into force, besides reading the
new bank (R59): members of packs, packs without an outlet, stage links, session parameters, cooling sensors and forecasts,
metering points, the tariff, and the telegrams of a relay team.
-/

namespace Sys2Proof.Machine

/-- The addresses at which two configurations differ, in the order of the stores. -/
def changedPoints (old new : UMap Int) : List Nat :=
  (mergeKeys (UMap.keys old) (UMap.keys new)).filter (fun a => decide (cfgAt old a ≠ cfgAt new a))

/-- A phase whose binding or enable changes: a new binding parks it, none leaves it `UNBOUND`, a removal whose re-arm condition is
not met outlives both (R181, R190, R192); `phase_enable` 0 makes a joining or active phase leave from the first lap on (R191). -/
def Lane.swapPhase (old : UMap Int) (p : Nat) (l : Lane) : Lane :=
  let st := l.p (Ph.memberState p)
  if cfgAt old (Ph.pack p) ≠ l.c (Ph.pack p) then
    let l1 := l.setp (Ph.memberState p)
      (if (packOf l.cfg p).isNone then msUnbound else if (l.phase p).lost then msLost else msParked)
    l1.setp (Ph.weight p) 0
  else if cfgAt old (Ph.phaseEnable p) = 1 ∧ l.c (Ph.phaseEnable p) = 0 ∧ (st = msJoining ∨ st = msActive) then
    (l.setp (Ph.memberState p) msLeaving).setPhase p { l.phase p with fresh := true }
  else l

/-- A running pack that a commit leaves without an outlet stops; event 0 + outlet fires (R188). -/
def Lane.swapPack (old : UMap Int) (k : Nat) (l : Lane) : Lane :=
  match outletOf old k, outletOf l.cfg k with
  | some o, none => if l.p (Pk.packState k) = pkRun then (l.packStop k).outEvent o else l
  | _, _ => l

/-- An outlet whose domain 3 points change: a running session keeps the parameters of the bank it ran under until it ends (R59,
R251), those of its cooling that the session itself reads among them; a sensor with a new descriptor has no reading yet (R218), and a changed cooling point asks for a new forecast (R225). -/
def Lane.swapOutlet (old : UMap Int) (changed : List Nat) (o : Nat) (l : Lane) : Lane :=
  let base := 0x30000 + 2048 * o
  let x := l.out o
  let running := decide (l.ss o ≠ ssIdle) && decide (l.ss o ≠ ssBlocked)
  let l1 := if changed.any (fun a => decide (base ≤ a ∧ a < base + 0x800)) && running && x.par.isNone then
      l.setOut o { x with par := some (old.filter (fun e => decide (base ≤ e.1 ∧ e.1 < base + 0x800))) }
    else l
  let l2 := (List.range 7).foldl (fun l n =>
    if changed.contains (Out.src o n) then ((l.setSensor o n {}).sensorPoints o).flowTimers o else l) l1
  if changed.any (fun a => decide (base + 0x400 ≤ a ∧ a < base + 0x430)) then
    (l2.flowTimers o).clearForecast o
  else l2

/-- A metering point whose configuration a commit has changed has no measurement yet (R282), its correction is formed anew (R266); one that it enables meters from its next
sample, in the interval that runs, which carries the flags of the present state (R291). -/
def Lane.swapPoint (old : UMap Int) (changed : List Nat) (m : Nat) (l : Lane) : Lane :=
  let base := if m < 8 then Ac.pointEnable m else Dc.pointEnable (m - 8)
  if !changed.any (fun a => decide (base ≤ a ∧ a < base + (if m < 8 then 2048 else 512))) then l
  else
    let enabled := decide (cfgAt old base = 0 ∧ l.c base = 1)
    let l := if enabled then l.setOpenI m { l.openI m with flags := (l.openI m).flags ||| l.stateFlags, base := l.regSnapshot m } else l
    if m < 8 then
      -- the samples before the boundary count under the configuration they were taken under
      let l : Lane := if cfgAt old base = 1 then { ({ l with cfg := old } : Lane).closePart m with cfg := l.cfg } else l
      let x := l.acPt m
      (l.setAc m { x with
        fresh := 0, ready := false, n := if enabled then 0 else x.n, part := if enabled then 0 else x.part, cut := if enabled then none else x.cut
        fixed := x.fixed || enabled, goodRun := if enabled then 0 else x.goodRun }).evalComp m
    else
      let x := l.dcPt (m - 8)
      (l.setDc (m - 8) { x with n := 0, sv := 0, si := 0, sp := 0, sq := 0, ready := false }).evalComp m

/-- A changed billing day counts from now on, so that no close that lies behind falls due (R59, R293); the scheduled end of the running
interval follows `tz_offset_min` (R290, R318). -/
def Lane.swapCalendar (old : UMap Int) (l : Lane) : Lane :=
  let l1 := if cfgAt old Cal.billCloseDay = l.c Cal.billCloseDay then l
    else l.met! (fun x => { x with lastPeriod := max x.lastPeriod l.localMs })
  if cfgAt old Cal.tzOffsetMin = l.c Cal.tzOffsetMin then l1 else l1.setp Cal.intervalEndMs (l1.toUtc l1.met.nextBoundary)

/-- What watches a safety network or the SAFE LOOP starts afresh with it (R339 to R344, log entry 81): test pulses are expected from now
on, and so are the telegrams of a net with `team_safety` on; with it off no net is good, no telegram is held, and a degraded function 1 is off. -/
def Lane.swapSafety (old : UMap Int) (l : Lane) : Lane :=
  let l1 := if cfgAt old SafM.loopMode ≠ l.c SafM.loopMode then
      l.safe! (fun s => { s with con1 := s.con1.loop true l.lap, con2 := s.con2.loop true l.lap })
    else l
  let l1 := if cfgAt old SafM.resetScope = 1 ∧ l.c SafM.resetScope ≠ 1 then l1.safe! (fun s => { s with resetCount := 0 }) else l1
  if cfgAt old SafM.teamSafety ≠ 1 ∧ l.c SafM.teamSafety = 1 then
    l1.safe! (fun s => { s with net1Lap := l.lap, net2Lap := l.lap })
  else if cfgAt old SafM.teamSafety = 1 ∧ l.c SafM.teamSafety = 0 then
    let l2 := (l1.safe! (fun s => { s with held := [], senders := [], sent := none, bothLap := none })).setp SafM.netState 0
    if l2.p (SafM.fnStateMod 1) = fnDegraded ∨ l2.p (SafM.fnStateMod 1) = fnHealthy then l2.setp (SafM.fnStateMod 1) fnOff
    else if l2.p (SafM.fnStateMod 1) = fnTripped then l2.setp (SafM.fnStateMod 1) fnResettable
    else l2
  else l1

/-- A mast node that a commit disables is in state 0 and keeps nothing of its transactions (R435). -/
def Lane.swapMast (old : UMap Int) (l : Lane) : Lane :=
  let l1 := l.forN 2 (fun t l =>
    let x := l.mastPort t
    if (x.active || x.repeatDue) && !(portNodes l.cfg t).contains x.node then
      l.setMastPort t { x with active := false, repeatDue := false, repeats := 0 } else l)
  l1.forL ((List.range' 1 16).filter (fun n => nodeOn old n && !nodeOn l.cfg n)) (fun n l =>
    (l.setMastNode n {}).setp (Mast.nodeState (n - 1)) 0)

/-- What a lane's blocks do with the configuration now in force where it differs from the old bank (R59). -/
def Lane.swapEffects (old : UMap Int) (l : Lane) : Lane :=
  let changed := changedPoints old l.cfg
  if changed.isEmpty then l
  else
    let of_ := fun (d : Nat) => changed.filter (fun a => decide (a / 0x10000 = d))
    let phases := ((of_ 1).map (fun a => a % 0x10000 / 128)).eraseDups
    let packs := ((of_ 2).map (fun a => a % 0x10000 / 1024)).eraseDups
    let outlets := ((of_ 3).map (fun a => a % 0x10000 / 2048)).eraseDups
    let moved := ((cfgUnits l.cfg (Ph.pack 0) 512 128).map Prod.fst).filter (fun p => decide (selectorOf old p ≠ selectorOf l.cfg p))
    let l1 := ((l.forL phases (Lane.swapPhase old)).forL packs (Lane.swapPack old)).forL moved Lane.disarm
    let l2 := l1.forL outlets (Lane.swapOutlet old changed)
    let l3 := if (of_ 5).isEmpty then l2 else l2.forN 40 (Lane.swapPoint old changed)
    let l4 := (if (of_ 6).any (fun a => decide (0x6C000 ≤ a ∧ a < 0x6C300)) then l3.tariffEvaluation else l3).swapCalendar old
    let l5 := (if cfgAt old SafM.teamSafety = 0 ∧ l.c SafM.teamSafety = 1 then l4.telegramsFrom l4.safetyMembers else l4).swapSafety old
    let l6 := if cfgAt old Key.roleMeterSign = l.c Key.roleMeterSign then l5 else l5.signOwed
    (l6.swapMast old).linksUp

end Sys2Proof.Machine
end

