-- ==== Sys2Proof/Machine/Laps.lean ====
section
/-!
DEFINITION. What a lap and an epoch put together (R24, R25, R31, R34, R44, R56, R59): the plant's work of the lap that ends, the
measurements of an epoch that ends, the start of the next lap with its requests and bus objects, and the bank swap.
-/

namespace Sys2Proof.Machine

/-! ### The lap that ends (R24, R25, R441, R444, R450) -/

/-- The pulses that a measurement asks of TRIG OUT (R450): injection start, which also triggers the probes armed for it (R445), and the
start of each PRBS period. -/
def Lane.tunePulses (l : Lane) : Lane :=
  match l.tune.plan with
  | none => l
  | some p =>
    if !l.tune.running || !(l.slot p.slot).ran || decide (p.total ≤ p.m) then l
    else
      let l1 := if p.m = 0 then (l.trigOut 2).traceTrigger 1 else l
      if p.kind = 1 ∧ p.m % (p.h * (2 ^ p.n - 1)) = 0 then l1.trigOut 3 else l1

/-- The plant's work of the lap that ends, in a lane that computes: pack block, window and command blocks, then what reads the
window's nodes. -/
def Lane.lapPlant (bad : List Nat) (l : Lane) : Lane :=
  let l1 := l.lapPacks
  let l2 := l1.tuneGuard l1.tripped
  let l3 := l2.lapWindow l2.injection bad
  l3.tunePulses.tuneLap.traceLap.acqLap

/-! ### The epoch that ends (R41, R44, R258, R313, R334, R364, R367) -/

/-- `resync_progress` in per mille (R364): clean epochs in `SHADOW`, hubs that are `READY` in `ALIGN`; for the other phases
the spec gives no measure, so a free value stands (log entry 12). -/
def Lane.showProgress (free : Nat) (l : Lane) : Lane :=
  let hubs := enabledHubs l.cfg
  let v : Nat := match l.link.phase with
    | .none => 0
    | .shadow => min 1000 l.link.shadowClean
    | .align => if hubs.isEmpty then 1000
      else (hubs.filter (fun h => decide (l.p (Hub.linkState h) = lkReady))).length * 1000 / hubs.length
    | _ => Config.freeValue free % 1001
  l.setp Hp.resyncProgress v

/-- The always-on part of a lane as an epoch ends: it is powered for another millisecond, watches for tamper (R314), and its epoch counter goes on with the lane's
laps, or by 1 where they do not run, so that no epoch number is used twice (R108, R367). -/
def Lane.alwaysOnEpoch (l : Lane) : Lane :=
  if !l.power.aoOn then l
  else
    let l1 := l.powerMs.tamperScan
    if !l.lapping then l1.pac (fun x => { x with aoEpoch := x.aoEpoch + 1 })
    else if l.lapIn = 199 then l1.pac (fun x => { x with aoEpoch := l.epoch + 1 })
    else l1

/-- The always-on part of a lane over the 50 ms between two housekeeping rounds, where no lane's laps count them (R108, R367, R479). -/
def Lane.roundPassed (l : Lane) : Lane := ((l.powerFor 50).tamperScan).pac (fun x => { x with aoEpoch := x.aoEpoch + 50 })

/-- The measurements and counts of the epoch that ends, before its image is captured. -/
def Lane.epochEnd (v : Variant) (l : Lane) : Lane :=
  let l1 := (l.forL (servedHubs l.cfg) Lane.measuredEpoch).forN v.outlets (fun o l => (l.sensorPoints o).flowTimers o)
  let l2 := l1.meterEpochEnd.teamElapsed.keyPoints
  let l3 := l2.setp Cal.legalUtcMs l2.legalMs
  let l4 := if l3.acq.paused then l3.inc Ta.acqPausedMs else l3
  l4

/-- The end of an epoch in both lanes: its measurements, the power state, and the image captured (R44). A lane whose laps run counts
the epoch and shows the lanes present (R5, R108), whether or not one computes. -/
def State.epochEnd (s : State) : State :=
  let s1 := s.eachLane Lane.active (fun s _ l => l.epochEnd s.chassis.variant)
  let s2 := s1.powerEpoch
  let s3 := (s2.eachLane Lane.lapping (fun s i l => l.showProgress (2 * s.free + i.num))).eachLane Lane.present (fun _ _ l => l.alwaysOnEpoch)
  let word := capabilityWord s3.chassis.variant s3.a.outOfReset s3.b.outOfReset
  let s4 := s3.eachLane Lane.lapping (fun s i l => if l.active then Lane.capture s i l else l.setp D0.capability word)
  { s4 with free := s4.free + 1 }

/-! ### The lap that begins (R79, R221, R352, R417, R419, R421) -/

/-- The lap number advances, with team time; LIVE toggles in the arbiter's lap `n` where the processor and the serialisers did their work
(R352). -/
def Lane.nextLap (n : Nat) (l : Lane) : Lane :=
  let l1 : Lane := { l with lap := l.lap + 1 }
  let l2 := l1.pac (fun x => { x with teamTime := x.teamTime + 5000 })
  if l.link.halted.isNone && (decide (l.link.state ≠ .reset) || l.link.booted) then
    l2.lnk (fun x => { x with liveLaps := (n :: x.liveLaps).take 4 })
  else l2.inc Hp.liveMisses

/-- The pump demand of outlet `o` written where it has changed (R221): a u16 in bytes 0 and 1 of the object that `pump_tx`
names, if any. -/
def Lane.pumpWrite (o : Nat) (l0 : Lane) : Lane :=
  match l0.pumpDemand o with
  | none => l0
  | some d =>
    let w := l0.cn (Out.pumpTx o)
    let l : Lane := match pumpSlot l0.cfg o with
      | some t => l0.discardLatest t
      | none => l0
    let b := bitsAt w 7 6
    let n := bitsAt w 5 0
    let x := (l.bus b).txObj n
    let old := x.back.getD x.front
    if decide (w ≠ 0xFFFFFFFF) && txEnabled l.cfg b n && decide (old.take 2 ≠ leBytes 2 d) then l.canWrite b n (leBytes 2 d ++ old.drop 2) else l

/-- The cooling block's read of its receive objects at lap 4 (R219, R417): what it has read counts as read, and its model
step uses the sensors as they are now (R220). -/
def Lane.coolReads (outlets : Nat) (l : Lane) : Lane :=
  l.forN outlets (fun o l => (l.forN 7 (fun n l =>
    let d := l.cn (Out.src o n)
    let b := bitsAt d 30 29
    let k := bitsAt d 28 23
    let x := UMap.get (fun _ => ({} : RxObj)) (l.bus b).rx k
    if bitAt d 31 && x.placed && !x.wasRead then
      l.setBus b { l.bus b with rx := UMap.put (fun _ => {}) (l.bus b).rx k { x with wasRead := true } }
    else l)).coolSample o)

/-- The buses at the start of a lap: arrived frames placed, the schedule taken at a matrix start, pump demands written. -/
def Lane.lapBuses (outlets : Nat) (l : Lane) : Lane :=
  let l1 := l.forN 4 (fun b l => (l.canPlace b).canMatrix b)
  let l2 := l1.forN outlets Lane.pumpWrite
  if l2.lapIn = 4 then (l2.coolReads outlets).thermalInputs outlets else l2

/-- At the start of lap 4 a sealed image becomes readable (R45), with the snapshots that wait for it (R47). -/
def State.readableImages (s : State) : State :=
  s.eachLane (fun l => l.active && decide (l.lapIn = 4) && l.sealDone) (fun s _ l =>
    (l.publish s.chassis.variant).snapshotReady s.chassis.variant)

/-- The holder's outbound counters of datagrams, held in the other lane as well (R73). -/
def State.datagramCounters (s : State) : State :=
  match s.holder with
  | none => s
  | some h => s.onLane h.other Lane.active (fun s _ l => l.counterMirror (s.lane h))

/-- What the lane link brings, and what it does not, in the lap that begins (R258, R259, R278). In every lap the standby mirrors the
holder's pulse outputs. At lap 2 the holder, and a lane beside which none holds the baton, takes its own control set; a standby
that the holder's set has not reached in that lap leaves step at its end. -/
def State.linkInputs (s : State) : State :=
  let mine := fun (i : LaneId) => decide (s.holder.getD i = i)
  let s1 := s.eachLane Lane.active (fun s i l =>
    if mine i then l.takeControl l else l.forN 4 (fun u l => l.mirrorPulse (s.lane i.other) u))
  let missed := fun (i : LaneId) => !mine i && (s.lane i).active && decide ((s.lane i).lapIn = 3)
    && decide ((s.lane i).alloc.ctl.epoch + 1 ≠ (s.lane i).epoch)
  let leave := fun (i : LaneId) (s : State) => if missed i then s.leaveStep i else s
  leave .B (leave .A s1)

/-- The arbiter counts the laps of the lanes (R353). -/
def State.countLap (s : State) : State := { s with arbiter := { s.arbiter with lap := s.arbiter.lap + 1 } }

/-- LAP_START (R107): the work of the lap that ends in every lane that computes, then the next lap in every lane whose laps
run. A repetition of a test vector that fails resets the engine, which ends a measurement in both lanes (R443), and takes the standby out of
step (R360 cause 11). A present lane whose laps do not run misses
the toggle (R367). -/
def State.lapStart (inp : LaneId → LapInput) (s : State) : State :=
  let n := s.chassis.variant.outlets
  let s0 := s.eachLane Lane.active (fun s i l => ((l.lapPlant (inp i).bad).sumLap n).sessionLap n !(s.lane i.other).active)
  let failed := fun (i : LaneId) => (s0.lane i).active
    && (((s0.lane i).engine.off0 && !(s.lane i).engine.off0) || ((s0.lane i).engine.off1 && !(s.lane i).engine.off1))
  let leave := fun (i : LaneId) (s : State) =>
    if failed i then (s.eachLane Lane.active (fun _ _ l => l.tuneAbort 5)).diagnose i 11 else s
  let s1 := leave .B (leave .A s0)
  let s2 := s1.lines.noteRun
  let s3 := if (s.a.lapping && decide (s.a.lapIn = 199)) || (s.b.lapping && decide (s.b.lapIn = 199)) then s2.epochEnd else s2
  let s4 := (s3.eachLane Lane.active (fun _ _ l => l.sendDatagrams)).datagramCounters
  let s4 := ((s4.laneInput .A (inp .A)).laneInput .B (inp .B)).countLap
  let s5 := s4.eachLane Lane.present (fun s _ l => if l.lapping then l.nextLap s.lapNow else l.inc Hp.liveMisses)
  let s6 := s5.lapDiagnosis.health
  let s7 := (s6.eachLane Lane.active (fun _ _ l => l.forN 4 Lane.canEndReads)).readableImages
  let s8 := s7.executeTaken
  let s9 := s8.eachLane Lane.active (fun _ _ l => l.lapBuses n)
  s9.linkInputs.restartAnswer.drive

/-- COMMIT_DIGEST_EXCHANGE (R33, R366): a difference of the commit digests counts in both lanes, and in two successive rounds takes the
standby out of step. -/
def State.commitRound (s : State) : State :=
  let t := s.commitExchange
  let i := (s.holder.getD .A).other
  let held := fun (s : State) => (s.lane i).host.commits.length
  let differs := decide ((s.lane i).p Hp.commitDisagree < (t.lane i).p Hp.commitDisagree)
  if differs || decide (held s ≠ held t) || decide ((s.lane i).host.trial ≠ (t.lane i).host.trial) then
    t.digestRound differs (fun x => x.commitRun) (fun n x => { x with commitRun := n })
  else t

/-! ### The epoch that begins (R31, R34, R56, R59) -/

/-- The entries of the metrology log for a committed change (R266, R294, R311): kind 4 for a calibration field, kind 5 for another field of
domain 6, with address, old and new value. -/
def logChanges (old new : UMap Int) (l : Lane) : Lane :=
  let keys := (mergeKeys (old.map Prod.fst) (new.map Prod.fst)).filter (fun a =>
    (sealedPoint a || decide (a / 0x10000 = 6)) && decide (cfgAt old a ≠ cfgAt new a))
  l.forL keys (fun a l => l.logEntry (if sealedPoint a then 4 else 5) [(a : Int), cfgAt old a, cfgAt new a])

/-- The laps of the epoch that ended which a lane counted (R202). -/
def Lane.lapsCounted (l : Lane) : Int := if l.lap < l.safe.startLap + 200 then (l.lap - l.safe.startLap : Nat) else 200

/-- EPOCH_BOUNDARY in one lane, at lap 0 of the epoch. -/
def Lane.epochBegin (v : Variant) (l : Lane) : Lane :=
  let l0 := l.swapBanks
  let l1 := (logChanges l.cfg l0.cfg l0).swapEffects l.cfg
  let l3 := l1.clockDivisor.forN 4 (fun b l => (l.canRefresh b).canMatrix b)
  let l4 := Lane.allocInputs l3.lapsCounted v.outlets l l3
  let l5 := if l4.link.phase = .shadow then l4.lnk (fun x => { x with shadowClean := x.shadowClean + 1 }) else l4
  l5.trigOut 4

/-- EPOCH_BOUNDARY (R31): every 200th lap boundary. The Pacer and team time of every lane whose laps run go on (R101, R111,
R112). -/
def State.epochBoundary (s : State) : State :=
  let s1 := s.eachLane (fun l => l.lapping && decide (l.lapIn = 0)) (fun s _ l =>
    if l.active then l.epochBegin s.chassis.variant else l.clockDivisor)
  let s2 := s1.eachLane (fun l => l.lapping && decide (l.lapIn = 0)) (fun s i l => (l.pacerConfig (s.steers i)).todEpoch)
  s2.pacerFollow.lines.drive

/-- IMAGE_SEAL (R45): in laps 0 to 4 of the epoch after; in lap 4 with the snapshots that wait for the image (R47). -/
def State.imageSeal (s : State) : State :=
  s.eachLane (fun l => l.active && decide (l.lapIn ≤ 4)) (fun s _ l =>
    (l.sealImage s.chassis.variant).snapshotReady s.chassis.variant)

/-- The work with which the last image before `ASLEEP` is sealed (R463). -/
def State.lastSeal (s : State) (l : Lane) : Lane :=
  (Lane.capture s l.id (l.epochEnd s.chassis.variant)).publish s.chassis.variant

end Sys2Proof.Machine
end

