-- ==== Sys2Proof/Machine/Rows.lean ====
section
/-!
DEFINITION. How a row of the command table reaches the lanes: both lanes that compute, a named lane, the lane beside the
baton holder, or the units of a variant; and the follow-up effects that several rows share.
-/

namespace Sys2Proof.Machine

/-- What a command answers. -/
abbrev Effect := Host.Outcome State Fault Refusal

/-! ### Lanes -/

/-- Both lanes that compute, each from its own state (R20, R23). -/
def State.both (f : Lane → Lane) (s : State) : State := s.eachLane Lane.active (fun _ _ l => f l)

/-- Both lanes that compute, but one that missed the input (R20). -/
def State.bothBut (missed : Option LaneId) (f : Lane → Lane) (s : State) : State :=
  s.eachLane Lane.active (fun _ i l => if missed = some i then l else f l)

/-- A named lane, where it computes. -/
def State.one (i : LaneId) (f : Lane → Lane) (s : State) : State := s.onLane i Lane.active (fun _ _ l => f l)

/-- A named lane whose fast domain is on, its laps running or not. -/
def State.powered (i : LaneId) (f : Lane → Lane) (s : State) : State :=
  s.onLane i (fun l => l.present && l.power.fastOn) (fun _ _ l => f l)

/-- A named lane whose always-on domain runs (R460). -/
def State.kept (i : LaneId) (f : Lane → Lane) (s : State) : State := s.onLane i Lane.alwaysOn (fun _ _ l => f l)

/-- Both lanes whose always-on domains run. -/
def State.keptBoth (f : Lane → Lane) (s : State) : State := s.eachLane Lane.alwaysOn (fun _ _ l => f l)

/-- The lane beside the baton holder, with what the holder sends over the lane link; nothing where no lane holds it. -/
def State.beside (f : Lane → Lane → Lane) (s : State) : State :=
  match s.holder with
  | none => s
  | some h => s.onLane h.other Lane.active (fun s _ l => f l (s.lane h))

/-- The baton holder alone. -/
def State.holderOnly (f : Lane → Lane) (s : State) : State :=
  match s.holder with
  | none => s
  | some h => s.onLane h (fun _ => true) (fun _ _ l => f l)

/-! ### Units of the variant (R1, R8) -/

/-- An outlet of the variant, in both lanes. -/
def State.atOutlet (o : Nat) (f : Lane → Lane) (s : State) : State :=
  if o < s.chassis.variant.outlets then s.both f else s

/-- A pack of the variant, in both lanes. -/
def State.atPack (k : Nat) (f : Lane → Lane) (s : State) : State :=
  if k < s.chassis.variant.packs then s.both f else s

/-- A phase of the variant, in both lanes. -/
def State.atPhase (p : Nat) (f : Lane → Lane) (s : State) : State :=
  if p < s.chassis.variant.phases then s.both f else s

/-- A stage port of the variant, in a named lane whose stage links run (R117). -/
def State.atHub (i : LaneId) (h : Nat) (f : Lane → Lane) (s : State) : State :=
  if h < s.chassis.variant.ports then s.onLane i Lane.linksRun (fun _ _ l => f l) else s

/-- An AC metering point of the variant, in a named lane. -/
def State.atAc (i : LaneId) (n : Nat) (f : Lane → Lane) (s : State) : State :=
  if n < s.chassis.variant.acPoints then s.kept i f else s

/-- A metering point of the variant (AC points first, DC point d as 8 + d), in a named lane. -/
def State.atPoint (i : LaneId) (m : Nat) (f : Lane → Lane) (s : State) : State :=
  if m < 8 then s.atAc i m f
  else if m - 8 < s.chassis.variant.dcPoints then s.kept i f else s

/-- A numbered unit of which every variant has `n`, in both lanes. -/
def State.below (n u : Nat) (f : Lane → Lane) (s : State) : State := if u < n then s.both f else s

/-- The relay team, where the variant fits it, in both lanes. -/
def State.teamed (f : Lane → Lane) (s : State) : State := if s.chassis.variant.team then s.both f else s

/-! ### Shared follow-ups -/

/-- An event of a lane's own block, raised in the other lane as well where the row made it fire (R89). -/
def State.mirror (i : LaneId) (fired : Bool) (n : Nat) (detail : List Int) (s : State) : State :=
  if fired then s.one i.other (fun l => l.fire n i.num detail) else s

/-- A row of a lane's Pacer: the lane acts by whether it steers by its own references, and the lane that follows the holder's marker
goes with the holder (R101, R109). With no holder the event fires in the other lane too (R89). -/
def State.pacerRow (i : LaneId) (f : Bool → Lane → Lane) (s : State) : State :=
  let s1 := s.powered i (f (s.steers i))
  if s.holder.isSome then s1.pacerFollow else s1.alsoFire i s

/-- The session digests of a message compared (R366): a standby, or a lane in `SHADOW`, whose step or response differs counts it, and two
differing messages in succession take it out of step. -/
def State.sessionCompare (o : Nat) (s : State) : State :=
  let differs := match s.holder with
    | none => false
    | some h => !decide ((s.a.ss o) = (s.b.ss o) ∧ (s.a.out o).res = (s.b.out o).res) && (s.lane h.other).active
  let s1 := s.beside (fun l _ =>
    if (decide (l.link.state = .standby) || decide (l.link.phase = .shadow)) && differs then l.inc Hp.sessionMismatch else l)
  s1.digestRound differs (fun x => x.sessRun) (fun n x => { x with sessRun := n })

/-- An outlet's event without a message: both lanes act on it, then outputs and lines follow. -/
def State.outletEvent (o : Nat) (f : Lane → Lane) (s : State) : State := ((s.atOutlet o f).drive).lines

/-- An outlet's work in both lanes but one whose receiver got the frame corrupted or late, which treats it as missing (R20). -/
def State.atOutletBut (o : Nat) (missed : Option LaneId) (f : Lane → Lane) (s : State) : State :=
  if o < s.chassis.variant.outlets then s.bothBut missed f else s

/-- A frame on an outlet segment: both lanes act on it with their session engine, whose clock runs again (R461), but one that missed
it (R20); a response is on the segment where a lane holds the baton (R23). -/
def State.messageBut (o : Nat) (missed : Option LaneId) (f : Bool → Lane → Lane) (s : State) : State :=
  let g := s.holder.isSome
  let s1 := s.atOutletBut o missed (fun l => f g (l.setp Pw.clockGate (setBit (l.pn Pw.clockGate) (o % 4) false : Nat)))
  ((s1.sessionCompare o).drive).lines

/-- A message of the vehicle on an outlet's segment, which a lane may have missed. -/
def State.message (o : Heard Nat) (f : Bool → Lane → Lane) (s : State) : State := s.messageBut o.body o.missed f

/-- An event that the holder's row has raised, raised by the lane beside it too (R89). -/
def State.fireBeside (s old : State) : State :=
  match s.holder with
  | some h => s.alsoFire h old
  | none => s

/-- What a lane's mast modem does, but during its reset (R93). -/
def Lane.modem (f : Lane → Lane) (l : Lane) : Lane := if l.inReset 3 0 then l else f l

/-- The mast link's row at a port: the holder carries it out, and the standby follows it (R433) and raises its events (R89). -/
def State.mastStep (t : Nat) (f : Lane → Lane) (s : State) : State :=
  if s.chassis.variant.mast && decide (t < 2) then ((s.holderOnly (Lane.modem f)).beside (fun l h => l.mastFollow h t)).fireBeside s else s

/-- A mast frame of a port that both lanes decode: what each takes of it (`d`), and the transaction that the holder ends with it (`f`),
which the standby follows (R433). -/
def State.mastBoth (t : Nat) (d f : Lane → Lane) (s : State) : State :=
  if s.chassis.variant.mast && decide (t < 2) then
    (((s.both (Lane.modem d)).holderOnly (Lane.modem f)).beside (fun l h => l.mastFollow h t)).fireBeside s
  else s

/-- What a lane's controller of bus `b` does, but during its reset (R93). -/
def Lane.onBus (b : Nat) (f : Lane → Lane) (l : Lane) : Lane := if l.inReset 2 b then l else f l

/-- CAN_TX_COMPLETE (R416, R422): the holder's frame ends on bus `b`, and a standby that received it marks its request done. -/
def State.canDone (b : Nat) (e : CanEnd) (s : State) : State :=
  match s.holder with
  | none => s
  | some h =>
    if 4 ≤ b || !(s.lane h).active || (s.lane h).inReset 2 b then s
    else
      match ((s.lane h).bus b).flight with
      | none => s
      | some r =>
        let s1 := s.onLane h Lane.active (fun _ _ l => l.canSent b e.busy)
        s1.onLane h.other Lane.active (fun _ _ l => l.onBus b (if e.missed = some h.other then Lane.canNext b e.busy else Lane.canHeard b e.busy r))

/-- A change of a bus's error state in a named lane: the standby follows what it says of the holder's requests (R416), and its event is
raised by both lanes (R89). -/
def State.busRow (i : LaneId) (b : Nat) (f : Lane → Lane) (s : State) : State :=
  ((s.one i f).beside (fun l h => l.canFollow b h)).alsoFire i s

/-- Whether the controller is `ASLEEP`: a lane is, and none computes. -/
def State.asleep (s : State) : Bool :=
  !s.a.active && !s.b.active
    && ((s.a.alwaysOn && decide (s.a.power.power = pwAsleep)) || (s.b.alwaysOn && decide (s.b.power.power = pwAsleep)))

/-- The safety lines as last sampled (R321). -/
def Lane.takeLines (i : SafetyInputs) (l : Lane) : Lane :=
  l.safe! (fun s => { s with estop1 := i.estop1, estop2 := i.estop2, resetIn := i.reset, loopIn := i.loopIn })

/-- Whether a sample differs from the safety lines as last sampled (R466 source 6). -/
def Lane.linesChanged (i : SafetyInputs) (l : Lane) : Bool :=
  i.estop1 != l.safe.estop1 || i.estop2 != l.safe.estop2 || i.reset != l.safe.resetIn || i.loopIn != l.safe.loopIn

/-- The always-on domain's sample of the emergency stop in `ASLEEP` (R329): a demand is latched. -/
def Lane.asleepCycle (outlets : Nat) (i1 i2 : SafetyInputs) (l : Lane) : Lane :=
  let l1 := l.safe! (SafeSt.contacts i1 i2)
  l1.evalFn outlets 0 true (l1.safe.con1.demand i1) (l1.safe.con2.demand i2)

/-- Round reports to the anchor and allocations to members, sent at lap 150 (R213, R214, R401) on Net 1, or on Net 2 while
Net 1 is broken. A member reports where its top is exported; an anchor sends each member node's allocation to its member, at every
level that it anchors (log entry 78). Nothing is sent for a round that overran (log entry 100). -/
def Lane.roundFrames (l : Lane) : Lane :=
  if l.lapIn ≠ 150 ∨ l.alloc.doneEpoch ≠ some l.epoch then l
  else
    let net := if l.team.whole1 then 1 else 2
    l.forL (usedLevels l.cfg) (fun k l =>
      let round := l.teamEpoch k
      if lvlMember l.cfg k ≠ 0 then
        (if (topNodes l.cfg).any (fun x => cfgAt l.cfg (Pool.parent x) == 0xFFFFFFFE) then
          l.teamSend k 3 net 1 [(8, round), (8, l.alloc.teamWant), (8, l.alloc.teamDrawn)]
        else l)
      else l.forL ((usedNodes l.cfg).filter (fun x => nodeKind l.cfg x == 3)) (fun x l =>
        l.teamSend k 4 net (2 ^ l.cn (Pool.memberIndex x)) [(8, round), (8, l.p (Pool.allocW x))]))

/-- What follows a sample of lane `i` (R259): the baton holder, and a lane beside which none holds the baton, supervise the outlets
with their own samples; a standby that no sample of the holder has reached since its sample before leaves step. -/
def State.sampleTaken (i : LaneId) (s : State) : State :=
  let l := s.lane i
  if s.holder.getD i = i then
    s.one i (fun l => (l.met! (fun x => { x with follows := false })).forN s.chassis.variant.outlets
      (fun o l => if (l.dcPt o).seen then l.supervise o l else l))
  else if l.active && (match l.met.lastHolderTick with | some t => decide (t + 1 < l.met.tick) | none => true) then s.leaveStep i
  else s

/-- The raw samples of a metering sample without the points whose front end is in reset (R93). -/
def Lane.sampled (l : Lane) (ms : MeterSample) : MeterSample :=
  let off := fun (m : Nat) => l.inReset 5 (if m < 8 then m else 0x100 + (m - 8))
  { ms with ac := ms.ac.filter (fun e => !off e.1), dc := ms.dc.filter (fun e => !off (8 + e.1)) }

/-- A response from another member: a snapshot that waits for it takes its records, else the forwarded request is answered
(R48, R85); every other kind acts as R401 says. -/
def Lane.frameAct (v : Variant) (k : Nat) (f : TeamFrame) (l : Lane) : Lane :=
  match f.payload with
  | .responses es =>
    l.forL es (fun e l => if l.awaits f.sender e then l.memberImage v f.sender e else l.memberEntry k f.sender e)
  | _ => l.actOnFrame k f

/-! ### Rows of more than one part -/

/-- The lane beside lane `i` computes in step with it (R356). -/
def State.inStepBeside (s : State) (i : LaneId) : Bool :=
  let o := (s.lane i.other).link.state
  (s.lane i.other).active &&
    (match (s.lane i).link.state with
      | .holder => decide (o = .standby)
      | .standby => decide (o = .holder)
      | _ => false)

/-- `ring_state` shown as a lane's laps start (R394, R397, R398), where the team is fitted. -/
def State.ringShown (i : LaneId) (s : State) : State :=
  if s.chassis.variant.team then
    s.onLane i Lane.present (fun _ _ l => l.setp Team.ringState
      (b01 l.team.whole1 + 2 * b01 l.team.whole2 + 4 * b01 s.chassis.bypass1 + 8 * b01 s.chassis.bypass2))
  else s

/-- A lane that is in reset or unpowered (R16, R398). -/
def Lane.inResetState (l : Lane) : Bool := decide (l.link.state = .absent) || decide (l.link.state = .reset)

/-- BYPASS_SWITCH (R398): the position of a net's switch, which every present lane shows. It closes with both lanes in reset or without
supply, and opens once a lane holds the baton. -/
def State.bypass (net : Nat) (cue : BypassCue) (s : State) : State :=
  let closed := cue.closed
  if !s.chassis.variant.team || (net != 1 && net != 2) then s
  else if (if closed then !(s.a.inResetState && s.b.inResetState) else s.arbiter.grant.isNone || !cue.link) then s
  else
    let c := if net = 1 then { s.chassis with bypass1 := closed } else { s.chassis with bypass2 := closed }
    ({ s with chassis := c } : State).eachLane Lane.present (fun _ _ l => l.showBypass net closed)

/-- TRIG_IN_EDGE (R450): the level of TRIG IN `k`, and its edge in both lanes. -/
def State.trigEdge (k : Nat) (rising : Bool) (s : State) : State :=
  if 2 ≤ k then s
  else
    let c := if k = 0 then { s.chassis with trig0 := rising } else { s.chassis with trig1 := rising }
    ((({ s with chassis := c } : State).both (fun l => l.trigIn k rising))).lines

/-- CAN_WAKE_PATTERN (R425, R464, R466 source 1): a bus that its `wake_mode` wakes; it ends `ASLEEP` or a sleep entry. -/
def State.busWake (b : Nat) (frame : Option CanFrame) (s : State) : State :=
  if 4 ≤ b then s
  else
    let s1 := if (s.a.alwaysOn && s.a.canWakes b frame) || (s.b.alwaysOn && s.b.canWakes b frame) then s.wake 1 else s
    if s.asleep then s1 else s1.both (fun l => if l.canWakes b frame then l.canWake b else l)

/-- The lane that drives the pulse outputs (R278, R474). -/
def State.pulseLane (f : Lane → Lane) (s : State) : State :=
  match s.keeperLane with
  | none => s
  | some i => s.onLane i (fun _ => true) (fun _ _ l => f l)

/-- PROX_BAND_CHANGE (R233, R464, R466 source 2): in `ASLEEP` the always-on domain follows the line; a plug at an enabled outlet ends
`ASLEEP` or a sleep entry. -/
def State.proxBand (o lineMv : Nat) (s : State) : State :=
  if s.chassis.variant.outlets ≤ o then s
  else
    let plug := fun (l : Lane) => l.alwaysOn && decide (l.c (Out.outletEnable o) = 1 ∧ l.p (Out.proxState o) = 0 ∧ l.proxOf o lineMv = 1)
    let s1 := if s.asleep then s.keptBoth (fun l => l.proxKept o lineMv)
      else s.outletEvent o (fun l => l.proxChange o (l.proxOf o lineMv))
    if plug s.a || plug s.b then s1.wake 2 else s1

/-- TAMPER_RECORD (R313, R464, R466 source 7): a record ends `ASLEEP` or a sleep entry. That of a removed or inserted cartridge is
written by the lane that remains. -/
def State.tamperRow (x : Latch) (s : State) : State :=
  let s1 := s.eachLane (fun l => l.present && !x.ofLane l.id.num) (fun _ _ l => l.contact x)
  let wrote := decide (s1.a.p Cal.tamperCounter ≠ s.a.p Cal.tamperCounter ∨ s1.b.p Cal.tamperCounter ≠ s.b.p Cal.tamperCounter)
  if wrote then s1.wake 7 else s1

/-- TEST_PULSE_END (R337, R338): after `tp_width_us`. A read-back that failed is a fault, which both lanes count and report (R89) and
which trips. The output comes back only where the conditions of R324 hold. -/
def State.testPulseEnd (x : Nat) (readBack : Bool) (s : State) : State :=
  if !s.holder.any (fun i => (s.lane i).pulseOver x) then s
  else
    let s1 := s.both (fun l => l.safe! (fun y => { y with pulses := y.pulses.filter (fun e => e.1 != x) }))
    if readBack then s1 else s1.both (fun l => (l.outputFault x).tripFn s.chassis.variant.outlets (outputFn x) 15 true true)

/-- The outputs that read low in a sample and whose function no lane holds tripped yet (R338). -/
def State.newFaults (s : State) (c1 c2 : SafetyInputs) : List Nat :=
  (c1.lowOuts ++ c2.lowOuts).eraseDups.filter (fun x =>
    !(s.a.fnHeld (outputFn x) || s.b.fnHeld (outputFn x))
      && decide (x < 3 + 3 * s.chassis.variant.outlets))

/-- SAFETY_CYCLE (R321, R329, R340, R360 cause 4, R466 source 6). The gate of SAFE LOOP IN ends once the line reads energised;
channels that disagree are a cause of the lane's self-diagnosis; an energised output that reads low is a fault in both lanes (R338). In `ASLEEP` the always-on domain samples the emergency stop,
and a change of a safety line wakes the controller. -/
def State.safetySample (i : LaneId) (c1 c2 : SafetyInputs) (s : State) : State :=
  let n := s.chassis.variant.outlets
  if (s.lane i).active then
    let s0 := (s.newFaults c1 c2).foldl (fun s x => s.both (Lane.outputFault x)) s
    let s1 := s0.one i (fun l =>
      let l1 := (l.safetyCycle n c1 c2).takeLines c1
      if s.chassis.variant.team then l1.telegramFrames else l1)
    let s2 : State := if c1.loopIn || c2.loopIn then { s1 with chassis := { s1.chassis with loopGate := false } } else s1
    let s3 := if (s2.lane i).safe.chanFault then s2.diagnose i 4 else s2
    let s4 := if (s.lane i).linesChanged c1 then s3.wake 6 else s3
    s4.drive.lines
  else if (s.lane i).alwaysOn && decide ((s.lane i).power.power = pwAsleep) then
    let s1 := s.kept i (fun l => (l.asleepCycle n c1 c2).takeLines c1)
    if (s.lane i).linesChanged c1 then s1.wake 6 else s1
  else s

/-- SAFE_LOOP_IN (R340): with `loop_mode` 1 the dropped line gates the output drivers of both lanes. -/
def State.loopDrop (s : State) : State :=
  let on := fun (l : Lane) => l.active && decide (l.c SafM.loopMode = 1)
  let s1 := s.both (fun l => l.safe! (fun x => { x with loopIn := false }))
  let s2 : State := if on s.a || on s.b then { s1 with chassis := { s1.chassis with loopGate := true } } else s1
  s2.drive.lines

/-- HOUSEKEEPING_ROUND (R479 to R483): the lane's round, its events in the other lane, and the shutdown of the critical band
(R360 cause 6). -/
def State.houseRound (i : LaneId) (h : Housekeeping) (s : State) : State :=
  let l := s.lane i
  let rest := !s.a.lapping && !s.b.lapping
  let s1 := s.powered i (fun l => (if rest then l.roundPassed else l).housekeeping h)
  let s2 := s1.alsoFire i s
  (if (s1.lane i).therm.shut && !l.therm.shut then s2.diagnose i 6 else s2).drive

/-- DRAM_ERROR (R487 to R489): a corrected line, or an uncorrectable one, with which the lane gives up and resets (R360
cause 5). -/
def State.dramOutcome (i : LaneId) (corrected : Bool) (device line : Nat) (s : State) : State :=
  let l := s.lane i
  if !(l.present && l.power.fastOn) then s
  else if corrected then (s.powered i (fun l => l.outerCorrect device line)).alsoFire i s
  else ((s.powered i (fun l => l.uncorrectable line)).diagnose i 5).drive

/-- The event of the power-fail store, or of restored power, in the other lane (R89), and the outputs. `old` is the state
before the row. -/
def State.supplyMirror (s : State) (i : LaneId) (old : State) : State :=
  let l := s.lane i
  let o := old.lane i
  ((s.mirror i (decide (l.met.storeSeq ≠ o.met.storeSeq)) 101 [Config.eventCause 4]).mirror i
    (decide (l.p Cal.outages ≠ o.p Cal.outages)) 101 [Config.eventCause 5]).drive

end Sys2Proof.Machine
end

