-- ==== Sys2Proof/Machine/BusRows.lean ====
section
/-!
DEFINITION. The meanings of the equipment buses and the mast link (R414 to R437).
-/

namespace Sys2Proof.Machine

/-- `CAN_FRAME_RECEIVE` (R418). A CAN frame is received and placed into its receive object at the next lap start,
but in a lane that missed it (R20, R417); after it a request that waits for the bus may start (R422). -/
def execCanFrameReceive (bus : Nat) (f : CanArrival) (s : State) : Effect :=
  .next (s.below 4 bus (fun l => l.onBus bus (fun l =>
    (if f.stop.missed = some l.id then l else l.canReceive bus f.frame).canNext bus f.stop.busy)))

/-- `CAN_COLUMN_OPEN` (R422). A schedule column opens and its cell requests a frame, opens a free window or stays
idle. -/
def execCanColumnOpen (bus cycle : Nat) (c : CanColumn) (s : State) : Effect :=
  .next (s.below 4 bus (fun l => l.onBus bus (Lane.canColumnOpen bus cycle c)))

/-- `CAN_COLUMN_CLOSE` (R422). A column closes and a scheduled frame that has not started is withdrawn. -/
def execCanColumnClose (bus : Nat) (s : State) : Effect :=
  .next (s.below 4 bus (fun l => l.onBus bus (Lane.canColumnClose bus)))

/-- `CAN_TX_COMPLETE` (R422). A frame the baton holder has started on a CAN bus reaches its end, so the next pending
request may start. -/
def execCanTxComplete (sent : CanSent) (s : State) : Effect :=
  .next (s.canDone sent.bus sent.stop)

/-- `CAN_ERROR_STATE_CHANGE` (R424). A bus changes among error active, error passive and bus-off. -/
def execCanErrorStateChange (lane : LaneId) (bus : Nat) (state : Int) (tec recN : Nat) (s : State) : Effect :=
  .next (if bus < 4 then s.busRow lane bus (fun l => l.canError bus state tec recN) else s)

/-- `CAN_BUSOFF_RECOVERY` (R424). After 128 occurrences of 11 recessive bits, a bus-off controller rejoins. -/
def execCanBusoffRecovery (lane : LaneId) (bus : Nat) (s : State) : Effect :=
  .next (if bus < 4 then s.busRow lane bus (fun l => l.canRejoin bus) else s)

/-- `CAN_WAKE_PATTERN` (R425). A wake-up pattern or wake frame arrives on a sleeping bus. -/
def execCanWakePattern (bus : Nat) (frame : Option CanFrame) (s : State) : Effect :=
  .next (s.busWake bus frame)

/-- `MAST_REQUEST_SEND` (R431). The holder starts a transaction by sending a request to the next node. -/
def execMastRequestSend (port : Nat) (s : State) : Effect :=
  .next (s.mastStep port (fun l => l.mastSend port))

/-- `MAST_RESPONSE_RECEIVE` (R431). A node's response is decoded and the channel map is adapted. Each lane decodes it with its own
receiver (R20), and the standby follows the holder's map, queue and transaction (R433). -/
def execMastResponseReceive (port : Nat) (a : MastResponse) (s : State) : Effect :=
  .next (s.mastBoth port (fun l => l.mastDecode port a) (fun l => l.mastResponse port a))

/-- `MAST_RESPONSE_TIMEOUT` (R431). A response is missing after 11 mains cycles, and the request is repeated. -/
def execMastResponseTimeout (port : Nat) (s : State) : Effect :=
  .next (s.mastStep port (fun l => l.mastTimeout port))

/-- `MAST_ALERT` (R434). A node's alert header is received while the controller is ASLEEP. -/
def execMastAlert (port : Nat) (a : MastResponse) (s : State) : Effect :=
  .next (if s.chassis.variant.mast && s.asleep && ((s.a.alwaysOn && s.a.alertValid port a) || (s.b.alwaysOn && s.b.alertValid port a)) then s.wake 4 else s)

/-- `MAINS_ZERO_CROSSING` (R428). A mast port detects the positive-going zero crossing of its feeder, which times the
six segments and counts mains_out when the frequency is out of range. -/
def execMainsZeroCrossing (port periodUs : Nat) (noise : List Nat) (s : State) : Effect :=
  .next (if s.chassis.variant.mast && decide (port < 2) then s.both (fun l => l.zeroCrossing port periodUs noise) else s)

end Sys2Proof.Machine
end

