-- ==== Sys2Proof/Machine/HostRows.lean ====
section
/-!
DEFINITION. The meanings of the commands that a host sends (R83), and the mailboxes' own rows (R68 to R85).
-/

namespace Sys2Proof.Machine

/-- `NOP` (R83). Command that returns OK and echoes its body. -/
def execNop (r : Request) (s : State) : Effect :=
  .next (s.run 0x0001 r (doNop r))

/-- `CAPS` (R92). Command that returns the capability record and the state of both lanes. -/
def execCaps (r : Request) (s : State) : Effect :=
  .next (s.run 0x0002 r (doCaps r))

/-- `RING_SET` (R83). Command that sets a ring pair's enable, transport key slot and rights. -/
def execRingSet (r : Request) (s : State) : Effect :=
  .next (s.run 0x0003 r (doRingSet r))

/-- `RING_RESYNC` (R77). Command that ends held requests, clears the response history and sets the next expected seq
to 1. -/
def execRingResync (r : Request) (s : State) : Effect :=
  .next (s.run 0x0004 r (doRingResync r))

/-- `RING_STATUS` (R83). Command that returns a ring's sequence numbers, pending and held counts, and error counters.
-/
def execRingStatus (r : Request) (s : State) : Effect :=
  .next (s.run 0x0005 r (doRingStatus r))

/-- `SNAPSHOT` (R47). Command that returns point records, all from the image of one epoch. -/
def execSnapshot (r : Request) (s : State) : Effect :=
  .next (s.run 0x0010 r (doSnapshot r))

/-- `READ_STAGED` (R53). Command that returns the staged values of points, or the committed values where nothing is
staged. -/
def execReadStaged (r : Request) (s : State) : Effect :=
  .next (s.run 0x0011 r (doReadStaged r))

/-- `HISTORY` (R82). Command that returns the changed records of one point from the ledger history, in parts. -/
def execHistory (r : Request) (s : State) : Effect :=
  .next (s.run 0x0012 r (doHistory r))

/-- `STAGE` (R52). Command that checks up to 18 writes as a whole, then stages the RS writes and carries out the other
writes at once. -/
def execStage (r : Request) (s : State) : Effect :=
  .next (s.run 0x0020 r (doStage r))

/-- `COMMIT` (R54). Command that moves the staging area into a commit with a target epoch, or into a held commit. -/
def execCommit (r : Request) (s : State) : Effect :=
  .next (s.run 0x0021 r (doCommit r))

/-- `DISCARD` (R54). Command that empties the ring's staging area without committing it. -/
def execDiscard (r : Request) (s : State) : Effect :=
  .next (s.run 0x0022 r (doDiscard r))

/-- `COMMIT_LIST` (R83). Command that returns the held commits of the ring with their target epochs. -/
def execCommitList (r : Request) (s : State) : Effect :=
  .next (s.run 0x0023 r (doCommitList r))

/-- `SUBSCRIBE` (R49). Command that creates or extends a change or period subscription. -/
def execSubscribe (r : Request) (s : State) : Effect :=
  .next (s.run 0x0030 r (doSubscribe r))

/-- `UNSUBSCRIBE` (R83). Command that removes a subscription. -/
def execUnsubscribe (r : Request) (s : State) : Effect :=
  .next (s.run 0x0031 r (doUnsubscribe r))

/-- `EVENT_MAP` (R87). Command that maps event sources to rings, applying all entries or none. -/
def execEventMap (r : Request) (s : State) : Effect :=
  .next (s.run 0x0040 r (doEventMap r))

/-- `EVENT_MAP_READ` (R83). Command that returns the ring to which each event source is mapped. -/
def execEventMapRead (r : Request) (s : State) : Effect :=
  .next (s.run 0x0041 r (doEventMapRead r))

/-- `RESET_FUNCTION` (R93). Command that restarts one function in one lane or in both lanes. -/
def execResetFunction (r : Request) (s : State) : Effect :=
  .next ((s.run 0x0050 r (doResetFunction r)).drive)

/-- `SESSION_AUTHORIZE` (R252). Command that gives the host's identification decision for an outlet in AUTH. -/
def execSessionAuthorize (r : Request) (s : State) : Effect :=
  .next ((s.run 0x0100 r (doSessionAuthorize r)).drive)

/-- `SESSION_STOP` (R252). Command that starts a controller stop of the outlet's charging session. -/
def execSessionStop (r : Request) (s : State) : Effect :=
  .next ((s.run 0x0101 r (doSessionStop r)).drive)

/-- `OUTLET_BLOCK` (R252). Command that sets or releases the host block of an outlet, stopping a running session
first. -/
def execOutletBlock (r : Request) (s : State) : Effect :=
  .next ((s.run 0x0102 r (doOutletBlock r)).drive)

/-- `OUTLET_CLEAR` (R252). Command that clears the OUTLET_CLEAR hold condition of an outlet. -/
def execOutletClear (r : Request) (s : State) : Effect :=
  .next ((s.run 0x0103 r (doOutletClear r)).drive)

/-- `SESSION_INFO` (R252). Command that returns the identity data of the outlet's session. -/
def execSessionInfo (r : Request) (s : State) : Effect :=
  .next (s.run 0x0104 r (doSessionInfo r))

/-- `SESSION_RESTART` (R252). Command that counts as a plug cycle for an outlet in IDLE or BLOCKED. -/
def execSessionRestart (r : Request) (s : State) : Effect :=
  .next ((s.run 0x0105 r (doSessionRestart r)).drive)

/-- `KEY_MSG_LOAD` (R391). Command that loads part of a key update message into the ring's buffer. -/
def execKeyMsgLoad (r : Request) (s : State) : Effect :=
  .next (s.run 0x0200 r (doKeyMsgLoad r))

/-- `KEY_MSG_APPLY` (R384). Command that checks the loaded key update message and builds the trial store in a shadow
area. -/
def execKeyMsgApply (r : Request) (s : State) : Effect :=
  .next ((s.run 0x0201 r (doKeyMsgApply r)).drive)

/-- `KEY_INFO` (R391). Command that returns the state, attributes and versions of one key slot. -/
def execKeyInfo (r : Request) (s : State) : Effect :=
  .next (s.run 0x0202 r (doKeyInfo r))

/-- `KEY_LIST` (R391). Command that returns the state and attribute word of a range of slots. -/
def execKeyList (r : Request) (s : State) : Effect :=
  .next (s.run 0x0203 r (doKeyList r))

/-- `KEY_COUNTER_READ` (R391). Command that returns key_counter, the serial, update_block and store_serial_ok. -/
def execKeyCounterRead (r : Request) (s : State) : Effect :=
  .next (s.run 0x0204 r (doKeyCounterRead r))

/-- `LANE_STATUS` (R371). Command that returns the state, flags and firmware data of each lane and the baton number.
-/
def execLaneStatus (r : Request) (s : State) : Effect :=
  .next (s.run 0x0300 r (doLaneStatus r))

/-- `BATON_HANDOVER` (R371). Command that makes the holder give up the baton to the named eligible lane. -/
def execBatonHandover (r : Request) (s : State) : Effect :=
  .next ((s.run 0x0301 r (doBatonHandover r)).drive)

/-- `FW_LOAD` (R371). Command that loads part of a firmware or metrology image into an inactive bank. -/
def execFwLoad (r : Request) (s : State) : Effect :=
  .next (s.run 0x0302 r (doFwLoad r))

/-- `FW_VERIFY` (R369). Command that verifies the signature of a loaded image. -/
def execFwVerify (r : Request) (s : State) : Effect :=
  .next (s.run 0x0303 r (doFwVerify r))

/-- `FW_ACTIVATE` (R371). Command that resets the named standby lane into a verified bank. -/
def execFwActivate (r : Request) (s : State) : Effect :=
  .next ((s.run 0x0304 r (doFwActivate r)).drive)

/-- `LANE_PARK` (R371). Command that puts a lane that does not hold the baton into reset, safe to remove. -/
def execLanePark (r : Request) (s : State) : Effect :=
  .next ((s.run 0x0305 r (doLanePark r)).drive)

/-- `LANE_UNPARK` (R371). Command that starts a parked lane, which then resynchronises. -/
def execLaneUnpark (r : Request) (s : State) : Effect :=
  .next ((s.run 0x0306 r (doLaneUnpark r)).drive)

/-- `LANE_ELIGIBLE` (R371). Command that clears COMPARE_PERSIST and TV_PERSIST of a lane, which then resynchronises.
-/
def execLaneEligible (r : Request) (s : State) : Effect :=
  .next ((s.run 0x0307 r (doLaneEligible r)).drive)

/-- `TEAM_STATUS` (R412). Command that returns the membership and ring state of a team level. -/
def execTeamStatus (r : Request) (s : State) : Effect :=
  .next (s.run 0x0400 r (doTeamStatus r))

/-- `TEAM_MEMBERS` (R404). Command at the anchor that sends a membership change for a future team epoch. -/
def execTeamMembers (r : Request) (s : State) : Effect :=
  .next (s.run 0x0401 r (doTeamMembers r))

/-- `TEAM_TRIGGER` (R412). Command that sends a team trigger frame for an arm_id. -/
def execTeamTrigger (r : Request) (s : State) : Effect :=
  .next (s.run 0x0402 r (doTeamTrigger r))

/-- `TUNE_START` (R438). Command that checks and schedules an injection measurement on one slot. -/
def execTuneStart (r : Request) (s : State) : Effect :=
  .next (s.run 0x0500 r (doTuneStart r))

/-- `TUNE_STOP` (R443). Command that ends a running measurement, with the injection 0 from the next window. -/
def execTuneStop (r : Request) (s : State) : Effect :=
  .next (s.run 0x0501 r (doTuneStop r))

/-- `TUNE_RESULT` (R452). Command that returns the correlator results of the latest completed measurement. -/
def execTuneResult (r : Request) (s : State) : Effect :=
  .next (s.run 0x0502 r (doTuneResult r))

/-- `TRACE_ARM` (R445). Command that arms all trace probes of both lanes with a pre-trigger count and a trigger
source. -/
def execTraceArm (r : Request) (s : State) : Effect :=
  .next (s.run 0x0510 r (doTraceArm r))

/-- `TRACE_READ` (R452). Command that returns samples of one probe. -/
def execTraceRead (r : Request) (s : State) : Effect :=
  .next (s.run 0x0511 r (doTraceRead r))

/-- `ACQ_ARM` (R449). Command that opens an acquisition record for the module or the team. -/
def execAcqArm (r : Request) (s : State) : Effect :=
  .next (s.run 0x0520 r (doAcqArm r))

/-- `ACQ_DISARM` (R452). Command that ends the armed record in CLOSED. -/
def execAcqDisarm (r : Request) (s : State) : Effect :=
  .next (s.run 0x0521 r (doAcqDisarm r))

/-- `ACQ_TRIGGER` (R452). Command that triggers the armed record. -/
def execAcqTrigger (r : Request) (s : State) : Effect :=
  .next (s.run 0x0522 r (doAcqTrigger r))

/-- `ACQ_LIST` (R452). Command that lists the records held. -/
def execAcqList (r : Request) (s : State) : Effect :=
  .next (s.run 0x0523 r (doAcqList r))

/-- `ACQ_READ` (R452). Command that returns entries of a record. -/
def execAcqRead (r : Request) (s : State) : Effect :=
  .next (s.run 0x0524 r (doAcqRead r))

/-- `ACQ_DELETE` (R452). Command that deletes a record and frees its memory. -/
def execAcqDelete (r : Request) (s : State) : Effect :=
  .next (s.run 0x0525 r (doAcqDelete r))

/-- `PERIOD_READ` (R316). Command that returns a closed billing period. -/
def execPeriodRead (r : Request) (s : State) : Effect :=
  .next (s.run 0x0600 r (doPeriodRead r))

/-- `PROFILE_READ` (R316). Command that returns interval records. -/
def execProfileRead (r : Request) (s : State) : Effect :=
  .next (s.run 0x0601 r (doProfileRead r))

/-- `LOG_READ` (R316). Command that returns metrology log entries. -/
def execLogRead (r : Request) (s : State) : Effect :=
  .next (s.run 0x0602 r (doLogRead r))

/-- `RECORD_READ` (R316). Command that returns a signed session record. -/
def execRecordRead (r : Request) (s : State) : Effect :=
  .next (s.run 0x0603 r (doRecordRead r))

/-- `CLOCK_READ` (R316). Command that returns the legal clock and tariff state. -/
def execClockRead (r : Request) (s : State) : Effect :=
  .next (s.run 0x0604 r (doClockRead r))

/-- `CLOCK_SET` (R298). Command that steps the legal clock, within the limit or beyond it with splits. -/
def execClockSet (r : Request) (s : State) : Effect :=
  .next ((s.run 0x0605 r (doClockSet r)).drive)

/-- `TAMPER_ACK` (R316). Command that acknowledges a tamper record. -/
def execTamperAck (r : Request) (s : State) : Effect :=
  .next (s.run 0x0606 r (doTamperAck r))

/-- `PUBKEY_READ` (R316). Command that returns the public key of the metering signing key. -/
def execPubkeyRead (r : Request) (s : State) : Effect :=
  .next (s.run 0x0607 r (doPubkeyRead r))

/-- `SLEEP_ENTER` (R462). Command that begins sleep preparation with the target epoch S. -/
def execSleepEnter (r : Request) (s : State) : Effect :=
  .next ((s.run 0x0700 r (doSleepEnter r)).drive)

/-- `TT_WRITE` (R476). Command that writes or deletes timetable entries. -/
def execTtWrite (r : Request) (s : State) : Effect :=
  .next (s.run 0x0701 r (doTtWrite r))

/-- `TT_READ` (R476). Command that returns timetable entries. -/
def execTtRead (r : Request) (s : State) : Effect :=
  .next (s.run 0x0702 r (doTtRead r))

/-- `TT_CLEAR` (R476). Command that removes every timetable entry. -/
def execTtClear (r : Request) (s : State) : Effect :=
  .next (s.run 0x0703 r (doTtClear r))

/-- `POWER_STATUS` (R476). Command that returns the power state data of each lane. -/
def execPowerStatus (r : Request) (s : State) : Effect :=
  .next (s.run 0x0704 r (doPowerStatus r))

/-- `MODULE_RESTART` (R472). Command that schedules a reset of both lanes at the end of the next epoch. -/
def execModuleRestart (r : Request) (s : State) : Effect :=
  .next ((s.run 0x0705 r (doModuleRestart r)).drive)

/-- `CAN_TX_WRITE` (R420). Command that writes a payload into a transmit object's back buffer. -/
def execCanTxWrite (r : Request) (s : State) : Effect :=
  .next (s.run 0x0800 r (doCanTxWrite r))

/-- `CAN_RX_READ` (R419). Command that reads a receive object atomically over one lap. -/
def execCanRxRead (r : Request) (s : State) : Effect :=
  .next (s.run 0x0801 r (doCanRxRead r))

/-- `CAN_SLEEP` (R425). Command that puts the transceivers of a bus into sleep. -/
def execCanSleep (r : Request) (s : State) : Effect :=
  .next (s.run 0x0802 r (doCanSleep r))

/-- `CAN_WAKE` (R425). Command that wakes a sleeping bus. -/
def execCanWake (r : Request) (s : State) : Effect :=
  .next (s.run 0x0803 r (doCanWake r))

/-- `CAN_RECOVER` (R424). Command that starts bus-off recovery of a bus. -/
def execCanRecover (r : Request) (s : State) : Effect :=
  .next (s.run 0x0804 r (doCanRecover r))

/-- `MAST_WRITE` (R436). Command that queues data for a mast node. -/
def execMastWrite (r : Request) (s : State) : Effect :=
  .next (s.run 0x0810 r (doMastWrite r))

/-- `MAST_READ` (R436). Command that returns the latest data and link report of a mast node. -/
def execMastRead (r : Request) (s : State) : Effect :=
  .next (s.run 0x0811 r (doMastRead r))

/-- `MAST_MAP_READ` (R436). Command that returns the channel maps of a mast port. -/
def execMastMapRead (r : Request) (s : State) : Effect :=
  .next (s.run 0x0812 r (doMastMapRead r))

/-- `SNAPSHOT_IMAGE_READY` (R47). A snapshot that names a future epoch is answered once that epoch's image becomes
readable. -/
def execSnapshotImageReady (s : State) : Effect :=
  .next (s.both (fun l => l.snapshotReady s.chassis.variant))

/-- `SNAPSHOT_MEMBER_TIMEOUT` (R48). A team member that has not delivered its image within 2 ms has its points read as
unreachable. -/
def execSnapshotMemberTimeout (seq : Nat) (s : State) : Effect :=
  .next (s.both (fun l => l.snapshotTimeout s.chassis.variant seq))

/-- `MEMBER_ANSWER_TIMEOUT` (R85). A request forwarded down a team path gets no answer from the addressed member
within 20 ms and fails with UNREACHABLE. -/
def execMemberAnswerTimeout (seq : Nat) (s : State) : Effect :=
  .next (s.both (fun l => l.memberTimeout seq))

/-- `FUNCTION_RESET_COMPLETE` (R93). A function reset by RESET_FUNCTION runs again, is answered, and fires event 119.
-/
def execFunctionResetComplete (code unit : Nat) (s : State) : Effect :=
  .next ((s.resetComplete code unit).drive)

/-- `TOD_SET_WRITE` (R111). A write to tod_set gives a new team time of day, which is slewed or stepped at the next
epoch boundary. -/
def execTodSetWrite (value : Int) (s : State) : Effect :=
  .next (s.both (fun l => l.todSet value))

/-- `REARM_WRITE` (R146). A host write to rearm requests the re-arm of a phase and clears the trips counted in its
window. -/
def execRearmWrite (phase : Nat) (s : State) : Effect :=
  .next (s.atPhase phase (fun l => l.rearmWrite phase))

/-- `TEST_GATE_WRITE` (R148). A host write to test_gate places TEST encodings for a number of laps, or is refused as a
false start. A refused write has no effect beyond its status; both switches together are the false start of R147. -/
def execTestGateWrite (phase value : Nat) (s : State) : Effect :=
  .next (s.atPhase phase (fun l => l.testGateWrite phase value))

/-- `HIST_RESET_WRITE` (R172). A write of 1 to hist_reset initialises the slot's histories before its next evaluation.
-/
def execHistResetWrite (slot : Nat) (s : State) : Effect :=
  .next (s.below 2048 slot (fun l => if (l.slot slot).init then l else l.setSlot slot { l.slot slot with init := true }))

/-- `HOST_POWER_KW_WRITE` (R199). A write to host_power_kw sets a node's host-supplied metered power at once and time-
stamps it. -/
def execHostPowerKwWrite (node : Nat) (value : Int) (s : State) : Effect :=
  .next (s.below 256 node (fun l => l.hostPower node value))

/-- `DATAGRAM_RECEIVE` (R72). A mailbox datagram arrives on a host port, is authenticated and checked, and its entries
are accepted or dropped. -/
def execDatagramReceive (lane : LaneId) (d : Datagram) (s : State) : Effect :=
  .next (s.datagram lane d)

/-- `FORWARDED_REQUEST` (R69). The other lane receives request entries forwarded over the lane link. -/
def execForwardedRequest (lane : LaneId) (s : State) : Effect :=
  .next (s.forwarded lane)

/-- `REQUEST_TAKE` (R79). At a lap start, the baton holder takes up to 4 requests in turn from the rings. -/
def execRequestTake (s : State) : Effect :=
  .next (s.requestTake)

/-- `TAKE_NOTICE` (R79). The standby receives a take notice and acknowledges it in the same lap. -/
def execTakeNotice (s : State) : Effect :=
  .next (s.takeNotice)

/-- `TAKE_NOTICE_TIMEOUT` (R80). A take notice not acknowledged within 2 laps makes the holder execute alone and mark
the standby out of step. -/
def execTakeNoticeTimeout (s : State) : Effect :=
  .next (s.noticeTimeout.drive)

/-- `RESEND_TIMER` (R81). Unacknowledged response-ring entries are resent 20 ms after they were last sent. -/
def execResendTimer (ring : Nat) (s : State) : Effect :=
  .next (s.both (fun l => l.resendTimer ring))

/-- `NOTIFICATION_ROOM` (R51). When ring room appears, one merged notification is built from the latest sealed image.
-/
def execNotificationRoom (ring sub : Nat) (s : State) : Effect :=
  .next (s.both (fun l => l.notificationRoom s.chassis.variant ring sub))

end Sys2Proof.Machine
end

