-- ==== Sys2Proof/Machine/LaneRows.lean ====
section
/-!
DEFINITION. The meanings of lanes, baton, the key store's shared rows and cartridges (R352 to R391).
-/

namespace Sys2Proof.Machine

/-- `KEY_DIGEST_EXCHANGE` (R384). One lap after KEY_MSG_APPLY, each lane sends the digest of its trial store and
compares it with the partner's. -/
def execKeyDigestExchange (s : State) : Effect :=
  .next (s.eachLane Lane.active (fun s i l => l.keyExchange (s.lane i.other)))

/-- `KEY_COMMIT_POINT` (R384). At the start of lap L+2, the trial store is activated or refused, the response is sent,
and engines overwrite their stale key copies. A standby whose digest did not arrive leaves step. -/
def execKeyCommitPoint (s : State) : Effect :=
  let silent := fun (i : LaneId) => s.inStepBeside i && decide ((s.lane i).link.state = .standby)
    && ((s.lane i).keySilent || ((s.lane i).keys.apply.isNone && (s.lane i.other).keySilent))
  let s1 := s.eachLane Lane.active (fun s i l => (l.keyCommit (s.inStepBeside i)).signOwed)
  let leave := fun (i : LaneId) (s : State) => if silent i then s.leaveStep i else s
  .next (leave .B (leave .A s1)).drive

/-- `KEY_DELIVERY_REQUEST` (R378). An engine requests a key from a slot, and the key store delivers it or refuses it.
-/
def execKeyDeliveryRequest (lane : LaneId) (engine slot op : Nat) (s : State) : Effect :=
  .next (s.one lane (fun l => l.keyDelivery engine slot op))

/-- `CARTRIDGE_PAIRING` (R389). Two cartridges verify each other's certificates and derive the lane-link key by ECDH.
-/
def execCartridgePairing (verified : Bool) (secret : Nat) (s : State) : Effect :=
  .next (if s.a.present && s.b.present then s.eachLane Lane.present (fun _ _ l => l.pairing verified secret) else s)

/-- `LANE_LINK_CRC_RECEIVE` (R30). The standby compares the holder's command-block comparison CRCs with its own. -/
def execLaneLinkCrcReceive (s : State) : Effect :=
  .next (s.crcReceive.drive)

/-- `LANE_LINK_TIMEOUT` (R360). No valid lane-link traffic for 4 laps takes the partner out of step. -/
def execLaneLinkTimeout (s : State) : Effect :=
  .next (s.linkTimeout.drive)

/-- `GRANT_EVALUATION` (R353). At the first STROBE of a lap, the arbiter evaluates and may change its grant and baton
number. -/
def execGrantEvaluation (s : State) : Effect :=
  .next ((s.grantEvaluation.drive).lines)

/-- `GIVE_UP` (R359). A latched give-up request drops WANT at 3,650 ns and sets the release flag. -/
def execGiveUp (lane : LaneId) (s : State) : Effect :=
  .next (s.one lane Lane.giveUpNow)

/-- `WATCHDOG_MISS` (R360). The lap watchdog is not serviced and LIVE stops toggling. -/
def execWatchdogMiss (lane : LaneId) (s : State) : Effect :=
  .next ((s.watchdogMiss lane).drive)

/-- `HOST_PORTS_DOWN` (R360). Both own host ports have had no link for 1 s while a partner port has link. -/
def execHostPortsDown (lane : LaneId) (s : State) : Effect :=
  .next (s.one lane Lane.hostPortsDown)

/-- `LANE_INSERTED` (R356). PRES of a slot goes high and the lane leaves the absent state. -/
def execLaneInserted (lane : LaneId) (fresh small : Bool) (serial : Nat) (s : State) : Effect :=
  .next ((s.laneInserted lane fresh small serial).drive)

/-- `LANE_REMOVED` (R356). PRES of a slot goes low and the lane is absent. -/
def execLaneRemoved (lane : LaneId) (s : State) : Effect :=
  .next ((s.laneRemoved lane).drive)

/-- `EJECT_OPEN` (R373). A cartridge's EJECT contact opens and the lane parks or gives up. -/
def execEjectOpen (lane : LaneId) (s : State) : Effect :=
  .next ((s.ejectOpen lane).drive)

/-- `BOOT_COMPLETE` (R364). A lane's boot tests pass and it raises WANT or enters ALIGN. -/
def execBootComplete (lane : LaneId) (s : State) : Effect :=
  .next (s.bootComplete lane)

/-- `RESYNC_ALIGN_COMPLETE` (R364). Laps are aligned and every enabled hub is READY, so the lane enters COPY. -/
def execResyncAlignComplete (lane : LaneId) (s : State) : Effect :=
  .next (s.alignComplete lane)

/-- `COPY_COMPLETE` (R364). All resynchronisation items are copied and the lane enters CATCHUP. -/
def execCopyComplete (lane : LaneId) (s : State) : Effect :=
  .next (s.copyComplete lane)

/-- `CATCHUP_COMPLETE` (R364). The lane's sealed image equals the holder's and it enters SHADOW. -/
def execCatchupComplete (lane : LaneId) (s : State) : Effect :=
  .next (s.catchupComplete lane)

/-- `SHADOW_COMPLETE` (R364). 1,000 epochs without a mismatch take the lane into standby. -/
def execShadowComplete (lane : LaneId) (s : State) : Effect :=
  .next (s.shadowComplete lane)

/-- `RESYNC_PHASE_TIMEOUT` (R364). A resynchronisation phase exceeds its limit and resynchronisation restarts from
ALIGN. -/
def execResyncPhaseTimeout (lane : LaneId) (s : State) : Effect :=
  .next (s.phaseTimeout lane)

end Sys2Proof.Machine
end

