-- ==== Sys2Proof/Machine/LapRows.lean ====
section
/-!
DEFINITION. The meanings of laps, epochs, commits and the Pacer (R31 to R35, R56, R95 to R112).
-/

namespace Sys2Proof.Machine

/-- `LAP_START` (R107). At each starter instant the lap number advances and the lap's pack block, engine window and
command blocks run. -/
def execLapStart (inA inB : LapInput) (s : State) : Effect :=
  .next (s.lapStart (fun i => match i with | .A => inA | .B => inB))

/-- `EPOCH_BOUNDARY` (R31). Every 200th lap boundary starts a new epoch and committed configuration takes effect. -/
def execEpochBoundary (s : State) : Effect :=
  .next (s.epochBoundary)

/-- `IMAGE_SEAL` (R45). The image of the previous epoch is sealed in laps 0..3 and becomes readable at lap 4. -/
def execImageSeal (s : State) : Effect :=
  .next (s.imageSeal)

/-- `COMMIT_VALIDATION` (R55). At lap 160, each lane validates every commit due at the next epoch, in the order taken.
-/
def execCommitValidation (s : State) : Effect :=
  .next (s.both (fun l => l.commitValidation s.chassis.variant s.chassis.sealOpen))

/-- `COMMIT_DIGEST_EXCHANGE` (R33). At lap 190, the lanes exchange the staging digest and apply the commits or fail
them, and responses are sent. -/
def execCommitDigestExchange (s : State) : Effect :=
  .next (s.commitRound)

/-- `REFIN_QUALIFIED` (R96). REFIN has stayed within ±200 ppm for 100 ms without a missing edge. -/
def execRefinQualified (lane : LaneId) (s : State) : Effect :=
  .next (s.pacerRow lane Lane.refinQualified)

/-- `REFIN_LOST` (R96). REFIN misses 4 consecutive edges or leaves ±200 ppm. -/
def execRefinLost (lane : LaneId) (s : State) : Effect :=
  .next (s.pacerRow lane Lane.refinLost)

/-- `SYNCI_QUALIFIED` (R97). SYNCI has delivered 16 consecutive correct starter pulses. -/
def execSynciQualified (lane : LaneId) (s : State) : Effect :=
  .next (s.pacerRow lane Lane.synciQualified)

/-- `SYNCI_LOST` (R97). SYNCI misses 3 consecutive expected rising edges. -/
def execSynciLost (lane : LaneId) (s : State) : Effect :=
  .next (s.pacerRow lane Lane.synciLost)

/-- `EPOCH_MARKER_MISALIGNED` (R106). An epoch marker on SYNCI does not arrive at the lane's own lap 0. -/
def execEpochMarkerMisaligned (lane : LaneId) (s : State) : Effect :=
  .next ((s.powered lane Lane.markerMisaligned).alsoFire lane s)

/-- `BAND_SEARCH_LOCK` (R98). The inner PLL completes its band search and lock. -/
def execBandSearchLock (lane : LaneId) (band : Nat) (s : State) : Effect :=
  .next (s.powered lane (fun l => l.bandLock band))

/-- `LAPS_START` (R108). After lock and qualification, a lane starts its laps at the epoch marker or the next epoch
tick. -/
def execLapsStart (lane : LaneId) (s : State) : Effect :=
  .next (((s.lapsStart lane).ringShown lane).drive)

/-- `ACQUIRE_COMPLETE` (R101). The frequency, and the lap phase where needed, reach the source and the Pacer enters
TRACK or REF_HOLD. -/
def execAcquireComplete (lane : LaneId) (freq phase : Int) (s : State) : Effect :=
  .next (s.pacerRow lane (fun t l => l.acquireComplete t freq phase))

/-- `HOLDOVER_EXPIRY` (R101). After 10 s in HOLDOVER, the Pacer passes to RETURN. -/
def execHoldoverExpiry (lane : LaneId) (s : State) : Effect :=
  .next (s.pacerRow lane Lane.holdoverExpiry)

/-- `RETURN_COMPLETE` (R101). The frequency reaches nominal and the Pacer passes from RETURN to FREE. -/
def execReturnComplete (lane : LaneId) (s : State) : Effect :=
  .next (s.pacerRow lane Lane.returnComplete)

/-- `PTP_MESSAGE` (R110). A PTP message arrives on Net 1 and updates team time or the best master choice. -/
def execPtpMessage (port : Nat) (m : PtpMessage) (s : State) : Effect :=
  .next (s.teamed (fun l => l.ptpMessage port m))

/-- `PTP_SEND_INTERVAL` (R110). The Sync, Announce or Pdelay_Req interval of the boundary clock expires, and the
controller sends that PTP message. -/
def execPtpSendInterval (kind : Nat) (s : State) : Effect :=
  .next (s.teamed (fun l => l.ptpSend kind))

end Sys2Proof.Machine
end

