-- ==== Sys2Proof/Machine/MeterRows.lean ====
section
/-!
DEFINITION. The meanings of metrology, billing and meter security (R254 to R317).
-/

namespace Sys2Proof.Machine

/-- `METERING_SAMPLE` (R257). Every 125 µs each lane samples every metering input and corrects and accumulates it. -/
def execMeteringSample (lane : LaneId) (ms : MeterSample) (s : State) : Effect :=
  .next ((s.kept lane (fun l => (l.clockDue.meteringSample (s.lane lane.other) (l.sampled ms)))).sampleTaken lane)

/-- `CYCLE_END` (R268). A positive zero crossing ends an AC cycle, whose energy goes to its quadrant;
`instant256` is the crossing's team-time tag in 1/256 of a sample, and at any other instant no cycle ends. -/
def execCycleEnd (lane : LaneId) (point instant256 : Nat) (s : State) : Effect :=
  .next (s.atAc lane point (fun l => if l.crossing point = some instant256 then l.cycleEnd point else l))

/-- `FIXED_BLOCK_END` (R269). A fixed block of 160 samples ends when no reference qualifies. -/
def execFixedBlockEnd (lane : LaneId) (point : Nat) (s : State) : Effect :=
  .next (s.atAc lane point (fun l => l.fixedBlockEnd point))

/-- `NTC_READ` (R265). Once per second each point's NTC is read and its compensation evaluated. -/
def execNtcRead (lane : LaneId) (point milliOhm : Nat) (s : State) : Effect :=
  .next (s.atPoint lane point (fun l => l.ntcRead point milliOhm))

/-- `CONTROL_SET_RECEIVE` (R258). The baton holder's control set arrives at lap 2 and is used for control. -/
def execControlSetReceive (s : State) : Effect :=
  .next (s.eachLane Lane.active (fun s i l => l.takeControl (s.lane (s.holder.getD i))))

/-- `HOLDER_SAMPLE_RECEIVE` (R258). The holder's corrected samples and legal time arrive over the lane link. -/
def execHolderSampleReceive (s : State) : Effect :=
  .next (s.beside (fun l h => ((if h.met.clockSteps = [] then l.clockStep else l).followClock h).holderSample h s.chassis.variant.outlets))

/-- `METER_LANE_COMPARE` (R272). Every second, the standby compares its energies with the holder's. -/
def execMeterLaneCompare (s : State) : Effect :=
  .next ((s.beside (fun l h => l.meterCompare h)).holderOnly (fun l => l.met! (fun x => { x with secE := [] })))

/-- `REFERENCE_CHECK` (R273). Once per second each lane checks its ADC references against the second reference. -/
def execReferenceCheck (lane : LaneId) (ppm : Int) (s : State) : Effect :=
  .next ((s.kept lane (fun l => l.referenceCheck s.chassis.variant.acPoints ppm)).alsoFire lane s)

/-- `MP_CRC_CHECK` (R280). At start and every 24 h the metrology image CRC is computed and checked. -/
def execMpCrcCheck (lane : LaneId) (crc : Nat) (same : Bool) (s : State) : Effect :=
  .next (s.kept lane (fun l => l.mpCrcCheck crc same))

/-- `S0_PULSE` (R274). An OFF to ON transition on an S0 input lasts s0_min_on_ms and is counted. -/
def execS0Pulse (lane : LaneId) (input onMs : Nat) (s : State) : Effect :=
  .next (((if input < 16 then s.kept lane (fun l => l.s0Pulse input onMs) else s)).lines)

/-- `S0_STUCK` (R275). An S0 input ON for longer than s0_max_on_ms faults as stuck. -/
def execS0Stuck (lane : LaneId) (input onMs : Nat) (s : State) : Effect :=
  .next (if input < 16 then s.kept lane (fun l => l.s0Stuck input onMs) else s)

/-- `S0_OFF_TRANSITION` (R275). An S0 input returns from ON to OFF, counting a too-short ON state as a glitch and
clearing a stuck fault. -/
def execS0OffTransition (lane : LaneId) (input : Nat) (s : State) : Effect :=
  .next (((if input < 16 then s.kept lane (fun l => l.s0Off input) else s)).lines)

/-- `S0_LANE_DISAGREE` (R275). The lanes' S0 counts differ for more than 1 s. -/
def execS0LaneDisagree (input : Nat) (s : State) : Effect :=
  .next (if input < 16 then s.eachLane Lane.active (fun s i l => l.s0Disagree (s.lane i.other) input) else s)

/-- `PULSE_OUTPUT_TICK` (R277). Every 125 µs, the holder starts a pulse when one is backlogged. -/
def execPulseOutputTick (output : Nat) (s : State) : Effect :=
  .next ((if output < 4 then s.pulseLane (fun l => l.pulseTick output) else s).lines)

/-- `PULSE_END` (R277). A pulse of width w ends and po_emitted advances. -/
def execPulseEnd (output : Nat) (s : State) : Effect :=
  .next ((if output < 4 then s.pulseLane (fun l => l.pulseEnd output) else s).lines)

/-- `INTERVAL_CLOSE` (R290). Legal local time reaches an interval boundary, which closes the interval and writes its
record. -/
def execIntervalClose (s : State) : Effect :=
  .next (s.keptBoth Lane.intervalClose)

/-- `BILLING_CLOSE` (R293). A billing period closes at 00:00 on bill_close_day. -/
def execBillingClose (s : State) : Effect :=
  .next (s.keptBoth Lane.billingClose)

/-- `TARIFF_EVALUATION` (R295). At every minute of legal local time the tariff in force is evaluated. -/
def execTariffEvaluation (s : State) : Effect :=
  .next (s.keptBoth Lane.tariffEvaluation)

/-- `INTERVAL_ADOPTION` (R306). The standby receives the holder's closed interval record and registers and adopts
them. -/
def execIntervalAdoption (s : State) : Effect :=
  .next (s.beside (fun l h => l.adopt h))

/-- `SIGNED_RECORD_RECEIVE` (R309). The standby receives a signed session record from the holder. -/
def execSignedRecordReceive (number : Nat) (s : State) : Effect :=
  .next (s.beside (fun l h => l.takeRecord h number))

/-- `SEAL_CHANGE` (R312). The CAL SEAL switch changes, writing a log entry; a lane without power latches it. -/
def execSealChange (opened : Bool) (s : State) : Effect :=
  .next (({ s with chassis := { s.chassis with sealOpen := opened } } : State).eachLane Lane.present (fun _ _ l => l.contact (.seal opened)))

/-- `TAMPER_RECORD` (R313, R314). A tamper condition is met and a tamper record is written; a lane without power latches it, `downMs`
after its loss of supply. -/
def execTamperRecord (cause point : Nat) (times : TamperTimes) (values : List Int) (s : State) : Effect :=
  .next (s.tamperRow (.tamper cause point times.clearMs times.downMs values))

/-- `DISPLAY_SCROLL` (R315, R460). After scroll_dwell_s, the legal display shows the next item, in ASLEEP too, where the keeper drives it. -/
def execDisplayScroll (s : State) : Effect :=
  .next (s.keptBoth Lane.displayScroll)

end Sys2Proof.Machine
end

