-- ==== Sys2Proof/Machine/PoolRows.lean ====
section
/-!
DEFINITION. The meanings of power allocation and cable cooling (R197 to R229).
-/

namespace Sys2Proof.Machine

/-- `ALLOCATION_ROUND` (R206). In laps 8..140, each lane computes caps, wants and allocations over the pool tree. -/
def execAllocationRound (s : State) : Effect :=
  .next (s.both Lane.allocRound)

/-- `ALLOCATION_OVERRUN` (R35). An allocation not finished by lap 140 keeps the previous targets and counts an
overrun. -/
def execAllocationOverrun (lane : LaneId) (s : State) : Effect :=
  .next ((s.one lane (fun l => l.allocOverrun lane)).mirror lane
    (decide ((s.one lane (fun l => l.allocOverrun lane)).lane lane ≠ s.lane lane)) 106 [((s.lane lane).lapIn : Int)])

/-- `ALLOC_DIGEST_EXCHANGE` (R208). At lap 140, the lanes exchange and compare the allocation digest. -/
def execAllocDigestExchange (s : State) : Effect :=
  .next (s.allocExchange.drive)

/-- `TARGET_LOAD` (R211). At lap 150, pack targets are loaded, allocations go to sessions and team reports are sent.
-/
def execTargetLoad (s : State) : Effect :=
  .next ((s.both (fun l => l.targetLoad.roundFrames)).drive)

/-- `TEAM_REPORT_RECEIVE` (R214, R403, R409). The anchor receives a member's round report, in time for the round that it names. -/
def execTeamReportReceive (f : RoundSource) (want drawn : Int) (s : State) : Effect :=
  .next (s.teamed (fun l => l.takeReport f.level f.member f.round want drawn))

/-- `TEAM_ALLOCATION_RECEIVE` (R215, R409). A member receives its allocation from the anchor, in time for the round that it names. -/
def execTeamAllocationReceive (w : RoundWatts) (s : State) : Effect :=
  .next (s.teamed (fun l => l.takeAllocation w.level w.round w.watts))

/-- `TEAM_EXCHANGE_DEADLINE` (R409). At lap 4, a missing report or allocation counts as missing. -/
def execTeamExchangeDeadline (s : State) : Effect :=
  .next (s.teamed (fun l => if l.lapIn = 4 then l.teamDeadline else l))

/-- `SENSOR_TIMEOUT` (R220). A cooling sensor's last frame is older than TIMEOUT_MS and it becomes invalid. -/
def execSensorTimeout (outlet sensor : Nat) (s : State) : Effect :=
  .next (s.atOutlet outlet (fun l => if sensor < 7 then l.sensorTimeout outlet sensor else l))

/-- `MODEL_STEP` (R223). In laps 4..8, each lane steps the thermal model of every cooled outlet, checks for flow loss, and gathers the
thermal currents of the round (R34, R212). -/
def execModelStep (s : State) : Effect :=
  .next ((s.both (fun l => l.stepThermal s.chassis.variant.outlets)).drive)

/-- `FORECAST` (R225). In laps 8..140, the lanes compute the current forecast of due outlets. -/
def execForecast (s : State) : Effect :=
  .next (s.both (fun l => l.forecastAll s.chassis.variant.outlets))

/-- `FORECAST_OVERRUN` (R225). A forecast not finished by lap 140 is dropped and counted. -/
def execForecastOverrun (outlet : Nat) (s : State) : Effect :=
  .next (s.atOutlet outlet (fun l => l.forecastOverrun outlet))

/-- `COOL_READY` (R222). Flow has been at least flow_limit for 1 s and cool_ready becomes 1. -/
def execCoolReady (outlet : Nat) (s : State) : Effect :=
  .next (s.outletEvent outlet (fun l => l.coolReady outlet))

/-- `DEGRADED_RECOVER` (R228). Good flow for 5 s returns the outlet from DEGRADED to NORMAL. -/
def execDegradedRecover (outlet : Nat) (s : State) : Effect :=
  .next (s.outletEvent outlet (fun l => l.degradedRecover outlet))

/-- `DEGRADED_EXPIRY` (R228). The degraded timer reaches 60,000 ms and the outlet becomes EXPIRED. -/
def execDegradedExpiry (outlet : Nat) (s : State) : Effect :=
  .next (s.outletEvent outlet (fun l => l.degradedExpiry outlet))

/-- `DEGRADED_ELAPSED_RESET` (R228). After 300 s of good flow, the degraded elapsed time returns to 0. -/
def execDegradedElapsedReset (outlet : Nat) (s : State) : Effect :=
  .next (s.atOutlet outlet (fun l => l.degradedElapsedReset outlet))

/-- `COOLDOWN_EXPIRY` (R221). cooldown_s after the contactors open, the flow target returns to flow_idle. -/
def execCooldownExpiry (outlet : Nat) (s : State) : Effect :=
  .next (s.atOutlet outlet (fun l => l.cooldownExpiry outlet))

end Sys2Proof.Machine
end

