-- ==== Sys2Proof/Machine/PowerRows.lean ====
section
/-!
DEFINITION. The meanings of power states, supply, thermal and memory health (R302, R455 to R490).
-/

namespace Sys2Proof.Machine

/-- `SUPPLY_LOSS` (R302). A lane's PWR input stays below 16.0 V for 500 µs. -/
def execSupplyLoss (lane : LaneId) (s : State) : Effect :=
  .next ((s.supplyLoss lane).supplyMirror lane s)

/-- `SUPPLY_RESTORE` (R303). Supply returns and the metrology processor applies the outage events. -/
def execSupplyRestore (lane : LaneId) (ms : Nat) (clockOk ok0 ok1 held : Bool) (s : State) : Effect :=
  .next ((s.onLane lane Lane.present (fun _ _ l => l.powerBack ms clockOk ok0 ok1 held)).supplyMirror lane s)

/-- `SUPPLY_GOOD` (R455). The PWR input has been at 17.5 V for 100 ms with enough hold-up and the fast domain starts.
-/
def execSupplyGood (lane : LaneId) (s : State) : Effect :=
  .next (s.supplyGood lane)

/-- `BACKUP_STORE_EXHAUSTED` (R296). During loss of supply a lane's backup store runs out, the legal clock stops and
the always-on domain stops. -/
def execBackupStoreExhausted (lane : LaneId) (s : State) : Effect :=
  .next (s.onLane lane Lane.present (fun _ _ l => l.backupGone))

/-- `SLEEP_PRECHECK` (R462). At lap 160 of epoch e+1, both lanes check the sleep preconditions. -/
def execSleepPrecheck (s : State) : Effect :=
  .next (s.sleepPrecheck)

/-- `SLEEP_POINT` (R463). At lap 4 of S, the sleep response is sent, outputs are de-energised and the entry can no
longer be cancelled. -/
def execSleepPoint (s : State) : Effect :=
  .next ((s.sleepPoint.drive).lines)

/-- `SLEEP_WANT_DROP` (R463). At lap 190 of S, both lanes drop WANT. -/
def execSleepWantDrop (s : State) : Effect :=
  .next (s.sleepWantDrop)

/-- `ASLEEP_ENTRY` (R463). At the end of lap 199 of S, the last image is sealed, fast clocks stop and DRAM enters
self-refresh. -/
def execAsleepEntry (s : State) : Effect :=
  .next ((s.asleepEntry (s.lastSeal)).drive)

/-- `AUTO_SLEEP_START` (R465). After sleep_idle_s in READY with auto_sleep on, the controller starts a sleep entry by
itself. -/
def execAutoSleepStart (s : State) : Effect :=
  .next (s.autoSleep)

/-- `MODULE_RESTART_RESET` (R472). At the end of the epoch after execution, both lanes enter reset and restart as at a
cold start. -/
def execModuleRestartReset (s : State) : Effect :=
  .next (s.moduleRestart.drive)

/-- `WAKE` (R466). A wake source is recognised in ASLEEP and both lanes are started. -/
def execWake (source : Nat) (s : State) : Effect :=
  .next (s.wake source)

/-- `TIMETABLE_DUE` (R467). A timetable entry falls due, waking the controller or firing event 118. -/
def execTimetableDue (id : Nat) (s : State) : Effect :=
  .next (s.timetableDue id)

/-- `TIMETABLE_EXPIRY` (R467). A timetable entry is removed 1 h after its arrival time. -/
def execTimetableExpiry (id : Nat) (s : State) : Effect :=
  .next (s.keptBoth (fun l => l.ttExpiry id))

/-- `KEEPER_TIMEOUT` (R469). The keeper has not raised WANT 3.0 s after the wake, and the other lane raises WANT. -/
def execKeeperTimeout (s : State) : Effect :=
  .next (s.keeperTimeout)

/-- `ASLEEP_EPOCH_TICK` (R65). In ASLEEP the always-on epoch counter advances every 8,192 cycles of the metrology
clock. -/
def execAsleepEpochTick (lane : LaneId) (s : State) : Effect :=
  .next (s.kept lane (fun l => if l.power.power = pwAsleep then l.asleepTick.tamperScan else l))

/-- `HOUSEKEEPING_ROUND` (R479). Every 50 ms a lane reads its sensors, rails and fans and selects its band. -/
def execHousekeepingRound (lane : LaneId) (h : Housekeeping) (s : State) : Effect :=
  .next (s.houseRound lane h)

/-- `FAN_FAULT` (R479). A fan below 50% of commanded speed for 2 s is faulty. -/
def execFanFault (lane : LaneId) (fan : Nat) (s : State) : Effect :=
  .next (if fan < 4 then s.powered lane (fun l => l.fanFault fan) else s)

/-- `CRITICAL_RESTART` (R484). After sensors 8..13 have read below 70 °C for 300 s, the lane starts again as at a cold
start. -/
def execCriticalRestart (lane : LaneId) (s : State) : Effect :=
  .next (s.criticalRestart lane)

/-- `ASLEEP_THERMAL_CHECK` (R484). Once per second in ASLEEP, the always-on domain reads board sensors and drives the
fans. -/
def execAsleepThermalCheck (lane : LaneId) (sensors : List Int) (s : State) : Effect :=
  .next (s.kept lane (fun l => l.asleepThermal sensors))

/-- `DRAM_ERROR` (R487). A DRAM read or scrub finds an error and corrects it or reports it uncorrectable. -/
def execDramError (lane : LaneId) (corrected : Bool) (device line : Nat) (s : State) : Effect :=
  .next (s.dramOutcome lane corrected device line)

/-- `SCRUB` (R488). The scrubber reads the next DRAM line of its pass. -/
def execScrub (lane : LaneId) (s : State) : Effect :=
  .next (s.powered lane Lane.scrubNext)

end Sys2Proof.Machine
end

