-- ==== Sys2Proof/Machine/SafetyRows.lean ====
section
/-!
DEFINITION. The meanings of functional safety (R318 to R351).
-/

namespace Sys2Proof.Machine

/-- `SAFETY_CYCLE` (R321). Every 1 ms each safety channel samples its inputs and evaluates every safety function. -/
def execSafetyCycle (lane : LaneId) (ch1 ch2 : SafetyInputs) (s : State) : Effect :=
  .next (s.safetySample lane ch1 ch2)

/-- `TRIP_LATCH_RECEIVE` (R322). A trip latched by the other lane arrives over the lane link and is latched. -/
def execTripLatchReceive (lane : LaneId) (function : Nat) (s : State) : Effect :=
  .next ((s.kept lane (fun l => l.takeTrip (s.lane lane.other) s.chassis.variant.outlets function)).drive)

/-- `RESET_EDGE` (R328). A RESET rising edge held for 50 ms after 200 ms open resets every RESETTABLE function. -/
def execResetEdge (lane : LaneId) (openMs closedMs : Nat) (s : State) : Effect :=
  .next ((s.kept lane (fun l => l.resetEdge s.arbiter.grant.isSome s.chassis.variant.outlets openMs closedMs)).drive)

/-- `TEST_PULSE_START` (R336). At lap 20 of its scheduled epoch, the holder pulses an energised safety output off. -/
def execTestPulseStart (output : Nat) (s : State) : Effect :=
  .next (((s.holderOnly (fun l => l.pulseStart output (s.energised output))).drive).lines)

/-- `TEST_PULSE_END` (R337). After tp_width_us, the test pulse ends unless a demand suppresses the end. -/
def execTestPulseEnd (output : Nat) (readBack : Bool) (s : State) : Effect :=
  .next (((s.testPulseEnd output readBack).drive).lines)

/-- `SAFE_LOOP_IN` (R340). SAFE LOOP IN drops and its hardware filter gates the output drivers. -/
def execSafeLoopIn (s : State) : Effect :=
  .next (s.loopDrop)

/-- `LOOP_TEST_PULSE_TIMEOUT` (R340). No test pulse seen on SAFE LOOP IN for 1,100 ms is a loop fault. -/
def execLoopTestPulseTimeout (lane : LaneId) (s : State) : Effect :=
  .next ((s.one lane (fun l => l.loopTimeout s.chassis.variant.outlets)).drive)

/-- `SAFETY_TELEGRAM_RECEIVE` (R342). A safety telegram arrives and is checked and held for comparison. -/
def execSafetyTelegramReceive (net : Nat) (t : Telegram) (s : State) : Effect :=
  .next (s.teamed (fun l => l.takeTelegram net t))

/-- `TELEGRAM_TIMEOUT` (R343). No accepted telegram from a member for 13 ms trips function 0. -/
def execTelegramTimeout (member : Nat) (s : State) : Effect :=
  .next ((s.teamed (fun l => l.telegramTimeout s.chassis.variant.outlets member)).drive)

/-- `NET_LOST` (R344). One net has delivered no valid telegram for 13 ms while the other did, and it is marked lost.
-/
def execNetLost (net : Nat) (s : State) : Effect :=
  .next (s.teamed (fun l => l.netLost net))

/-- `NET_RESTORED` (R344). Both nets have delivered agreeing copies for 10 s and the net is restored. -/
def execNetRestored (net : Nat) (s : State) : Effect :=
  .next (s.teamed (fun l => l.netRestored net))

/-- `TEAM_DEGRADED_EXPIRY` (R334). The team degraded time reaches 300,000 ms, stopping all sessions and tripping
function 1. -/
def execTeamDegradedExpiry (s : State) : Effect :=
  .next ((s.teamed (fun l => l.teamExpiry s.chassis.variant.outlets)).drive)

/-- `TEAM_ELAPSED_RESET` (R334). After 300 s of both nets delivering, team_elapsed_ms returns to 0. -/
def execTeamElapsedReset (s : State) : Effect :=
  .next (s.teamed Lane.teamElapsedReset)

/-- `DISCHARGE_SUPERVISION_EXPIRY` (R346). The cable is not at 60 V or less 1 s after a stop, and function 20 + 8o
trips. -/
def execDischargeSupervisionExpiry (outlet : Nat) (s : State) : Effect :=
  .next (s.outletEvent outlet (fun l => l.dischargeExpiry s.chassis.variant.outlets outlet))

/-- `BACKUP_DISCHARGE_CHECK` (R347). The cable is still above 60 V 2 s after BDIS was de-energised, and event 88 fires
again. -/
def execBackupDischargeCheck (outlet : Nat) (s : State) : Effect :=
  .next (s.outletEvent outlet (fun l => l.backupCheck outlet))

/-- `DEGRADED_CURRENT_CHECK` (R333). 2 s after EXPIRED, an outlet current above 5 A trips function 21 + 8o. -/
def execDegradedCurrentCheck (outlet : Nat) (s : State) : Effect :=
  .next (s.outletEvent outlet (fun l => l.degradedCurrent s.chassis.variant.outlets outlet))

end Sys2Proof.Machine
end

