-- ==== Sys2Proof/Machine/SessionRows.lean ====
section
/-!
DEFINITION. The meanings of outlets and vehicle sessions (R230 to R253, R530 to R532).
-/

namespace Sys2Proof.Machine

/-- `PROX_BAND_CHANGE` (R233). The identification line stays in a new band for 20 ms and prox_state changes. -/
def execProxBandChange (outlet lineMv : Nat) (s : State) : Effect :=
  .next (s.proxBand outlet lineMv)

/-- `LATCH_FB_CHANGE` (R234). LATCH FB reports the latch locked or unlocked. -/
def execLatchFbChange (outlet : Nat) (state : Int) (s : State) : Effect :=
  .next (s.outletEvent outlet (fun l => l.latchChange outlet state))

/-- `CONTACTOR_FEEDBACK_CHANGE` (R531). An outlet contactor feedback changes and the session step may advance. -/
def execContactorFeedbackChange (outlet : Nat) (fb : ContactorPair) (s : State) : Effect :=
  .next (s.outletEvent outlet (fun l => l.contactorChange outlet fb.plus fb.minus))

/-- `SDP_REQUEST` (R232). A vehicle's SDP request arrives on the outlet segment. -/
def execSdpRequest (outlet : Heard Nat) (s : State) : Effect :=
  .next (s.atOutletBut outlet.body outlet.missed (fun l => l.sdp outlet.body s.holder.isSome))

/-- `TLS_CLIENT_HELLO` (R237). A vehicle's TLS ClientHello starts the handshake. -/
def execTlsClientHello (outlet : Heard Nat) (suites : List Nat) (ext : HelloExtensions) (draws : SessionDraws) (s : State) : Effect :=
  .next (s.message outlet (fun g l => l.clientHello outlet.body suites ext.groups ext.schemes draws g))

/-- `HANDSHAKE_TIMEOUT` (R237). A TLS handshake not complete 5 s after ClientHello faults with link_timeout. -/
def execHandshakeTimeout (outlet : Nat) (s : State) : Effect :=
  .next (s.outletEvent outlet (fun l => l.handshakeTimeout outlet))

/-- `SESSION_RANDOM_RECEIVE` (R238). The standby receives session randoms and secrets mirrored by the holder, whose answer may then be
sent. -/
def execSessionRandomReceive (outlet : Nat) (s : State) : Effect :=
  .next (if outlet < s.chassis.variant.outlets then
      (s.beside (fun l h => l.mirrorRandoms h outlet)).holderOnly (fun l => l.mirrorDone outlet)
    else s)

/-- `OUTLET_SEGMENT_FRAME` (R232). A TCP or TLS frame that carries no ISO 15118-20 request arrives on an outlet
segment, and both lanes update their TCP and TLS state from it, but one that missed it (R20). -/
def execOutletSegmentFrame (outlet : Nat) (fromVehicle : Heard Bool) (seq len secret : Nat) (done : Bool) (s : State) : Effect :=
  .next (s.messageBut outlet fromVehicle.missed (fun _ l => l.segmentFrame outlet fromVehicle.body seq len secret done))

/-- `SUPPORTED_APP_PROTOCOL_REQ` (R236). A SupportedAppProtocolReq arrives. -/
def execSupportedAppProtocolReq (outlet : Heard Nat) (offers : List AppProtocol) (s : State) : Effect :=
  .next (s.message outlet (fun g l => l.appProtocol outlet.body offers g))

/-- `SESSION_SETUP_REQ` (R239). A SessionSetupReq arrives and is answered in LINK. -/
def execSessionSetupReq (outlet : Heard Nat) (evccid id : Nat) (s : State) : Effect :=
  .next (s.message outlet (fun g l => l.sessionSetup outlet.body evccid id g))

/-- `AUTHORIZATION_SETUP_REQ` (R239). An AuthorizationSetupReq arrives in AUTH. -/
def execAuthorizationSetupReq (outlet : Heard Nat) (s : State) : Effect :=
  .next (s.message outlet (fun g l => l.authSetup outlet.body g))

/-- `AUTHORIZATION_REQ` (R239). An AuthorizationReq arrives and is accepted, refused or left ongoing. -/
def execAuthorizationReq (outlet : Heard Nat) (mode : Nat) (chainOk : Bool) (contract : List Nat) (s : State) : Effect :=
  .next (s.message outlet (fun g l => l.authorization outlet.body mode chainOk contract g))

/-- `SERVICE_DISCOVERY_REQ` (R239). A ServiceDiscoveryReq arrives in PARAM. -/
def execServiceDiscoveryReq (outlet : Heard Nat) (s : State) : Effect :=
  .next (s.message outlet (fun g l => l.serviceDiscovery outlet.body g))

/-- `SERVICE_DETAIL_REQ` (R239). A ServiceDetailReq arrives in PARAM. -/
def execServiceDetailReq (outlet : Heard Nat) (s : State) : Effect :=
  .next (s.message outlet (fun g l => l.serviceDetail outlet.body g))

/-- `SERVICE_SELECTION_REQ` (R239). A ServiceSelectionReq arrives in PARAM. -/
def execServiceSelectionReq (outlet : Heard Nat) (choice : ServiceChoice) (s : State) : Effect :=
  .next (s.message outlet (fun g l => l.serviceSelection outlet.body choice.service choice.mode choice.valueAdded g))

/-- `DC_CHARGE_PARAMETER_DISCOVERY_REQ` (R246). A DC_ChargeParameterDiscoveryReq arrives and the outlet limits are
sent. -/
def execDcChargeParameterDiscoveryReq (outlet : Heard Nat) (vMax iMax pMax : Nat) (s : State) : Effect :=
  .next (s.message outlet (fun g l => l.chargeParameters outlet.body vMax iMax pMax g))

/-- `SCHEDULE_EXCHANGE_REQ` (R246). A ScheduleExchangeReq arrives and the forecast schedule is sent. -/
def execScheduleExchangeReq (outlet : Heard Nat) (s : State) : Effect :=
  .next (s.message outlet (fun g l => l.scheduleExchange outlet.body g))

/-- `DC_CABLE_CHECK_REQ` (R240). A DC_CableCheckReq arrives, starting CONNECT or answered Ongoing or Finished. -/
def execDcCableCheckReq (outlet : Heard Nat) (s : State) : Effect :=
  .next (s.message outlet (fun g l => l.cableCheck outlet.body g))

/-- `DC_PRE_CHARGE_REQ` (R242). A DC_PreChargeReq arrives and sets the pre-charge target. -/
def execDcPreChargeReq (outlet : Heard Nat) (target : Nat) (s : State) : Effect :=
  .next (s.message outlet (fun g l => l.preCharge outlet.body target g))

/-- `POWER_DELIVERY_REQ` (R239). A PowerDeliveryReq with start or stop arrives. -/
def execPowerDeliveryReq (outlet : Heard Nat) (kind : Nat) (s : State) : Effect :=
  .next (s.message outlet (fun g l => l.powerDelivery outlet.body kind g))

/-- `DC_CHARGE_LOOP_REQ` (R244). A DC_ChargeLoopReq arrives with the vehicle's values for the next round. -/
def execDcChargeLoopReq (outlet : Heard Nat) (iTarget iMax pMax vTarget vMax : Nat) (s : State) : Effect :=
  .next (s.message outlet (fun g l => l.chargeLoop outlet.body iTarget iMax pMax vTarget vMax g))

/-- `DC_WELDING_DETECTION_REQ` (R239). A DC_WeldingDetectionReq arrives in EV_OPEN or DISCHARGE. -/
def execDcWeldingDetectionReq (outlet : Heard Nat) (s : State) : Effect :=
  .next (s.message outlet (fun g l => l.weldingDetection outlet.body g))

/-- `SESSION_STOP_REQ` (R532). A SessionStopReq arrives and ends the session. -/
def execSessionStopReq (outlet : Heard Nat) (s : State) : Effect :=
  .next (s.message outlet (fun g l => l.sessionStopReq outlet.body g))

/-- `STEP_LIMIT_EXPIRY` (R239). A session step's time limit runs out and the named fault is raised. -/
def execStepLimitExpiry (outlet : Nat) (s : State) : Effect :=
  .next (s.outletEvent outlet (fun l => l.stepExpiry outlet))

/-- `COOL_NOT_READY_TIMEOUT` (R240). cool_ready still 0 after 10 s in CONNECT faults the outlet. -/
def execCoolNotReadyTimeout (outlet : Nat) (s : State) : Effect :=
  .next (s.outletEvent outlet (fun l => l.coolNotReady outlet))

/-- `ISOLATION_PASS` (R241). The test voltage has been held for iso_hold_ms with the monitor OK. -/
def execIsolationPass (outlet : Nat) (s : State) : Effect :=
  .next (s.outletEvent outlet (fun l => l.isolationPass outlet))

/-- `PRECHARGE_REACHED` (R239). The outlet voltage has been within precharge_tol_mv of the EV target for 20 ms. -/
def execPrechargeReached (outlet : Nat) (s : State) : Effect :=
  .next (s.outletEvent outlet (fun l => l.prechargeReached outlet))

/-- `PRECHARGE_SHORT` (R243). The ramp count reaches 4,001 laps at full current below 20% and the outlet has a short.
-/
def execPrechargeShort (outlet : Nat) (s : State) : Effect :=
  .next (s.outletEvent outlet (fun l => l.prechargeShort outlet))

/-- `RAMPDOWN_COMPLETE` (R244). The outlet current falls to 5 A or less and PowerDeliveryRes is sent. -/
def execRampdownComplete (outlet : Nat) (s : State) : Effect :=
  .next (s.outletEvent outlet (fun l => l.rampdownComplete outlet s.holder.isSome))

/-- `DISCHARGE_COMPLETE` (R245). The DC point voltage falls to 60 V or less and DISCHARGE is left. -/
def execDischargeComplete (outlet : Nat) (s : State) : Effect :=
  .next (s.outletEvent outlet (fun l => l.dischargeComplete outlet))

/-- `PLUG_CYCLE` (R250). prox_state open for at least 1 s then inserted counts as a plug cycle. -/
def execPlugCycle (outlet : Nat) (s : State) : Effect :=
  .next ((if outlet < s.chassis.variant.outlets then s.keptBoth (fun l => l.plugKept outlet) else s).outletEvent outlet
    (fun l => l.plugCycle outlet))

/-- `SESSION_ENGINE_IDLE` (R461). No primitive has been requested of a session engine for 10 ms, and its clock is
stopped and shown in clock_gate. -/
def execSessionEngineIdle (engine : Nat) (s : State) : Effect :=
  .next (s.below 4 engine (fun l => l.setp Pw.clockGate (setBit (l.pn Pw.clockGate) engine true : Nat)))

end Sys2Proof.Machine
end

