-- ==== Sys2Proof/Machine/StageRows.lean ====
section
/-!
DEFINITION. The meanings of the stage links and the phases behind them (R117 to R151, R529).
-/

namespace Sys2Proof.Machine

/-- A change that one lane's link brings about: what it fires is raised in the other lane too (R89). -/
def State.linkRow (i : LaneId) (h : Nat) (f : Lane → Lane) (s : State) : State := (s.atHub i h f).alsoFire i s

/-- A fact that a hub reports to both lanes, each on its own link: the lane that finds it first raises it in both (R89). -/
def State.factRow (i : LaneId) (h : Nat) (f : Lane → Lane) (s : State) : State := (s.atHub i h f).alsoTell i s

/-- HUB_IDENTITY_RECORD (R529): the receiving lane keeps the record. Both lanes use that of the baton holder; where no lane holds the
baton each uses its own. -/
def State.hubIdentity (i : LaneId) (h iFs vFs fitted : Nat) (s : State) : State :=
  let s1 := s.atHub i h (fun l => l.keepRecord h iFs vFs fitted)
  if s.chassis.variant.ports ≤ h ∨ (s.lane i).linksRun = false then s1
  else match s.holder with
    | none => s1.atHub i h (fun l => l.identity h iFs vFs fitted)
    | some g => if g = i then s1.both (fun l => l.identity h iFs vFs fitted) else s1

/-- `UPLINK_HEADER_RECEIVE` (R127). A hub's uplink header arrives and is checked for ports, obeyed block and K28.5
alignment. -/
def execUplinkHeaderReceive (lane : LaneId) (hub : Nat) (u : UplinkHeader) (s : State) : Effect :=
  .next (s.factRow lane hub (fun l => l.uplinkHeader lane hub u))

/-- `STATUS_BLOCK_RECEIVE` (R127). A hub's status block arrives with trips, armed state, contactors and cfg_ack. -/
def execStatusBlockReceive (lane : LaneId) (hub : Nat) (b : StatusBlock) (s : State) : Effect :=
  .next (s.factRow lane hub (fun l => l.statusBlock hub b))

/-- `FAST_BLOCK_RECEIVE` (R137). A hub's fast measurement block arrives and is accepted or treated as missing. -/
def execFastBlockReceive (lane : LaneId) (hub : Nat) (f : FastBlock) (s : State) : Effect :=
  .next (s.atHub lane hub (fun l => l.fastBlock hub f))

/-- `THERMAL_BLOCK_RECEIVE` (R140). A hub's thermal block arrives with junction temperatures. -/
def execThermalBlockReceive (lane : LaneId) (hub : Nat) (crcOk : Bool) (block : ThermalBlock) (s : State) : Effect :=
  .next (s.atHub lane hub (fun l => l.thermalBlock hub crcOk block.codeErrors block.temps))

/-- `JUNCTION_TEMP_TIMEOUT` (R140). After 200 laps without a valid thermal block, junction temperatures read invalid.
-/
def execJunctionTempTimeout (lane : LaneId) (hub : Nat) (s : State) : Effect :=
  .next (s.atHub lane hub (fun l => l.junctionTimeout hub))

/-- `HUB_IDENTITY_RECORD` (R529). A new hub identity record arrives in the service channel and is stored and applied.
-/
def execHubIdentityRecord (lane : LaneId) (hub iFs vFs fitted : Nat) (s : State) : Effect :=
  .next (s.hubIdentity lane hub iFs vFs fitted)

/-- `HUB_BLIND` (R138). A hub's measurements are missing for a second consecutive lap and the hub is marked blind. -/
def execHubBlind (lane : LaneId) (hub : Nat) (s : State) : Effect :=
  .next (s.linkRow lane hub (fun l => l.hubBlind hub))

/-- `BLIND_CLEAR` (R138). After 64 consecutive valid laps, the blind mark of a hub clears. -/
def execBlindClear (lane : LaneId) (hub : Nat) (s : State) : Effect :=
  .next (s.atHub lane hub (fun l => l.blindClear hub))

/-- `LOSS_OF_SIGNAL` (R129). A stage link receiver reports loss of signal and the link leaves READY. -/
def execLossOfSignal (lane : LaneId) (hub : Nat) (s : State) : Effect :=
  .next (s.linkRow lane hub (fun l => l.linkStep hub lkReady lkAlign))

/-- `SIGNAL_PRESENT` (R129). Signal appears on a DARK stage link, which passes to ALIGN. -/
def execSignalPresent (lane : LaneId) (hub : Nat) (s : State) : Effect :=
  .next (s.linkRow lane hub (fun l => l.linkStep hub lkDark lkAlign))

/-- `LINK_ALIGN_COMPLETE` (R129). K28.5 found at micro-frame 0 in 4 consecutive laps moves the link to RANGE. -/
def execLinkAlignComplete (lane : LaneId) (hub : Nat) (s : State) : Effect :=
  .next (s.linkRow lane hub (fun l => l.linkStep hub lkAlign lkRange))

/-- `RANGE_COMPLETE` (R130). The one-way delay has been measured over 16 laps and the link moves to CONFIG. -/
def execRangeComplete (lane : LaneId) (hub timePs : Nat) (s : State) : Effect :=
  .next (s.linkRow lane hub (fun l => l.rangeDone hub timePs
    ((s.lane lane.other).linksRun && decide ((s.lane lane.other).p (Hub.linkState hub) = lkReady))))

/-- `CONFIG_COMPLETE` (R129). 16 consecutive valid laps with the expected port move the link to READY. -/
def execConfigComplete (lane : LaneId) (hub : Nat) (s : State) : Effect :=
  .next (s.linkRow lane hub (fun l => l.linkStep hub lkConfig lkReady))

/-- `LINK_ALIGN_LOST` (R129). K28.5 not found in 2 consecutive laps returns a READY link to ALIGN. -/
def execLinkAlignLost (lane : LaneId) (hub : Nat) (s : State) : Effect :=
  .next (s.linkRow lane hub (fun l => l.linkStep hub lkReady lkAlign))

/-- `LINK_TRAINING_TIMEOUT` (R129). ALIGN, RANGE or CONFIG exceeds its limit and the link goes to FAULT. -/
def execLinkTrainingTimeout (lane : LaneId) (hub : Nat) (s : State) : Effect :=
  .next (s.linkRow lane hub (fun l => l.trainingTimeout hub))

/-- `LINK_FAULT_RETRY` (R129). 100 ms after FAULT, the link is retried as DARK. -/
def execLinkFaultRetry (lane : LaneId) (hub : Nat) (s : State) : Effect :=
  .next (s.linkRow lane hub (fun l => l.faultRetry hub))

/-- `REARM_DELAY_EXPIRY` (R146). After rearm_delay_laps of arm 0, a phase is re-armed where its policy allows. -/
def execRearmDelayExpiry (phase : Nat) (s : State) : Effect :=
  .next (s.atPhase phase (fun l => l.rearmDelay phase))

/-- `PACK_RUN_START` (R187). Once the selectors have confirmed, a CLOSING pack initialises its phases and enters RUN.
-/
def execPackRunStart (pack : Nat) (s : State) : Effect :=
  .next (s.atPack pack (fun l => l.packRunStart pack))

/-- `PACK_MATRIX_TIMEOUT` (R187). matrix_timeout_ms expires in CLOSING and unconfirmed phases are removed, which may
fail the start. -/
def execPackMatrixTimeout (pack : Nat) (s : State) : Effect :=
  .next ((s.atPack pack (fun l => l.packMatrixTimeout pack)).drive)

/-- `PACK_STOP_COMPLETE` (R188). A STOPPING pack reaches zero current or its time limit, sends OFF for all phases and
enters IDLE. -/
def execPackStopComplete (pack : Nat) (s : State) : Effect :=
  .next ((s.atPack pack (fun l => l.packStopComplete pack)).drive)

/-- `JOIN_COMPLETE` (R182). A joining phase's weight reaches 65,536 and it becomes ACTIVE. -/
def execJoinComplete (phase : Nat) (s : State) : Effect :=
  .next (s.atPhase phase (fun l => l.joinComplete phase))

/-- `LEAVE_COMPLETE` (R182). A leaving phase's weight reaches 0 and it becomes PARKED. -/
def execLeaveComplete (phase : Nat) (s : State) : Effect :=
  .next (s.atPhase phase (fun l => l.leaveComplete phase))

/-- `PHASE_JOIN` (R190). A PARKED phase whose join conditions are met begins the re-arm edge and joins. -/
def execPhaseJoin (phase : Nat) (s : State) : Effect :=
  .next (s.atPhase phase (fun l => l.phaseJoin phase))

end Sys2Proof.Machine
end

