-- ==== Sys2Proof/Machine/TeamRows.lean ====
section
/-!
DEFINITION. The meanings of relay teams (R393 to R413).
-/

namespace Sys2Proof.Machine

/-- `MEMBERSHIP_CHANGE_APPLY` (R404). At the named team epoch, members apply the new mask and key_gen, and the anchor
answers OK or TEAM_PARTIAL. -/
def execMembershipChangeApply (level : Nat) (s : State) : Effect :=
  .next (s.teamed (fun l => if level < 8 then l.changeApply level else l))

/-- `TEAM_FRAME_RECEIVE` (R396). A team frame arrives, is forwarded, stripped or accepted, and is acted on by kind. -/
def execTeamFrameReceive (f : TeamFrame) (s : State) : Effect :=
  .next (s.teamed (fun l => l.teamFrame (Lane.frameAct s.chassis.variant) f))

/-- `BEACON_SEND` (R401). At lap 10 of every epoch, each controller sends its beacon on both nets. -/
def execBeaconSend (s : State) : Effect :=
  .next (if s.chassis.variant.team then
    s.eachLane Lane.active (fun s _ l => l.beaconSend s.a.link.state.code s.b.link.state.code s.holder.isSome) else s)

/-- `BEACON_RETURN_CHECK` (R397). At lap 60, a missing beacon return marks the net broken. -/
def execBeaconReturnCheck (s : State) : Effect :=
  .next (s.teamed Lane.beaconCheck)

/-- `MEMBER_STATE_UPDATE` (R403). At lap 20, member states move by beacon arrivals over 10 epochs. -/
def execMemberStateUpdate (s : State) : Effect :=
  .next (s.teamed Lane.memberStates)

/-- `BYPASS_SWITCH` (R398). A team bypass switch closes or opens on loss or return of a lane's baton and link. -/
def execBypassSwitch (net : Nat) (cue : BypassCue) (s : State) : Effect :=
  .next (s.bypass net cue)

/-- `TEAM_ARM_APPLY` (R410). At the team epoch of a team arm, every member arms its record. -/
def execTeamArmApply (level : Nat) (s : State) : Effect :=
  .next (if s.chassis.variant.team then
    s.eachLane Lane.active (fun s i l => l.teamArmApply (s.line i) (l.readImage s.chassis.variant) level) else s)

end Sys2Proof.Machine
end

