-- ==== Sys2Proof/Machine/TuneRows.lean ====
section
/-!
DEFINITION. The meanings of tuning, tracing and acquisition (R438 to R454).
-/

namespace Sys2Proof.Machine

/-- `TUNE_MEASUREMENT_START` (R438). At lap 0 of the next epoch, both lanes begin injecting the sequence. -/
def execTuneMeasurementStart (s : State) : Effect :=
  .next (s.both Lane.tuneStart)

/-- `TUNE_COMPLETE` (R443). After the last evaluation, the results of all points are ready at lap 4 of the next epoch
and event 112 fires. -/
def execTuneComplete (s : State) : Effect :=
  .next (s.both Lane.tuneComplete)

/-- `TUNE_GUARD_ABORT` (R442). The guard pack's deviation exceeds guard_a in 4 consecutive laps, and the measurement
aborts. -/
def execTuneGuardAbort (s : State) : Effect :=
  .next (s.both Lane.tuneGuardAbort)

/-- `TRACE_TRIGGER` (R445). A trigger is accepted on armed probes and fixes trace_trig_lap, or is ignored if too
early. -/
def execTraceTrigger (source : Nat) (s : State) : Effect :=
  .next (s.both (fun l => l.traceTrigger source))

/-- `TRACE_COMPLETE` (R445). Recording stops after the post-trigger count of laps. -/
def execTraceComplete (s : State) : Effect :=
  .next (s.both Lane.traceComplete)

/-- `ACQ_PRE_ELAPSED` (R449). pre_ms after arming, a FILLING record becomes READY. -/
def execAcqPreElapsed (s : State) : Effect :=
  .next (s.both Lane.acqPre)

/-- `ACQ_TRIGGER_CONDITION` (R450). A trigger condition, host trigger or team trigger starts recording in a READY
record. -/
def execAcqTriggerCondition (s : State) : Effect :=
  .next (s.both Lane.acqCondition)

/-- `ACQ_POST_ELAPSED` (R449). post_ms after the trigger, the record becomes COMPLETE. -/
def execAcqPostElapsed (s : State) : Effect :=
  .next (s.both Lane.acqPost)

/-- `ACQ_MEMORY_FULL` (R449). Record memory fills during RECORDING, and the record becomes FULL. -/
def execAcqMemoryFull (s : State) : Effect :=
  .next (s.both Lane.acqFull)

/-- `ACQ_KEEPALIVE` (R447). A channel that has stored nothing for acq_keepalive_ms stores its present value. -/
def execAcqKeepalive (channel : Nat) (s : State) : Effect :=
  .next (s.below 256 channel (fun l => l.acqKeepalive channel))

/-- `TRIG_IN_EDGE` (R450). An edge of at least 100 ns arrives on TRIG IN 1 or 2. -/
def execTrigInEdge (input : Nat) (rising : Bool) (s : State) : Effect :=
  .next (s.trigEdge input rising)

/-- `TRIG_OUT_PULSE_END` (R450). The 10 µs TRIG OUT pulse ends. -/
def execTrigOutPulseEnd (output : Nat) (s : State) : Effect :=
  .next ((s.both (fun l => l.trigOutEnd output)).lines)

end Sys2Proof.Machine
end

