-- ==== Sys2Proof/Machine/Dispatch.lean ====
section
/-!
DEFINITION. The dispatch: one arm for each row of the command table, each a direct call of its meaning.
-/

namespace Sys2Proof.Machine

open Sys2Proof

/-- The effect of a command on everything but the queue. -/
def exec (i : Instr) (s : State) : Host.Outcome State Fault Refusal :=
  match i with
  | .nop r => Sys2Proof.Machine.execNop r s
  | .caps r => Sys2Proof.Machine.execCaps r s
  | .ringSet r => Sys2Proof.Machine.execRingSet r s
  | .ringResync r => Sys2Proof.Machine.execRingResync r s
  | .ringStatus r => Sys2Proof.Machine.execRingStatus r s
  | .snapshot r => Sys2Proof.Machine.execSnapshot r s
  | .snapshotMemberTimeout seq => Sys2Proof.Machine.execSnapshotMemberTimeout seq s
  | .readStaged r => Sys2Proof.Machine.execReadStaged r s
  | .history r => Sys2Proof.Machine.execHistory r s
  | .stage r => Sys2Proof.Machine.execStage r s
  | .commit r => Sys2Proof.Machine.execCommit r s
  | .discard r => Sys2Proof.Machine.execDiscard r s
  | .commitList r => Sys2Proof.Machine.execCommitList r s
  | .subscribe r => Sys2Proof.Machine.execSubscribe r s
  | .unsubscribe r => Sys2Proof.Machine.execUnsubscribe r s
  | .eventMap r => Sys2Proof.Machine.execEventMap r s
  | .eventMapRead r => Sys2Proof.Machine.execEventMapRead r s
  | .resetFunction r => Sys2Proof.Machine.execResetFunction r s
  | .functionResetComplete code unit => Sys2Proof.Machine.execFunctionResetComplete code unit s
  | .todSetWrite value => Sys2Proof.Machine.execTodSetWrite value s
  | .rearmWrite phase => Sys2Proof.Machine.execRearmWrite phase s
  | .testGateWrite phase value => Sys2Proof.Machine.execTestGateWrite phase value s
  | .histResetWrite slot => Sys2Proof.Machine.execHistResetWrite slot s
  | .hostPowerKwWrite node value => Sys2Proof.Machine.execHostPowerKwWrite node value s
  | .sessionAuthorize r => Sys2Proof.Machine.execSessionAuthorize r s
  | .sessionStop r => Sys2Proof.Machine.execSessionStop r s
  | .outletBlock r => Sys2Proof.Machine.execOutletBlock r s
  | .outletClear r => Sys2Proof.Machine.execOutletClear r s
  | .sessionInfo r => Sys2Proof.Machine.execSessionInfo r s
  | .sessionRestart r => Sys2Proof.Machine.execSessionRestart r s
  | .keyMsgLoad r => Sys2Proof.Machine.execKeyMsgLoad r s
  | .keyMsgApply r => Sys2Proof.Machine.execKeyMsgApply r s
  | .keyInfo r => Sys2Proof.Machine.execKeyInfo r s
  | .keyList r => Sys2Proof.Machine.execKeyList r s
  | .keyCounterRead r => Sys2Proof.Machine.execKeyCounterRead r s
  | .keyDeliveryRequest lane engine slot op => Sys2Proof.Machine.execKeyDeliveryRequest lane engine slot op s
  | .cartridgePairing verified secret => Sys2Proof.Machine.execCartridgePairing verified secret s
  | .laneStatus r => Sys2Proof.Machine.execLaneStatus r s
  | .batonHandover r => Sys2Proof.Machine.execBatonHandover r s
  | .fwLoad r => Sys2Proof.Machine.execFwLoad r s
  | .fwVerify r => Sys2Proof.Machine.execFwVerify r s
  | .fwActivate r => Sys2Proof.Machine.execFwActivate r s
  | .lanePark r => Sys2Proof.Machine.execLanePark r s
  | .laneUnpark r => Sys2Proof.Machine.execLaneUnpark r s
  | .laneEligible r => Sys2Proof.Machine.execLaneEligible r s
  | .teamStatus r => Sys2Proof.Machine.execTeamStatus r s
  | .teamMembers r => Sys2Proof.Machine.execTeamMembers r s
  | .membershipChangeApply level => Sys2Proof.Machine.execMembershipChangeApply level s
  | .teamTrigger r => Sys2Proof.Machine.execTeamTrigger r s
  | .tuneStart r => Sys2Proof.Machine.execTuneStart r s
  | .tuneStop r => Sys2Proof.Machine.execTuneStop r s
  | .tuneResult r => Sys2Proof.Machine.execTuneResult r s
  | .traceArm r => Sys2Proof.Machine.execTraceArm r s
  | .traceTrigger source => Sys2Proof.Machine.execTraceTrigger source s
  | .traceRead r => Sys2Proof.Machine.execTraceRead r s
  | .acqArm r => Sys2Proof.Machine.execAcqArm r s
  | .acqKeepalive channel => Sys2Proof.Machine.execAcqKeepalive channel s
  | .acqDisarm r => Sys2Proof.Machine.execAcqDisarm r s
  | .acqTrigger r => Sys2Proof.Machine.execAcqTrigger r s
  | .acqList r => Sys2Proof.Machine.execAcqList r s
  | .acqRead r => Sys2Proof.Machine.execAcqRead r s
  | .acqDelete r => Sys2Proof.Machine.execAcqDelete r s
  | .trigInEdge input rising => Sys2Proof.Machine.execTrigInEdge input rising s
  | .trigOutPulseEnd output => Sys2Proof.Machine.execTrigOutPulseEnd output s
  | .periodRead r => Sys2Proof.Machine.execPeriodRead r s
  | .profileRead r => Sys2Proof.Machine.execProfileRead r s
  | .logRead r => Sys2Proof.Machine.execLogRead r s
  | .recordRead r => Sys2Proof.Machine.execRecordRead r s
  | .clockRead r => Sys2Proof.Machine.execClockRead r s
  | .clockSet r => Sys2Proof.Machine.execClockSet r s
  | .tamperAck r => Sys2Proof.Machine.execTamperAck r s
  | .pubkeyRead r => Sys2Proof.Machine.execPubkeyRead r s
  | .sleepEnter r => Sys2Proof.Machine.execSleepEnter r s
  | .ttWrite r => Sys2Proof.Machine.execTtWrite r s
  | .ttRead r => Sys2Proof.Machine.execTtRead r s
  | .ttClear r => Sys2Proof.Machine.execTtClear r s
  | .powerStatus r => Sys2Proof.Machine.execPowerStatus r s
  | .moduleRestart r => Sys2Proof.Machine.execModuleRestart r s
  | .canTxWrite r => Sys2Proof.Machine.execCanTxWrite r s
  | .canRxRead r => Sys2Proof.Machine.execCanRxRead r s
  | .canSleep r => Sys2Proof.Machine.execCanSleep r s
  | .canWake r => Sys2Proof.Machine.execCanWake r s
  | .canRecover r => Sys2Proof.Machine.execCanRecover r s
  | .mastWrite r => Sys2Proof.Machine.execMastWrite r s
  | .mastRead r => Sys2Proof.Machine.execMastRead r s
  | .mastMapRead r => Sys2Proof.Machine.execMastMapRead r s
  | .datagramReceive lane d => Sys2Proof.Machine.execDatagramReceive lane d s
  | .forwardedRequest lane => Sys2Proof.Machine.execForwardedRequest lane s
  | .resendTimer ring => Sys2Proof.Machine.execResendTimer ring s
  | .notificationRoom ring sub => Sys2Proof.Machine.execNotificationRoom ring sub s
  | .lapStart inA inB => Sys2Proof.Machine.execLapStart inA inB s
  | .refinQualified lane => Sys2Proof.Machine.execRefinQualified lane s
  | .refinLost lane => Sys2Proof.Machine.execRefinLost lane s
  | .synciQualified lane => Sys2Proof.Machine.execSynciQualified lane s
  | .synciLost lane => Sys2Proof.Machine.execSynciLost lane s
  | .epochMarkerMisaligned lane => Sys2Proof.Machine.execEpochMarkerMisaligned lane s
  | .bandSearchLock lane band => Sys2Proof.Machine.execBandSearchLock lane band s
  | .lapsStart lane => Sys2Proof.Machine.execLapsStart lane s
  | .acquireComplete lane freq phase => Sys2Proof.Machine.execAcquireComplete lane freq phase s
  | .holdoverExpiry lane => Sys2Proof.Machine.execHoldoverExpiry lane s
  | .returnComplete lane => Sys2Proof.Machine.execReturnComplete lane s
  | .ptpMessage port m => Sys2Proof.Machine.execPtpMessage port m s
  | .uplinkHeaderReceive lane hub u => Sys2Proof.Machine.execUplinkHeaderReceive lane hub u s
  | .statusBlockReceive lane hub b => Sys2Proof.Machine.execStatusBlockReceive lane hub b s
  | .fastBlockReceive lane hub f => Sys2Proof.Machine.execFastBlockReceive lane hub f s
  | .thermalBlockReceive lane hub crcOk block => Sys2Proof.Machine.execThermalBlockReceive lane hub crcOk block s
  | .junctionTempTimeout lane hub => Sys2Proof.Machine.execJunctionTempTimeout lane hub s
  | .hubIdentityRecord lane hub iFs vFs fitted => Sys2Proof.Machine.execHubIdentityRecord lane hub iFs vFs fitted s
  | .hubBlind lane hub => Sys2Proof.Machine.execHubBlind lane hub s
  | .blindClear lane hub => Sys2Proof.Machine.execBlindClear lane hub s
  | .lossOfSignal lane hub => Sys2Proof.Machine.execLossOfSignal lane hub s
  | .signalPresent lane hub => Sys2Proof.Machine.execSignalPresent lane hub s
  | .linkAlignComplete lane hub => Sys2Proof.Machine.execLinkAlignComplete lane hub s
  | .rangeComplete lane hub delayPs => Sys2Proof.Machine.execRangeComplete lane hub delayPs s
  | .configComplete lane hub => Sys2Proof.Machine.execConfigComplete lane hub s
  | .linkAlignLost lane hub => Sys2Proof.Machine.execLinkAlignLost lane hub s
  | .linkTrainingTimeout lane hub => Sys2Proof.Machine.execLinkTrainingTimeout lane hub s
  | .linkFaultRetry lane hub => Sys2Proof.Machine.execLinkFaultRetry lane hub s
  | .rearmDelayExpiry phase => Sys2Proof.Machine.execRearmDelayExpiry phase s
  | .packRunStart pack => Sys2Proof.Machine.execPackRunStart pack s
  | .packMatrixTimeout pack => Sys2Proof.Machine.execPackMatrixTimeout pack s
  | .packStopComplete pack => Sys2Proof.Machine.execPackStopComplete pack s
  | .joinComplete phase => Sys2Proof.Machine.execJoinComplete phase s
  | .leaveComplete phase => Sys2Proof.Machine.execLeaveComplete phase s
  | .phaseJoin phase => Sys2Proof.Machine.execPhaseJoin phase s
  | .allocationOverrun lane => Sys2Proof.Machine.execAllocationOverrun lane s
  | .teamReportReceive member want drawn => Sys2Proof.Machine.execTeamReportReceive member want drawn s
  | .teamAllocationReceive watts => Sys2Proof.Machine.execTeamAllocationReceive watts s
  | .canFrameReceive bus f => Sys2Proof.Machine.execCanFrameReceive bus f s
  | .canColumnOpen bus cycle c => Sys2Proof.Machine.execCanColumnOpen bus cycle c s
  | .canColumnClose bus => Sys2Proof.Machine.execCanColumnClose bus s
  | .canErrorStateChange lane bus state tec recN => Sys2Proof.Machine.execCanErrorStateChange lane bus state tec recN s
  | .canBusoffRecovery lane bus => Sys2Proof.Machine.execCanBusoffRecovery lane bus s
  | .canWakePattern bus frame => Sys2Proof.Machine.execCanWakePattern bus frame s
  | .mastRequestSend port => Sys2Proof.Machine.execMastRequestSend port s
  | .mastResponseReceive port a => Sys2Proof.Machine.execMastResponseReceive port a s
  | .mastResponseTimeout port => Sys2Proof.Machine.execMastResponseTimeout port s
  | .mastAlert port a => Sys2Proof.Machine.execMastAlert port a s
  | .sensorTimeout outlet sensor => Sys2Proof.Machine.execSensorTimeout outlet sensor s
  | .forecastOverrun outlet => Sys2Proof.Machine.execForecastOverrun outlet s
  | .coolReady outlet => Sys2Proof.Machine.execCoolReady outlet s
  | .degradedRecover outlet => Sys2Proof.Machine.execDegradedRecover outlet s
  | .degradedExpiry outlet => Sys2Proof.Machine.execDegradedExpiry outlet s
  | .degradedElapsedReset outlet => Sys2Proof.Machine.execDegradedElapsedReset outlet s
  | .cooldownExpiry outlet => Sys2Proof.Machine.execCooldownExpiry outlet s
  | .proxBandChange outlet lineMv => Sys2Proof.Machine.execProxBandChange outlet lineMv s
  | .latchFbChange outlet state => Sys2Proof.Machine.execLatchFbChange outlet state s
  | .contactorFeedbackChange outlet fb => Sys2Proof.Machine.execContactorFeedbackChange outlet fb s
  | .signedRecordReceive number => Sys2Proof.Machine.execSignedRecordReceive number s
  | .sdpRequest outlet => Sys2Proof.Machine.execSdpRequest outlet s
  | .tlsClientHello outlet suites ext draws => Sys2Proof.Machine.execTlsClientHello outlet suites ext draws s
  | .handshakeTimeout outlet => Sys2Proof.Machine.execHandshakeTimeout outlet s
  | .sessionRandomReceive outlet => Sys2Proof.Machine.execSessionRandomReceive outlet s
  | .supportedAppProtocolReq outlet offers => Sys2Proof.Machine.execSupportedAppProtocolReq outlet offers s
  | .sessionSetupReq outlet evccid id => Sys2Proof.Machine.execSessionSetupReq outlet evccid id s
  | .authorizationSetupReq outlet => Sys2Proof.Machine.execAuthorizationSetupReq outlet s
  | .authorizationReq outlet mode chainOk contract => Sys2Proof.Machine.execAuthorizationReq outlet mode chainOk contract s
  | .serviceDiscoveryReq outlet => Sys2Proof.Machine.execServiceDiscoveryReq outlet s
  | .serviceDetailReq outlet => Sys2Proof.Machine.execServiceDetailReq outlet s
  | .serviceSelectionReq outlet choice => Sys2Proof.Machine.execServiceSelectionReq outlet choice s
  | .dcChargeParameterDiscoveryReq outlet vMax iMax pMax => Sys2Proof.Machine.execDcChargeParameterDiscoveryReq outlet vMax iMax pMax s
  | .scheduleExchangeReq outlet => Sys2Proof.Machine.execScheduleExchangeReq outlet s
  | .dcCableCheckReq outlet => Sys2Proof.Machine.execDcCableCheckReq outlet s
  | .dcPreChargeReq outlet target => Sys2Proof.Machine.execDcPreChargeReq outlet target s
  | .powerDeliveryReq outlet kind => Sys2Proof.Machine.execPowerDeliveryReq outlet kind s
  | .dcChargeLoopReq outlet iTarget iMax pMax vTarget vMax => Sys2Proof.Machine.execDcChargeLoopReq outlet iTarget iMax pMax vTarget vMax s
  | .dcWeldingDetectionReq outlet => Sys2Proof.Machine.execDcWeldingDetectionReq outlet s
  | .sessionStopReq outlet => Sys2Proof.Machine.execSessionStopReq outlet s
  | .stepLimitExpiry outlet => Sys2Proof.Machine.execStepLimitExpiry outlet s
  | .coolNotReadyTimeout outlet => Sys2Proof.Machine.execCoolNotReadyTimeout outlet s
  | .isolationPass outlet => Sys2Proof.Machine.execIsolationPass outlet s
  | .prechargeReached outlet => Sys2Proof.Machine.execPrechargeReached outlet s
  | .prechargeShort outlet => Sys2Proof.Machine.execPrechargeShort outlet s
  | .rampdownComplete outlet => Sys2Proof.Machine.execRampdownComplete outlet s
  | .dischargeComplete outlet => Sys2Proof.Machine.execDischargeComplete outlet s
  | .plugCycle outlet => Sys2Proof.Machine.execPlugCycle outlet s
  | .meteringSample lane ms => Sys2Proof.Machine.execMeteringSample lane ms s
  | .cycleEnd lane point instant256 => Sys2Proof.Machine.execCycleEnd lane point instant256 s
  | .fixedBlockEnd lane point => Sys2Proof.Machine.execFixedBlockEnd lane point s
  | .ntcRead lane point milliOhm => Sys2Proof.Machine.execNtcRead lane point milliOhm s
  | .referenceCheck lane ppm => Sys2Proof.Machine.execReferenceCheck lane ppm s
  | .mpCrcCheck lane crc same => Sys2Proof.Machine.execMpCrcCheck lane crc same s
  | .s0Pulse lane input onMs => Sys2Proof.Machine.execS0Pulse lane input onMs s
  | .s0Stuck lane input onMs => Sys2Proof.Machine.execS0Stuck lane input onMs s
  | .s0LaneDisagree input => Sys2Proof.Machine.execS0LaneDisagree input s
  | .pulseOutputTick output => Sys2Proof.Machine.execPulseOutputTick output s
  | .pulseEnd output => Sys2Proof.Machine.execPulseEnd output s
  | .supplyLoss lane => Sys2Proof.Machine.execSupplyLoss lane s
  | .supplyRestore lane ms clockOk ok0 ok1 held => Sys2Proof.Machine.execSupplyRestore lane ms clockOk ok0 ok1 held s
  | .supplyGood lane => Sys2Proof.Machine.execSupplyGood lane s
  | .sealChange opened => Sys2Proof.Machine.execSealChange opened s
  | .tamperRecord cause point times values => Sys2Proof.Machine.execTamperRecord cause point times values s
  | .safetyCycle lane ch1 ch2 => Sys2Proof.Machine.execSafetyCycle lane ch1 ch2 s
  | .tripLatchReceive lane function => Sys2Proof.Machine.execTripLatchReceive lane function s
  | .resetEdge lane openMs closedMs => Sys2Proof.Machine.execResetEdge lane openMs closedMs s
  | .testPulseStart output => Sys2Proof.Machine.execTestPulseStart output s
  | .testPulseEnd output readBack => Sys2Proof.Machine.execTestPulseEnd output readBack s
  | .loopTestPulseTimeout lane => Sys2Proof.Machine.execLoopTestPulseTimeout lane s
  | .safetyTelegramReceive net t => Sys2Proof.Machine.execSafetyTelegramReceive net t s
  | .telegramTimeout member => Sys2Proof.Machine.execTelegramTimeout member s
  | .netLost net => Sys2Proof.Machine.execNetLost net s
  | .netRestored net => Sys2Proof.Machine.execNetRestored net s
  | .dischargeSupervisionExpiry outlet => Sys2Proof.Machine.execDischargeSupervisionExpiry outlet s
  | .backupDischargeCheck outlet => Sys2Proof.Machine.execBackupDischargeCheck outlet s
  | .degradedCurrentCheck outlet => Sys2Proof.Machine.execDegradedCurrentCheck outlet s
  | .giveUp lane => Sys2Proof.Machine.execGiveUp lane s
  | .watchdogMiss lane => Sys2Proof.Machine.execWatchdogMiss lane s
  | .hostPortsDown lane => Sys2Proof.Machine.execHostPortsDown lane s
  | .laneInserted lane fresh small serial => Sys2Proof.Machine.execLaneInserted lane fresh small serial s
  | .laneRemoved lane => Sys2Proof.Machine.execLaneRemoved lane s
  | .ejectOpen lane => Sys2Proof.Machine.execEjectOpen lane s
  | .bootComplete lane => Sys2Proof.Machine.execBootComplete lane s
  | .resyncAlignComplete lane => Sys2Proof.Machine.execResyncAlignComplete lane s
  | .copyComplete lane => Sys2Proof.Machine.execCopyComplete lane s
  | .catchupComplete lane => Sys2Proof.Machine.execCatchupComplete lane s
  | .shadowComplete lane => Sys2Proof.Machine.execShadowComplete lane s
  | .resyncPhaseTimeout lane => Sys2Proof.Machine.execResyncPhaseTimeout lane s
  | .teamFrameReceive f => Sys2Proof.Machine.execTeamFrameReceive f s
  | .bypassSwitch net cue => Sys2Proof.Machine.execBypassSwitch net cue s
  | .teamArmApply level => Sys2Proof.Machine.execTeamArmApply level s
  | .wake source => Sys2Proof.Machine.execWake source s
  | .timetableDue id => Sys2Proof.Machine.execTimetableDue id s
  | .timetableExpiry id => Sys2Proof.Machine.execTimetableExpiry id s
  | .housekeepingRound lane h => Sys2Proof.Machine.execHousekeepingRound lane h s
  | .fanFault lane fan => Sys2Proof.Machine.execFanFault lane fan s
  | .criticalRestart lane => Sys2Proof.Machine.execCriticalRestart lane s
  | .asleepThermalCheck lane sensors => Sys2Proof.Machine.execAsleepThermalCheck lane sensors s
  | .dramError lane corrected device line => Sys2Proof.Machine.execDramError lane corrected device line s
  | .scrub lane => Sys2Proof.Machine.execScrub lane s
  | .memberAnswerTimeout seq => Sys2Proof.Machine.execMemberAnswerTimeout seq s
  | .backupStoreExhausted lane => Sys2Proof.Machine.execBackupStoreExhausted lane s
  | .asleepEpochTick lane => Sys2Proof.Machine.execAsleepEpochTick lane s
  | .s0OffTransition lane input => Sys2Proof.Machine.execS0OffTransition lane input s
  | .mainsZeroCrossing port periodUs noise => Sys2Proof.Machine.execMainsZeroCrossing port periodUs noise s
  | .canTxComplete sent => Sys2Proof.Machine.execCanTxComplete sent s
  | .outletSegmentFrame outlet fromVehicle seq len secret done => Sys2Proof.Machine.execOutletSegmentFrame outlet fromVehicle seq len secret done s
  | .ptpSendInterval kind => Sys2Proof.Machine.execPtpSendInterval kind s
  | .sessionEngineIdle engine => Sys2Proof.Machine.execSessionEngineIdle engine s
  | .snapshotImageReady => Sys2Proof.Machine.execSnapshotImageReady s
  | .keyDigestExchange => Sys2Proof.Machine.execKeyDigestExchange s
  | .keyCommitPoint => Sys2Proof.Machine.execKeyCommitPoint s
  | .tuneMeasurementStart => Sys2Proof.Machine.execTuneMeasurementStart s
  | .tuneComplete => Sys2Proof.Machine.execTuneComplete s
  | .tuneGuardAbort => Sys2Proof.Machine.execTuneGuardAbort s
  | .traceComplete => Sys2Proof.Machine.execTraceComplete s
  | .acqPreElapsed => Sys2Proof.Machine.execAcqPreElapsed s
  | .acqTriggerCondition => Sys2Proof.Machine.execAcqTriggerCondition s
  | .acqPostElapsed => Sys2Proof.Machine.execAcqPostElapsed s
  | .acqMemoryFull => Sys2Proof.Machine.execAcqMemoryFull s
  | .sleepPrecheck => Sys2Proof.Machine.execSleepPrecheck s
  | .sleepPoint => Sys2Proof.Machine.execSleepPoint s
  | .sleepWantDrop => Sys2Proof.Machine.execSleepWantDrop s
  | .asleepEntry => Sys2Proof.Machine.execAsleepEntry s
  | .autoSleepStart => Sys2Proof.Machine.execAutoSleepStart s
  | .moduleRestartReset => Sys2Proof.Machine.execModuleRestartReset s
  | .requestTake => Sys2Proof.Machine.execRequestTake s
  | .takeNotice => Sys2Proof.Machine.execTakeNotice s
  | .takeNoticeTimeout => Sys2Proof.Machine.execTakeNoticeTimeout s
  | .epochBoundary => Sys2Proof.Machine.execEpochBoundary s
  | .imageSeal => Sys2Proof.Machine.execImageSeal s
  | .commitValidation => Sys2Proof.Machine.execCommitValidation s
  | .commitDigestExchange => Sys2Proof.Machine.execCommitDigestExchange s
  | .laneLinkCrcReceive => Sys2Proof.Machine.execLaneLinkCrcReceive s
  | .laneLinkTimeout => Sys2Proof.Machine.execLaneLinkTimeout s
  | .controlSetReceive => Sys2Proof.Machine.execControlSetReceive s
  | .holderSampleReceive => Sys2Proof.Machine.execHolderSampleReceive s
  | .allocationRound => Sys2Proof.Machine.execAllocationRound s
  | .allocDigestExchange => Sys2Proof.Machine.execAllocDigestExchange s
  | .targetLoad => Sys2Proof.Machine.execTargetLoad s
  | .teamExchangeDeadline => Sys2Proof.Machine.execTeamExchangeDeadline s
  | .modelStep => Sys2Proof.Machine.execModelStep s
  | .forecast => Sys2Proof.Machine.execForecast s
  | .meterLaneCompare => Sys2Proof.Machine.execMeterLaneCompare s
  | .intervalClose => Sys2Proof.Machine.execIntervalClose s
  | .billingClose => Sys2Proof.Machine.execBillingClose s
  | .tariffEvaluation => Sys2Proof.Machine.execTariffEvaluation s
  | .intervalAdoption => Sys2Proof.Machine.execIntervalAdoption s
  | .displayScroll => Sys2Proof.Machine.execDisplayScroll s
  | .safeLoopIn => Sys2Proof.Machine.execSafeLoopIn s
  | .teamDegradedExpiry => Sys2Proof.Machine.execTeamDegradedExpiry s
  | .teamElapsedReset => Sys2Proof.Machine.execTeamElapsedReset s
  | .grantEvaluation => Sys2Proof.Machine.execGrantEvaluation s
  | .beaconSend => Sys2Proof.Machine.execBeaconSend s
  | .beaconReturnCheck => Sys2Proof.Machine.execBeaconReturnCheck s
  | .memberStateUpdate => Sys2Proof.Machine.execMemberStateUpdate s
  | .keeperTimeout => Sys2Proof.Machine.execKeeperTimeout s

end Sys2Proof.Machine
end

