-- ==== Sys2Proof/Safety.lean ====
section
/-!
DEFINITION. The terms in which claims are stated: that a command completes with an effect, and how much of the machine an
effect reaches.
-/

namespace Sys2Proof

open Machine

/-- The command completes: it answers a next state, and `P` holds of that state. -/
def Does (c : Instr) (s : State) (P : State → Prop) : Prop := ∃ t, exec c s = .next t ∧ P t

/-- The command completes without any effect. -/
def Idle (c : Instr) (s : State) : Prop := exec c s = .next s

/-- Nothing but lane `i` differs: not the other lane, the arbiter, the chassis, the queue nor the choice of free values. -/
abbrev OnlyLane (i : LaneId) (s t : State) : Prop := t = s.setLane i (t.lane i)

/-- Nothing but the two lanes differs. -/
abbrev OnlyLanes (s t : State) : Prop := t = { s with a := t.a, b := t.b }

/-- Nothing of the lane differs but its points, its hub records and its rings, where events are. -/
def OnlyHub (l m : Lane) : Prop := { m with pts := l.pts, hubs := l.hubs, host := l.host } = l

/-- The hub is one of the variant, and the lane's stage links run (R117). -/
abbrev HubServed (i : LaneId) (h : Nat) (s : State) : Prop :=
  h < s.chassis.variant.ports ∧ (s.lane i).linksRun = true

/-- The link state of a hub as a lane shows it (R129). -/
abbrev linkOf (s : State) (i : LaneId) (h : Nat) : Int := (s.lane i).p (Hub.linkState h)

/-- The outlet is one of the variant, the lane computes, and its session is in step `st` with its connection
open and no request to be failed (R239). -/
abbrev InStep (s : State) (i : LaneId) (o : Nat) (st : Int) : Prop :=
  o < s.chassis.variant.outlets ∧ (s.lane i).active = true ∧ (s.lane i).ss o = st ∧ ((s.lane i).out o).failNext = false
    ∧ ((s.lane i).out o).tls.closed = false

/-- The response that the lane's session engine has put on the segment of outlet `o` last (R236 to R246). -/
def responseOf (s : State) (i : LaneId) (o : Nat) : SegRes := ((s.lane i).out o).res

/-- Outlet `o`'s response engine in lane `i` holds this response, tagged with the session's generation (R60, R232). -/
def Responds (s : State) (i : LaneId) (o msg code : Nat) (data : List Int) : Prop :=
  responseOf s i o = ⟨msg, code, data, (s.lane i).pn (Out.sessionGen o)⟩

/-- Safety function `n` is tripped: both channels have latched it, and its state shows it (R326). -/
abbrev Tripped (l : Lane) (n : Nat) : Prop :=
  l.p (fnAddr n) = fnTripped ∧ n ∈ l.safe.trip1 ∧ n ∈ l.safe.trip2

/-- The request is one that this controller executes (R75, R79, R83): `i` is the lane whose answer counts, the path leads to this
controller, the bytes that the body's format gives as 0 are 0 (log 117), and the ring holds the right that the command needs. -/
abbrev Admitted (s : State) (i : LaneId) (code : Nat) (r : Request) : Prop :=
  s.refLane = some i ∧ (s.lane i).walk r = some none ∧ zerosOk code r = true
    ∧ ∀ b ∈ rightOf code r, bitAt ((s.lane i).ring r.ring).rights b = true

/-- The lane has queued this reply as the newest of the request's ring (R77, R82). -/
def Answered (l : Lane) (r : Request) (rep : Reply) : Prop :=
  (l.ring r.ring).history.head? = some ⟨r.seq, r.command, r.hostTag, rep.entries r⟩

/-- The request is answered `OK`, and nothing but its answer in the rings of the lanes changes. -/
def Reads (c : Instr) (r : Request) (s : State) : Prop :=
  ∃ rep, rep.status = st_OK ∧ exec c s = .next (s.answerBoth r rep)

/-- The allocation round of team epoch `round` at level `k` is open to its exchanges: from lap 150 of its epoch to lap 4 of the next (R409). -/
abbrev RoundOpen (l : Lane) (k : Nat) (round : Int) : Prop :=
  l.teamEpoch k = round ∧ 150 ≤ l.lapIn ∨ l.teamEpoch k = round + 1 ∧ l.lapIn ≤ 4

/-- What `f` shows of each lane is as before. -/
def Keeps {α : Type} (f : Lane → α) (s t : State) : Prop := ∀ i, f (t.lane i) = f (s.lane i)

/-- Lane `m` with the points, the status codes and the rings, where events are, of lane `l`. -/
def besideEvents (l m : Lane) : Lane := { m with pts := l.pts, stat := l.stat, host := l.host }

/-- Every point of the lane that `P` does not name reads as before. -/
def KeepsPoints (P : Nat → Prop) (l m : Lane) : Prop := ∀ a, ¬ P a → m.p a = l.p a

end Sys2Proof
end

