-- ==== Sys2Proof/Certificates/Slice0/Obligations.lean ====
section
/-!
DEFINITION. The statements about the model, for the provers: what the rows of every family do and where they complete, what they leave,
and what no row does. The rule of the spec that each rests on stands in its docstring.
-/

open Sys2Proof Sys2Proof.Machine

/-- R129, R130. Each row of the training of a stage link takes the link from the state that the rule names to the one it names, in the lane
named, and stamps the lap of entry; the delay is half of the time measured, or all of it where the other lane's link to the hub is
`READY`. A link leaves `READY` for `ALIGN` on loss of signal or of alignment, which counts in `retrains`; a
training step past its limit ends in `FAULT` with cause 3; and 100 ms after a fault the link is retried as `DARK` without a cause. -/
def Obligations.LinkTraining : Prop :=
  (∀ (s : State) (i : LaneId) (h : Nat), HubServed i h s →
    (linkOf s i h = lkDark →
      Does (.signalPresent i h) s (fun t => linkOf t i h = lkAlign ∧ ((t.lane i).hub h).enteredLap = (s.lane i).lap))
    ∧ (linkOf s i h = lkAlign →
      Does (.linkAlignComplete i h) s (fun t => linkOf t i h = lkRange ∧ ((t.lane i).hub h).enteredLap = (s.lane i).lap))
    ∧ (∀ (d n : Nat), linkOf s i h = lkRange →
      n = (if (s.lane i.other).linksRun = true ∧ linkOf s i.other h = lkReady then 1 else 2) →
      (d ≤ 650000 * n → Does (.rangeComplete i h d) s (fun t => linkOf t i h = lkConfig ∧ (t.lane i).p (Hub.delayPs h) = (d / n : Nat)
        ∧ ((t.lane i).hub h).delayUi = (d * 16 + 3125 * n) / (6250 * n)))
      ∧ (650000 * n < d →
        Does (.rangeComplete i h d) s (fun t => linkOf t i h = lkFault ∧ (t.lane i).p (Hub.linkFault h) = 1)))
    ∧ (linkOf s i h = lkConfig →
      Does (.configComplete i h) s (fun t => linkOf t i h = lkReady
        ∧ (t.lane i).p (Hub.retrains h) = (s.lane i).p (Hub.retrains h))))
  ∧ (∀ (s : State) (i : LaneId) (h : Nat), HubServed i h s →
    (linkOf s i h = lkReady →
      Does (.lossOfSignal i h) s (fun t => linkOf t i h = lkAlign
        ∧ (t.lane i).p (Hub.retrains h) = (s.lane i).p (Hub.retrains h) + 1))
    ∧ (linkOf s i h = lkReady →
      Does (.linkAlignLost i h) s (fun t => linkOf t i h = lkAlign
        ∧ (t.lane i).p (Hub.retrains h) = (s.lane i).p (Hub.retrains h) + 1))
    ∧ (∀ st limit, (st, limit) ∈ [(lkAlign, 20), (lkRange, 40), (lkConfig, 400)] → linkOf s i h = st →
      ((s.lane i).hub h).enteredLap + limit < (s.lane i).lap →
      Does (.linkTrainingTimeout i h) s (fun t => linkOf t i h = lkFault ∧ (t.lane i).p (Hub.linkFault h) = 3))
    ∧ (linkOf s i h = lkFault → ((s.lane i).hub h).enteredLap + 20000 ≤ (s.lane i).lap →
      Does (.linkFaultRetry i h) s (fun t => linkOf t i h = lkDark ∧ (t.lane i).p (Hub.linkFault h) = 0)))

/-- R89, R129. What the rows of the link states leave: every other hub's record and points, the rest of the lane but its rings, the other
lane but its rings, where the link's event is raised too, and everything outside the lanes; and a link that is off, or whose lane's
links do not run, is left as it is. -/
def Obligations.LinkFrame : Prop :=
  ∀ (s t : State) (i : LaneId) (h : Nat) (d : Nat) (c : Instr),
    c ∈ [.signalPresent i h, .linkAlignComplete i h, .rangeComplete i h d, .configComplete i h, .lossOfSignal i h,
      .linkAlignLost i h, .linkTrainingTimeout i h, .linkFaultRetry i h] →
    exec c s = .next t →
    OnlyLanes s t ∧ OnlyHub (s.lane i) (t.lane i) ∧ { t.lane i.other with host := (s.lane i.other).host } = s.lane i.other
    ∧ (∀ k, k ≠ h → (t.lane i).hub k = (s.lane i).hub k)
    ∧ (∀ a, a ∉ [Hub.linkState h, Hub.linkFault h, Hub.retrains h, Hub.delayPs h] → (t.lane i).p a = (s.lane i).p a)
    ∧ ((linkOf s i h = lkOff ∨ (s.lane i).linksRun = false ∨ s.chassis.variant.ports ≤ h) → t = s)

/-- R127, R131, R132, R137. The uplink header of a `READY` link whose CRC holds, whose port fields name this hub or none and whose hub
obeyed a block gives the lockout bit where the lap's status block is valid; a wrong port is the fault `crossed`; a bad CRC is counted and
the header is missing. Every arrival whose marker is found shows its skew against the delay in force, and moves that delay by one unit
interval. -/
def Obligations.UplinkHeaderRow : Prop :=
  ∀ (s : State) (i : LaneId) (h : Nat) (u : UplinkHeader), HubServed i h s → linkOf s i h = lkReady →
    (u.crcOk = true → (u.portA = 0xFF ∨ u.portA = h) → (u.portB = 0xFF ∨ u.portB = h) → bitsAt u.obeyed 1 0 ≠ 0 →
      Does (.uplinkHeaderReceive i h u) s (fun t =>
        ((t.lane i).hub h).headerOk = true ∧ linkOf t i h = lkReady
        ∧ (t.lane i).p (Hub.lockout h)
          = (if ((s.lane i).hub h).statusOk = true then b01 (bitAt u.hubFlags 0) else (s.lane i).p (Hub.lockout h))
        ∧ (t.lane i).p (Hub.hubHeldLaps h) = (s.lane i).p (Hub.hubHeldLaps h)
        ∧ (t.lane i).p (Hub.codeErrors h) = (s.lane i).p (Hub.codeErrors h) + u.codeErrors))
    ∧ (u.crcOk = true → (u.portA ≠ 0xFF ∧ u.portA ≠ h ∨ u.portB ≠ 0xFF ∧ u.portB ≠ h) →
      Does (.uplinkHeaderReceive i h u) s (fun t => linkOf t i h = lkFault ∧ (t.lane i).p (Hub.linkFault h) = 2))
    ∧ (u.crcOk = false →
      Does (.uplinkHeaderReceive i h u) s (fun t => ((t.lane i).hub h).headerOk = false
        ∧ (t.lane i).p (Hub.crcErrors h) = (s.lane i).p (Hub.crcErrors h) + 1))
    ∧ (u.alignOk = true → Does (.uplinkHeaderReceive i h u) s (fun t =>
        (t.lane i).p (Hub.skewPs h) = u.arrivalPs - (delayOf ((s.lane i).hub h).delayUi : Nat)
        ∧ ((t.lane i).hub h).delayUi = stepDelay ((s.lane i).hub h).delayUi (u.arrivalPs - (delayOf ((s.lane i).hub h).delayUi : Nat))))
    ∧ (u.alignOk = false → Does (.uplinkHeaderReceive i h u) s (fun t =>
        (t.lane i).p (Hub.skewPs h) = (s.lane i).p (Hub.skewPs h) ∧ ((t.lane i).hub h).delayUi = ((s.lane i).hub h).delayUi))

/-- R127, R137. A valid status block replaces the trip, armed and contactor bits of the hub and its acknowledged configuration; one whose CRC
fails is counted and keeps the previous bits. -/
def Obligations.StatusBlockRow : Prop :=
  ∀ (s : State) (i : LaneId) (h : Nat) (b : StatusBlock), HubServed i h s → linkOf s i h ≠ lkOff →
    (b.crcOk = true → b.onTime = true → b.codeErrors = 0 →
      Does (.statusBlockReceive i h b) s (fun t =>
        ((t.lane i).hub h).statusOk = true ∧ ((t.lane i).hub h).tripped = b.tripped ∧ ((t.lane i).hub h).armed = b.armed
        ∧ ((t.lane i).hub h).contactor = b.contactor ∧ ((t.lane i).hub h).cmdLoss = b.cmdLoss
        ∧ (t.lane i).p (Hub.cfgAck h) = b.cfgAck))
    ∧ (b.crcOk = false →
      Does (.statusBlockReceive i h b) s (fun t =>
        ((t.lane i).hub h).statusOk = false ∧ ((t.lane i).hub h).tripped = ((s.lane i).hub h).tripped
        ∧ (t.lane i).p (Hub.crcErrors h) = (s.lane i).p (Hub.crcErrors h) + 1))

/-- R128, R137, R140, R156, R138, R192, R529. A valid fast block gives every phase of the hub its current and voltages; a late one, or one of
another lap, counts as missing; a valid thermal block gives every junction temperature, and after 200 laps without one they read
`invalid`. A second lap without measurements blinds a hub and removes its switching phases with cause 4; 64 good laps clear the mark; and
an identity record is kept by the lane that received it and used by both lanes where that lane holds the baton, or by that lane alone
where none does. -/
def Obligations.MeasurementBlocks : Prop :=
  (∀ (s : State) (i : LaneId) (h : Nat), HubServed i h s → linkOf s i h ≠ lkOff →
    (∀ f : FastBlock, f.crcOk = true → f.onTime = true → f.codeErrors = 0 → f.lapLo = (s.lane i).lap % 256 →
      Does (.fastBlockReceive i h f) s (fun t => ((t.lane i).hub h).fastOk = true
        ∧ ∀ j, j < 16 → (t.lane i).p (Ph.iMeas (16 * h + j)) = f.i.getD j 0 * 2 ^ 16
          ∧ (t.lane i).p (Ph.vOut (16 * h + j)) = f.vOut.getD j 0 * 2 ^ 16
          ∧ (t.lane i).p (Ph.vDc (16 * h + j)) = (f.vDc.getD j 0 : Int) * 2 ^ 15))
    ∧ (∀ f : FastBlock, f.onTime = false ∨ f.lapLo ≠ (s.lane i).lap % 256 →
      Does (.fastBlockReceive i h f) s (fun t => ((t.lane i).hub h).fastOk = false
        ∧ ∀ j, (t.lane i).p (Ph.iMeas j) = (s.lane i).p (Ph.iMeas j)))
    ∧ (∀ temps : List Int,
      Does (.thermalBlockReceive i h true ⟨0, temps⟩) s (fun t => ((t.lane i).hub h).thermMiss = 0
        ∧ ∀ j, j < 16 → (t.lane i).p (Ph.tJunction (16 * h + j)) = temps.getD j 0 * 125 / 2
          ∧ (t.lane i).st (Ph.tJunction (16 * h + j)) = 0))
    ∧ (200 ≤ ((s.lane i).hub h).thermMiss →
      Does (.junctionTempTimeout i h) s (fun t => ∀ j, j < 16 → (t.lane i).st (Ph.tJunction (16 * h + j)) = 2)))
  ∧ (∀ (s : State) (i : LaneId) (h : Nat), HubServed i h s →
    ((2 ≤ ((s.lane i).hub h).missRun ∨ (1 ≤ ((s.lane i).hub h).missRun ∧ ((s.lane i).hub h).complete = false)) →
      (s.lane i).p (Hub.blind h) = 0 → Does (.hubBlind i h) s (fun t => (t.lane i).p (Hub.blind h) = 1
        ∧ (t.lane i).p (Hub.blindEvents h) = (s.lane i).p (Hub.blindEvents h) + 1
        ∧ ∀ j, j < 16 → (s.lane i).switching (16 * h + j) = true →
          (t.lane i).p (Ph.memberState (16 * h + j)) = msLost ∧ (t.lane i).p (Ph.removalCause (16 * h + j)) = 4))
    ∧ ((s.lane i).p (Hub.blind h) = 1 → 64 ≤ ((s.lane i).hub h).goodRun →
      Does (.blindClear i h) s (fun t => (t.lane i).p (Hub.blind h) = 0))
    ∧ (∀ iFs vFs fitted : Nat,
      (s.holder ≠ some i.other → Does (.hubIdentityRecord i h iFs vFs fitted) s (fun t =>
        ((t.lane i).hub h).ownRec = some (iFs, vFs, fitted) ∧ ((t.lane i).hub h).idKnown = true
        ∧ ∀ j, j = i ∨ (s.holder = some i ∧ (s.lane j).active = true) →
          (t.lane j).p (Hub.iFs h) = iFs ∧ (t.lane j).p (Hub.vFs h) = vFs
          ∧ (t.lane j).p (Hub.phasesFitted h) = (fitted % 65536 : Nat)))
      ∧ (s.holder = some i.other → Does (.hubIdentityRecord i h iFs vFs fitted) s (fun t =>
        ((t.lane i).hub h).ownRec = some (iFs, vFs, fitted) ∧ (t.lane i).p (Hub.iFs h) = (s.lane i).p (Hub.iFs h)))))

/-- R146, R147, R148, R182, R190, R191. In every lane that computes: a `PARKED` phase that may join is `JOINING` with weight 0 and armed, in
the lap after where its duty is due a lap later; a `JOINING` one at full weight is `ACTIVE`; a `LEAVING` one at weight 0 is `PARKED` and
disarmed; a `LOST` one whose re-arm condition is met joins or parks, and stays where `phase_enable` is 0; a host's re-arm request is
noted and clears the trips of the window; a test encoding is placed in test mode alone; and both switches together are a false start. -/
def Obligations.PhaseMoves : Prop :=
  ∀ (s : State) (i : LaneId) (p : Nat), p < s.chassis.variant.phases → (s.lane i).active = true →
    ((s.lane i).p (Ph.memberState p) = msJoining → (s.lane i).p (Ph.weight p) = 65536 →
      Does (.joinComplete p) s (fun t => (t.lane i).p (Ph.memberState p) = msActive))
    ∧ ((s.lane i).p (Ph.memberState p) = msLeaving → (s.lane i).p (Ph.weight p) = 0 →
      Does (.leaveComplete p) s (fun t =>
        (t.lane i).p (Ph.memberState p) = msParked ∧ ((t.lane i).phase p).arm = false))
    ∧ ((s.lane i).p (Ph.memberState p) = msParked → (s.lane i).joinReady p = true → ((s.lane i).phase p).prep = none →
      (earlyDuty (s.lane i).cfg p = true →
        Does (.phaseJoin p) s (fun t => (t.lane i).p (Ph.memberState p) = msJoining ∧ (t.lane i).p (Ph.weight p) = 0
          ∧ ((t.lane i).phase p).arm = true))
      ∧ (earlyDuty (s.lane i).cfg p = false →
        Does (.phaseJoin p) s (fun t => (t.lane i).p (Ph.memberState p) = msParked
          ∧ ((t.lane i).phase p).prep = some (s.lane i).lap ∧ ((t.lane i).phase p).arm = ((s.lane i).phase p).arm)))
    ∧ ((s.lane i).p (Ph.memberState p) = msLost → (s.lane i).rearmMet p = true →
      ((s.lane i).c (Ph.phaseEnable p) = 1 → Does (.rearmDelayExpiry p) s (fun t => (t.lane i).p (Ph.memberState p)
        = if (s.lane i).joinReady p = true ∧ earlyDuty (s.lane i).cfg p = true then msJoining else msParked))
      ∧ ((s.lane i).c (Ph.phaseEnable p) ≠ 1 → Does (.rearmDelayExpiry p) s (fun t =>
        (t.lane i).p (Ph.memberState p) = msLost)))
    ∧ Does (.rearmWrite p) s (fun t => ((t.lane i).phase p).rearmReq = true ∧ ((t.lane i).phase p).tripMs = []
        ∧ ((t.lane i).phase p).limited = false)
    ∧ (∀ v, (s.lane i).c (Hub.testMode (p / 16)) = 1 → bitsAt v 1 0 ≠ 3 → 1 ≤ bitsAt v 15 8 → bitsAt v 15 8 ≤ 200 →
      Does (.testGateWrite p v) s (fun t => ((t.lane i).phase p).testSwitch = bitsAt v 1 0
        ∧ ((t.lane i).phase p).testLaps = bitsAt v 15 8))
    ∧ (∀ v, (s.lane i).c (Hub.testMode (p / 16)) ≠ 1 → bitsAt v 1 0 ≠ 3 →
      Does (.testGateWrite p v) s (fun t => t.lane i = s.lane i))
    ∧ (∀ v, bitsAt v 1 0 = 3 →
      Does (.testGateWrite p v) s (fun t => (t.lane i).p (Ph.falseStarts p) = (s.lane i).p (Ph.falseStarts p) + 1))

/-- R187, R188. A `CLOSING` pack runs with target 0 once enough selectors have confirmed, on confirmation of all or at its time limit, with
its phases active at full weight and armed; with too few phases its start fails and counts; at the time limit a phase that has not
confirmed is removed with cause 9; and a `STOPPING` pack whose target is 0 and whose current is at most 1% of full scale, or whose time
is up, is idle with every phase disarmed at weight 0. -/
def Obligations.PackMoves : Prop :=
  ∀ (s : State) (i : LaneId) (k : Nat), k < s.chassis.variant.packs → (s.lane i).active = true →
    ((s.lane i).p (Pk.packState k) = pkClosing →
      ((s.lane i).startPhases k).all (fun p => (s.lane i).selectorConfirmed p && !((s.lane i).phase p).frozen) = true →
      ((s.lane i).fewest k ≤ (((s.lane i).startPhases k).filter (s.lane i).startAllowed).length →
        Does (.packRunStart k) s (fun t => (t.lane i).p (Pk.packState k) = pkRun ∧ (t.lane i).p (Pk.target k) = 0
          ∧ ∀ p ∈ (s.lane i).startPhases k, (s.lane i).startAllowed p = true → (t.lane i).p (Ph.memberState p) = msActive
            ∧ (t.lane i).p (Ph.weight p) = 65536 ∧ ((t.lane i).phase p).arm = true))
      ∧ ((((s.lane i).startPhases k).filter (s.lane i).startAllowed).length < (s.lane i).fewest k →
        Does (.packRunStart k) s (fun t => (t.lane i).p (Pk.packState k) = pkIdle
          ∧ (t.lane i).p (Pk.startFails k) = (s.lane i).p (Pk.startFails k) + 1)))
    ∧ ((s.lane i).p (Pk.packState k) = pkClosing →
      ((s.lane i).pack k).reqLap + (s.lane i).cn (Pk.matrixTimeoutMs k) * 200 ≤ (s.lane i).lap →
      (s.lane i).fewest k ≤ (((s.lane i).startPhases k).filter
        (fun p => (s.lane i).selectorConfirmed p && (s.lane i).startAllowed p)).length →
      Does (.packMatrixTimeout k) s (fun t => (t.lane i).p (Pk.packState k) = pkRun ∧ (t.lane i).p (Pk.target k) = 0
        ∧ ∀ p ∈ (s.lane i).startPhases k, (s.lane i).selectorConfirmed p = false →
          (t.lane i).p (Ph.memberState p) = msLost ∧ (t.lane i).p (Ph.removalCause p) = 9))
    ∧ ((s.lane i).p (Pk.packState k) = pkStopping →
      ((s.lane i).p (Pk.target k) = 0 ∧ -onePercent ≤ (s.lane i).p (Pk.packI k) ∧ (s.lane i).p (Pk.packI k) ≤ onePercent
        ∨ ((s.lane i).pack k).reqLap + (s.lane i).cn (Pk.stopLaps k) + 400 ≤ (s.lane i).lap) →
      Does (.packStopComplete k) s (fun t => (t.lane i).p (Pk.packState k) = pkIdle
        ∧ ∀ p ∈ packPhases (s.lane i).cfg k, (t.lane i).p (Ph.weight p) = 0 ∧ (t.lane i).switching p = false
          ∧ ((t.lane i).phase p).arm = false))

/-- R206, R208, R211, R35. A round in laps 8..140 of an epoch without one is the epoch's round: its end lap is shown, and at every used
node its cap, its want and its allocation; one that has not
ended by lap 140 counts as an overrun and keeps the targets; equal digests at lap 140 clear the standby's run of mismatches; differing
ones are counted; and at lap 150 every pack gets the round's target. -/
def Obligations.AllocationRows : Prop :=
  ∀ (s : State) (i : LaneId), (s.lane i).active = true →
    (8 ≤ (s.lane i).lapIn → (s.lane i).lapIn ≤ 140 → (s.lane i).alloc.doneEpoch ≠ some (s.lane i).epoch →
      Does .allocationRound s (fun t => (t.lane i).alloc.doneEpoch = some (s.lane i).epoch
        ∧ (t.lane i).p Al.allocEndLap = (s.lane i).lapIn
        ∧ ∀ x ∈ usedNodes (s.lane i).cfg, (t.lane i).p (Pool.allocW x) = (nodeOut (s.lane i).roundNodes x).alloc
          ∧ (t.lane i).p (Pool.capW x) = (nodeOut (s.lane i).roundNodes x).cap
          ∧ (t.lane i).p (Pool.wantW x) = (nodeOut (s.lane i).roundNodes x).want))
    ∧ (140 ≤ (s.lane i).lapIn → (s.lane i).alloc.doneEpoch ≠ some (s.lane i).epoch →
      Does (.allocationOverrun i) s (fun t =>
        (t.lane i).p Al.allocOverruns = (s.lane i).p Al.allocOverruns + 1 ∧ (t.lane i).packs = (s.lane i).packs))
    ∧ (s.holder = some i.other → (s.lane i).link.state = .standby → (s.lane i).lapIn = 140 →
      (s.lane i).alloc.doneEpoch = some (s.lane i).epoch →
      (s.lane i.other).alloc.doneEpoch = some (s.lane i.other).epoch →
      ((s.lane i).allocDigest = (s.lane i.other).allocDigest →
        Does .allocDigestExchange s (fun t => (t.lane i).link.allocRun = 0))
      ∧ ((s.lane i).allocDigest ≠ (s.lane i.other).allocDigest → (s.lane i).link.allocRun = 0 → (s.lane i).link.linkRound = false →
        rxDiffers (s.lane i.other) (s.lane i) = false →
        Does .allocDigestExchange s (fun t => (t.lane i).link.allocRun = 1
          ∧ (t.lane i).p Al.allocDigestMismatch = (s.lane i).p Al.allocDigestMismatch + 1)))
    ∧ ((s.lane i).lapIn = 150 → (s.lane i).alloc.doneEpoch = some (s.lane i).epoch →
      Does .targetLoad s (fun t => ∀ k, k < 64 →
        ((t.lane i).pack k).allocTarget = UMap.get (fun _ => 0) (s.lane i).alloc.packTargets k))

/-- R199, R214, R215, R216, R403, R409. What reaches the round from outside is kept with its node: a host's power value with its lap, and,
from lap 150 of the round's epoch to lap 4 of the next, the report of a controller that is MEMBER and an anchor's allocation; one of
another round, at another lap or of a controller that is not MEMBER has no effect. At lap 4 the round takes what has
arrived; an exchange that has not come counts as missing, and after `team_hold_rounds` of them the anchor's cap is given up. -/
def Obligations.PoolInputs : Prop :=
  ∀ (s : State) (i : LaneId), (s.lane i).active = true →
    (∀ x v, x < 256 → Does (.hostPowerKwWrite x v) s (fun t =>
      (t.lane i).p (Pool.hostPowerKw x) = v ∧ ((t.lane i).pool x).hostLap = some (s.lane i).lap))
    ∧ (∀ k m x round want drawn, s.chassis.variant.team = true → memberNode (s.lane i).cfg m = some x →
      lvlUsed (s.lane i).cfg k = true → lvlMember (s.lane i).cfg k = 0 →
      (RoundOpen (s.lane i) k round → (s.lane i).memberState k m = 2 → Does (.teamReportReceive ⟨k, m, round⟩ want drawn) s (fun t =>
        ((t.lane i).pool x).inWant = want ∧ ((t.lane i).pool x).inDrawn = drawn ∧ ((t.lane i).pool x).arrived = true))
      ∧ (¬ RoundOpen (s.lane i) k round ∨ (s.lane i).memberState k m ≠ 2 →
        Does (.teamReportReceive ⟨k, m, round⟩ want drawn) s (fun t => t.lane i = s.lane i)))
    ∧ (∀ k x round w, s.chassis.variant.team = true → x ∈ topNodes (s.lane i).cfg →
      cfgAt (s.lane i).cfg (Pool.parent x) = 0xFFFFFFFE → lvlUsed (s.lane i).cfg k = true →
      (RoundOpen (s.lane i) k round → Does (.teamAllocationReceive ⟨k, round, w⟩) s (fun t =>
        ((t.lane i).pool x).inCap = w ∧ ((t.lane i).pool x).arrived = true))
      ∧ (¬ RoundOpen (s.lane i) k round → Does (.teamAllocationReceive ⟨k, round, w⟩) s (fun t => t.lane i = s.lane i)))
    ∧ (∀ x, s.chassis.variant.team = true → (s.lane i).lapIn = 4 → x ∈ usedNodes (s.lane i).cfg →
      (s.lane i).exchangeNode x = true →
      (((s.lane i).pool x).arrived = true → Does .teamExchangeDeadline s (fun t =>
        ((t.lane i).pool x).missing = 0 ∧ ((t.lane i).pool x).fresh = true ∧ ((t.lane i).pool x).arrived = false
        ∧ ((t.lane i).pool x).memberWant = ((s.lane i).pool x).inWant ∧ ((t.lane i).pool x).memberDrawn = ((s.lane i).pool x).inDrawn
        ∧ ((t.lane i).pool x).teamCap
          = (if nodeKind (s.lane i).cfg x = 3 then ((s.lane i).pool x).teamCap else some ((s.lane i).pool x).inCap)))
      ∧ (((s.lane i).pool x).arrived = false → Does .teamExchangeDeadline s (fun t =>
        ((t.lane i).pool x).missing = ((s.lane i).pool x).missing + 1 ∧ ((t.lane i).pool x).fresh = false
        ∧ (s.lane i).p Al.teamReportsMissing < (t.lane i).p Al.teamReportsMissing
        ∧ ((t.lane i).pool x).teamCap = (if (s.lane i).cn (Pool.teamHoldRounds x) ≤ ((s.lane i).pool x).missing + 1 then none
          else ((s.lane i).pool x).teamCap))))

/-- R220, R222, R228, R221, R223, R225. The cooling of an outlet: a stale sensor becomes invalid and counts; good flow for 1 s is
`cool_ready`; good flow for 5 s returns a degraded outlet to normal with its elapsed time kept; 60 s of degraded time expire it, which is
a fault of the outlet and shows in its function 5; 300 s of good flow clear the degraded time; and once the contactors have been open
for `cooldown_s` the flow target of an outlet with open contactors and no hot pin is its idle value. In laps 4..8 the thermal model of
every cooled outlet takes one step with the flow, the pins and the coolant temperature as of lap 4; in laps 8..140 an outlet without
liquid cooling is forecast at its uncooled current, and a cooled one that is due at its forecast's values after 5, 15, 30 and 60 s; and
a forecast that is due and not finished by lap 140 is dropped and counted once, and its outlet's previous one stands. -/
def Obligations.Cooling : Prop :=
  (∀ (s : State) (i : LaneId) (o : Nat), o < s.chassis.variant.outlets → (s.lane i).active = true →
    (∀ n t0, n < 7 → (s.lane i).srcEn o n = true → ((s.lane i).sensor o n).lap = some t0 →
      t0 + (s.lane i).srcTimeout o n * 200 < (s.lane i).lap → ((s.lane i).sensor o n).bad = false →
      Does (.sensorTimeout o n) s (fun t => ((t.lane i).sensor o n).bad = true
        ∧ (t.lane i).p (Out.sensorFaults o) = (s.lane i).p (Out.sensorFaults o) + 1))
    ∧ (∀ t0, ((s.lane i).cool o).goodSince = some t0 → t0 + 200000 ≤ (s.lane i).lap → (s.lane i).flowNow o ≠ none →
      Does (.coolReady o) s (fun t => (t.lane i).p (Out.coolReady o) = 1))
    ∧ (∀ t0, ((s.lane i).cool o).recoverSince = some t0 → (s.lane i).p (Out.coolState o) = csDegraded →
      t0 + 1000000 ≤ (s.lane i).lap →
      Does (.degradedRecover o) s (fun t => (t.lane i).p (Out.coolState o) = csNormal
        ∧ (t.lane i).p (Out.degradedElapsedMs o) = (s.lane i).p (Out.degradedElapsedMs o)))
    ∧ ((s.lane i).p (Out.coolState o) = csDegraded → 60000 ≤ (s.lane i).p (Out.degradedElapsedMs o) →
      Does (.degradedExpiry o) s (fun t => (t.lane i).p (Out.coolState o) = csExpired
        ∧ (t.lane i).p (Saf.fnState o 5) = (if (s.lane i).fnHeld (21 + 8 * o) = true then (s.lane i).p (Saf.fnState o 5) else fnExpired)
        ∧ (t.lane i).p (Out.faults o) = (s.lane i).p (Out.faults o) + 1))
    ∧ (∀ t0, ((s.lane i).cool o).goodSince = some t0 → (s.lane i).p (Out.coolState o) = csNormal →
      t0 + 60000000 ≤ (s.lane i).lap →
      Does (.degradedElapsedReset o) s (fun t => (t.lane i).p (Out.degradedElapsedMs o) = 0))
    ∧ (∀ t0, ((s.lane i).cool o).openedLap = some t0 → t0 + (s.lane i).cn (Out.cooldownS o) * 200000 ≤ (s.lane i).lap →
      Does (.cooldownExpiry o) s (fun t => ((t.lane i).cool o).openedLap = none
        ∧ ((s.lane i).contactorsClosed o = false → (s.lane i).pinMax o = none →
          (t.lane i).p (Out.flowTarget o) = (s.lane i).c (Out.flowIdle o)))))
  ∧ (∀ (s : State) (i : LaneId) (o : Nat), o < s.chassis.variant.outlets → (s.lane i).active = true →
    (4 ≤ (s.lane i).lapIn → (s.lane i).lapIn ≤ 8 → (s.lane i).c (Out.coolMode o) = 1 →
      ∀ (f : Int) (r : Int × Int × Int), f = flowFactor ((s.lane i).cool o).flow4 ((s.lane i).c (Out.flowNom o)) →
      r = modelStep ((s.lane i).cool o).th1 ((s.lane i).cool o).th2 ((s.lane i).meanSquare o) f ((s.lane i).c (Out.k1Mc o))
        ((s.lane i).c (Out.k2Mc o)) ((s.lane i).c (Out.tau1Ms o)) ((s.lane i).c (Out.tau2Ms o))
        (((s.lane i).cool o).cool4.getD ((s.lane i).coolant o)) ((s.lane i).c (Out.obsTauMs o)) ((s.lane i).cool o).pin4 →
      Does .modelStep s (fun t => ((t.lane i).cool o).f = f
        ∧ ((t.lane i).cool o).th1 = r.1 ∧ (t.lane i).p (Out.theta1 o) = r.1 / 2 ^ 20
        ∧ ((t.lane i).cool o).th2 = r.2.1 ∧ (t.lane i).p (Out.theta2 o) = r.2.1 / 2 ^ 20
        ∧ (t.lane i).p (Out.tPinModel o) = r.2.2))
    ∧ (8 ≤ (s.lane i).lapIn → (s.lane i).lapIn ≤ 140 → (s.lane i).c (Out.coolMode o) ≠ 1 →
      Does .forecast s (fun t => ∀ n, n < 4 → (t.lane i).p (Out.fc o n) = (s.lane i).c (Out.iUncooledA o)))
    ∧ (8 ≤ (s.lane i).lapIn → (s.lane i).lapIn ≤ 140 → (s.lane i).c (Out.coolMode o) = 1 → (s.lane i).forecastDue o = true →
      (s.lane i).handledForecast o = false → Does .forecast s (fun t => ((t.lane i).cool o).forecastDone = true
        ∧ ∀ n k, (n, k) ∈ [(0, 9), (1, 29), (2, 59), (3, 119)] →
          (t.lane i).p (Out.fc o n) = ((s.lane i).forecastValues o).getD k 0))
    ∧ (140 ≤ (s.lane i).lapIn → (s.lane i).forecastDue o = true → (s.lane i).handledForecast o = false →
      Does (.forecastOverrun o) s (fun t => (t.lane i).p (Out.fcOverruns o) = (s.lane i).p (Out.fcOverruns o) + 1
        ∧ (t.lane i).handledForecast o = true ∧ ∀ n, n < 4 → (t.lane i).p (Out.fc o n) = (s.lane i).p (Out.fc o n)))
    ∧ ((s.lane i).handledForecast o = true → Does (.forecastOverrun o) s (fun t => t.lane i = s.lane i)))

/-- R232, R236, R237, R238. The link of a session: an SDP request is answered with the port while a session may use it; a ClientHello that
offers an accepted suite, group and signature scheme is answered where the key store gives the identity key, and one without an accepted
suite fails; the application protocol of the first edition is accepted and any other offer fails; a handshake not complete in 5 s ends the
session; frames without a request move the TCP positions of every lane that did not miss them, and complete the handshake; a lane that
missed a request does not see it; and the standby takes the randoms and secrets that the holder mirrors, but counts and drops those of another session generation. -/
def Obligations.SessionLink : Prop :=
  ∀ (s : State) (i : LaneId) (o : Nat), o < s.chassis.variant.outlets → (s.lane i).active = true →
    (ssLink ≤ (s.lane i).ss o → (s.lane i).ss o < ssRampdown →
      (Does (.sdpRequest ⟨none, o⟩) s (fun t => (responseOf t i o).msg = 1 ∧ (responseOf t i o).data.head? = some 57120))
        ∧ Does (.sdpRequest ⟨some i, o⟩) s (fun t => t.lane i = s.lane i))
    ∧ (∀ (m : Option LaneId) (suites groups schemes : List Nat) (draws : SessionDraws), m ≠ some i → (s.lane i).ss o = ssLink →
      suites.contains 0x1302 = true → groups.contains 0x1E = true →
      schemes.contains 0x0603 = true →
      ((s.lane i).askKey (engSession o) ((s.lane i).role Key.roleSecc) 1).2 = true →
      Does (.tlsClientHello ⟨m, o⟩ suites ⟨groups, schemes⟩ draws) s (fun t => Responds t i o 2 rcOk [0x1302, 0x1E, 0x0603]
        ∧ ((t.lane i).out o).tls.helloLap = some (s.lane i).lap))
    ∧ (∀ (m : Option LaneId) (suites groups schemes : List Nat) (draws : SessionDraws), m ≠ some i → (s.lane i).ss o = ssLink →
      (∀ k ∈ tlsSuites, suites.contains k = false) →
      Does (.tlsClientHello ⟨m, o⟩ suites ⟨groups, schemes⟩ draws) s (fun t => Responds t i o 2 rcFailed []
        ∧ ((t.lane i).out o).faulted = true))
    ∧ (∀ (m : Option LaneId) (offers : List AppProtocol), m ≠ some i → InStep s i o ssLink →
      ((⟨20, 1⟩ : AppProtocol) ∈ offers →
        Does (.supportedAppProtocolReq ⟨m, o⟩ offers) s (fun t => Responds t i o 3 rcOk [] ∧ (t.lane i).ss o = ssLink))
      ∧ ((⟨20, 1⟩ : AppProtocol) ∉ offers →
        Does (.supportedAppProtocolReq ⟨m, o⟩ offers) s (fun t => Responds t i o 3 rcFailed []
          ∧ ((t.lane i).out o).faulted = true)))
    ∧ (∀ suites ext draws, Does (.tlsClientHello ⟨some i, o⟩ suites ext draws) s (fun t => (t.lane i).out o = (s.lane i).out o))
    ∧ (∀ t0, (s.lane i).ss o = ssLink → ((s.lane i).out o).tls.helloLap = some t0 → ((s.lane i).out o).tls.up = false →
      t0 + msLaps 5000 ≤ (s.lane i).lap →
      Does (.handshakeTimeout o) s (fun t => ((t.lane i).out o).faulted = true
        ∧ (t.lane i).ss o = if (s.lane i).contactorsClosed o then ssDischarge else ssUnlatch))
    ∧ (∀ fromVehicle seq len secret done, Does (.outletSegmentFrame o ⟨none, fromVehicle⟩ seq len secret done) s (fun t =>
        ((t.lane i).out o).tls.rxSeq
          = (if fromVehicle then max ((s.lane i).out o).tls.rxSeq (seq + len) else ((s.lane i).out o).tls.rxSeq)
        ∧ ((t.lane i).out o).tls.txSeq
          = (if fromVehicle then ((s.lane i).out o).tls.txSeq else max ((s.lane i).out o).tls.txSeq (seq + len))
        ∧ ((t.lane i).out o).tls.ackOwed = (fromVehicle && decide (0 < len))
        ∧ ((t.lane i).out o).tls.up = (((s.lane i).out o).tls.up || done)))
    ∧ (∀ fromVehicle seq len secret done, Does (.outletSegmentFrame o ⟨some i, fromVehicle⟩ seq len secret done) s (fun t =>
        ((t.lane i).out o).tls = ((s.lane i).out o).tls))
    ∧ (s.holder = some i.other →
      ((s.lane i).p (Out.sessionGen o) = (s.lane i.other).p (Out.sessionGen o) →
        Does (.sessionRandomReceive o) s (fun t =>
          ((t.lane i).out o).tls.randoms = ((s.lane i.other).out o).tls.randoms
          ∧ ((t.lane i).out o).tls.secrets = ((s.lane i.other).out o).tls.secrets
          ∧ ((t.lane i.other).out o).tls.mirrorOwed = false))
      ∧ ((s.lane i).p (Out.sessionGen o) ≠ (s.lane i.other).p (Out.sessionGen o) →
        Does (.sessionRandomReceive o) s (fun t => (t.lane i).p (Sd.staleDiscards 3) = (s.lane i).p (Sd.staleDiscards 3) + 1
          ∧ ((t.lane i).out o).tls = ((s.lane i).out o).tls)))

/-- R236, R239, R246, R252. Identification and parameters: in `LINK` a session setup gives the session its number and enters `AUTH`; there
the accepted identification modes are told; an external authorization ends in `PARAM` once the host has decided for it, is ongoing before
and fails against it, and Plug and Charge by its chain and the trust anchor alone; a mode not offered fails. In `PARAM` the DC service,
the scheduled mode and the outlet's limits are answered and any other selection fails; and there and in `CHARGE` the schedule is the
forecast's. -/
def Obligations.SessionParameters : Prop :=
  ∀ (s : State) (i : LaneId) (m : Option LaneId) (o : Nat), m ≠ some i →
    (∀ evccid id, InStep s i o ssLink → Does (.sessionSetupReq ⟨m, o⟩ evccid id) s (fun t =>
        Responds t i o 4 rcOk [(id : Int)] ∧ (t.lane i).ss o = ssAuth ∧ (t.lane i).p (Out.sessionId o) = id))
    ∧ (InStep s i o ssAuth → Does (.authorizationSetupReq ⟨m, o⟩) s (fun t =>
        Responds t i o 5 rcOk [(s.lane i).sc o (Out.idMode o)] ∧ (t.lane i).ss o = ssAuth))
    ∧ (∀ mode chainOk contract, InStep s i o ssAuth → mode ≠ 1 → bitAt ((s.lane i).scn o (Out.idMode o)) mode = true →
      (((s.lane i).out o).decision = some true → Does (.authorizationReq ⟨m, o⟩ mode chainOk contract) s (fun t =>
        Responds t i o 6 rcOk [0] ∧ (t.lane i).ss o = ssParam))
      ∧ (((s.lane i).out o).decision = some false → Does (.authorizationReq ⟨m, o⟩ mode chainOk contract) s (fun t =>
        Responds t i o 6 rcFailed [] ∧ ((t.lane i).out o).faulted = true))
      ∧ (((s.lane i).out o).decision = none → Does (.authorizationReq ⟨m, o⟩ mode chainOk contract) s (fun t =>
        Responds t i o 6 rcOk [1] ∧ (t.lane i).ss o = ssAuth)))
    ∧ (∀ chainOk contract, InStep s i o ssAuth → bitAt ((s.lane i).scn o (Out.idMode o)) 1 = true →
      (chainOk = true → ((s.lane i).askAnchor o).2 = true → Does (.authorizationReq ⟨m, o⟩ 1 chainOk contract) s (fun t =>
        Responds t i o 6 rcOk [0] ∧ (t.lane i).ss o = ssParam ∧ ((t.lane i).out o).tls.certAsked = true))
      ∧ (chainOk = false → Does (.authorizationReq ⟨m, o⟩ 1 chainOk contract) s (fun t =>
        Responds t i o 6 rcFailed [] ∧ ((t.lane i).out o).faulted = true)))
    ∧ (∀ mode chainOk contract, InStep s i o ssAuth → bitAt ((s.lane i).scn o (Out.idMode o)) mode = false →
      Does (.authorizationReq ⟨m, o⟩ mode chainOk contract) s (fun t =>
        Responds t i o 6 rcFailed [] ∧ ((t.lane i).out o).faulted = true))
    ∧ (InStep s i o ssParam →
      Does (.serviceDiscoveryReq ⟨m, o⟩) s (fun t => Responds t i o 7 rcOk [1, 2, 0])
      ∧ Does (.serviceDetailReq ⟨m, o⟩) s (fun t => Responds t i o 8 rcOk [1, 1])
      ∧ Does (.serviceSelectionReq ⟨m, o⟩ ⟨2, 1, []⟩) s (fun t => Responds t i o 9 rcOk [])
      ∧ (∀ (service mode : Nat) (vas : List Nat), service ≠ 2 ∨ mode ≠ 1 ∨ vas ≠ [] → Does (.serviceSelectionReq ⟨m, o⟩ ⟨service, mode, vas⟩) s (fun t =>
          Responds t i o 9 rcFailed [] ∧ ((t.lane i).out o).faulted = true))
      ∧ (∀ vMax iMax pMax, Does (.dcChargeParameterDiscoveryReq ⟨m, o⟩ vMax iMax pMax) s (fun t =>
          Responds t i o 10 rcOk [(s.lane i).sc o (Out.iRatingA o), (s.lane i).sc o (Out.vMaxMv o)]
          ∧ (t.lane i).p (Out.evVMaxMv o) = vMax ∧ (t.lane i).p (Out.evIMaxA o) = iMax
          ∧ (t.lane i).p (Out.evPMaxW o) = pMax))
      ∧ Does (.scheduleExchangeReq ⟨m, o⟩) s (fun t => Responds t i o 11 rcOk ((s.lane i).schedule o)
          ∧ ((t.lane i).out o).schedSent = (s.lane i).vehicleForecast o))
    ∧ (InStep s i o ssCharge →
      Does (.scheduleExchangeReq ⟨m, o⟩) s (fun t => Responds t i o 11 rcOk ((s.lane i).schedule o) ∧ (t.lane i).ss o = ssCharge))

/-- R239 to R244, R246, R532. Power: a cable check leads to `CONNECT` and is answered as ongoing until the insulation test has passed, then
as finished; pre-charge takes its target; power delivery starts after pre-charge and stops in `CHARGE`; the charge loop takes the
vehicle's values and answers with the offer and the present voltage and current; welding detection and a session stop lead to `DISCHARGE`
after `EV_OPEN`; and a session stop in `AUTH` unlatches. A session stop closes the connection. -/
def Obligations.SessionPower : Prop :=
  ∀ (s : State) (i : LaneId) (m : Option LaneId) (o : Nat), m ≠ some i →
    (InStep s i o ssParam ∨ InStep s i o ssConnect → Does (.dcCableCheckReq ⟨m, o⟩) s (fun t =>
        Responds t i o 12 rcOk [1] ∧ (t.lane i).ss o = ssConnect))
    ∧ (InStep s i o ssIsolation → ((s.lane i).out o).isoPassed = false →
      Does (.dcCableCheckReq ⟨m, o⟩) s (fun t => Responds t i o 12 rcOk [1] ∧ (t.lane i).ss o = ssIsolation))
    ∧ (InStep s i o ssIsolation → ((s.lane i).out o).isoPassed = true →
      Does (.dcCableCheckReq ⟨m, o⟩) s (fun t => Responds t i o 12 rcOk [0] ∧ (t.lane i).ss o = ssIsolation)
      ∧ ∀ target, Does (.dcPreChargeReq ⟨m, o⟩ target) s (fun t => (t.lane i).ss o = ssPrecharge
        ∧ (t.lane i).p (Out.evVTargetMv o) = target ∧ Responds t i o 13 rcOk [((s.lane i).out o).vDc]))
    ∧ (InStep s i o ssPrecharge → ((s.lane i).out o).preReached = true →
      Does (.powerDeliveryReq ⟨m, o⟩ 0) s (fun t => Responds t i o 14 rcOk [] ∧ (t.lane i).ss o = ssEvClose))
    ∧ (∀ kind, InStep s i o ssCharge → kind ≠ 0 →
      Does (.powerDeliveryReq ⟨m, o⟩ kind) s (fun t => (t.lane i).ss o = ssRampdown ∧ ((t.lane i).out o).stopAsked = true))
    ∧ (∀ iT iM pM vT vM, (InStep s i o ssEvClose ∨ InStep s i o ssCharge) → Does (.dcChargeLoopReq ⟨m, o⟩ iT iM pM vT vM) s (fun t =>
        (t.lane i).ss o = ssCharge ∧ (t.lane i).p (Out.evITargetA o) = iT ∧ (t.lane i).p (Out.evIMaxA o) = iM
        ∧ (t.lane i).p (Out.evPMaxW o) = pM ∧ (t.lane i).p (Out.evVTargetMv o) = vT ∧ (t.lane i).p (Out.evVMaxMv o) = vM
        ∧ ∃ note, Responds t i o 15 rcOk [((s.lane i).out o).offerA, ((s.lane i).out o).offerW, note,
          ((s.lane i).out o).vDc, ((s.lane i).out o).iDc]))
    ∧ (InStep s i o ssEvOpen →
      Does (.dcWeldingDetectionReq ⟨m, o⟩) s (fun t =>
        (t.lane i).ss o = ssDischarge ∧ Responds t i o 16 rcOk [((s.lane i).out o).vDc])
      ∧ Does (.sessionStopReq ⟨m, o⟩) s (fun t => (t.lane i).ss o = ssDischarge ∧ Responds t i o 17 rcOk []
        ∧ ((t.lane i).out o).tls.closed = true))
    ∧ (InStep s i o ssAuth → (s.lane i).contactorsClosed o = false →
      Does (.sessionStopReq ⟨m, o⟩) s (fun t => (t.lane i).ss o = ssUnlatch ∧ Responds t i o 17 rcOk []
        ∧ ((t.lane i).out o).tls.closed = true))

/-- R239. A request that the step does not expect is refused as out of sequence, and ends a charging session in `RAMPDOWN`. -/
def Obligations.SessionSequence : Prop :=
  ∀ (s : State) (i : LaneId) (m : Option LaneId) (o a b : Nat) (c : Instr), m ≠ some i → InStep s i o ssCharge →
    c ∈ [.supportedAppProtocolReq ⟨m, o⟩ [⟨20, 1⟩], .sessionSetupReq ⟨m, o⟩ a b, .authorizationSetupReq ⟨m, o⟩, .authorizationReq ⟨m, o⟩ a true [],
      .serviceDiscoveryReq ⟨m, o⟩, .serviceDetailReq ⟨m, o⟩, .serviceSelectionReq ⟨m, o⟩ ⟨a, b, []⟩, .dcChargeParameterDiscoveryReq ⟨m, o⟩ a b a,
      .dcCableCheckReq ⟨m, o⟩, .dcPreChargeReq ⟨m, o⟩ a, .powerDeliveryReq ⟨m, o⟩ 0, .dcWeldingDetectionReq ⟨m, o⟩, .sessionStopReq ⟨m, o⟩] →
    Does c s (fun t => (responseOf t i o).code = rcSequence ∧ (t.lane i).ss o = ssRampdown
      ∧ ((t.lane i).out o).terminate = true)

/-- R233, R234, R239, R240, R241, R243 to R245, R250, R461, R531. What the outlet's own hardware and timers do to a session: the
identification line's band is shown, and a pulled connector ends a charge; the latch's position is shown and leads on to `LINK`; the
contactors' position is shown; cooling that is not ready in 10 s, a step past its limit and a short are faults that end the session; the
insulation test and the pre-charge pass in their time; the current's fall ends `RAMPDOWN`, the voltage's fall ends `DISCHARGE`; a plug
cycle meets its hold; and an idle session engine's clock is gated. -/
def Obligations.SessionEvents : Prop :=
  ∀ (s : State) (i : LaneId) (o : Nat), o < s.chassis.variant.outlets → (s.lane i).active = true →
    (∀ mv, Does (.proxBandChange o mv) s (fun t => (t.lane i).p (Out.proxState o) = (s.lane i).proxOf o mv))
    ∧ (∀ mv, (s.lane i).proxOf o mv ≠ 1 → (s.lane i).p (Out.proxState o) = 1 → (s.lane i).ss o = ssCharge →
      Does (.proxBandChange o mv) s (fun t => (t.lane i).ss o = ssRampdown ∧ ((t.lane i).out o).faulted = true))
    ∧ (∀ st, Does (.latchFbChange o st) s (fun t => (t.lane i).p (Out.latchState o) = st))
    ∧ ((s.lane i).ss o = ssPlugged → Does (.latchFbChange o 1) s (fun t => (t.lane i).ss o = ssLink))
    ∧ (∀ plus minus, Does (.contactorFeedbackChange o ⟨plus, minus⟩) s (fun t =>
        (t.lane i).p (Out.contactorState o) = if plus = .opened ∧ minus = .opened then 0
          else if plus = .closed ∧ minus = .closed then 1 else if plus = .moving ∨ minus = .moving then 2 else 3))
    ∧ ((s.lane i).ss o = ssConnect → (s.lane i).sc o (Out.coolMode o) = 1 → (s.lane i).p (Out.coolReady o) = 0 →
      ((s.lane i).out o).stepLap + msLaps 10000 ≤ (s.lane i).lap →
      Does (.coolNotReadyTimeout o) s (fun t => ((t.lane i).out o).faulted = true
        ∧ (t.lane i).ss o = if (s.lane i).contactorsClosed o then ssDischarge else ssUnlatch))
    ∧ (∀ t0, ((s.lane i).out o).isoSince = some t0 → (s.lane i).ss o = ssIsolation →
      t0 + msLaps ((s.lane i).scn o (Out.isoHoldMs o)) ≤ (s.lane i).lap →
      Does (.isolationPass o) s (fun t => ((t.lane i).out o).isoPassed = true))
    ∧ (∀ t0, ((s.lane i).out o).tolSince = some t0 → (s.lane i).ss o = ssPrecharge → t0 + msLaps 20 ≤ (s.lane i).lap →
      Does (.prechargeReached o) s (fun t => ((t.lane i).out o).preReached = true))
    ∧ (((s.lane i).ss o = ssIsolation ∨ (s.lane i).ss o = ssPrecharge) → 4001 ≤ ((s.lane i).out o).shortCount →
      Does (.prechargeShort o) s (fun t => (t.lane i).ss o = ssDischarge ∧ ((t.lane i).out o).failNext = true
        ∧ ((t.lane i).out o).faulted = true))
    ∧ ((s.lane i).ss o = ssRampdown → (s.lane i).currentLow o = true → ((s.lane i).out o).stopAsked = true →
      Does (.rampdownComplete o) s (fun t => (t.lane i).ss o = ssEvOpen ∧ Responds t i o 14 rcOk []))
    ∧ ((s.lane i).ss o = ssRampdown → (s.lane i).currentLow o = true → ((s.lane i).out o).stopAsked = false →
      ((s.lane i).out o).tls.up = false → Does (.rampdownComplete o) s (fun t => (t.lane i).ss o = ssEvOpen))
    ∧ ((s.lane i).ss o = ssDischarge → (s.lane i).cableSafe o = true →
      Does (.dischargeComplete o) s (fun t => ((t.lane i).ss o = ssOpen ∨ (t.lane i).ss o = ssUnlatch)
        ∧ (((s.lane i).out o).vOwn ≤ 60000 → ((t.lane i).out o).discharge = none)))
    ∧ (∀ n, ((s.lane i).out o).openFor = some n → (s.lane i).p (Out.proxState o) = 1 → msLaps 1000 ≤ n →
      Does (.plugCycle o) s (fun t => ((t.lane i).out o).openFor = none ∧ bitAt ((t.lane i).out o).holds 1 = false))
    ∧ (∀ n, (s.lane i).ss o = ssEvOpen → (s.lane i).stepLimit o = some (some n, 0) →
      (s.lane i).limitFrom o + n ≤ (s.lane i).lap →
      Does (.stepLimitExpiry o) s (fun t => (t.lane i).ss o = ssDischarge))
    ∧ (∀ n code, (s.lane i).ss o ∈ [ssPlugged, ssLink, ssConnect, ssIsolation, ssPrecharge, ssEvClose, ssCharge] →
      (s.lane i).stepLimit o = some (some n, code) → (s.lane i).limitFrom o + n ≤ (s.lane i).lap →
      Does (.stepLimitExpiry o) s (fun t => ((t.lane i).out o).faulted = true
        ∧ ((t.lane i).ss o = ssRampdown ∨ (t.lane i).ss o = ssDischarge ∨ (t.lane i).ss o = ssUnlatch)))
    ∧ (∀ n, (s.lane i).ss o = ssUnlatch → (s.lane i).stepLimit o = some (some n, 3) →
      (s.lane i).limitFrom o + n ≤ (s.lane i).lap →
      Does (.stepLimitExpiry o) s (fun t => (t.lane i).ss o = ssBlocked ∧ ((t.lane i).out o).faulted = true))
    ∧ (∀ e, e < 4 → Does (.sessionEngineIdle e) s (fun t => bitAt ((t.lane i).pn Pw.clockGate) e = true))

/-- R257, R265, R267, R268, R269, R298, R299. A lane whose always-on domain runs counts every sample in its tick and its legal clock, makes
a clock step that waits at the first sample of a later lap as an adjustment or a split, and takes the
sample of every metering point into the running cycle or the point's latest values, tagged with team time; a cycle that ends in range
gives the frequency and the quadrant, one outside it puts the point on fixed blocks; a fixed block of 160 samples is counted; and an
NTC reading in range is the point's temperature, one outside it is counted and the last one kept. -/
def Obligations.MeterSamples : Prop :=
  ∀ (s : State) (i : LaneId), (s.lane i).alwaysOn = true →
    (∀ ms, (s.lane i).met.clockSteps = [] → Does (.meteringSample i ms) s (fun t =>
      (t.lane i).met.tick = (s.lane i).met.tick + 1 ∧ (t.lane i).met.legal = (s.lane i).met.legal + 1))
    ∧ (∀ (ms : MeterSample) (n : Nat) (d : Int) (w : Bool), (s.lane i).met.clockSteps = [⟨n, d, w⟩] → n < (s.lane i).lap →
      Does (.meteringSample i ms) s (fun t => (t.lane i).met.clockSteps = [] ∧ (t.lane i).met.tick = (s.lane i).met.tick + 1
        ∧ (t.lane i).met.legal = (((s.lane i).legalMs + d) * 8).toNat + 1
        ∧ (w = true → (t.lane i).p Cal.adjWithin = (s.lane i).p Cal.adjWithin + 1
          ∧ (t.lane i).p Cal.clockState = (s.lane i).p Cal.clockState ∧ (t.lane i).p Cal.splits = (s.lane i).p Cal.splits)
        ∧ (w = false → (t.lane i).p Cal.splits = (s.lane i).p Cal.splits + 1
          ∧ (t.lane i).p Cal.clockState = 0 ∧ (t.lane i).p Cal.adjWithin = (s.lane i).p Cal.adjWithin)))
    ∧ (∀ (ms : MeterSample) (n : Nat), n < 8 → (s.lane i).met.clockSteps = [] → (s.lane i).metRuns = true → (s.lane i).metEnabled n = true →
      (s.lane i).inReset 5 n = false → (s.lane i).p Mp.mpState ≠ 2 → (s.lane i).p Mp.refState ≠ 1 → (ms.ac.find? (fun e => e.1 == n)).isSome = true →
      Does (.meteringSample i ms) s (fun t => ((t.lane i).acPt n).n = ((s.lane i).acPt n).n + 1
        ∧ ((t.lane i).acPt n).buf.head?.map AcSample.tag = some (s.lane i).pacer.teamTime))
    ∧ (∀ (ms : MeterSample) (d : Nat), d < 32 → (s.lane i).met.clockSteps = [] → (s.lane i).metRuns = true →
      (s.lane i).inReset 5 (256 + d) = false → (s.lane i).p Mp.mpState ≠ 2 → (s.lane i).p Mp.refState ≠ 1 → (ms.dc.find? (fun e => e.1 == d)).isSome = true →
      Does (.meteringSample i ms) s (fun t => ((t.lane i).dcPt d).seen = true
        ∧ ((t.lane i).dcPt d).tag = (s.lane i).pacer.teamTime ∧ ((t.lane i).dcPt d).v1 = ((s.lane i).dcPt d).v))
    ∧ (∀ n, n < s.chassis.variant.acPoints → (s.lane i).metRuns = true → (s.lane i).metEnabled n = true →
      (∀ now c t256, (s.lane i).crossing n = some now → ((s.lane i).acPt n).cross = some c → now = c + t256 →
        (29266 ≤ t256 → t256 ≤ 48762 → ((s.lane i).acPt n).fixed = false → (s.lane i).p Mp.refState ≠ 1 →
          Does (.cycleEnd i n now) s (fun t => ((t.lane i).acPt n).period = t256 ∧ ((t.lane i).acPt n).cross = some now
            ∧ (t.lane i).p (Ac.freqMhz n) = (1000 * 1000000 * 256 : Int).tdiv (t256 * 125)
            ∧ ∀ tot, tot = (s.lane i).blockTotals n 1 (((s.lane i).acPt n).n - 1) →
              (t.lane i).p (Ac.quadrant n) = quadrant tot.1 tot.2.1))
        ∧ ((t256 < 29266 ∨ 48762 < t256) →
          Does (.cycleEnd i n now) s (fun t => ((t.lane i).acPt n).fixed = true ∧ ((t.lane i).acPt n).cross = some now)))
      ∧ ((s.lane i).inBlocks n = true → 160 ≤ ((s.lane i).acPt n).n →
        Does (.fixedBlockEnd i n) s (fun t => (t.lane i).p (Ac.fixedBlocks n) = (s.lane i).p (Ac.fixedBlocks n) + 1)))
    ∧ (∀ m, (m < s.chassis.variant.acPoints ∨ 8 ≤ m ∧ m < 8 + s.chassis.variant.dcPoints) → (s.lane i).metRuns = true →
      (∀ ohm v, (s.lane i).ntcValue m ohm = some v → -50000 ≤ v → v ≤ 150000 →
        Does (.ntcRead i m ohm) s (fun t => (t.lane i).p (sensorAt m) = v
          ∧ (t.lane i).p (ntcFaultsAt m) = (s.lane i).p (ntcFaultsAt m)))
      ∧ (∀ ohm, ((s.lane i).ntcValue m ohm).all (fun v => decide (v < -50000 ∨ 150000 < v)) = true →
        Does (.ntcRead i m ohm) s (fun t => (t.lane i).p (sensorAt m) = ((s.lane i).ntcOf m).t
          ∧ (t.lane i).p (ntcFaultsAt m) = (s.lane i).p (ntcFaultsAt m) + 1)))

/-- R258, R259, R272, R306, R309. At lap 2 control takes the holder's set; the standby's legal clock follows the holder's, and its
supervision takes the holder's samples; every second the deviation of the lanes' energies is shown, counted where it is too large, and
the second's energies start again; and the holder's signed record and interval record take the place of the standby's own. -/
def Obligations.MeterBesideHolder : Prop :=
  ∀ (s : State) (i : LaneId), (s.lane i).active = true → s.holder = some i.other →
    ((s.lane i).lapIn = 2 → Does .controlSetReceive s (fun t => (t.lane i).alloc.ctl = (s.lane i.other).met.own))
    ∧ ((s.lane i.other).met.clockSteps = [] →
      Does .holderSampleReceive s (fun t => (t.lane i).met.legal = (s.lane i.other).met.legal
        ∧ ∀ o, o < s.chassis.variant.outlets → (t.lane i).p (Out.vCableMv o) = (s.lane i.other).dcMv o
          ∧ (t.lane i).p (Out.iOutletMa o) = (s.lane i.other).dcMa o))
    ∧ Does .meterLaneCompare s (fun t => (t.lane i).met.secE = [] ∧ (t.lane i.other).met.secE = []
        ∧ ∀ m, m < 40 → (s.lane i).metEnabled m = true →
          (t.lane i).p (devPpmAt m) = laneDevPpm (s.lane i).met.secE (s.lane i.other).met.secE m
          ∧ (t.lane i).p (devEventsAt m)
            = (s.lane i).p (devEventsAt m) + (if (s.lane i).devLarge (s.lane i.other).met.secE m = true then 1 else 0))
    ∧ (∀ n r, (s.lane i.other).met.records.find? (fun r => decide (r.no = n)) = some r →
      (∃ e ∈ (s.lane i).met.records, e.no = n) → r.gen = (s.lane i).p (Out.sessionGen r.outlet) →
      Does (.signedRecordReceive n) s (fun t => r ∈ (t.lane i).met.records))
    ∧ (∀ m r, (s.lane i).met.copied = true → m ∈ (s.lane i).metPoints →
      (s.lane i.other).lastRecord m = some r → (m < 8 ∨ r.gen = (s.lane i).pn (Out.sessionGen (m - 8))) → (∃ e, (s.lane i).lastRecord m = some e ∧ e.endMs = r.endMs) →
      Does .intervalAdoption s (fun t => r ∈ (t.lane i).met.profile))

/-- R273, R280, R312, R313, R388. The checks of the metrology processor: a reference beyond 100 ppm is a fault and one within it none; a differing
image CRC is a fault; a change of the CAL SEAL switch is shown, counted and flags the running records when it opens; and a tamper
condition that is due is counted as a record not acknowledged, where one of R387's waits for the outcome of a key message under way. -/
def Obligations.MeterChecks : Prop :=
  ∀ (s : State) (i : LaneId), (s.lane i).alwaysOn = true →
    (∀ ppm, Does (.referenceCheck i ppm) s (fun t => (t.lane i).p Mp.refDevPpm = ppm
      ∧ (t.lane i).p Mp.refState = if 100 < absN ppm then
          (if (s.lane i).p Mp.refState = 0 then 1 else (s.lane i).p Mp.refState) else 0))
    ∧ (∀ (crc : Nat) (same good : Bool), good = (match (s.lane i).link.metCrc with | some c => decide (crc = c) | none => same) →
      Does (.mpCrcCheck i crc same) s (fun t => (t.lane i).p Mp.mpCrc = crc ∧ (t.lane i).p Mp.mpState = if good then 0 else 1))
    ∧ (∀ opened : Bool, (s.lane i).met.lossTicks = none → (s.lane i).p Cal.sealState ≠ (if opened then 1 else 0) →
      Does (.sealChange opened) s (fun t => t.chassis.sealOpen = opened ∧ (t.lane i).p Cal.sealState = (if opened then 1 else 0)
        ∧ (t.lane i).p Cal.sealCounter = (s.lane i).p Cal.sealCounter + 1
        ∧ (opened = true → ∀ m ∈ (s.lane i).metPoints, bitAt ((t.lane i).openI m).flags 5 = true)))
    ∧ (∀ cause point clearMs downMs values, (s.lane i).met.lossTicks = none → (s.lane i).tamperDue cause point clearMs = true →
      (((s.lane i).keys.apply = none ∨ cause < 4) → Does (.tamperRecord cause point ⟨clearMs, downMs⟩ values) s (fun t =>
        (t.lane i).p Cal.tamperCounter = ((s.lane i).pn Cal.tamperCounter + 1 : Nat)
        ∧ (t.lane i).p Cal.tamperUnacked = (s.lane i).p Cal.tamperUnacked + 1))
      ∧ (∀ a, (s.lane i).keys.apply = some a → 4 ≤ cause → (∀ x ∈ a.tampers, x.1 ≠ cause ∨ x.2.1 ≠ point) →
        Does (.tamperRecord cause point ⟨clearMs, downMs⟩ values) s (fun t =>
          (t.lane i).keys.apply = some { a with tampers := a.tampers ++ [(cause, point, clearMs, values)] }
          ∧ (t.lane i).p Cal.tamperCounter = (s.lane i).p Cal.tamperCounter)))

/-- R274, R275, R277. A pulse input counts an ON state that has lasted `s0_min_on_ms` once; one too short is a glitch; one too long, or counts
that differ between the lanes, is a fault; and the baton holder's pulse outputs emit what is backlogged. -/
def Obligations.PulseRows : Prop :=
  ∀ (s : State) (i : LaneId) (n : Nat), n < 16 → (s.lane i).alwaysOn = true → (s.lane i).c (S0.s0Enable n) = 1 →
    (∀ ms, (s.lane i).cn (S0.s0MinOnMs n) ≤ ms → ((s.lane i).s0 n).counted = false →
      Does (.s0Pulse i n ms) s (fun t => (t.lane i).p (S0.s0Count n) = (s.lane i).p (S0.s0Count n) + 1
        ∧ (t.lane i).p (S0.s0State n) = 1 ∧ ((t.lane i).s0 n).counted = true))
    ∧ (∀ ms, ((s.lane i).s0 n).counted = true →
      Does (.s0Pulse i n ms) s (fun t => (t.lane i).p (S0.s0Count n) = (s.lane i).p (S0.s0Count n)))
    ∧ (∀ ms, (s.lane i).cn (S0.s0MaxOnMs n) < ms → ((s.lane i).s0 n).onMs ≠ none →
      Does (.s0Stuck i n ms) s (fun t => (t.lane i).p (S0.s0Fault n) = 1))
    ∧ (((s.lane i).s0 n).onMs ≠ none → ((s.lane i).s0 n).counted = false →
      Does (.s0OffTransition i n) s (fun t => (t.lane i).p (S0.s0Glitches n) = (s.lane i).p (S0.s0Glitches n) + 1
        ∧ (t.lane i).p (S0.s0State n) = 0 ∧ (t.lane i).p (S0.s0Count n) = (s.lane i).p (S0.s0Count n)))
    ∧ ((s.lane i).active = true → (s.lane i).p (S0.s0Count n) ≠ (s.lane i.other).p (S0.s0Count n) →
      Does (.s0LaneDisagree n) s (fun t => (t.lane i).p (S0.s0Fault n) = 2))
    ∧ (∀ u, u < 4 → s.asleep = false → s.holder = some i →
      (((s.lane i).po u).level = false → ((s.lane i).po u).width ≤ (s.lane i).met.tick - ((s.lane i).po u).since →
        0 < (s.lane i).p (Po.poBacklog u) →
        Does (.pulseOutputTick u) s (fun t => ((t.lane i).po u).level = true
          ∧ (t.lane i).p (Po.poBacklog u) = (s.lane i).p (Po.poBacklog u) - 1))
      ∧ (((s.lane i).po u).level = true → ((s.lane i).po u).width ≤ (s.lane i).met.tick - ((s.lane i).po u).since →
        Does (.pulseEnd u) s (fun t => ((t.lane i).po u).level = false
          ∧ (t.lane i).p (Po.poEmitted u) = (s.lane i).p (Po.poEmitted u) + 1)))

/-- R290, R293, R295, R303, R315. At a boundary of local time the interval of every metering point closes with a record and the next one's
end is set; at the close of a billing period its record is kept and the number advances; every minute the tariff in force is looked up, from
the one that the day began with; all three wait while the supply is lost; and the display scrolls on to the next item after its dwell, from
the last one to the first. -/
def Obligations.BillingRows : Prop :=
  ∀ (s : State) (i : LaneId), (s.lane i).alwaysOn = true →
    ((s.lane i).met.lossTicks = none → (s.lane i).met.nextBoundary ≤ (s.lane i).localMs →
      Does .intervalClose s (fun t => (t.lane i).met.lastBoundary = (s.lane i).met.nextBoundary
        ∧ (t.lane i).met.nextBoundary = (s.lane i).boundaryAfter (s.lane i).met.nextBoundary
        ∧ ∀ m ∈ (s.lane i).metPoints, ∃ r ∈ (t.lane i).met.profile, r.point = m ∧ r.seq = (s.lane i).pn (seqAddr m) + 1
          ∧ r.endMs = (s.lane i).toUtc (s.lane i).met.nextBoundary))
    ∧ ((s.lane i).met.lossTicks = none → nextBilling (s.lane i).cfg (s.lane i).met.lastPeriod ≤ (s.lane i).localMs →
      Does .billingClose s (fun t => (t.lane i).met.lastPeriod = nextBilling (s.lane i).cfg (s.lane i).met.lastPeriod
        ∧ (t.lane i).p Cal.periodNo = ((s.lane i).pn Cal.periodNo + 1 : Nat)
        ∧ (t.lane i).met.periods.head?.map PeriodRec.no = some ((s.lane i).pn Cal.periodNo)))
    ∧ (∀ new, new = tariffAt (s.lane i).cfg ((s.lane i).eveTariff ((s.lane i).localMs / dayMs)) (s.lane i).localMs →
      (s.lane i).met.lossTicks = none → (s.lane i).localMs < (s.lane i).met.nextBoundary →
      (s.lane i).localMs < nextBilling (s.lane i).cfg (s.lane i).met.lastPeriod → new ≠ (s.lane i).tariff →
      Does .tariffEvaluation s (fun t => (t.lane i).p Cal.tariffNow = new))
    ∧ ((s.lane i).met.lossTicks.isSome = true → Does .intervalClose s (fun t => t.lane i = s.lane i)
      ∧ Does .billingClose s (fun t => t.lane i = s.lane i) ∧ Does .tariffEvaluation s (fun t => t.lane i = s.lane i))
    ∧ ((s.lane i).met.displayLap + 200000 * (s.lane i).cn Cal.scrollDwellS ≤ (s.lane i).proxClock →
      Does .displayScroll s (fun t => (t.lane i).met.displayLap = (s.lane i).proxClock
        ∧ (t.lane i).met.display = (if 32 ≤ (s.lane i).met.display + 1
            ∨ bitsAt ((s.lane i).cn (Cal.scroll ((s.lane i).met.display + 1))) 31 24 = 0 then 0 else (s.lane i).met.display + 1)))

/-- R321, R322, R326, R329, R343, R340. What trips function 0, the emergency stop: an emergency stop contact open in both channels' samples of
a lane that holds the baton, a latch that the other lane sends, a member's telegrams missing for 13 ms, and a SAFE LOOP IN on which a
channel has seen no test pulse for 1,100 ms, each channel by itself. -/
def Obligations.EmergencyStop : Prop :=
  ∀ (s : State) (i : LaneId),
    (∀ c : SafetyInputs, (s.lane i).active = true → (s.lane i).link.state = .holder → (s.lane i).filtersKnown = true →
      (s.lane i).safe.chanFault = false → (s.lane i).safe.diffRun = 0 → c.estop1 = false → Does (.safetyCycle i c c) s (fun t => Tripped (t.lane i) 0))
    ∧ (∀ n, (s.lane i).alwaysOn = true → (n < 3 ∨ 16 ≤ n ∧ n < 16 + 8 * 32 ∧ n % 8 < 7) → n ∈ (s.lane i.other).safe.trip1 →
      Does (.tripLatchReceive i n) s (fun t => Tripped (t.lane i) n))
    ∧ (∀ m, s.chassis.variant.team = true → (s.lane i).active = true → (s.lane i).c SafM.teamSafety = 1 →
      (s.lane i).safetyMembers.contains m = true → ((s.lane i).tgSender m).time + 13000000 < (s.lane i).pacer.teamTime →
      ((s.lane i).tgSender m).late = false →
      Does (.telegramTimeout m) s (fun t => Tripped (t.lane i) 0
        ∧ (t.lane i).p SafM.tgTimeouts = (s.lane i).p SafM.tgTimeouts + 1))
    ∧ (∀ n1 n2, n1 = max (s.lane i).safe.con1.pulseLap (s.lane i).safe.startLap + msLaps 1100 →
      n2 = max (s.lane i).safe.con2.pulseLap (s.lane i).safe.startLap + msLaps 1100 →
      (s.lane i).active = true → (s.lane i).c SafM.loopMode = 1 →
      (n1 ≤ (s.lane i).lap → n2 ≤ (s.lane i).lap →
        Does (.loopTestPulseTimeout i) s (fun t => Tripped (t.lane i) 0 ∧ (t.lane i).p SafM.loopState = 3))
      ∧ (n1 ≤ (s.lane i).lap ∨ n2 ≤ (s.lane i).lap →
        Does (.loopTestPulseTimeout i) s (fun t => (t.lane i).p (fnAddr 0) = fnTripped ∧ (t.lane i).p SafM.loopState = 3
          ∧ (n1 ≤ (s.lane i).lap → 0 ∈ (t.lane i).safe.trip1) ∧ (n2 ≤ (s.lane i).lap → 0 ∈ (t.lane i).safe.trip2)))
      ∧ ((s.lane i).lap < n1 → (s.lane i).lap < n2 →
        Does (.loopTestPulseTimeout i) s (fun t => (t.lane i).safe.trip1 = (s.lane i).safe.trip1
          ∧ (t.lane i).safe.trip2 = (s.lane i).safe.trip2 ∧ (t.lane i).p SafM.loopState = (s.lane i).p SafM.loopState)))
    ∧ ((s.lane i).active = true → (s.lane i).c SafM.loopMode = 1 →
      Does .safeLoopIn s (fun t => t.chassis.loopGate = true ∧ (t.lane i).safe.loopIn = false))

/-- R327, R328, R349. A RESET edge that was open for 200 ms and closed for 50 ms makes every `RESETTABLE` function healthy (an outlet's
function 5: what the state of its cooling gives) and takes its latch away while a lane is granted the baton, and is held while none is; a shorter one has no effect. -/
def Obligations.ResetEdge : Prop :=
  ∀ (s : State) (i : LaneId) (n openMs closedMs : Nat), (s.lane i).alwaysOn = true →
    (n < 3 ∨ 16 ≤ n ∧ n < 16 + 8 * s.chassis.variant.outlets ∧ n % 8 < 7) →
    (200 ≤ openMs → 50 ≤ closedMs →
      (s.arbiter.grant ≠ none → (s.lane i).p (fnAddr n) = fnResettable →
        Does (.resetEdge i openMs closedMs) s (fun t => (t.lane i).p (fnAddr n) = (s.lane i).fnRest n
          ∧ n ∉ (t.lane i).safe.trip1 ∧ n ∉ (t.lane i).safe.trip2))
      ∧ (s.arbiter.grant ≠ none → (s.lane i).p (fnAddr n) = fnTripped →
        Does (.resetEdge i openMs closedMs) s (fun t => (t.lane i).p (fnAddr n) = fnTripped))
      ∧ (s.arbiter.grant = none →
        Does (.resetEdge i openMs closedMs) s (fun t => (t.lane i).safe.resetHeld = true
          ∧ (t.lane i).p (fnAddr n) = (s.lane i).p (fnAddr n))))
    ∧ (openMs < 200 ∨ closedMs < 50 →
      Does (.resetEdge i openMs closedMs) s (fun t => (t.lane i).safe.trip1 = (s.lane i).safe.trip1
        ∧ (t.lane i).safe.trip2 = (s.lane i).safe.trip2 ∧ (t.lane i).safe.resetHeld = (s.lane i).safe.resetHeld
        ∧ (t.lane i).p (fnAddr n) = (s.lane i).p (fnAddr n)))

/-- R336, R337, R333, R346, R347. At lap 20 of its epoch the holder pulses an energised safety output; after its width the pulse ends, and
where the read-back did not follow it the fault is counted and function 2 trips. An outlet whose cable is above 60 V a second after its
stop trips its function 4; one whose degraded time has expired and that still carries more than 5 A after 2 s trips its function 5; and
the backup discharge is checked once. -/
def Obligations.ProtectionPulses : Prop :=
  (∀ (s : State) (i : LaneId) (x : Nat), s.holder = some i →
    (s.energised x = true → (s.lane i).lapIn = 20 → (s.lane i).epoch % 500 ∈ pulseEpochs x →
      Does (.testPulseStart x) s (fun t => (x, (s.lane i).lap) ∈ (t.lane i).safe.pulses))
    ∧ (∀ e, (s.lane i).safe.pulses.find? (fun e => e.1 == x) = some e →
      e.2 + (s.lane i).cn SafM.tpWidthUs / 5 ≤ (s.lane i).lap →
      Does (.testPulseEnd x true) s (fun t => ∀ y, (x, y) ∉ (t.lane i).safe.pulses)
      ∧ (x < 3 → Does (.testPulseEnd x false) s (fun t => Tripped (t.lane i) 2
          ∧ (t.lane i).p SafM.tpFaults = (s.lane i).p SafM.tpFaults + 1))))
  ∧ (∀ (s : State) (i : LaneId) (o : Nat), o < s.chassis.variant.outlets → (s.lane i).active = true →
    (∀ t0, ((s.lane i).out o).discharge = some t0 → t0 + msLaps 1000 ≤ (s.lane i).lap → 60000 < ((s.lane i).out o).vOwn →
      Does (.dischargeSupervisionExpiry o) s (fun t => Tripped (t.lane i) (outFn o 4)))
    ∧ (∀ t0, ((s.lane i).out o).bdisOff = some t0 → t0 + msLaps 2000 ≤ (s.lane i).lap → 60000 < ((s.lane i).out o).vOwn →
      Does (.backupDischargeCheck o) s (fun t => ((t.lane i).out o).bdisOff = none))
    ∧ (∀ t0, UMap.get (fun _ => 0) (s.lane i).safe.expiredLap o = t0 + 1 → t0 + msLaps 2000 ≤ (s.lane i).lap →
      (s.lane i).p (Out.coolState o) = csExpired → 5000 < (s.lane i).ownAmps o →
      Does (.degradedCurrentCheck o) s (fun t => Tripped (t.lane i) (outFn o 5))))

/-- R342, R344, R334. Safety telegrams: one that passes its checks is held for comparison and one that does not is counted; a net that alone
has been silent for 13 ms is marked lost and degrades function 1; nets that agree for 10 s are restored; 300 s of degraded time trip
function 1; and 300 s of both nets clear that time. -/
def Obligations.TelegramRows : Prop :=
  ∀ (s : State) (i : LaneId), s.chassis.variant.team = true → (s.lane i).active = true →
    (∀ (net : Nat) (tg : Telegram), (tg.teamId : Int) = (s.lane i).c SafM.teamId → (s.lane i).safetyMembers.contains tg.sender = true →
      tg.crcOk = true → ((s.lane i).tgSender tg.sender).seq = none →
      tg.sendTime ≤ (s.lane i).pacer.teamTime → (s.lane i).pacer.teamTime ≤ tg.sendTime + 3000000 →
      Does (.safetyTelegramReceive net tg) s (fun t =>
        (t.lane i).safe.held = (s.lane i).safe.held ++ [⟨net, (s.lane i).lap, tg⟩]
        ∧ (t.lane i).p SafM.tgRejected = (s.lane i).p SafM.tgRejected))
    ∧ (∀ (net : Nat) (tg : Telegram), tg.crcOk = false →
      Does (.safetyTelegramReceive net tg) s (fun t => (t.lane i).safe = (s.lane i).safe
        ∧ (t.lane i).p SafM.tgRejected = (s.lane i).p SafM.tgRejected + 1))
    ∧ ((s.lane i).c SafM.teamSafety = 1 → bitAt ((s.lane i).pn SafM.netState) 0 = true →
      (s.lane i).safe.net1Lap + msLaps 13 ≤ (s.lane i).lap → (s.lane i).lap < (s.lane i).safe.net2Lap + msLaps 13 →
      (s.lane i).p (SafM.fnStateMod 1) = fnHealthy →
      Does (.netLost 1) s (fun t => bitAt ((t.lane i).pn SafM.netState) 0 = false
        ∧ (t.lane i).p (SafM.fnStateMod 1) = fnDegraded))
    ∧ ((s.lane i).c SafM.teamSafety = 1 → (s.lane i).safetyMembers ≠ [] →
      (∀ m ∈ (s.lane i).safetyMembers, ∃ t0 ∈ ((s.lane i).tgSender m).agree, t0 + msLaps 10000 ≤ (s.lane i).lap) →
      (s.lane i).pn SafM.netState = 2 → (s.lane i).p (SafM.fnStateMod 1) = fnDegraded →
      Does (.netRestored 1) s (fun t => (t.lane i).p SafM.netState = 3 ∧ (t.lane i).p (SafM.fnStateMod 1) = fnHealthy))
    ∧ ((s.lane i).p (SafM.fnStateMod 1) = fnDegraded → 300000 ≤ (s.lane i).p SafM.teamElapsedMs →
      Does .teamDegradedExpiry s (fun t => Tripped (t.lane i) 1))
    ∧ (∀ t0, (s.lane i).safe.bothLap = some t0 → t0 + msLaps 300000 ≤ (s.lane i).lap →
      Does .teamElapsedReset s (fun t => (t.lane i).p SafM.teamElapsedMs = 0))

/-- R356, R364, R389. The life of a cartridge: inserted, it is in reset; booted beside a holder it aligns, and without one it asks for the
baton; then copy, catch-up and shadow follow, each on the row that ends the one before, and 1,000 clean epochs make it the standby;
removed, it is absent, and an ejected cartridge that does not hold the baton is parked. -/
def Obligations.LaneLife : Prop :=
  ∀ (s : State) (i : LaneId),
    (∀ fresh mismatch serial, (s.lane i).link.state = .absent →
      Does (.laneInserted i fresh mismatch serial) s (fun t => (t.lane i).link.state = .reset
        ∧ (t.lane i).link.phase = .boot ∧ (t.lane i).p Hp.cartridgeSerial = serial))
    ∧ ((s.lane i).link.state = .reset → (s.lane i).power.fastOn = true → (s.lane i).link.parked = false →
      (s.lane i).link.mismatchCart = false → (s.lane i).therm.shut = false →
      (s.arbiter.grant = some i.other → Does (.bootComplete i) s (fun t =>
        (t.lane i).link.state = .resync ∧ (t.lane i).link.phase = .align))
      ∧ (s.arbiter.grant = none → (s.lane i).pacer.laps = true → (s.lane i).power.power ≠ 5 → (s.lane i).link.want = false →
        Does (.bootComplete i) s (fun t => (t.lane i).link.want = true ∧ (t.lane i).link.wantLap = s.lapNow
          ∧ (t.lane i).link.booted = true)))
    ∧ (s.arbiter.grant = some i.other →
      ((s.lane i).link.phase = .align → (s.lane i).pacer.laps = true → (s.lane i).lap = (s.lane i.other).lap →
        (s.lane i).hubsReady = true → Does (.resyncAlignComplete i) s (fun t =>
          (t.lane i).link.state = .resync ∧ (t.lane i).link.phase = .copy))
      ∧ ((s.lane i).link.phase = .copy → Does (.copyComplete i) s (fun t =>
          (t.lane i).link.phase = .catchup ∧ (t.lane i).cfg = (s.lane i.other).cfg))
      ∧ ((s.lane i).link.phase = .catchup → imagesEqual (s.lane i).imgs (s.lane i.other).imgs = true →
        Does (.catchupComplete i) s (fun t => (t.lane i).link.phase = .shadow ∧ (t.lane i).link.shadowClean = 0)))
    ∧ ((s.lane i).link.phase = .shadow → 1000 ≤ (s.lane i).link.shadowClean →
      Does (.shadowComplete i) s (fun t => (t.lane i).link.state = .standby ∧ (t.lane i).link.phase = .none))
    ∧ ((s.lane i).link.phase = .copy → (s.lane i).pacer.laps = true →
      (s.lane i).link.phaseLap + 60 * 200000 ≤ (s.lane i).lap →
      Does (.resyncPhaseTimeout i) s (fun t => (t.lane i).link.phase = .align
        ∧ (t.lane i).p Hp.resyncRestarts = (s.lane i).p Hp.resyncRestarts + 1))
    ∧ ((s.lane i).link.state ≠ .absent → Does (.laneRemoved i) s (fun t =>
        (t.lane i).link.state = .absent ∧ (t.lane i).link.want = false ∧ (t.lane i).pacer.laps = false))
    ∧ ((s.lane i).link.state = .standby → Does (.ejectOpen i) s (fun t =>
        (t.lane i).link.state = .reset ∧ (t.lane i).link.parked = true))
    ∧ ((s.lane i).link.state = .holder → Does (.ejectOpen i) s (fun t =>
        (t.lane i).link.state = .holder ∧ (t.lane i).link.ejectOpen = true))

/-- R30, R359, R360. How a lane leaves its place: a latched request to give up drops WANT, sets the release lap, and is counted with its
cause; a missed watchdog halts the holder, which keeps its place until the arbiter passes the baton, and resets a standby; a silent lane
link takes the standby back to alignment and leaves the holder; comparison CRCs that agree clear the standby's run, and those that differ
for no fault of a link are counted and begin one; and host ports that are down are noted. -/
def Obligations.LaneFaults : Prop :=
  ∀ (s : State) (i : LaneId), (s.lane i).active = true →
    (∀ c, (s.lane i).link.giveUp = some c → (s.lane i).link.want = true →
      Does (.giveUp i) s (fun t => (t.lane i).link.want = false ∧ (t.lane i).link.releaseLap = some (s.lane i).lap
        ∧ (t.lane i).p Hp.giveUpCause = c ∧ (t.lane i).p Hp.giveUps = (s.lane i).p Hp.giveUps + 1))
    ∧ ((s.lane i).link.state = .holder → Does (.watchdogMiss i) s (fun t =>
        (t.lane i).link.halted = some 1 ∧ (t.lane i).link.state = .holder ∧ t.arbiter = s.arbiter))
    ∧ ((s.lane i).link.state = .standby → Does (.watchdogMiss i) s (fun t =>
        (t.lane i).link.state = .reset ∧ (t.lane i).link.faultReset = true))
    ∧ (s.holder = some i.other → (s.lane i).link.state = .standby →
      Does .laneLinkTimeout s (fun t => (t.lane i).link.state = .resync ∧ (t.lane i).link.phase = .align
        ∧ (t.lane i.other).link.state = (s.lane i.other).link.state ∧ t.arbiter = s.arbiter)
      ∧ (blockDiffs (s.lane i) (s.lane i.other) = [] → Does .laneLinkCrcReceive s (fun t =>
          (t.lane i).link.state = .standby ∧ (t.lane i).link.cmpRun = 0
          ∧ (t.lane i).p Hp.cbMismatch = (s.lane i).p Hp.cbMismatch))
      ∧ (blockDiffs (s.lane i) (s.lane i.other) ≠ [] → (s.lane i).link.cmpRun = 0 →
        (∀ x ∈ blockDiffs (s.lane i) (s.lane i.other), linkCaused (s.lane i.other) (s.lane i) x = false) →
        Does .laneLinkCrcReceive s (fun t => (t.lane i).link.cmpRun = 1 ∧ (t.lane i).p Hp.cbMismatch
          = (s.lane i).p Hp.cbMismatch + ((blockDiffs (s.lane i) (s.lane i.other)).length : Nat))))
    ∧ Does (.hostPortsDown i) s (fun t => (t.lane i).link.portsDown = true)

/-- R353. The arbiter's grant at the first STROBE of a lap (a later one of the lap changes nothing): given, with the next baton number, to a lane that qualifies, of two to the one whose WANT rose first
and else to lane A; kept by a holder that is present, wants the baton and is live; passed, with the next baton number,
to the other lane where that qualifies; and taken back where neither does. -/
def Obligations.Grant : Prop :=
  (∀ (s : State) (h : LaneId), (s.lane h).lapping = true → s.arbiter.evaluated ≠ some s.lapNow → s.arbiter.grant = none → (s.lane h).qualifies s.lapNow = true →
    ((s.lane h.other).qualifies s.lapNow = true → (s.lane h).link.wantLap < (s.lane h.other).link.wantLap
      ∨ (h = .A ∧ (s.lane h).link.wantLap = (s.lane h.other).link.wantLap)) →
    Does .grantEvaluation s (fun t => t.arbiter.grant = some h ∧ t.arbiter.baton = (s.arbiter.baton + 1) % 2 ^ 32))
  ∧ (∀ s : State, s.arbiter.evaluated = some s.lapNow → Does .grantEvaluation s (fun t => t.arbiter = s.arbiter))
  ∧ ∀ (s : State) (h : LaneId), (s.lane h).lapping = true → s.arbiter.evaluated ≠ some s.lapNow → s.arbiter.grant = some h →
    ((s.lane h).present = true → (s.lane h).link.want = true → (s.lane h).liveWithin s.lapNow 2 = true →
      Does .grantEvaluation s (fun t => t.arbiter.grant = some h ∧ t.arbiter.baton = s.arbiter.baton))
    ∧ (((s.lane h).present = false ∨ (s.lane h).link.want = false ∨ (s.lane h).liveWithin s.lapNow 2 = false) →
      (s.lane h.other).qualifies s.lapNow = true →
      Does .grantEvaluation s (fun t => t.arbiter.grant = some h.other
        ∧ t.arbiter.baton = (s.arbiter.baton + 1) % 2 ^ 32))
    ∧ (((s.lane h).present = false ∨ (s.lane h).link.want = false ∨ (s.lane h).liveWithin s.lapNow 2 = false) →
      (s.lane h.other).qualifies s.lapNow = false →
      Does .grantEvaluation s (fun t => t.arbiter.grant = none ∧ t.arbiter.baton = s.arbiter.baton))

/-- R378, R384, R389. Keys: an engine, or the session engine that stands in for one in reset, gets a usable key of its slot, and a refusal is counted with the slot and the reason; the lanes agree on
an update the lap after it was asked for; two laps after it the agreed update takes effect or is refused and the store stays; and paired
cartridges hold the key they derived. -/
def Obligations.KeyRows : Prop :=
  ∀ (s : State) (i : LaneId), (s.lane i).active = true →
    (∀ e d k op, (s.lane i).serving e = some d → (s.lane i).deliveryStatus d k op = st_OK → Does (.keyDeliveryRequest i e k op) s (fun t =>
        (d, k, (slotOf (s.lane i).keys.slots k).ver) ∈ (t.lane i).keys.copies
        ∧ (t.lane i).p Key.engineRefusals = (s.lane i).p Key.engineRefusals))
    ∧ (∀ e k op, (s.lane i).serving e = none → Does (.keyDeliveryRequest i e k op) s (fun t => t.lane i = s.lane i))
    ∧ (∀ e d k op, (s.lane i).serving e = some d → (s.lane i).deliveryStatus d k op ≠ st_OK → Does (.keyDeliveryRequest i e k op) s (fun t =>
        (t.lane i).keys = (s.lane i).keys ∧ (t.lane i).p Key.engineRefusals = (s.lane i).p Key.engineRefusals + 1))
    ∧ (∀ a b, (s.lane i).keys.apply = some a → (s.lane i.other).keys.apply = some b → (s.lane i).lap = a.lap + 1 →
      Does .keyDigestExchange s (fun t => (t.lane i).keys.apply
        = some { a with agreed := some (decide (a.status = b.status ∧ a.trial = b.trial)) }))
    ∧ (∀ a, (s.lane i).keys.apply = some a → a.lap + 2 ≤ (s.lane i).lap →
      ((s.lane i).keyVerdict a (s.inStepBeside i) = st_OK → Does .keyCommitPoint s (fun t =>
        (t.lane i).keys.apply = none ∧ (t.lane i).keys.slots = a.trial ∧ (t.lane i).p Key.keyCounter = a.counter
        ∧ (t.lane i).p Key.updatesApplied = (s.lane i).p Key.updatesApplied + 1))
      ∧ ((s.lane i).keyVerdict a (s.inStepBeside i) ≠ st_OK → Does .keyCommitPoint s (fun t =>
        (t.lane i).keys.apply = none ∧ (t.lane i).keys.slots = (s.lane i).keys.slots
        ∧ (t.lane i).p Key.updatesRefused = (s.lane i).p Key.updatesRefused + 1)))
    ∧ (∀ secret, s.a.present = true → s.b.present = true →
      Does (.cartridgePairing true secret) s (fun t => (t.lane i).keys.linkKey = some (linkKeyOf secret))
      ∧ Does (.cartridgePairing false secret) s (fun t => (t.lane i).keys.linkKey = none))

/-- R96 to R98, R101, R106, R108, R109. The Pacer of a lane whose fast domain is on: references that qualify and fail; in the lane that
steers, the states `TRACK`, `HOLDOVER`, `RETURN` and `FREE` in turn, while a lane beside the holder follows the holder's state; a marker
that does not meet lap 0, the PLL's band, and the start of the laps at an epoch's start. -/
def Obligations.PacerRows : Prop :=
  ∀ (s : State) (i : LaneId), (s.lane i).present = true → (s.lane i).power.fastOn = true →
    Does (.refinQualified i) s (fun t => (t.lane i).pacer.refinOk = true)
    ∧ Does (.synciQualified i) s (fun t => (t.lane i).pacer.synciOk = true)
    ∧ (s.holder = some i.other → (s.lane i).lapping = true → (s.lane i.other).pcState ≠ pcSearch →
      Does (.refinLost i) s (fun t => (t.lane i).pcState = (s.lane i.other).pcState))
    ∧ (s.steers i = true → (s.lane i).pacer.refinOk = true → (s.lane i).c Pc.pacerSource = 1 → (s.lane i).pcState = pcTrack →
      Does (.refinLost i) s (fun t => (t.lane i).pcState = pcHoldover ∧ (t.lane i).pacer.refinOk = false
        ∧ (t.lane i).p Pc.refinLosses = (s.lane i).p Pc.refinLosses + 1))
    ∧ (s.steers i = true → (s.lane i).pacer.synciOk = true → (s.lane i).c Pc.pacerSource = 2 → (s.lane i).pcState = pcTrack →
      Does (.synciLost i) s (fun t => (t.lane i).pcState = pcHoldover ∧ (t.lane i).pacer.synciOk = false
        ∧ (t.lane i).p Pc.synciLosses = (s.lane i).p Pc.synciLosses + 1))
    ∧ (∀ freq ph, s.steers i = true → (s.lane i).pcState = pcAcquire → (s.lane i).sourceOk = true → (s.lane i).c Pc.pacerSource ≠ 3 →
      Does (.acquireComplete i freq ph) s (fun t => (t.lane i).pcState = pcTrack
        ∧ (t.lane i).p Pc.freqOffset = freq ∧ (t.lane i).p Pc.phaseError = ph))
    ∧ (s.steers i = true → (s.lane i).pcState = pcHoldover → (s.lane i).pacer.enteredLap + 2000000 ≤ (s.lane i).lap →
      Does (.holdoverExpiry i) s (fun t => (t.lane i).pcState = pcReturn))
    ∧ (s.steers i = true → (s.lane i).pcState = pcReturn →
      Does (.returnComplete i) s (fun t => (t.lane i).pcState = pcFree ∧ (t.lane i).p Pc.freqOffset = 0))
    ∧ ((s.lane i).pacer.laps = true → (s.lane i).lapIn ≠ 0 →
      Does (.epochMarkerMisaligned i) s (fun t => (t.lane i).p Pc.epochMisaligned
        = if (s.lane i).lapIn < 100 then ((s.lane i).lapIn : Int) else ((s.lane i).lapIn : Int) - 200))
    ∧ (∀ band, (s.lane i).pacer.laps = false → Does (.bandSearchLock i band) s (fun t =>
        (t.lane i).pacer.locked = true ∧ (t.lane i).p Pc.band = (band % 16 : Nat)))
    ∧ ((s.lane i).pacer.laps = false → (s.lane i).pacer.locked = true → (s.lane i).link.parked = false →
      (s.lane i).link.mismatchCart = false → (s.lane i.other).lapping = false →
      Does (.lapsStart i) s (fun t => (t.lane i).pacer.laps = true
        ∧ (t.lane i).lap = 200 * ((s.lane i).pacer.aoEpoch + 1)))

/-- R110, R111. Team time: an announced better clock becomes the master and the clock follows it; the boundary clock's own messages are
numbered; and a time of day that the host writes waits for the epoch's end unless a master sets it. -/
def Obligations.TeamTime : Prop :=
  ∀ (s : State) (i : LaneId), (s.lane i).active = true →
    (s.chassis.variant.team = true → (s.lane i).p Pc.ptpState ≠ 0 →
      (∀ port prio clock, (s.lane i).pacer.best = none →
        betterMaster prio clock ((s.lane i).cn Pc.ptpPriority1) (s.lane i).serial = true →
        Does (.ptpMessage port (.announce ((s.lane i).cn Pc.ptpDomain) prio clock)) s (fun t =>
          (t.lane i).pacer.best = some (prio, clock, port) ∧ (t.lane i).p Pc.ptpState = 2))
      ∧ (∀ port d, Does (.ptpMessage port (.pdelay d)) s (fun t => UMap.get (fun _ => 0) (t.lane i).pacer.peerDelays port = d))
      ∧ (∀ port prio clock timeNs, (s.lane i).pacer.best = some (prio, clock, port) → (s.lane i).ptpFollows = true →
        Does (.ptpMessage port (.sync ((s.lane i).cn Pc.ptpDomain) clock timeNs)) s (fun t => (t.lane i).p Pc.ptpOffset
          = (s.lane i).pacer.teamTime - ((timeNs : Int) + UMap.get (fun _ => 0) (s.lane i).pacer.peerDelays port)))
      ∧ Does (.ptpSendInterval 1) s (fun t => (t.lane i).pacer.announceSeq = ((s.lane i).pacer.announceSeq + 1) % 65536)
      ∧ Does (.ptpSendInterval 0) s (fun t => (t.lane i).pacer.syncSeq = ((s.lane i).pacer.syncSeq + 1) % 65536)
      ∧ Does (.ptpSendInterval 2) s (fun t => (t.lane i).pacer.pdelaySeq = ((s.lane i).pacer.pdelaySeq + 1) % 65536))
    ∧ (∀ v, (s.lane i).ptpFollows = false →
      Does (.todSetWrite v) s (fun t => (t.lane i).pacer.todPending = some v))
    ∧ (∀ v, (s.lane i).ptpFollows = true → Does (.todSetWrite v) s (fun t => t.lane i = s.lane i))

/-- R31, R33, R45, R54, R55. An epoch's rows: the configuration of a validated trial takes effect at lap 0 and at no other row; the image
captured is sealed in laps 0 to 3 and stands as the latest from lap 4; at lap 160 a lane validates what is due; and at lap 190 the lanes that agree keep the trial, those that
differ count it and drop it. -/
def Obligations.EpochRows : Prop :=
  ∀ (s : State) (i : LaneId), (s.lane i).active = true →
    ((s.lane i).lapIn = 0 →
      ((s.lane i).host.trial = none → Does .epochBoundary s (fun t => (t.lane i).cfg = (s.lane i).cfg
        ∧ (t.lane i).pacer.aoEpoch = (s.lane i).pacer.aoEpoch))
      ∧ (∀ m, (s.lane i).host.trial = some m → m ≠ (s.lane i).cfg → Does .epochBoundary s (fun t =>
        (t.lane i).cfg = clearMoves m ∧ (t.lane i).host.trial = none)))
    ∧ (∀ img, (s.lane i).sealing = some img →
      ((s.lane i).lapIn < 4 → Does .imageSeal s (fun t =>
        (t.lane i).sealing = some img ∧ (t.lane i).sealDone = true ∧ (t.lane i).imgs = (s.lane i).imgs))
      ∧ ((s.lane i).lapIn = 4 → Does .imageSeal s (fun t =>
        (t.lane i).sealing = none ∧ (t.lane i).imgs = (img :: (s.lane i).imgs).take 64)))
    ∧ ((s.lane i).lapIn = 160 → (s.lane i).host.trial = none →
      Does .commitValidation s (fun t => (t.lane i).host.trial.isSome = true ∧ (t.lane i).cfg = (s.lane i).cfg))
    ∧ (s.holder = some i → (s.lane i).lapIn = 190 → (s.lane i).host.due ((s.lane i).epoch + 1) ≠ [] →
      (s.lane i).host.trial.isSome = true → (s.lane i.other).active = true → (s.lane i.other).link.state = .standby →
      s.mixed = false →
      ((s.lane i).host.trial = (s.lane i.other).host.trial →
        (s.lane i).host.due ((s.lane i).epoch + 1) = (s.lane i.other).host.due ((s.lane i).epoch + 1) →
        Does .commitDigestExchange s (fun t => (t.lane i).host.trial = (s.lane i).host.trial
          ∧ (t.lane i).p Hp.commitDisagree = (s.lane i).p Hp.commitDisagree))
      ∧ ((s.lane i).host.trial ≠ (s.lane i.other).host.trial →
        Does .commitDigestExchange s (fun t => (t.lane i).host.trial = none
          ∧ (t.lane i).p Hp.commitDisagree = (s.lane i).p Hp.commitDisagree + 1)))

/-- R296, R302, R303, R455. A lane's supply: its loss freezes the legal clock where it stands, supply that comes back within the hold-up sets
it on by the time lost, good supply starts the fast domain cold, and an exhausted backup store stops clock and lane. -/
def Obligations.SupplyRows : Prop :=
  ∀ (s : State) (i : LaneId),
    ((s.lane i).alwaysOn = true → (s.lane i).met.lossTicks = none →
      Does (.supplyLoss i) s (fun t => (t.lane i).met.lossTicks = some (s.lane i).met.legal))
    ∧ (∀ t0 ms clockOk ok0 ok1, (s.lane i).alwaysOn = true → (s.lane i).met.lossTicks = some t0 →
      Does (.supplyRestore i ms clockOk ok0 ok1 true) s (fun t =>
        (t.lane i).met.lossTicks = none ∧ (t.lane i).met.legal = t0 + ms * 8))
    ∧ ((s.lane i).present = true → (s.lane i).power.fastOn = false → (s.lane i).therm.shut = false →
      (s.lane i).power.power ≠ pwAsleep →
      Does (.supplyGood i) s (fun t => (t.lane i).power.fastOn = true ∧ (t.lane i).power.aoOn = true
        ∧ (t.lane i).power.power = pwStart))
    ∧ (∀ t0, (s.lane i).present = true → (s.lane i).met.lossTicks = some t0 →
      Does (.backupStoreExhausted i) s (fun t => (t.lane i).power.aoOn = false ∧ (t.lane i).power.fastOn = false
        ∧ (t.lane i).p Cal.clockState = 1))

/-- R462, R463, R465, R472. Going to sleep: the preconditions are checked at lap 160 of the epoch before and refuse it or let it go on; at lap
4 of the epoch it can no longer be cancelled and the bypass switches close; at lap 190 WANT drops and the lane that held the baton is the
keeper; at lap 199 the controller is `ASLEEP`; after `sleep_idle_s` it starts by itself; and a module restart puts a lane in reset. -/
def Obligations.SleepRows : Prop :=
  ∀ (s : State) (i : LaneId), (s.lane i).active = true →
    (∀ p, s.holder = some i → (s.lane i).power.sleep = some p →
      (p.checked = false → (s.lane i).epoch + 1 = p.epoch → (s.lane i).lapIn = 160 →
        (s.sleepCause (s.lane i) = 0 → Does .sleepPrecheck s (fun t =>
          (t.lane i).power.sleep = some { p with checked := true }))
        ∧ (s.sleepCause (s.lane i) ≠ 0 → Does .sleepPrecheck s (fun t => (t.lane i).power.sleep = none
          ∧ (t.lane i).p Pw.sleepRefusals = (s.lane i).p Pw.sleepRefusals + 1)))
      ∧ (p.checked = true → p.committed = false → (s.lane i).epoch = p.epoch → (s.lane i).lapIn = 4 →
        Does .sleepPoint s (fun t => (t.lane i).power.sleep = some { p with committed := true }
          ∧ t.chassis.bypass1 = true ∧ t.chassis.bypass2 = true)))
    ∧ (∀ p, (s.lane i).power.sleep = some p → p.committed = true → (s.lane i).epoch = p.epoch →
      ((s.lane i).lapIn = 190 → Does .sleepWantDrop s (fun t => (t.lane i).link.want = false
        ∧ (t.lane i).power.keeper = decide (s.arbiter.grant = some i)))
      ∧ ((s.lane i).lapIn = 199 → s.a.power.latched = none → s.b.power.latched = none →
        Does .asleepEntry s (fun t => (t.lane i).power.power = pwAsleep ∧ (t.lane i).power.fastOn = false
          ∧ (t.lane i).pacer.laps = false)))
    ∧ (∀ e, s.holder = some i → (s.lane i).c Pw.autoSleep = 1 → (s.lane i).power.power = pwReady →
      (s.lane i).power.sleep = none → (s.lane i).power.readySince = some e →
      e + 1000 * (s.lane i).cn Pw.sleepIdleS ≤ (s.lane i).epoch →
      (s.lane i).ttWithin ((s.lane i).cn Pw.sleepMinS) = false →
      Does .autoSleepStart s (fun t => (t.lane i).power.sleep.map SleepPrep.epoch = some ((s.lane i).epoch + 2)))
    ∧ (∀ (r : Request), (s.lane i).power.restart = some ((s.lane i).epoch, r) → (s.lane i).lapIn = 199 → (s.lane i).link.parked = false →
      (s.lane i).power.fastOn = true →
      Does .moduleRestartReset s (fun t => (t.lane i).link.state = .reset ∧ (t.lane i).link.want = false
        ∧ (t.lane i).power.restart = none ∧ (t.lane i).power.fastOn = true))

/-- R65, R466, R467, R469. In `ASLEEP` the epoch counter runs on; a wake source that is let wake starts every present lane, is latched on the
way into `ASLEEP`, and calls an entry off that is not yet committed; a timetable entry that is due is marked fired, and one an hour past its arrival is gone; and the other lane becomes the keeper 3 s after a wake that the
keeper has not followed. -/
def Obligations.WakeRows : Prop :=
  ∀ (s : State) (i : LaneId),
    ((s.lane i).alwaysOn = true → (s.lane i).power.power = 4 →
      Does (.asleepEpochTick i) s (fun t => (t.lane i).pacer.aoEpoch = (s.lane i).pacer.aoEpoch + 1))
    ∧ (∀ source, (s.lane s.wakeLane).wakes source = true → (s.lane i).present = true →
      (s.lane i).power.power = pwAsleep → Does (.wake source) s (fun t => (t.lane i).power.power = pwWaking ∧ (t.lane i).power.fastOn = true
        ∧ (t.lane i).p Pw.lastWakeSource = source))
    ∧ (∀ (source : Nat) (p : SleepPrep), (s.lane s.wakeLane).wakes source = true → (s.lane s.wakeLane).power.sleep = some p →
      (s.lane s.wakeLane).power.power ≠ pwAsleep → (s.lane s.wakeLane).power.power ≠ pwWaking →
      (p.committed = true → Does (.wake source) s (fun t =>
        ∀ j, (t.lane j).power.latched = some ((s.lane j).power.latched.getD source)))
      ∧ (p.committed = false → Does (.wake source) s (fun t => (t.lane s.wakeLane).power.sleep = none)))
    ∧ (∀ id e, (s.lane i).alwaysOn = true → (i = .A ∨ s.a.alwaysOn = false) → (s.lane i).ttReady id = some e →
      Does (.timetableDue id) s (fun t => { e with fired := true } ∈ (t.lane i).power.tt))
    ∧ (∀ id, (s.lane i).alwaysOn = true → Does (.timetableExpiry id) s (fun t =>
        ∀ e, e ∈ (t.lane i).power.tt ↔ (e ∈ (s.lane i).power.tt
          ∧ ¬(e.id = id ∧ (e.arrivalMs : Int) + 3600000 ≤ (s.lane i).legalMs))))
    ∧ ((s.lane i).power.power = pwWaking → (s.lane i).power.keeper = true → (s.lane i).link.want = false →
      s.arbiter.grant = none → (s.lane i.other).present = true → (s.lane i.other).power.power = pwWaking →
      (s.lane i.other).power.keeper = false → (s.lane i.other).power.wakeStartMs + 3000 ≤ (s.lane i.other).legalMs →
      Does .keeperTimeout s (fun t => (t.lane i).power.keeper = false ∧ (t.lane i.other).power.keeper = true))

/-- R479, R481, R484, R487, R488. Housekeeping of a lane: its round shows the supply, the highest temperature and the band; a fan below half its speed for 2 s is faulty and all run full;
memory errors are counted by device, and an uncorrectable one keeps its line; the scrubber goes on line by line; and a lane shut down in
the critical band counts its cool seconds and starts again. -/
def Obligations.HealthRows : Prop :=
  ∀ (s : State) (i : LaneId),
    ((s.lane i).present = true → (s.lane i).power.fastOn = true →
      (∀ (h : Housekeeping) (tm : Int), tm = ((s.lane i).roundSensors h).1.roundMax h →
        Does (.housekeepingRound i h) s (fun t => (t.lane i).p Pw.pwrInMv = h.pwrMv ∧ (t.lane i).p Pw.holdupMs = h.holdupMs
          ∧ (t.lane i).p Th.tMax = milliC tm
          ∧ (t.lane i).pn Th.tBand = (((s.lane i).roundSensors h).1.therm.band ((s.lane i).pn Th.tBand) tm).2))
      ∧ (∀ fan, fan < 4 → fanRounds ≤ UMap.get (fun _ => 0) (s.lane i).therm.fans fan →
        (s.lane i).therm.fanFaults.contains fan = false →
        Does (.fanFault i fan) s (fun t => fan ∈ (t.lane i).therm.fanFaults ∧ (t.lane i).therm.fanLevel = 1000))
      ∧ (∀ d line, Does (.dramError i true d line) s (fun t =>
          (t.lane i).p Th.dramOuterCe = (s.lane i).p Th.dramOuterCe + 1
          ∧ line ∈ UMap.get (fun _ => []) (t.lane i).therm.devLines d))
      ∧ (∀ d line, Does (.dramError i false d line) s (fun t =>
          (t.lane i).p Th.dramUe = (s.lane i).p Th.dramUe + 1 ∧ (t.lane i).p Th.ueLastLine = line))
      ∧ ((s.lane i).power.power ≠ 4 → Does (.scrub i) s (fun t => (t.lane i).therm.scrubLine =
          if dramLines ≤ (s.lane i).therm.scrubLine + 1 then 0 else (s.lane i).therm.scrubLine + 1)))
    ∧ ((s.lane i).alwaysOn = true → (s.lane i).therm.shut = true → ∀ xs : List Int,
      Does (.asleepThermalCheck i xs) s (fun t => (t.lane i).therm.coolS =
        if xs.all (fun v => decide (v < 70 * 16)) then (s.lane i).therm.coolS + 1 else 0))
    ∧ ((s.lane i).mayRestart = true → Does (.criticalRestart i) s (fun t =>
        (t.lane i).therm.shut = false ∧ (t.lane i).power.fastOn = true))

/-- R396, R397, R400, R401, R403, R404, R410. The rows of a relay team: a frame whose hops are used up is dropped and counted, another goes
on with one hop less where the lane drives the team's transmitters, and one with a bad tag or heard before is counted; a lane's own beacon
of the epoch that comes back is noted with its level, net and direction, and every frame of its own is stripped; a member's is taken; the
beacons of an epoch are sent at lap 10 on both nets at every level where the key store gives the team's keys, and at lap 60 a level's
return that is missing breaks its net, which 16 good epochs restore; the members' states follow the beacons at lap 20, a member that has
not taken a change of keys joining until it has; a change of members acts from its team epoch on, and the anchor answers whether all have
acknowledged it; and at a team arm's epoch the record of a controller that is MEMBER is armed. -/
def Obligations.TeamRows : Prop :=
  ∀ (s : State) (i : LaneId), (s.lane i).active = true → s.chassis.variant.team = true →
    (∀ f : TeamFrame, levelOf (s.lane i).cfg f.teamId = none →
      (f.ttl ≤ 1 → Does (.teamFrameReceive f) s (fun t =>
        (t.lane i).p Team.teamTtlDrops = (s.lane i).p Team.teamTtlDrops + 1))
      ∧ (1 < f.ttl → (s.lane i).link.grant = true → Does (.teamFrameReceive f) s (fun t =>
        (t.lane i).team.forwarded.head? = some (f.teamId, f.sender, f.net, f.dir, f.seq, f.ttl - 1)))
      ∧ (1 < f.ttl → (s.lane i).link.grant = false → Does (.teamFrameReceive f) s (fun t =>
        (t.lane i).team.forwarded = (s.lane i).team.forwarded)))
    ∧ (∀ (f : TeamFrame) (k : Nat), levelOf (s.lane i).cfg f.teamId = some k → (s.lane i).isOwn k f = false → 1 < f.ttl →
      (f.tagOk = false → Does (.teamFrameReceive f) s (fun t =>
        (t.lane i).p Team.teamAuthFail = (s.lane i).p Team.teamAuthFail + 1
        ∧ ((s.lane i).link.grant = true → (t.lane i).team.forwarded.head? = some (f.teamId, f.sender, f.net, f.dir, f.seq, f.ttl - 1))))
      ∧ (f.tagOk = true → ((s.lane i).teamKey k).2 = true → (f.sender, f.net, f.seq) ∈ ((s.lane i).lvl k).heard →
        Does (.teamFrameReceive f) s (fun t => (t.lane i).p Team.teamDup = (s.lane i).p Team.teamDup + 1))
      ∧ (f.tagOk = true → ((s.lane i).teamKey k).2 = true → (f.sender, f.net, f.seq) ∉ ((s.lane i).lvl k).heard →
        (s.lane i).addressed k f = true → ∀ serial epoch st ps mask gen, f.payload = .beacon serial epoch st ps mask gen →
        Does (.teamFrameReceive f) s (fun t => ((t.lane i).teamMember k f.sender).seen = true
          ∧ ((t.lane i).teamMember k f.sender).serial = serial
          ∧ ((s.lane i).link.grant = true → (t.lane i).team.forwarded.head? = some (f.teamId, f.sender, f.net, f.dir, f.seq, f.ttl - 1)))))
    ∧ (∀ (f : TeamFrame) (k : Nat), levelOf (s.lane i).cfg f.teamId = some k → (s.lane i).isOwn k f = true →
      (f.beaconOf (s.lane i).epoch = true → Does (.teamFrameReceive f) s (fun t => (k, f.net, f.dir) ∈ (t.lane i).team.returns
        ∧ (t.lane i).team.forwarded = (s.lane i).team.forwarded))
      ∧ (f.beaconOf (s.lane i).epoch = false → Does (.teamFrameReceive f) s (fun t => t.lane i = s.lane i)))
    ∧ ((s.lane i).lapIn = 10 → usedLevels (s.lane i).cfg ≠ [] → Does .beaconSend s (fun t => (t.lane i).team.returns = []))
    ∧ (∀ k, (s.lane i).lapIn = 10 → k ∈ usedLevels (s.lane i).cfg → (s.lane i).link.grant = true →
      (∀ j ∈ usedLevels (s.lane i).cfg, (s.lane i).teamKeyHeld j = true ∧ ((s.lane i).askKey engTeam (teamSlot j) 3).2 = true) →
      Does .beaconSend s (fun t => ((t.lane i).lvl k).seq = ((s.lane i).lvl k).seq + 2
        ∧ (t.lane i).team.beaconEpoch = (if s.holder.isSome = true then some (s.lane i).epoch else none)
        ∧ ∀ net, net ∈ [1, 2] → ∃ f ∈ (t.lane i).team.sent, f.level = k ∧ f.kind = 1 ∧ f.net = net
          ∧ f.epoch = (s.lane i).teamEpoch k))
    ∧ (∀ back1 back2 : Bool,
      (back1 = true ↔ ∀ k ∈ usedLevels (s.lane i).cfg, (k, 1, 0) ∈ (s.lane i).team.returns ∧ (k, 1, 1) ∈ (s.lane i).team.returns) →
      (back2 = true ↔ ∀ k ∈ usedLevels (s.lane i).cfg, (k, 2, 0) ∈ (s.lane i).team.returns ∧ (k, 2, 1) ∈ (s.lane i).team.returns) →
      (s.lane i).lapIn = 60 → (s.lane i).team.beaconEpoch = some (s.lane i).epoch → Does .beaconReturnCheck s (fun t =>
        (if back1 = true then
          (t.lane i).team.run1 = (s.lane i).team.run1 + 1
            ∧ (t.lane i).team.whole1 = ((s.lane i).team.whole1 || decide (16 ≤ (s.lane i).team.run1 + 1))
        else (t.lane i).team.run1 = 0 ∧ (t.lane i).team.whole1 = false)
        ∧ (if back2 = true then
          (t.lane i).team.run2 = (s.lane i).team.run2 + 1
            ∧ (t.lane i).team.whole2 = ((s.lane i).team.whole2 || decide (16 ≤ (s.lane i).team.run2 + 1))
        else (t.lane i).team.run2 = 0 ∧ (t.lane i).team.whole2 = false)))
    ∧ (∀ k m, (s.lane i).lapIn = 20 → k ∈ usedLevels (s.lane i).cfg → m < 8 → Does .memberStateUpdate s (fun t =>
        ((t.lane i).teamMember k m).seen = false
        ∧ ((t.lane i).teamMember k m).run
          = (if ((s.lane i).teamMember k m).seen = true then ((s.lane i).teamMember k m).run + 1 else 0)
        ∧ ((t.lane i).teamMember k m).miss
          = (if ((s.lane i).teamMember k m).seen = true then 0 else ((s.lane i).teamMember k m).miss + 1)
        ∧ ((t.lane i).teamMember k m).conflict = ((s.lane i).teamMember k m).clash
        ∧ (bitAt ((s.lane i).lvl k).mask m = false → (t.lane i).memberState k m = 0)
        ∧ (bitAt ((s.lane i).lvl k).mask m = true →
          ((s.lane i).teamMember k m).clash = true ∨
            ((s.lane i).teamMember k m).seen = true ∧ ((s.lane i).teamMember k m).gen < ((s.lane i).lvl k).keyGen →
          (t.lane i).memberState k m = 1)
        ∧ (bitAt ((s.lane i).lvl k).mask m = true → ((s.lane i).teamMember k m).clash = false →
          ((s.lane i).lvl k).keyGen ≤ ((s.lane i).teamMember k m).gen →
          (10 ≤ ((t.lane i).teamMember k m).run → (t.lane i).memberState k m = 2)
          ∧ (10 ≤ ((t.lane i).teamMember k m).miss → (t.lane i).memberState k m = 3))))
    ∧ (∀ k c, k < 8 → ((s.lane i).lvl k).change = some c → c.epoch ≤ (s.lane i).teamEpoch k →
      Does (.membershipChangeApply k) s (fun t =>
        ((t.lane i).lvl k).mask = c.mask ∧ ((t.lane i).lvl k).keyGen = c.keyGen ∧ ((t.lane i).lvl k).change = none
        ∧ ∀ r, c.req = some r → Answered (t.lane i) r
          { status := (if c.acked ((s.lane i).lvl k).mask = true then st_OK else st_TEAM_PARTIAL), epoch := c.epoch.toNat }))
    ∧ (∀ k a, ((s.lane i).lvl k).arm = some a → a.armed = false → a.epoch ≤ (s.lane i).teamEpoch k →
      (s.lane i).memberState k (lvlMember (s.lane i).cfg k) = 2 → (s.lane i).inReset 4 0 = false →
      (s.lane i).armed = none → (s.lane i).acq.records.length < 16 → a.mib ≤ (s.lane i).pn Ta.acqFreeMib →
      Does (.teamArmApply k) s (fun t => ((t.lane i).lvl k).arm = some { a with armed := true }
        ∧ ∃ q ∈ (t.lane i).acq.records, q.armId = a.id ∧ q.level = some k ∧ q.armLap = (s.lane i).lap))

/-- R417, R418, R422, R424, R425. An equipment bus: a frame counts and waits for the lap start in the lowest-numbered object that matches, or
counts as unmatched, but not in the lane that missed it; a remote frame changes nothing; a column opens in its basic cycle and requests
its cell's frame, and one that has not started when the column closes is withdrawn and counted; a finished frame counts in the holder, and
ends in the standby that has seen it; without a holder none is under way; error states and counters follow the controller, bus-off recovery clears them; and the pattern wakes a sleeping bus. -/
def Obligations.BusRows : Prop :=
  ∀ (s : State) (i : LaneId) (b : Nat), b < 4 → (s.lane i).active = true →
    (∀ f : CanFrame, (s.lane i).inReset 2 b = false → f.remote = false →
      (s.lane i).p (Can.canState b) ∈ [canActive, canPassive, canListen] →
      ∀ e : CanEnd, (e.missed ≠ some (s.lane i).id →
        (rxObject (s.lane i).cfg b f = none → Does (.canFrameReceive b ⟨f, e⟩) s (fun t =>
        (t.lane i).p (Can.rxFrames b) = (s.lane i).p (Can.rxFrames b) + 1
        ∧ (t.lane i).p (Can.unmatched b) = (s.lane i).p (Can.unmatched b) + 1
        ∧ ((t.lane i).bus b).arrived = ((s.lane i).bus b).arrived ∧ ((t.lane i).bus b).busy = e.busy))
        ∧ (∀ n, rxObject (s.lane i).cfg b f = some n → Does (.canFrameReceive b ⟨f, e⟩) s (fun t =>
        (t.lane i).p (Can.rxFrames b) = (s.lane i).p (Can.rxFrames b) + 1
        ∧ ((t.lane i).bus b).arrived = ((s.lane i).bus b).arrived ++
          [(n, { data := f.data, fdf := f.fdf, brs := f.brs, tag := (s.lane i).pacer.teamTime, placed := true })])))
      ∧ (e.missed = some (s.lane i).id → Does (.canFrameReceive b ⟨f, e⟩) s (fun t => (t.lane i).p (Can.rxFrames b) = (s.lane i).p (Can.rxFrames b)
        ∧ ((t.lane i).bus b).arrived = ((s.lane i).bus b).arrived ∧ ((t.lane i).bus b).busy = e.busy)))
    ∧ (∀ (f : CanFrame) (e : CanEnd), f.remote = true → Does (.canFrameReceive b ⟨f, e⟩) s (fun t =>
        (t.lane i).p (Can.rxFrames b) = (s.lane i).p (Can.rxFrames b) ∧ ((t.lane i).bus b).arrived = ((s.lane i).bus b).arrived))
    ∧ (∀ c k busy, (s.lane i).inReset 2 b = false → ((s.lane i).bus b).col b k ≠ 0xFFFFFFFF → c = (s.lane i).canCycle b → k < 32 →
      Does (.canColumnOpen b c ⟨k, busy⟩) s (fun t => ((t.lane i).bus b).column = some k ∧ ((t.lane i).bus b).busy = busy
        ∧ ((t.lane i).bus b).cell = ((s.lane i).bus b).sched b c k
        ∧ (((s.lane i).bus b).sched b c k < 64 → txEnabled (s.lane i).cfg b (((s.lane i).bus b).sched b c k) = true →
          (s.lane i).p (Can.canState b) ∈ [canActive, canPassive] → ((s.lane i).bus b).off = false →
          ∃ q, (((t.lane i).bus b).flight = some q ∨ q ∈ ((t.lane i).bus b).pending)
            ∧ q.cell = true ∧ q.obj = ((s.lane i).bus b).sched b c k)))
    ∧ ((s.lane i).inReset 2 b = true → Does (.canColumnClose b) s (fun t => t.lane i = s.lane i))
    ∧ ((s.lane i).inReset 2 b = false → Does (.canColumnClose b) s (fun t => ((t.lane i).bus b).column = none
        ∧ (∀ r ∈ ((t.lane i).bus b).pending, r.cell = false)
        ∧ (t.lane i).p (Can.ttMissed b)
          = (s.lane i).p (Can.ttMissed b) + ((((s.lane i).bus b).pending.filter CanReq.cell).length : Nat)))
    ∧ (∀ (e : CanEnd) (q : CanReq), (s.lane i).inReset 2 b = false →
      (s.holder = some i → ((s.lane i).bus b).flight = some q → Does (.canTxComplete ⟨b, e⟩) s (fun t =>
        (t.lane i).p (Can.txFrames b) = (s.lane i).p (Can.txFrames b) + 1 ∧ ((t.lane i).bus b).busy = e.busy))
      ∧ (s.holder = some i.other → (s.lane i.other).inReset 2 b = false → ((s.lane i.other).bus b).flight = some q →
        ((s.lane i).bus b).flight = some q → (s.lane i).link.granted = false → Does (.canTxComplete ⟨b, e⟩) s (fun t =>
          (t.lane i).p (Can.txFrames b) = (s.lane i).p (Can.txFrames b)
          ∧ ((t.lane i).bus b).flight = (if e.missed = some i then some q else none)))
      ∧ (s.holder = none → Idle (.canTxComplete ⟨b, e⟩) s))
    ∧ (∀ st tec recN, (s.lane i).p (Can.canState b) ∈ [canActive, canPassive, canBusOff] →
      Does (.canErrorStateChange i b st tec recN) s (fun t => (t.lane i).p (Can.canState b) = st
        ∧ (t.lane i).p (Can.tec b) = tec ∧ (t.lane i).p (Can.rec b) = recN))
    ∧ ((s.lane i).p (Can.canState b) = canBusOff →
      ((s.lane i).c (Can.boffAuto b) = 1 ∨ ((s.lane i).bus b).recovering = true) →
      Does (.canBusoffRecovery i b) s (fun t => (t.lane i).p (Can.canState b) = canActive
        ∧ (t.lane i).p (Can.tec b) = 0 ∧ (t.lane i).p (Can.rec b) = 0))
    ∧ (∀ frame, s.asleep = false → (s.lane i).canWakes b frame = true → Does (.canWakePattern b frame) s (fun t =>
        ((t.lane i).bus b).asleep = false))

/-- R428, R430, R431, R434. A mast port: a mains cycle counts with its period; where the mains is in range the holder polls the next node, or
repeats what is due; a good response is stored and ends the transaction, a body that fails in a lane counts there; a silence is a failed
transaction of the node and is repeated up to `mast_retries` times; and a valid alert wakes a sleeping controller. -/
def Obligations.MastRows : Prop :=
  (∀ (s : State) (i : LaneId) (port : Nat), port < 2 → s.chassis.variant.mast = true → (s.lane i).active = true →
    (∀ us noise, Does (.mainsZeroCrossing port us noise) s (fun t =>
      ((t.lane i).mastPort port).cycles = ((s.lane i).mastPort port).cycles + 1
      ∧ ((t.lane i).mastPort port).periodUs = us))
    ∧ (s.holder = some i → (s.lane i).inReset 3 0 = false →
      (((s.lane i).mastPort port).active = false → ((s.lane i).mastPort port).inBand = true →
        ((s.lane i).mastPort port).nextCycle ≤ ((s.lane i).mastPort port).cycles →
        (((s.lane i).mastPort port).repeatDue = true → Does (.mastRequestSend port) s (fun t =>
          ((t.lane i).mastPort port).active = true
          ∧ ((t.lane i).mastPort port).repeats = ((s.lane i).mastPort port).repeats + 1))
        ∧ (∀ n, ((s.lane i).mastPort port).repeatDue = false →
          nextNode (portNodes (s.lane i).cfg port) ((s.lane i).mastPort port).node = some n →
          Does (.mastRequestSend port) s (fun t => ((t.lane i).mastPort port).active = true
            ∧ ((t.lane i).mastPort port).node = n
            ∧ (t.lane i).p (Mast.polls (n - 1)) = (s.lane i).p (Mast.polls (n - 1)) + 1)))
      ∧ (((s.lane i).mastPort port).active = true →
        (∀ a : MastResponse, (s.lane i).answers port a = true →
          (a.bodyOk (s.lane i).id = true → Does (.mastResponseReceive port a) s (fun t => ((t.lane i).mastPort port).active = false
            ∧ ((t.lane i).mastNodeSt ((s.lane i).mastPort port).node).data = a.data
            ∧ ((t.lane i).mastNodeSt ((s.lane i).mastPort port).node).fails = 0))
          ∧ (a.bodyOk (s.lane i).id = false → Does (.mastResponseReceive port a) s (fun t =>
            (t.lane i).p (Mast.mastFailed (((s.lane i).mastPort port).node - 1))
              = (s.lane i).p (Mast.mastFailed (((s.lane i).mastPort port).node - 1)) + 1)))
        ∧ (((s.lane i).mastPort port).dueCycle + 12 ≤ ((s.lane i).mastPort port).cycles →
          ((s.lane i).mastPort port).repeats < (s.lane i).cn Mast.mastRetries → Does (.mastResponseTimeout port) s (fun t =>
            ((t.lane i).mastPort port).repeatDue = true ∧ ((t.lane i).mastPort port).active = false
            ∧ ((t.lane i).mastNodeSt ((s.lane i).mastPort port).node).fails
              = ((s.lane i).mastNodeSt ((s.lane i).mastPort port).node).fails + 1))
        ∧ (((s.lane i).mastPort port).dueCycle + 12 ≤ ((s.lane i).mastPort port).cycles →
          (s.lane i).cn Mast.mastRetries ≤ ((s.lane i).mastPort port).repeats → Does (.mastResponseTimeout port) s (fun t =>
            ((t.lane i).mastPort port).repeatDue = false ∧ ((t.lane i).mastPort port).active = false
            ∧ ((t.lane i).mastNodeSt ((s.lane i).mastPort port).node).fails
              = ((s.lane i).mastNodeSt ((s.lane i).mastPort port).node).fails + 1)))))
  ∧ (∀ (s : State) (i : LaneId) (port : Nat) (a : MastResponse), s.chassis.variant.mast = true → s.asleep = true →
    s.a.present = true → s.a.power.power = pwAsleep → s.a.alertValid port a = true → s.a.wakes 4 = true →
    (s.lane i).present = true → (s.lane i).power.power = pwAsleep →
    Does (.mastAlert port a) s (fun t => (t.lane i).power.power = pwWaking ∧ (t.lane i).p Pw.lastWakeSource = 4))

/-- R438, R442, R443, R445. Tuning and the trace engine: a requested measurement starts at lap 0 of its epoch and counts; when done it shows 3
and gives its plan up; the amplitude guard aborts it with cause 1; and a trace trigger at its source starts the record once enough laps
precede it, counts as ignored before, and the record is complete when its memory is full. -/
def Obligations.TuneRows : Prop :=
  ∀ (s : State) (i : LaneId), (s.lane i).active = true →
    (∀ p, (s.lane i).tune.plan = some p →
      ((s.lane i).tune.running = false → (s.lane i).epoch = p.startEpoch → (s.lane i).lapIn = 0 →
        Does .tuneMeasurementStart s (fun t => (t.lane i).tune.running = true
          ∧ (t.lane i).p Ta.tuneRuns = (s.lane i).p Ta.tuneRuns + 1 ∧ (t.lane i).p Ta.tuneSlot = p.slot))
      ∧ (∀ e, p.doneEpoch = some e → (e + 1 < (s.lane i).epoch ∨ (e + 1 = (s.lane i).epoch ∧ 4 ≤ (s.lane i).lapIn)) →
        Does .tuneComplete s (fun t => (t.lane i).p Ta.tuneState = 3 ∧ (t.lane i).tune.plan = none
          ∧ (t.lane i).tune.running = false ∧ (t.lane i).tune.haveResult = decide (p.kind ≠ 3)))
      ∧ ((s.lane i).tune.running = true → 4 ≤ p.devRun → Does .tuneGuardAbort s (fun t =>
          (t.lane i).p Ta.tuneState = 4 ∧ (t.lane i).p Ta.tuneCause = 1 ∧ (t.lane i).tune.plan = none)))
    ∧ (∀ src, (s.lane i).p Ta.traceState = 1 → (s.lane i).trace.source = src →
      ((s.lane i).trace.armLap + (s.lane i).trace.pre ≤ (s.lane i).lap → Does (.traceTrigger src) s (fun t =>
          (t.lane i).p Ta.traceState = 2 ∧ (t.lane i).trace.trigLap = some (s.lane i).lap))
      ∧ ((s.lane i).lap < (s.lane i).trace.armLap + (s.lane i).trace.pre → Does (.traceTrigger src) s (fun t =>
          (t.lane i).p Ta.traceState = 1
          ∧ (t.lane i).p Ta.traceTrigIgnored = (s.lane i).p Ta.traceTrigIgnored + 1)))
    ∧ (∀ g, (s.lane i).p Ta.traceState = 2 → (s.lane i).trace.trigLap = some g →
      g + 65535 - (s.lane i).trace.pre < (s.lane i).lap → Does .traceComplete s (fun t => (t.lane i).p Ta.traceState = 3))

/-- R447, R449, R450. Acquisition: an armed record is ready once `pre_ms` has passed, records from the condition that was met, is `COMPLETE`
`post_ms` after its trigger and `FULL` when its memory is; a channel's keepalive stores its present value in the record; an edge is the
input's new level and meets the first condition that it fits; and the pulse of a trigger output ends after two laps. -/
def Obligations.AcquisitionRows : Prop :=
  ∀ (s : State) (i : LaneId), (s.lane i).active = true →
    (∀ r, (s.lane i).armed = some r →
      (r.state = 1 → r.armLap + msLaps r.preMs ≤ (s.lane i).lap → Does .acqPreElapsed s (fun t =>
        (t.lane i).armed = some { r with state := 2 } ∧ (t.lane i).p Ta.acqState = 2))
      ∧ (∀ m, r.state = 2 → (s.lane i).acq.met = some m → Does .acqTriggerCondition s (fun t =>
        ∃ q, (t.lane i).armed = some q ∧ q.state = 3 ∧ q.trig = some m.1 ∧ q.trigSource = m.2 + 1 ∧ (t.lane i).acq.met = none))
      ∧ (r.state = 3 → r.trig.getD 0 + (r.postMs : Int) * 1000000 ≤ (s.lane i).pacer.teamTime → Does .acqPostElapsed s (fun t =>
        { r with state := 4 } ∈ (t.lane i).acq.records))
      ∧ (r.state = 3 → r.capacity ≤ r.entries.length → Does .acqMemoryFull s (fun t =>
        { r with state := 5 } ∈ (t.lane i).acq.records))
      ∧ (∀ c, c < 256 → (s.lane i).acq.paused = false → (s.lane i).acq.lapCount < 200 → (s.lane i).cn (Acq.acqKeepaliveMs c) ≠ 0 →
        (s.lane i).acqKind c ≠ 0 → ((s.lane i).acqChan c).known = true →
        ((s.lane i).acqChan c).lap + msLaps ((s.lane i).cn (Acq.acqKeepaliveMs c)) ≤ (s.lane i).lap →
        (r.entries.length < r.capacity ∨ r.state ≠ 3) →
        Does (.acqKeepalive c) s (fun t => ((t.lane i).acqChan c).lap = (s.lane i).lap
          ∧ (t.lane i).acq.lapCount = (s.lane i).acq.lapCount + 1
          ∧ ∃ q ∈ (t.lane i).acq.records, q.no = r.no ∧ ∃ e, q.entries.head? = some e ∧ e.channel = c ∧ bitAt e.flags 1 = true
            ∧ e.value = (if ((s.lane i).acqChan c).sampled = true then ((s.lane i).acqChan c).sample
              else ((s.lane i).acqChan c).value)))
      ∧ (∀ k n rising, k < 2 → n < 4 → r.state = 2 → (s.lane i).acq.paused = false → (s.lane i).acq.met = none →
        (s.lane i).edgeMeets n k rising = true → (∀ m, m < n → (s.lane i).edgeMeets m k rising = false) →
        Does (.trigInEdge k rising) s (fun t => (t.lane i).acq.met = some ((s.lane i).pacer.teamTime, n))))
    ∧ (∀ rising, Does (.trigInEdge 0 rising) s (fun t => t.chassis = { s.chassis with trig0 := rising })
      ∧ Does (.trigInEdge 1 rising) s (fun t => t.chassis = { s.chassis with trig1 := rising }))
    ∧ (∀ n, (s.lane i).acq.pulse0 = some n → n + 2 ≤ (s.lane i).lap → Does (.trigOutPulseEnd 0) s (fun t =>
        (t.lane i).acq.pulse0 = none))
    ∧ (∀ n, (s.lane i).acq.pulse1 = some n → n + 2 ≤ (s.lane i).lap → Does (.trigOutPulseEnd 1) s (fun t =>
        (t.lane i).acq.pulse1 = none))

/-- R47, R53, R82, R83, R252, R316, R371, R391, R412, R436, R452, R476. A command that only reads answers `OK` from the state as it stands,
and changes nothing but the rings that carry its answer. The bodies of the responses are the model's (assumption 6). -/
def Obligations.ReadCommands : Prop :=
  ∀ (s : State) (i : LaneId) (r : Request), r.lane = 0 →
    (Admitted s i 0x0001 r → Reads (.nop r) r s)
    ∧ (Admitted s i 0x0002 r → r.len = 0 → Reads (.caps r) r s)
    ∧ (Admitted s i 0x0005 r → r.len = 1 → r.at_ 0 1 ≤ 31 → Reads (.ringStatus r) r s)
    ∧ (∀ addrs, Admitted s i 0x0011 r → snapshotAddrs r = some addrs →
      (∀ a ∈ addrs, (s.lane i).noMember a = false ∧ (s.lane i).foreign a = false ∧ addrBad a = false) → Reads (.readStaged r) r s)
    ∧ (Admitted s i 0x0012 r → r.len = 20 → (s.lane i).noMember (r.at_ 0 4) = false → (s.lane i).foreign (r.at_ 0 4) = false →
      addrBad (r.at_ 0 4) = false → Reads (.history r) r s)
    ∧ (Admitted s i 0x0023 r → r.len = 0 → Reads (.commitList r) r s)
    ∧ (Admitted s i 0x0041 r → r.len = 0 → Reads (.eventMapRead r) r s)
    ∧ (Admitted s i 0x0104 r → r.len = 1 → r.at_ 0 1 < s.chassis.variant.outlets →
      (s.lane i).c (Out.outletEnable (r.at_ 0 1)) ≠ 0 → (s.lane i).ss (r.at_ 0 1) ≠ ssIdle →
      (s.lane i).ss (r.at_ 0 1) ≠ ssBlocked → Reads (.sessionInfo r) r s)
    ∧ (Admitted s i 0x0202 r → r.len = 2 → r.at_ 0 2 ≤ 1023 → Reads (.keyInfo r) r s)
    ∧ (Admitted s i 0x0203 r → r.len = 4 → 1 ≤ r.at_ 2 2 → r.at_ 2 2 ≤ 64 → r.at_ 0 2 + r.at_ 2 2 ≤ 1024 → Reads (.keyList r) r s)
    ∧ (Admitted s i 0x0204 r → r.len = 0 → Reads (.keyCounterRead r) r s)
    ∧ (Admitted s i 0x0300 r → r.len = 0 → Reads (.laneStatus r) r s)
    ∧ (Admitted s i 0x0400 r → s.chassis.variant.team = true → r.len = 1 → r.at_ 0 1 ≤ 7 →
      lvlUsed (s.lane i).cfg (r.at_ 0 1) = true → Reads (.teamStatus r) r s)
    ∧ (Admitted s i 0x0502 r → r.len = 2 → (s.lane i).tune.haveResult = true → Reads (.tuneResult r) r s)
    ∧ (Admitted s i 0x0511 r → r.len = 6 → r.at_ 0 1 ≤ 1 → r.at_ 1 1 ≤ 7 → (s.lane i).trace.trigLap.isSome = true →
      Reads (.traceRead r) r s)
    ∧ (Admitted s i 0x0523 r → r.len = 0 → Reads (.acqList r) r s)
    ∧ (∀ x ∈ (s.lane i).acq.records, Admitted s i 0x0524 r → r.len = 16 → r.at_ 0 1 = x.no → Reads (.acqRead r) r s)
    ∧ ((s.lane i).p Mp.mpState = 0 →
      (∀ m, Admitted s i 0x0600 r → r.len = 3 → meterPoint s.chassis.variant (r.at_ 1 1) (r.at_ 2 1) = .ok m → r.at_ 0 1 ≤ 35 →
        r.at_ 0 1 < (s.lane i).met.periods.length → Reads (.periodRead r) r s)
      ∧ (∀ m, Admitted s i 0x0601 r → r.len = 18 → meterPoint s.chassis.variant (r.at_ 0 1) (r.at_ 1 1) = .ok m →
        1 ≤ r.at_ 16 2 → r.at_ 16 2 ≤ 2880 → (s.lane i).legalMs - 400 * dayMs ≤ (r.at_ 8 8 : Int) →
        (∃ x ∈ (s.lane i).met.profile, x.point = m ∧ (r.at_ 8 8 : Int) ≤ x.endMs) → Reads (.profileRead r) r s)
      ∧ (Admitted s i 0x0602 r → r.len = 12 → 1 ≤ r.at_ 8 2 → r.at_ 8 2 ≤ 4096 → r.at_ 10 2 ≤ 11 →
        (∃ e ∈ (s.lane i).met.log, e.number ≤ r.at_ 0 8) → Reads (.logRead r) r s)
      ∧ (∀ x ∈ (s.lane i).met.records, Admitted s i 0x0603 r → r.len = 8 → r.at_ 0 8 = x.no → Reads (.recordRead r) r s)
      ∧ (Admitted s i 0x0604 r → r.len = 0 → Reads (.clockRead r) r s)
      ∧ (Admitted s i 0x0607 r → r.len = 0 → Reads (.pubkeyRead r) r s))
    ∧ (Admitted s i 0x0702 r → r.len = 1 → Reads (.ttRead r) r s)
    ∧ (Admitted s i 0x0704 r → r.len = 0 → Reads (.powerStatus r) r s)
    ∧ (Admitted s i 0x0811 r → s.chassis.variant.mast = true → r.len = 1 → 1 ≤ r.at_ 0 1 → r.at_ 0 1 ≤ 16 →
      nodeOn (s.lane i).cfg (r.at_ 0 1) = true → ((s.lane i).mastNodeSt (r.at_ 0 1)).known = true → Reads (.mastRead r) r s)
    ∧ (Admitted s i 0x0812 r → s.chassis.variant.mast = true → r.len = 1 → r.at_ 0 1 ≤ 1 → Reads (.mastMapRead r) r s)

/-- R49, R77, R83, R87. The commands on rings: `RING_SET` gives a ring the enable, key slot and rights that hold after its response, ring 0
staying enabled with its right to change rings; `RING_RESYNC` sets the next sequence number to 1 and forgets what was held; a subscription is there after `SUBSCRIBE` and
gone after `UNSUBSCRIBE`; and `EVENT_MAP` routes every event it names. -/
def Obligations.RingCommands : Prop :=
  ∀ (s : State) (i : LaneId) (r : Request), r.lane = 0 →
    (Admitted s i 0x0001 r → Does (.nop r) s (fun t =>
      Answered (t.lane i) r (Reply.ok (r.body.map (fun (b : Nat) => (1, (b : Int)))))))
    ∧ (∀ q, Admitted s i 0x0003 r → r.len = 5 → r.at_ 0 1 = q → q ≤ 31 → r.at_ 1 1 ≤ 1 → r.at_ 4 1 ≤ 127 →
      Does (.ringSet r) s (fun t => Answered (t.lane i) r (Reply.ok [])
        ∧ ((t.lane i).ring q).setting = some ⟨decide (r.at_ 1 1 = 1 ∨ q = 0), r.at_ 2 2, if q = 0 then r.at_ 4 1 ||| 0x40 else r.at_ 4 1⟩
        ∧ ((t.lane i).ring q).keySlot = ((s.lane i).ring q).keySlot))
    ∧ (Admitted s i 0x0004 r → r.len = 0 → Does (.ringResync r) s (fun t => Answered (t.lane i) r (Reply.ok [])
        ∧ ((t.lane i).ring r.ring).nextSeq = 1 ∧ ((t.lane i).ring r.ring).held = []))
    ∧ (Admitted s i 0x0030 r → 8 ≤ r.len → r.at_ 6 2 ≤ 13 → r.len = 8 + 16 * r.at_ 6 2 → r.at_ 0 2 ≤ 15 →
      (∀ b ∈ ((s.lane i).ring r.ring).subs, b.id ≠ r.at_ 0 2) → r.at_ 2 1 ≤ 1 → (r.at_ 2 1 = 1 → r.at_ 4 2 ≠ 0) →
      (∀ x ∈ subRanges r (r.at_ 6 2), addrBad x.1 = false ∧ addrBad (x.1 + x.2.1 - 1) = false ∧ (s.lane i).noMember x.1 = false) →
      (∀ b : Sub, b.ranges = subRanges r (r.at_ 6 2) → b.points.length ≤ 4096) →
      Does (.subscribe r) s (fun t => ∃ b ∈ ((t.lane i).ring r.ring).subs, b.id = r.at_ 0 2
        ∧ b.ranges = subRanges r (r.at_ 6 2) ∧ b.started = decide (r.at_ 3 1 = 0) ∧ b.periodic = decide (r.at_ 2 1 = 1)))
    ∧ (Admitted s i 0x0031 r → r.len = 2 → (∃ b ∈ ((s.lane i).ring r.ring).subs, b.id = r.at_ 0 2) →
      Does (.unsubscribe r) s (fun t => Answered (t.lane i) r (Reply.ok [])
        ∧ ∀ b ∈ ((t.lane i).ring r.ring).subs, b.id ≠ r.at_ 0 2))
    ∧ (∀ e q, Admitted s i 0x0040 r → r.len = 6 → r.at_ 0 2 = 1 → r.at_ 2 2 = e → r.at_ 4 1 = q → e ≤ 127 → (q ≤ 31 ∨ q = 255) →
      bitAt ((s.lane i).ring r.ring).rights 6 = true → eventAbsent s.chassis.variant e = false →
      Does (.eventMap r) s (fun t => Answered (t.lane i) r (Reply.ok []) ∧ (t.lane i).evRing e = q
        ∧ ∀ f, f ≠ e → (t.lane i).evRing f = (s.lane i).evRing f))

/-- R52, R54, R79, R93. The commands on configuration: `STAGE` keeps the values it writes for its ring and changes nothing in force; a value
that may not be written is answered with its place and nothing is staged; `COMMIT` takes the ring's staging as one commit for its target
epoch, held when that is later than the earliest; `DISCARD` empties the staging; `SNAPSHOT` answers an image that is there and waits for
one to come; and a function reset is entered for its function, lane and request. -/
def Obligations.ConfigurationCommands : Prop :=
  ∀ (s : State) (i : LaneId) (r : Request), (s.lane i).active = true →
    (r.lane = 0 → Admitted s i 0x0020 r → ∀ n, r.at_ 0 2 = n → n ≤ 18 → r.len = 8 + 12 * n →
      ((stageWrites r n).map (fun w => cfgKey (addrPoint w.1))).Nodup →
      ((s.lane i).ring r.ring).staging.length + n ≤ 16384 →
      (∀ w ∈ stageWrites r n, (s.lane i).stageStatus s.chassis.variant w = st_OK ∧ accessAt w.1 = some .rs
        ∧ (s.lane i).looseEntry ((s.lane i).ring r.ring).staging (stageWrites r n) w = false) →
      Does (.stage r) s (fun t => Answered (t.lane i) r (Reply.ok []) ∧ (t.lane i).cfg = (s.lane i).cfg
        ∧ ∀ w ∈ stageWrites r n, UMap.get (fun _ => 0) ((t.lane i).ring r.ring).staging (cfgKey (addrPoint w.1)) = writeValue w))
    ∧ (r.lane = 0 → Admitted s i 0x0020 r → ∀ (n : Nat) (w : Nat × Nat) (ws : List (Nat × Nat)), r.at_ 0 2 = n → n ≤ 18 → r.len = 8 + 12 * n →
      stageWrites r n = w :: ws → (s.lane i).stageStatus s.chassis.variant w ≠ st_OK →
      Does (.stage r) s (fun t => t.lane i = (s.lane i).answer r
        { status := (s.lane i).stageStatus s.chassis.variant w, parts := [[(1, 0)]] }))
    ∧ (r.lane = 0 → Admitted s i 0x0021 r → r.len = 8 → r.at_ 0 8 = 0 →
      (s.lane i).earliestEpoch r ≤ (s.lane i).epoch + 60000 → Does (.commit r) s (fun t =>
        ((t.lane i).ring r.ring).staging = []
        ∧ ∃ c, (t.lane i).host.commits = (s.lane i).host.commits ++ [c] ∧ c.target = (s.lane i).earliestEpoch r ∧ c.held = false
          ∧ c.writes = ((s.lane i).ring r.ring).staging))
    ∧ (r.lane = 0 → Admitted s i 0x0021 r → r.len = 8 → ∀ e, r.at_ 0 8 = e → (s.lane i).earliestEpoch r < e →
      e ≤ (s.lane i).epoch + 60000 → ((s.lane i).heldCommits r.ring ((s.lane i).earliestEpoch r)).length < 4 → Does (.commit r) s (fun t =>
        Answered (t.lane i) r { status := st_OK, epoch := e, parts := [[(1, 1)]] }
        ∧ ∃ c, (t.lane i).host.commits = (s.lane i).host.commits ++ [c] ∧ c.target = e ∧ c.held = true
          ∧ c.writes = ((s.lane i).ring r.ring).staging))
    ∧ (r.lane = 0 → Admitted s i 0x0022 r → r.len = 0 → Does (.discard r) s (fun t =>
        Answered (t.lane i) r (Reply.ok []) ∧ ((t.lane i).ring r.ring).staging = []))
    ∧ (r.lane = 0 → Admitted s i 0x0010 r → ∀ (addrs : List Nat) (e : Nat), snapshotAddrs r = some addrs →
      (∀ a ∈ addrs, (s.lane i).noMember a = false ∧ (s.lane i).foreign a = false) → r.at_ 0 8 ≠ 0 →
      (r.at_ 0 8 : Int) - (s.lane i).epochShift false = e → (s.lane i).fellAsleep e = false →
      ((s.lane i).latest.getD ((s.lane i).epoch - 1) : Int) - 63 ≤ e →
      (e : Int) ≤ (s.lane i).latest.getD ((s.lane i).epoch - 1) + 64 →
      (∀ img, (s.lane i).imageOf e = some img → Does (.snapshot r) s (fun t =>
        Answered (t.lane i) r ((s.lane i).snapshotReply s.chassis.variant img addrs [] 0)))
      ∧ ((s.lane i).imageOf e = none → (((s.lane i).latest.getD ((s.lane i).epoch - 1)) < e ∨ (s.lane i).imgs = []) →
        Does (.snapshot r) s (fun t => (t.lane i).host.waitingReads = (s.lane i).host.waitingReads ++
          [{ req := r, epoch := e, lap := (s.lane i).lap }])))
    ∧ (∀ (code unit : Nat) (j : LaneId), Admitted s i 0x0050 r → r.len = 4 → r.at_ 0 1 = code → r.at_ 2 2 = unit →
      resetUnit s.chassis.variant code unit = (true, true) → r.lane ∈ resetLanes code → j = (if r.lane = 2 then LaneId.B else .A) →
      (r.lane ≠ 0 → (s.lane j).present = true) → (r.lane = 0 → s.a.present = true ∧ s.b.present = true) → s.a.host.resets = [] → s.b.host.resets = [] →
      (code ∈ [1, 2, 3, 4, 6] ∨ (code = 5 ∧ (s.lane j.other).link.state.inStep = true)
        ∨ (code = 7 ∧ s.arbiter.grant ≠ some j) ∨ (code = 8 ∧ s.arbiter.grant ≠ some j)) →
      Does (.resetFunction r) s (fun t => ∃ x, (t.lane i).host.resets = [x] ∧ x.code = code ∧ x.unit = unit ∧ x.lanes = r.lane
        ∧ x.req = r))
    ∧ (∀ (unit : Nat) (j : LaneId), Admitted s i 0x0050 r → r.len = 4 → r.at_ 0 1 = 9 → r.at_ 2 2 = unit → r.lane = LaneId.num j + 1 →
      (s.lane j).present = true → s.a.host.resets = [] → s.b.host.resets = [] → s.arbiter.grant = some j.other →
      (s.lane j).link.fwAnswer = none → Does (.resetFunction r) s (fun t => (t.lane j).link.state = .reset
        ∧ (t.lane j).link.fwAnswer = some { r with command := 0x50 }))

/-- R239, R243, R252, R384, R391. The host's commands on sessions and keys: an authorisation decides in `AUTH`; a stop in `CHARGE` ramps down;
a host block stands until it is lifted; a hold is cleared by its own command; a key message is loaded in order; and its application is
entered once, for the 4 laps it takes. -/
def Obligations.SessionAndKeyCommands : Prop :=
  ∀ (s : State) (i : LaneId) (r : Request), r.lane = 0 →
    (∀ o, r.at_ 0 1 = o → o < s.chassis.variant.outlets → (s.lane i).c (Out.outletEnable o) ≠ 0 →
      (Admitted s i 0x0100 r → r.len = 2 → (s.lane i).ss o = ssAuth →
        (r.at_ 1 1 = 1 → Does (.sessionAuthorize r) s (fun t => Answered (t.lane i) r (Reply.ok [])
          ∧ ((t.lane i).out o).decision = some true))
        ∧ (r.at_ 1 1 = 0 → Does (.sessionAuthorize r) s (fun t => Answered (t.lane i) r (Reply.ok [])
          ∧ ((t.lane i).ss o = ssDischarge ∨ (t.lane i).ss o = ssUnlatch))))
      ∧ (Admitted s i 0x0101 r → r.len = 1 → (s.lane i).ss o = ssCharge → Does (.sessionStop r) s (fun t =>
          Answered (t.lane i) r (Reply.ok []) ∧ (t.lane i).ss o = ssRampdown ∧ ((t.lane i).out o).terminate = true))
      ∧ (Admitted s i 0x0102 r → r.len = 2 → r.at_ 1 1 ≤ 1 → Does (.outletBlock r) s (fun t =>
          Answered (t.lane i) r (Reply.ok []) ∧ ((t.lane i).out o).hostBlock = decide (r.at_ 1 1 = 1)))
      ∧ (Admitted s i 0x0103 r → r.len = 1 → (s.lane i).ss o = ssBlocked → bitAt ((s.lane i).out o).holds 2 = true →
        Does (.outletClear r) s (fun t => Answered (t.lane i) r (Reply.ok []) ∧ bitAt ((t.lane i).out o).holds 2 = false))
      ∧ (Admitted s i 0x0105 r → r.len = 1 → (s.lane i).ss o = ssBlocked → bitAt ((s.lane i).out o).holds 1 = true →
        Does (.sessionRestart r) s (fun t => Answered (t.lane i) r (Reply.ok []) ∧ bitAt ((t.lane i).out o).holds 1 = false)))
    ∧ (∀ n, Admitted s i 0x0200 r → r.at_ 2 2 = n → 1 ≤ n → n ≤ 220 → r.len = 4 + n → r.at_ 0 2 + n ≤ 688 →
      (r.at_ 0 2 = 0 ∨ r.at_ 0 2 = ((s.lane i).keyBuffer r.ring).length) → Does (.keyMsgLoad r) s (fun t =>
        Answered (t.lane i) r (Reply.ok [])
        ∧ (t.lane i).keyBuffer r.ring =
          (if r.at_ 0 2 = 0 then [] else (s.lane i).keyBuffer r.ring) ++ r.body.drop 4))
    ∧ (Admitted s i 0x0201 r → r.len = 2 → (s.lane i).keys.apply = none → Does (.keyMsgApply r) s (fun t =>
        ∃ k, (t.lane i).keys.apply = some k ∧ k.req = r ∧ k.lap = (s.lane i).lap))

/-- R369, R371, R404, R412. The host's commands on lanes and on the team: a handover is asked of the holder; an image is loaded in order,
verified and activated by a reset of its lane; a lane is parked in reset and unparked; the marks that keep a lane from eligibility are
cleared; a change of members is held for its team epoch; and a trigger is for an armed team. -/
def Obligations.LaneCommands : Prop :=
  ∀ (s : State) (i : LaneId) (r : Request),
    (∀ j : LaneId, r.lane = j.num + 1 → (s.lane j).present = true →
      (Admitted s i 0x0301 r → r.len = 0 → s.arbiter.grant = some j.other → (s.lane j.other).link.state = .holder →
        s.eligible j = true → Does (.batonHandover r) s (fun t =>
          (t.lane i).link.handover = some r ∧ (t.lane j.other).link.giveUp.isSome = true))
      ∧ (∀ kind b ofs n, Admitted s i 0x0302 r → r.at_ 0 1 = kind → r.at_ 1 1 = b → r.at_ 4 4 = ofs → r.at_ 8 2 = n →
        1 ≤ n → n ≤ 208 → r.len = 16 + n → kind ≤ 1 → b ≤ 1 → (s.lane j).runningBank kind ≠ b → ofs + n ≤ 2147483648 →
        (ofs = 0 ∨ ofs = ((s.lane j).link.bank kind b).data.length) → Does (.fwLoad r) s (fun t =>
          ((t.lane j).link.bank kind b).data =
            (if ofs = 0 then [] else ((s.lane j).link.bank kind b).data) ++ r.body.drop 16
          ∧ ((t.lane j).link.bank kind b).verified = false))
      ∧ (∀ kind b, Admitted s i 0x0303 r → r.len = 8 → r.at_ 0 1 = kind → r.at_ 1 1 = b → kind ≤ 1 → b ≤ 1 →
        (r.verdict = false → Does (.fwVerify r) s (fun t => ((t.lane j).link.bank kind b).verified = false
          ∧ Answered (t.lane i) r (Reply.just st_IMAGE_BAD)))
        ∧ (∀ k, r.verdict = true → k < 4 → (s.lane j).deliveryStatus engVerify ((s.lane j).role (Key.roleUpdate k)) 2 = st_OK →
          ((s.lane j).link.bank kind b).data.length = r.at_ 4 4 → Does (.fwVerify r) s (fun t =>
          ((t.lane j).link.bank kind b).verified = true)))
      ∧ (∀ b, Admitted s i 0x0304 r → r.len = 2 → r.at_ 0 1 = 0 → r.at_ 1 1 = b → b ≤ 1 → s.arbiter.grant = some j.other →
        (s.lane j).link.state = .standby → ((s.lane j).link.bank 0 b).verified = true →
        (s.lane j.other).p Hp.fwCompatMin ≤ (((s.lane j).link.bank 0 b).compat : Int) →
        (((s.lane j).link.bank 0 b).compatMin : Int) ≤ (s.lane j.other).p Hp.fwCompat → Does (.fwActivate r) s (fun t =>
          (t.lane j).link.state = .reset ∧ (t.lane j).p Hp.fwBank = b ∧ (t.lane j).link.fwAnswer = some r))
      ∧ (Admitted s i 0x0305 r → r.len = 0 → s.arbiter.grant ≠ some j → Does (.lanePark r) s (fun t =>
          (t.lane j).link.parked = true ∧ (t.lane j).link.state = .reset))
      ∧ (Admitted s i 0x0306 r → r.len = 0 → (s.lane j).link.parked = true → Does (.laneUnpark r) s (fun t =>
          (t.lane j).link.parked = false ∧ Answered (t.lane i) r (Reply.ok [])))
      ∧ (Admitted s i 0x0307 r → r.len = 0 → Does (.laneEligible r) s (fun t =>
          (t.lane j).link.cmpPersist = false ∧ (t.lane j).link.tvPersist = false)))
    ∧ (∀ k mask, s.chassis.variant.team = true → r.lane = 0 → Admitted s i 0x0401 r → r.len = 16 → r.at_ 0 1 = k → r.at_ 1 1 = mask →
      k ≤ 7 → lvlUsed (s.lane i).cfg k = true → lvlMember (s.lane i).cfg k = 0 → mask % 2 = 1 →
      (s.lane i).teamEpoch k + 20 ≤ (r.at_ 8 8 : Int) → (r.at_ 8 8 : Int) ≤ (s.lane i).teamEpoch k + 60000 →
      ((s.lane i).lvl k).change = none → Does (.teamMembers r) s (fun t =>
        ((t.lane i).lvl k).change = some { mask := mask, keyGen := ((s.lane i).lvl k).keyGen + 1, epoch := r.at_ 8 8, req := some r }
        ∧ ((t.lane i).lvl k).mask = ((s.lane i).lvl k).mask))
    ∧ (∀ k a, s.chassis.variant.team = true → r.lane = 0 → Admitted s i 0x0402 r → r.len = 8 → r.at_ 0 1 = k → k ≤ 7 →
      lvlUsed (s.lane i).cfg k = true → ((s.lane i).lvl k).arm = some a → a.id = r.at_ 4 4 →
      (a.armed = true → ((s.lane i).teamKey k).2 = true → Does (.teamTrigger r) s (fun t => Answered (t.lane i) r (Reply.ok [])))
      ∧ (a.armed = true → ((s.lane i).teamKey k).2 = false →
        Does (.teamTrigger r) s (fun t => Answered (t.lane i) r (Reply.just st_UNREACHABLE)))
      ∧ (a.armed = false → Does (.teamTrigger r) s (fun t => t.lane i = (s.lane i).answer r (Reply.just st_NOT_ARMED))))

/-- R298, R438, R443, R445, R449, R452, R316. The host's commands on tuning, tracing, acquisition, clock and tamper records: a plan that holds
its rules is entered and a stop ends it; a trace is armed; a record is opened, triggered, closed and deleted; the clock set waits
as one step for the next sample and answers its size, a second one outside the limit is refused while its split is open; and an
acknowledged record is no longer open. -/
def Obligations.ToolCommands : Prop :=
  ∀ (s : State) (i : LaneId) (r : Request), r.lane = 0 →
    (∀ p, Admitted s i 0x0500 r → r.len = (if r.at_ 3 1 = 1 then 28 else if r.at_ 3 1 = 2 then 30 else 20) →
      (s.lane i).tune.plan = none → r.at_ 0 2 ≤ 2047 → enValid (entryHi (s.lane i).cfg (r.at_ 0 2)) = true →
      (s.lane i).tunePlan r = some p →
      (p.guard = none → guardNeeded (s.lane i).cfg (r.at_ 0 2) = false) →
      (∀ k ∈ p.guard, k ≤ 63 ∧ (s.lane i).p (Pk.packState k) = pkRun) →
      Does (.tuneStart r) s (fun t => (t.lane i).tune.plan = some p
        ∧ Answered (t.lane i) r (Reply.ok [(0, (200 * p.startEpoch : Nat)), (0, (p.endLap : Int))])))
    ∧ (Admitted s i 0x0501 r → r.len = 0 → (s.lane i).tune.plan.isSome = true → Does (.tuneStop r) s (fun t =>
        (t.lane i).tune.plan = none ∧ (t.lane i).tune.running = false ∧ (t.lane i).p Ta.tuneState = 5
        ∧ Answered (t.lane i) r (Reply.ok [])))
    ∧ (Admitted s i 0x0510 r → r.len = 3 → r.at_ 2 1 ≤ 4 → (s.lane i).p Ta.traceState ≠ 1 → Does (.traceArm r) s (fun t =>
        (t.lane i).p Ta.traceState = 1 ∧ (t.lane i).trace.pre = r.at_ 0 2 ∧ (t.lane i).trace.source = r.at_ 2 1
        ∧ (t.lane i).trace.armLap = (s.lane i).lap ∧ (t.lane i).trace.trigLap = none))
    ∧ (Admitted s i 0x0520 r → r.len = 20 → r.at_ 0 4 ≤ 60000 → 1 ≤ r.at_ 4 4 → r.at_ 4 4 ≤ 3600000 → 16 ≤ r.at_ 8 2 →
      r.at_ 8 2 ≤ 4096 → r.at_ 10 1 = 0 → (s.lane i).acq.paused = false → (s.lane i).armed = none →
      (s.lane i).acq.records.length < 16 → r.at_ 8 2 ≤ (s.lane i).pn Ta.acqFreeMib → (s.lane i).inReset 4 0 = false →
      Does (.acqArm r) s (fun t =>
        (∃ q, (t.lane i).armed = some q ∧ q.no = (s.lane i).nextRecord ∧ q.state = 1 ∧ q.armId = (s.lane i).acq.nextArm)
        ∧ (t.lane i).acq.nextArm = ((s.lane i).acq.nextArm + 1) % 2 ^ 32))
    ∧ (∀ q, (s.lane i).armed = some q →
      (Admitted s i 0x0521 r → r.len = 0 → Does (.acqDisarm r) s (fun t => { q with state := 6 } ∈ (t.lane i).acq.records
        ∧ Answered (t.lane i) r (Reply.ok [])))
      ∧ (Admitted s i 0x0522 r → r.len = 0 → (s.lane i).acq.paused = false → q.state = 2 → Does (.acqTrigger r) s (fun t =>
        (∃ x, (t.lane i).armed = some x ∧ x.state = 3 ∧ x.trigSource = 5)
        ∧ Answered (t.lane i) r (Reply.ok [(8, (s.lane i).pacer.teamTime)]))))
    ∧ (∀ n, Admitted s i 0x0525 r → r.len = 1 → r.at_ 0 1 = n → (∃ q ∈ (s.lane i).acq.records, q.no = n) →
      Does (.acqDelete r) s (fun t => ∀ q, q ∈ (t.lane i).acq.records ↔ q ∈ (s.lane i).acq.records ∧ q.no ≠ n))
    ∧ (∀ (ms : Nat) (w : Bool), Admitted s i 0x0605 r → r.len = 8 → r.at_ 0 8 = ms → (s.lane i).p Mp.mpState = 0 → clockFirst ≤ (ms : Int) →
      (ms : Int) < clockEnd →
      s.refLane = some i → (s.lane i).met.clockSteps = [] →
      w = (s.lane i).clockWithin ((ms : Int) - (s.lane i).legalMs) (decide ((s.lane i).p Cal.clockState = 0)) →
      ((w = true ∨ (s.lane i).met.splitOpen = false ∨ (s.lane i).p Cal.clockState ≠ 0) →
        Does (.clockSet r) s (fun t => (∀ j, (s.lane j).active = true → (s.lane j).met.clockSteps = [] →
            (t.lane j).met.clockSteps = [⟨(s.lane j).lap, (ms : Int) - (s.lane i).legalMs, w⟩]
            ∧ (t.lane j).met.legal = (s.lane j).met.legal)
          ∧ Answered (t.lane i) r (Reply.ok [(8, (ms : Int) - (s.lane i).legalMs), (0, if w then 0 else 1)])))
      ∧ (w = false → (s.lane i).met.splitOpen = true → (s.lane i).p Cal.clockState = 0 →
        Does (.clockSet r) s (fun t => Answered (t.lane i) r (Reply.just st_CLOCK_RATE) ∧ (t.lane i).met = (s.lane i).met)))
    ∧ (∀ n, Admitted s i 0x0606 r → r.len = 4 → r.at_ 0 4 = n → (s.lane i).p Mp.mpState = 0 →
      (∃ k ∈ (s.lane i).met.unacked, k.1 = n) → Does (.tamperAck r) s (fun t =>
        (∀ k ∈ (t.lane i).met.unacked, k.1 ≠ n) ∧ (t.lane i).p Cal.tamperUnacked = (s.lane i).p Cal.tamperUnacked - 1))

/-- R420, R424, R425, R436, R462, R472, R476. The host's commands on power, the equipment buses and the mast: a sleep is prepared for the
epoch after next; timetable entries are kept and cleared; a restart that nothing forbids is entered; a transmit object takes its data; a
read holds its receive object; a bus sleeps, wakes and is let rejoin; and data queues for a mast node. -/
def Obligations.PowerAndBusCommands : Prop :=
  ∀ (s : State) (i : LaneId) (r : Request), r.lane = 0 →
    (Admitted s i 0x0700 r → r.len = 0 → s.a.power.sleep = none → s.b.power.sleep = none → Does (.sleepEnter r) s (fun t =>
      (t.lane i).power.sleep = some { epoch := (s.lane i).epoch + 2, req := some r } ∧ (t.lane i).p Pw.powerState = pwPrep))
    ∧ (∀ n, Admitted s i 0x0701 r → r.at_ 0 1 = n → 1 ≤ n → n ≤ 13 → r.len = 8 + 16 * n →
      (∀ e ∈ ttEntriesOf r, e.arrivalMs = 0 ∨ ((s.lane i).legalMs < (e.arrivalMs : Int)
        ∧ (e.arrivalMs : Int) ≤ (s.lane i).legalMs + 400 * 86400000 ∧ e.leadS ≤ 3600)) →
      ((ttEntriesOf r).foldl ttPut (s.lane i).power.tt).length ≤ 64 → Does (.ttWrite r) s (fun t =>
        (t.lane i).power.tt = (ttEntriesOf r).foldl ttPut (s.lane i).power.tt
        ∧ (t.lane i).p Pw.ttEntries = (t.lane i).power.tt.length))
    ∧ (Admitted s i 0x0703 r → r.len = 0 → Does (.ttClear r) s (fun t => (t.lane i).power.tt = []
        ∧ (t.lane i).p Pw.ttEntries = 0 ∧ Answered (t.lane i) r (Reply.ok [])))
    ∧ (s.holder = some i → Admitted s i 0x0705 r → r.len = 0 → (s.lane i).power.restart = none → s.restartRefused (s.lane i) = false →
      Does (.moduleRestart r) s (fun t => (t.lane i).power.restart = some ((s.lane i).epoch + 1, r)))
    ∧ (∀ b, r.at_ 0 1 = b → b ≤ 3 → (s.lane i).c (Can.canEnable b) ≠ 0 →
      (((s.lane i).bus b).asleep = false →
        (∀ n, Admitted s i 0x0800 r → r.at_ 1 1 = n → n ≤ 63 → r.len = 4 + r.at_ 2 1 → txEnabled (s.lane i).cfg b n = true →
          r.at_ 2 1 ∈ canLengths (bitAt ((s.lane i).cn (Can.txCfg b n)) 29) → Does (.canTxWrite r) s (fun t =>
            Answered (t.lane i) r (Reply.ok [])
            ∧ (txTimed (s.lane i).cfg b n = true → (((t.lane i).bus b).txObj n).back = some (r.body.drop 4))
            ∧ (((t.lane i).bus b).txObj n).back.getD (((t.lane i).bus b).txObj n).front = r.body.drop 4))
        ∧ (∀ n, Admitted s i 0x0801 r → r.len = 2 → r.at_ 1 1 = n → n ≤ 63 →
          bitAt ((s.lane i).cn (Can.rxCfg b n)) 31 = true → Does (.canRxRead r) s (fun t => n ∈ ((t.lane i).bus b).reading
            ∧ Answered (t.lane i) r (Reply.ok ((s.lane i).canRead b n).2)))
        ∧ (Admitted s i 0x0802 r → r.len = 1 → Does (.canSleep r) s (fun t => ((t.lane i).bus b).asleep = true
          ∧ ((t.lane i).bus b).pending = [] ∧ (t.lane i).p (Can.canState b) = canAsleep ∧ Answered (t.lane i) r (Reply.ok [])))
        ∧ (Admitted s i 0x0804 r → r.len = 1 → (s.lane i).c (Can.boffAuto b) ≠ 1 → ((s.lane i).bus b).off = true → Does (.canRecover r) s (fun t =>
            ((t.lane i).bus b).recovering = true ∧ Answered (t.lane i) r (Reply.ok []))))
      ∧ (Admitted s i 0x0803 r → r.len = 1 → Does (.canWake r) s (fun t => ((t.lane i).bus b).asleep = false
          ∧ Answered (t.lane i) r (Reply.ok []))))
    ∧ (∀ n, Admitted s i 0x0810 r → s.chassis.variant.mast = true → r.len = 2 + r.at_ 1 1 → r.at_ 1 1 ≤ 48 → r.at_ 0 1 = n → 1 ≤ n →
      n ≤ 16 → nodeOn (s.lane i).cfg n = true → ((s.lane i).mastNodeSt n).queue.length < 4 → Does (.mastWrite r) s (fun t =>
        ((t.lane i).mastNodeSt n).queue = ((s.lane i).mastNodeSt n).queue ++ [r.body.drop 2]
        ∧ Answered (t.lane i) r (Reply.ok [])))

/-- R51, R68, R69, R72, R73, R79, R80, R81. The mailboxes' own rows: a datagram to another UDP port or a disabled port is none of theirs; an
authentic datagram with a fresh counter is taken and forwarded, and any other is dropped and counted as an authentication failure, a replay or a duplicate; a forwarded one is taken by the other lane, or
counted as a duplicate where its counter has been; the holder takes once a lap and sends its notices, which the standby follows or
misses; an entry not acknowledged within 20 ms is sent again; and a subscription that waited for room sends what it owes. -/
def Obligations.MailboxRows : Prop :=
  ∀ (s : State) (i : LaneId), (s.lane i).active = true →
    (∀ d : Datagram, d.udpPort ≠ 50120 ∨ ((s.lane i).hostPort d.port).enabled = false → Idle (.datagramReceive i d) s)
    ∧ (∀ d : Datagram, d.udpPort = 50120 → d.port < 2 → ((s.lane i).hostPort d.port).enabled = true → d.version = 1 → d.count = d.entries.length →
      ((d.kind = 0 ∧ 1 ≤ d.count ∧ d.count ≤ 4) ∨ ((d.kind = 2 ∨ d.kind = 3) ∧ d.count = 0)) →
      ((s.lane i).authentic d = false → Does (.datagramReceive i d) s (fun t =>
        (t.lane i).host.authFail = (s.lane i).host.authFail + 1))
      ∧ ((s.lane i).authentic d = true → ((s.lane i).window d.keySlot).stale d.counter = true →
        (((s.lane i).window d.keySlot).viaOther.contains d.counter = false → Does (.datagramReceive i d) s (fun t =>
          (t.lane i).host.replay = (s.lane i).host.replay + 1 ∧ (t.lane i).host.forward = (s.lane i).host.forward))
        ∧ (((s.lane i).window d.keySlot).viaOther.contains d.counter = true → Does (.datagramReceive i d) s (fun t =>
          (t.lane i).host.dupDatagrams = (s.lane i).host.dupDatagrams + 1 ∧ (t.lane i).host.replay = (s.lane i).host.replay)))
      ∧ ((s.lane i).authentic d = true → ((s.lane i).window d.keySlot).stale d.counter = false →
        Does (.datagramReceive i d) s (fun t => (t.lane i).host.forward = (s.lane i).host.forward ++
            [{ ring := d.ring, keySlot := d.keySlot, counter := d.counter, source := d.source, ackSeq := d.ackSeq,
               entries := d.entries }]
          ∧ ((t.lane i).window d.keySlot).highest = max ((s.lane i).window d.keySlot).highest d.counter)))
    ∧ (∀ f rest, (s.lane i.other).host.forward = f :: rest →
      (((s.lane i).window f.keySlot).recent.contains f.counter = false → Does (.forwardedRequest i) s (fun t =>
        (t.lane i.other).host.forward = rest
        ∧ ((t.lane i).window f.keySlot).highest = max ((s.lane i).window f.keySlot).highest f.counter
        ∧ ((t.lane i).ring f.ring).source = f.source))
      ∧ (((s.lane i).window f.keySlot).recent.contains f.counter = true → Does (.forwardedRequest i) s (fun t =>
        (t.lane i.other).host.forward = rest ∧ (t.lane i).host.dupDatagrams = (s.lane i).host.dupDatagrams + 1)))
    ∧ (s.holder = some i →
      ((s.lane i).host.takeLap ≠ (s.lane i).lap + 1 → (s.lane i).power.sleep = none → Does .requestTake s (fun t =>
        (t.lane i).host.takeLap = (s.lane i).lap + 1
        ∧ (t.lane i).host.taken.length ≤ (s.lane i).host.taken.length + 4
        ∧ (s.lane i).host.taken <+: (t.lane i).host.taken))
      ∧ ((s.lane i.other).active = true →
        Does .takeNotice s (fun t => (t.lane i).host.notices = []
          ∧ (t.lane i.other).host.lastRing = (s.lane i).host.lastRing)
        ∧ (∀ n ∈ (s.lane i).host.notices, n.2.2 + 2 ≤ (s.lane i).lap → Does .takeNoticeTimeout s (fun t =>
          (t.lane i.other).p Hp.takeNoticeMisses = (s.lane i.other).p Hp.takeNoticeMisses + 1
          ∧ (t.lane i).host.notices = []))))
    ∧ (∀ q e, (s.lane i).link.grant = true → e ∈ ((s.lane i).ring q).entries → e.sentLap ≠ 0 →
      e.sentLap + msLaps 20 ≤ (s.lane i).lap + 1 → Does (.resendTimer q) s (fun t =>
        { e with resent := true, sentLap := (s.lane i).sendLap } ∈ ((t.lane i).ring q).entries))
    ∧ (∀ q id b img, (s.lane i).imgs.head? = some img → ((s.lane i).ring q).subs.find? (fun x => x.id == id) = some b →
      b.started = true → b.pending ≠ [] → ((s.lane i).ring q).room true = true → ((s.lane i).ring q).waiting = [] →
      Does (.notificationRoom q id) s (fun t => (∀ x ∈ ((t.lane i).ring q).subs, x.id = id → x.pending = [])
        ∧ ∀ a ∈ b.points.map Prod.fst, a ∈ b.pending → ∃ e ∈ ((t.lane i).ring q).entries ++ ((t.lane i).ring q).waiting,
          ∃ items, e.epoch = img.epoch ∧ e.body = .points id (min b.skipped 0xFFFF) items
            ∧ (a, (s.lane i).readPoint s.chassis.variant img a) ∈ items))

/-- R47, R48, R85, R93, R172. What ends a wait of a request: the image it waits for answers it; a member that has not answered a snapshot in
2 ms no longer holds it up; one that has not answered a forwarded request in 20 ms is told `UNREACHABLE`, and the request enters no
history; and a function that runs again is no longer in reset, which is answered. A write to `hist_reset` marks the slot's history for
its next evaluation. -/
def Obligations.WaitingRequests : Prop :=
  ∀ (s : State) (i : LaneId), (s.lane i).active = true →
    (∀ w ∈ (s.lane i).host.waitingReads, (s.lane i).readReady w = true → (snapshotAddrs w.req).isSome = true →
      Does .snapshotImageReady s (fun t => w ∉ (t.lane i).host.waitingReads))
    ∧ (∀ w img addrs, (s.lane i).host.waitingReads = [w] → (s.lane i).readReady w = true → (s.lane i).imageOf w.epoch = some img →
      snapshotAddrs w.req = some addrs → Does .snapshotImageReady s (fun t => Answered (t.lane i) w.req
        ((s.lane i).snapshotReply s.chassis.variant img addrs w.got ((s.lane i).epochShift (addrs.any (s.lane i).foreign)))))
    ∧ (∀ seq w, (s.lane i).host.waitingReads.find? (fun w => w.req.seq == seq && !w.wait.isEmpty) = some w →
      w.lap + msLaps 2 ≤ (s.lane i).lap → Does (.snapshotMemberTimeout seq) s (fun t =>
        w ∉ (t.lane i).host.waitingReads))
    ∧ (∀ seq c, (s.lane i).host.memberCalls.find? (fun c => c.2.seq == seq) = some c → c.1 + msLaps 20 ≤ (s.lane i).lap →
      Does (.memberAnswerTimeout seq) s (fun t => c ∉ (t.lane i).host.memberCalls
        ∧ ((t.lane i).ring c.2.ring).history = ((s.lane i).ring c.2.ring).history
        ∧ ((t.lane i).ring c.2.ring).unreached.head? = some c.2
        ∧ ∃ e ∈ ((t.lane i).ring c.2.ring).entries ++ ((t.lane i).ring c.2.ring).waiting,
          e.reqSeq = c.2.seq ∧ e.status = st_UNREACHABLE))
    ∧ (∀ code unit x, x ∈ (s.lane i).host.resets → x.code = code → x.unit = unit →
      (code ≠ 1 ∨ (s.lane i).ss unit = ssIdle ∨ (s.lane i).ss unit = ssBlocked) →
      Does (.functionResetComplete code unit) s (fun t => (∀ y ∈ (t.lane i).host.resets, ¬(y.code = code ∧ y.unit = unit))
        ∧ ((s.lane i).host.resets = [x] → Answered (t.lane i) x.req (Reply.ok []))))
    ∧ (∀ slot, slot < 2048 → Does (.histResetWrite slot) s (fun t => ((t.lane i).slot slot).init = true))

/-- A step carries out the command at the front of the queue, with the rest of the queue waiting (00_scope.md; the queue is the model's,
assumption 30). -/
def Obligations.StepRunsFront : Prop :=
  ∀ (c : Instr) (rest : List Instr) (s : State),
    step { s with pending := c :: rest } = exec c { s with pending := rest }

/-- R4, R58, R353, R372. What reset leaves: no lane holds the grant, the baton number is 0, both lanes stand at the start of state 1 with
their laps stopped, and nothing waits; a step from there on an empty queue changes nothing (assumption 30). -/
def Obligations.ResetState : Prop :=
  State.reset.arbiter.grant = none ∧ State.reset.arbiter.baton = 0 ∧ State.reset.pending = []
    ∧ (∀ i, (State.reset.lane i).link.state = .reset ∧ (State.reset.lane i).pacer.laps = false
      ∧ (State.reset.lane i).lap = 0 ∧ (State.reset.lane i).active = false)
    ∧ step State.reset = .next State.reset

/-- R16, R31, R54, R67, R107, R364, R373. LAP_START counts every lane on whose laps run to its next lap and leaves every other lane at its
lap; a lane's lap number moves otherwise only by LAPS_START, where its laps begin, by RESYNC_ALIGN_COMPLETE, where it takes the holder's
number, and by the insertion of a cartridge; and its committed configuration changes at EPOCH_BOUNDARY, by the copy from the holder in
resynchronisation and by the insertion of a cartridge; over every other command of the table both stay. -/
def Obligations.LapsAndConfiguration : Prop :=
  (∀ (s : State) (bA bB : LapInput), Does (.lapStart bA bB) s (fun t => ∀ i,
    (t.lane i).lap = if (s.lane i).lapping then (s.lane i).lap + 1 else (s.lane i).lap))
  ∧ (∀ (c : Instr) (s t : State), exec c s = .next t →
    (∀ a b, c ≠ .lapStart a b) → (∀ j, c ≠ .lapsStart j) → (∀ j, c ≠ .resyncAlignComplete j) →
    (∀ j fresh m n, c ≠ .laneInserted j fresh m n) → Keeps Lane.lap s t)
  ∧ (∀ (c : Instr) (s t : State), exec c s = .next t →
    c ≠ .epochBoundary → (∀ j, c ≠ .copyComplete j) → (∀ j fresh m n, c ≠ .laneInserted j fresh m n) → Keeps Lane.cfg s t)

/-- R1, R43, R307, R353, R355. The whole machine, over every command: a command completes and takes nothing else from the queue; no command
changes the chassis's variant and identity; only SEAL_CHANGE moves the CAL SEAL switch; only GRANT_EVALUATION moves the grant; and the
baton number of a standing grant never changes. -/
def Obligations.NothingElseMoves : Prop :=
  ∀ (c : Instr) (s : State), ∃ t, exec c s = .next t ∧ t.pending = s.pending
    ∧ t.chassis.variant = s.chassis.variant ∧ t.chassis.serialLo = s.chassis.serialLo
    ∧ t.chassis.serialHi = s.chassis.serialHi ∧ t.chassis.rev = s.chassis.rev
    ∧ ((∀ b, c ≠ .sealChange b) → t.chassis.sealOpen = s.chassis.sealOpen)
    ∧ (c ≠ .grantEvaluation → t.arbiter.grant = s.arbiter.grant
      ∧ (s.arbiter.grant.isSome = true → t.arbiter.baton = s.arbiter.baton))

/-- R101, R106, R110, R418, R422, R424, R428, R431, R438, R442, R443, R445. What the rows of the units beside the power path leave: the rows
of the pacer reach nothing but the lanes' pacer records, pacer points and events; those of a bus nothing but that bus; those of a mast
port nothing but the mast; those of tuning and of the trace engine nothing but these. -/
def Obligations.PeripheralFrame : Prop :=
  ∀ (s t : State) (c : Instr) (i : LaneId), exec c s = .next t →
    (∀ j band freq phase port m kind,
      c ∈ [.refinQualified j, .refinLost j, .synciQualified j, .synciLost j, .epochMarkerMisaligned j, .bandSearchLock j band,
        .acquireComplete j freq phase, .holdoverExpiry j, .returnComplete j, .ptpMessage port m, .ptpSendInterval kind] →
      OnlyLanes s t ∧ { besideEvents (s.lane i) (t.lane i) with pacer := (s.lane i).pacer } = s.lane i
      ∧ KeepsPoints (fun a => 0x90200 ≤ a ∧ a < 0x90300) (s.lane i) (t.lane i))
    ∧ (∀ j b e f cyc col st tec recN,
      c ∈ [.canFrameReceive b f, .canColumnOpen b cyc col, .canColumnClose b, .canTxComplete ⟨b, e⟩, .canErrorStateChange j b st tec recN,
        .canBusoffRecovery j b] →
      OnlyLanes s t ∧ { besideEvents (s.lane i) (t.lane i) with can := (s.lane i).can } = s.lane i
      ∧ (∀ d, d ≠ b → (t.lane i).bus d = (s.lane i).bus d)
      ∧ KeepsPoints (fun a => 0x92000 + 4096 * b ≤ a ∧ a < 0x93000 + 4096 * b) (s.lane i) (t.lane i))
    ∧ (∀ port a us noise,
      c ∈ [.mastRequestSend port, .mastResponseReceive port a, .mastResponseTimeout port, .mainsZeroCrossing port us noise] →
      OnlyLanes s t ∧ { besideEvents (s.lane i) (t.lane i) with mast := (s.lane i).mast } = s.lane i
      ∧ KeepsPoints (fun a => 0x96000 ≤ a) (s.lane i) (t.lane i))
    ∧ (∀ src, c ∈ [.tuneMeasurementStart, .tuneComplete, .tuneGuardAbort, .traceTrigger src, .traceComplete] →
      OnlyLanes s t ∧ { besideEvents (s.lane i) (t.lane i) with tune := (s.lane i).tune, trace := (s.lane i).trace } = s.lane i
      ∧ KeepsPoints (fun a => 0x90700 ≤ a ∧ a < 0x90800) (s.lane i) (t.lane i))

/-- R35, R106, R182, R225, R228, R273, R275, R280, R334, R398, R461. Rows whose whole effect on the lanes is one or two points and events,
with the points of each; and a bypass switch closes while both lanes are in reset, or opens under a grant with link at its
team ports, and takes its position in the chassis and in `ring_state` as every present lane shows it. -/
def Obligations.PointFrame : Prop :=
  (∀ (s t : State) (c : Instr) (i j : LaneId) (p o n e : Nat) (ppm : Int) (crc : Nat) (same : Bool) (as : List Nat),
    (c, as) ∈ [(.joinComplete p, [Ph.memberState p]), (.epochMarkerMisaligned j, [Pc.epochMisaligned]),
      (.allocationOverrun j, [Al.allocOverruns]), (.degradedElapsedReset o, [Out.degradedElapsedMs o]), (.teamElapsedReset, [SafM.teamElapsedMs]),
      (.referenceCheck j ppm, [Mp.refDevPpm, Mp.refState]), (.mpCrcCheck j crc same, [Mp.mpCrc, Mp.mpState]),
      (.s0LaneDisagree n, [S0.s0Fault n, S0.s0Faults n]), (.sessionEngineIdle e, [Pw.clockGate])] →
    exec c s = .next t →
      OnlyLanes s t ∧ besideEvents (s.lane i) (t.lane i) = s.lane i
      ∧ KeepsPoints (fun a => a ∈ as) (s.lane i) (t.lane i))
  ∧ (∀ (s t : State) (i : LaneId) (o : Nat), exec (.forecastOverrun o) s = .next t →
      OnlyLanes s t ∧ { besideEvents (s.lane i) (t.lane i) with cools := (s.lane i).cools } = s.lane i
      ∧ KeepsPoints (fun a => a = Out.fcOverruns o) (s.lane i) (t.lane i))
  ∧ ∀ (s : State) (closed link : Bool), s.chassis.variant.team = true →
    (if closed then s.a.inResetState && s.b.inResetState else s.arbiter.grant.isSome && link) = true →
    Does (.bypassSwitch 1 ⟨closed, link⟩) s (fun t => { t with a := s.a, b := s.b } = { s with chassis := { s.chassis with bypass1 := closed } }
      ∧ ∀ i, KeepsPoints (fun a => a = Team.ringState) (s.lane i) (t.lane i)
        ∧ ((s.lane i).present = true → bitAt ((t.lane i).pn Team.ringState) 2 = closed))
    ∧ Does (.bypassSwitch 2 ⟨closed, link⟩) s (fun t => { t with a := s.a, b := s.b } = { s with chassis := { s.chassis with bypass2 := closed } }
      ∧ ∀ i, KeepsPoints (fun a => a = Team.ringState) (s.lane i) (t.lane i)
        ∧ ((s.lane i).present = true → bitAt ((t.lane i).pn Team.ringState) 3 = closed))

/-- R146, R187, R190, R206, R214, R215, R258, R265, R268, R269, R290, R293. What the rows of metering and of billing leave: everything but the
lanes' metering records, events, and the points of domains 5 and 6; and a row of one point of one lane leaves the other lane. What the
rows of the pools and of the pack sequencer leave: an allocation round and the messages of a team exchange reach nothing but the lanes'
allocation and pool records and points; a phase's joining, re-arming and a pack's entry into `RUN` nothing but phases, packs and their
slots; and the fields of other units read as before. -/
def Obligations.MeterAndPoolFrame : Prop :=
  (∀ (s t : State) (c : Instr) (i j : LaneId) (m now milliOhm n onMs : Nat), exec c s = .next t →
    (c ∈ [.cycleEnd j m now, .fixedBlockEnd j m, .ntcRead j m milliOhm, .s0Stuck j n onMs, .intervalClose, .billingClose,
        .tariffEvaluation] →
      OnlyLanes s t ∧ { besideEvents (s.lane i) (t.lane i) with met := (s.lane i).met } = s.lane i
      ∧ KeepsPoints (fun a => 0x50000 ≤ a ∧ a < 0x70000) (s.lane i) (t.lane i))
    ∧ (c ∈ [.cycleEnd j m now, .fixedBlockEnd j m, .ntcRead j m milliOhm, .s0Stuck j n onMs] → OnlyLane j s t))
  ∧ (∀ (s t : State) (c : Instr) (i : LaneId) (k p : Nat) (src : RoundSource) (w : RoundWatts) (want drawn : Int), exec c s = .next t →
    (c ∈ [.controlSetReceive, .allocationRound, .teamReportReceive src want drawn, .teamAllocationReceive w] →
      OnlyLanes s t ∧ { t.lane i with pts := (s.lane i).pts, alloc := (s.lane i).alloc, pools := (s.lane i).pools } = s.lane i
      ∧ KeepsPoints (fun a => (0x40000 ≤ a ∧ a < 0x50000) ∨ (0x90300 ≤ a ∧ a < 0x90400)) (s.lane i) (t.lane i))
    ∧ (c ∈ [.packRunStart k, .phaseJoin p, .rearmDelayExpiry p] →
      OnlyLanes s t
      ∧ { t.lane i with pts := (s.lane i).pts, phases := (s.lane i).phases, packs := (s.lane i).packs, slots := (s.lane i).slots } = s.lane i
      ∧ KeepsPoints (fun a => 0x10000 ≤ a ∧ a < 0x30000) (s.lane i) (t.lane i)))

/-- R288. The legal display shows a register in whole kWh with 10 digits, and rolls over from 9,999,999,999 to 0. -/
def Obligations.LegalDisplay : Prop :=
  ∀ reg : Int, 0 ≤ reg →
    displayRegister reg = (reg / 1000000) % 10 ^ 10
    ∧ 0 ≤ displayRegister reg ∧ displayRegister reg < 10 ^ 10
    ∧ displayRegister (reg + 1000000) = if displayRegister reg = 9999999999 then 0 else displayRegister reg + 1

/-- R353, R355. The baton number stays a number of 32 bits over every step of the machine (it is 0 at reset, Obligations.ResetState); and over
every command it changes only to a later one in serial-number order, and only at an evaluation of the arbiter or while no lane is granted
the baton. -/
def Obligations.BatonNumber : Prop :=
  (∀ s t : State, s.arbiter.baton < 2 ^ 32 → step s = .next t → t.arbiter.baton < 2 ^ 32)
  ∧ (∀ (c : Instr) (s t : State), s.arbiter.baton < 2 ^ 32 → exec c s = .next t → t.arbiter.baton ≠ s.arbiter.baton →
    batonLater t.arbiter.baton s.arbiter.baton = true ∧ (c = .grantEvaluation ∨ s.arbiter.grant = none))

/-- R358. The controller never takes the baton from a lane on its own: over every command, a lane loses the grant only at an evaluation of the
arbiter, and only where the lane is gone, has let its WANT drop (it gives up, or hands the baton over), or has not shown itself live for
three laps. -/
def Obligations.BatonStays : Prop :=
  ∀ (c : Instr) (s t : State) (h : LaneId), exec c s = .next t → s.arbiter.grant = some h → t.arbiter.grant ≠ some h →
    c = .grantEvaluation
    ∧ ((s.lane h).present = false ∨ (s.lane h).link.want = false ∨ (s.lane h).liveWithin s.lapNow 2 = false)

/-- R84. A ring holds at most 16 subscriptions, numbered 0 to 15: a number beyond 15, or one in use without `more`, is answered
`SUBSCRIPTION_FULL` and nothing changes; one that would grow beyond 4,096 points is answered `BAD_LENGTH` and nothing of it stays. -/
def Obligations.SubscriptionLimits : Prop :=
  ∀ (s : State) (i : LaneId) (r : Request), r.lane = 0 → Admitted s i 0x0030 r → (s.lane i).active = true →
    ((∀ b ∈ ((s.lane i).ring r.ring).subs, b.id ≤ 15) → (((s.lane i).ring r.ring).subs.map Sub.id).Nodup →
      Does (.subscribe r) s (fun t => (∀ b ∈ ((t.lane i).ring r.ring).subs, b.id ≤ 15)
        ∧ (((t.lane i).ring r.ring).subs.map Sub.id).Nodup ∧ ((t.lane i).ring r.ring).subs.length ≤ 16))
    ∧ (8 ≤ r.len → r.at_ 6 2 ≤ 13 → r.len = 8 + 16 * r.at_ 6 2 →
      ((15 < r.at_ 0 2 ∨ ∃ b, ((s.lane i).ring r.ring).subs.find? (fun b => b.id == r.at_ 0 2) = some b
          ∧ b.started = true ∧ r.at_ 3 1 = 0) →
        Does (.subscribe r) s (fun t => Answered (t.lane i) r (Reply.just st_SUBSCRIPTION_FULL)
          ∧ ((t.lane i).ring r.ring).subs = ((s.lane i).ring r.ring).subs))
      ∧ (r.at_ 0 2 ≤ 15 → r.at_ 2 1 ≤ 1 → (r.at_ 2 1 = 1 → r.at_ 4 2 ≠ 0) →
        (∀ x ∈ subRanges r (r.at_ 6 2), addrBad x.1 = false ∧ addrBad (x.1 + x.2.1 - 1) = false ∧ (s.lane i).noMember x.1 = false) →
        (∀ b, ((s.lane i).ring r.ring).subs.find? (fun b => b.id == r.at_ 0 2) = some b → b.started = false ∨ r.at_ 3 1 ≠ 0) →
        (∀ b : Sub, b.ranges = (match ((s.lane i).ring r.ring).subs.find? (fun b => b.id == r.at_ 0 2) with
            | some old => old.ranges | none => []) ++ subRanges r (r.at_ 6 2) → 4096 < b.points.length) →
        Does (.subscribe r) s (fun t => Answered (t.lane i) r (Reply.just st_BAD_LENGTH)
          ∧ ∀ b ∈ ((t.lane i).ring r.ring).subs, b.id ≠ r.at_ 0 2)))
end

