-- ==== Sys2Proof/Laws/Store.lean ====
section
/-!
SUPPORT. The laws of the sparse stores: what a read after a write gives, and that every write keeps the canonical form.
-/

namespace Sys2Proof.Machine

variable {α : Type}

/-- Erasing a key leaves every other key as it was, and the erased one unlisted. -/
theorem UMap.get_erase (d : Nat → α) (m : UMap α) (k j : Nat) :
    UMap.get d (UMap.erase m k) j = if j = k then d j else UMap.get d m j := by
  induction m with
  | nil => simp [UMap.erase, UMap.get]
  | cons e t ih =>
    obtain ⟨i, x⟩ := e
    by_cases h : i = k
    · subst h
      simp only [UMap.erase, if_true, ih, UMap.get]
      by_cases h2 : j = i
      · simp [h2]
      · simp [h2, Ne.symm h2]
    · simp only [UMap.erase, if_neg h, UMap.get, ih]
      by_cases h2 : i = j
      · subst h2; simp [h]
      · simp [h2]

/-- An inserted key reads as the value inserted where the store does not list it yet; every other key is as before. -/
theorem UMap.get_insert (d : Nat → α) (m : UMap α) (k j : Nat) (v : α) (h : k ∉ UMap.keys m) :
    UMap.get d (UMap.insert k v m) j = if j = k then v else UMap.get d m j := by
  induction m with
  | nil =>
    simp only [UMap.insert, UMap.get]
    by_cases h2 : j = k
    · simp [h2]
    · simp [h2, Ne.symm h2]
  | cons e t ih =>
    obtain ⟨i, x⟩ := e
    simp only [UMap.keys, List.map_cons, List.mem_cons, not_or] at h
    have hi : k ∉ UMap.keys t := h.2
    unfold UMap.insert
    split
    · simp only [UMap.get]
      by_cases h2 : j = k
      · simp [h2]
      · simp [h2, Ne.symm h2]
    · simp only [UMap.get, ih hi]
      by_cases h3 : i = j
      · subst h3; simp [Ne.symm h.1]
      · simp [h3]

/-- The erased key is not listed. -/
theorem UMap.not_mem_keys_erase (m : UMap α) (k : Nat) : k ∉ UMap.keys (UMap.erase m k) := by
  induction m with
  | nil => simp [UMap.erase, UMap.keys]
  | cons e t ih =>
    obtain ⟨i, x⟩ := e
    by_cases h : i = k
    · simp [UMap.erase, h, ih]
    · simp only [UMap.erase, if_neg h, UMap.keys, List.map_cons, List.mem_cons, not_or]
      exact ⟨Ne.symm h, ih⟩

/-- A read after a write gives the value written at its key, and what was there before at every other. -/
@[simp] theorem UMap.get_put [DecidableEq α] (d : Nat → α) (m : UMap α) (k j : Nat) (v : α) :
    UMap.get d (UMap.put d m k v) j = if j = k then v else UMap.get d m j := by
  unfold UMap.put
  split
  · rename_i h
    rw [UMap.get_erase]
    split
    · rename_i h2; rw [h2, h]
    · rfl
  · rw [UMap.get_insert _ _ _ _ _ (UMap.not_mem_keys_erase m k), UMap.get_erase]
    split <;> rfl

/-- An empty store reads as unlisted everywhere. -/
@[simp] theorem UMap.get_nil (d : Nat → α) (k : Nat) : UMap.get d [] k = d k := rfl

/-- A lower bound on the keys may be lowered. -/
theorem UMap.rising_weaken (m : UMap α) (a b : Nat) (hab : b ≤ a) (h : UMap.rising (some a) m = true) :
    UMap.rising (some b) m = true := by
  cases m with
  | nil => rfl
  | cons e t =>
    obtain ⟨k, x⟩ := e
    simp only [UMap.rising, Bool.and_eq_true, decide_eq_true_eq] at h ⊢
    exact ⟨by omega, h.2⟩

/-- A lower bound on the keys may be dropped. -/
theorem UMap.rising_none (m : UMap α) (a : Nat) (h : UMap.rising (some a) m = true) : UMap.rising none m = true := by
  cases m with
  | nil => rfl
  | cons e t =>
    obtain ⟨k, x⟩ := e
    simp only [UMap.rising, Bool.and_eq_true, decide_eq_true_eq, Bool.true_and] at h ⊢
    exact h.2

/-- Erasing keeps keys rising above a bound. -/
theorem UMap.rising_erase (m : UMap α) (k : Nat) : ∀ lo, UMap.rising lo m = true → UMap.rising lo (UMap.erase m k) = true := by
  induction m with
  | nil => intro lo _; cases lo <;> rfl
  | cons e t ih =>
    obtain ⟨i, x⟩ := e
    intro lo h
    have h2 : UMap.rising (some i) t = true := by
      cases lo <;> simp only [UMap.rising, Bool.and_eq_true] at h <;> exact h.2
    unfold UMap.erase
    split
    · cases lo with
      | none => exact UMap.rising_none _ i (ih _ h2)
      | some b =>
        simp only [UMap.rising, Bool.and_eq_true, decide_eq_true_eq] at h
        exact UMap.rising_weaken _ i b (by omega) (ih _ h2)
    · cases lo with
      | none => simp only [UMap.rising, Bool.true_and]; exact ih _ h2
      | some b =>
        simp only [UMap.rising, Bool.and_eq_true, decide_eq_true_eq] at h ⊢
        exact ⟨h.1, ih _ h2⟩

/-- Inserting an unlisted key above the bound keeps keys rising above the bound. -/
theorem UMap.rising_insert (k : Nat) (v : α) (m : UMap α) : ∀ lo, UMap.rising lo m = true → k ∉ UMap.keys m →
    (∀ b, lo = some b → b < k) → UMap.rising lo (UMap.insert k v m) = true := by
  induction m with
  | nil =>
    intro lo _ _ hb
    cases lo with
    | none => rfl
    | some b => simp [UMap.insert, UMap.rising, hb b rfl]
  | cons e t ih =>
    obtain ⟨i, x⟩ := e
    intro lo h hk hb
    simp only [UMap.keys, List.map_cons, List.mem_cons, not_or] at hk
    have ht : UMap.rising (some i) t = true := by
      cases lo <;> simp only [UMap.rising, Bool.and_eq_true] at h <;> exact h.2
    unfold UMap.insert
    split
    · rename_i hlt
      cases lo with
      | none => simp [UMap.rising, hlt, ht]
      | some b => simp [UMap.rising, hlt, ht, hb b rfl]
    · rename_i hge
      have hi : i < k := by have := hk.1; omega
      have h3 := ih (some i) ht hk.2 (by intro b hbe; cases hbe; exact hi)
      cases lo with
      | none => simp [UMap.rising, h3]
      | some b =>
        simp only [UMap.rising, Bool.and_eq_true, decide_eq_true_eq] at h ⊢
        exact ⟨h.1, h3⟩

/-- What stays listed after erasing was listed before. -/
theorem UMap.mem_erase (m : UMap α) (k : Nat) (e : Nat × α) (h : e ∈ UMap.erase m k) : e ∈ m := by
  induction m with
  | nil => simp [UMap.erase] at h
  | cons f t ih =>
    obtain ⟨i, x⟩ := f
    unfold UMap.erase at h
    split at h
    · exact List.mem_cons_of_mem _ (ih h)
    · rcases List.mem_cons.mp h with h | h
      · rw [h]; exact List.mem_cons_self
      · exact List.mem_cons_of_mem _ (ih h)

/-- What is listed after inserting is the new entry or was listed before. -/
theorem UMap.mem_insert (m : UMap α) (k : Nat) (v : α) (e : Nat × α) (h : e ∈ UMap.insert k v m) : e = (k, v) ∨ e ∈ m := by
  induction m with
  | nil => simp [UMap.insert] at h; exact Or.inl h
  | cons f t ih =>
    obtain ⟨i, x⟩ := f
    unfold UMap.insert at h
    split at h
    · rcases List.mem_cons.mp h with h | h
      · exact Or.inl h
      · exact Or.inr h
    · rcases List.mem_cons.mp h with h | h
      · exact Or.inr (h ▸ List.mem_cons_self)
      · rcases ih h with h | h
        · exact Or.inl h
        · exact Or.inr (List.mem_cons_of_mem _ h)

/-- Every write keeps the canonical form. -/
theorem UMap.wf_put [DecidableEq α] (d : Nat → α) (m : UMap α) (k : Nat) (v : α) (h : UMap.wf d m = true) :
    UMap.wf d (UMap.put d m k v) = true := by
  simp only [UMap.wf, Bool.and_eq_true, List.all_eq_true, decide_eq_true_eq] at h ⊢
  unfold UMap.put
  split
  · exact ⟨UMap.rising_erase _ _ _ h.1, fun e he => h.2 e (UMap.mem_erase _ _ _ he)⟩
  · rename_i hv
    refine ⟨UMap.rising_insert k v _ none (UMap.rising_erase _ _ _ h.1) (UMap.not_mem_keys_erase m k) (by simp), ?_⟩
    intro e he
    rcases UMap.mem_insert _ _ _ _ he with he | he
    · rw [he]; exact hv
    · exact h.2 e (UMap.mem_erase _ _ _ he)

end Sys2Proof.Machine
end

