-- ==== Sys2Proof/Laws/State.lean ====
section
/-!
SUPPORT. What each update of a lane leaves: one law per update naming every field it does not touch, and what it does to
the fields it does; then the same for the views of a lane (points, rings, epochs, whether it computes).
-/

namespace Sys2Proof.Machine

variable (l : Lane)

@[simp] theorem Lane.setp_frame (a : Nat) (v : Int) :
    (l.setp a v).id = l.id ∧ (l.setp a v).lap = l.lap ∧ (l.setp a v).cfg = l.cfg ∧ (l.setp a v).stat = l.stat
    ∧ (l.setp a v).means = l.means ∧ (l.setp a v).sums = l.sums ∧ (l.setp a v).host = l.host
    ∧ (l.setp a v).pacer = l.pacer ∧ (l.setp a v).link = l.link ∧ (l.setp a v).power = l.power
    ∧ (l.setp a v).hubs = l.hubs ∧ (l.setp a v).phases = l.phases ∧ (l.setp a v).packs = l.packs
    ∧ (l.setp a v).slots = l.slots ∧ (l.setp a v).engine = l.engine ∧ (l.setp a v).alloc = l.alloc
    ∧ (l.setp a v).pools = l.pools ∧ (l.setp a v).cools = l.cools ∧ (l.setp a v).outs = l.outs
    ∧ (l.setp a v).met = l.met ∧ (l.setp a v).safe = l.safe ∧ (l.setp a v).keys = l.keys ∧ (l.setp a v).team = l.team
    ∧ (l.setp a v).can = l.can ∧ (l.setp a v).mast = l.mast ∧ (l.setp a v).tune = l.tune ∧ (l.setp a v).trace = l.trace
    ∧ (l.setp a v).acq = l.acq ∧ (l.setp a v).therm = l.therm ∧ (l.setp a v).imgs = l.imgs ∧ (l.setp a v).hist = l.hist
    ∧ (l.setp a v).sealing = l.sealing
    ∧ (l.setp a v).sealDone = l.sealDone :=
    by and_intros <;> rfl

@[simp] theorem Lane.setst_frame (a c : Nat) :
    (l.setst a c).id = l.id ∧ (l.setst a c).lap = l.lap ∧ (l.setst a c).cfg = l.cfg ∧ (l.setst a c).pts = l.pts
    ∧ (l.setst a c).means = l.means ∧ (l.setst a c).sums = l.sums ∧ (l.setst a c).host = l.host
    ∧ (l.setst a c).pacer = l.pacer ∧ (l.setst a c).link = l.link ∧ (l.setst a c).power = l.power
    ∧ (l.setst a c).hubs = l.hubs ∧ (l.setst a c).phases = l.phases ∧ (l.setst a c).packs = l.packs
    ∧ (l.setst a c).slots = l.slots ∧ (l.setst a c).engine = l.engine ∧ (l.setst a c).alloc = l.alloc
    ∧ (l.setst a c).pools = l.pools ∧ (l.setst a c).cools = l.cools ∧ (l.setst a c).outs = l.outs
    ∧ (l.setst a c).met = l.met ∧ (l.setst a c).safe = l.safe ∧ (l.setst a c).keys = l.keys
    ∧ (l.setst a c).team = l.team ∧ (l.setst a c).can = l.can ∧ (l.setst a c).mast = l.mast
    ∧ (l.setst a c).tune = l.tune ∧ (l.setst a c).trace = l.trace ∧ (l.setst a c).acq = l.acq
    ∧ (l.setst a c).therm = l.therm ∧ (l.setst a c).imgs = l.imgs ∧ (l.setst a c).hist = l.hist
    ∧ (l.setst a c).sealing = l.sealing
    ∧ (l.setst a c).sealDone = l.sealDone :=
    by and_intros <;> rfl

@[simp] theorem Lane.setps_frame (a : Nat) (v : Int) (c : Nat) :
    (l.setps a v c).id = l.id ∧ (l.setps a v c).lap = l.lap ∧ (l.setps a v c).cfg = l.cfg
    ∧ (l.setps a v c).means = l.means ∧ (l.setps a v c).sums = l.sums ∧ (l.setps a v c).host = l.host
    ∧ (l.setps a v c).pacer = l.pacer ∧ (l.setps a v c).link = l.link ∧ (l.setps a v c).power = l.power
    ∧ (l.setps a v c).hubs = l.hubs ∧ (l.setps a v c).phases = l.phases ∧ (l.setps a v c).packs = l.packs
    ∧ (l.setps a v c).slots = l.slots ∧ (l.setps a v c).engine = l.engine ∧ (l.setps a v c).alloc = l.alloc
    ∧ (l.setps a v c).pools = l.pools ∧ (l.setps a v c).cools = l.cools ∧ (l.setps a v c).outs = l.outs
    ∧ (l.setps a v c).met = l.met ∧ (l.setps a v c).safe = l.safe ∧ (l.setps a v c).keys = l.keys
    ∧ (l.setps a v c).team = l.team ∧ (l.setps a v c).can = l.can ∧ (l.setps a v c).mast = l.mast
    ∧ (l.setps a v c).tune = l.tune ∧ (l.setps a v c).trace = l.trace ∧ (l.setps a v c).acq = l.acq
    ∧ (l.setps a v c).therm = l.therm ∧ (l.setps a v c).imgs = l.imgs ∧ (l.setps a v c).hist = l.hist
    ∧ (l.setps a v c).sealing = l.sealing
    ∧ (l.setps a v c).sealDone = l.sealDone :=
    by and_intros <;> rfl

@[simp] theorem Lane.addp_frame (a : Nat) (n : Int) :
    (l.addp a n).id = l.id ∧ (l.addp a n).lap = l.lap ∧ (l.addp a n).cfg = l.cfg ∧ (l.addp a n).stat = l.stat
    ∧ (l.addp a n).means = l.means ∧ (l.addp a n).sums = l.sums ∧ (l.addp a n).host = l.host
    ∧ (l.addp a n).pacer = l.pacer ∧ (l.addp a n).link = l.link ∧ (l.addp a n).power = l.power
    ∧ (l.addp a n).hubs = l.hubs ∧ (l.addp a n).phases = l.phases ∧ (l.addp a n).packs = l.packs
    ∧ (l.addp a n).slots = l.slots ∧ (l.addp a n).engine = l.engine ∧ (l.addp a n).alloc = l.alloc
    ∧ (l.addp a n).pools = l.pools ∧ (l.addp a n).cools = l.cools ∧ (l.addp a n).outs = l.outs
    ∧ (l.addp a n).met = l.met ∧ (l.addp a n).safe = l.safe ∧ (l.addp a n).keys = l.keys ∧ (l.addp a n).team = l.team
    ∧ (l.addp a n).can = l.can ∧ (l.addp a n).mast = l.mast ∧ (l.addp a n).tune = l.tune ∧ (l.addp a n).trace = l.trace
    ∧ (l.addp a n).acq = l.acq ∧ (l.addp a n).therm = l.therm ∧ (l.addp a n).imgs = l.imgs ∧ (l.addp a n).hist = l.hist
    ∧ (l.addp a n).sealing = l.sealing
    ∧ (l.addp a n).sealDone = l.sealDone :=
    by and_intros <;> rfl

@[simp] theorem Lane.inc_frame (a : Nat) :
    (l.inc a).id = l.id ∧ (l.inc a).lap = l.lap ∧ (l.inc a).cfg = l.cfg ∧ (l.inc a).stat = l.stat
    ∧ (l.inc a).means = l.means ∧ (l.inc a).sums = l.sums ∧ (l.inc a).host = l.host ∧ (l.inc a).pacer = l.pacer
    ∧ (l.inc a).link = l.link ∧ (l.inc a).power = l.power ∧ (l.inc a).hubs = l.hubs ∧ (l.inc a).phases = l.phases
    ∧ (l.inc a).packs = l.packs ∧ (l.inc a).slots = l.slots ∧ (l.inc a).engine = l.engine ∧ (l.inc a).alloc = l.alloc
    ∧ (l.inc a).pools = l.pools ∧ (l.inc a).cools = l.cools ∧ (l.inc a).outs = l.outs ∧ (l.inc a).met = l.met
    ∧ (l.inc a).safe = l.safe ∧ (l.inc a).keys = l.keys ∧ (l.inc a).team = l.team ∧ (l.inc a).can = l.can
    ∧ (l.inc a).mast = l.mast ∧ (l.inc a).tune = l.tune ∧ (l.inc a).trace = l.trace ∧ (l.inc a).acq = l.acq
    ∧ (l.inc a).therm = l.therm ∧ (l.inc a).imgs = l.imgs ∧ (l.inc a).hist = l.hist ∧ (l.inc a).sealing = l.sealing
    ∧ (l.inc a).sealDone = l.sealDone :=
    by and_intros <;> rfl

@[simp] theorem Lane.mark_frame (b : Nat) :
    (l.mark b).id = l.id ∧ (l.mark b).lap = l.lap ∧ (l.mark b).cfg = l.cfg ∧ (l.mark b).pts = l.pts
    ∧ (l.mark b).stat = l.stat ∧ (l.mark b).means = l.means ∧ (l.mark b).sums = l.sums ∧ (l.mark b).host = l.host
    ∧ (l.mark b).pacer = l.pacer ∧ (l.mark b).power = l.power ∧ (l.mark b).hubs = l.hubs ∧ (l.mark b).phases = l.phases
    ∧ (l.mark b).packs = l.packs ∧ (l.mark b).slots = l.slots ∧ (l.mark b).engine = l.engine
    ∧ (l.mark b).alloc = l.alloc ∧ (l.mark b).pools = l.pools ∧ (l.mark b).cools = l.cools ∧ (l.mark b).outs = l.outs
    ∧ (l.mark b).met = l.met ∧ (l.mark b).safe = l.safe ∧ (l.mark b).keys = l.keys ∧ (l.mark b).team = l.team
    ∧ (l.mark b).can = l.can ∧ (l.mark b).mast = l.mast ∧ (l.mark b).tune = l.tune ∧ (l.mark b).trace = l.trace
    ∧ (l.mark b).acq = l.acq ∧ (l.mark b).therm = l.therm ∧ (l.mark b).imgs = l.imgs ∧ (l.mark b).hist = l.hist
    ∧ (l.mark b).sealing = l.sealing
    ∧ (l.mark b).sealDone = l.sealDone :=
    by and_intros <;> rfl

@[simp] theorem Lane.setOut_frame (o : Nat) (x : OutletSt) :
    (l.setOut o x).id = l.id ∧ (l.setOut o x).lap = l.lap ∧ (l.setOut o x).cfg = l.cfg ∧ (l.setOut o x).pts = l.pts
    ∧ (l.setOut o x).stat = l.stat ∧ (l.setOut o x).means = l.means ∧ (l.setOut o x).sums = l.sums
    ∧ (l.setOut o x).host = l.host ∧ (l.setOut o x).pacer = l.pacer ∧ (l.setOut o x).link = l.link
    ∧ (l.setOut o x).power = l.power ∧ (l.setOut o x).hubs = l.hubs ∧ (l.setOut o x).phases = l.phases
    ∧ (l.setOut o x).packs = l.packs ∧ (l.setOut o x).slots = l.slots ∧ (l.setOut o x).engine = l.engine
    ∧ (l.setOut o x).alloc = l.alloc ∧ (l.setOut o x).pools = l.pools ∧ (l.setOut o x).cools = l.cools
    ∧ (l.setOut o x).met = l.met ∧ (l.setOut o x).safe = l.safe ∧ (l.setOut o x).keys = l.keys
    ∧ (l.setOut o x).team = l.team ∧ (l.setOut o x).can = l.can ∧ (l.setOut o x).mast = l.mast
    ∧ (l.setOut o x).tune = l.tune ∧ (l.setOut o x).trace = l.trace ∧ (l.setOut o x).acq = l.acq
    ∧ (l.setOut o x).therm = l.therm ∧ (l.setOut o x).imgs = l.imgs ∧ (l.setOut o x).hist = l.hist
    ∧ (l.setOut o x).sealing = l.sealing
    ∧ (l.setOut o x).sealDone = l.sealDone :=
    by and_intros <;> rfl

@[simp] theorem Lane.setRing_frame (q : Nat) (r : Ring) :
    (l.setRing q r).id = l.id ∧ (l.setRing q r).lap = l.lap ∧ (l.setRing q r).cfg = l.cfg ∧ (l.setRing q r).pts = l.pts
    ∧ (l.setRing q r).stat = l.stat ∧ (l.setRing q r).means = l.means ∧ (l.setRing q r).sums = l.sums
    ∧ (l.setRing q r).pacer = l.pacer ∧ (l.setRing q r).link = l.link ∧ (l.setRing q r).power = l.power
    ∧ (l.setRing q r).hubs = l.hubs ∧ (l.setRing q r).phases = l.phases ∧ (l.setRing q r).packs = l.packs
    ∧ (l.setRing q r).slots = l.slots ∧ (l.setRing q r).engine = l.engine ∧ (l.setRing q r).alloc = l.alloc
    ∧ (l.setRing q r).pools = l.pools ∧ (l.setRing q r).cools = l.cools ∧ (l.setRing q r).outs = l.outs
    ∧ (l.setRing q r).met = l.met ∧ (l.setRing q r).safe = l.safe ∧ (l.setRing q r).keys = l.keys
    ∧ (l.setRing q r).team = l.team ∧ (l.setRing q r).can = l.can ∧ (l.setRing q r).mast = l.mast
    ∧ (l.setRing q r).tune = l.tune ∧ (l.setRing q r).trace = l.trace ∧ (l.setRing q r).acq = l.acq
    ∧ (l.setRing q r).therm = l.therm ∧ (l.setRing q r).imgs = l.imgs ∧ (l.setRing q r).hist = l.hist
    ∧ (l.setRing q r).sealing = l.sealing
    ∧ (l.setRing q r).sealDone = l.sealDone :=
    by and_intros <;> rfl

@[simp] theorem Lane.queue_frame (q : Nat) (es : List Entry) :
    (l.queue q es).id = l.id ∧ (l.queue q es).lap = l.lap ∧ (l.queue q es).cfg = l.cfg ∧ (l.queue q es).pts = l.pts
    ∧ (l.queue q es).stat = l.stat ∧ (l.queue q es).means = l.means ∧ (l.queue q es).sums = l.sums
    ∧ (l.queue q es).pacer = l.pacer ∧ (l.queue q es).link = l.link ∧ (l.queue q es).power = l.power
    ∧ (l.queue q es).hubs = l.hubs ∧ (l.queue q es).phases = l.phases ∧ (l.queue q es).packs = l.packs
    ∧ (l.queue q es).slots = l.slots ∧ (l.queue q es).engine = l.engine ∧ (l.queue q es).alloc = l.alloc
    ∧ (l.queue q es).pools = l.pools ∧ (l.queue q es).cools = l.cools ∧ (l.queue q es).outs = l.outs
    ∧ (l.queue q es).met = l.met ∧ (l.queue q es).safe = l.safe ∧ (l.queue q es).keys = l.keys
    ∧ (l.queue q es).team = l.team ∧ (l.queue q es).can = l.can ∧ (l.queue q es).mast = l.mast
    ∧ (l.queue q es).tune = l.tune ∧ (l.queue q es).trace = l.trace ∧ (l.queue q es).acq = l.acq
    ∧ (l.queue q es).therm = l.therm ∧ (l.queue q es).imgs = l.imgs ∧ (l.queue q es).hist = l.hist
    ∧ (l.queue q es).sealing = l.sealing
    ∧ (l.queue q es).sealDone = l.sealDone :=
    by and_intros <;> rfl

@[simp] theorem Lane.setHub_frame (h : Nat) (x : HubSt) :
    (l.setHub h x).id = l.id ∧ (l.setHub h x).lap = l.lap ∧ (l.setHub h x).cfg = l.cfg ∧ (l.setHub h x).pts = l.pts
    ∧ (l.setHub h x).stat = l.stat ∧ (l.setHub h x).means = l.means ∧ (l.setHub h x).sums = l.sums
    ∧ (l.setHub h x).host = l.host ∧ (l.setHub h x).pacer = l.pacer ∧ (l.setHub h x).link = l.link
    ∧ (l.setHub h x).power = l.power ∧ (l.setHub h x).phases = l.phases ∧ (l.setHub h x).packs = l.packs
    ∧ (l.setHub h x).slots = l.slots ∧ (l.setHub h x).engine = l.engine ∧ (l.setHub h x).alloc = l.alloc
    ∧ (l.setHub h x).pools = l.pools ∧ (l.setHub h x).cools = l.cools ∧ (l.setHub h x).outs = l.outs
    ∧ (l.setHub h x).met = l.met ∧ (l.setHub h x).safe = l.safe ∧ (l.setHub h x).keys = l.keys
    ∧ (l.setHub h x).team = l.team ∧ (l.setHub h x).can = l.can ∧ (l.setHub h x).mast = l.mast
    ∧ (l.setHub h x).tune = l.tune ∧ (l.setHub h x).trace = l.trace ∧ (l.setHub h x).acq = l.acq
    ∧ (l.setHub h x).therm = l.therm ∧ (l.setHub h x).imgs = l.imgs ∧ (l.setHub h x).hist = l.hist
    ∧ (l.setHub h x).sealing = l.sealing
    ∧ (l.setHub h x).sealDone = l.sealDone :=
    by and_intros <;> rfl

@[simp] theorem Lane.setPhase_frame (p : Nat) (x : PhaseSt) :
    (l.setPhase p x).id = l.id ∧ (l.setPhase p x).lap = l.lap ∧ (l.setPhase p x).cfg = l.cfg
    ∧ (l.setPhase p x).pts = l.pts ∧ (l.setPhase p x).stat = l.stat ∧ (l.setPhase p x).means = l.means
    ∧ (l.setPhase p x).sums = l.sums ∧ (l.setPhase p x).host = l.host ∧ (l.setPhase p x).pacer = l.pacer
    ∧ (l.setPhase p x).link = l.link ∧ (l.setPhase p x).power = l.power ∧ (l.setPhase p x).hubs = l.hubs
    ∧ (l.setPhase p x).packs = l.packs ∧ (l.setPhase p x).slots = l.slots ∧ (l.setPhase p x).engine = l.engine
    ∧ (l.setPhase p x).alloc = l.alloc ∧ (l.setPhase p x).pools = l.pools ∧ (l.setPhase p x).cools = l.cools
    ∧ (l.setPhase p x).outs = l.outs ∧ (l.setPhase p x).met = l.met ∧ (l.setPhase p x).safe = l.safe
    ∧ (l.setPhase p x).keys = l.keys ∧ (l.setPhase p x).team = l.team ∧ (l.setPhase p x).can = l.can
    ∧ (l.setPhase p x).mast = l.mast ∧ (l.setPhase p x).tune = l.tune ∧ (l.setPhase p x).trace = l.trace
    ∧ (l.setPhase p x).acq = l.acq ∧ (l.setPhase p x).therm = l.therm ∧ (l.setPhase p x).imgs = l.imgs
    ∧ (l.setPhase p x).hist = l.hist ∧ (l.setPhase p x).sealing = l.sealing
    ∧ (l.setPhase p x).sealDone = l.sealDone :=
    by and_intros <;> rfl

@[simp] theorem Lane.setPack_frame (k : Nat) (x : PackSt) :
    (l.setPack k x).id = l.id ∧ (l.setPack k x).lap = l.lap ∧ (l.setPack k x).cfg = l.cfg ∧ (l.setPack k x).pts = l.pts
    ∧ (l.setPack k x).stat = l.stat ∧ (l.setPack k x).means = l.means ∧ (l.setPack k x).sums = l.sums
    ∧ (l.setPack k x).host = l.host ∧ (l.setPack k x).pacer = l.pacer ∧ (l.setPack k x).link = l.link
    ∧ (l.setPack k x).power = l.power ∧ (l.setPack k x).hubs = l.hubs ∧ (l.setPack k x).phases = l.phases
    ∧ (l.setPack k x).slots = l.slots ∧ (l.setPack k x).engine = l.engine ∧ (l.setPack k x).alloc = l.alloc
    ∧ (l.setPack k x).pools = l.pools ∧ (l.setPack k x).cools = l.cools ∧ (l.setPack k x).outs = l.outs
    ∧ (l.setPack k x).met = l.met ∧ (l.setPack k x).safe = l.safe ∧ (l.setPack k x).keys = l.keys
    ∧ (l.setPack k x).team = l.team ∧ (l.setPack k x).can = l.can ∧ (l.setPack k x).mast = l.mast
    ∧ (l.setPack k x).tune = l.tune ∧ (l.setPack k x).trace = l.trace ∧ (l.setPack k x).acq = l.acq
    ∧ (l.setPack k x).therm = l.therm ∧ (l.setPack k x).imgs = l.imgs ∧ (l.setPack k x).hist = l.hist
    ∧ (l.setPack k x).sealing = l.sealing
    ∧ (l.setPack k x).sealDone = l.sealDone :=
    by and_intros <;> rfl

@[simp] theorem Lane.setSlot_frame (t : Nat) (x : SlotSt) :
    (l.setSlot t x).id = l.id ∧ (l.setSlot t x).lap = l.lap ∧ (l.setSlot t x).cfg = l.cfg ∧ (l.setSlot t x).pts = l.pts
    ∧ (l.setSlot t x).stat = l.stat ∧ (l.setSlot t x).means = l.means ∧ (l.setSlot t x).sums = l.sums
    ∧ (l.setSlot t x).host = l.host ∧ (l.setSlot t x).pacer = l.pacer ∧ (l.setSlot t x).link = l.link
    ∧ (l.setSlot t x).power = l.power ∧ (l.setSlot t x).hubs = l.hubs ∧ (l.setSlot t x).phases = l.phases
    ∧ (l.setSlot t x).packs = l.packs ∧ (l.setSlot t x).engine = l.engine ∧ (l.setSlot t x).alloc = l.alloc
    ∧ (l.setSlot t x).pools = l.pools ∧ (l.setSlot t x).cools = l.cools ∧ (l.setSlot t x).outs = l.outs
    ∧ (l.setSlot t x).met = l.met ∧ (l.setSlot t x).safe = l.safe ∧ (l.setSlot t x).keys = l.keys
    ∧ (l.setSlot t x).team = l.team ∧ (l.setSlot t x).can = l.can ∧ (l.setSlot t x).mast = l.mast
    ∧ (l.setSlot t x).tune = l.tune ∧ (l.setSlot t x).trace = l.trace ∧ (l.setSlot t x).acq = l.acq
    ∧ (l.setSlot t x).therm = l.therm ∧ (l.setSlot t x).imgs = l.imgs ∧ (l.setSlot t x).hist = l.hist
    ∧ (l.setSlot t x).sealing = l.sealing
    ∧ (l.setSlot t x).sealDone = l.sealDone :=
    by and_intros <;> rfl

@[simp] theorem Lane.setPool_frame (n : Nat) (x : PoolSt) :
    (l.setPool n x).id = l.id ∧ (l.setPool n x).lap = l.lap ∧ (l.setPool n x).cfg = l.cfg ∧ (l.setPool n x).pts = l.pts
    ∧ (l.setPool n x).stat = l.stat ∧ (l.setPool n x).means = l.means ∧ (l.setPool n x).sums = l.sums
    ∧ (l.setPool n x).host = l.host ∧ (l.setPool n x).pacer = l.pacer ∧ (l.setPool n x).link = l.link
    ∧ (l.setPool n x).power = l.power ∧ (l.setPool n x).hubs = l.hubs ∧ (l.setPool n x).phases = l.phases
    ∧ (l.setPool n x).packs = l.packs ∧ (l.setPool n x).slots = l.slots ∧ (l.setPool n x).engine = l.engine
    ∧ (l.setPool n x).alloc = l.alloc ∧ (l.setPool n x).cools = l.cools ∧ (l.setPool n x).outs = l.outs
    ∧ (l.setPool n x).met = l.met ∧ (l.setPool n x).safe = l.safe ∧ (l.setPool n x).keys = l.keys
    ∧ (l.setPool n x).team = l.team ∧ (l.setPool n x).can = l.can ∧ (l.setPool n x).mast = l.mast
    ∧ (l.setPool n x).tune = l.tune ∧ (l.setPool n x).trace = l.trace ∧ (l.setPool n x).acq = l.acq
    ∧ (l.setPool n x).therm = l.therm ∧ (l.setPool n x).imgs = l.imgs ∧ (l.setPool n x).hist = l.hist
    ∧ (l.setPool n x).sealing = l.sealing
    ∧ (l.setPool n x).sealDone = l.sealDone :=
    by and_intros <;> rfl

@[simp] theorem Lane.setCool_frame (o : Nat) (x : CoolSt) :
    (l.setCool o x).id = l.id ∧ (l.setCool o x).lap = l.lap ∧ (l.setCool o x).cfg = l.cfg ∧ (l.setCool o x).pts = l.pts
    ∧ (l.setCool o x).stat = l.stat ∧ (l.setCool o x).means = l.means ∧ (l.setCool o x).sums = l.sums
    ∧ (l.setCool o x).host = l.host ∧ (l.setCool o x).pacer = l.pacer ∧ (l.setCool o x).link = l.link
    ∧ (l.setCool o x).power = l.power ∧ (l.setCool o x).hubs = l.hubs ∧ (l.setCool o x).phases = l.phases
    ∧ (l.setCool o x).packs = l.packs ∧ (l.setCool o x).slots = l.slots ∧ (l.setCool o x).engine = l.engine
    ∧ (l.setCool o x).alloc = l.alloc ∧ (l.setCool o x).pools = l.pools ∧ (l.setCool o x).outs = l.outs
    ∧ (l.setCool o x).met = l.met ∧ (l.setCool o x).safe = l.safe ∧ (l.setCool o x).keys = l.keys
    ∧ (l.setCool o x).team = l.team ∧ (l.setCool o x).can = l.can ∧ (l.setCool o x).mast = l.mast
    ∧ (l.setCool o x).tune = l.tune ∧ (l.setCool o x).trace = l.trace ∧ (l.setCool o x).acq = l.acq
    ∧ (l.setCool o x).therm = l.therm ∧ (l.setCool o x).imgs = l.imgs ∧ (l.setCool o x).hist = l.hist
    ∧ (l.setCool o x).sealing = l.sealing
    ∧ (l.setCool o x).sealDone = l.sealDone :=
    by and_intros <;> rfl

@[simp] theorem Lane.setBus_frame (b : Nat) (x : CanBus) :
    (l.setBus b x).id = l.id ∧ (l.setBus b x).lap = l.lap ∧ (l.setBus b x).cfg = l.cfg ∧ (l.setBus b x).pts = l.pts
    ∧ (l.setBus b x).stat = l.stat ∧ (l.setBus b x).means = l.means ∧ (l.setBus b x).sums = l.sums
    ∧ (l.setBus b x).host = l.host ∧ (l.setBus b x).pacer = l.pacer ∧ (l.setBus b x).link = l.link
    ∧ (l.setBus b x).power = l.power ∧ (l.setBus b x).hubs = l.hubs ∧ (l.setBus b x).phases = l.phases
    ∧ (l.setBus b x).packs = l.packs ∧ (l.setBus b x).slots = l.slots ∧ (l.setBus b x).engine = l.engine
    ∧ (l.setBus b x).alloc = l.alloc ∧ (l.setBus b x).pools = l.pools ∧ (l.setBus b x).cools = l.cools
    ∧ (l.setBus b x).outs = l.outs ∧ (l.setBus b x).met = l.met ∧ (l.setBus b x).safe = l.safe
    ∧ (l.setBus b x).keys = l.keys ∧ (l.setBus b x).team = l.team ∧ (l.setBus b x).mast = l.mast
    ∧ (l.setBus b x).tune = l.tune ∧ (l.setBus b x).trace = l.trace ∧ (l.setBus b x).acq = l.acq
    ∧ (l.setBus b x).therm = l.therm ∧ (l.setBus b x).imgs = l.imgs ∧ (l.setBus b x).hist = l.hist
    ∧ (l.setBus b x).sealing = l.sealing
    ∧ (l.setBus b x).sealDone = l.sealDone :=
    by and_intros <;> rfl

@[simp] theorem Lane.lnk_frame (f : LinkSt → LinkSt) :
    (l.lnk f).id = l.id ∧ (l.lnk f).lap = l.lap ∧ (l.lnk f).cfg = l.cfg ∧ (l.lnk f).pts = l.pts
    ∧ (l.lnk f).stat = l.stat ∧ (l.lnk f).means = l.means ∧ (l.lnk f).sums = l.sums ∧ (l.lnk f).host = l.host
    ∧ (l.lnk f).pacer = l.pacer ∧ (l.lnk f).power = l.power ∧ (l.lnk f).hubs = l.hubs ∧ (l.lnk f).phases = l.phases
    ∧ (l.lnk f).packs = l.packs ∧ (l.lnk f).slots = l.slots ∧ (l.lnk f).engine = l.engine ∧ (l.lnk f).alloc = l.alloc
    ∧ (l.lnk f).pools = l.pools ∧ (l.lnk f).cools = l.cools ∧ (l.lnk f).outs = l.outs ∧ (l.lnk f).met = l.met
    ∧ (l.lnk f).safe = l.safe ∧ (l.lnk f).keys = l.keys ∧ (l.lnk f).team = l.team ∧ (l.lnk f).can = l.can
    ∧ (l.lnk f).mast = l.mast ∧ (l.lnk f).tune = l.tune ∧ (l.lnk f).trace = l.trace ∧ (l.lnk f).acq = l.acq
    ∧ (l.lnk f).therm = l.therm ∧ (l.lnk f).imgs = l.imgs ∧ (l.lnk f).hist = l.hist ∧ (l.lnk f).sealing = l.sealing
    ∧ (l.lnk f).sealDone = l.sealDone :=
    by and_intros <;> rfl

@[simp] theorem Lane.hst_frame (f : HostSt → HostSt) :
    (l.hst f).id = l.id ∧ (l.hst f).lap = l.lap ∧ (l.hst f).cfg = l.cfg ∧ (l.hst f).pts = l.pts
    ∧ (l.hst f).stat = l.stat ∧ (l.hst f).means = l.means ∧ (l.hst f).sums = l.sums ∧ (l.hst f).pacer = l.pacer
    ∧ (l.hst f).link = l.link ∧ (l.hst f).power = l.power ∧ (l.hst f).hubs = l.hubs ∧ (l.hst f).phases = l.phases
    ∧ (l.hst f).packs = l.packs ∧ (l.hst f).slots = l.slots ∧ (l.hst f).engine = l.engine ∧ (l.hst f).alloc = l.alloc
    ∧ (l.hst f).pools = l.pools ∧ (l.hst f).cools = l.cools ∧ (l.hst f).outs = l.outs ∧ (l.hst f).met = l.met
    ∧ (l.hst f).safe = l.safe ∧ (l.hst f).keys = l.keys ∧ (l.hst f).team = l.team ∧ (l.hst f).can = l.can
    ∧ (l.hst f).mast = l.mast ∧ (l.hst f).tune = l.tune ∧ (l.hst f).trace = l.trace ∧ (l.hst f).acq = l.acq
    ∧ (l.hst f).therm = l.therm ∧ (l.hst f).imgs = l.imgs ∧ (l.hst f).hist = l.hist ∧ (l.hst f).sealing = l.sealing
    ∧ (l.hst f).sealDone = l.sealDone :=
    by and_intros <;> rfl

@[simp] theorem Lane.pac_frame (f : PacerSt → PacerSt) :
    (l.pac f).id = l.id ∧ (l.pac f).lap = l.lap ∧ (l.pac f).cfg = l.cfg ∧ (l.pac f).pts = l.pts
    ∧ (l.pac f).stat = l.stat ∧ (l.pac f).means = l.means ∧ (l.pac f).sums = l.sums ∧ (l.pac f).host = l.host
    ∧ (l.pac f).link = l.link ∧ (l.pac f).power = l.power ∧ (l.pac f).hubs = l.hubs ∧ (l.pac f).phases = l.phases
    ∧ (l.pac f).packs = l.packs ∧ (l.pac f).slots = l.slots ∧ (l.pac f).engine = l.engine ∧ (l.pac f).alloc = l.alloc
    ∧ (l.pac f).pools = l.pools ∧ (l.pac f).cools = l.cools ∧ (l.pac f).outs = l.outs ∧ (l.pac f).met = l.met
    ∧ (l.pac f).safe = l.safe ∧ (l.pac f).keys = l.keys ∧ (l.pac f).team = l.team ∧ (l.pac f).can = l.can
    ∧ (l.pac f).mast = l.mast ∧ (l.pac f).tune = l.tune ∧ (l.pac f).trace = l.trace ∧ (l.pac f).acq = l.acq
    ∧ (l.pac f).therm = l.therm ∧ (l.pac f).imgs = l.imgs ∧ (l.pac f).hist = l.hist ∧ (l.pac f).sealing = l.sealing
    ∧ (l.pac f).sealDone = l.sealDone :=
    by and_intros <;> rfl

@[simp] theorem Lane.pow_frame (f : PowerSt → PowerSt) :
    (l.pow f).id = l.id ∧ (l.pow f).lap = l.lap ∧ (l.pow f).cfg = l.cfg ∧ (l.pow f).pts = l.pts
    ∧ (l.pow f).stat = l.stat ∧ (l.pow f).means = l.means ∧ (l.pow f).sums = l.sums ∧ (l.pow f).host = l.host
    ∧ (l.pow f).pacer = l.pacer ∧ (l.pow f).link = l.link ∧ (l.pow f).hubs = l.hubs ∧ (l.pow f).phases = l.phases
    ∧ (l.pow f).packs = l.packs ∧ (l.pow f).slots = l.slots ∧ (l.pow f).engine = l.engine ∧ (l.pow f).alloc = l.alloc
    ∧ (l.pow f).pools = l.pools ∧ (l.pow f).cools = l.cools ∧ (l.pow f).outs = l.outs ∧ (l.pow f).met = l.met
    ∧ (l.pow f).safe = l.safe ∧ (l.pow f).keys = l.keys ∧ (l.pow f).team = l.team ∧ (l.pow f).can = l.can
    ∧ (l.pow f).mast = l.mast ∧ (l.pow f).tune = l.tune ∧ (l.pow f).trace = l.trace ∧ (l.pow f).acq = l.acq
    ∧ (l.pow f).therm = l.therm ∧ (l.pow f).imgs = l.imgs ∧ (l.pow f).hist = l.hist ∧ (l.pow f).sealing = l.sealing
    ∧ (l.pow f).sealDone = l.sealDone :=
    by and_intros <;> rfl

@[simp] theorem Lane.metBang_frame (f : MetSt → MetSt) :
    (l.met! f).id = l.id ∧ (l.met! f).lap = l.lap ∧ (l.met! f).cfg = l.cfg ∧ (l.met! f).pts = l.pts
    ∧ (l.met! f).stat = l.stat ∧ (l.met! f).means = l.means ∧ (l.met! f).sums = l.sums ∧ (l.met! f).host = l.host
    ∧ (l.met! f).pacer = l.pacer ∧ (l.met! f).link = l.link ∧ (l.met! f).power = l.power ∧ (l.met! f).hubs = l.hubs
    ∧ (l.met! f).phases = l.phases ∧ (l.met! f).packs = l.packs ∧ (l.met! f).slots = l.slots
    ∧ (l.met! f).engine = l.engine ∧ (l.met! f).alloc = l.alloc ∧ (l.met! f).pools = l.pools
    ∧ (l.met! f).cools = l.cools ∧ (l.met! f).outs = l.outs ∧ (l.met! f).safe = l.safe ∧ (l.met! f).keys = l.keys
    ∧ (l.met! f).team = l.team ∧ (l.met! f).can = l.can ∧ (l.met! f).mast = l.mast ∧ (l.met! f).tune = l.tune
    ∧ (l.met! f).trace = l.trace ∧ (l.met! f).acq = l.acq ∧ (l.met! f).therm = l.therm ∧ (l.met! f).imgs = l.imgs
    ∧ (l.met! f).hist = l.hist ∧ (l.met! f).sealing = l.sealing
    ∧ (l.met! f).sealDone = l.sealDone :=
    by and_intros <;> rfl

@[simp] theorem Lane.safeBang_frame (f : SafeSt → SafeSt) :
    (l.safe! f).id = l.id ∧ (l.safe! f).lap = l.lap ∧ (l.safe! f).cfg = l.cfg ∧ (l.safe! f).pts = l.pts
    ∧ (l.safe! f).stat = l.stat ∧ (l.safe! f).means = l.means ∧ (l.safe! f).sums = l.sums ∧ (l.safe! f).host = l.host
    ∧ (l.safe! f).pacer = l.pacer ∧ (l.safe! f).link = l.link ∧ (l.safe! f).power = l.power ∧ (l.safe! f).hubs = l.hubs
    ∧ (l.safe! f).phases = l.phases ∧ (l.safe! f).packs = l.packs ∧ (l.safe! f).slots = l.slots
    ∧ (l.safe! f).engine = l.engine ∧ (l.safe! f).alloc = l.alloc ∧ (l.safe! f).pools = l.pools
    ∧ (l.safe! f).cools = l.cools ∧ (l.safe! f).outs = l.outs ∧ (l.safe! f).met = l.met ∧ (l.safe! f).keys = l.keys
    ∧ (l.safe! f).team = l.team ∧ (l.safe! f).can = l.can ∧ (l.safe! f).mast = l.mast ∧ (l.safe! f).tune = l.tune
    ∧ (l.safe! f).trace = l.trace ∧ (l.safe! f).acq = l.acq ∧ (l.safe! f).therm = l.therm ∧ (l.safe! f).imgs = l.imgs
    ∧ (l.safe! f).hist = l.hist ∧ (l.safe! f).sealing = l.sealing
    ∧ (l.safe! f).sealDone = l.sealDone :=
    by and_intros <;> rfl

@[simp] theorem Lane.thermBang_frame (f : ThermSt → ThermSt) :
    (l.therm! f).id = l.id ∧ (l.therm! f).lap = l.lap ∧ (l.therm! f).cfg = l.cfg ∧ (l.therm! f).pts = l.pts
    ∧ (l.therm! f).stat = l.stat ∧ (l.therm! f).means = l.means ∧ (l.therm! f).sums = l.sums
    ∧ (l.therm! f).host = l.host ∧ (l.therm! f).pacer = l.pacer ∧ (l.therm! f).link = l.link
    ∧ (l.therm! f).power = l.power ∧ (l.therm! f).hubs = l.hubs ∧ (l.therm! f).phases = l.phases
    ∧ (l.therm! f).packs = l.packs ∧ (l.therm! f).slots = l.slots ∧ (l.therm! f).engine = l.engine
    ∧ (l.therm! f).alloc = l.alloc ∧ (l.therm! f).pools = l.pools ∧ (l.therm! f).cools = l.cools
    ∧ (l.therm! f).outs = l.outs ∧ (l.therm! f).met = l.met ∧ (l.therm! f).safe = l.safe ∧ (l.therm! f).keys = l.keys
    ∧ (l.therm! f).team = l.team ∧ (l.therm! f).can = l.can ∧ (l.therm! f).mast = l.mast ∧ (l.therm! f).tune = l.tune
    ∧ (l.therm! f).trace = l.trace ∧ (l.therm! f).acq = l.acq ∧ (l.therm! f).imgs = l.imgs ∧ (l.therm! f).hist = l.hist
    ∧ (l.therm! f).sealing = l.sealing
    ∧ (l.therm! f).sealDone = l.sealDone :=
    by and_intros <;> rfl

@[simp] theorem Lane.fire_frame (n u : Nat) (d : List Int) :
    (l.fire n u d).id = l.id ∧ (l.fire n u d).lap = l.lap ∧ (l.fire n u d).cfg = l.cfg ∧ (l.fire n u d).pts = l.pts
    ∧ (l.fire n u d).stat = l.stat ∧ (l.fire n u d).means = l.means ∧ (l.fire n u d).sums = l.sums
    ∧ (l.fire n u d).pacer = l.pacer ∧ (l.fire n u d).link = l.link ∧ (l.fire n u d).power = l.power
    ∧ (l.fire n u d).hubs = l.hubs ∧ (l.fire n u d).phases = l.phases ∧ (l.fire n u d).packs = l.packs
    ∧ (l.fire n u d).slots = l.slots ∧ (l.fire n u d).engine = l.engine ∧ (l.fire n u d).alloc = l.alloc
    ∧ (l.fire n u d).pools = l.pools ∧ (l.fire n u d).cools = l.cools ∧ (l.fire n u d).outs = l.outs
    ∧ (l.fire n u d).met = l.met ∧ (l.fire n u d).safe = l.safe ∧ (l.fire n u d).keys = l.keys
    ∧ (l.fire n u d).team = l.team ∧ (l.fire n u d).can = l.can ∧ (l.fire n u d).mast = l.mast
    ∧ (l.fire n u d).tune = l.tune ∧ (l.fire n u d).trace = l.trace ∧ (l.fire n u d).acq = l.acq
    ∧ (l.fire n u d).therm = l.therm ∧ (l.fire n u d).imgs = l.imgs ∧ (l.fire n u d).hist = l.hist
    ∧ (l.fire n u d).sealing = l.sealing
    ∧ (l.fire n u d).sealDone = l.sealDone := by
  unfold Lane.fire
  simp only
  split
  · simp
  · split
    · simp
    · split <;> simp

@[simp] theorem Lane.fireIf_frame (c : Bool) (n u : Nat) (d : List Int) :
    (l.fireIf c n u d).id = l.id ∧ (l.fireIf c n u d).lap = l.lap ∧ (l.fireIf c n u d).cfg = l.cfg
    ∧ (l.fireIf c n u d).pts = l.pts ∧ (l.fireIf c n u d).stat = l.stat ∧ (l.fireIf c n u d).means = l.means
    ∧ (l.fireIf c n u d).sums = l.sums ∧ (l.fireIf c n u d).pacer = l.pacer ∧ (l.fireIf c n u d).link = l.link
    ∧ (l.fireIf c n u d).power = l.power ∧ (l.fireIf c n u d).hubs = l.hubs ∧ (l.fireIf c n u d).phases = l.phases
    ∧ (l.fireIf c n u d).packs = l.packs ∧ (l.fireIf c n u d).slots = l.slots ∧ (l.fireIf c n u d).engine = l.engine
    ∧ (l.fireIf c n u d).alloc = l.alloc ∧ (l.fireIf c n u d).pools = l.pools ∧ (l.fireIf c n u d).cools = l.cools
    ∧ (l.fireIf c n u d).outs = l.outs ∧ (l.fireIf c n u d).met = l.met ∧ (l.fireIf c n u d).safe = l.safe
    ∧ (l.fireIf c n u d).keys = l.keys ∧ (l.fireIf c n u d).team = l.team ∧ (l.fireIf c n u d).can = l.can
    ∧ (l.fireIf c n u d).mast = l.mast ∧ (l.fireIf c n u d).tune = l.tune ∧ (l.fireIf c n u d).trace = l.trace
    ∧ (l.fireIf c n u d).acq = l.acq ∧ (l.fireIf c n u d).therm = l.therm ∧ (l.fireIf c n u d).imgs = l.imgs
    ∧ (l.fireIf c n u d).hist = l.hist ∧ (l.fireIf c n u d).sealing = l.sealing
    ∧ (l.fireIf c n u d).sealDone = l.sealDone := by
  cases c <;> simp [Lane.fireIf]

@[simp] theorem Lane.answer_frame (r : Request) (rep : Reply) :
    (l.answer r rep).id = l.id ∧ (l.answer r rep).lap = l.lap ∧ (l.answer r rep).cfg = l.cfg
    ∧ (l.answer r rep).pts = l.pts ∧ (l.answer r rep).stat = l.stat ∧ (l.answer r rep).means = l.means
    ∧ (l.answer r rep).sums = l.sums ∧ (l.answer r rep).pacer = l.pacer ∧ (l.answer r rep).link = l.link
    ∧ (l.answer r rep).power = l.power ∧ (l.answer r rep).hubs = l.hubs ∧ (l.answer r rep).phases = l.phases
    ∧ (l.answer r rep).packs = l.packs ∧ (l.answer r rep).slots = l.slots ∧ (l.answer r rep).engine = l.engine
    ∧ (l.answer r rep).alloc = l.alloc ∧ (l.answer r rep).pools = l.pools ∧ (l.answer r rep).cools = l.cools
    ∧ (l.answer r rep).outs = l.outs ∧ (l.answer r rep).met = l.met ∧ (l.answer r rep).safe = l.safe
    ∧ (l.answer r rep).keys = l.keys ∧ (l.answer r rep).team = l.team ∧ (l.answer r rep).can = l.can
    ∧ (l.answer r rep).mast = l.mast ∧ (l.answer r rep).tune = l.tune ∧ (l.answer r rep).trace = l.trace
    ∧ (l.answer r rep).acq = l.acq ∧ (l.answer r rep).therm = l.therm ∧ (l.answer r rep).imgs = l.imgs
    ∧ (l.answer r rep).hist = l.hist ∧ (l.answer r rep).sealing = l.sealing
    ∧ (l.answer r rep).sealDone = l.sealDone := by
  simp [Lane.answer]

@[simp] theorem Lane.answerOnly_frame (r : Request) (st : Nat) :
    (l.answerOnly r st).id = l.id ∧ (l.answerOnly r st).lap = l.lap ∧ (l.answerOnly r st).cfg = l.cfg
    ∧ (l.answerOnly r st).pts = l.pts ∧ (l.answerOnly r st).stat = l.stat ∧ (l.answerOnly r st).means = l.means
    ∧ (l.answerOnly r st).sums = l.sums ∧ (l.answerOnly r st).pacer = l.pacer ∧ (l.answerOnly r st).link = l.link
    ∧ (l.answerOnly r st).power = l.power ∧ (l.answerOnly r st).hubs = l.hubs ∧ (l.answerOnly r st).phases = l.phases
    ∧ (l.answerOnly r st).packs = l.packs ∧ (l.answerOnly r st).slots = l.slots ∧ (l.answerOnly r st).engine = l.engine
    ∧ (l.answerOnly r st).alloc = l.alloc ∧ (l.answerOnly r st).pools = l.pools ∧ (l.answerOnly r st).cools = l.cools
    ∧ (l.answerOnly r st).outs = l.outs ∧ (l.answerOnly r st).met = l.met ∧ (l.answerOnly r st).safe = l.safe
    ∧ (l.answerOnly r st).keys = l.keys ∧ (l.answerOnly r st).team = l.team ∧ (l.answerOnly r st).can = l.can
    ∧ (l.answerOnly r st).mast = l.mast ∧ (l.answerOnly r st).tune = l.tune ∧ (l.answerOnly r st).trace = l.trace
    ∧ (l.answerOnly r st).acq = l.acq ∧ (l.answerOnly r st).therm = l.therm ∧ (l.answerOnly r st).imgs = l.imgs
    ∧ (l.answerOnly r st).hist = l.hist ∧ (l.answerOnly r st).sealing = l.sealing
    ∧ (l.answerOnly r st).sealDone = l.sealDone := by
  simp [Lane.answerOnly]

@[simp] theorem Lane.setp_view (a : Nat) (v : Int) :
    (l.setp a v).epoch = l.epoch ∧ (l.setp a v).lapIn = l.lapIn ∧ (l.setp a v).present = l.present
    ∧ (l.setp a v).active = l.active ∧ (l.setp a v).lapping = l.lapping ∧ (l.setp a v).linksRun = l.linksRun
    ∧ (l.setp a v).alwaysOn = l.alwaysOn ∧ (l.setp a v).sendLap = l.sendLap := by
  simp [Lane.epoch, Lane.lapIn, Lane.present, Lane.active, Lane.lapping, Lane.linksRun, Lane.alwaysOn, Lane.sendLap]

@[simp] theorem Lane.setp_read (a : Nat) (v : Int) (key : Nat) :
    (l.setp a v).c key = l.c key ∧ (l.setp a v).cn key = l.cn key ∧ (l.setp a v).st key = l.st key
    ∧ (l.setp a v).ring key = l.ring key ∧ (l.setp a v).out key = l.out key ∧ (l.setp a v).hub key = l.hub key
    ∧ (l.setp a v).phase key = l.phase key ∧ (l.setp a v).pack key = l.pack key ∧ (l.setp a v).slot key = l.slot key
    ∧ (l.setp a v).pool key = l.pool key ∧ (l.setp a v).cool key = l.cool key ∧ (l.setp a v).bus key = l.bus key
    ∧ (l.setp a v).evRing key = l.evRing key := by
  simp [Lane.c, Lane.cn, Lane.st, Lane.ring, Lane.out, Lane.hub, Lane.phase, Lane.pack, Lane.slot, Lane.pool, Lane.cool, Lane.bus, Lane.evRing, Lane.c]

@[simp] theorem Lane.setst_view (a c : Nat) :
    (l.setst a c).epoch = l.epoch ∧ (l.setst a c).lapIn = l.lapIn ∧ (l.setst a c).present = l.present
    ∧ (l.setst a c).active = l.active ∧ (l.setst a c).lapping = l.lapping ∧ (l.setst a c).linksRun = l.linksRun
    ∧ (l.setst a c).alwaysOn = l.alwaysOn ∧ (l.setst a c).sendLap = l.sendLap := by
  simp [Lane.epoch, Lane.lapIn, Lane.present, Lane.active, Lane.lapping, Lane.linksRun, Lane.alwaysOn, Lane.sendLap]

@[simp] theorem Lane.setst_read (a c : Nat) (key : Nat) :
    (l.setst a c).p key = l.p key ∧ (l.setst a c).pn key = l.pn key ∧ (l.setst a c).c key = l.c key
    ∧ (l.setst a c).cn key = l.cn key ∧ (l.setst a c).ring key = l.ring key ∧ (l.setst a c).out key = l.out key
    ∧ (l.setst a c).hub key = l.hub key ∧ (l.setst a c).phase key = l.phase key ∧ (l.setst a c).pack key = l.pack key
    ∧ (l.setst a c).slot key = l.slot key ∧ (l.setst a c).pool key = l.pool key ∧ (l.setst a c).cool key = l.cool key
    ∧ (l.setst a c).bus key = l.bus key ∧ (l.setst a c).evRing key = l.evRing key := by
  simp [Lane.p, Lane.pn, Lane.c, Lane.cn, Lane.ring, Lane.out, Lane.hub, Lane.phase, Lane.pack, Lane.slot, Lane.pool, Lane.cool, Lane.bus, Lane.evRing, Lane.p, Lane.c]

@[simp] theorem Lane.setps_view (a : Nat) (v : Int) (c : Nat) :
    (l.setps a v c).epoch = l.epoch ∧ (l.setps a v c).lapIn = l.lapIn ∧ (l.setps a v c).present = l.present
    ∧ (l.setps a v c).active = l.active ∧ (l.setps a v c).lapping = l.lapping ∧ (l.setps a v c).linksRun = l.linksRun
    ∧ (l.setps a v c).alwaysOn = l.alwaysOn ∧ (l.setps a v c).sendLap = l.sendLap := by
  simp [Lane.epoch, Lane.lapIn, Lane.present, Lane.active, Lane.lapping, Lane.linksRun, Lane.alwaysOn, Lane.sendLap]

@[simp] theorem Lane.setps_read (a : Nat) (v : Int) (c : Nat) (key : Nat) :
    (l.setps a v c).c key = l.c key ∧ (l.setps a v c).cn key = l.cn key ∧ (l.setps a v c).ring key = l.ring key
    ∧ (l.setps a v c).out key = l.out key ∧ (l.setps a v c).hub key = l.hub key
    ∧ (l.setps a v c).phase key = l.phase key ∧ (l.setps a v c).pack key = l.pack key
    ∧ (l.setps a v c).slot key = l.slot key ∧ (l.setps a v c).pool key = l.pool key
    ∧ (l.setps a v c).cool key = l.cool key ∧ (l.setps a v c).bus key = l.bus key
    ∧ (l.setps a v c).evRing key = l.evRing key := by
  simp [Lane.c, Lane.cn, Lane.ring, Lane.out, Lane.hub, Lane.phase, Lane.pack, Lane.slot, Lane.pool, Lane.cool, Lane.bus, Lane.evRing, Lane.c]

@[simp] theorem Lane.addp_view (a : Nat) (n : Int) :
    (l.addp a n).epoch = l.epoch ∧ (l.addp a n).lapIn = l.lapIn ∧ (l.addp a n).present = l.present
    ∧ (l.addp a n).active = l.active ∧ (l.addp a n).lapping = l.lapping ∧ (l.addp a n).linksRun = l.linksRun
    ∧ (l.addp a n).alwaysOn = l.alwaysOn ∧ (l.addp a n).sendLap = l.sendLap := by
  simp [Lane.epoch, Lane.lapIn, Lane.present, Lane.active, Lane.lapping, Lane.linksRun, Lane.alwaysOn, Lane.sendLap]

@[simp] theorem Lane.addp_read (a : Nat) (n : Int) (key : Nat) :
    (l.addp a n).c key = l.c key ∧ (l.addp a n).cn key = l.cn key ∧ (l.addp a n).st key = l.st key
    ∧ (l.addp a n).ring key = l.ring key ∧ (l.addp a n).out key = l.out key ∧ (l.addp a n).hub key = l.hub key
    ∧ (l.addp a n).phase key = l.phase key ∧ (l.addp a n).pack key = l.pack key ∧ (l.addp a n).slot key = l.slot key
    ∧ (l.addp a n).pool key = l.pool key ∧ (l.addp a n).cool key = l.cool key ∧ (l.addp a n).bus key = l.bus key
    ∧ (l.addp a n).evRing key = l.evRing key := by
  simp [Lane.c, Lane.cn, Lane.st, Lane.ring, Lane.out, Lane.hub, Lane.phase, Lane.pack, Lane.slot, Lane.pool, Lane.cool, Lane.bus, Lane.evRing, Lane.c]

@[simp] theorem Lane.inc_view (a : Nat) :
    (l.inc a).epoch = l.epoch ∧ (l.inc a).lapIn = l.lapIn ∧ (l.inc a).present = l.present ∧ (l.inc a).active = l.active
    ∧ (l.inc a).lapping = l.lapping ∧ (l.inc a).linksRun = l.linksRun ∧ (l.inc a).alwaysOn = l.alwaysOn
    ∧ (l.inc a).sendLap = l.sendLap := by
  simp [Lane.epoch, Lane.lapIn, Lane.present, Lane.active, Lane.lapping, Lane.linksRun, Lane.alwaysOn, Lane.sendLap]

@[simp] theorem Lane.inc_read (a : Nat) (key : Nat) :
    (l.inc a).c key = l.c key ∧ (l.inc a).cn key = l.cn key ∧ (l.inc a).st key = l.st key
    ∧ (l.inc a).ring key = l.ring key ∧ (l.inc a).out key = l.out key ∧ (l.inc a).hub key = l.hub key
    ∧ (l.inc a).phase key = l.phase key ∧ (l.inc a).pack key = l.pack key ∧ (l.inc a).slot key = l.slot key
    ∧ (l.inc a).pool key = l.pool key ∧ (l.inc a).cool key = l.cool key ∧ (l.inc a).bus key = l.bus key
    ∧ (l.inc a).evRing key = l.evRing key := by
  simp [Lane.c, Lane.cn, Lane.st, Lane.ring, Lane.out, Lane.hub, Lane.phase, Lane.pack, Lane.slot, Lane.pool, Lane.cool, Lane.bus, Lane.evRing, Lane.c]

@[simp] theorem Lane.mark_view (b : Nat) :
    (l.mark b).epoch = l.epoch ∧ (l.mark b).lapIn = l.lapIn := by
  simp [Lane.epoch, Lane.lapIn]

@[simp] theorem Lane.mark_read (b : Nat) (key : Nat) :
    (l.mark b).p key = l.p key ∧ (l.mark b).pn key = l.pn key ∧ (l.mark b).c key = l.c key
    ∧ (l.mark b).cn key = l.cn key ∧ (l.mark b).st key = l.st key ∧ (l.mark b).ring key = l.ring key
    ∧ (l.mark b).out key = l.out key ∧ (l.mark b).hub key = l.hub key ∧ (l.mark b).phase key = l.phase key
    ∧ (l.mark b).pack key = l.pack key ∧ (l.mark b).slot key = l.slot key ∧ (l.mark b).pool key = l.pool key
    ∧ (l.mark b).cool key = l.cool key ∧ (l.mark b).bus key = l.bus key ∧ (l.mark b).evRing key = l.evRing key := by
  simp [Lane.p, Lane.pn, Lane.c, Lane.cn, Lane.st, Lane.ring, Lane.out, Lane.hub, Lane.phase, Lane.pack, Lane.slot, Lane.pool, Lane.cool, Lane.bus, Lane.evRing, Lane.p, Lane.c]

@[simp] theorem Lane.setOut_view (o : Nat) (x : OutletSt) :
    (l.setOut o x).epoch = l.epoch ∧ (l.setOut o x).lapIn = l.lapIn ∧ (l.setOut o x).present = l.present
    ∧ (l.setOut o x).active = l.active ∧ (l.setOut o x).lapping = l.lapping ∧ (l.setOut o x).linksRun = l.linksRun
    ∧ (l.setOut o x).alwaysOn = l.alwaysOn ∧ (l.setOut o x).sendLap = l.sendLap := by
  simp [Lane.epoch, Lane.lapIn, Lane.present, Lane.active, Lane.lapping, Lane.linksRun, Lane.alwaysOn, Lane.sendLap]

@[simp] theorem Lane.setOut_read (o : Nat) (x : OutletSt) (key : Nat) :
    (l.setOut o x).p key = l.p key ∧ (l.setOut o x).pn key = l.pn key ∧ (l.setOut o x).c key = l.c key
    ∧ (l.setOut o x).cn key = l.cn key ∧ (l.setOut o x).st key = l.st key ∧ (l.setOut o x).ring key = l.ring key
    ∧ (l.setOut o x).hub key = l.hub key ∧ (l.setOut o x).phase key = l.phase key ∧ (l.setOut o x).pack key = l.pack key
    ∧ (l.setOut o x).slot key = l.slot key ∧ (l.setOut o x).pool key = l.pool key ∧ (l.setOut o x).cool key = l.cool key
    ∧ (l.setOut o x).bus key = l.bus key ∧ (l.setOut o x).evRing key = l.evRing key := by
  simp [Lane.p, Lane.pn, Lane.c, Lane.cn, Lane.st, Lane.ring, Lane.hub, Lane.phase, Lane.pack, Lane.slot, Lane.pool, Lane.cool, Lane.bus, Lane.evRing, Lane.p, Lane.c]

@[simp] theorem Lane.setRing_view (q : Nat) (r : Ring) :
    (l.setRing q r).epoch = l.epoch ∧ (l.setRing q r).lapIn = l.lapIn ∧ (l.setRing q r).present = l.present
    ∧ (l.setRing q r).active = l.active ∧ (l.setRing q r).lapping = l.lapping ∧ (l.setRing q r).linksRun = l.linksRun
    ∧ (l.setRing q r).alwaysOn = l.alwaysOn ∧ (l.setRing q r).sendLap = l.sendLap := by
  simp [Lane.epoch, Lane.lapIn, Lane.present, Lane.active, Lane.lapping, Lane.linksRun, Lane.alwaysOn, Lane.sendLap]

@[simp] theorem Lane.setRing_read (q : Nat) (r : Ring) (key : Nat) :
    (l.setRing q r).p key = l.p key ∧ (l.setRing q r).pn key = l.pn key ∧ (l.setRing q r).c key = l.c key
    ∧ (l.setRing q r).cn key = l.cn key ∧ (l.setRing q r).st key = l.st key ∧ (l.setRing q r).out key = l.out key
    ∧ (l.setRing q r).hub key = l.hub key ∧ (l.setRing q r).phase key = l.phase key
    ∧ (l.setRing q r).pack key = l.pack key ∧ (l.setRing q r).slot key = l.slot key
    ∧ (l.setRing q r).pool key = l.pool key ∧ (l.setRing q r).cool key = l.cool key
    ∧ (l.setRing q r).bus key = l.bus key := by
  simp [Lane.p, Lane.pn, Lane.c, Lane.cn, Lane.st, Lane.out, Lane.hub, Lane.phase, Lane.pack, Lane.slot, Lane.pool, Lane.cool, Lane.bus, Lane.p, Lane.c]

@[simp] theorem Lane.queue_view (q : Nat) (es : List Entry) :
    (l.queue q es).epoch = l.epoch ∧ (l.queue q es).lapIn = l.lapIn ∧ (l.queue q es).present = l.present
    ∧ (l.queue q es).active = l.active ∧ (l.queue q es).lapping = l.lapping ∧ (l.queue q es).linksRun = l.linksRun
    ∧ (l.queue q es).alwaysOn = l.alwaysOn ∧ (l.queue q es).sendLap = l.sendLap := by
  simp [Lane.epoch, Lane.lapIn, Lane.present, Lane.active, Lane.lapping, Lane.linksRun, Lane.alwaysOn, Lane.sendLap]

@[simp] theorem Lane.queue_read (q : Nat) (es : List Entry) (key : Nat) :
    (l.queue q es).p key = l.p key ∧ (l.queue q es).pn key = l.pn key ∧ (l.queue q es).c key = l.c key
    ∧ (l.queue q es).cn key = l.cn key ∧ (l.queue q es).st key = l.st key ∧ (l.queue q es).out key = l.out key
    ∧ (l.queue q es).hub key = l.hub key ∧ (l.queue q es).phase key = l.phase key ∧ (l.queue q es).pack key = l.pack key
    ∧ (l.queue q es).slot key = l.slot key ∧ (l.queue q es).pool key = l.pool key ∧ (l.queue q es).cool key = l.cool key
    ∧ (l.queue q es).bus key = l.bus key := by
  simp [Lane.p, Lane.pn, Lane.c, Lane.cn, Lane.st, Lane.out, Lane.hub, Lane.phase, Lane.pack, Lane.slot, Lane.pool, Lane.cool, Lane.bus, Lane.p, Lane.c]

@[simp] theorem Lane.setHub_view (h : Nat) (x : HubSt) :
    (l.setHub h x).epoch = l.epoch ∧ (l.setHub h x).lapIn = l.lapIn ∧ (l.setHub h x).present = l.present
    ∧ (l.setHub h x).active = l.active ∧ (l.setHub h x).lapping = l.lapping ∧ (l.setHub h x).linksRun = l.linksRun
    ∧ (l.setHub h x).alwaysOn = l.alwaysOn ∧ (l.setHub h x).sendLap = l.sendLap := by
  simp [Lane.epoch, Lane.lapIn, Lane.present, Lane.active, Lane.lapping, Lane.linksRun, Lane.alwaysOn, Lane.sendLap]

@[simp] theorem Lane.setHub_read (h : Nat) (x : HubSt) (key : Nat) :
    (l.setHub h x).p key = l.p key ∧ (l.setHub h x).pn key = l.pn key ∧ (l.setHub h x).c key = l.c key
    ∧ (l.setHub h x).cn key = l.cn key ∧ (l.setHub h x).st key = l.st key ∧ (l.setHub h x).ring key = l.ring key
    ∧ (l.setHub h x).out key = l.out key ∧ (l.setHub h x).phase key = l.phase key ∧ (l.setHub h x).pack key = l.pack key
    ∧ (l.setHub h x).slot key = l.slot key ∧ (l.setHub h x).pool key = l.pool key ∧ (l.setHub h x).cool key = l.cool key
    ∧ (l.setHub h x).bus key = l.bus key ∧ (l.setHub h x).evRing key = l.evRing key := by
  simp [Lane.p, Lane.pn, Lane.c, Lane.cn, Lane.st, Lane.ring, Lane.out, Lane.phase, Lane.pack, Lane.slot, Lane.pool, Lane.cool, Lane.bus, Lane.evRing, Lane.p, Lane.c]

@[simp] theorem Lane.setPhase_view (p : Nat) (x : PhaseSt) :
    (l.setPhase p x).epoch = l.epoch ∧ (l.setPhase p x).lapIn = l.lapIn ∧ (l.setPhase p x).present = l.present
    ∧ (l.setPhase p x).active = l.active ∧ (l.setPhase p x).lapping = l.lapping ∧ (l.setPhase p x).linksRun = l.linksRun
    ∧ (l.setPhase p x).alwaysOn = l.alwaysOn ∧ (l.setPhase p x).sendLap = l.sendLap := by
  simp [Lane.epoch, Lane.lapIn, Lane.present, Lane.active, Lane.lapping, Lane.linksRun, Lane.alwaysOn, Lane.sendLap]

@[simp] theorem Lane.setPhase_read (p : Nat) (x : PhaseSt) (key : Nat) :
    (l.setPhase p x).p key = l.p key ∧ (l.setPhase p x).pn key = l.pn key ∧ (l.setPhase p x).c key = l.c key
    ∧ (l.setPhase p x).cn key = l.cn key ∧ (l.setPhase p x).st key = l.st key ∧ (l.setPhase p x).ring key = l.ring key
    ∧ (l.setPhase p x).out key = l.out key ∧ (l.setPhase p x).hub key = l.hub key
    ∧ (l.setPhase p x).pack key = l.pack key ∧ (l.setPhase p x).slot key = l.slot key
    ∧ (l.setPhase p x).pool key = l.pool key ∧ (l.setPhase p x).cool key = l.cool key
    ∧ (l.setPhase p x).bus key = l.bus key ∧ (l.setPhase p x).evRing key = l.evRing key := by
  simp [Lane.p, Lane.pn, Lane.c, Lane.cn, Lane.st, Lane.ring, Lane.out, Lane.hub, Lane.pack, Lane.slot, Lane.pool, Lane.cool, Lane.bus, Lane.evRing, Lane.p, Lane.c]

@[simp] theorem Lane.setPack_view (k : Nat) (x : PackSt) :
    (l.setPack k x).epoch = l.epoch ∧ (l.setPack k x).lapIn = l.lapIn ∧ (l.setPack k x).present = l.present
    ∧ (l.setPack k x).active = l.active ∧ (l.setPack k x).lapping = l.lapping ∧ (l.setPack k x).linksRun = l.linksRun
    ∧ (l.setPack k x).alwaysOn = l.alwaysOn ∧ (l.setPack k x).sendLap = l.sendLap := by
  simp [Lane.epoch, Lane.lapIn, Lane.present, Lane.active, Lane.lapping, Lane.linksRun, Lane.alwaysOn, Lane.sendLap]

@[simp] theorem Lane.setPack_read (k : Nat) (x : PackSt) (key : Nat) :
    (l.setPack k x).p key = l.p key ∧ (l.setPack k x).pn key = l.pn key ∧ (l.setPack k x).c key = l.c key
    ∧ (l.setPack k x).cn key = l.cn key ∧ (l.setPack k x).st key = l.st key ∧ (l.setPack k x).ring key = l.ring key
    ∧ (l.setPack k x).out key = l.out key ∧ (l.setPack k x).hub key = l.hub key
    ∧ (l.setPack k x).phase key = l.phase key ∧ (l.setPack k x).slot key = l.slot key
    ∧ (l.setPack k x).pool key = l.pool key ∧ (l.setPack k x).cool key = l.cool key
    ∧ (l.setPack k x).bus key = l.bus key ∧ (l.setPack k x).evRing key = l.evRing key := by
  simp [Lane.p, Lane.pn, Lane.c, Lane.cn, Lane.st, Lane.ring, Lane.out, Lane.hub, Lane.phase, Lane.slot, Lane.pool, Lane.cool, Lane.bus, Lane.evRing, Lane.p, Lane.c]

@[simp] theorem Lane.setSlot_view (t : Nat) (x : SlotSt) :
    (l.setSlot t x).epoch = l.epoch ∧ (l.setSlot t x).lapIn = l.lapIn ∧ (l.setSlot t x).present = l.present
    ∧ (l.setSlot t x).active = l.active ∧ (l.setSlot t x).lapping = l.lapping ∧ (l.setSlot t x).linksRun = l.linksRun
    ∧ (l.setSlot t x).alwaysOn = l.alwaysOn ∧ (l.setSlot t x).sendLap = l.sendLap := by
  simp [Lane.epoch, Lane.lapIn, Lane.present, Lane.active, Lane.lapping, Lane.linksRun, Lane.alwaysOn, Lane.sendLap]

@[simp] theorem Lane.setSlot_read (t : Nat) (x : SlotSt) (key : Nat) :
    (l.setSlot t x).p key = l.p key ∧ (l.setSlot t x).pn key = l.pn key ∧ (l.setSlot t x).c key = l.c key
    ∧ (l.setSlot t x).cn key = l.cn key ∧ (l.setSlot t x).st key = l.st key ∧ (l.setSlot t x).ring key = l.ring key
    ∧ (l.setSlot t x).out key = l.out key ∧ (l.setSlot t x).hub key = l.hub key
    ∧ (l.setSlot t x).phase key = l.phase key ∧ (l.setSlot t x).pack key = l.pack key
    ∧ (l.setSlot t x).pool key = l.pool key ∧ (l.setSlot t x).cool key = l.cool key
    ∧ (l.setSlot t x).bus key = l.bus key ∧ (l.setSlot t x).evRing key = l.evRing key := by
  simp [Lane.p, Lane.pn, Lane.c, Lane.cn, Lane.st, Lane.ring, Lane.out, Lane.hub, Lane.phase, Lane.pack, Lane.pool, Lane.cool, Lane.bus, Lane.evRing, Lane.p, Lane.c]

@[simp] theorem Lane.setPool_view (n : Nat) (x : PoolSt) :
    (l.setPool n x).epoch = l.epoch ∧ (l.setPool n x).lapIn = l.lapIn ∧ (l.setPool n x).present = l.present
    ∧ (l.setPool n x).active = l.active ∧ (l.setPool n x).lapping = l.lapping ∧ (l.setPool n x).linksRun = l.linksRun
    ∧ (l.setPool n x).alwaysOn = l.alwaysOn ∧ (l.setPool n x).sendLap = l.sendLap := by
  simp [Lane.epoch, Lane.lapIn, Lane.present, Lane.active, Lane.lapping, Lane.linksRun, Lane.alwaysOn, Lane.sendLap]

@[simp] theorem Lane.setPool_read (n : Nat) (x : PoolSt) (key : Nat) :
    (l.setPool n x).p key = l.p key ∧ (l.setPool n x).pn key = l.pn key ∧ (l.setPool n x).c key = l.c key
    ∧ (l.setPool n x).cn key = l.cn key ∧ (l.setPool n x).st key = l.st key ∧ (l.setPool n x).ring key = l.ring key
    ∧ (l.setPool n x).out key = l.out key ∧ (l.setPool n x).hub key = l.hub key
    ∧ (l.setPool n x).phase key = l.phase key ∧ (l.setPool n x).pack key = l.pack key
    ∧ (l.setPool n x).slot key = l.slot key ∧ (l.setPool n x).cool key = l.cool key
    ∧ (l.setPool n x).bus key = l.bus key ∧ (l.setPool n x).evRing key = l.evRing key := by
  simp [Lane.p, Lane.pn, Lane.c, Lane.cn, Lane.st, Lane.ring, Lane.out, Lane.hub, Lane.phase, Lane.pack, Lane.slot, Lane.cool, Lane.bus, Lane.evRing, Lane.p, Lane.c]

@[simp] theorem Lane.setCool_view (o : Nat) (x : CoolSt) :
    (l.setCool o x).epoch = l.epoch ∧ (l.setCool o x).lapIn = l.lapIn ∧ (l.setCool o x).present = l.present
    ∧ (l.setCool o x).active = l.active ∧ (l.setCool o x).lapping = l.lapping ∧ (l.setCool o x).linksRun = l.linksRun
    ∧ (l.setCool o x).alwaysOn = l.alwaysOn ∧ (l.setCool o x).sendLap = l.sendLap := by
  simp [Lane.epoch, Lane.lapIn, Lane.present, Lane.active, Lane.lapping, Lane.linksRun, Lane.alwaysOn, Lane.sendLap]

@[simp] theorem Lane.setCool_read (o : Nat) (x : CoolSt) (key : Nat) :
    (l.setCool o x).p key = l.p key ∧ (l.setCool o x).pn key = l.pn key ∧ (l.setCool o x).c key = l.c key
    ∧ (l.setCool o x).cn key = l.cn key ∧ (l.setCool o x).st key = l.st key ∧ (l.setCool o x).ring key = l.ring key
    ∧ (l.setCool o x).out key = l.out key ∧ (l.setCool o x).hub key = l.hub key
    ∧ (l.setCool o x).phase key = l.phase key ∧ (l.setCool o x).pack key = l.pack key
    ∧ (l.setCool o x).slot key = l.slot key ∧ (l.setCool o x).pool key = l.pool key
    ∧ (l.setCool o x).bus key = l.bus key ∧ (l.setCool o x).evRing key = l.evRing key := by
  simp [Lane.p, Lane.pn, Lane.c, Lane.cn, Lane.st, Lane.ring, Lane.out, Lane.hub, Lane.phase, Lane.pack, Lane.slot, Lane.pool, Lane.bus, Lane.evRing, Lane.p, Lane.c]

@[simp] theorem Lane.setBus_view (b : Nat) (x : CanBus) :
    (l.setBus b x).epoch = l.epoch ∧ (l.setBus b x).lapIn = l.lapIn ∧ (l.setBus b x).present = l.present
    ∧ (l.setBus b x).active = l.active ∧ (l.setBus b x).lapping = l.lapping ∧ (l.setBus b x).linksRun = l.linksRun
    ∧ (l.setBus b x).alwaysOn = l.alwaysOn ∧ (l.setBus b x).sendLap = l.sendLap := by
  simp [Lane.epoch, Lane.lapIn, Lane.present, Lane.active, Lane.lapping, Lane.linksRun, Lane.alwaysOn, Lane.sendLap]

@[simp] theorem Lane.setBus_read (b : Nat) (x : CanBus) (key : Nat) :
    (l.setBus b x).p key = l.p key ∧ (l.setBus b x).pn key = l.pn key ∧ (l.setBus b x).c key = l.c key
    ∧ (l.setBus b x).cn key = l.cn key ∧ (l.setBus b x).st key = l.st key ∧ (l.setBus b x).ring key = l.ring key
    ∧ (l.setBus b x).out key = l.out key ∧ (l.setBus b x).hub key = l.hub key ∧ (l.setBus b x).phase key = l.phase key
    ∧ (l.setBus b x).pack key = l.pack key ∧ (l.setBus b x).slot key = l.slot key ∧ (l.setBus b x).pool key = l.pool key
    ∧ (l.setBus b x).cool key = l.cool key ∧ (l.setBus b x).evRing key = l.evRing key := by
  simp [Lane.p, Lane.pn, Lane.c, Lane.cn, Lane.st, Lane.ring, Lane.out, Lane.hub, Lane.phase, Lane.pack, Lane.slot, Lane.pool, Lane.cool, Lane.evRing, Lane.p, Lane.c]

@[simp] theorem Lane.lnk_view (f : LinkSt → LinkSt) :
    (l.lnk f).epoch = l.epoch ∧ (l.lnk f).lapIn = l.lapIn := by
  simp [Lane.epoch, Lane.lapIn]

@[simp] theorem Lane.lnk_read (f : LinkSt → LinkSt) (key : Nat) :
    (l.lnk f).p key = l.p key ∧ (l.lnk f).pn key = l.pn key ∧ (l.lnk f).c key = l.c key ∧ (l.lnk f).cn key = l.cn key
    ∧ (l.lnk f).st key = l.st key ∧ (l.lnk f).ring key = l.ring key ∧ (l.lnk f).out key = l.out key
    ∧ (l.lnk f).hub key = l.hub key ∧ (l.lnk f).phase key = l.phase key ∧ (l.lnk f).pack key = l.pack key
    ∧ (l.lnk f).slot key = l.slot key ∧ (l.lnk f).pool key = l.pool key ∧ (l.lnk f).cool key = l.cool key
    ∧ (l.lnk f).bus key = l.bus key ∧ (l.lnk f).evRing key = l.evRing key := by
  simp [Lane.p, Lane.pn, Lane.c, Lane.cn, Lane.st, Lane.ring, Lane.out, Lane.hub, Lane.phase, Lane.pack, Lane.slot, Lane.pool, Lane.cool, Lane.bus, Lane.evRing, Lane.p, Lane.c]

@[simp] theorem Lane.hst_view (f : HostSt → HostSt) :
    (l.hst f).epoch = l.epoch ∧ (l.hst f).lapIn = l.lapIn ∧ (l.hst f).present = l.present ∧ (l.hst f).active = l.active
    ∧ (l.hst f).lapping = l.lapping ∧ (l.hst f).linksRun = l.linksRun ∧ (l.hst f).alwaysOn = l.alwaysOn
    ∧ (l.hst f).sendLap = l.sendLap := by
  simp [Lane.epoch, Lane.lapIn, Lane.present, Lane.active, Lane.lapping, Lane.linksRun, Lane.alwaysOn, Lane.sendLap]

@[simp] theorem Lane.hst_read (f : HostSt → HostSt) (key : Nat) :
    (l.hst f).p key = l.p key ∧ (l.hst f).pn key = l.pn key ∧ (l.hst f).c key = l.c key ∧ (l.hst f).cn key = l.cn key
    ∧ (l.hst f).st key = l.st key ∧ (l.hst f).out key = l.out key ∧ (l.hst f).hub key = l.hub key
    ∧ (l.hst f).phase key = l.phase key ∧ (l.hst f).pack key = l.pack key ∧ (l.hst f).slot key = l.slot key
    ∧ (l.hst f).pool key = l.pool key ∧ (l.hst f).cool key = l.cool key ∧ (l.hst f).bus key = l.bus key := by
  simp [Lane.p, Lane.pn, Lane.c, Lane.cn, Lane.st, Lane.out, Lane.hub, Lane.phase, Lane.pack, Lane.slot, Lane.pool, Lane.cool, Lane.bus, Lane.p, Lane.c]

@[simp] theorem Lane.pac_view (f : PacerSt → PacerSt) :
    (l.pac f).epoch = l.epoch ∧ (l.pac f).lapIn = l.lapIn ∧ (l.pac f).present = l.present
    ∧ (l.pac f).alwaysOn = l.alwaysOn ∧ (l.pac f).sendLap = l.sendLap := by
  simp [Lane.epoch, Lane.lapIn, Lane.present, Lane.alwaysOn, Lane.sendLap]

@[simp] theorem Lane.pac_read (f : PacerSt → PacerSt) (key : Nat) :
    (l.pac f).p key = l.p key ∧ (l.pac f).pn key = l.pn key ∧ (l.pac f).c key = l.c key ∧ (l.pac f).cn key = l.cn key
    ∧ (l.pac f).st key = l.st key ∧ (l.pac f).ring key = l.ring key ∧ (l.pac f).out key = l.out key
    ∧ (l.pac f).hub key = l.hub key ∧ (l.pac f).phase key = l.phase key ∧ (l.pac f).pack key = l.pack key
    ∧ (l.pac f).slot key = l.slot key ∧ (l.pac f).pool key = l.pool key ∧ (l.pac f).cool key = l.cool key
    ∧ (l.pac f).bus key = l.bus key ∧ (l.pac f).evRing key = l.evRing key := by
  simp [Lane.p, Lane.pn, Lane.c, Lane.cn, Lane.st, Lane.ring, Lane.out, Lane.hub, Lane.phase, Lane.pack, Lane.slot, Lane.pool, Lane.cool, Lane.bus, Lane.evRing, Lane.p, Lane.c]

@[simp] theorem Lane.pow_view (f : PowerSt → PowerSt) :
    (l.pow f).epoch = l.epoch ∧ (l.pow f).lapIn = l.lapIn ∧ (l.pow f).present = l.present ∧ (l.pow f).active = l.active
    ∧ (l.pow f).lapping = l.lapping ∧ (l.pow f).linksRun = l.linksRun ∧ (l.pow f).sendLap = l.sendLap := by
  simp [Lane.epoch, Lane.lapIn, Lane.present, Lane.active, Lane.lapping, Lane.linksRun, Lane.sendLap]

@[simp] theorem Lane.pow_read (f : PowerSt → PowerSt) (key : Nat) :
    (l.pow f).p key = l.p key ∧ (l.pow f).pn key = l.pn key ∧ (l.pow f).c key = l.c key ∧ (l.pow f).cn key = l.cn key
    ∧ (l.pow f).st key = l.st key ∧ (l.pow f).ring key = l.ring key ∧ (l.pow f).out key = l.out key
    ∧ (l.pow f).hub key = l.hub key ∧ (l.pow f).phase key = l.phase key ∧ (l.pow f).pack key = l.pack key
    ∧ (l.pow f).slot key = l.slot key ∧ (l.pow f).pool key = l.pool key ∧ (l.pow f).cool key = l.cool key
    ∧ (l.pow f).bus key = l.bus key ∧ (l.pow f).evRing key = l.evRing key := by
  simp [Lane.p, Lane.pn, Lane.c, Lane.cn, Lane.st, Lane.ring, Lane.out, Lane.hub, Lane.phase, Lane.pack, Lane.slot, Lane.pool, Lane.cool, Lane.bus, Lane.evRing, Lane.p, Lane.c]

@[simp] theorem Lane.metBang_view (f : MetSt → MetSt) :
    (l.met! f).epoch = l.epoch ∧ (l.met! f).lapIn = l.lapIn ∧ (l.met! f).present = l.present
    ∧ (l.met! f).active = l.active ∧ (l.met! f).lapping = l.lapping ∧ (l.met! f).linksRun = l.linksRun
    ∧ (l.met! f).alwaysOn = l.alwaysOn ∧ (l.met! f).sendLap = l.sendLap := by
  simp [Lane.epoch, Lane.lapIn, Lane.present, Lane.active, Lane.lapping, Lane.linksRun, Lane.alwaysOn, Lane.sendLap]

@[simp] theorem Lane.metBang_read (f : MetSt → MetSt) (key : Nat) :
    (l.met! f).p key = l.p key ∧ (l.met! f).pn key = l.pn key ∧ (l.met! f).c key = l.c key
    ∧ (l.met! f).cn key = l.cn key ∧ (l.met! f).st key = l.st key ∧ (l.met! f).ring key = l.ring key
    ∧ (l.met! f).out key = l.out key ∧ (l.met! f).hub key = l.hub key ∧ (l.met! f).phase key = l.phase key
    ∧ (l.met! f).pack key = l.pack key ∧ (l.met! f).slot key = l.slot key ∧ (l.met! f).pool key = l.pool key
    ∧ (l.met! f).cool key = l.cool key ∧ (l.met! f).bus key = l.bus key ∧ (l.met! f).evRing key = l.evRing key := by
  simp [Lane.p, Lane.pn, Lane.c, Lane.cn, Lane.st, Lane.ring, Lane.out, Lane.hub, Lane.phase, Lane.pack, Lane.slot, Lane.pool, Lane.cool, Lane.bus, Lane.evRing, Lane.p, Lane.c]

@[simp] theorem Lane.safeBang_view (f : SafeSt → SafeSt) :
    (l.safe! f).epoch = l.epoch ∧ (l.safe! f).lapIn = l.lapIn ∧ (l.safe! f).present = l.present
    ∧ (l.safe! f).active = l.active ∧ (l.safe! f).lapping = l.lapping ∧ (l.safe! f).linksRun = l.linksRun
    ∧ (l.safe! f).alwaysOn = l.alwaysOn ∧ (l.safe! f).sendLap = l.sendLap := by
  simp [Lane.epoch, Lane.lapIn, Lane.present, Lane.active, Lane.lapping, Lane.linksRun, Lane.alwaysOn, Lane.sendLap]

@[simp] theorem Lane.safeBang_read (f : SafeSt → SafeSt) (key : Nat) :
    (l.safe! f).p key = l.p key ∧ (l.safe! f).pn key = l.pn key ∧ (l.safe! f).c key = l.c key
    ∧ (l.safe! f).cn key = l.cn key ∧ (l.safe! f).st key = l.st key ∧ (l.safe! f).ring key = l.ring key
    ∧ (l.safe! f).out key = l.out key ∧ (l.safe! f).hub key = l.hub key ∧ (l.safe! f).phase key = l.phase key
    ∧ (l.safe! f).pack key = l.pack key ∧ (l.safe! f).slot key = l.slot key ∧ (l.safe! f).pool key = l.pool key
    ∧ (l.safe! f).cool key = l.cool key ∧ (l.safe! f).bus key = l.bus key ∧ (l.safe! f).evRing key = l.evRing key := by
  simp [Lane.p, Lane.pn, Lane.c, Lane.cn, Lane.st, Lane.ring, Lane.out, Lane.hub, Lane.phase, Lane.pack, Lane.slot, Lane.pool, Lane.cool, Lane.bus, Lane.evRing, Lane.p, Lane.c]

@[simp] theorem Lane.thermBang_view (f : ThermSt → ThermSt) :
    (l.therm! f).epoch = l.epoch ∧ (l.therm! f).lapIn = l.lapIn ∧ (l.therm! f).present = l.present
    ∧ (l.therm! f).active = l.active ∧ (l.therm! f).lapping = l.lapping ∧ (l.therm! f).linksRun = l.linksRun
    ∧ (l.therm! f).alwaysOn = l.alwaysOn ∧ (l.therm! f).sendLap = l.sendLap := by
  simp [Lane.epoch, Lane.lapIn, Lane.present, Lane.active, Lane.lapping, Lane.linksRun, Lane.alwaysOn, Lane.sendLap]

@[simp] theorem Lane.thermBang_read (f : ThermSt → ThermSt) (key : Nat) :
    (l.therm! f).p key = l.p key ∧ (l.therm! f).pn key = l.pn key ∧ (l.therm! f).c key = l.c key
    ∧ (l.therm! f).cn key = l.cn key ∧ (l.therm! f).st key = l.st key ∧ (l.therm! f).ring key = l.ring key
    ∧ (l.therm! f).out key = l.out key ∧ (l.therm! f).hub key = l.hub key ∧ (l.therm! f).phase key = l.phase key
    ∧ (l.therm! f).pack key = l.pack key ∧ (l.therm! f).slot key = l.slot key ∧ (l.therm! f).pool key = l.pool key
    ∧ (l.therm! f).cool key = l.cool key ∧ (l.therm! f).bus key = l.bus key
    ∧ (l.therm! f).evRing key = l.evRing key := by
  simp [Lane.p, Lane.pn, Lane.c, Lane.cn, Lane.st, Lane.ring, Lane.out, Lane.hub, Lane.phase, Lane.pack, Lane.slot, Lane.pool, Lane.cool, Lane.bus, Lane.evRing, Lane.p, Lane.c]

@[simp] theorem Lane.fire_view (n u : Nat) (d : List Int) :
    (l.fire n u d).epoch = l.epoch ∧ (l.fire n u d).lapIn = l.lapIn ∧ (l.fire n u d).present = l.present
    ∧ (l.fire n u d).active = l.active ∧ (l.fire n u d).lapping = l.lapping ∧ (l.fire n u d).linksRun = l.linksRun
    ∧ (l.fire n u d).alwaysOn = l.alwaysOn ∧ (l.fire n u d).sendLap = l.sendLap := by
  simp [Lane.epoch, Lane.lapIn, Lane.present, Lane.active, Lane.lapping, Lane.linksRun, Lane.alwaysOn, Lane.sendLap]

@[simp] theorem Lane.fire_read (n u : Nat) (d : List Int) (key : Nat) :
    (l.fire n u d).p key = l.p key ∧ (l.fire n u d).pn key = l.pn key ∧ (l.fire n u d).c key = l.c key
    ∧ (l.fire n u d).cn key = l.cn key ∧ (l.fire n u d).st key = l.st key ∧ (l.fire n u d).out key = l.out key
    ∧ (l.fire n u d).hub key = l.hub key ∧ (l.fire n u d).phase key = l.phase key ∧ (l.fire n u d).pack key = l.pack key
    ∧ (l.fire n u d).slot key = l.slot key ∧ (l.fire n u d).pool key = l.pool key ∧ (l.fire n u d).cool key = l.cool key
    ∧ (l.fire n u d).bus key = l.bus key := by
  simp [Lane.p, Lane.pn, Lane.c, Lane.cn, Lane.st, Lane.out, Lane.hub, Lane.phase, Lane.pack, Lane.slot, Lane.pool, Lane.cool, Lane.bus, Lane.p, Lane.c]

@[simp] theorem Lane.fireIf_view (cc : Bool) (n u : Nat) (d : List Int) :
    (l.fireIf cc n u d).epoch = l.epoch ∧ (l.fireIf cc n u d).lapIn = l.lapIn ∧ (l.fireIf cc n u d).present = l.present
    ∧ (l.fireIf cc n u d).active = l.active ∧ (l.fireIf cc n u d).lapping = l.lapping
    ∧ (l.fireIf cc n u d).linksRun = l.linksRun ∧ (l.fireIf cc n u d).alwaysOn = l.alwaysOn
    ∧ (l.fireIf cc n u d).sendLap = l.sendLap := by
  simp [Lane.epoch, Lane.lapIn, Lane.present, Lane.active, Lane.lapping, Lane.linksRun, Lane.alwaysOn, Lane.sendLap]

@[simp] theorem Lane.fireIf_read (cc : Bool) (n u : Nat) (d : List Int) (key : Nat) :
    (l.fireIf cc n u d).p key = l.p key ∧ (l.fireIf cc n u d).pn key = l.pn key ∧ (l.fireIf cc n u d).c key = l.c key
    ∧ (l.fireIf cc n u d).cn key = l.cn key ∧ (l.fireIf cc n u d).st key = l.st key
    ∧ (l.fireIf cc n u d).out key = l.out key ∧ (l.fireIf cc n u d).hub key = l.hub key
    ∧ (l.fireIf cc n u d).phase key = l.phase key ∧ (l.fireIf cc n u d).pack key = l.pack key
    ∧ (l.fireIf cc n u d).slot key = l.slot key ∧ (l.fireIf cc n u d).pool key = l.pool key
    ∧ (l.fireIf cc n u d).cool key = l.cool key ∧ (l.fireIf cc n u d).bus key = l.bus key := by
  simp [Lane.p, Lane.pn, Lane.c, Lane.cn, Lane.st, Lane.out, Lane.hub, Lane.phase, Lane.pack, Lane.slot, Lane.pool, Lane.cool, Lane.bus, Lane.p, Lane.c]

@[simp] theorem Lane.answer_view (r : Request) (rep : Reply) :
    (l.answer r rep).epoch = l.epoch ∧ (l.answer r rep).lapIn = l.lapIn ∧ (l.answer r rep).present = l.present
    ∧ (l.answer r rep).active = l.active ∧ (l.answer r rep).lapping = l.lapping ∧ (l.answer r rep).linksRun = l.linksRun
    ∧ (l.answer r rep).alwaysOn = l.alwaysOn ∧ (l.answer r rep).sendLap = l.sendLap := by
  simp [Lane.epoch, Lane.lapIn, Lane.present, Lane.active, Lane.lapping, Lane.linksRun, Lane.alwaysOn, Lane.sendLap]

@[simp] theorem Lane.answer_read (r : Request) (rep : Reply) (key : Nat) :
    (l.answer r rep).p key = l.p key ∧ (l.answer r rep).pn key = l.pn key ∧ (l.answer r rep).c key = l.c key
    ∧ (l.answer r rep).cn key = l.cn key ∧ (l.answer r rep).st key = l.st key ∧ (l.answer r rep).out key = l.out key
    ∧ (l.answer r rep).hub key = l.hub key ∧ (l.answer r rep).phase key = l.phase key
    ∧ (l.answer r rep).pack key = l.pack key ∧ (l.answer r rep).slot key = l.slot key
    ∧ (l.answer r rep).pool key = l.pool key ∧ (l.answer r rep).cool key = l.cool key
    ∧ (l.answer r rep).bus key = l.bus key := by
  simp [Lane.p, Lane.pn, Lane.c, Lane.cn, Lane.st, Lane.out, Lane.hub, Lane.phase, Lane.pack, Lane.slot, Lane.pool, Lane.cool, Lane.bus, Lane.p, Lane.c]

@[simp] theorem Lane.p_setp (a : Nat) (v : Int) (b : Nat) : (l.setp a v).p b = if b = a then v else l.p b := by
  simp [Lane.p, Lane.setp]

@[simp] theorem Lane.pn_setp (a : Nat) (v : Int) (b : Nat) : (l.setp a v).pn b = if b = a then v.toNat else l.pn b := by
  simp only [Lane.pn, Lane.p_setp]; split <;> rfl

@[simp] theorem Lane.p_setps (a : Nat) (v : Int) (c b : Nat) : (l.setps a v c).p b = if b = a then v else l.p b := by
  simp [Lane.setps]

@[simp] theorem Lane.st_setst (a c b : Nat) : (l.setst a c).st b = if b = a then c else l.st b := by
  simp [Lane.st, Lane.setst]

@[simp] theorem Lane.st_setps (a : Nat) (v : Int) (c b : Nat) : (l.setps a v c).st b = if b = a then c else l.st b := by
  simp [Lane.setps, Lane.st_setst]

@[simp] theorem Lane.p_addp (a : Nat) (n : Int) (b : Nat) : (l.addp a n).p b = if b = a then l.p a + n else l.p b := by
  simp [Lane.addp]

@[simp] theorem Lane.p_inc (a b : Nat) : (l.inc a).p b = if b = a then l.p a + 1 else l.p b := by
  simp [Lane.inc]

@[simp] theorem Lane.out_setOut (o : Nat) (x : OutletSt) (k : Nat) : (l.setOut o x).out k = if k = o then x else l.out k := by
  simp [Lane.out, Lane.setOut]

@[simp] theorem Lane.ring_setRing (q : Nat) (r : Ring) (k : Nat) : (l.setRing q r).ring k = if k = q then r else l.ring k := by
  simp [Lane.ring, Lane.setRing]

@[simp] theorem Lane.hub_setHub (q : Nat) (r : HubSt) (k : Nat) : (l.setHub q r).hub k = if k = q then r else l.hub k := by
  simp [Lane.hub, Lane.setHub]

@[simp] theorem Lane.phase_setPhase (q : Nat) (r : PhaseSt) (k : Nat) : (l.setPhase q r).phase k = if k = q then r else l.phase k := by
  simp [Lane.phase, Lane.setPhase]

@[simp] theorem Lane.pack_setPack (q : Nat) (r : PackSt) (k : Nat) : (l.setPack q r).pack k = if k = q then r else l.pack k := by
  simp [Lane.pack, Lane.setPack]

@[simp] theorem Lane.slot_setSlot (q : Nat) (r : SlotSt) (k : Nat) : (l.setSlot q r).slot k = if k = q then r else l.slot k := by
  simp [Lane.slot, Lane.setSlot]

@[simp] theorem Lane.pool_setPool (q : Nat) (r : PoolSt) (k : Nat) : (l.setPool q r).pool k = if k = q then r else l.pool k := by
  simp [Lane.pool, Lane.setPool]

@[simp] theorem Lane.cool_setCool (q : Nat) (r : CoolSt) (k : Nat) : (l.setCool q r).cool k = if k = q then r else l.cool k := by
  simp [Lane.cool, Lane.setCool]

@[simp] theorem Lane.bus_setBus (q : Nat) (r : CanBus) (k : Nat) : (l.setBus q r).bus k = if k = q then r else l.bus k := by
  simp [Lane.bus, Lane.setBus]

@[simp] theorem Lane.link_lnk (f : LinkSt → LinkSt) : (l.lnk f).link = f l.link := rfl

@[simp] theorem Lane.host_hst (f : HostSt → HostSt) : (l.hst f).host = f l.host := rfl

@[simp] theorem Lane.pacer_pac (f : PacerSt → PacerSt) : (l.pac f).pacer = f l.pacer := rfl

@[simp] theorem Lane.power_pow (f : PowerSt → PowerSt) : (l.pow f).power = f l.power := rfl

@[simp] theorem Lane.met_metBang (f : MetSt → MetSt) : (l.met! f).met = f l.met := rfl

@[simp] theorem Lane.safe_safeBang (f : SafeSt → SafeSt) : (l.safe! f).safe = f l.safe := rfl

@[simp] theorem Lane.therm_thermBang (f : ThermSt → ThermSt) : (l.therm! f).therm = f l.therm := rfl

end Sys2Proof.Machine
end

