-- ==== Sys2Proof/Laws/Shared.lean ====
section
/-!
SUPPORT. What no operation on the lanes can reach: the identity of the chassis, the seal, the queue of commands, and the grant
with its baton number. One law per operation.
-/

namespace Sys2Proof.Machine

/-- What the operations on lanes leave alone: the variant and the identity of the chassis (R1, R43), the CAL SEAL switch, the queue,
the grant, and the baton number while a lane holds the grant (R353). -/
structure Core where
  variant : Variant
  serialLo : Nat
  serialHi : Nat
  rev : Nat
  sealOpen : Bool
  pending : List Instr
  grant : Option LaneId
  baton : Option Nat
deriving DecidableEq, Repr

/-- That part of a state. -/
def State.core (s : State) : Core :=
  { variant := s.chassis.variant, serialLo := s.chassis.serialLo, serialHi := s.chassis.serialHi, rev := s.chassis.rev
    sealOpen := s.chassis.sealOpen, pending := s.pending, grant := s.arbiter.grant
    baton := if s.arbiter.grant.isSome then some s.arbiter.baton else none }

variable (s : State)

@[simp] theorem State.setLane_core (i : LaneId) (l : Lane) : (s.setLane i l).core = s.core := by cases i <;> rfl

@[simp] theorem State.onLane_core (i : LaneId) (p : Lane → Bool) (f : LaneFn) : (s.onLane i p f).core = s.core := by
  unfold State.onLane; split <;> simp

/-- A run of operations that each leave it alone leaves it alone. -/
@[simp] theorem State.foldl_core {α : Type} (xs : List α) (f : State → α → State) (h : ∀ s x, (f s x).core = s.core) (s : State) :
    (xs.foldl f s).core = s.core := by
  induction xs generalizing s with
  | nil => rfl
  | cons x t ih => rw [List.foldl_cons, ih, h]

@[simp] theorem State.eachLane_core (p : Lane → Bool) (f : LaneFn) : (s.eachLane p f).core = s.core := rfl

@[simp] theorem State.drive_core : (s.drive).core = s.core := by
  unfold State.drive
  (try dsimp only)
  repeat' split
  all_goals first | rfl | simp | (simp [State.core]; done)

@[simp] theorem State.fireBoth_core (n unit : Nat) (detail : List Int) : (s.fireBoth n unit detail).core = s.core := by
  unfold State.fireBoth
  first | rfl | simp

@[simp] theorem State.alsoFire_core (i : LaneId) (old : State) : (State.alsoFire s i old).core = s.core := by
  unfold State.alsoFire
  (try dsimp only)
  repeat' split
  all_goals first | rfl | simp | (simp [State.core]; done)

@[simp] theorem State.alsoTell_core (i : LaneId) (old : State) : (State.alsoTell s i old).core = s.core := by
  unfold State.alsoTell
  (try dsimp only)
  repeat' split
  all_goals first | rfl | simp | (simp [State.core]; done)

@[simp] theorem State.pacerFollow_core  : (State.pacerFollow s).core = s.core := by
  unfold State.pacerFollow
  (try dsimp only)
  repeat' split
  all_goals first | rfl | simp | (simp [State.core]; done)

@[simp] theorem State.answerBoth_core (r : Request) (rep : Reply) : (s.answerBoth r rep).core = s.core := by
  unfold State.answerBoth
  first | rfl | simp

@[simp] theorem State.laneTo_core (i : LaneId) (st : LaneState) (ph : Phase) : (s.laneTo i st ph).core = s.core := by
  unfold State.laneTo
  extract_lets old up s1 s2
  have h2 : s2.core = s.core := by simp only [s2]; split <;> simp [s1]
  clear_value s2
  split
  · split
    · simp only; split <;> simp [h2]
    · exact h2
  · exact h2

@[simp] theorem State.laneCleared_core (i : LaneId) (fault : Bool) : (State.laneCleared i fault s).core = s.core := by
  unfold State.laneCleared
  (try dsimp only)
  repeat' split
  all_goals first | rfl | simp | (simp [State.core]; done)

@[simp] theorem State.laneReset_core (i : LaneId) (fault : Bool) : (s.laneReset i fault).core = s.core := by
  unfold State.laneReset
  (try dsimp only)
  repeat' split
  all_goals first | rfl | simp | (simp [State.core]; done)

@[simp] theorem State.fastOff_core (i : LaneId) (fault : Bool) : (s.fastOff i fault).core = s.core := by
  unfold State.fastOff
  first | rfl | simp

@[simp] theorem State.park_core (i : LaneId) : (s.park i).core = s.core := by
  unfold State.park
  first | rfl | simp

@[simp] theorem State.leaveStep_core (i : LaneId) : (s.leaveStep i).core = s.core := by
  unfold State.leaveStep
  (try dsimp only)
  repeat' split
  all_goals first | rfl | simp | (simp [State.core]; done)

@[simp] theorem State.diagnose_core (i : LaneId) (cause : Nat) : (s.diagnose i cause).core = s.core := by
  unfold State.diagnose
  (try dsimp only)
  repeat' split
  all_goals first | rfl | simp | (simp [State.core]; done)

@[simp] theorem State.lapDiagnosis_core : (s.lapDiagnosis).core = s.core := by
  unfold State.lapDiagnosis
  (try dsimp only)
  repeat' split
  all_goals first | rfl | simp | (simp [State.core]; done)

@[simp] theorem State.health_core : (s.health).core = s.core := by
  unfold State.health
  (try dsimp only)
  repeat' split
  all_goals first | rfl | simp | (simp [State.core]; done)

@[simp] theorem State.grantLines_core : (s.grantLines).core = s.core := by
  unfold State.grantLines
  first | rfl | simp

@[simp] theorem State.loseGrant_core (i : LaneId) : (s.loseGrant i).core = s.core := by
  unfold State.loseGrant
  (try dsimp only)
  repeat' split
  all_goals first | rfl | simp | (simp [State.core]; done)

@[simp] theorem State.fwStep_core (i : LaneId) (k : Nat) : (s.fwStep i k).core = s.core := by
  unfold State.fwStep
  first | rfl | simp

@[simp] theorem State.gainGrant_core (i : LaneId) (old : Option LaneId) (oldNo : Nat) : (s.gainGrant i old oldNo).core = s.core := by
  unfold State.gainGrant
  (try dsimp only)
  repeat' split
  all_goals first | rfl | simp | (simp [State.core]; done)

@[simp] theorem State.joinBooted_core : (s.joinBooted).core = s.core := by
  unfold State.joinBooted
  (try dsimp only)
  repeat' split
  all_goals first | rfl | simp | (simp [State.core]; done)

@[simp] theorem State.watchdogMiss_core (i : LaneId) : (s.watchdogMiss i).core = s.core := by
  unfold State.watchdogMiss
  first | rfl | simp

@[simp] theorem State.laneInput_core (i : LaneId) (x : LapInput) : (State.laneInput i x s).core = s.core := by
  unfold State.laneInput
  (try dsimp only)
  repeat' split
  all_goals first | rfl | simp | (simp [State.core]; done)

@[simp] theorem State.loadBaton_core (i : LaneId) : (s.loadBaton i).core = s.core := by
  unfold State.loadBaton
  dsimp only
  split
  · rename_i h
    simp only [Bool.and_eq_true, Option.isNone_iff_eq_none] at h
    simp [State.core, h.1]
  · rfl

@[simp] theorem State.bootedLane_core (i : LaneId) : (s.bootedLane i).core = s.core := by
  unfold State.bootedLane
  (try dsimp only)
  repeat' split
  all_goals first | rfl | simp | (simp [State.core]; done)

@[simp] theorem State.bootComplete_core (i : LaneId) : (s.bootComplete i).core = s.core := by
  unfold State.bootComplete
  (try dsimp only)
  repeat' split
  all_goals first | rfl | simp | (simp [State.core]; done)

@[simp] theorem State.alignComplete_core (i : LaneId) : (s.alignComplete i).core = s.core := by
  unfold State.alignComplete
  (try dsimp only)
  repeat' split
  all_goals first | rfl | simp | (simp [State.core]; done)

@[simp] theorem State.copyComplete_core (i : LaneId) : (s.copyComplete i).core = s.core := by
  unfold State.copyComplete
  (try dsimp only)
  repeat' split
  all_goals first | rfl | simp | (simp [State.core]; done)

@[simp] theorem State.catchupComplete_core (i : LaneId) : (s.catchupComplete i).core = s.core := by
  unfold State.catchupComplete
  (try dsimp only)
  repeat' split
  all_goals first | rfl | simp | (simp [State.core]; done)

@[simp] theorem State.shadowComplete_core (i : LaneId) : (s.shadowComplete i).core = s.core := by
  unfold State.shadowComplete
  (try dsimp only)
  repeat' split
  all_goals first | rfl | simp | (simp [State.core]; done)

@[simp] theorem State.phaseTimeout_core (i : LaneId) : (s.phaseTimeout i).core = s.core := by
  unfold State.phaseTimeout
  (try dsimp only)
  repeat' split
  all_goals first | rfl | simp | (simp [State.core]; done)

@[simp] theorem State.compareFault_core (i : LaneId) : (s.compareFault i).core = s.core := by
  unfold State.compareFault
  (try dsimp only)
  repeat' split
  all_goals first | rfl | simp | (simp [State.core]; done)

@[simp] theorem State.crcReceive_core : (s.crcReceive).core = s.core := by
  unfold State.crcReceive
  (try dsimp only)
  repeat' split
  all_goals first | rfl | simp | (simp [State.core]; done)

@[simp] theorem State.linkTimeout_core : (s.linkTimeout).core = s.core := by
  unfold State.linkTimeout
  (try dsimp only)
  repeat' split
  all_goals first | rfl | simp | (simp [State.core]; done)

@[simp] theorem State.allocExchange_core : (s.allocExchange).core = s.core := by
  unfold State.allocExchange
  (try dsimp only)
  repeat' split
  all_goals first | rfl | simp | (simp [State.core]; done)

@[simp] theorem State.digestRound_core (differs : Bool) (run : LinkSt → Nat) (set : Nat → LinkSt → LinkSt) : (State.digestRound differs run set s).core = s.core := by
  unfold State.digestRound
  (try dsimp only)
  repeat' split
  all_goals first | rfl | simp | (simp [State.core]; done)

@[simp] theorem State.laneInserted_core (i : LaneId) (fresh mismatch : Bool) (serial : Nat) : (s.laneInserted i fresh mismatch serial).core = s.core := by
  unfold State.laneInserted
  (try dsimp only)
  repeat' split
  all_goals first | rfl | simp | (simp [State.core]; done)

@[simp] theorem State.laneRemoved_core (i : LaneId) : (s.laneRemoved i).core = s.core := by
  unfold State.laneRemoved
  (try dsimp only)
  repeat' split
  all_goals first | rfl | simp | (simp [State.core]; done)

@[simp] theorem State.ejectOpen_core (i : LaneId) : (s.ejectOpen i).core = s.core := by
  unfold State.ejectOpen
  (try dsimp only)
  repeat' split
  all_goals first | rfl | simp | (simp [State.core]; done)

@[simp] theorem State.lapsStart_core (i : LaneId) : (s.lapsStart i).core = s.core := by
  unfold State.lapsStart
  (try dsimp only)
  repeat' split
  all_goals first | rfl | (simp; done) | (simp; rfl)

@[simp] theorem State.powBoth_core (f : Lane → PowerSt → PowerSt) : (s.powBoth f).core = s.core := by
  unfold State.powBoth
  first | rfl | simp

@[simp] theorem State.cancelSleep_core : (s.cancelSleep).core = s.core := by
  unfold State.cancelSleep
  (try dsimp only)
  repeat' split
  all_goals first | rfl | simp | (simp [State.core]; done)

@[simp] theorem State.sleepPrecheck_core : (s.sleepPrecheck).core = s.core := by
  unfold State.sleepPrecheck
  (try dsimp only)
  repeat' split
  all_goals first | rfl | simp | (simp [State.core]; done)

@[simp] theorem State.sleepPoint_core : (s.sleepPoint).core = s.core := by
  unfold State.sleepPoint
  (try dsimp only)
  repeat' split
  all_goals first | rfl | simp | (simp [State.core]; done)

@[simp] theorem State.sleepWantDrop_core : (s.sleepWantDrop).core = s.core := by
  unfold State.sleepWantDrop
  (try dsimp only)
  repeat' split
  all_goals first | rfl | simp | (simp [State.core]; done)

@[simp] theorem State.startWake_core (source : Nat) : (s.startWake source).core = s.core := by
  unfold State.startWake
  (try dsimp only)
  repeat' split
  all_goals first | rfl | simp | (simp [State.core]; done)

@[simp] theorem State.asleepEntry_core (sealIt : Lane → Lane) : (s.asleepEntry sealIt).core = s.core := by
  unfold State.asleepEntry
  (try dsimp only)
  repeat' split
  all_goals first | rfl | simp | (simp [State.core]; done)

@[simp] theorem State.wake_core (source : Nat) : (s.wake source).core = s.core := by
  unfold State.wake
  (try dsimp only)
  repeat' split
  all_goals first | rfl | simp | (simp [State.core]; done)

@[simp] theorem State.timetableDue_core (id : Nat) : (s.timetableDue id).core = s.core := by
  unfold State.timetableDue
  (try dsimp only)
  repeat' split
  all_goals first | rfl | simp | (simp [State.core]; done)

@[simp] theorem State.autoSleep_core : (s.autoSleep).core = s.core := by
  unfold State.autoSleep
  (try dsimp only)
  repeat' split
  all_goals first | rfl | simp | (simp [State.core]; done)

@[simp] theorem State.noteRun_core  : (State.noteRun s).core = s.core := by
  unfold State.noteRun
  (try dsimp only)
  repeat' split
  all_goals first | rfl | simp | (simp [State.core]; done)

@[simp] theorem State.powerEpoch_core : (s.powerEpoch).core = s.core := by
  unfold State.powerEpoch
  (try dsimp only)
  repeat' split
  all_goals first | rfl | simp | (simp [State.core]; done)

@[simp] theorem State.drawSeq_core (i : LaneId) : (State.drawSeq i s).core = s.core := by
  unfold State.drawSeq
  (try dsimp only)
  repeat' split
  all_goals first | rfl | (simp; done) | (simp; rfl)

@[simp] theorem State.supplyGood_core (i : LaneId) : (s.supplyGood i).core = s.core := by
  unfold State.supplyGood
  (try dsimp only)
  repeat' split
  all_goals first | rfl | simp | (simp [State.core]; done)

@[simp] theorem State.supplyLoss_core (i : LaneId) : (s.supplyLoss i).core = s.core := by
  unfold State.supplyLoss
  (try dsimp only)
  repeat' split
  all_goals first | rfl | simp | (simp [State.core]; done)

@[simp] theorem State.criticalRestart_core (i : LaneId) : (s.criticalRestart i).core = s.core := by
  unfold State.criticalRestart
  (try dsimp only)
  repeat' split
  all_goals first | rfl | simp | (simp [State.core]; done)

@[simp] theorem State.restartAnswer_core : (s.restartAnswer).core = s.core := by
  unfold State.restartAnswer
  (try dsimp only)
  repeat' split
  all_goals first | rfl | simp | (simp [State.core]; done)

@[simp] theorem State.commitExchange_core : (s.commitExchange).core = s.core := by
  unfold State.commitExchange
  (try dsimp only)
  repeat' split
  all_goals first | rfl | simp | (simp [State.core]; done)

@[simp] theorem State.authFailure_core (i : LaneId) (port : Nat) : (s.authFailure i port).core = s.core := by
  unfold State.authFailure
  (try dsimp only)
  repeat' split
  all_goals first | rfl | simp | (simp [State.core]; done)

@[simp] theorem State.keyAsked_core (i : LaneId) (d : Datagram) : (State.keyAsked i d s).core = s.core := by
  unfold State.keyAsked
  (try dsimp only)
  repeat' split
  all_goals first | rfl | simp | (simp [State.core]; done)

@[simp] theorem State.datagram_core (i : LaneId) (d : Datagram) : (s.datagram i d).core = s.core := by
  unfold State.datagram
  (try dsimp only)
  repeat' split
  all_goals first | rfl | simp | (simp [State.core]; done)

@[simp] theorem State.forwarded_core (i : LaneId) : (s.forwarded i).core = s.core := by
  unfold State.forwarded
  (try dsimp only)
  repeat' split
  all_goals first | rfl | simp | (simp [State.core]; done)

@[simp] theorem State.requestTake_core : (s.requestTake).core = s.core := by
  unfold State.requestTake
  (try dsimp only)
  repeat' split
  all_goals first | rfl | simp | (simp [State.core]; done)

@[simp] theorem State.takeNotice_core : (s.takeNotice).core = s.core := by
  unfold State.takeNotice
  (try dsimp only)
  repeat' split
  all_goals first | rfl | simp | (simp [State.core]; done)

@[simp] theorem State.noticeTimeout_core : (s.noticeTimeout).core = s.core := by
  unfold State.noticeTimeout
  (try dsimp only)
  repeat' split
  all_goals first | rfl | simp | (simp [State.core]; done)

@[simp] theorem State.resetComplete_core (code unit : Nat) : (s.resetComplete code unit).core = s.core := by
  unfold State.resetComplete
  (try dsimp only)
  repeat' split
  all_goals first | rfl | simp | (simp [State.core]; done)

@[simp] theorem State.lines_core : (s.lines).core = s.core := by
  unfold State.lines
  first | rfl | simp

@[simp] theorem State.epochEnd_core : (s.epochEnd).core = s.core := by
  unfold State.epochEnd
  (try dsimp only)
  repeat' split
  all_goals first | rfl | simp | (simp [State.core]; done)

@[simp] theorem State.readableImages_core  : (State.readableImages s).core = s.core := by
  unfold State.readableImages
  (try dsimp only)
  repeat' split
  all_goals first | rfl | simp | (simp [State.core]; done)

@[simp] theorem State.datagramCounters_core  : (State.datagramCounters s).core = s.core := by
  unfold State.datagramCounters
  (try dsimp only)
  repeat' split
  all_goals first | rfl | simp | (simp [State.core]; done)

@[simp] theorem State.linkInputs_core  : (State.linkInputs s).core = s.core := by
  unfold State.linkInputs
  (try dsimp only)
  repeat' split
  all_goals first | rfl | simp | (simp [State.core]; done)

@[simp] theorem State.countLap_core  : (State.countLap s).core = s.core := by
  unfold State.countLap
  (try dsimp only)
  repeat' split
  all_goals first | rfl | simp | (simp [State.core]; done)

@[simp] theorem State.commitRound_core  : (State.commitRound s).core = s.core := by
  unfold State.commitRound
  (try dsimp only)
  repeat' split
  all_goals first | rfl | simp | (simp [State.core]; done)

@[simp] theorem State.epochBoundary_core : (s.epochBoundary).core = s.core := by
  unfold State.epochBoundary
  first | rfl | simp

@[simp] theorem State.imageSeal_core : (s.imageSeal).core = s.core := by
  unfold State.imageSeal
  first | rfl | simp

@[simp] theorem State.both_core (f : Lane → Lane) : (s.both f).core = s.core := by
  unfold State.both
  first | rfl | simp

@[simp] theorem State.bothBut_core (missed : Option LaneId) (f : Lane → Lane) : (State.bothBut missed f s).core = s.core := by
  unfold State.bothBut
  (try dsimp only)
  repeat' split
  all_goals first | rfl | simp | (simp [State.core]; done)

@[simp] theorem State.one_core (i : LaneId) (f : Lane → Lane) : (s.one i f).core = s.core := by
  unfold State.one
  first | rfl | simp

@[simp] theorem State.powered_core (i : LaneId) (f : Lane → Lane) : (s.powered i f).core = s.core := by
  unfold State.powered
  first | rfl | simp

@[simp] theorem State.kept_core (i : LaneId) (f : Lane → Lane) : (s.kept i f).core = s.core := by
  unfold State.kept
  first | rfl | simp

@[simp] theorem State.keptBoth_core (f : Lane → Lane) : (s.keptBoth f).core = s.core := by
  unfold State.keptBoth
  first | rfl | simp

@[simp] theorem State.beside_core (f : Lane → Lane → Lane) : (s.beside f).core = s.core := by
  unfold State.beside
  (try dsimp only)
  repeat' split
  all_goals first | rfl | simp | (simp [State.core]; done)

@[simp] theorem State.holderOnly_core (f : Lane → Lane) : (s.holderOnly f).core = s.core := by
  unfold State.holderOnly
  (try dsimp only)
  repeat' split
  all_goals first | rfl | simp | (simp [State.core]; done)

@[simp] theorem State.atOutlet_core (o : Nat) (f : Lane → Lane) : (s.atOutlet o f).core = s.core := by
  unfold State.atOutlet
  (try dsimp only)
  repeat' split
  all_goals first | rfl | simp | (simp [State.core]; done)

@[simp] theorem State.atPack_core (k : Nat) (f : Lane → Lane) : (s.atPack k f).core = s.core := by
  unfold State.atPack
  (try dsimp only)
  repeat' split
  all_goals first | rfl | simp | (simp [State.core]; done)

@[simp] theorem State.atPhase_core (p : Nat) (f : Lane → Lane) : (s.atPhase p f).core = s.core := by
  unfold State.atPhase
  (try dsimp only)
  repeat' split
  all_goals first | rfl | simp | (simp [State.core]; done)

@[simp] theorem State.atHub_core (i : LaneId) (h : Nat) (f : Lane → Lane) : (s.atHub i h f).core = s.core := by
  unfold State.atHub
  (try dsimp only)
  repeat' split
  all_goals first | rfl | simp | (simp [State.core]; done)

@[simp] theorem State.atAc_core (i : LaneId) (n : Nat) (f : Lane → Lane) : (s.atAc i n f).core = s.core := by
  unfold State.atAc
  (try dsimp only)
  repeat' split
  all_goals first | rfl | simp | (simp [State.core]; done)

@[simp] theorem State.atPoint_core (i : LaneId) (m : Nat) (f : Lane → Lane) : (s.atPoint i m f).core = s.core := by
  unfold State.atPoint
  (try dsimp only)
  repeat' split
  all_goals first | rfl | simp | (simp [State.core]; done)

@[simp] theorem State.below_core (n u : Nat) (f : Lane → Lane) : (s.below n u f).core = s.core := by
  unfold State.below
  (try dsimp only)
  repeat' split
  all_goals first | rfl | simp | (simp [State.core]; done)

@[simp] theorem State.teamed_core (f : Lane → Lane) : (s.teamed f).core = s.core := by
  unfold State.teamed
  (try dsimp only)
  repeat' split
  all_goals first | rfl | simp | (simp [State.core]; done)

@[simp] theorem State.mirror_core (i : LaneId) (fired : Bool) (n : Nat) (detail : List Int) : (s.mirror i fired n detail).core = s.core := by
  unfold State.mirror
  (try dsimp only)
  repeat' split
  all_goals first | rfl | simp | (simp [State.core]; done)

@[simp] theorem State.pacerRow_core (i : LaneId) (f : Bool → Lane → Lane) : (State.pacerRow i f s).core = s.core := by
  unfold State.pacerRow
  (try dsimp only)
  repeat' split
  all_goals first | rfl | simp | (simp [State.core]; done)

@[simp] theorem State.sessionCompare_core (o : Nat) : (s.sessionCompare o).core = s.core := by
  unfold State.sessionCompare
  (try dsimp only)
  repeat' split
  all_goals first | rfl | simp | (simp [State.core]; done)

@[simp] theorem State.outletEvent_core (o : Nat) (f : Lane → Lane) : (s.outletEvent o f).core = s.core := by
  unfold State.outletEvent
  first | rfl | simp

@[simp] theorem State.atOutletBut_core (o : Nat) (missed : Option LaneId) (f : Lane → Lane) : (State.atOutletBut o missed f s).core = s.core := by
  unfold State.atOutletBut
  (try dsimp only)
  repeat' split
  all_goals first | rfl | simp | (simp [State.core]; done)

@[simp] theorem State.messageBut_core (o : Nat) (missed : Option LaneId) (f : Bool → Lane → Lane) : (State.messageBut o missed f s).core = s.core := by
  unfold State.messageBut
  (try dsimp only)
  repeat' split
  all_goals first | rfl | simp | (simp [State.core]; done)

@[simp] theorem State.message_core (o : Heard Nat) (f : Bool → Lane → Lane) : (s.message o f).core = s.core := by
  unfold State.message
  (try dsimp only)
  repeat' split
  all_goals first | rfl | simp | (simp [State.core]; done)

@[simp] theorem State.fireBeside_core (old : State) : (State.fireBeside s old).core = s.core := by
  unfold State.fireBeside
  (try dsimp only)
  repeat' split
  all_goals first | rfl | simp | (simp [State.core]; done)

@[simp] theorem State.mastStep_core (t : Nat) (f : Lane → Lane) : (s.mastStep t f).core = s.core := by
  unfold State.mastStep
  (try dsimp only)
  repeat' split
  all_goals first | rfl | simp | (simp [State.core]; done)

@[simp] theorem State.mastBoth_core (t : Nat) (d f : Lane → Lane) : (State.mastBoth t d f s).core = s.core := by
  unfold State.mastBoth
  (try dsimp only)
  repeat' split
  all_goals first | rfl | simp | (simp [State.core]; done)

@[simp] theorem State.canDone_core (b : Nat) (e : CanEnd) : (State.canDone b e s).core = s.core := by
  unfold State.canDone
  (try dsimp only)
  repeat' split
  all_goals first | rfl | simp | (simp [State.core]; done)

@[simp] theorem State.busRow_core (i : LaneId) (b : Nat) (f : Lane → Lane) : (State.busRow i b f s).core = s.core := by
  unfold State.busRow
  (try dsimp only)
  repeat' split
  all_goals first | rfl | simp | (simp [State.core]; done)

@[simp] theorem State.sampleTaken_core (i : LaneId) : (State.sampleTaken i s).core = s.core := by
  unfold State.sampleTaken
  (try dsimp only)
  repeat' split
  all_goals first | rfl | simp | (simp [State.core]; done)

@[simp] theorem State.ringShown_core (i : LaneId) : (s.ringShown i).core = s.core := by
  unfold State.ringShown
  (try dsimp only)
  repeat' split
  all_goals first | rfl | simp | (simp [State.core]; done)

@[simp] theorem State.bypass_core (net : Nat) (cue : BypassCue) : (s.bypass net cue).core = s.core := by
  unfold State.bypass
  (try dsimp only)
  repeat' split
  all_goals first | rfl | simp | (simp [State.core]; done)

@[simp] theorem State.trigEdge_core (k : Nat) (rising : Bool) : (s.trigEdge k rising).core = s.core := by
  unfold State.trigEdge
  (try dsimp only)
  repeat' split
  all_goals first | rfl | simp | (simp [State.core]; done)

@[simp] theorem State.busWake_core (b : Nat) (frame : Option CanFrame) : (s.busWake b frame).core = s.core := by
  unfold State.busWake
  (try dsimp only)
  repeat' split
  all_goals first | rfl | simp | (simp [State.core]; done)

@[simp] theorem State.pulseLane_core (f : Lane → Lane) : (s.pulseLane f).core = s.core := by
  unfold State.pulseLane
  (try dsimp only)
  repeat' split
  all_goals first | rfl | simp | (simp [State.core]; done)

@[simp] theorem State.proxBand_core (o band : Nat) : (s.proxBand o band).core = s.core := by
  unfold State.proxBand
  (try dsimp only)
  repeat' split
  all_goals first | rfl | simp | (simp [State.core]; done)

@[simp] theorem State.tamperRow_core (x : Latch) : (s.tamperRow x).core = s.core := by
  unfold State.tamperRow
  (try dsimp only)
  repeat' split
  all_goals first | rfl | simp | (simp [State.core]; done)

@[simp] theorem State.testPulseEnd_core (x : Nat) (readBack : Bool) : (State.testPulseEnd x readBack s).core = s.core := by
  unfold State.testPulseEnd
  (try dsimp only)
  repeat' split
  all_goals first | rfl | simp | (simp [State.core]; done)

@[simp] theorem State.loopDrop_core : (s.loopDrop).core = s.core := by
  unfold State.loopDrop
  (try dsimp only)
  repeat' split
  all_goals first | rfl | simp | (simp [State.core]; done)

@[simp] theorem State.houseRound_core (i : LaneId) (h : Housekeeping) : (s.houseRound i h).core = s.core := by
  unfold State.houseRound
  (try dsimp only)
  repeat' split
  all_goals first | rfl | simp | (simp [State.core]; done)

@[simp] theorem State.dramOutcome_core (i : LaneId) (corrected : Bool) (device line : Nat) : (s.dramOutcome i corrected device line).core = s.core := by
  unfold State.dramOutcome
  (try dsimp only)
  repeat' split
  all_goals first | rfl | simp | (simp [State.core]; done)

@[simp] theorem State.supplyMirror_core (i : LaneId) (old : State) : (s.supplyMirror i old).core = s.core := by
  unfold State.supplyMirror
  (try dsimp only)
  repeat' split
  all_goals first | rfl | simp | (simp [State.core]; done)

end Sys2Proof.Machine
end

