-- ==== Sys2Proof/Laws/Reach.lean ====
section
/-!
SUPPORT. Which lane a row of a shared form reaches: the laws of the operations of Rows.lean and Ops.lean that carry a meaning to the
lanes.
-/

namespace Sys2Proof.Machine

open Sys2Proof

variable (s : State)

/-- A lane put in place is there, and the other lane is as before. -/
@[simp] theorem State.lane_setLane (i j : LaneId) (l : Lane) : (s.setLane i l).lane j = if j = i then l else s.lane j := by
  cases i <;> cases j <;> rfl

/-- What an operation on one lane, where a condition holds, reaches. -/
theorem State.lane_onLane (i j : LaneId) (p) (f : LaneFn) :
   (s.onLane i p f).lane j = if j = i ∧ p (s.lane i) = true then f s i (s.lane i) else s.lane j := by
  unfold State.onLane; split
  · next h => simp [h]
  · next h => simp [h]

/-- What an operation on every lane that meets a condition reaches: each lane starts from the state before. -/
theorem State.lane_eachLane (j : LaneId) (p) (f : LaneFn) :
   (s.eachLane p f).lane j = if p (s.lane j) = true then f s j (s.lane j) else s.lane j := by
  cases j <;> (simp [State.eachLane, State.lane]; rfl)

/-- An operation on both lanes reaches those that compute. -/
theorem State.lane_both (j : LaneId) (f : Lane → Lane) :
   (s.both f).lane j = if (s.lane j).active = true then f (s.lane j) else s.lane j := by
  simp [State.both, State.lane_eachLane]

/-- An operation on one lane reaches it where it computes. -/
theorem State.lane_one (i j : LaneId) (f : Lane → Lane) :
   (s.one i f).lane j = if j = i ∧ (s.lane i).active = true then f (s.lane i) else s.lane j := by
  simp [State.one, State.lane_onLane]

/-- A row of the Pacer or of housekeeping reaches a lane whose fast domain is on. -/
theorem State.lane_powered (i j : LaneId) (f : Lane → Lane) :
   (s.powered i f).lane j = if j = i ∧ ((s.lane i).present = true ∧ (s.lane i).power.fastOn = true) then f (s.lane i) else s.lane j := by
  simp [State.powered, State.lane_onLane]

/-- A row of metering reaches a lane whose always-on domain runs. -/
theorem State.lane_kept (i j : LaneId) (f : Lane → Lane) :
   (s.kept i f).lane j = if j = i ∧ (s.lane i).alwaysOn = true then f (s.lane i) else s.lane j := by
  simp [State.kept, State.lane_onLane]

/-- A row of metering without a lane reaches every lane whose always-on domain runs. -/
theorem State.lane_keptBoth (j : LaneId) (f : Lane → Lane) :
   (s.keptBoth f).lane j = if (s.lane j).alwaysOn = true then f (s.lane j) else s.lane j := by
  simp [State.keptBoth, State.lane_eachLane]

/-- A row of a served hub reaches its lane. -/
theorem State.lane_atHub (i j : LaneId) (h : Nat) (f : Lane → Lane) (hs : HubServed i h s) :
   (s.atHub i h f).lane j = if j = i then f (s.lane i) else s.lane j := by
  unfold State.atHub; simp [State.lane_onLane, hs.1, hs.2]

/-- A change of one hub's link state leaves every other hub's record. -/
theorem Lane.hub_linkTo (l : Lane) (h k : Nat) (st : Int) (hk : k ≠ h) : (l.linkTo h st).hub k = l.hub k := by
  unfold Lane.linkTo; dsimp only; split; · rfl
  · split <;> simp [hk]

end Sys2Proof.Machine
end

