-- ==== Sys2Proof/Laws/Still.lean ====
section
/-!
SUPPORT. What no operation on a lane reaches but the few that the spec names for it: which lane it is, its lap, and its
committed configuration. One law per operation.
-/

namespace Sys2Proof.Machine

@[simp] theorem Lane.ite_id (c : Prop) [Decidable c] (a b : Lane) : (if c then a else b).id = if c then a.id else b.id := by
  split <;> rfl

@[simp] theorem Lane.ite_lap (c : Prop) [Decidable c] (a b : Lane) : (if c then a else b).lap = if c then a.lap else b.lap := by
  split <;> rfl

@[simp] theorem Lane.ite_cfg (c : Prop) [Decidable c] (a b : Lane) : (if c then a else b).cfg = if c then a.cfg else b.cfg := by
  split <;> rfl

/-- Steps that each leave them leave them. -/
@[simp] theorem Lane.foldl_still {α : Type} (xs : List α) (f : Lane → α → Lane)
    (h : ∀ l x, (f l x).id = l.id ∧ (f l x).lap = l.lap ∧ (f l x).cfg = l.cfg) (l : Lane) :
    (xs.foldl f l).id = l.id ∧ (xs.foldl f l).lap = l.lap ∧ (xs.foldl f l).cfg = l.cfg := by
  induction xs generalizing l with
  | nil => simp
  | cons x t ih => simp [ih, h]

@[simp] theorem Lane.forL_still {α : Type} (xs : List α) (f : α → Lane → Lane)
    (h : ∀ x l, (f x l).id = l.id ∧ (f x l).lap = l.lap ∧ (f x l).cfg = l.cfg) (l : Lane) :
    (l.forL xs f).id = l.id ∧ (l.forL xs f).lap = l.lap ∧ (l.forL xs f).cfg = l.cfg :=
  Lane.foldl_still xs _ (fun l x => h x l) l

@[simp] theorem Lane.forN_still (n : Nat) (f : Nat → Lane → Lane)
    (h : ∀ x l, (f x l).id = l.id ∧ (f x l).lap = l.lap ∧ (f x l).cfg = l.cfg) (l : Lane) :
    (l.forN n f).id = l.id ∧ (l.forN n f).lap = l.lap ∧ (l.forN n f).cfg = l.cfg :=
  Lane.foldl_still _ _ (fun l x => h x l) l

/-- The same for a lane that is folded together with something else. -/
theorem pairFold_still {α β : Type} (xs : List α) (f : Lane × β → α → Lane × β)
    (h : ∀ a x, (f a x).1.id = a.1.id ∧ (f a x).1.lap = a.1.lap ∧ (f a x).1.cfg = a.1.cfg) (a : Lane × β) :
    (xs.foldl f a).1.id = a.1.id ∧ (xs.foldl f a).1.lap = a.1.lap ∧ (xs.foldl f a).1.cfg = a.1.cfg := by
  induction xs generalizing a with
  | nil => simp
  | cons x t ih =>
    rw [List.foldl_cons]
    exact ⟨(ih _).1.trans (h _ _).1, (ih _).2.1.trans (h _ _).2.1, (ih _).2.2.trans (h _ _).2.2⟩

@[simp] theorem Lane.metBang_still (l : Lane) (f : MetSt → MetSt)  :
    (Lane.met! l f).id = l.id ∧ (Lane.met! l f).lap = l.lap ∧ (Lane.met! l f).cfg = l.cfg := by
  unfold Lane.met!
  (try dsimp only)
  repeat' split
  all_goals simp

@[simp] theorem Lane.safeBang_still (l : Lane) (f : SafeSt → SafeSt)  :
    (Lane.safe! l f).id = l.id ∧ (Lane.safe! l f).lap = l.lap ∧ (Lane.safe! l f).cfg = l.cfg := by
  unfold Lane.safe!
  (try dsimp only)
  repeat' split
  all_goals simp

@[simp] theorem Lane.thermBang_still (l : Lane) (f : ThermSt → ThermSt)  :
    (Lane.therm! l f).id = l.id ∧ (Lane.therm! l f).lap = l.lap ∧ (Lane.therm! l f).cfg = l.cfg := by
  unfold Lane.therm!
  (try dsimp only)
  repeat' split
  all_goals simp

@[simp] theorem Lane.setp_still (l : Lane) (a : Nat) (v : Int)  :
    (Lane.setp l a v).id = l.id ∧ (Lane.setp l a v).lap = l.lap ∧ (Lane.setp l a v).cfg = l.cfg := by
  unfold Lane.setp
  (try dsimp only)
  repeat' split
  all_goals simp

@[simp] theorem Lane.addp_still (l : Lane) (a : Nat) (n : Int)  :
    (Lane.addp l a n).id = l.id ∧ (Lane.addp l a n).lap = l.lap ∧ (Lane.addp l a n).cfg = l.cfg := by
  unfold Lane.addp
  (try dsimp only)
  repeat' split
  all_goals simp

@[simp] theorem Lane.inc_still (l : Lane) (a : Nat)  :
    (Lane.inc l a).id = l.id ∧ (Lane.inc l a).lap = l.lap ∧ (Lane.inc l a).cfg = l.cfg := by
  unfold Lane.inc
  (try dsimp only)
  repeat' split
  all_goals simp

@[simp] theorem Lane.incGen_still (l : Lane) (a : Nat) :
    (Lane.incGen l a).id = l.id ∧ (Lane.incGen l a).lap = l.lap ∧ (Lane.incGen l a).cfg = l.cfg := by
  unfold Lane.incGen
  (try dsimp only)
  repeat' split
  all_goals simp

@[simp] theorem Lane.setst_still (l : Lane) (a : Nat) (c : Nat)  :
    (Lane.setst l a c).id = l.id ∧ (Lane.setst l a c).lap = l.lap ∧ (Lane.setst l a c).cfg = l.cfg := by
  unfold Lane.setst
  (try dsimp only)
  repeat' split
  all_goals simp

@[simp] theorem Lane.setps_still (l : Lane) (a : Nat) (v : Int) (c : Nat)  :
    (Lane.setps l a v c).id = l.id ∧ (Lane.setps l a v c).lap = l.lap ∧ (Lane.setps l a v c).cfg = l.cfg := by
  unfold Lane.setps
  (try dsimp only)
  repeat' split
  all_goals simp

@[simp] theorem Lane.setOut_still (l : Lane) (o : Nat) (x : OutletSt)  :
    (Lane.setOut l o x).id = l.id ∧ (Lane.setOut l o x).lap = l.lap ∧ (Lane.setOut l o x).cfg = l.cfg := by
  unfold Lane.setOut
  (try dsimp only)
  repeat' split
  all_goals simp

@[simp] theorem Lane.mark_still (bit : Nat) (l : Lane)  :
    (Lane.mark bit l).id = l.id ∧ (Lane.mark bit l).lap = l.lap ∧ (Lane.mark bit l).cfg = l.cfg := by
  unfold Lane.mark
  (try dsimp only)
  repeat' split
  all_goals simp

@[simp] theorem Lane.setRing_still (l : Lane) (q : Nat) (r : Ring)  :
    (Lane.setRing l q r).id = l.id ∧ (Lane.setRing l q r).lap = l.lap ∧ (Lane.setRing l q r).cfg = l.cfg := by
  unfold Lane.setRing
  (try dsimp only)
  repeat' split
  all_goals simp

@[simp] theorem Lane.queue_still (q : Nat) (es : List Entry) (l : Lane)  :
    (Lane.queue q es l).id = l.id ∧ (Lane.queue q es l).lap = l.lap ∧ (Lane.queue q es l).cfg = l.cfg := by
  unfold Lane.queue
  (try dsimp only)
  repeat' split
  all_goals simp

@[simp] theorem Lane.fire_still (n unit : Nat) (detail : List Int) (l : Lane)  :
    (Lane.fire n unit detail l).id = l.id ∧ (Lane.fire n unit detail l).lap = l.lap ∧ (Lane.fire n unit detail l).cfg = l.cfg := by
  unfold Lane.fire
  (try dsimp only)
  repeat' split
  all_goals simp

@[simp] theorem Lane.fireIf_still (b : Bool) (n unit : Nat) (detail : List Int) (l : Lane)  :
    (Lane.fireIf b n unit detail l).id = l.id ∧ (Lane.fireIf b n unit detail l).lap = l.lap ∧ (Lane.fireIf b n unit detail l).cfg = l.cfg := by
  unfold Lane.fireIf
  (try dsimp only)
  repeat' split
  all_goals simp

@[simp] theorem Lane.answer_still (r : Request) (rep : Reply) (l : Lane)  :
    (Lane.answer r rep l).id = l.id ∧ (Lane.answer r rep l).lap = l.lap ∧ (Lane.answer r rep l).cfg = l.cfg := by
  unfold Lane.answer
  (try dsimp only)
  repeat' split
  all_goals simp

@[simp] theorem Lane.answerOnly_still (r : Request) (st : Nat) (l : Lane)  :
    (Lane.answerOnly r st l).id = l.id ∧ (Lane.answerOnly r st l).lap = l.lap ∧ (Lane.answerOnly r st l).cfg = l.cfg := by
  unfold Lane.answerOnly
  (try dsimp only)
  repeat' split
  all_goals simp

@[simp] theorem Lane.setHub_still (l : Lane) (h : Nat) (x : HubSt)  :
    (Lane.setHub l h x).id = l.id ∧ (Lane.setHub l h x).lap = l.lap ∧ (Lane.setHub l h x).cfg = l.cfg := by
  unfold Lane.setHub
  (try dsimp only)
  repeat' split
  all_goals simp

@[simp] theorem Lane.setPhase_still (l : Lane) (p : Nat) (x : PhaseSt)  :
    (Lane.setPhase l p x).id = l.id ∧ (Lane.setPhase l p x).lap = l.lap ∧ (Lane.setPhase l p x).cfg = l.cfg := by
  unfold Lane.setPhase
  (try dsimp only)
  repeat' split
  all_goals simp

@[simp] theorem Lane.setPack_still (l : Lane) (k : Nat) (x : PackSt)  :
    (Lane.setPack l k x).id = l.id ∧ (Lane.setPack l k x).lap = l.lap ∧ (Lane.setPack l k x).cfg = l.cfg := by
  unfold Lane.setPack
  (try dsimp only)
  repeat' split
  all_goals simp

@[simp] theorem Lane.setSlot_still (l : Lane) (t : Nat) (x : SlotSt)  :
    (Lane.setSlot l t x).id = l.id ∧ (Lane.setSlot l t x).lap = l.lap ∧ (Lane.setSlot l t x).cfg = l.cfg := by
  unfold Lane.setSlot
  (try dsimp only)
  repeat' split
  all_goals simp

@[simp] theorem Lane.linkTo_still (h : Nat) (st : Int) (l : Lane)  :
    (Lane.linkTo h st l).id = l.id ∧ (Lane.linkTo h st l).lap = l.lap ∧ (Lane.linkTo h st l).cfg = l.cfg := by
  unfold Lane.linkTo
  (try dsimp only)
  repeat' split
  all_goals simp

@[simp] theorem Lane.linkFault_still (h : Nat) (cause : Int) (l : Lane)  :
    (Lane.linkFault h cause l).id = l.id ∧ (Lane.linkFault h cause l).lap = l.lap ∧ (Lane.linkFault h cause l).cfg = l.cfg := by
  unfold Lane.linkFault
  (try dsimp only)
  repeat' split
  all_goals simp

@[simp] theorem Lane.linkStep_still (h : Nat) (src dst : Int) (l : Lane)  :
    (Lane.linkStep h src dst l).id = l.id ∧ (Lane.linkStep h src dst l).lap = l.lap ∧ (Lane.linkStep h src dst l).cfg = l.cfg := by
  unfold Lane.linkStep
  (try dsimp only)
  repeat' split
  all_goals simp

@[simp] theorem Lane.rangeDone_still (h timePs : Nat) (beside : Bool) (l : Lane) :
    (Lane.rangeDone h timePs beside l).id = l.id ∧ (Lane.rangeDone h timePs beside l).lap = l.lap ∧ (Lane.rangeDone h timePs beside l).cfg = l.cfg := by
  unfold Lane.rangeDone
  (try dsimp only)
  repeat' split
  all_goals simp

@[simp] theorem Lane.trainingTimeout_still (h : Nat) (l : Lane)  :
    (Lane.trainingTimeout h l).id = l.id ∧ (Lane.trainingTimeout h l).lap = l.lap ∧ (Lane.trainingTimeout h l).cfg = l.cfg := by
  unfold Lane.trainingTimeout
  (try dsimp only)
  repeat' split
  all_goals simp

@[simp] theorem Lane.faultRetry_still (h : Nat) (l : Lane)  :
    (Lane.faultRetry h l).id = l.id ∧ (Lane.faultRetry h l).lap = l.lap ∧ (Lane.faultRetry h l).cfg = l.cfg := by
  unfold Lane.faultRetry
  (try dsimp only)
  repeat' split
  all_goals simp

@[simp] theorem Lane.linkEnable_still (h : Nat) (l : Lane)  :
    (Lane.linkEnable h l).id = l.id ∧ (Lane.linkEnable h l).lap = l.lap ∧ (Lane.linkEnable h l).cfg = l.cfg := by
  unfold Lane.linkEnable
  (try dsimp only)
  repeat' split
  all_goals simp

@[simp] theorem Lane.linksUp_still (l : Lane)  :
    (Lane.linksUp l).id = l.id ∧ (Lane.linksUp l).lap = l.lap ∧ (Lane.linksUp l).cfg = l.cfg := by
  unfold Lane.linksUp
  (try dsimp only)
  repeat' split
  all_goals simp

@[simp] theorem Lane.linksDown_still (l : Lane)  :
    (Lane.linksDown l).id = l.id ∧ (Lane.linksDown l).lap = l.lap ∧ (Lane.linksDown l).cfg = l.cfg := by
  unfold Lane.linksDown
  (try dsimp only)
  repeat' split
  all_goals simp

@[simp] theorem Lane.recapacity_still (k : Nat) (l : Lane)  :
    (Lane.recapacity k l).id = l.id ∧ (Lane.recapacity k l).lap = l.lap ∧ (Lane.recapacity k l).cfg = l.cfg := by
  unfold Lane.recapacity
  (try dsimp only)
  repeat' split
  all_goals simp

@[simp] theorem Lane.disarm_still (p : Nat) (l : Lane)  :
    (Lane.disarm p l).id = l.id ∧ (Lane.disarm p l).lap = l.lap ∧ (Lane.disarm p l).cfg = l.cfg := by
  unfold Lane.disarm
  (try dsimp only)
  repeat' split
  all_goals simp

@[simp] theorem Lane.cutArm_still (p : Nat) (l : Lane) :
    (Lane.cutArm p l).id = l.id ∧ (Lane.cutArm p l).lap = l.lap ∧ (Lane.cutArm p l).cfg = l.cfg := by
  unfold Lane.cutArm
  (try dsimp only)
  repeat' split
  all_goals simp

@[simp] theorem Lane.removePhase_still (cause : Int) (p : Nat) (l : Lane)  :
    (Lane.removePhase cause p l).id = l.id ∧ (Lane.removePhase cause p l).lap = l.lap ∧ (Lane.removePhase cause p l).cfg = l.cfg := by
  unfold Lane.removePhase
  (try dsimp only)
  repeat' split
  all_goals simp

@[simp] theorem Lane.falseStart_still (p : Nat) (cause : Int) (l : Lane)  :
    (Lane.falseStart p cause l).id = l.id ∧ (Lane.falseStart p cause l).lap = l.lap ∧ (Lane.falseStart p cause l).cfg = l.cfg := by
  unfold Lane.falseStart
  (try dsimp only)
  repeat' split
  all_goals simp

@[simp] theorem Lane.countTrip_still (p : Nat) (l : Lane) :
    (Lane.countTrip p l).id = l.id ∧ (Lane.countTrip p l).lap = l.lap ∧ (Lane.countTrip p l).cfg = l.cfg := by
  unfold Lane.countTrip
  (try dsimp only)
  repeat' split
  all_goals simp

@[simp] theorem Lane.statusPhase_still (h : Nat) (b : StatusBlock) (old : HubSt) (i : Nat) (l : Lane)  :
    (Lane.statusPhase h b old i l).id = l.id ∧ (Lane.statusPhase h b old i l).lap = l.lap ∧ (Lane.statusPhase h b old i l).cfg = l.cfg := by
  unfold Lane.statusPhase
  (try dsimp only)
  repeat' split
  all_goals simp

@[simp] theorem Lane.takeLockout_still (h : Nat) (l : Lane) :
    (Lane.takeLockout h l).id = l.id ∧ (Lane.takeLockout h l).lap = l.lap ∧ (Lane.takeLockout h l).cfg = l.cfg := by
  unfold Lane.takeLockout
  (try dsimp only)
  repeat' split
  all_goals simp

@[simp] theorem Lane.lockPhase_still (h i : Nat) (l : Lane) :
    (Lane.lockPhase h i l).id = l.id ∧ (Lane.lockPhase h i l).lap = l.lap ∧ (Lane.lockPhase h i l).cfg = l.cfg := by
  unfold Lane.lockPhase
  (try dsimp only)
  repeat' split
  all_goals simp

@[simp] theorem Lane.statusBlock_still (h : Nat) (b : StatusBlock) (l : Lane)  :
    (Lane.statusBlock h b l).id = l.id ∧ (Lane.statusBlock h b l).lap = l.lap ∧ (Lane.statusBlock h b l).cfg = l.cfg := by
  unfold Lane.statusBlock
  (try dsimp only)
  repeat' split
  all_goals simp

@[simp] theorem Lane.appliedZero_still (held : Bool) (h : Nat) (l : Lane) :
    (Lane.appliedZero held h l).id = l.id ∧ (Lane.appliedZero held h l).lap = l.lap ∧ (Lane.appliedZero held h l).cfg = l.cfg := by
  unfold Lane.appliedZero
  (try dsimp only)
  repeat' split
  all_goals simp

@[simp] theorem Lane.arrival_still (h : Nat) (u : UplinkHeader) (l : Lane) :
    (Lane.arrival h u l).id = l.id ∧ (Lane.arrival h u l).lap = l.lap ∧ (Lane.arrival h u l).cfg = l.cfg := by
  unfold Lane.arrival
  (try dsimp only)
  repeat' split
  all_goals simp

@[simp] theorem Lane.uplinkHeader_still (me : LaneId) (h : Nat) (u : UplinkHeader) (l : Lane)  :
    (Lane.uplinkHeader me h u l).id = l.id ∧ (Lane.uplinkHeader me h u l).lap = l.lap ∧ (Lane.uplinkHeader me h u l).cfg = l.cfg := by
  unfold Lane.uplinkHeader
  (try dsimp only)
  repeat' split
  all_goals simp

@[simp] theorem Lane.samplePhase_still (h : Nat) (f : FastBlock) (i : Nat) (l : Lane)  :
    (Lane.samplePhase h f i l).id = l.id ∧ (Lane.samplePhase h f i l).lap = l.lap ∧ (Lane.samplePhase h f i l).cfg = l.cfg := by
  unfold Lane.samplePhase
  (try dsimp only)
  repeat' split
  all_goals simp

@[simp] theorem Lane.fastBlock_still (h : Nat) (f : FastBlock) (l : Lane)  :
    (Lane.fastBlock h f l).id = l.id ∧ (Lane.fastBlock h f l).lap = l.lap ∧ (Lane.fastBlock h f l).cfg = l.cfg := by
  unfold Lane.fastBlock
  (try dsimp only)
  repeat' split
  all_goals simp

@[simp] theorem Lane.thermalBlock_still (h : Nat) (crcOk : Bool) (codeErrors : Nat) (temps : List Int) (l0 : Lane) :
    (Lane.thermalBlock h crcOk codeErrors temps l0).id = l0.id ∧ (Lane.thermalBlock h crcOk codeErrors temps l0).lap = l0.lap ∧ (Lane.thermalBlock h crcOk codeErrors temps l0).cfg = l0.cfg := by
  unfold Lane.thermalBlock
  (try dsimp only)
  repeat' split
  all_goals simp

@[simp] theorem Lane.junctionTimeout_still (h : Nat) (l : Lane)  :
    (Lane.junctionTimeout h l).id = l.id ∧ (Lane.junctionTimeout h l).lap = l.lap ∧ (Lane.junctionTimeout h l).cfg = l.cfg := by
  unfold Lane.junctionTimeout
  (try dsimp only)
  repeat' split
  all_goals simp

@[simp] theorem Lane.hubBlind_still (h : Nat) (l : Lane)  :
    (Lane.hubBlind h l).id = l.id ∧ (Lane.hubBlind h l).lap = l.lap ∧ (Lane.hubBlind h l).cfg = l.cfg := by
  unfold Lane.hubBlind
  (try dsimp only)
  repeat' split
  all_goals simp

@[simp] theorem Lane.blindClear_still (h : Nat) (l : Lane)  :
    (Lane.blindClear h l).id = l.id ∧ (Lane.blindClear h l).lap = l.lap ∧ (Lane.blindClear h l).cfg = l.cfg := by
  unfold Lane.blindClear
  (try dsimp only)
  repeat' split
  all_goals simp

@[simp] theorem Lane.identity_still (h iFs vFs fitted : Nat) (l : Lane)  :
    (Lane.identity h iFs vFs fitted l).id = l.id ∧ (Lane.identity h iFs vFs fitted l).lap = l.lap ∧ (Lane.identity h iFs vFs fitted l).cfg = l.cfg := by
  unfold Lane.identity
  (try dsimp only)
  repeat' split
  all_goals simp

@[simp] theorem Lane.copyRecords_still (l o : Lane) :
    (Lane.copyRecords l o).id = l.id ∧ (Lane.copyRecords l o).lap = l.lap ∧ (Lane.copyRecords l o).cfg = l.cfg := by
  unfold Lane.copyRecords
  (try dsimp only)
  repeat' split
  all_goals simp

@[simp] theorem Lane.keepRecord_still (h iFs vFs fitted : Nat) (l : Lane) :
    (Lane.keepRecord h iFs vFs fitted l).id = l.id ∧ (Lane.keepRecord h iFs vFs fitted l).lap = l.lap ∧ (Lane.keepRecord h iFs vFs fitted l).cfg = l.cfg := by
  unfold Lane.keepRecord
  (try dsimp only)
  repeat' split
  all_goals simp

@[simp] theorem Lane.useRecords_still (l o : Lane) :
    (Lane.useRecords l o).id = l.id ∧ (Lane.useRecords l o).lap = l.lap ∧ (Lane.useRecords l o).cfg = l.cfg := by
  unfold Lane.useRecords
  refine Lane.forL_still _ _ (fun h l => ?_) l
  repeat' split
  all_goals simp

@[simp] theorem Lane.rearmWrite_still (p : Nat) (l : Lane)  :
    (Lane.rearmWrite p l).id = l.id ∧ (Lane.rearmWrite p l).lap = l.lap ∧ (Lane.rearmWrite p l).cfg = l.cfg := by
  unfold Lane.rearmWrite
  (try dsimp only)
  repeat' split
  all_goals simp

@[simp] theorem Lane.testGateWrite_still (p v : Nat) (l : Lane)  :
    (Lane.testGateWrite p v l).id = l.id ∧ (Lane.testGateWrite p v l).lap = l.lap ∧ (Lane.testGateWrite p v l).cfg = l.cfg := by
  unfold Lane.testGateWrite
  (try dsimp only)
  repeat' split
  all_goals simp

@[simp] theorem Lane.initPhaseSlots_still (p : Nat) (l : Lane)  :
    (Lane.initPhaseSlots p l).id = l.id ∧ (Lane.initPhaseSlots p l).lap = l.lap ∧ (Lane.initPhaseSlots p l).cfg = l.cfg := by
  unfold Lane.initPhaseSlots
  (try dsimp only)
  repeat' split
  all_goals simp

@[simp] theorem Lane.packStart_still (k : Nat) (l : Lane)  :
    (Lane.packStart k l).id = l.id ∧ (Lane.packStart k l).lap = l.lap ∧ (Lane.packStart k l).cfg = l.cfg := by
  unfold Lane.packStart
  (try dsimp only)
  repeat' split
  all_goals simp

@[simp] theorem Lane.packOff_still (k : Nat) (l : Lane)  :
    (Lane.packOff k l).id = l.id ∧ (Lane.packOff k l).lap = l.lap ∧ (Lane.packOff k l).cfg = l.cfg := by
  unfold Lane.packOff
  (try dsimp only)
  repeat' split
  all_goals simp

@[simp] theorem Lane.packStop_still (k : Nat) (l : Lane)  :
    (Lane.packStop k l).id = l.id ∧ (Lane.packStop k l).lap = l.lap ∧ (Lane.packStop k l).cfg = l.cfg := by
  unfold Lane.packStop
  (try dsimp only)
  repeat' split
  all_goals simp

@[simp] theorem Lane.packStartFail_still (k : Nat) (l : Lane)  :
    (Lane.packStartFail k l).id = l.id ∧ (Lane.packStartFail k l).lap = l.lap ∧ (Lane.packStartFail k l).cfg = l.cfg := by
  unfold Lane.packStartFail
  (try dsimp only)
  repeat' split
  all_goals simp

@[simp] theorem Lane.startPhase_still (p : Nat) (l : Lane)  :
    (Lane.startPhase p l).id = l.id ∧ (Lane.startPhase p l).lap = l.lap ∧ (Lane.startPhase p l).cfg = l.cfg := by
  unfold Lane.startPhase
  (try dsimp only)
  repeat' split
  all_goals simp

@[simp] theorem Lane.packEnterRun_still (k : Nat) (l : Lane)  :
    (Lane.packEnterRun k l).id = l.id ∧ (Lane.packEnterRun k l).lap = l.lap ∧ (Lane.packEnterRun k l).cfg = l.cfg := by
  unfold Lane.packEnterRun
  (try dsimp only)
  repeat' split
  all_goals simp

@[simp] theorem Lane.packRunStart_still (k : Nat) (l : Lane)  :
    (Lane.packRunStart k l).id = l.id ∧ (Lane.packRunStart k l).lap = l.lap ∧ (Lane.packRunStart k l).cfg = l.cfg := by
  unfold Lane.packRunStart
  (try dsimp only)
  repeat' split
  all_goals simp

@[simp] theorem Lane.loseUnconfirmed_still (p : Nat) (l : Lane)  :
    (Lane.loseUnconfirmed p l).id = l.id ∧ (Lane.loseUnconfirmed p l).lap = l.lap ∧ (Lane.loseUnconfirmed p l).cfg = l.cfg := by
  unfold Lane.loseUnconfirmed
  (try dsimp only)
  repeat' split
  all_goals simp

@[simp] theorem Lane.packMatrixTimeout_still (k : Nat) (l : Lane)  :
    (Lane.packMatrixTimeout k l).id = l.id ∧ (Lane.packMatrixTimeout k l).lap = l.lap ∧ (Lane.packMatrixTimeout k l).cfg = l.cfg := by
  unfold Lane.packMatrixTimeout
  (try dsimp only)
  repeat' split
  all_goals simp

@[simp] theorem Lane.packStopComplete_still (k : Nat) (l : Lane)  :
    (Lane.packStopComplete k l).id = l.id ∧ (Lane.packStopComplete k l).lap = l.lap ∧ (Lane.packStopComplete k l).cfg = l.cfg := by
  unfold Lane.packStopComplete
  (try dsimp only)
  repeat' split
  all_goals simp

@[simp] theorem Lane.joinPhase_still (p : Nat) (l : Lane)  :
    (Lane.joinPhase p l).id = l.id ∧ (Lane.joinPhase p l).lap = l.lap ∧ (Lane.joinPhase p l).cfg = l.cfg := by
  unfold Lane.joinPhase
  (try dsimp only)
  repeat' split
  all_goals simp

@[simp] theorem Lane.joinStart_still (p : Nat) (l : Lane) :
    (Lane.joinStart p l).id = l.id ∧ (Lane.joinStart p l).lap = l.lap ∧ (Lane.joinStart p l).cfg = l.cfg := by
  unfold Lane.joinStart
  (try dsimp only)
  repeat' split
  all_goals simp

@[simp] theorem Lane.phaseJoin_still (p : Nat) (l : Lane)  :
    (Lane.phaseJoin p l).id = l.id ∧ (Lane.phaseJoin p l).lap = l.lap ∧ (Lane.phaseJoin p l).cfg = l.cfg := by
  unfold Lane.phaseJoin
  (try dsimp only)
  repeat' split
  all_goals simp

@[simp] theorem Lane.joinPrepared_still (l : Lane) :
    (Lane.joinPrepared l).id = l.id ∧ (Lane.joinPrepared l).lap = l.lap ∧ (Lane.joinPrepared l).cfg = l.cfg := by
  unfold Lane.joinPrepared
  refine Lane.forL_still _ _ (fun p l => ?_) l
  repeat' split
  all_goals simp

@[simp] theorem Lane.rearmDelay_still (p : Nat) (l : Lane)  :
    (Lane.rearmDelay p l).id = l.id ∧ (Lane.rearmDelay p l).lap = l.lap ∧ (Lane.rearmDelay p l).cfg = l.cfg := by
  unfold Lane.rearmDelay
  (try dsimp only)
  repeat' split
  all_goals simp

@[simp] theorem Lane.joinComplete_still (p : Nat) (l : Lane)  :
    (Lane.joinComplete p l).id = l.id ∧ (Lane.joinComplete p l).lap = l.lap ∧ (Lane.joinComplete p l).cfg = l.cfg := by
  unfold Lane.joinComplete
  (try dsimp only)
  repeat' split
  all_goals simp

@[simp] theorem Lane.leaveComplete_still (p : Nat) (l : Lane)  :
    (Lane.leaveComplete p l).id = l.id ∧ (Lane.leaveComplete p l).lap = l.lap ∧ (Lane.leaveComplete p l).cfg = l.cfg := by
  unfold Lane.leaveComplete
  (try dsimp only)
  repeat' split
  all_goals simp

@[simp] theorem Lane.stepWeight_still (k p : Nat) (l : Lane)  :
    (Lane.stepWeight k p l).id = l.id ∧ (Lane.stepWeight k p l).lap = l.lap ∧ (Lane.stepWeight k p l).cfg = l.cfg := by
  unfold Lane.stepWeight
  (try dsimp only)
  repeat' split
  all_goals simp

@[simp] theorem Lane.checkPhase_still (k p : Nat) (l : Lane)  :
    (Lane.checkPhase k p l).id = l.id ∧ (Lane.checkPhase k p l).lap = l.lap ∧ (Lane.checkPhase k p l).cfg = l.cfg := by
  unfold Lane.checkPhase
  (try dsimp only)
  repeat' split
  all_goals simp

@[simp] theorem Lane.staleSamples_still (l : Lane) :
    (Lane.staleSamples l).id = l.id ∧ (Lane.staleSamples l).lap = l.lap ∧ (Lane.staleSamples l).cfg = l.cfg := by
  unfold Lane.staleSamples
  (try dsimp only)
  repeat' split
  all_goals simp

@[simp] theorem Lane.keepOutletV_still (o : Nat) (l : Lane) :
    (Lane.keepOutletV o l).id = l.id ∧ (Lane.keepOutletV o l).lap = l.lap ∧ (Lane.keepOutletV o l).cfg = l.cfg := by
  unfold Lane.keepOutletV
  (try dsimp only)
  repeat' split
  all_goals simp

@[simp] theorem Lane.discard_still (t gen no : Nat) (l : Lane)  :
    (Lane.discard t gen no l).id = l.id ∧ (Lane.discard t gen no l).lap = l.lap ∧ (Lane.discard t gen no l).cfg = l.cfg := by
  unfold Lane.discard
  (try dsimp only)
  repeat' split
  all_goals simp

@[simp] theorem Lane.discardLatest_still (t : Nat) (l : Lane) :
    (Lane.discardLatest t l).id = l.id ∧ (Lane.discardLatest t l).lap = l.lap ∧ (Lane.discardLatest t l).cfg = l.cfg := by
  unfold Lane.discardLatest
  (try dsimp only)
  repeat' split
  all_goals simp

@[simp] theorem Lane.rampLap_still (o : Nat) (l0 : Lane) :
    (Lane.rampLap o l0).id = l0.id ∧ (Lane.rampLap o l0).lap = l0.lap ∧ (Lane.rampLap o l0).cfg = l0.cfg := by
  unfold Lane.rampLap
  (try dsimp only)
  repeat' split
  all_goals simp

@[simp] theorem Lane.stepAlloc_still (k : Nat) (t : Int) (l : Lane) :
    (Lane.stepAlloc k t l).id = l.id ∧ (Lane.stepAlloc k t l).lap = l.lap ∧ (Lane.stepAlloc k t l).cfg = l.cfg := by
  unfold Lane.stepAlloc
  (try dsimp only)
  repeat' split
  all_goals simp

@[simp] theorem Lane.stepTarget_still (k : Nat) (l0 : Lane)  :
    (Lane.stepTarget k l0).id = l0.id ∧ (Lane.stepTarget k l0).lap = l0.lap ∧ (Lane.stepTarget k l0).cfg = l0.cfg := by
  unfold Lane.stepTarget
  (try dsimp only)
  repeat' split
  all_goals simp

@[simp] theorem Lane.packSources_still (k : Nat) (l : Lane)  :
    (Lane.packSources k l).id = l.id ∧ (Lane.packSources k l).lap = l.lap ∧ (Lane.packSources k l).cfg = l.cfg := by
  unfold Lane.packSources
  (try dsimp only)
  repeat' split
  all_goals simp

@[simp] theorem Lane.setShare_still (n : Nat) (sum : Int) (p : Nat) (l : Lane)  :
    (Lane.setShare n sum p l).id = l.id ∧ (Lane.setShare n sum p l).lap = l.lap ∧ (Lane.setShare n sum p l).cfg = l.cfg := by
  unfold Lane.setShare
  (try dsimp only)
  repeat' split
  all_goals simp

@[simp] theorem Lane.packBlock_still (k : Nat) (l : Lane)  :
    (Lane.packBlock k l).id = l.id ∧ (Lane.packBlock k l).lap = l.lap ∧ (Lane.packBlock k l).cfg = l.cfg := by
  unfold Lane.packBlock
  extract_lets ps n l1 l2 w l3 sat l4 l5 l6 l7 l8
  have h3 : l3.id = l.id ∧ l3.lap = l.lap ∧ l3.cfg = l.cfg := by simp [l3, l2, l1]
  clear_value l3
  have h4 : l4.id = l.id ∧ l4.lap = l.lap ∧ l4.cfg = l.cfg := by simp [l4, h3]
  clear_value l4
  have h6 : l6.id = l.id ∧ l6.lap = l.lap ∧ l6.cfg = l.cfg := by simp [l6, l5, h4]
  clear_value l6
  have h : l7.id = l.id ∧ l7.lap = l.lap ∧ l7.cfg = l.cfg := by simp [l7, h6]
  have h8 : l8.id = l7.id ∧ l8.lap = l7.lap ∧ l8.cfg = l7.cfg := by simp [l8]
  clear_value l7 l8
  split
  · split <;> simp [h, h8]
  · exact h

@[simp] theorem Lane.showEmpty_still (k : Nat) (l : Lane) :
    (Lane.showEmpty k l).id = l.id ∧ (Lane.showEmpty k l).lap = l.lap ∧ (Lane.showEmpty k l).cfg = l.cfg := by
  unfold Lane.showEmpty
  (try dsimp only)
  repeat' split
  all_goals simp

@[simp] theorem Lane.showMembers_still (k : Nat) (l0 : Lane) :
    (Lane.showMembers k l0).id = l0.id ∧ (Lane.showMembers k l0).lap = l0.lap ∧ (Lane.showMembers k l0).cfg = l0.cfg := by
  unfold Lane.showMembers
  (try dsimp only)
  repeat' split
  all_goals simp

@[simp] theorem Lane.setCool_still (l : Lane) (o : Nat) (x : CoolSt)  :
    (Lane.setCool l o x).id = l.id ∧ (Lane.setCool l o x).lap = l.lap ∧ (Lane.setCool l o x).cfg = l.cfg := by
  unfold Lane.setCool
  (try dsimp only)
  repeat' split
  all_goals simp

@[simp] theorem Lane.setSensor_still (l : Lane) (o n : Nat) (s : SensorSt)  :
    (Lane.setSensor l o n s).id = l.id ∧ (Lane.setSensor l o n s).lap = l.lap ∧ (Lane.setSensor l o n s).cfg = l.cfg := by
  unfold Lane.setSensor
  (try dsimp only)
  repeat' split
  all_goals simp

@[simp] theorem Lane.discards_still (t : Nat) (l : Lane)  :
    (Lane.discards t l).id = l.id ∧ (Lane.discards t l).lap = l.lap ∧ (Lane.discards t l).cfg = l.cfg := by
  unfold Lane.discards
  (try dsimp only)
  repeat' split
  all_goals simp

@[simp] theorem Lane.limitRun_still (l : Lane) (t : Nat) (o : EvalOut)  :
    (Lane.limitRun l t o).id = l.id ∧ (Lane.limitRun l t o).lap = l.lap ∧ (Lane.limitRun l t o).cfg = l.cfg := by
  unfold Lane.limitRun
  (try dsimp only)
  repeat' split
  all_goals simp

@[simp] theorem Lane.openSlot_still (t : Nat) (l : Lane)  :
    (Lane.openSlot t l).id = l.id ∧ (Lane.openSlot t l).lap = l.lap ∧ (Lane.openSlot t l).cfg = l.cfg := by
  unfold Lane.openSlot
  (try dsimp only)
  repeat' split
  all_goals simp

@[simp] theorem Lane.runSlot_still (n : Nat) (inj : Nat → Int × Int × Int) (t : Nat) (l1 : Lane)  :
    (Lane.runSlot n inj t l1).id = l1.id ∧ (Lane.runSlot n inj t l1).lap = l1.lap ∧ (Lane.runSlot n inj t l1).cfg = l1.cfg := by
  unfold Lane.runSlot
  (try dsimp only)
  repeat' split
  all_goals simp

@[simp] theorem Lane.testVector_still (t : Nat) (bad : Bool) (l : Lane)  :
    (Lane.testVector t bad l).id = l.id ∧ (Lane.testVector t bad l).lap = l.lap ∧ (Lane.testVector t bad l).cfg = l.cfg := by
  unfold Lane.testVector
  (try dsimp only)
  repeat' split
  all_goals simp

@[simp] theorem Lane.testVectors_still (n : Nat) (bad : List Nat) (l : Lane)  :
    (Lane.testVectors n bad l).id = l.id ∧ (Lane.testVectors n bad l).lap = l.lap ∧ (Lane.testVectors n bad l).cfg = l.cfg := by
  unfold Lane.testVectors
  extract_lets free l1 eng l2
  have h : l2.id = l.id ∧ l2.lap = l.lap ∧ l2.cfg = l.cfg := by
    have h1 : l1.id = l.id ∧ l1.lap = l.lap ∧ l1.cfg = l.cfg := Lane.addp_still l _ _
    clear_value l1 eng
    exact h1
  clear_value l2
  split
  · exact h
  · simp [h]

@[simp] theorem Lane.phaseCmd_still (lam p : Nat) (l0 : Lane) :
    (Lane.phaseCmd lam p l0).1.id = l0.id ∧ (Lane.phaseCmd lam p l0).1.lap = l0.lap ∧ (Lane.phaseCmd lam p l0).1.cfg = l0.cfg := by
  unfold Lane.phaseCmd
  extract_lets h x l shift ang d la lb due lc miss ld raw boot dd selfR force since a le pp lf
  have h0 : l.id = l0.id ∧ l.lap = l0.lap ∧ l.cfg = l0.cfg := by simp only [l]; split <;> simp
  have hs : ∀ (l : Lane) b d f n, (shift l b d f n).id = l.id ∧ (shift l b d f n).lap = l.lap ∧ (shift l b d f n).cfg = l.cfg := by
    intro l b d f n; simp [shift]
  clear_value shift l
  have ha : la.id = l.id ∧ la.lap = l.lap ∧ la.cfg = l.cfg := by simp [la]
  have hb : lb.id = l.id ∧ lb.lap = l.lap ∧ lb.cfg = l.cfg := by simp only [lb]; split <;> simp
  have hc : lc.id = l.id ∧ lc.lap = l.lap ∧ lc.cfg = l.cfg := by
    simp only [lc]; repeat' split
    all_goals simp
  clear_value la lb lc
  have hd : ld.id = l.id ∧ ld.lap = l.lap ∧ ld.cfg = l.cfg := by simp [ld, hc]
  have he : le.id = l.id ∧ le.lap = l.lap ∧ le.cfg = l.cfg := by simp only [le]; split <;> simp [hc]
  clear_value ld le
  have hf : lf.id = l.id ∧ lf.lap = l.lap ∧ lf.cfg = l.cfg := by simp [lf, he]
  clear_value lf
  repeat' split
  all_goals simp [hs, h0, ha, hb, hd, hf]

@[simp] theorem Lane.hubCmds_still (lam h : Nat) (l : Lane)  :
    (Lane.hubCmds lam h l).1.id = l.id ∧ (Lane.hubCmds lam h l).1.lap = l.lap ∧ (Lane.hubCmds lam h l).1.cfg = l.cfg := by
  unfold Lane.hubCmds
  exact pairFold_still _ _ (fun a x => by simp) _

@[simp] theorem Lane.sendHeader_still (h : Nat) (l : Lane) :
    (Lane.sendHeader h l).id = l.id ∧ (Lane.sendHeader h l).lap = l.lap ∧ (Lane.sendHeader h l).cfg = l.cfg := by
  unfold Lane.sendHeader
  (try dsimp only)
  repeat' split
  all_goals simp

@[simp] theorem Lane.sendBlock_still (n h : Nat) (l : Lane)  :
    (Lane.sendBlock n h l).id = l.id ∧ (Lane.sendBlock n h l).lap = l.lap ∧ (Lane.sendBlock n h l).cfg = l.cfg := by
  unfold Lane.sendBlock
  (try dsimp only)
  repeat' split
  all_goals simp

@[simp] theorem Lane.closeHub_still (h : Nat) (l : Lane)  :
    (Lane.closeHub h l).id = l.id ∧ (Lane.closeHub h l).lap = l.lap ∧ (Lane.closeHub h l).cfg = l.cfg := by
  unfold Lane.closeHub
  (try dsimp only)
  repeat' split
  all_goals simp

@[simp] theorem Lane.holdSample_still (p : Nat) (l : Lane) :
    (Lane.holdSample p l).id = l.id ∧ (Lane.holdSample p l).lap = l.lap ∧ (Lane.holdSample p l).cfg = l.cfg := by
  unfold Lane.holdSample
  (try dsimp only)
  repeat' split
  all_goals simp

@[simp] theorem Lane.maskHub_still (h : Nat) (l : Lane)  :
    (Lane.maskHub h l).id = l.id ∧ (Lane.maskHub h l).lap = l.lap ∧ (Lane.maskHub h l).cfg = l.cfg := by
  unfold Lane.maskHub
  (try dsimp only)
  repeat' split
  all_goals simp

@[simp] theorem Lane.measuredEpoch_still (h : Nat) (l : Lane) :
    (Lane.measuredEpoch h l).id = l.id ∧ (Lane.measuredEpoch h l).lap = l.lap ∧ (Lane.measuredEpoch h l).cfg = l.cfg := by
  unfold Lane.measuredEpoch
  (try dsimp only)
  repeat' split
  all_goals simp

@[simp] theorem Lane.lapPacks_still (l : Lane)  :
    (Lane.lapPacks l).id = l.id ∧ (Lane.lapPacks l).lap = l.lap ∧ (Lane.lapPacks l).cfg = l.cfg := by
  unfold Lane.lapPacks
  (try dsimp only)
  repeat' split
  all_goals simp

@[simp] theorem Lane.lateDuties_still (l : Lane)  :
    (Lane.lateDuties l).id = l.id ∧ (Lane.lateDuties l).lap = l.lap ∧ (Lane.lateDuties l).cfg = l.cfg := by
  unfold Lane.lateDuties
  (try dsimp only)
  repeat' split
  all_goals simp

@[simp] theorem Lane.lapWindow_still (inj : Nat → Int × Int × Int) (bad : List Nat) (l : Lane)  :
    (Lane.lapWindow inj bad l).id = l.id ∧ (Lane.lapWindow inj bad l).lap = l.lap ∧ (Lane.lapWindow inj bad l).cfg = l.cfg := by
  unfold Lane.lapWindow
  (try dsimp only)
  repeat' split
  all_goals simp

@[simp] theorem Lane.sensorPoints_still (o : Nat) (l : Lane)  :
    (Lane.sensorPoints o l).id = l.id ∧ (Lane.sensorPoints o l).lap = l.lap ∧ (Lane.sensorPoints o l).cfg = l.cfg := by
  unfold Lane.sensorPoints
  (try dsimp only)
  repeat' split
  all_goals simp

@[simp] theorem Lane.flowTimers_still (o : Nat) (l : Lane)  :
    (Lane.flowTimers o l).id = l.id ∧ (Lane.flowTimers o l).lap = l.lap ∧ (Lane.flowTimers o l).cfg = l.cfg := by
  unfold Lane.flowTimers
  (try dsimp only)
  repeat' split
  all_goals simp

@[simp] theorem Lane.sensorFrame_still (o n : Nat) (payload : List Nat) (l : Lane)  :
    (Lane.sensorFrame o n payload l).id = l.id ∧ (Lane.sensorFrame o n payload l).lap = l.lap ∧ (Lane.sensorFrame o n payload l).cfg = l.cfg := by
  unfold Lane.sensorFrame
  (try dsimp only)
  repeat' split
  all_goals simp

@[simp] theorem Lane.sensorsFrom_still (b obj : Nat) (payload : List Nat) (l : Lane)  :
    (Lane.sensorsFrom b obj payload l).id = l.id ∧ (Lane.sensorsFrom b obj payload l).lap = l.lap ∧ (Lane.sensorsFrom b obj payload l).cfg = l.cfg := by
  unfold Lane.sensorsFrom
  (try dsimp only)
  repeat' split
  all_goals simp

@[simp] theorem Lane.sensorTimeout_still (o n : Nat) (l : Lane)  :
    (Lane.sensorTimeout o n l).id = l.id ∧ (Lane.sensorTimeout o n l).lap = l.lap ∧ (Lane.sensorTimeout o n l).cfg = l.cfg := by
  unfold Lane.sensorTimeout
  (try dsimp only)
  repeat' split
  all_goals simp

@[simp] theorem Lane.coolSample_still (o : Nat) (l : Lane) :
    (Lane.coolSample o l).id = l.id ∧ (Lane.coolSample o l).lap = l.lap ∧ (Lane.coolSample o l).cfg = l.cfg := by
  unfold Lane.coolSample
  (try dsimp only)
  repeat' split
  all_goals simp

@[simp] theorem Lane.cooldownExpiry_still (o : Nat) (l : Lane)  :
    (Lane.cooldownExpiry o l).id = l.id ∧ (Lane.cooldownExpiry o l).lap = l.lap ∧ (Lane.cooldownExpiry o l).cfg = l.cfg := by
  unfold Lane.cooldownExpiry
  (try dsimp only)
  repeat' split
  all_goals simp

@[simp] theorem Lane.coolFn_still (o : Nat) (v : Int) (l : Lane) :
    (Lane.coolFn o v l).id = l.id ∧ (Lane.coolFn o v l).lap = l.lap ∧ (Lane.coolFn o v l).cfg = l.cfg := by
  unfold Lane.coolFn
  (try dsimp only)
  repeat' split
  all_goals simp

@[simp] theorem Lane.coolReady_still (o : Nat) (l : Lane)  :
    (Lane.coolReady o l).id = l.id ∧ (Lane.coolReady o l).lap = l.lap ∧ (Lane.coolReady o l).cfg = l.cfg := by
  unfold Lane.coolReady
  (try dsimp only)
  repeat' split
  all_goals simp

@[simp] theorem Lane.flowLoss_still (o : Nat) (l : Lane)  :
    (Lane.flowLoss o l).id = l.id ∧ (Lane.flowLoss o l).lap = l.lap ∧ (Lane.flowLoss o l).cfg = l.cfg := by
  unfold Lane.flowLoss
  (try dsimp only)
  repeat' split
  all_goals simp

@[simp] theorem Lane.clearForecast_still (o : Nat) (l : Lane) :
    (Lane.clearForecast o l).id = l.id ∧ (Lane.clearForecast o l).lap = l.lap ∧ (Lane.clearForecast o l).cfg = l.cfg := by
  unfold Lane.clearForecast
  (try dsimp only)
  repeat' split
  all_goals simp

@[simp] theorem Lane.coolModeState_still (o : Nat) (l : Lane)  :
    (Lane.coolModeState o l).id = l.id ∧ (Lane.coolModeState o l).lap = l.lap ∧ (Lane.coolModeState o l).cfg = l.cfg := by
  unfold Lane.coolModeState
  (try dsimp only)
  repeat' split
  all_goals simp

@[simp] theorem Lane.modelOutlet_still (o : Nat) (l0 : Lane)  :
    (Lane.modelOutlet o l0).id = l0.id ∧ (Lane.modelOutlet o l0).lap = l0.lap ∧ (Lane.modelOutlet o l0).cfg = l0.cfg := by
  unfold Lane.modelOutlet
  (try dsimp only)
  repeat' split
  all_goals simp

@[simp] theorem Lane.modelStepAll_still (outlets : Nat) (l : Lane)  :
    (Lane.modelStepAll outlets l).id = l.id ∧ (Lane.modelStepAll outlets l).lap = l.lap ∧ (Lane.modelStepAll outlets l).cfg = l.cfg := by
  unfold Lane.modelStepAll
  (try dsimp only)
  repeat' split
  all_goals simp

@[simp] theorem Lane.forecastOutlet_still (o : Nat) (l : Lane)  :
    (Lane.forecastOutlet o l).id = l.id ∧ (Lane.forecastOutlet o l).lap = l.lap ∧ (Lane.forecastOutlet o l).cfg = l.cfg := by
  unfold Lane.forecastOutlet
  (try dsimp only)
  repeat' split
  all_goals simp

@[simp] theorem Lane.forecastAll_still (outlets : Nat) (l : Lane)  :
    (Lane.forecastAll outlets l).id = l.id ∧ (Lane.forecastAll outlets l).lap = l.lap ∧ (Lane.forecastAll outlets l).cfg = l.cfg := by
  unfold Lane.forecastAll
  (try dsimp only)
  repeat' split
  all_goals simp

@[simp] theorem Lane.forecastOverrun_still (o : Nat) (l : Lane)  :
    (Lane.forecastOverrun o l).id = l.id ∧ (Lane.forecastOverrun o l).lap = l.lap ∧ (Lane.forecastOverrun o l).cfg = l.cfg := by
  unfold Lane.forecastOverrun
  (try dsimp only)
  repeat' split
  all_goals simp

@[simp] theorem Lane.thermalInputs_still (outlets : Nat) (l : Lane) :
    (Lane.thermalInputs outlets l).id = l.id ∧ (Lane.thermalInputs outlets l).lap = l.lap ∧ (Lane.thermalInputs outlets l).cfg = l.cfg := by
  unfold Lane.thermalInputs
  (try dsimp only)
  repeat' split
  all_goals simp

@[simp] theorem Lane.stepThermal_still (outlets : Nat) (l : Lane) :
    (Lane.stepThermal outlets l).id = l.id ∧ (Lane.stepThermal outlets l).lap = l.lap ∧ (Lane.stepThermal outlets l).cfg = l.cfg := by
  unfold Lane.stepThermal
  (try dsimp only)
  repeat' split
  all_goals simp

@[simp] theorem Lane.degradedRecover_still (o : Nat) (l : Lane)  :
    (Lane.degradedRecover o l).id = l.id ∧ (Lane.degradedRecover o l).lap = l.lap ∧ (Lane.degradedRecover o l).cfg = l.cfg := by
  unfold Lane.degradedRecover
  (try dsimp only)
  repeat' split
  all_goals simp

@[simp] theorem Lane.degradedElapsedReset_still (o : Nat) (l : Lane)  :
    (Lane.degradedElapsedReset o l).id = l.id ∧ (Lane.degradedElapsedReset o l).lap = l.lap ∧ (Lane.degradedElapsedReset o l).cfg = l.cfg := by
  unfold Lane.degradedElapsedReset
  (try dsimp only)
  repeat' split
  all_goals simp

@[simp] theorem Lane.coolSave_still (nowMs outlets : Nat) (l : Lane)  :
    (Lane.coolSave nowMs outlets l).id = l.id ∧ (Lane.coolSave nowMs outlets l).lap = l.lap ∧ (Lane.coolSave nowMs outlets l).cfg = l.cfg := by
  unfold Lane.coolSave
  (try dsimp only)
  repeat' split
  all_goals simp

@[simp] theorem Lane.coolRestore_still (nowMs : Nat) (valid : Bool) (outlets : Nat) (l : Lane)  :
    (Lane.coolRestore nowMs valid outlets l).id = l.id ∧ (Lane.coolRestore nowMs valid outlets l).lap = l.lap ∧ (Lane.coolRestore nowMs valid outlets l).cfg = l.cfg := by
  unfold Lane.coolRestore
  refine Lane.forN_still _ _ (fun o l => ?_) l
  dsimp only
  split <;> simp

@[simp] theorem Lane.setPool_still (l : Lane) (x : Nat) (v : PoolSt)  :
    (Lane.setPool l x v).id = l.id ∧ (Lane.setPool l x v).lap = l.lap ∧ (Lane.setPool l x v).cfg = l.cfg := by
  unfold Lane.setPool
  (try dsimp only)
  repeat' split
  all_goals simp

@[simp] theorem Lane.writeNode_still (x : Nat) (n : NodeOut) (l : Lane)  :
    (Lane.writeNode x n l).id = l.id ∧ (Lane.writeNode x n l).lap = l.lap ∧ (Lane.writeNode x n l).cfg = l.cfg := by
  unfold Lane.writeNode
  (try dsimp only)
  repeat' split
  all_goals simp

@[simp] theorem Lane.packShares_still (x : Nat) (n : NodeOut) (l : Lane)  :
    (Lane.packShares x n l).id = l.id ∧ (Lane.packShares x n l).lap = l.lap ∧ (Lane.packShares x n l).cfg = l.cfg := by
  unfold Lane.packShares
  (try dsimp only)
  repeat' split
  all_goals simp

@[simp] theorem Lane.allocRound_still (l : Lane)  :
    (Lane.allocRound l).id = l.id ∧ (Lane.allocRound l).lap = l.lap ∧ (Lane.allocRound l).cfg = l.cfg := by
  unfold Lane.allocRound
  (try dsimp only)
  repeat' split
  all_goals simp

@[simp] theorem Lane.allocOverrun_still (me : LaneId) (l : Lane)  :
    (Lane.allocOverrun me l).id = l.id ∧ (Lane.allocOverrun me l).lap = l.lap ∧ (Lane.allocOverrun me l).cfg = l.cfg := by
  unfold Lane.allocOverrun
  (try dsimp only)
  repeat' split
  all_goals simp

@[simp] theorem Lane.targetLoad_still (l : Lane)  :
    (Lane.targetLoad l).id = l.id ∧ (Lane.targetLoad l).lap = l.lap ∧ (Lane.targetLoad l).cfg = l.cfg := by
  unfold Lane.targetLoad
  (try dsimp only)
  repeat' split
  all_goals simp

@[simp] theorem Lane.hostPower_still (x : Nat) (v : Int) (l : Lane)  :
    (Lane.hostPower x v l).id = l.id ∧ (Lane.hostPower x v l).lap = l.lap ∧ (Lane.hostPower x v l).cfg = l.cfg := by
  unfold Lane.hostPower
  (try dsimp only)
  repeat' split
  all_goals simp

@[simp] theorem Lane.teamReport_still (k : Nat) (want drawn : Int) (l : Lane)  :
    (Lane.teamReport k want drawn l).id = l.id ∧ (Lane.teamReport k want drawn l).lap = l.lap ∧ (Lane.teamReport k want drawn l).cfg = l.cfg := by
  unfold Lane.teamReport
  (try dsimp only)
  repeat' split
  all_goals simp

@[simp] theorem Lane.teamAllocation_still (w : Int) (l : Lane)  :
    (Lane.teamAllocation w l).id = l.id ∧ (Lane.teamAllocation w l).lap = l.lap ∧ (Lane.teamAllocation w l).cfg = l.cfg := by
  unfold Lane.teamAllocation
  (try dsimp only)
  repeat' split
  all_goals simp

@[simp] theorem Lane.teamDeadline_still (l : Lane)  :
    (Lane.teamDeadline l).id = l.id ∧ (Lane.teamDeadline l).lap = l.lap ∧ (Lane.teamDeadline l).cfg = l.cfg := by
  unfold Lane.teamDeadline
  (try dsimp only)
  repeat' split
  all_goals simp

@[simp] theorem Lane.keyPoints_still (l : Lane)  :
    (Lane.keyPoints l).id = l.id ∧ (Lane.keyPoints l).lap = l.lap ∧ (Lane.keyPoints l).cfg = l.cfg := by
  unfold Lane.keyPoints
  (try dsimp only)
  repeat' split
  all_goals simp

@[simp] theorem Lane.setSlotKey_still (s : Nat) (k : KeySlot) (l : Lane)  :
    (Lane.setSlotKey s k l).id = l.id ∧ (Lane.setSlotKey s k l).lap = l.lap ∧ (Lane.setSlotKey s k l).cfg = l.cfg := by
  unfold Lane.setSlotKey
  (try dsimp only)
  repeat' split
  all_goals simp

@[simp] theorem Lane.keyDelivery_still (engine slot op : Nat) (l : Lane)  :
    (Lane.keyDelivery engine slot op l).id = l.id ∧ (Lane.keyDelivery engine slot op l).lap = l.lap ∧ (Lane.keyDelivery engine slot op l).cfg = l.cfg := by
  unfold Lane.keyDelivery
  (try dsimp only)
  repeat' split
  all_goals simp

@[simp] theorem Lane.askKey_still (engine slot op : Nat) (l : Lane)  :
    (Lane.askKey engine slot op l).1.id = l.id ∧ (Lane.askKey engine slot op l).1.lap = l.lap ∧ (Lane.askKey engine slot op l).1.cfg = l.cfg := by
  unfold Lane.askKey
  (try dsimp only)
  repeat' split
  all_goals simp

@[simp] theorem Lane.deriveKey_still (s parent engines value : Nat) (l : Lane)  :
    (Lane.deriveKey s parent engines value l).id = l.id ∧ (Lane.deriveKey s parent engines value l).lap = l.lap ∧ (Lane.deriveKey s parent engines value l).cfg = l.cfg := by
  unfold Lane.deriveKey
  (try dsimp only)
  repeat' split
  all_goals simp

@[simp] theorem Lane.eraseKey_still (s : Nat) (l : Lane)  :
    (Lane.eraseKey s l).id = l.id ∧ (Lane.eraseKey s l).lap = l.lap ∧ (Lane.eraseKey s l).cfg = l.cfg := by
  unfold Lane.eraseKey
  (try dsimp only)
  repeat' split
  all_goals simp

@[simp] theorem Lane.pairing_still (verified : Bool) (secret : Nat) (l : Lane)  :
    (Lane.pairing verified secret l).id = l.id ∧ (Lane.pairing verified secret l).lap = l.lap ∧ (Lane.pairing verified secret l).cfg = l.cfg := by
  unfold Lane.pairing
  (try dsimp only)
  repeat' split
  all_goals simp

@[simp] theorem Lane.checkSerial_still (l : Lane)  :
    (Lane.checkSerial l).id = l.id ∧ (Lane.checkSerial l).lap = l.lap ∧ (Lane.checkSerial l).cfg = l.cfg := by
  unfold Lane.checkSerial
  (try dsimp only)
  repeat' split
  all_goals simp

@[simp] theorem Lane.copyKeys_still (l : Lane) (holder : Lane)  :
    (Lane.copyKeys l holder).id = l.id ∧ (Lane.copyKeys l holder).lap = l.lap ∧ (Lane.copyKeys l holder).cfg = l.cfg := by
  unfold Lane.copyKeys
  (try dsimp only)
  repeat' split
  all_goals simp

@[simp] theorem Lane.setKeyBuffer_still (q : Nat) (b : List Nat) (l : Lane)  :
    (Lane.setKeyBuffer q b l).id = l.id ∧ (Lane.setKeyBuffer q b l).lap = l.lap ∧ (Lane.setKeyBuffer q b l).cfg = l.cfg := by
  unfold Lane.setKeyBuffer
  (try dsimp only)
  repeat' split
  all_goals simp

@[simp] theorem Lane.cmdKeyLoad_still (r : Request) (l : Lane)  :
    (Lane.cmdKeyLoad r l).1.id = l.id ∧ (Lane.cmdKeyLoad r l).1.lap = l.lap ∧ (Lane.cmdKeyLoad r l).1.cfg = l.cfg := by
  unfold Lane.cmdKeyLoad
  (try dsimp only)
  repeat' split
  all_goals simp

@[simp] theorem Lane.cmdKeyInfo_still (r : Request) (l : Lane)  :
    (Lane.cmdKeyInfo r l).1.id = l.id ∧ (Lane.cmdKeyInfo r l).1.lap = l.lap ∧ (Lane.cmdKeyInfo r l).1.cfg = l.cfg := by
  unfold Lane.cmdKeyInfo
  (try dsimp only)
  repeat' split
  all_goals simp

@[simp] theorem Lane.cmdKeyList_still (r : Request) (l : Lane)  :
    (Lane.cmdKeyList r l).1.id = l.id ∧ (Lane.cmdKeyList r l).1.lap = l.lap ∧ (Lane.cmdKeyList r l).1.cfg = l.cfg := by
  unfold Lane.cmdKeyList
  (try dsimp only)
  repeat' split
  all_goals simp

@[simp] theorem Lane.cmdKeyCounter_still (r : Request) (l : Lane)  :
    (Lane.cmdKeyCounter r l).1.id = l.id ∧ (Lane.cmdKeyCounter r l).1.lap = l.lap ∧ (Lane.cmdKeyCounter r l).1.cfg = l.cfg := by
  unfold Lane.cmdKeyCounter
  (try dsimp only)
  repeat' split
  all_goals simp

@[simp] theorem Lane.setAc_still (l : Lane) (n : Nat) (x : AcSt)  :
    (Lane.setAc l n x).id = l.id ∧ (Lane.setAc l n x).lap = l.lap ∧ (Lane.setAc l n x).cfg = l.cfg := by
  unfold Lane.setAc
  (try dsimp only)
  repeat' split
  all_goals simp

@[simp] theorem Lane.setDc_still (l : Lane) (d : Nat) (x : DcSt)  :
    (Lane.setDc l d x).id = l.id ∧ (Lane.setDc l d x).lap = l.lap ∧ (Lane.setDc l d x).cfg = l.cfg := by
  unfold Lane.setDc
  (try dsimp only)
  repeat' split
  all_goals simp

@[simp] theorem Lane.setChan_still (l : Lane) (m c : Nat) (x : ChanSt)  :
    (Lane.setChan l m c x).id = l.id ∧ (Lane.setChan l m c x).lap = l.lap ∧ (Lane.setChan l m c x).cfg = l.cfg := by
  unfold Lane.setChan
  (try dsimp only)
  repeat' split
  all_goals simp

@[simp] theorem Lane.gainShown_still (m c : Nat) (switched : Bool) (l : Lane)  :
    (Lane.gainShown m c switched l).id = l.id ∧ (Lane.gainShown m c switched l).lap = l.lap ∧ (Lane.gainShown m c switched l).cfg = l.cfg := by
  unfold Lane.gainShown
  (try dsimp only)
  repeat' split
  all_goals simp

@[simp] theorem Lane.endWindow_still (m n : Nat) (next : Bool) (l : Lane) :
    (Lane.endWindow m n next l).id = l.id ∧ (Lane.endWindow m n next l).lap = l.lap ∧ (Lane.endWindow m n next l).cfg = l.cfg := by
  unfold Lane.endWindow
  (try dsimp only)
  repeat' split
  all_goals simp

@[simp] theorem Lane.addReg_still (m q t : Nat) (n : Int) (l : Lane)  :
    (Lane.addReg m q t n l).id = l.id ∧ (Lane.addReg m q t n l).lap = l.lap ∧ (Lane.addReg m q t n l).cfg = l.cfg := by
  unfold Lane.addReg
  (try dsimp only)
  repeat' split
  all_goals simp

@[simp] theorem Lane.setPo_still (l : Lane) (u : Nat) (x : PoSt)  :
    (Lane.setPo l u x).id = l.id ∧ (Lane.setPo l u x).lap = l.lap ∧ (Lane.setPo l u x).cfg = l.cfg := by
  unfold Lane.setPo
  (try dsimp only)
  repeat' split
  all_goals simp

@[simp] theorem Lane.poDue_still (u n : Nat) (l : Lane) :
    (Lane.poDue u n l).id = l.id ∧ (Lane.poDue u n l).lap = l.lap ∧ (Lane.poDue u n l).cfg = l.cfg := by
  induction n generalizing l with
  | zero => simp [Lane.poDue]
  | succ n ih =>
    unfold Lane.poDue
    dsimp only
    repeat' split
    all_goals simp [ih]

@[simp] theorem Lane.credit_still (m q t : Nat) (e : Int) (l : Lane)  :
    (Lane.credit m q t e l).id = l.id ∧ (Lane.credit m q t e l).lap = l.lap ∧ (Lane.credit m q t e l).cfg = l.cfg := by
  unfold Lane.credit
  (try dsimp only)
  repeat' split
  all_goals simp

@[simp] theorem Lane.addEnergy_still (m q t : Nat) (e : Int) (l : Lane)  :
    (Lane.addEnergy m q t e l).id = l.id ∧ (Lane.addEnergy m q t e l).lap = l.lap ∧ (Lane.addEnergy m q t e l).cfg = l.cfg := by
  unfold Lane.addEnergy
  split
  · simp
  · extract_lets l1 l2
    have h : l2.id = l.id ∧ l2.lap = l.lap ∧ l2.cfg = l.cfg := by
      have := Lane.forN_still 4 (fun u l => if poSource (l.cn (Po.poSource u)) = some (m, q) then
        (l.setPo u { l.po u with acc := (l.po u).acc + e }).poDue u 4096 else l)
        (fun u l => by split <;> simp) l1
      simpa [l2, l1] using this
    clear_value l2
    split <;> simp [h]

@[simp] theorem Lane.takeSample_still (m c : Nat) (r : RawSample) (other : Option Int) (l : Lane)  :
    (Lane.takeSample m c r other l).1.id = l.id ∧ (Lane.takeSample m c r other l).1.lap = l.lap ∧ (Lane.takeSample m c r other l).1.cfg = l.cfg := by
  unfold Lane.takeSample
  (try dsimp only)
  repeat' split
  all_goals simp

@[simp] theorem Lane.takeAll_still (m : Nat) (os : List (Option Int)) (n : Nat) (rs : List RawSample) (l : Lane) :
    (Lane.takeAll m os n rs l).1.id = l.id ∧ (Lane.takeAll m os n rs l).1.lap = l.lap
    ∧ (Lane.takeAll m os n rs l).1.cfg = l.cfg := by
  induction rs generalizing n l with
  | nil => simp [Lane.takeAll]
  | cons r rs ih => simp [Lane.takeAll, ih]

@[simp] theorem Lane.acSample_still (n : Nat) (on : Bool) (ts : List ChanSample) (l : Lane) :
    (Lane.acSample n on ts l).id = l.id ∧ (Lane.acSample n on ts l).lap = l.lap ∧ (Lane.acSample n on ts l).cfg = l.cfg := by
  unfold Lane.acSample
  (try dsimp only)
  repeat' split
  all_goals simp

@[simp] theorem Lane.dcInput_still (d : Nat) (ts : List ChanSample) (l : Lane) :
    (Lane.dcInput d ts l).id = l.id ∧ (Lane.dcInput d ts l).lap = l.lap ∧ (Lane.dcInput d ts l).cfg = l.cfg := by
  unfold Lane.dcInput
  (try dsimp only)
  repeat' split
  all_goals simp

@[simp] theorem Lane.dcSample_still (d : Nat) (ts : List ChanSample) (l : Lane) :
    (Lane.dcSample d ts l).id = l.id ∧ (Lane.dcSample d ts l).lap = l.lap ∧ (Lane.dcSample d ts l).cfg = l.cfg := by
  unfold Lane.dcSample
  (try dsimp only)
  repeat' split
  all_goals simp

@[simp] theorem Lane.gapTick_still (m : Nat) (l : Lane)  :
    (Lane.gapTick m l).id = l.id ∧ (Lane.gapTick m l).lap = l.lap ∧ (Lane.gapTick m l).cfg = l.cfg := by
  unfold Lane.gapTick
  (try dsimp only)
  repeat' split
  all_goals simp

@[simp] theorem Lane.meteredTick_still (m : Nat) (l : Lane)  :
    (Lane.meteredTick m l).id = l.id ∧ (Lane.meteredTick m l).lap = l.lap ∧ (Lane.meteredTick m l).cfg = l.cfg := by
  unfold Lane.meteredTick
  (try dsimp only)
  repeat' split
  all_goals simp

@[simp] theorem Lane.supervise_still (l : Lane) (o : Nat) (src : Lane)  :
    (Lane.supervise l o src).id = l.id ∧ (Lane.supervise l o src).lap = l.lap ∧ (Lane.supervise l o src).cfg = l.cfg := by
  unfold Lane.supervise
  (try dsimp only)
  repeat' split
  all_goals simp

@[simp] theorem Lane.ownCable_still (o : Nat) (own : List ChanSample) (l : Lane) :
    (Lane.ownCable o own l).id = l.id ∧ (Lane.ownCable o own l).lap = l.lap ∧ (Lane.ownCable o own l).cfg = l.cfg := by
  unfold Lane.ownCable
  (try dsimp only)
  repeat' split
  all_goals simp

@[simp] theorem Lane.samplePoint_still (l : Lane) (other : Lane) (ofs m : Nat) (raw : Option (List RawSample))  :
    (Lane.samplePoint l other ofs m raw).id = l.id ∧ (Lane.samplePoint l other ofs m raw).lap = l.lap ∧ (Lane.samplePoint l other ofs m raw).cfg = l.cfg := by
  unfold Lane.samplePoint
  extract_lets on clip others filled input put gap lb
  have hi : ∀ b xs (l : Lane), (input b xs l).id = l.id ∧ (input b xs l).lap = l.lap ∧ (input b xs l).cfg = l.cfg := by
    intro b xs l; simp only [input]; repeat' split
    all_goals simp
  have hp : ∀ xs (l : Lane), (put xs l).id = l.id ∧ (put xs l).lap = l.lap ∧ (put xs l).cfg = l.cfg := by
    intro xs l; simp only [put]; split <;> simp [hi]
  have hg : ∀ l : Lane, (gap l).id = l.id ∧ (gap l).lap = l.lap ∧ (gap l).cfg = l.cfg := by
    intro l; simp only [gap]; split <;> simp
  have hl : lb.id = l.id ∧ lb.lap = l.lap ∧ lb.cfg = l.cfg := by simp [lb]
  clear_value input put gap filled lb
  (try dsimp only)
  repeat' split
  all_goals simp [hi, hp, hg, hl]

@[simp] theorem Lane.frozenPoint_still (l : Lane) (other : Lane) (ofs m : Nat) :
    (Lane.frozenPoint l other ofs m).id = l.id ∧ (Lane.frozenPoint l other ofs m).lap = l.lap ∧ (Lane.frozenPoint l other ofs m).cfg = l.cfg := by
  unfold Lane.frozenPoint
  (try dsimp only)
  repeat' split
  all_goals simp

@[simp] theorem Lane.meteringSample_still (l : Lane) (other : Lane) (ms : MeterSample)  :
    (Lane.meteringSample l other ms).id = l.id ∧ (Lane.meteringSample l other ms).lap = l.lap ∧ (Lane.meteringSample l other ms).cfg = l.cfg := by
  unfold Lane.meteringSample
  (try dsimp only)
  repeat' split
  all_goals simp

@[simp] theorem Lane.latePart_still (m q : Nat) (c : CycleCut) (d : Int) (l : Lane) :
    (Lane.latePart m q c d l).id = l.id ∧ (Lane.latePart m q c d l).lap = l.lap ∧ (Lane.latePart m q c d l).cfg = l.cfg := by
  unfold Lane.latePart
  (try dsimp only)
  repeat' split
  all_goals simp

@[simp] theorem Lane.cycleCredit_still (m q : Nat) (e : Int) (n : Nat) (cut : Option CycleCut) (l : Lane) :
    (Lane.cycleCredit m q e n cut l).id = l.id ∧ (Lane.cycleCredit m q e n cut l).lap = l.lap ∧ (Lane.cycleCredit m q e n cut l).cfg = l.cfg := by
  unfold Lane.cycleCredit
  (try dsimp only)
  repeat' split
  all_goals simp

@[simp] theorem Lane.cutCycles_still (f : Nat → CycleCut → CycleCut) (l : Lane) :
    (Lane.cutCycles f l).id = l.id ∧ (Lane.cutCycles f l).lap = l.lap ∧ (Lane.cutCycles f l).cfg = l.cfg := by
  unfold Lane.cutCycles
  refine Lane.forN_still _ _ (fun m l => ?_) l
  dsimp only
  repeat' split
  all_goals simp

@[simp] theorem Lane.acBlock_still (n t256 skip count : Nat) (l : Lane) :
    (Lane.acBlock n t256 skip count l).id = l.id ∧ (Lane.acBlock n t256 skip count l).lap = l.lap ∧ (Lane.acBlock n t256 skip count l).cfg = l.cfg := by
  unfold Lane.acBlock
  (try dsimp only)
  repeat' split
  all_goals simp

@[simp] theorem Lane.takePeriod_still (n start till : Nat) (l : Lane) :
    (Lane.takePeriod n start till l).id = l.id ∧ (Lane.takePeriod n start till l).lap = l.lap ∧ (Lane.takePeriod n start till l).cfg = l.cfg := by
  unfold Lane.takePeriod
  (try dsimp only)
  repeat' split
  all_goals simp

@[simp] theorem Lane.requarter_still (n : Nat) (l : Lane) :
    (Lane.requarter n l).id = l.id ∧ (Lane.requarter n l).lap = l.lap ∧ (Lane.requarter n l).cfg = l.cfg := by
  unfold Lane.requarter
  (try dsimp only)
  repeat' split
  all_goals simp

@[simp] theorem Lane.closePart_still (n : Nat) (l : Lane) :
    (Lane.closePart n l).id = l.id ∧ (Lane.closePart n l).lap = l.lap ∧ (Lane.closePart n l).cfg = l.cfg := by
  unfold Lane.closePart
  (try dsimp only)
  repeat' split
  all_goals simp

@[simp] theorem Lane.cycleEnd_still (n : Nat) (l : Lane) :
    (Lane.cycleEnd n l).id = l.id ∧ (Lane.cycleEnd n l).lap = l.lap ∧ (Lane.cycleEnd n l).cfg = l.cfg := by
  unfold Lane.cycleEnd
  (try dsimp only)
  repeat' split
  all_goals simp

@[simp] theorem Lane.fixedBlockEnd_still (n : Nat) (l : Lane)  :
    (Lane.fixedBlockEnd n l).id = l.id ∧ (Lane.fixedBlockEnd n l).lap = l.lap ∧ (Lane.fixedBlockEnd n l).cfg = l.cfg := by
  unfold Lane.fixedBlockEnd
  (try dsimp only)
  repeat' split
  all_goals simp

@[simp] theorem Lane.acPoints_still (n : Nat) (l : Lane)  :
    (Lane.acPoints n l).id = l.id ∧ (Lane.acPoints n l).lap = l.lap ∧ (Lane.acPoints n l).cfg = l.cfg := by
  unfold Lane.acPoints
  (try dsimp only)
  repeat' split
  all_goals simp

@[simp] theorem Lane.dcPoints_still (d : Nat) (l : Lane)  :
    (Lane.dcPoints d l).id = l.id ∧ (Lane.dcPoints d l).lap = l.lap ∧ (Lane.dcPoints d l).cfg = l.cfg := by
  unfold Lane.dcPoints
  (try dsimp only)
  repeat' split
  all_goals simp

@[simp] theorem Lane.meterEpochEnd_still (l : Lane)  :
    (Lane.meterEpochEnd l).id = l.id ∧ (Lane.meterEpochEnd l).lap = l.lap ∧ (Lane.meterEpochEnd l).cfg = l.cfg := by
  unfold Lane.meterEpochEnd
  (try dsimp only)
  repeat' split
  all_goals simp

@[simp] theorem Lane.evalComp_still (m : Nat) (l : Lane) :
    (Lane.evalComp m l).id = l.id ∧ (Lane.evalComp m l).lap = l.lap ∧ (Lane.evalComp m l).cfg = l.cfg := by
  unfold Lane.evalComp
  (try dsimp only)
  repeat' split
  all_goals simp

@[simp] theorem Lane.ntcRead_still (m milliOhm : Nat) (l : Lane) :
    (Lane.ntcRead m milliOhm l).id = l.id ∧ (Lane.ntcRead m milliOhm l).lap = l.lap ∧ (Lane.ntcRead m milliOhm l).cfg = l.cfg := by
  unfold Lane.ntcRead
  (try dsimp only)
  repeat' split
  all_goals simp

@[simp] theorem Lane.referenceCheck_still (points : Nat) (ppm : Int) (l : Lane) :
    (Lane.referenceCheck points ppm l).id = l.id ∧ (Lane.referenceCheck points ppm l).lap = l.lap ∧ (Lane.referenceCheck points ppm l).cfg = l.cfg := by
  unfold Lane.referenceCheck
  (try dsimp only)
  repeat' split
  all_goals simp

@[simp] theorem Lane.mpCrcCheck_still (crc : Nat) (same : Bool) (l : Lane)  :
    (Lane.mpCrcCheck crc same l).id = l.id ∧ (Lane.mpCrcCheck crc same l).lap = l.lap ∧ (Lane.mpCrcCheck crc same l).cfg = l.cfg := by
  unfold Lane.mpCrcCheck
  (try dsimp only)
  repeat' split
  all_goals simp

@[simp] theorem Lane.meterCompare_still (l : Lane) (holder : Lane)  :
    (Lane.meterCompare l holder).id = l.id ∧ (Lane.meterCompare l holder).lap = l.lap ∧ (Lane.meterCompare l holder).cfg = l.cfg := by
  unfold Lane.meterCompare
  (try dsimp only)
  repeat' split
  all_goals simp

@[simp] theorem Lane.setS0_still (l : Lane) (s : Nat) (x : S0St)  :
    (Lane.setS0 l s x).id = l.id ∧ (Lane.setS0 l s x).lap = l.lap ∧ (Lane.setS0 l s x).cfg = l.cfg := by
  unfold Lane.setS0
  (try dsimp only)
  repeat' split
  all_goals simp

@[simp] theorem Lane.s0Pulse_still (s onMs : Nat) (l : Lane)  :
    (Lane.s0Pulse s onMs l).id = l.id ∧ (Lane.s0Pulse s onMs l).lap = l.lap ∧ (Lane.s0Pulse s onMs l).cfg = l.cfg := by
  unfold Lane.s0Pulse
  (try dsimp only)
  repeat' split
  all_goals simp

@[simp] theorem Lane.s0Fault_still (s : Nat) (code : Int) (l : Lane)  :
    (Lane.s0Fault s code l).id = l.id ∧ (Lane.s0Fault s code l).lap = l.lap ∧ (Lane.s0Fault s code l).cfg = l.cfg := by
  unfold Lane.s0Fault
  (try dsimp only)
  repeat' split
  all_goals simp

@[simp] theorem Lane.s0Stuck_still (s onMs : Nat) (l : Lane)  :
    (Lane.s0Stuck s onMs l).id = l.id ∧ (Lane.s0Stuck s onMs l).lap = l.lap ∧ (Lane.s0Stuck s onMs l).cfg = l.cfg := by
  unfold Lane.s0Stuck
  (try dsimp only)
  repeat' split
  all_goals simp

@[simp] theorem Lane.s0Off_still (s : Nat) (l : Lane)  :
    (Lane.s0Off s l).id = l.id ∧ (Lane.s0Off s l).lap = l.lap ∧ (Lane.s0Off s l).cfg = l.cfg := by
  unfold Lane.s0Off
  (try dsimp only)
  repeat' split
  all_goals simp

@[simp] theorem Lane.s0Disagree_still (l : Lane) (other : Lane) (s : Nat)  :
    (Lane.s0Disagree l other s).id = l.id ∧ (Lane.s0Disagree l other s).lap = l.lap ∧ (Lane.s0Disagree l other s).cfg = l.cfg := by
  unfold Lane.s0Disagree
  (try dsimp only)
  repeat' split
  all_goals simp

@[simp] theorem Lane.pulseTick_still (u : Nat) (l : Lane)  :
    (Lane.pulseTick u l).id = l.id ∧ (Lane.pulseTick u l).lap = l.lap ∧ (Lane.pulseTick u l).cfg = l.cfg := by
  unfold Lane.pulseTick
  (try dsimp only)
  repeat' split
  all_goals simp

@[simp] theorem Lane.pulseEnd_still (u : Nat) (l : Lane)  :
    (Lane.pulseEnd u l).id = l.id ∧ (Lane.pulseEnd u l).lap = l.lap ∧ (Lane.pulseEnd u l).cfg = l.cfg := by
  unfold Lane.pulseEnd
  (try dsimp only)
  repeat' split
  all_goals simp

@[simp] theorem Lane.mirrorPulse_still (l : Lane) (holder : Lane) (u : Nat)  :
    (Lane.mirrorPulse l holder u).id = l.id ∧ (Lane.mirrorPulse l holder u).lap = l.lap ∧ (Lane.mirrorPulse l holder u).cfg = l.cfg := by
  unfold Lane.mirrorPulse
  (try dsimp only)
  repeat' split
  all_goals simp

@[simp] theorem Lane.s0Kept_still (l : Lane)  :
    (Lane.s0Kept l).id = l.id ∧ (Lane.s0Kept l).lap = l.lap ∧ (Lane.s0Kept l).cfg = l.cfg := by
  unfold Lane.s0Kept
  (try dsimp only)
  repeat' split
  all_goals simp

@[simp] theorem Lane.meterFresh_still (l : Lane) :
    (Lane.meterFresh l).id = l.id ∧ (Lane.meterFresh l).lap = l.lap ∧ (Lane.meterFresh l).cfg = l.cfg := by
  unfold Lane.meterFresh
  (try dsimp only)
  repeat' split
  all_goals simp

@[simp] theorem Lane.meterPowerUp_still (l : Lane) :
    (Lane.meterPowerUp l).id = l.id ∧ (Lane.meterPowerUp l).lap = l.lap ∧ (Lane.meterPowerUp l).cfg = l.cfg := by
  unfold Lane.meterPowerUp
  (try dsimp only)
  repeat' split
  all_goals simp

@[simp] theorem Lane.takeControl_still (l : Lane) (src : Lane)  :
    (Lane.takeControl l src).id = l.id ∧ (Lane.takeControl l src).lap = l.lap ∧ (Lane.takeControl l src).cfg = l.cfg := by
  unfold Lane.takeControl
  (try dsimp only)
  repeat' split
  all_goals simp

@[simp] theorem Lane.holderSample_still (l : Lane) (holder : Lane) (outlets : Nat)  :
    (Lane.holderSample l holder outlets).id = l.id ∧ (Lane.holderSample l holder outlets).lap = l.lap ∧ (Lane.holderSample l holder outlets).cfg = l.cfg := by
  unfold Lane.holderSample
  (try dsimp only)
  repeat' split
  all_goals simp

@[simp] theorem Lane.logOf_still (lane kind : Nat) (detail : List Int) (l : Lane) :
    (Lane.logOf lane kind detail l).id = l.id ∧ (Lane.logOf lane kind detail l).lap = l.lap ∧ (Lane.logOf lane kind detail l).cfg = l.cfg := by
  unfold Lane.logOf
  (try dsimp only)
  repeat' split
  all_goals simp

@[simp] theorem Lane.logEntry_still (kind : Nat) (detail : List Int) (l : Lane)  :
    (Lane.logEntry kind detail l).id = l.id ∧ (Lane.logEntry kind detail l).lap = l.lap ∧ (Lane.logEntry kind detail l).cfg = l.cfg := by
  unfold Lane.logEntry
  (try dsimp only)
  repeat' split
  all_goals simp

@[simp] theorem Lane.setOpenI_still (l : Lane) (m : Nat) (x : OpenInterval)  :
    (Lane.setOpenI l m x).id = l.id ∧ (Lane.setOpenI l m x).lap = l.lap ∧ (Lane.setOpenI l m x).cfg = l.cfg := by
  unfold Lane.setOpenI
  (try dsimp only)
  repeat' split
  all_goals simp

@[simp] theorem Lane.unflagAll_still (n : Nat) (l : Lane) :
    (Lane.unflagAll n l).id = l.id ∧ (Lane.unflagAll n l).lap = l.lap ∧ (Lane.unflagAll n l).cfg = l.cfg := by
  unfold Lane.unflagAll
  (try dsimp only)
  repeat' split
  all_goals simp

@[simp] theorem Lane.flagAll_still (bit : Nat) (l : Lane)  :
    (Lane.flagAll bit l).id = l.id ∧ (Lane.flagAll bit l).lap = l.lap ∧ (Lane.flagAll bit l).cfg = l.cfg := by
  unfold Lane.flagAll
  (try dsimp only)
  repeat' split
  all_goals simp

@[simp] theorem Lane.demands_still (m : Nat) (x : OpenInterval) (endMs : Int) (l : Lane)  :
    (Lane.demands m x endMs l).id = l.id ∧ (Lane.demands m x endMs l).lap = l.lap ∧ (Lane.demands m x endMs l).cfg = l.cfg := by
  unfold Lane.demands
  (try dsimp only)
  repeat' split
  all_goals simp

@[simp] theorem Lane.closePoint_still (endMs : Int) (fl : Nat) (start : Int) (len : Option Int) (m : Nat) (l : Lane) :
    (Lane.closePoint endMs fl start len m l).id = l.id ∧ (Lane.closePoint endMs fl start len m l).lap = l.lap ∧ (Lane.closePoint endMs fl start len m l).cfg = l.cfg := by
  unfold Lane.closePoint
  (try dsimp only)
  repeat' split
  all_goals simp

@[simp] theorem Lane.idlePoint_still (fl : Nat) (start : Int) (len : Option Int) (m : Nat) (l : Lane) :
    (Lane.idlePoint fl start len m l).id = l.id ∧ (Lane.idlePoint fl start len m l).lap = l.lap ∧ (Lane.idlePoint fl start len m l).cfg = l.cfg := by
  unfold Lane.idlePoint
  (try dsimp only)
  repeat' split
  all_goals simp

@[simp] theorem Lane.closePoints_still (endMs : Int) (fl : Nat) (start : Int) (len : Option Int) (l : Lane) :
    (Lane.closePoints endMs fl start len l).id = l.id ∧ (Lane.closePoints endMs fl start len l).lap = l.lap ∧ (Lane.closePoints endMs fl start len l).cfg = l.cfg := by
  unfold Lane.closePoints
  (try dsimp only)
  repeat' split
  all_goals simp

@[simp] theorem Lane.applyBoundary_still (wr : Bool) (fl : Nat) (l : Lane)  :
    (Lane.applyBoundary wr fl l).id = l.id ∧ (Lane.applyBoundary wr fl l).lap = l.lap ∧ (Lane.applyBoundary wr fl l).cfg = l.cfg := by
  unfold Lane.applyBoundary
  (try dsimp only)
  repeat' split
  all_goals simp

@[simp] theorem Lane.intervalClose_still (l : Lane)  :
    (Lane.intervalClose l).id = l.id ∧ (Lane.intervalClose l).lap = l.lap ∧ (Lane.intervalClose l).cfg = l.cfg := by
  unfold Lane.intervalClose
  (try dsimp only)
  repeat' split
  all_goals simp

@[simp] theorem Lane.clearDemand_still (l : Lane)  :
    (Lane.clearDemand l).id = l.id ∧ (Lane.clearDemand l).lap = l.lap ∧ (Lane.clearDemand l).cfg = l.cfg := by
  unfold Lane.clearDemand
  (try dsimp only)
  repeat' split
  all_goals simp

@[simp] theorem Lane.applyBilling_still (b : Int) (l : Lane)  :
    (Lane.applyBilling b l).id = l.id ∧ (Lane.applyBilling b l).lap = l.lap ∧ (Lane.applyBilling b l).cfg = l.cfg := by
  unfold Lane.applyBilling
  (try dsimp only)
  repeat' split
  all_goals simp

@[simp] theorem Lane.evalTariff_still (t : Int) (l : Lane)  :
    (Lane.evalTariff t l).id = l.id ∧ (Lane.evalTariff t l).lap = l.lap ∧ (Lane.evalTariff t l).cfg = l.cfg := by
  unfold Lane.evalTariff
  (try dsimp only)
  repeat' split
  all_goals simp

@[simp] theorem Lane.applyDue_still (upTo : Int) (fl f recs : Nat) (l : Lane) :
    (Lane.applyDue upTo fl f recs l).id = l.id ∧ (Lane.applyDue upTo fl f recs l).lap = l.lap
    ∧ (Lane.applyDue upTo fl f recs l).cfg = l.cfg := by
  induction f generalizing recs l with
  | zero => simp [Lane.applyDue]
  | succ f ih =>
    unfold Lane.applyDue
    dsimp only
    repeat' split
    all_goals simp [ih]

@[simp] theorem Lane.applyAll_still (upTo : Int) (fl recs : Nat) (l : Lane) :
    (Lane.applyAll upTo fl recs l).id = l.id ∧ (Lane.applyAll upTo fl recs l).lap = l.lap ∧ (Lane.applyAll upTo fl recs l).cfg = l.cfg := by
  unfold Lane.applyAll
  (try dsimp only)
  repeat' split
  all_goals simp

@[simp] theorem Lane.billingClose_still (l : Lane)  :
    (Lane.billingClose l).id = l.id ∧ (Lane.billingClose l).lap = l.lap ∧ (Lane.billingClose l).cfg = l.cfg := by
  unfold Lane.billingClose
  (try dsimp only)
  repeat' split
  all_goals simp

@[simp] theorem Lane.tariffEvaluation_still (l : Lane)  :
    (Lane.tariffEvaluation l).id = l.id ∧ (Lane.tariffEvaluation l).lap = l.lap ∧ (Lane.tariffEvaluation l).cfg = l.cfg := by
  unfold Lane.tariffEvaluation
  (try dsimp only)
  repeat' split
  all_goals simp

@[simp] theorem Lane.stepClock_still (t : Int) (recs : Nat) (l : Lane)  :
    (Lane.stepClock t recs l).id = l.id ∧ (Lane.stepClock t recs l).lap = l.lap ∧ (Lane.stepClock t recs l).cfg = l.cfg := by
  unfold Lane.stepClock
  (try dsimp only)
  repeat' split
  all_goals simp

@[simp] theorem Lane.clockSet_still (t : Int) (within : Bool) (l : Lane) :
    (Lane.clockSet t within l).id = l.id ∧ (Lane.clockSet t within l).lap = l.lap ∧ (Lane.clockSet t within l).cfg = l.cfg := by
  unfold Lane.clockSet
  (try dsimp only)
  repeat' split
  all_goals simp

@[simp] theorem Lane.clockAsk_still (delta : Int) (within : Bool) (l : Lane) :
    (Lane.clockAsk delta within l).id = l.id ∧ (Lane.clockAsk delta within l).lap = l.lap ∧ (Lane.clockAsk delta within l).cfg = l.cfg := by
  unfold Lane.clockAsk
  (try dsimp only)
  repeat' split
  all_goals simp

@[simp] theorem Lane.clockStep_still (l : Lane) :
    (Lane.clockStep l).id = l.id ∧ (Lane.clockStep l).lap = l.lap ∧ (Lane.clockStep l).cfg = l.cfg := by
  unfold Lane.clockStep
  (try dsimp only)
  repeat' split
  all_goals simp

@[simp] theorem Lane.clockDue_still (l : Lane) :
    (Lane.clockDue l).id = l.id ∧ (Lane.clockDue l).lap = l.lap ∧ (Lane.clockDue l).cfg = l.cfg := by
  unfold Lane.clockDue
  (try dsimp only)
  repeat' split
  all_goals simp

@[simp] theorem Lane.followClock_still (l : Lane) (holder : Lane) :
    (Lane.followClock l holder).id = l.id ∧ (Lane.followClock l holder).lap = l.lap ∧ (Lane.followClock l holder).cfg = l.cfg := by
  unfold Lane.followClock
  (try dsimp only)
  repeat' split
  all_goals simp

@[simp] theorem Lane.sealChange_still (opened : Bool) (l : Lane)  :
    (Lane.sealChange opened l).id = l.id ∧ (Lane.sealChange opened l).lap = l.lap ∧ (Lane.sealChange opened l).cfg = l.cfg := by
  unfold Lane.sealChange
  (try dsimp only)
  repeat' split
  all_goals simp

@[simp] theorem Lane.setTamper_still (l : Lane) (cause point : Nat) (x : TamperSt)  :
    (Lane.setTamper l cause point x).id = l.id ∧ (Lane.setTamper l cause point x).lap = l.lap ∧ (Lane.setTamper l cause point x).cfg = l.cfg := by
  unfold Lane.setTamper
  (try dsimp only)
  repeat' split
  all_goals simp

@[simp] theorem Lane.tamperScan_still (l : Lane)  :
    (Lane.tamperScan l).id = l.id ∧ (Lane.tamperScan l).lap = l.lap ∧ (Lane.tamperScan l).cfg = l.cfg := by
  unfold Lane.tamperScan
  (try dsimp only)
  repeat' split
  all_goals simp

@[simp] theorem Lane.showBlock_still (l : Lane)  :
    (Lane.showBlock l).id = l.id ∧ (Lane.showBlock l).lap = l.lap ∧ (Lane.showBlock l).cfg = l.cfg := by
  unfold Lane.showBlock
  (try dsimp only)
  repeat' split
  all_goals simp

@[simp] theorem Lane.writeTamper_still (cause point : Nat) (values : List Int) (l : Lane) :
    (Lane.writeTamper cause point values l).id = l.id ∧ (Lane.writeTamper cause point values l).lap = l.lap ∧ (Lane.writeTamper cause point values l).cfg = l.cfg := by
  unfold Lane.writeTamper
  (try dsimp only)
  repeat' split
  all_goals simp

@[simp] theorem Lane.tamperRecord_still (cause point clearMs : Nat) (values : List Int) (l : Lane)  :
    (Lane.tamperRecord cause point clearMs values l).id = l.id ∧ (Lane.tamperRecord cause point clearMs values l).lap = l.lap ∧ (Lane.tamperRecord cause point clearMs values l).cfg = l.cfg := by
  unfold Lane.tamperRecord
  (try dsimp only)
  repeat' split
  all_goals simp

@[simp] theorem Lane.tamperAck_still (n ring : Nat) (l : Lane)  :
    (Lane.tamperAck n ring l).id = l.id ∧ (Lane.tamperAck n ring l).lap = l.lap ∧ (Lane.tamperAck n ring l).cfg = l.cfg := by
  unfold Lane.tamperAck
  (try dsimp only)
  repeat' split
  all_goals simp

@[simp] theorem Lane.meterLoss_still (l : Lane)  :
    (Lane.meterLoss l).id = l.id ∧ (Lane.meterLoss l).lap = l.lap ∧ (Lane.meterLoss l).cfg = l.cfg := by
  unfold Lane.meterLoss
  (try dsimp only)
  repeat' split
  all_goals simp

@[simp] theorem Lane.putRegs_still (regs : UMap Int) (l : Lane)  :
    (Lane.putRegs regs l).id = l.id ∧ (Lane.putRegs regs l).lap = l.lap ∧ (Lane.putRegs regs l).cfg = l.cfg := by
  unfold Lane.putRegs
  (try dsimp only)
  repeat' split
  all_goals simp

@[simp] theorem Lane.epochRestore_still (c : Option StoreCopy) (adv : Nat) (l : Lane) :
    (Lane.epochRestore c adv l).id = l.id ∧ (Lane.epochRestore c adv l).lap = l.lap ∧ (Lane.epochRestore c adv l).cfg = l.cfg := by
  unfold Lane.epochRestore
  (try dsimp only)
  repeat' split
  all_goals simp

@[simp] theorem Lane.replay_still (t0 start : Nat) (x : Latch) (l : Lane) :
    (Lane.replay t0 start x l).id = l.id ∧ (Lane.replay t0 start x l).lap = l.lap ∧ (Lane.replay t0 start x l).cfg = l.cfg := by
  unfold Lane.replay
  (try dsimp only)
  repeat' split
  all_goals simp

@[simp] theorem Lane.replayAll_still (t0 : Nat) (l : Lane) :
    (Lane.replayAll t0 l).id = l.id ∧ (Lane.replayAll t0 l).lap = l.lap ∧ (Lane.replayAll t0 l).cfg = l.cfg := by
  unfold Lane.replayAll
  (try dsimp only)
  repeat' split
  all_goals simp

@[simp] theorem Lane.storeBack_still (c : Option StoreCopy) (l : Lane) :
    (Lane.storeBack c l).id = l.id ∧ (Lane.storeBack c l).lap = l.lap ∧ (Lane.storeBack c l).cfg = l.cfg := by
  unfold Lane.storeBack
  (try dsimp only)
  repeat' split
  all_goals simp

@[simp] theorem Lane.meterRestore_still (ms : Nat) (clockOk ok0 ok1 held : Bool) (l : Lane)  :
    (Lane.meterRestore ms clockOk ok0 ok1 held l).id = l.id ∧ (Lane.meterRestore ms clockOk ok0 ok1 held l).lap = l.lap ∧ (Lane.meterRestore ms clockOk ok0 ok1 held l).cfg = l.cfg := by
  unfold Lane.meterRestore
  split
  · simp
  · extract_lets back l1 c l2 l3 l4 l5 l6 l7
    have hb : ∀ l : Lane, (back l).id = l.id ∧ (back l).lap = l.lap ∧ (back l).cfg = l.cfg := by intro l; simp [back]
    have h1 : l1.id = l.id ∧ l1.lap = l.lap ∧ l1.cfg = l.cfg := by simp [l1, hb]
    have h2 : l2.id = l.id ∧ l2.lap = l.lap ∧ l2.cfg = l.cfg := by simp [l2, hb]
    clear_value back l1 l2
    have h3 : l3.id = l.id ∧ l3.lap = l.lap ∧ l3.cfg = l.cfg := by simp only [l3]; split <;> simp [h2]
    clear_value l3
    have h5 : l5.id = l.id ∧ l5.lap = l.lap ∧ l5.cfg = l.cfg := by
      simp only [l5, l4]; split <;> simp [h3]
    clear_value l5
    have h7 : l7.id = l.id ∧ l7.lap = l.lap ∧ l7.cfg = l.cfg := by
      simp only [l7, l6]; split <;> simp [h5]
    clear_value l7
    repeat' split
    all_goals simp [h1, h5, h7]

@[simp] theorem Lane.contact_still (x : Latch) (l : Lane) :
    (Lane.contact x l).id = l.id ∧ (Lane.contact x l).lap = l.lap ∧ (Lane.contact x l).cfg = l.cfg := by
  unfold Lane.contact
  (try dsimp only)
  repeat' split
  all_goals simp

@[simp] theorem Lane.adopt_still (l : Lane) (holder : Lane)  :
    (Lane.adopt l holder).id = l.id ∧ (Lane.adopt l holder).lap = l.lap ∧ (Lane.adopt l holder).cfg = l.cfg := by
  unfold Lane.adopt
  split
  · simp
  · refine Lane.forL_still _ _ (fun m l => ?_) l
    split
    · simp
    · rename_i r _
      have h1 : ∀ (hb mine : UMap Int), ((quantities m).foldl (fun (l : Lane) q => (List.range 9).foldl (fun (l : Lane) t =>
          let d := UMap.get (fun _ => 0) hb (regAddr m q t) - UMap.get (fun _ => 0) mine (regAddr m q t)
          if d = 0 then l else l.addReg m q t d) l) l).id = l.id
          ∧ ((quantities m).foldl (fun (l : Lane) q => (List.range 9).foldl (fun (l : Lane) t =>
          let d := UMap.get (fun _ => 0) hb (regAddr m q t) - UMap.get (fun _ => 0) mine (regAddr m q t)
          if d = 0 then l else l.addReg m q t d) l) l).lap = l.lap
          ∧ ((quantities m).foldl (fun (l : Lane) q => (List.range 9).foldl (fun (l : Lane) t =>
          let d := UMap.get (fun _ => 0) hb (regAddr m q t) - UMap.get (fun _ => 0) mine (regAddr m q t)
          if d = 0 then l else l.addReg m q t d) l) l).cfg = l.cfg := by
        intro hb mine
        refine Lane.foldl_still _ _ (fun l q => Lane.foldl_still _ _ (fun l t => ?_) l) l
        simp only []
        split <;> simp
      have h := h1 (holder.openI m).base (l.openI m).base
      dsimp only at h ⊢
      repeat' split
      all_goals simp [h]

@[simp] theorem Lane.copyMetrology_still (l : Lane) (holder : Lane)  :
    (Lane.copyMetrology l holder).id = l.id ∧ (Lane.copyMetrology l holder).lap = l.lap ∧ (Lane.copyMetrology l holder).cfg = l.cfg := by
  unfold Lane.copyMetrology
  (try dsimp only)
  repeat' split
  all_goals simp

@[simp] theorem Lane.sessionOpen_still (o : Nat) (l : Lane)  :
    (Lane.sessionOpen o l).id = l.id ∧ (Lane.sessionOpen o l).lap = l.lap ∧ (Lane.sessionOpen o l).cfg = l.cfg := by
  unfold Lane.sessionOpen
  (try dsimp only)
  repeat' split
  all_goals simp

@[simp] theorem Lane.sessionClose_still (o : Nat) (l : Lane)  :
    (Lane.sessionClose o l).id = l.id ∧ (Lane.sessionClose o l).lap = l.lap ∧ (Lane.sessionClose o l).cfg = l.cfg := by
  unfold Lane.sessionClose
  (try dsimp only)
  repeat' split
  all_goals simp

@[simp] theorem Lane.signRecord_still (o : Nat) (l : Lane)  :
    (Lane.signRecord o l).id = l.id ∧ (Lane.signRecord o l).lap = l.lap ∧ (Lane.signRecord o l).cfg = l.cfg := by
  unfold Lane.signRecord
  (try dsimp only)
  repeat' split
  all_goals simp

@[simp] theorem Lane.takeRecord_still (l : Lane) (holder : Lane) (n : Nat)  :
    (Lane.takeRecord l holder n).id = l.id ∧ (Lane.takeRecord l holder n).lap = l.lap ∧ (Lane.takeRecord l holder n).cfg = l.cfg := by
  unfold Lane.takeRecord
  (try dsimp only)
  repeat' split
  all_goals simp

@[simp] theorem Lane.signOwed_still (l : Lane)  :
    (Lane.signOwed l).id = l.id ∧ (Lane.signOwed l).lap = l.lap ∧ (Lane.signOwed l).cfg = l.cfg := by
  unfold Lane.signOwed
  (try dsimp only)
  repeat' split
  all_goals simp

@[simp] theorem Lane.displayScroll_still (l : Lane)  :
    (Lane.displayScroll l).id = l.id ∧ (Lane.displayScroll l).lap = l.lap ∧ (Lane.displayScroll l).cfg = l.cfg := by
  unfold Lane.displayScroll
  (try dsimp only)
  repeat' split
  all_goals simp

@[simp] theorem Lane.outEvent_still (o : Nat) (l : Lane)  :
    (Lane.outEvent o l).id = l.id ∧ (Lane.outEvent o l).lap = l.lap ∧ (Lane.outEvent o l).cfg = l.cfg := by
  unfold Lane.outEvent
  (try dsimp only)
  repeat' split
  all_goals simp

@[simp] theorem Lane.rampStart_still (o : Nat) (l : Lane)  :
    (Lane.rampStart o l).id = l.id ∧ (Lane.rampStart o l).lap = l.lap ∧ (Lane.rampStart o l).cfg = l.cfg := by
  unfold Lane.rampStart
  (try dsimp only)
  repeat' split
  all_goals simp

@[simp] theorem Lane.unlatch_still (o : Nat) (l : Lane)  :
    (Lane.unlatch o l).id = l.id ∧ (Lane.unlatch o l).lap = l.lap ∧ (Lane.unlatch o l).cfg = l.cfg := by
  unfold Lane.unlatch
  (try dsimp only)
  repeat' split
  all_goals simp

@[simp] theorem Lane.reblock_still (o : Nat) (l : Lane)  :
    (Lane.reblock o l).id = l.id ∧ (Lane.reblock o l).lap = l.lap ∧ (Lane.reblock o l).cfg = l.cfg := by
  unfold Lane.reblock
  (try dsimp only)
  repeat' split
  all_goals simp

@[simp] theorem Lane.holdMet_still (o n : Nat) (l : Lane)  :
    (Lane.holdMet o n l).id = l.id ∧ (Lane.holdMet o n l).lap = l.lap ∧ (Lane.holdMet o n l).cfg = l.cfg := by
  unfold Lane.holdMet
  (try dsimp only)
  repeat' split
  all_goals simp

@[simp] theorem Lane.recordFault_still (o code : Nat) (l : Lane)  :
    (Lane.recordFault o code l).id = l.id ∧ (Lane.recordFault o code l).lap = l.lap ∧ (Lane.recordFault o code l).cfg = l.cfg := by
  unfold Lane.recordFault
  (try dsimp only)
  repeat' split
  all_goals simp

@[simp] theorem Lane.sessionStart_still (o : Nat) (l : Lane)  :
    (Lane.sessionStart o l).id = l.id ∧ (Lane.sessionStart o l).lap = l.lap ∧ (Lane.sessionStart o l).cfg = l.cfg := by
  unfold Lane.sessionStart
  (try dsimp only)
  repeat' split
  all_goals simp

@[simp] theorem Lane.stepAction_still (o : Nat) (s : Int) (l : Lane)  :
    (Lane.stepAction o s l).id = l.id ∧ (Lane.stepAction o s l).lap = l.lap ∧ (Lane.stepAction o s l).cfg = l.cfg := by
  unfold Lane.stepAction
  (try dsimp only)
  repeat' split
  all_goals simp

@[simp] theorem Lane.enterStep_still (o : Nat) (s : Int) (l : Lane)  :
    (Lane.enterStep o s l).id = l.id ∧ (Lane.enterStep o s l).lap = l.lap ∧ (Lane.enterStep o s l).cfg = l.cfg := by
  unfold Lane.enterStep
  (try dsimp only)
  repeat' split
  all_goals simp

@[simp] theorem Lane.openContactors_still (o : Nat) (l : Lane) :
    (Lane.openContactors o l).id = l.id ∧ (Lane.openContactors o l).lap = l.lap ∧ (Lane.openContactors o l).cfg = l.cfg := by
  unfold Lane.openContactors
  (try dsimp only)
  repeat' split
  all_goals simp

@[simp] theorem Lane.openIfSafe_still (o : Nat) (l : Lane) :
    (Lane.openIfSafe o l).id = l.id ∧ (Lane.openIfSafe o l).lap = l.lap ∧ (Lane.openIfSafe o l).cfg = l.cfg := by
  unfold Lane.openIfSafe
  (try dsimp only)
  repeat' split
  all_goals simp

@[simp] theorem Lane.stopSession_still (o : Nat) (l : Lane)  :
    (Lane.stopSession o l).id = l.id ∧ (Lane.stopSession o l).lap = l.lap ∧ (Lane.stopSession o l).cfg = l.cfg := by
  unfold Lane.stopSession
  (try dsimp only)
  repeat' split
  all_goals simp

@[simp] theorem Lane.outletFault_still (o code : Nat) (l : Lane)  :
    (Lane.outletFault o code l).id = l.id ∧ (Lane.outletFault o code l).lap = l.lap ∧ (Lane.outletFault o code l).cfg = l.cfg := by
  unfold Lane.outletFault
  (try dsimp only)
  repeat' split
  all_goals simp

@[simp] theorem Lane.outletOff_still (o : Nat) (l : Lane)  :
    (Lane.outletOff o l).id = l.id ∧ (Lane.outletOff o l).lap = l.lap ∧ (Lane.outletOff o l).cfg = l.cfg := by
  unfold Lane.outletOff
  (try dsimp only)
  repeat' split
  all_goals simp

@[simp] theorem Lane.tripSession_still (o code : Nat) (l : Lane)  :
    (Lane.tripSession o code l).id = l.id ∧ (Lane.tripSession o code l).lap = l.lap ∧ (Lane.tripSession o code l).cfg = l.cfg := by
  unfold Lane.tripSession
  (try dsimp only)
  repeat' split
  all_goals simp

@[simp] theorem Lane.advance_still (o : Nat) (l : Lane)  :
    (Lane.advance o l).id = l.id ∧ (Lane.advance o l).lap = l.lap ∧ (Lane.advance o l).cfg = l.cfg := by
  unfold Lane.advance
  (try dsimp only)
  repeat' split
  all_goals simp

@[simp] theorem Lane.sessionTimers_still (o : Nat) (l : Lane)  :
    (Lane.sessionTimers o l).id = l.id ∧ (Lane.sessionTimers o l).lap = l.lap ∧ (Lane.sessionTimers o l).cfg = l.cfg := by
  unfold Lane.sessionTimers
  (try dsimp only)
  repeat' split
  all_goals simp

@[simp] theorem Lane.coolHold_still (o : Nat) (l : Lane)  :
    (Lane.coolHold o l).id = l.id ∧ (Lane.coolHold o l).lap = l.lap ∧ (Lane.coolHold o l).cfg = l.cfg := by
  unfold Lane.coolHold
  (try dsimp only)
  repeat' split
  all_goals simp

@[simp] theorem Lane.dropSession_still (o : Nat) (l : Lane)  :
    (Lane.dropSession o l).id = l.id ∧ (Lane.dropSession o l).lap = l.lap ∧ (Lane.dropSession o l).cfg = l.cfg := by
  unfold Lane.dropSession
  (try dsimp only)
  repeat' split
  all_goals simp

@[simp] theorem Lane.linkLap_still (o : Nat) (alone : Bool) (l : Lane) :
    (Lane.linkLap o alone l).id = l.id ∧ (Lane.linkLap o alone l).lap = l.lap ∧ (Lane.linkLap o alone l).cfg = l.cfg := by
  unfold Lane.linkLap
  (try dsimp only)
  repeat' split
  all_goals simp

@[simp] theorem Lane.sessionLap_still (outlets : Nat) (alone : Bool) (l : Lane) :
    (Lane.sessionLap outlets alone l).id = l.id ∧ (Lane.sessionLap outlets alone l).lap = l.lap ∧ (Lane.sessionLap outlets alone l).cfg = l.cfg := by
  unfold Lane.sessionLap
  (try dsimp only)
  repeat' split
  all_goals simp

@[simp] theorem Lane.proxTake_still (o : Nat) (band : Int) (l : Lane) :
    (Lane.proxTake o band l).id = l.id ∧ (Lane.proxTake o band l).lap = l.lap ∧ (Lane.proxTake o band l).cfg = l.cfg := by
  unfold Lane.proxTake
  (try dsimp only)
  repeat' split
  all_goals simp

@[simp] theorem Lane.proxKept_still (o lineMv : Nat) (l : Lane) :
    (Lane.proxKept o lineMv l).id = l.id ∧ (Lane.proxKept o lineMv l).lap = l.lap ∧ (Lane.proxKept o lineMv l).cfg = l.cfg := by
  unfold Lane.proxKept
  (try dsimp only)
  repeat' split
  all_goals simp

@[simp] theorem Lane.proxChange_still (o : Nat) (band : Int) (l : Lane)  :
    (Lane.proxChange o band l).id = l.id ∧ (Lane.proxChange o band l).lap = l.lap ∧ (Lane.proxChange o band l).cfg = l.cfg := by
  unfold Lane.proxChange
  (try dsimp only)
  repeat' split
  all_goals simp

@[simp] theorem Lane.plugCycle_still (o : Nat) (l : Lane)  :
    (Lane.plugCycle o l).id = l.id ∧ (Lane.plugCycle o l).lap = l.lap ∧ (Lane.plugCycle o l).cfg = l.cfg := by
  unfold Lane.plugCycle
  (try dsimp only)
  repeat' split
  all_goals simp

@[simp] theorem Lane.plugKept_still (o : Nat) (l : Lane) :
    (Lane.plugKept o l).id = l.id ∧ (Lane.plugKept o l).lap = l.lap ∧ (Lane.plugKept o l).cfg = l.cfg := by
  unfold Lane.plugKept
  (try dsimp only)
  repeat' split
  all_goals simp

@[simp] theorem Lane.latchChange_still (o : Nat) (st : Int) (l : Lane)  :
    (Lane.latchChange o st l).id = l.id ∧ (Lane.latchChange o st l).lap = l.lap ∧ (Lane.latchChange o st l).cfg = l.cfg := by
  unfold Lane.latchChange
  (try dsimp only)
  repeat' split
  all_goals simp

@[simp] theorem Lane.contactorChange_still (o : Nat) (plus minus : ContactorFb) (l : Lane) :
    (Lane.contactorChange o plus minus l).id = l.id ∧ (Lane.contactorChange o plus minus l).lap = l.lap ∧ (Lane.contactorChange o plus minus l).cfg = l.cfg := by
  unfold Lane.contactorChange
  (try dsimp only)
  repeat' split
  all_goals simp

@[simp] theorem Lane.respond_still (o msg code : Nat) (data : List Int) (g : Bool) (l : Lane)  :
    (Lane.respond o msg code data g l).id = l.id ∧ (Lane.respond o msg code data g l).lap = l.lap ∧ (Lane.respond o msg code data g l).cfg = l.cfg := by
  unfold Lane.respond
  (try dsimp only)
  repeat' split
  all_goals simp

@[simp] theorem Lane.unexpected_still (o msg : Nat) (g : Bool) (l : Lane)  :
    (Lane.unexpected o msg g l).id = l.id ∧ (Lane.unexpected o msg g l).lap = l.lap ∧ (Lane.unexpected o msg g l).cfg = l.cfg := by
  unfold Lane.unexpected
  (try dsimp only)
  repeat' split
  all_goals simp

@[simp] theorem Lane.request_still (o msg : Nat) (g : Bool) (expected : Bool) (f : Lane → Lane) (l : Lane) (hf : ∀ l : Lane, (f l).id = l.id ∧ (f l).lap = l.lap ∧ (f l).cfg = l.cfg) :
    (Lane.request o msg g expected f l).id = l.id ∧ (Lane.request o msg g expected f l).lap = l.lap ∧ (Lane.request o msg g expected f l).cfg = l.cfg := by
  unfold Lane.request
  dsimp only
  repeat' split
  all_goals simp [hf]

@[simp] theorem Lane.sdp_still (o : Nat) (g : Bool) (l : Lane)  :
    (Lane.sdp o g l).id = l.id ∧ (Lane.sdp o g l).lap = l.lap ∧ (Lane.sdp o g l).cfg = l.cfg := by
  unfold Lane.sdp
  (try dsimp only)
  repeat' split
  all_goals simp

@[simp] theorem Lane.clientHello_still (o : Nat) (suites groups schemes : List Nat) (draws : SessionDraws) (g : Bool) (l : Lane) :
    (Lane.clientHello o suites groups schemes draws g l).id = l.id ∧ (Lane.clientHello o suites groups schemes draws g l).lap = l.lap ∧ (Lane.clientHello o suites groups schemes draws g l).cfg = l.cfg := by
  unfold Lane.clientHello
  (try dsimp only)
  repeat' split
  all_goals simp

@[simp] theorem Lane.handshakeTimeout_still (o : Nat) (l : Lane)  :
    (Lane.handshakeTimeout o l).id = l.id ∧ (Lane.handshakeTimeout o l).lap = l.lap ∧ (Lane.handshakeTimeout o l).cfg = l.cfg := by
  unfold Lane.handshakeTimeout
  (try dsimp only)
  repeat' split
  all_goals simp

@[simp] theorem Lane.mirrorRandoms_still (l : Lane) (holder : Lane) (o : Nat)  :
    (Lane.mirrorRandoms l holder o).id = l.id ∧ (Lane.mirrorRandoms l holder o).lap = l.lap ∧ (Lane.mirrorRandoms l holder o).cfg = l.cfg := by
  unfold Lane.mirrorRandoms
  (try dsimp only)
  repeat' split
  all_goals simp

@[simp] theorem Lane.mirrorDone_still (o : Nat) (l : Lane) :
    (Lane.mirrorDone o l).id = l.id ∧ (Lane.mirrorDone o l).lap = l.lap ∧ (Lane.mirrorDone o l).cfg = l.cfg := by
  unfold Lane.mirrorDone
  (try dsimp only)
  repeat' split
  all_goals simp

@[simp] theorem Lane.segmentFrame_still (o : Nat) (fromVehicle : Bool) (seq len secret : Nat) (done : Bool) (l : Lane)  :
    (Lane.segmentFrame o fromVehicle seq len secret done l).id = l.id ∧ (Lane.segmentFrame o fromVehicle seq len secret done l).lap = l.lap ∧ (Lane.segmentFrame o fromVehicle seq len secret done l).cfg = l.cfg := by
  unfold Lane.segmentFrame
  (try dsimp only)
  repeat' split
  all_goals simp

@[simp] theorem Lane.appProtocol_still (o : Nat) (offers : List AppProtocol) (g : Bool) (l : Lane) :
    (Lane.appProtocol o offers g l).id = l.id ∧ (Lane.appProtocol o offers g l).lap = l.lap ∧ (Lane.appProtocol o offers g l).cfg = l.cfg := by
  unfold Lane.appProtocol
  (try dsimp only)
  repeat' split
  all_goals simp

@[simp] theorem Lane.sessionSetup_still (o evccid id : Nat) (g : Bool) (l : Lane)  :
    (Lane.sessionSetup o evccid id g l).id = l.id ∧ (Lane.sessionSetup o evccid id g l).lap = l.lap ∧ (Lane.sessionSetup o evccid id g l).cfg = l.cfg := by
  unfold Lane.sessionSetup
  (try dsimp only)
  repeat' split
  all_goals simp

@[simp] theorem Lane.authSetup_still (o : Nat) (g : Bool) (l : Lane)  :
    (Lane.authSetup o g l).id = l.id ∧ (Lane.authSetup o g l).lap = l.lap ∧ (Lane.authSetup o g l).cfg = l.cfg := by
  unfold Lane.authSetup
  (try dsimp only)
  repeat' split
  all_goals simp

@[simp] theorem Lane.authRefused_still (o msg : Nat) (g : Bool) (l : Lane)  :
    (Lane.authRefused o msg g l).id = l.id ∧ (Lane.authRefused o msg g l).lap = l.lap ∧ (Lane.authRefused o msg g l).cfg = l.cfg := by
  unfold Lane.authRefused
  (try dsimp only)
  repeat' split
  all_goals simp

@[simp] theorem Lane.askAnchor_still (o : Nat) (l : Lane)  :
    (Lane.askAnchor o l).1.id = l.id ∧ (Lane.askAnchor o l).1.lap = l.lap ∧ (Lane.askAnchor o l).1.cfg = l.cfg := by
  unfold Lane.askAnchor
  exact pairFold_still _ _ (fun a x => by split <;> simp) _

@[simp] theorem Lane.authorization_still (o mode : Nat) (chainOk : Bool) (contract : List Nat) (g : Bool) (l : Lane)  :
    (Lane.authorization o mode chainOk contract g l).id = l.id ∧ (Lane.authorization o mode chainOk contract g l).lap = l.lap ∧ (Lane.authorization o mode chainOk contract g l).cfg = l.cfg := by
  unfold Lane.authorization
  refine Lane.request_still _ _ _ _ _ _ ?_
  intro l
  (try dsimp only)
  repeat' split
  all_goals simp

@[simp] theorem Lane.serviceDiscovery_still (o : Nat) (g : Bool) (l : Lane)  :
    (Lane.serviceDiscovery o g l).id = l.id ∧ (Lane.serviceDiscovery o g l).lap = l.lap ∧ (Lane.serviceDiscovery o g l).cfg = l.cfg := by
  unfold Lane.serviceDiscovery
  (try dsimp only)
  repeat' split
  all_goals simp

@[simp] theorem Lane.serviceDetail_still (o : Nat) (g : Bool) (l : Lane)  :
    (Lane.serviceDetail o g l).id = l.id ∧ (Lane.serviceDetail o g l).lap = l.lap ∧ (Lane.serviceDetail o g l).cfg = l.cfg := by
  unfold Lane.serviceDetail
  (try dsimp only)
  repeat' split
  all_goals simp

@[simp] theorem Lane.serviceSelection_still (o service mode : Nat) (valueAdded : List Nat) (g : Bool) (l : Lane) :
    (Lane.serviceSelection o service mode valueAdded g l).id = l.id ∧ (Lane.serviceSelection o service mode valueAdded g l).lap = l.lap ∧ (Lane.serviceSelection o service mode valueAdded g l).cfg = l.cfg := by
  unfold Lane.serviceSelection
  (try dsimp only)
  repeat' split
  all_goals simp

@[simp] theorem Lane.takeVMax_still (o : Nat) (vMax : Nat) (l : Lane)  :
    (Lane.takeVMax o vMax l).id = l.id ∧ (Lane.takeVMax o vMax l).lap = l.lap ∧ (Lane.takeVMax o vMax l).cfg = l.cfg := by
  unfold Lane.takeVMax
  (try dsimp only)
  repeat' split
  all_goals simp

@[simp] theorem Lane.chargeParameters_still (o vMax iMax pMax : Nat) (g : Bool) (l : Lane)  :
    (Lane.chargeParameters o vMax iMax pMax g l).id = l.id ∧ (Lane.chargeParameters o vMax iMax pMax g l).lap = l.lap ∧ (Lane.chargeParameters o vMax iMax pMax g l).cfg = l.cfg := by
  unfold Lane.chargeParameters
  (try dsimp only)
  repeat' split
  all_goals simp

@[simp] theorem Lane.scheduleExchange_still (o : Nat) (g : Bool) (l : Lane)  :
    (Lane.scheduleExchange o g l).id = l.id ∧ (Lane.scheduleExchange o g l).lap = l.lap ∧ (Lane.scheduleExchange o g l).cfg = l.cfg := by
  unfold Lane.scheduleExchange
  (try dsimp only)
  repeat' split
  all_goals simp

@[simp] theorem Lane.cableCheck_still (o : Nat) (g : Bool) (l : Lane)  :
    (Lane.cableCheck o g l).id = l.id ∧ (Lane.cableCheck o g l).lap = l.lap ∧ (Lane.cableCheck o g l).cfg = l.cfg := by
  unfold Lane.cableCheck
  (try dsimp only)
  repeat' split
  all_goals simp

@[simp] theorem Lane.preCharge_still (o target : Nat) (g : Bool) (l : Lane)  :
    (Lane.preCharge o target g l).id = l.id ∧ (Lane.preCharge o target g l).lap = l.lap ∧ (Lane.preCharge o target g l).cfg = l.cfg := by
  unfold Lane.preCharge
  (try dsimp only)
  repeat' split
  all_goals simp

@[simp] theorem Lane.powerDelivery_still (o kind : Nat) (g : Bool) (l : Lane)  :
    (Lane.powerDelivery o kind g l).id = l.id ∧ (Lane.powerDelivery o kind g l).lap = l.lap ∧ (Lane.powerDelivery o kind g l).cfg = l.cfg := by
  unfold Lane.powerDelivery
  (try dsimp only)
  repeat' split
  all_goals simp

@[simp] theorem Lane.chargeLoop_still (o iTarget iMax pMax vTarget vMax : Nat) (g : Bool) (l : Lane)  :
    (Lane.chargeLoop o iTarget iMax pMax vTarget vMax g l).id = l.id ∧ (Lane.chargeLoop o iTarget iMax pMax vTarget vMax g l).lap = l.lap ∧ (Lane.chargeLoop o iTarget iMax pMax vTarget vMax g l).cfg = l.cfg := by
  unfold Lane.chargeLoop
  (try dsimp only)
  repeat' split
  all_goals simp

@[simp] theorem Lane.weldingDetection_still (o : Nat) (g : Bool) (l : Lane)  :
    (Lane.weldingDetection o g l).id = l.id ∧ (Lane.weldingDetection o g l).lap = l.lap ∧ (Lane.weldingDetection o g l).cfg = l.cfg := by
  unfold Lane.weldingDetection
  (try dsimp only)
  repeat' split
  all_goals simp

@[simp] theorem Lane.closeTls_still (o : Nat) (l : Lane) :
    (Lane.closeTls o l).id = l.id ∧ (Lane.closeTls o l).lap = l.lap ∧ (Lane.closeTls o l).cfg = l.cfg := by
  unfold Lane.closeTls
  (try dsimp only)
  repeat' split
  all_goals simp

@[simp] theorem Lane.sessionStopReq_still (o : Nat) (g : Bool) (l : Lane)  :
    (Lane.sessionStopReq o g l).id = l.id ∧ (Lane.sessionStopReq o g l).lap = l.lap ∧ (Lane.sessionStopReq o g l).cfg = l.cfg := by
  unfold Lane.sessionStopReq
  (try dsimp only)
  repeat' split
  all_goals simp

@[simp] theorem Lane.stepExpiry_still (o : Nat) (l : Lane)  :
    (Lane.stepExpiry o l).id = l.id ∧ (Lane.stepExpiry o l).lap = l.lap ∧ (Lane.stepExpiry o l).cfg = l.cfg := by
  unfold Lane.stepExpiry
  (try dsimp only)
  repeat' split
  all_goals simp

@[simp] theorem Lane.coolNotReady_still (o : Nat) (l : Lane)  :
    (Lane.coolNotReady o l).id = l.id ∧ (Lane.coolNotReady o l).lap = l.lap ∧ (Lane.coolNotReady o l).cfg = l.cfg := by
  unfold Lane.coolNotReady
  (try dsimp only)
  repeat' split
  all_goals simp

@[simp] theorem Lane.isolationPass_still (o : Nat) (l : Lane)  :
    (Lane.isolationPass o l).id = l.id ∧ (Lane.isolationPass o l).lap = l.lap ∧ (Lane.isolationPass o l).cfg = l.cfg := by
  unfold Lane.isolationPass
  (try dsimp only)
  repeat' split
  all_goals simp

@[simp] theorem Lane.prechargeReached_still (o : Nat) (l : Lane)  :
    (Lane.prechargeReached o l).id = l.id ∧ (Lane.prechargeReached o l).lap = l.lap ∧ (Lane.prechargeReached o l).cfg = l.cfg := by
  unfold Lane.prechargeReached
  (try dsimp only)
  repeat' split
  all_goals simp

@[simp] theorem Lane.prechargeShort_still (o : Nat) (l : Lane)  :
    (Lane.prechargeShort o l).id = l.id ∧ (Lane.prechargeShort o l).lap = l.lap ∧ (Lane.prechargeShort o l).cfg = l.cfg := by
  unfold Lane.prechargeShort
  (try dsimp only)
  repeat' split
  all_goals simp

@[simp] theorem Lane.rampdownComplete_still (o : Nat) (g : Bool) (l : Lane)  :
    (Lane.rampdownComplete o g l).id = l.id ∧ (Lane.rampdownComplete o g l).lap = l.lap ∧ (Lane.rampdownComplete o g l).cfg = l.cfg := by
  unfold Lane.rampdownComplete
  (try dsimp only)
  repeat' split
  all_goals simp

@[simp] theorem Lane.discharged_still (o : Nat) (l : Lane) :
    (Lane.discharged o l).id = l.id ∧ (Lane.discharged o l).lap = l.lap ∧ (Lane.discharged o l).cfg = l.cfg := by
  unfold Lane.discharged
  (try dsimp only)
  repeat' split
  all_goals simp

@[simp] theorem Lane.dischargeComplete_still (o : Nat) (l0 : Lane) :
    (Lane.dischargeComplete o l0).id = l0.id ∧ (Lane.dischargeComplete o l0).lap = l0.lap ∧ (Lane.dischargeComplete o l0).cfg = l0.cfg := by
  unfold Lane.dischargeComplete
  (try dsimp only)
  repeat' split
  all_goals simp

@[simp] theorem Lane.degradedExpiry_still (o : Nat) (l : Lane)  :
    (Lane.degradedExpiry o l).id = l.id ∧ (Lane.degradedExpiry o l).lap = l.lap ∧ (Lane.degradedExpiry o l).cfg = l.cfg := by
  unfold Lane.degradedExpiry
  (try dsimp only)
  repeat' split
  all_goals simp

@[simp] theorem Lane.sessionTakeover_still (outlets : Nat) (gained : Bool) (l : Lane)  :
    (Lane.sessionTakeover outlets gained l).id = l.id ∧ (Lane.sessionTakeover outlets gained l).lap = l.lap ∧ (Lane.sessionTakeover outlets gained l).cfg = l.cfg := by
  unfold Lane.sessionTakeover
  (try dsimp only)
  repeat' split
  all_goals simp

@[simp] theorem Lane.outletCmd_still (outlets : Nat) (r : Request) (n : Nat) (f : Nat → Lane → Lane × Reply) (l : Lane) (hf : ∀ o (l : Lane), (f o l).1.id = l.id ∧ (f o l).1.lap = l.lap ∧ (f o l).1.cfg = l.cfg) :
    (Lane.outletCmd outlets r n f l).1.id = l.id ∧ (Lane.outletCmd outlets r n f l).1.lap = l.lap ∧ (Lane.outletCmd outlets r n f l).1.cfg = l.cfg := by
  unfold Lane.outletCmd
  (try dsimp only)
  repeat' split
  all_goals simp [hf]

@[simp] theorem Lane.cmdAuthorize_still (outlets : Nat) (r : Request) (l : Lane)  :
    (Lane.cmdAuthorize outlets r l).1.id = l.id ∧ (Lane.cmdAuthorize outlets r l).1.lap = l.lap ∧ (Lane.cmdAuthorize outlets r l).1.cfg = l.cfg := by
  refine Lane.outletCmd_still _ _ _ _ _ ?_
  intro o l
  (try dsimp only)
  repeat' split
  all_goals simp

@[simp] theorem Lane.cmdSessionStop_still (outlets : Nat) (r : Request) (l : Lane)  :
    (Lane.cmdSessionStop outlets r l).1.id = l.id ∧ (Lane.cmdSessionStop outlets r l).1.lap = l.lap ∧ (Lane.cmdSessionStop outlets r l).1.cfg = l.cfg := by
  refine Lane.outletCmd_still _ _ _ _ _ ?_
  intro o l
  (try dsimp only)
  repeat' split
  all_goals simp

@[simp] theorem Lane.cmdBlock_still (outlets : Nat) (r : Request) (l : Lane)  :
    (Lane.cmdBlock outlets r l).1.id = l.id ∧ (Lane.cmdBlock outlets r l).1.lap = l.lap ∧ (Lane.cmdBlock outlets r l).1.cfg = l.cfg := by
  refine Lane.outletCmd_still _ _ _ _ _ ?_
  intro o l
  (try dsimp only)
  repeat' split
  all_goals simp

@[simp] theorem Lane.cmdClear_still (outlets : Nat) (r : Request) (l : Lane)  :
    (Lane.cmdClear outlets r l).1.id = l.id ∧ (Lane.cmdClear outlets r l).1.lap = l.lap ∧ (Lane.cmdClear outlets r l).1.cfg = l.cfg := by
  refine Lane.outletCmd_still _ _ _ _ _ ?_
  intro o l
  (try dsimp only)
  repeat' split
  all_goals simp

@[simp] theorem Lane.cmdSessionInfo_still (outlets : Nat) (r : Request) (l : Lane)  :
    (Lane.cmdSessionInfo outlets r l).1.id = l.id ∧ (Lane.cmdSessionInfo outlets r l).1.lap = l.lap ∧ (Lane.cmdSessionInfo outlets r l).1.cfg = l.cfg := by
  refine Lane.outletCmd_still _ _ _ _ _ ?_
  intro o l
  (try dsimp only)
  repeat' split
  all_goals simp

@[simp] theorem Lane.cmdRestart_still (outlets : Nat) (r : Request) (l : Lane)  :
    (Lane.cmdRestart outlets r l).1.id = l.id ∧ (Lane.cmdRestart outlets r l).1.lap = l.lap ∧ (Lane.cmdRestart outlets r l).1.cfg = l.cfg := by
  refine Lane.outletCmd_still _ _ _ _ _ ?_
  intro o l
  (try dsimp only)
  repeat' split
  all_goals simp

@[simp] theorem Lane.tripOutlet_still (o code : Nat) (own : Bool) (l : Lane) :
    (Lane.tripOutlet o code own l).id = l.id ∧ (Lane.tripOutlet o code own l).lap = l.lap ∧ (Lane.tripOutlet o code own l).cfg = l.cfg := by
  unfold Lane.tripOutlet
  (try dsimp only)
  repeat' split
  all_goals simp

@[simp] theorem Lane.tripFn_still (outlets n cause : Nat) (ch1 ch2 : Bool) (l : Lane)  :
    (Lane.tripFn outlets n cause ch1 ch2 l).id = l.id ∧ (Lane.tripFn outlets n cause ch1 ch2 l).lap = l.lap ∧ (Lane.tripFn outlets n cause ch1 ch2 l).cfg = l.cfg := by
  unfold Lane.tripFn
  (try dsimp only)
  repeat' split
  all_goals simp

@[simp] theorem Lane.outputsFell_still (driven tripped : Nat → Bool) (o : Nat) (l : Lane) :
    (Lane.outputsFell driven tripped o l).id = l.id ∧ (Lane.outputsFell driven tripped o l).lap = l.lap ∧ (Lane.outputsFell driven tripped o l).cfg = l.cfg := by
  unfold Lane.outputsFell
  (try dsimp only)
  repeat' split
  all_goals simp

@[simp] theorem Lane.showOutputs_still (driven pulsed tripped : Nat → Bool) (outlets : Nat) (l : Lane) :
    (Lane.showOutputs driven pulsed tripped outlets l).id = l.id ∧ (Lane.showOutputs driven pulsed tripped outlets l).lap = l.lap ∧ (Lane.showOutputs driven pulsed tripped outlets l).cfg = l.cfg := by
  unfold Lane.showOutputs
  (try dsimp only)
  repeat' split
  all_goals simp

@[simp] theorem Lane.evalFn_still (outlets n : Nat) (known : Bool) (c1 c2 : Option Nat) (l : Lane) :
    (Lane.evalFn outlets n known c1 c2 l).id = l.id ∧ (Lane.evalFn outlets n known c1 c2 l).lap = l.lap ∧ (Lane.evalFn outlets n known c1 c2 l).cfg = l.cfg := by
  unfold Lane.evalFn
  (try dsimp only)
  repeat' split
  all_goals simp

@[simp] theorem Lane.acceptReset_still (outlets : Nat) (l : Lane)  :
    (Lane.acceptReset outlets l).id = l.id ∧ (Lane.acceptReset outlets l).lap = l.lap ∧ (Lane.acceptReset outlets l).cfg = l.cfg := by
  unfold Lane.acceptReset
  (try dsimp only)
  repeat' split
  all_goals simp

@[simp] theorem Lane.ownReset_still (outlets : Nat) (l : Lane) :
    (Lane.ownReset outlets l).id = l.id ∧ (Lane.ownReset outlets l).lap = l.lap ∧ (Lane.ownReset outlets l).cfg = l.cfg := by
  unfold Lane.ownReset
  (try dsimp only)
  repeat' split
  all_goals simp

@[simp] theorem Lane.acceptTg_still (outlets : Nat) (t : Telegram) (l : Lane)  :
    (Lane.acceptTg outlets t l).id = l.id ∧ (Lane.acceptTg outlets t l).lap = l.lap ∧ (Lane.acceptTg outlets t l).cfg = l.cfg := by
  unfold Lane.acceptTg
  (try dsimp only)
  repeat' split
  all_goals simp

@[simp] theorem Lane.takeTelegram_still (net : Nat) (t : Telegram) (l : Lane)  :
    (Lane.takeTelegram net t l).id = l.id ∧ (Lane.takeTelegram net t l).lap = l.lap ∧ (Lane.takeTelegram net t l).cfg = l.cfg := by
  unfold Lane.takeTelegram
  (try dsimp only)
  repeat' split
  all_goals simp

@[simp] theorem Lane.agreed_still (m : Nat) (ok : Bool) (l : Lane) :
    (Lane.agreed m ok l).id = l.id ∧ (Lane.agreed m ok l).lap = l.lap ∧ (Lane.agreed m ok l).cfg = l.cfg := by
  unfold Lane.agreed
  (try dsimp only)
  repeat' split
  all_goals simp

@[simp] theorem Lane.compareTg_still (outlets : Nat) (c : TgCopy) (l : Lane)  :
    (Lane.compareTg outlets c l).id = l.id ∧ (Lane.compareTg outlets c l).lap = l.lap ∧ (Lane.compareTg outlets c l).cfg = l.cfg := by
  unfold Lane.compareTg
  (try dsimp only)
  repeat' split
  all_goals simp

@[simp] theorem Lane.sendTelegram_still (l : Lane)  :
    (Lane.sendTelegram l).id = l.id ∧ (Lane.sendTelegram l).lap = l.lap ∧ (Lane.sendTelegram l).cfg = l.cfg := by
  unfold Lane.sendTelegram
  (try dsimp only)
  repeat' split
  all_goals simp

@[simp] theorem Lane.safetyCycle_still (outlets : Nat) (i1 i2 : SafetyInputs) (l : Lane)  :
    (Lane.safetyCycle outlets i1 i2 l).id = l.id ∧ (Lane.safetyCycle outlets i1 i2 l).lap = l.lap ∧ (Lane.safetyCycle outlets i1 i2 l).cfg = l.cfg := by
  unfold Lane.safetyCycle
  (try dsimp only)
  repeat' split
  all_goals simp

@[simp] theorem Lane.takeTrip_still (l : Lane) (other : Lane) (outlets n : Nat)  :
    (Lane.takeTrip l other outlets n).id = l.id ∧ (Lane.takeTrip l other outlets n).lap = l.lap ∧ (Lane.takeTrip l other outlets n).cfg = l.cfg := by
  unfold Lane.takeTrip
  (try dsimp only)
  repeat' split
  all_goals simp

@[simp] theorem Lane.resetEdge_still (granted : Bool) (outlets openMs closedMs : Nat) (l : Lane)  :
    (Lane.resetEdge granted outlets openMs closedMs l).id = l.id ∧ (Lane.resetEdge granted outlets openMs closedMs l).lap = l.lap ∧ (Lane.resetEdge granted outlets openMs closedMs l).cfg = l.cfg := by
  unfold Lane.resetEdge
  (try dsimp only)
  repeat' split
  all_goals simp

@[simp] theorem Lane.heldReset_still (outlets : Nat) (l : Lane)  :
    (Lane.heldReset outlets l).id = l.id ∧ (Lane.heldReset outlets l).lap = l.lap ∧ (Lane.heldReset outlets l).cfg = l.cfg := by
  unfold Lane.heldReset
  (try dsimp only)
  repeat' split
  all_goals simp

@[simp] theorem Lane.pulseStart_still (x : Nat) (energised : Bool) (l : Lane)  :
    (Lane.pulseStart x energised l).id = l.id ∧ (Lane.pulseStart x energised l).lap = l.lap ∧ (Lane.pulseStart x energised l).cfg = l.cfg := by
  unfold Lane.pulseStart
  (try dsimp only)
  repeat' split
  all_goals simp

@[simp] theorem Lane.outputFault_still (x : Nat) (l : Lane) :
    (Lane.outputFault x l).id = l.id ∧ (Lane.outputFault x l).lap = l.lap ∧ (Lane.outputFault x l).cfg = l.cfg := by
  unfold Lane.outputFault
  (try dsimp only)
  repeat' split
  all_goals simp

@[simp] theorem Lane.loopTimeout_still (outlets : Nat) (l : Lane)  :
    (Lane.loopTimeout outlets l).id = l.id ∧ (Lane.loopTimeout outlets l).lap = l.lap ∧ (Lane.loopTimeout outlets l).cfg = l.cfg := by
  unfold Lane.loopTimeout
  (try dsimp only)
  repeat' split
  all_goals simp

@[simp] theorem Lane.telegramsFrom_still (ms : List Nat) (l : Lane)  :
    (Lane.telegramsFrom ms l).id = l.id ∧ (Lane.telegramsFrom ms l).lap = l.lap ∧ (Lane.telegramsFrom ms l).cfg = l.cfg := by
  unfold Lane.telegramsFrom
  (try dsimp only)
  repeat' split
  all_goals simp

@[simp] theorem Lane.telegramTimeout_still (outlets m : Nat) (l : Lane)  :
    (Lane.telegramTimeout outlets m l).id = l.id ∧ (Lane.telegramTimeout outlets m l).lap = l.lap ∧ (Lane.telegramTimeout outlets m l).cfg = l.cfg := by
  unfold Lane.telegramTimeout
  (try dsimp only)
  repeat' split
  all_goals simp

@[simp] theorem Lane.netLost_still (net : Nat) (l : Lane)  :
    (Lane.netLost net l).id = l.id ∧ (Lane.netLost net l).lap = l.lap ∧ (Lane.netLost net l).cfg = l.cfg := by
  unfold Lane.netLost
  (try dsimp only)
  repeat' split
  all_goals simp

@[simp] theorem Lane.netRestored_still (net : Nat) (l : Lane)  :
    (Lane.netRestored net l).id = l.id ∧ (Lane.netRestored net l).lap = l.lap ∧ (Lane.netRestored net l).cfg = l.cfg := by
  unfold Lane.netRestored
  (try dsimp only)
  repeat' split
  all_goals simp

@[simp] theorem Lane.teamExpiry_still (outlets : Nat) (l : Lane)  :
    (Lane.teamExpiry outlets l).id = l.id ∧ (Lane.teamExpiry outlets l).lap = l.lap ∧ (Lane.teamExpiry outlets l).cfg = l.cfg := by
  unfold Lane.teamExpiry
  (try dsimp only)
  repeat' split
  all_goals simp

@[simp] theorem Lane.teamElapsedReset_still (l : Lane)  :
    (Lane.teamElapsedReset l).id = l.id ∧ (Lane.teamElapsedReset l).lap = l.lap ∧ (Lane.teamElapsedReset l).cfg = l.cfg := by
  unfold Lane.teamElapsedReset
  (try dsimp only)
  repeat' split
  all_goals simp

@[simp] theorem Lane.teamElapsed_still (l : Lane)  :
    (Lane.teamElapsed l).id = l.id ∧ (Lane.teamElapsed l).lap = l.lap ∧ (Lane.teamElapsed l).cfg = l.cfg := by
  unfold Lane.teamElapsed
  (try dsimp only)
  repeat' split
  all_goals simp

@[simp] theorem Lane.dischargeExpiry_still (outlets o : Nat) (l : Lane)  :
    (Lane.dischargeExpiry outlets o l).id = l.id ∧ (Lane.dischargeExpiry outlets o l).lap = l.lap ∧ (Lane.dischargeExpiry outlets o l).cfg = l.cfg := by
  unfold Lane.dischargeExpiry
  (try dsimp only)
  repeat' split
  all_goals simp

@[simp] theorem Lane.backupCheck_still (o : Nat) (l : Lane)  :
    (Lane.backupCheck o l).id = l.id ∧ (Lane.backupCheck o l).lap = l.lap ∧ (Lane.backupCheck o l).cfg = l.cfg := by
  unfold Lane.backupCheck
  (try dsimp only)
  repeat' split
  all_goals simp

@[simp] theorem Lane.degradedCurrent_still (outlets o : Nat) (l : Lane)  :
    (Lane.degradedCurrent outlets o l).id = l.id ∧ (Lane.degradedCurrent outlets o l).lap = l.lap ∧ (Lane.degradedCurrent outlets o l).cfg = l.cfg := by
  unfold Lane.degradedCurrent
  (try dsimp only)
  repeat' split
  all_goals simp

@[simp] theorem Lane.cmdKeyApply_still (r : Request) (l : Lane)  :
    (Lane.cmdKeyApply r l).1.id = l.id ∧ (Lane.cmdKeyApply r l).1.lap = l.lap ∧ (Lane.cmdKeyApply r l).1.cfg = l.cfg := by
  unfold Lane.cmdKeyApply
  (try dsimp only)
  repeat' split
  all_goals simp

@[simp] theorem Lane.keyExchange_still (l : Lane) (other : Lane)  :
    (Lane.keyExchange l other).id = l.id ∧ (Lane.keyExchange l other).lap = l.lap ∧ (Lane.keyExchange l other).cfg = l.cfg := by
  unfold Lane.keyExchange
  (try dsimp only)
  repeat' split
  all_goals simp

@[simp] theorem Lane.orphanEffects_still (touched : List Nat) (l : Lane)  :
    (Lane.orphanEffects touched l).id = l.id ∧ (Lane.orphanEffects touched l).lap = l.lap ∧ (Lane.orphanEffects touched l).cfg = l.cfg := by
  unfold Lane.orphanEffects
  (try dsimp only)
  repeat' split
  all_goals simp

@[simp] theorem Lane.keyCommit_still (inStep : Bool) (l : Lane)  :
    (Lane.keyCommit inStep l).id = l.id ∧ (Lane.keyCommit inStep l).lap = l.lap ∧ (Lane.keyCommit inStep l).cfg = l.cfg := by
  unfold Lane.keyCommit
  (try dsimp only)
  repeat' split
  all_goals simp

@[simp] theorem Lane.setLvl_still (k : Nat) (x : TeamLevel) (l : Lane)  :
    (Lane.setLvl k x l).id = l.id ∧ (Lane.setLvl k x l).lap = l.lap ∧ (Lane.setLvl k x l).cfg = l.cfg := by
  unfold Lane.setLvl
  (try dsimp only)
  repeat' split
  all_goals simp

@[simp] theorem Lane.showMask_still (k : Nat) (l : Lane)  :
    (Lane.showMask k l).id = l.id ∧ (Lane.showMask k l).lap = l.lap ∧ (Lane.showMask k l).cfg = l.cfg := by
  unfold Lane.showMask
  (try dsimp only)
  repeat' split
  all_goals simp

@[simp] theorem Lane.teamKey_still (k : Nat) (l : Lane) :
    (Lane.teamKey k l).1.id = l.id ∧ (Lane.teamKey k l).1.lap = l.lap ∧ (Lane.teamKey k l).1.cfg = l.cfg := by
  unfold Lane.teamKey
  (try dsimp only)
  repeat' split
  all_goals simp

@[simp] theorem Lane.teamSend_still (k kind net dest : Nat) (body : List Field) (l0 : Lane) :
    (Lane.teamSend k kind net dest body l0).id = l0.id ∧ (Lane.teamSend k kind net dest body l0).lap = l0.lap ∧ (Lane.teamSend k kind net dest body l0).cfg = l0.cfg := by
  unfold Lane.teamSend
  (try dsimp only)
  repeat' split
  all_goals simp

@[simp] theorem Lane.teamResend_still (l : Lane) :
    (Lane.teamResend l).id = l.id ∧ (Lane.teamResend l).lap = l.lap ∧ (Lane.teamResend l).cfg = l.cfg := by
  unfold Lane.teamResend
  (try dsimp only)
  repeat' split
  all_goals simp

@[simp] theorem Lane.telegramFrames_still (l : Lane) :
    (Lane.telegramFrames l).id = l.id ∧ (Lane.telegramFrames l).lap = l.lap ∧ (Lane.telegramFrames l).cfg = l.cfg := by
  unfold Lane.telegramFrames
  (try dsimp only)
  repeat' split
  all_goals simp

@[simp] theorem Lane.setTeamMember_still (k m : Nat) (x : TeamMember) (l : Lane)  :
    (Lane.setTeamMember k m x l).id = l.id ∧ (Lane.setTeamMember k m x l).lap = l.lap ∧ (Lane.setTeamMember k m x l).cfg = l.cfg := by
  unfold Lane.setTeamMember
  (try dsimp only)
  repeat' split
  all_goals simp

@[simp] theorem Lane.beaconSend_still (stA stB : Nat) (driven : Bool) (l : Lane) :
    (Lane.beaconSend stA stB driven l).id = l.id ∧ (Lane.beaconSend stA stB driven l).lap = l.lap ∧ (Lane.beaconSend stA stB driven l).cfg = l.cfg := by
  unfold Lane.beaconSend
  (try dsimp only)
  repeat' split
  all_goals simp

@[simp] theorem Lane.ringWhole_still (net : Nat) (whole : Bool) (l : Lane)  :
    (Lane.ringWhole net whole l).id = l.id ∧ (Lane.ringWhole net whole l).lap = l.lap ∧ (Lane.ringWhole net whole l).cfg = l.cfg := by
  unfold Lane.ringWhole
  (try dsimp only)
  repeat' split
  all_goals simp

@[simp] theorem Lane.checkNet_still (net : Nat) (l : Lane)  :
    (Lane.checkNet net l).id = l.id ∧ (Lane.checkNet net l).lap = l.lap ∧ (Lane.checkNet net l).cfg = l.cfg := by
  unfold Lane.checkNet
  (try dsimp only)
  repeat' split
  all_goals simp

@[simp] theorem Lane.beaconCheck_still (l : Lane)  :
    (Lane.beaconCheck l).id = l.id ∧ (Lane.beaconCheck l).lap = l.lap ∧ (Lane.beaconCheck l).cfg = l.cfg := by
  unfold Lane.beaconCheck
  (try dsimp only)
  repeat' split
  all_goals simp

@[simp] theorem Lane.memberUpdate_still (k m : Nat) (l : Lane)  :
    (Lane.memberUpdate k m l).id = l.id ∧ (Lane.memberUpdate k m l).lap = l.lap ∧ (Lane.memberUpdate k m l).cfg = l.cfg := by
  unfold Lane.memberUpdate
  (try dsimp only)
  repeat' split
  all_goals simp

@[simp] theorem Lane.memberStates_still (l : Lane)  :
    (Lane.memberStates l).id = l.id ∧ (Lane.memberStates l).lap = l.lap ∧ (Lane.memberStates l).cfg = l.cfg := by
  unfold Lane.memberStates
  (try dsimp only)
  repeat' split
  all_goals simp

@[simp] theorem Lane.newMask_still (k mask keyGen : Nat) (l : Lane) :
    (Lane.newMask k mask keyGen l).id = l.id ∧ (Lane.newMask k mask keyGen l).lap = l.lap ∧ (Lane.newMask k mask keyGen l).cfg = l.cfg := by
  unfold Lane.newMask
  (try dsimp only)
  repeat' split
  all_goals simp

@[simp] theorem Lane.setOffset_still (k : Nat) (teamEpoch : Int) (l : Lane) :
    (Lane.setOffset k teamEpoch l).id = l.id ∧ (Lane.setOffset k teamEpoch l).lap = l.lap ∧ (Lane.setOffset k teamEpoch l).cfg = l.cfg := by
  unfold Lane.setOffset
  (try dsimp only)
  repeat' split
  all_goals simp

@[simp] theorem Lane.takeBeacon_still (k m serial mask keyGen : Nat) (teamEpoch : Int) (l : Lane)  :
    (Lane.takeBeacon k m serial mask keyGen teamEpoch l).id = l.id ∧ (Lane.takeBeacon k m serial mask keyGen teamEpoch l).lap = l.lap ∧ (Lane.takeBeacon k m serial mask keyGen teamEpoch l).cfg = l.cfg := by
  unfold Lane.takeBeacon
  (try dsimp only)
  repeat' split
  all_goals simp

@[simp] theorem Lane.takeReport_still (k m : Nat) (round want drawn : Int) (l : Lane)  :
    (Lane.takeReport k m round want drawn l).id = l.id ∧ (Lane.takeReport k m round want drawn l).lap = l.lap ∧ (Lane.takeReport k m round want drawn l).cfg = l.cfg := by
  unfold Lane.takeReport
  (try dsimp only)
  repeat' split
  all_goals simp

@[simp] theorem Lane.takeAllocation_still (k : Nat) (round w : Int) (l : Lane)  :
    (Lane.takeAllocation k round w l).id = l.id ∧ (Lane.takeAllocation k round w l).lap = l.lap ∧ (Lane.takeAllocation k round w l).cfg = l.cfg := by
  unfold Lane.takeAllocation
  (try dsimp only)
  repeat' split
  all_goals simp

@[simp] theorem Lane.memberEntry_still (k m : Nat) (e : MemberEntry) (l : Lane)  :
    (Lane.memberEntry k m e l).id = l.id ∧ (Lane.memberEntry k m e l).lap = l.lap ∧ (Lane.memberEntry k m e l).cfg = l.cfg := by
  unfold Lane.memberEntry
  (try dsimp only)
  repeat' split
  all_goals simp

@[simp] theorem Lane.memberEntries_still (k m : Nat) (es : List MemberEntry) (l : Lane)  :
    (Lane.memberEntries k m es l).id = l.id ∧ (Lane.memberEntries k m es l).lap = l.lap ∧ (Lane.memberEntries k m es l).cfg = l.cfg := by
  unfold Lane.memberEntries
  simp

@[simp] theorem Lane.giveUpOn_still (r : Request) (l : Lane) :
    (Lane.giveUpOn r l).id = l.id ∧ (Lane.giveUpOn r l).lap = l.lap ∧ (Lane.giveUpOn r l).cfg = l.cfg := by
  unfold Lane.giveUpOn
  (try dsimp only)
  repeat' split
  all_goals simp

@[simp] theorem Lane.memberTimeout_still (seq : Nat) (l : Lane)  :
    (Lane.memberTimeout seq l).id = l.id ∧ (Lane.memberTimeout seq l).lap = l.lap ∧ (Lane.memberTimeout seq l).cfg = l.cfg := by
  unfold Lane.memberTimeout
  (try dsimp only)
  repeat' split
  all_goals simp

@[simp] theorem Lane.memberRequest_still (k m : Nat) (r : Request) (l : Lane) :
    (Lane.memberRequest k m r l).id = l.id ∧ (Lane.memberRequest k m r l).lap = l.lap ∧ (Lane.memberRequest k m r l).cfg = l.cfg := by
  unfold Lane.memberRequest
  (try dsimp only)
  repeat' split
  all_goals simp

@[simp] theorem Lane.memberRequests_still (k m : Nat) (rs : List Request) (l : Lane) :
    (Lane.memberRequests k m rs l).id = l.id ∧ (Lane.memberRequests k m rs l).lap = l.lap ∧ (Lane.memberRequests k m rs l).cfg = l.cfg := by
  unfold Lane.memberRequests
  (try dsimp only)
  repeat' split
  all_goals simp

@[simp] theorem Lane.takeChange_still (k mask keyGen : Nat) (epoch : Int) (l : Lane)  :
    (Lane.takeChange k mask keyGen epoch l).id = l.id ∧ (Lane.takeChange k mask keyGen epoch l).lap = l.lap ∧ (Lane.takeChange k mask keyGen epoch l).cfg = l.cfg := by
  unfold Lane.takeChange
  (try dsimp only)
  repeat' split
  all_goals simp

@[simp] theorem Lane.takeAck_still (k m : Nat) (epoch : Int) (l : Lane)  :
    (Lane.takeAck k m epoch l).id = l.id ∧ (Lane.takeAck k m epoch l).lap = l.lap ∧ (Lane.takeAck k m epoch l).cfg = l.cfg := by
  unfold Lane.takeAck
  (try dsimp only)
  repeat' split
  all_goals simp

@[simp] theorem Lane.passArm_still (k : Nat) (a : TeamArm) (l : Lane) :
    (Lane.passArm k a l).id = l.id ∧ (Lane.passArm k a l).lap = l.lap ∧ (Lane.passArm k a l).cfg = l.cfg := by
  unfold Lane.passArm
  (try dsimp only)
  repeat' split
  all_goals simp

@[simp] theorem Lane.takeArm_still (k id : Nat) (epoch : Int) (preMs postMs mib : Nat) (l : Lane)  :
    (Lane.takeArm k id epoch preMs postMs mib l).id = l.id ∧ (Lane.takeArm k id epoch preMs postMs mib l).lap = l.lap ∧ (Lane.takeArm k id epoch preMs postMs mib l).cfg = l.cfg := by
  unfold Lane.takeArm
  (try dsimp only)
  repeat' split
  all_goals simp

@[simp] theorem Lane.actOn_still (k : Nat) (f : TeamFrame) (l : Lane)  :
    (Lane.actOn k f l).id = l.id ∧ (Lane.actOn k f l).lap = l.lap ∧ (Lane.actOn k f l).cfg = l.cfg := by
  unfold Lane.actOn
  (try dsimp only)
  repeat' split
  all_goals simp

@[simp] theorem Lane.ownFrame_still (k : Nat) (f : TeamFrame) (l : Lane) :
    (Lane.ownFrame k f l).id = l.id ∧ (Lane.ownFrame k f l).lap = l.lap ∧ (Lane.ownFrame k f l).cfg = l.cfg := by
  unfold Lane.ownFrame
  (try dsimp only)
  repeat' split
  all_goals simp

@[simp] theorem Lane.passFrame_still (f : TeamFrame) (l : Lane)  :
    (Lane.passFrame f l).id = l.id ∧ (Lane.passFrame f l).lap = l.lap ∧ (Lane.passFrame f l).cfg = l.cfg := by
  unfold Lane.passFrame
  split <;> simp

@[simp] theorem Lane.teamFrame_still (act : Nat → TeamFrame → Lane → Lane) (f : TeamFrame) (l : Lane) (hf : ∀ n x (l : Lane), (act n x l).id = l.id ∧ (act n x l).lap = l.lap ∧ (act n x l).cfg = l.cfg) :
    (Lane.teamFrame act f l).id = l.id ∧ (Lane.teamFrame act f l).lap = l.lap ∧ (Lane.teamFrame act f l).cfg = l.cfg := by
  unfold Lane.teamFrame
  (try dsimp only)
  repeat' split
  all_goals simp [hf]

@[simp] theorem Lane.showBypass_still (net : Nat) (closed : Bool) (l : Lane)  :
    (Lane.showBypass net closed l).id = l.id ∧ (Lane.showBypass net closed l).lap = l.lap ∧ (Lane.showBypass net closed l).cfg = l.cfg := by
  unfold Lane.showBypass
  (try dsimp only)
  repeat' split
  all_goals simp

@[simp] theorem Lane.changeApply_still (k : Nat) (l : Lane)  :
    (Lane.changeApply k l).id = l.id ∧ (Lane.changeApply k l).lap = l.lap ∧ (Lane.changeApply k l).cfg = l.cfg := by
  unfold Lane.changeApply
  (try dsimp only)
  repeat' split
  all_goals simp

@[simp] theorem Lane.cmdTeamStatus_still (fitted : Bool) (r : Request) (l : Lane)  :
    (Lane.cmdTeamStatus fitted r l).1.id = l.id ∧ (Lane.cmdTeamStatus fitted r l).1.lap = l.lap ∧ (Lane.cmdTeamStatus fitted r l).1.cfg = l.cfg := by
  unfold Lane.cmdTeamStatus
  (try dsimp only)
  repeat' split
  all_goals simp

@[simp] theorem Lane.cmdTeamMembers_still (fitted : Bool) (r : Request) (l : Lane)  :
    (Lane.cmdTeamMembers fitted r l).1.id = l.id ∧ (Lane.cmdTeamMembers fitted r l).1.lap = l.lap ∧ (Lane.cmdTeamMembers fitted r l).1.cfg = l.cfg := by
  unfold Lane.cmdTeamMembers
  (try dsimp only)
  repeat' split
  all_goals simp

@[simp] theorem Lane.teamTakeover_still (l : Lane)  :
    (Lane.teamTakeover l).id = l.id ∧ (Lane.teamTakeover l).lap = l.lap ∧ (Lane.teamTakeover l).cfg = l.cfg := by
  unfold Lane.teamTakeover
  (try dsimp only)
  repeat' split
  all_goals simp

@[simp] theorem Lane.setBus_still (b : Nat) (x : CanBus) (l : Lane)  :
    (Lane.setBus b x l).id = l.id ∧ (Lane.setBus b x l).lap = l.lap ∧ (Lane.setBus b x l).cfg = l.cfg := by
  unfold Lane.setBus
  (try dsimp only)
  repeat' split
  all_goals simp

@[simp] theorem Lane.canEvent_still (b : Nat) (l : Lane)  :
    (Lane.canEvent b l).id = l.id ∧ (Lane.canEvent b l).lap = l.lap ∧ (Lane.canEvent b l).cfg = l.cfg := by
  unfold Lane.canEvent
  (try dsimp only)
  repeat' split
  all_goals simp

@[simp] theorem Lane.canClear_still (b : Nat) (l : Lane) :
    (Lane.canClear b l).id = l.id ∧ (Lane.canClear b l).lap = l.lap ∧ (Lane.canClear b l).cfg = l.cfg := by
  unfold Lane.canClear
  (try dsimp only)
  repeat' split
  all_goals simp

@[simp] theorem Lane.canRefresh_still (b : Nat) (l : Lane)  :
    (Lane.canRefresh b l).id = l.id ∧ (Lane.canRefresh b l).lap = l.lap ∧ (Lane.canRefresh b l).cfg = l.cfg := by
  unfold Lane.canRefresh
  (try dsimp only)
  repeat' split
  all_goals simp

@[simp] theorem Lane.canReceive_still (b : Nat) (f : CanFrame) (l : Lane)  :
    (Lane.canReceive b f l).id = l.id ∧ (Lane.canReceive b f l).lap = l.lap ∧ (Lane.canReceive b f l).cfg = l.cfg := by
  unfold Lane.canReceive
  (try dsimp only)
  repeat' split
  all_goals simp

@[simp] theorem Lane.canPlaceOne_still (b n : Nat) (f : RxObj) (l : Lane)  :
    (Lane.canPlaceOne b n f l).id = l.id ∧ (Lane.canPlaceOne b n f l).lap = l.lap ∧ (Lane.canPlaceOne b n f l).cfg = l.cfg := by
  unfold Lane.canPlaceOne
  (try dsimp only)
  repeat' split
  all_goals simp

@[simp] theorem Lane.canEndReads_still (b : Nat) (l : Lane)  :
    (Lane.canEndReads b l).id = l.id ∧ (Lane.canEndReads b l).lap = l.lap ∧ (Lane.canEndReads b l).cfg = l.cfg := by
  unfold Lane.canEndReads
  (try dsimp only)
  repeat' split
  all_goals simp

@[simp] theorem Lane.canPlace_still (b : Nat) (l : Lane)  :
    (Lane.canPlace b l).id = l.id ∧ (Lane.canPlace b l).lap = l.lap ∧ (Lane.canPlace b l).cfg = l.cfg := by
  unfold Lane.canPlace
  (try dsimp only)
  repeat' split
  all_goals simp

@[simp] theorem Lane.canRead_still (b n : Nat) (l : Lane)  :
    (Lane.canRead b n l).1.id = l.id ∧ (Lane.canRead b n l).1.lap = l.lap ∧ (Lane.canRead b n l).1.cfg = l.cfg := by
  unfold Lane.canRead
  (try dsimp only)
  repeat' split
  all_goals simp

@[simp] theorem Lane.canStart_still (b : Nat) (l : Lane)  :
    (Lane.canStart b l).id = l.id ∧ (Lane.canStart b l).lap = l.lap ∧ (Lane.canStart b l).cfg = l.cfg := by
  unfold Lane.canStart
  (try dsimp only)
  repeat' split
  all_goals simp

@[simp] theorem Lane.dueInBusOff_still (b : Nat) (l : Lane) :
    (Lane.dueInBusOff b l).id = l.id ∧ (Lane.dueInBusOff b l).lap = l.lap ∧ (Lane.dueInBusOff b l).cfg = l.cfg := by
  unfold Lane.dueInBusOff
  (try dsimp only)
  repeat' split
  all_goals simp

@[simp] theorem Lane.canWrite_still (b n : Nat) (data : List Nat) (l : Lane)  :
    (Lane.canWrite b n data l).id = l.id ∧ (Lane.canWrite b n data l).lap = l.lap ∧ (Lane.canWrite b n data l).cfg = l.cfg := by
  unfold Lane.canWrite
  (try dsimp only)
  repeat' split
  all_goals simp

@[simp] theorem Lane.canMatrix_still (b : Nat) (l : Lane)  :
    (Lane.canMatrix b l).id = l.id ∧ (Lane.canMatrix b l).lap = l.lap ∧ (Lane.canMatrix b l).cfg = l.cfg := by
  unfold Lane.canMatrix
  (try dsimp only)
  repeat' split
  all_goals simp

@[simp] theorem Lane.canWithdraw_still (b : Nat) (l : Lane)  :
    (Lane.canWithdraw b l).id = l.id ∧ (Lane.canWithdraw b l).lap = l.lap ∧ (Lane.canWithdraw b l).cfg = l.cfg := by
  unfold Lane.canWithdraw
  (try dsimp only)
  repeat' split
  all_goals simp

@[simp] theorem Lane.canColumnOpen_still (b c : Nat) (e : CanColumn) (l0 : Lane) :
    (Lane.canColumnOpen b c e l0).id = l0.id ∧ (Lane.canColumnOpen b c e l0).lap = l0.lap ∧ (Lane.canColumnOpen b c e l0).cfg = l0.cfg := by
  unfold Lane.canColumnOpen
  (try dsimp only)
  repeat' split
  all_goals simp

@[simp] theorem Lane.canColumnClose_still (b : Nat) (l : Lane)  :
    (Lane.canColumnClose b l).id = l.id ∧ (Lane.canColumnClose b l).lap = l.lap ∧ (Lane.canColumnClose b l).cfg = l.cfg := by
  unfold Lane.canColumnClose
  (try dsimp only)
  repeat' split
  all_goals simp

@[simp] theorem Lane.canNext_still (b : Nat) (busy : Bool) (l : Lane) :
    (Lane.canNext b busy l).id = l.id ∧ (Lane.canNext b busy l).lap = l.lap ∧ (Lane.canNext b busy l).cfg = l.cfg := by
  unfold Lane.canNext
  (try dsimp only)
  repeat' split
  all_goals simp

@[simp] theorem Lane.canSent_still (b : Nat) (busy : Bool) (l : Lane) :
    (Lane.canSent b busy l).id = l.id ∧ (Lane.canSent b busy l).lap = l.lap ∧ (Lane.canSent b busy l).cfg = l.cfg := by
  unfold Lane.canSent
  (try dsimp only)
  repeat' split
  all_goals simp

@[simp] theorem Lane.canHeard_still (b : Nat) (busy : Bool) (r : CanReq) (l : Lane) :
    (Lane.canHeard b busy r l).id = l.id ∧ (Lane.canHeard b busy r l).lap = l.lap ∧ (Lane.canHeard b busy r l).cfg = l.cfg := by
  unfold Lane.canHeard
  (try dsimp only)
  repeat' split
  all_goals simp

@[simp] theorem Lane.canCut_still (b : Nat) (l : Lane) :
    (Lane.canCut b l).id = l.id ∧ (Lane.canCut b l).lap = l.lap ∧ (Lane.canCut b l).cfg = l.cfg := by
  unfold Lane.canCut
  (try dsimp only)
  repeat' split
  all_goals simp

@[simp] theorem Lane.canTakeover_still (b : Nat) (l : Lane)  :
    (Lane.canTakeover b l).id = l.id ∧ (Lane.canTakeover b l).lap = l.lap ∧ (Lane.canTakeover b l).cfg = l.cfg := by
  unfold Lane.canTakeover
  (try dsimp only)
  repeat' split
  all_goals simp

@[simp] theorem Lane.canError_still (b : Nat) (st : Int) (tec rec_ : Nat) (l : Lane)  :
    (Lane.canError b st tec rec_ l).id = l.id ∧ (Lane.canError b st tec rec_ l).lap = l.lap ∧ (Lane.canError b st tec rec_ l).cfg = l.cfg := by
  unfold Lane.canError
  (try dsimp only)
  repeat' split
  all_goals simp

@[simp] theorem Lane.canFollow_still (b : Nat) (l h : Lane) :
    (Lane.canFollow b l h).id = l.id ∧ (Lane.canFollow b l h).lap = l.lap ∧ (Lane.canFollow b l h).cfg = l.cfg := by
  unfold Lane.canFollow
  (try dsimp only)
  repeat' split
  all_goals simp

@[simp] theorem Lane.canRejoin_still (b : Nat) (l : Lane)  :
    (Lane.canRejoin b l).id = l.id ∧ (Lane.canRejoin b l).lap = l.lap ∧ (Lane.canRejoin b l).cfg = l.cfg := by
  unfold Lane.canRejoin
  (try dsimp only)
  repeat' split
  all_goals simp

@[simp] theorem Lane.canSleep_still (b : Nat) (l : Lane)  :
    (Lane.canSleep b l).id = l.id ∧ (Lane.canSleep b l).lap = l.lap ∧ (Lane.canSleep b l).cfg = l.cfg := by
  unfold Lane.canSleep
  (try dsimp only)
  repeat' split
  all_goals simp

@[simp] theorem Lane.canWake_still (b : Nat) (l : Lane)  :
    (Lane.canWake b l).id = l.id ∧ (Lane.canWake b l).lap = l.lap ∧ (Lane.canWake b l).cfg = l.cfg := by
  unfold Lane.canWake
  (try dsimp only)
  repeat' split
  all_goals simp

@[simp] theorem Lane.cmdCanTx_still (r : Request) (l : Lane)  :
    (Lane.cmdCanTx r l).1.id = l.id ∧ (Lane.cmdCanTx r l).1.lap = l.lap ∧ (Lane.cmdCanTx r l).1.cfg = l.cfg := by
  unfold Lane.cmdCanTx
  (try dsimp only)
  repeat' split
  all_goals simp

@[simp] theorem Lane.cmdCanRx_still (r : Request) (l : Lane)  :
    (Lane.cmdCanRx r l).1.id = l.id ∧ (Lane.cmdCanRx r l).1.lap = l.lap ∧ (Lane.cmdCanRx r l).1.cfg = l.cfg := by
  unfold Lane.cmdCanRx
  (try dsimp only)
  repeat' split
  all_goals simp

@[simp] theorem Lane.busCmd_still (r : Request) (f : Nat → Lane → Lane × Reply) (l : Lane) (hf : ∀ o (l : Lane), (f o l).1.id = l.id ∧ (f o l).1.lap = l.lap ∧ (f o l).1.cfg = l.cfg) :
    (Lane.busCmd r f l).1.id = l.id ∧ (Lane.busCmd r f l).1.lap = l.lap ∧ (Lane.busCmd r f l).1.cfg = l.cfg := by
  unfold Lane.busCmd
  (try dsimp only)
  repeat' split
  all_goals simp [hf]

@[simp] theorem Lane.cmdCanSleep_still (r : Request) (l : Lane)  :
    (Lane.cmdCanSleep r l).1.id = l.id ∧ (Lane.cmdCanSleep r l).1.lap = l.lap ∧ (Lane.cmdCanSleep r l).1.cfg = l.cfg := by
  refine Lane.busCmd_still _ _ _ ?_
  intro o l
  (try dsimp only)
  repeat' split
  all_goals simp

@[simp] theorem Lane.cmdCanWake_still (r : Request) (l : Lane)  :
    (Lane.cmdCanWake r l).1.id = l.id ∧ (Lane.cmdCanWake r l).1.lap = l.lap ∧ (Lane.cmdCanWake r l).1.cfg = l.cfg := by
  refine Lane.busCmd_still _ _ _ ?_
  intro o l
  (try dsimp only)
  repeat' split
  all_goals simp

@[simp] theorem Lane.cmdCanRecover_still (r : Request) (l : Lane)  :
    (Lane.cmdCanRecover r l).1.id = l.id ∧ (Lane.cmdCanRecover r l).1.lap = l.lap ∧ (Lane.cmdCanRecover r l).1.cfg = l.cfg := by
  refine Lane.busCmd_still _ _ _ ?_
  intro o l
  (try dsimp only)
  repeat' split
  all_goals simp

@[simp] theorem Lane.setMastPort_still (t : Nat) (x : MastPort) (l : Lane)  :
    (Lane.setMastPort t x l).id = l.id ∧ (Lane.setMastPort t x l).lap = l.lap ∧ (Lane.setMastPort t x l).cfg = l.cfg := by
  unfold Lane.setMastPort
  (try dsimp only)
  repeat' split
  all_goals simp

@[simp] theorem Lane.setMastNode_still (n : Nat) (x : MastNode) (l : Lane)  :
    (Lane.setMastNode n x l).id = l.id ∧ (Lane.setMastNode n x l).lap = l.lap ∧ (Lane.setMastNode n x l).cfg = l.cfg := by
  unfold Lane.setMastNode
  (try dsimp only)
  repeat' split
  all_goals simp

@[simp] theorem Lane.mastStart_still (t : Nat) (l : Lane)  :
    (Lane.mastStart t l).id = l.id ∧ (Lane.mastStart t l).lap = l.lap ∧ (Lane.mastStart t l).cfg = l.cfg := by
  unfold Lane.mastStart
  (try dsimp only)
  repeat' split
  all_goals simp

@[simp] theorem Lane.zeroCrossing_still (t periodUs : Nat) (noise : List Nat) (l : Lane)  :
    (Lane.zeroCrossing t periodUs noise l).id = l.id ∧ (Lane.zeroCrossing t periodUs noise l).lap = l.lap ∧ (Lane.zeroCrossing t periodUs noise l).cfg = l.cfg := by
  unfold Lane.zeroCrossing
  (try dsimp only)
  repeat' split
  all_goals simp

@[simp] theorem Lane.mastRequest_still (t n rep : Nat) (carried : Option (List Nat)) (l : Lane) :
    (Lane.mastRequest t n rep carried l).id = l.id ∧ (Lane.mastRequest t n rep carried l).lap = l.lap ∧ (Lane.mastRequest t n rep carried l).cfg = l.cfg := by
  unfold Lane.mastRequest
  (try dsimp only)
  repeat' split
  all_goals simp

@[simp] theorem Lane.mastSend_still (t : Nat) (l : Lane)  :
    (Lane.mastSend t l).id = l.id ∧ (Lane.mastSend t l).lap = l.lap ∧ (Lane.mastSend t l).cfg = l.cfg := by
  unfold Lane.mastSend
  (try dsimp only)
  repeat' split
  all_goals simp

@[simp] theorem Lane.adapt_still (t : Nat) (bad : List Nat) (good : Bool) (l : Lane) :
    (Lane.adapt t bad good l).id = l.id ∧ (Lane.adapt t bad good l).lap = l.lap ∧ (Lane.adapt t bad good l).cfg = l.cfg := by
  unfold Lane.adapt
  (try dsimp only)
  repeat' split
  all_goals simp

@[simp] theorem Lane.mastDecode_still (t : Nat) (a : MastResponse) (l : Lane) :
    (Lane.mastDecode t a l).id = l.id ∧ (Lane.mastDecode t a l).lap = l.lap ∧ (Lane.mastDecode t a l).cfg = l.cfg := by
  unfold Lane.mastDecode
  (try dsimp only)
  repeat' split
  all_goals simp

@[simp] theorem Lane.mastResponse_still (t : Nat) (a : MastResponse) (l : Lane)  :
    (Lane.mastResponse t a l).id = l.id ∧ (Lane.mastResponse t a l).lap = l.lap ∧ (Lane.mastResponse t a l).cfg = l.cfg := by
  unfold Lane.mastResponse
  (try dsimp only)
  repeat' split
  all_goals simp

@[simp] theorem Lane.mastMissed_still (t : Nat) (l : Lane) :
    (Lane.mastMissed t l).id = l.id ∧ (Lane.mastMissed t l).lap = l.lap ∧ (Lane.mastMissed t l).cfg = l.cfg := by
  unfold Lane.mastMissed
  (try dsimp only)
  repeat' split
  all_goals simp

@[simp] theorem Lane.mastTimeout_still (t : Nat) (l : Lane)  :
    (Lane.mastTimeout t l).id = l.id ∧ (Lane.mastTimeout t l).lap = l.lap ∧ (Lane.mastTimeout t l).cfg = l.cfg := by
  unfold Lane.mastTimeout
  (try dsimp only)
  repeat' split
  all_goals simp

@[simp] theorem Lane.mastTakeover_still (l : Lane)  :
    (Lane.mastTakeover l).id = l.id ∧ (Lane.mastTakeover l).lap = l.lap ∧ (Lane.mastTakeover l).cfg = l.cfg := by
  unfold Lane.mastTakeover
  (try dsimp only)
  repeat' split
  all_goals simp

@[simp] theorem Lane.mastFollow_still (l : Lane) (holder : Lane) (t : Nat)  :
    (Lane.mastFollow l holder t).id = l.id ∧ (Lane.mastFollow l holder t).lap = l.lap ∧ (Lane.mastFollow l holder t).cfg = l.cfg := by
  unfold Lane.mastFollow
  (try dsimp only)
  repeat' split
  all_goals simp

@[simp] theorem Lane.cmdMastWrite_still (fitted : Bool) (r : Request) (l : Lane)  :
    (Lane.cmdMastWrite fitted r l).1.id = l.id ∧ (Lane.cmdMastWrite fitted r l).1.lap = l.lap ∧ (Lane.cmdMastWrite fitted r l).1.cfg = l.cfg := by
  unfold Lane.cmdMastWrite
  (try dsimp only)
  repeat' split
  all_goals simp

@[simp] theorem Lane.cmdMastRead_still (fitted : Bool) (r : Request) (l : Lane)  :
    (Lane.cmdMastRead fitted r l).1.id = l.id ∧ (Lane.cmdMastRead fitted r l).1.lap = l.lap ∧ (Lane.cmdMastRead fitted r l).1.cfg = l.cfg := by
  unfold Lane.cmdMastRead
  (try dsimp only)
  repeat' split
  all_goals simp

@[simp] theorem Lane.cmdMastMap_still (fitted : Bool) (r : Request) (l : Lane)  :
    (Lane.cmdMastMap fitted r l).1.id = l.id ∧ (Lane.cmdMastMap fitted r l).1.lap = l.lap ∧ (Lane.cmdMastMap fitted r l).1.cfg = l.cfg := by
  unfold Lane.cmdMastMap
  (try dsimp only)
  repeat' split
  all_goals simp

@[simp] theorem Lane.cmdTuneStart_still (r : Request) (l : Lane)  :
    (Lane.cmdTuneStart r l).1.id = l.id ∧ (Lane.cmdTuneStart r l).1.lap = l.lap ∧ (Lane.cmdTuneStart r l).1.cfg = l.cfg := by
  unfold Lane.cmdTuneStart
  (try dsimp only)
  repeat' split
  all_goals simp

@[simp] theorem Lane.tuneAbort_still (cause : Int) (l : Lane)  :
    (Lane.tuneAbort cause l).id = l.id ∧ (Lane.tuneAbort cause l).lap = l.lap ∧ (Lane.tuneAbort cause l).cfg = l.cfg := by
  unfold Lane.tuneAbort
  (try dsimp only)
  repeat' split
  all_goals simp

@[simp] theorem Lane.tuneGuard_still (tripped : Nat → Bool) (l : Lane)  :
    (Lane.tuneGuard tripped l).id = l.id ∧ (Lane.tuneGuard tripped l).lap = l.lap ∧ (Lane.tuneGuard tripped l).cfg = l.cfg := by
  unfold Lane.tuneGuard
  (try dsimp only)
  repeat' split
  all_goals simp

@[simp] theorem Lane.tuneGuardAbort_still (l : Lane)  :
    (Lane.tuneGuardAbort l).id = l.id ∧ (Lane.tuneGuardAbort l).lap = l.lap ∧ (Lane.tuneGuardAbort l).cfg = l.cfg := by
  unfold Lane.tuneGuardAbort
  (try dsimp only)
  repeat' split
  all_goals simp

@[simp] theorem Lane.tuneStart_still (l : Lane)  :
    (Lane.tuneStart l).id = l.id ∧ (Lane.tuneStart l).lap = l.lap ∧ (Lane.tuneStart l).cfg = l.cfg := by
  unfold Lane.tuneStart
  (try dsimp only)
  repeat' split
  all_goals simp

@[simp] theorem Lane.tuneLap_still (l : Lane)  :
    (Lane.tuneLap l).id = l.id ∧ (Lane.tuneLap l).lap = l.lap ∧ (Lane.tuneLap l).cfg = l.cfg := by
  unfold Lane.tuneLap
  (try dsimp only)
  repeat' split
  all_goals simp

@[simp] theorem Lane.tuneComplete_still (l : Lane)  :
    (Lane.tuneComplete l).id = l.id ∧ (Lane.tuneComplete l).lap = l.lap ∧ (Lane.tuneComplete l).cfg = l.cfg := by
  unfold Lane.tuneComplete
  (try dsimp only)
  repeat' split
  all_goals simp

@[simp] theorem Lane.tuneTakeover_still (l : Lane)  :
    (Lane.tuneTakeover l).id = l.id ∧ (Lane.tuneTakeover l).lap = l.lap ∧ (Lane.tuneTakeover l).cfg = l.cfg := by
  unfold Lane.tuneTakeover
  (try dsimp only)
  repeat' split
  all_goals simp

@[simp] theorem Lane.tuneConfig_still (old : UMap Int) (oldGen : Nat → Nat) (l : Lane)  :
    (Lane.tuneConfig old oldGen l).id = l.id ∧ (Lane.tuneConfig old oldGen l).lap = l.lap ∧ (Lane.tuneConfig old oldGen l).cfg = l.cfg := by
  unfold Lane.tuneConfig
  (try dsimp only)
  repeat' split
  all_goals simp

@[simp] theorem Lane.cmdTuneResult_still (r : Request) (l : Lane)  :
    (Lane.cmdTuneResult r l).1.id = l.id ∧ (Lane.cmdTuneResult r l).1.lap = l.lap ∧ (Lane.cmdTuneResult r l).1.cfg = l.cfg := by
  unfold Lane.cmdTuneResult
  (try dsimp only)
  repeat' split
  all_goals simp

@[simp] theorem Lane.traceLap_still (l : Lane)  :
    (Lane.traceLap l).id = l.id ∧ (Lane.traceLap l).lap = l.lap ∧ (Lane.traceLap l).cfg = l.cfg := by
  unfold Lane.traceLap
  (try dsimp only)
  repeat' split
  all_goals simp

@[simp] theorem Lane.traceTrigger_still (source : Nat) (l : Lane)  :
    (Lane.traceTrigger source l).id = l.id ∧ (Lane.traceTrigger source l).lap = l.lap ∧ (Lane.traceTrigger source l).cfg = l.cfg := by
  unfold Lane.traceTrigger
  (try dsimp only)
  repeat' split
  all_goals simp

@[simp] theorem Lane.traceComplete_still (l : Lane)  :
    (Lane.traceComplete l).id = l.id ∧ (Lane.traceComplete l).lap = l.lap ∧ (Lane.traceComplete l).cfg = l.cfg := by
  unfold Lane.traceComplete
  (try dsimp only)
  repeat' split
  all_goals simp

@[simp] theorem Lane.cmdTraceArm_still (r : Request) (l : Lane)  :
    (Lane.cmdTraceArm r l).1.id = l.id ∧ (Lane.cmdTraceArm r l).1.lap = l.lap ∧ (Lane.cmdTraceArm r l).1.cfg = l.cfg := by
  unfold Lane.cmdTraceArm
  (try dsimp only)
  repeat' split
  all_goals simp

@[simp] theorem Lane.cmdTraceRead_still (r : Request) (l : Lane)  :
    (Lane.cmdTraceRead r l).1.id = l.id ∧ (Lane.cmdTraceRead r l).1.lap = l.lap ∧ (Lane.cmdTraceRead r l).1.cfg = l.cfg := by
  unfold Lane.cmdTraceRead
  (try dsimp only)
  repeat' split
  all_goals simp

@[simp] theorem Lane.cmdTuneStop_still (r : Request) (l : Lane)  :
    (Lane.cmdTuneStop r l).1.id = l.id ∧ (Lane.cmdTuneStop r l).1.lap = l.lap ∧ (Lane.cmdTuneStop r l).1.cfg = l.cfg := by
  unfold Lane.cmdTuneStop
  (try dsimp only)
  repeat' split
  all_goals simp

@[simp] theorem Lane.setRecord_still (r : AcqRecord) (l : Lane)  :
    (Lane.setRecord r l).id = l.id ∧ (Lane.setRecord r l).lap = l.lap ∧ (Lane.setRecord r l).cfg = l.cfg := by
  unfold Lane.setRecord
  (try dsimp only)
  repeat' split
  all_goals simp

@[simp] theorem Lane.showAcq_still (l : Lane)  :
    (Lane.showAcq l).id = l.id ∧ (Lane.showAcq l).lap = l.lap ∧ (Lane.showAcq l).cfg = l.cfg := by
  unfold Lane.showAcq
  (try dsimp only)
  repeat' split
  all_goals simp

@[simp] theorem Lane.endRecord_still (st : Nat) (l : Lane)  :
    (Lane.endRecord st l).id = l.id ∧ (Lane.endRecord st l).lap = l.lap ∧ (Lane.endRecord st l).cfg = l.cfg := by
  unfold Lane.endRecord
  (try dsimp only)
  repeat' split
  all_goals simp

@[simp] theorem Lane.setAcqChan_still (c : Nat) (x : AcqChan) (l : Lane)  :
    (Lane.setAcqChan c x l).id = l.id ∧ (Lane.setAcqChan c x l).lap = l.lap ∧ (Lane.setAcqChan c x l).cfg = l.cfg := by
  unfold Lane.setAcqChan
  (try dsimp only)
  repeat' split
  all_goals simp

@[simp] theorem Lane.acqStore_still (c : Nat) (value : Int) (status flags : Nat) (tag : AcqTag) (l : Lane) :
    (Lane.acqStore c value status flags tag l).id = l.id ∧ (Lane.acqStore c value status flags tag l).lap = l.lap ∧ (Lane.acqStore c value status flags tag l).cfg = l.cfg := by
  unfold Lane.acqStore
  (try dsimp only)
  repeat' split
  all_goals simp

@[simp] theorem Lane.acqMarker_still (flags : Nat) (time : Int) (l : Lane)  :
    (Lane.acqMarker flags time l).id = l.id ∧ (Lane.acqMarker flags time l).lap = l.lap ∧ (Lane.acqMarker flags time l).cfg = l.cfg := by
  unfold Lane.acqMarker
  (try dsimp only)
  repeat' split
  all_goals simp

@[simp] theorem Lane.trigOut_still (event : Int) (l : Lane)  :
    (Lane.trigOut event l).id = l.id ∧ (Lane.trigOut event l).lap = l.lap ∧ (Lane.trigOut event l).cfg = l.cfg := by
  unfold Lane.trigOut
  (try dsimp only)
  repeat' split
  all_goals simp

@[simp] theorem Lane.trigOutEnd_still (k : Nat) (l : Lane)  :
    (Lane.trigOutEnd k l).id = l.id ∧ (Lane.trigOutEnd k l).lap = l.lap ∧ (Lane.trigOutEnd k l).cfg = l.cfg := by
  unfold Lane.trigOutEnd
  (try dsimp only)
  repeat' split
  all_goals simp

@[simp] theorem Lane.noteTrigger_still (id : Nat) (tag : Int) (path : Nat) (l : Lane) :
    (Lane.noteTrigger id tag path l).id = l.id ∧ (Lane.noteTrigger id tag path l).lap = l.lap ∧ (Lane.noteTrigger id tag path l).cfg = l.cfg := by
  unfold Lane.noteTrigger
  (try dsimp only)
  repeat' split
  all_goals simp

@[simp] theorem Lane.sendTrigger_still (ks : List Nat) (id : Nat) (tag : Int) (path : Lane → Nat → Nat) (l : Lane) :
    (Lane.sendTrigger ks id tag path l).id = l.id ∧ (Lane.sendTrigger ks id tag path l).lap = l.lap ∧ (Lane.sendTrigger ks id tag path l).cfg = l.cfg := by
  unfold Lane.sendTrigger
  (try dsimp only)
  repeat' split
  all_goals simp

@[simp] theorem Lane.acqAccept_still (source0 : Nat) (time0 : Int) (l : Lane) :
    (Lane.acqAccept source0 time0 l).id = l.id ∧ (Lane.acqAccept source0 time0 l).lap = l.lap ∧ (Lane.acqAccept source0 time0 l).cfg = l.cfg := by
  unfold Lane.acqAccept
  (try dsimp only)
  repeat' split
  all_goals simp

@[simp] theorem Lane.acqTrigger_still (source : Nat) (time : Int) (l : Lane)  :
    (Lane.acqTrigger source time l).1.id = l.id ∧ (Lane.acqTrigger source time l).1.lap = l.lap ∧ (Lane.acqTrigger source time l).1.cfg = l.cfg := by
  unfold Lane.acqTrigger
  (try dsimp only)
  repeat' split
  all_goals simp

@[simp] theorem Lane.acqMet_still (i : Nat) (time : Int) (l : Lane)  :
    (Lane.acqMet i time l).id = l.id ∧ (Lane.acqMet i time l).lap = l.lap ∧ (Lane.acqMet i time l).cfg = l.cfg := by
  unfold Lane.acqMet
  (try dsimp only)
  repeat' split
  all_goals simp

@[simp] theorem Lane.acqCondition_still (l : Lane)  :
    (Lane.acqCondition l).id = l.id ∧ (Lane.acqCondition l).lap = l.lap ∧ (Lane.acqCondition l).cfg = l.cfg := by
  unfold Lane.acqCondition
  (try dsimp only)
  repeat' split
  all_goals simp

@[simp] theorem Lane.acqCompare_still (c : Nat) (value time : Int) (l : Lane)  :
    (Lane.acqCompare c value time l).id = l.id ∧ (Lane.acqCompare c value time l).lap = l.lap ∧ (Lane.acqCompare c value time l).cfg = l.cfg := by
  unfold Lane.acqCompare
  (try dsimp only)
  repeat' split
  all_goals simp

@[simp] theorem Lane.acqSample_still (c : Nat) (value : Int) (status : Nat) (tag : AcqTag) (l : Lane) :
    (Lane.acqSample c value status tag l).id = l.id ∧ (Lane.acqSample c value status tag l).lap = l.lap ∧ (Lane.acqSample c value status tag l).cfg = l.cfg := by
  unfold Lane.acqSample
  (try dsimp only)
  repeat' split
  all_goals simp

@[simp] theorem Lane.acqRelease_still (l : Lane) :
    (Lane.acqRelease l).id = l.id ∧ (Lane.acqRelease l).lap = l.lap ∧ (Lane.acqRelease l).cfg = l.cfg := by
  unfold Lane.acqRelease
  (try dsimp only)
  repeat' split
  all_goals simp

@[simp] theorem Lane.acqLap_still (l : Lane)  :
    (Lane.acqLap l).id = l.id ∧ (Lane.acqLap l).lap = l.lap ∧ (Lane.acqLap l).cfg = l.cfg := by
  unfold Lane.acqLap
  (try dsimp only)
  repeat' split
  all_goals simp

@[simp] theorem Lane.acqImage_still (read : Nat → Int × Nat) (endTime : Int) (l : Lane)  :
    (Lane.acqImage read endTime l).id = l.id ∧ (Lane.acqImage read endTime l).lap = l.lap ∧ (Lane.acqImage read endTime l).cfg = l.cfg := by
  unfold Lane.acqImage
  (try dsimp only)
  repeat' split
  all_goals simp

@[simp] theorem Lane.acqLines_still (line : Nat → Bool) (l : Lane)  :
    (Lane.acqLines line l).id = l.id ∧ (Lane.acqLines line l).lap = l.lap ∧ (Lane.acqLines line l).cfg = l.cfg := by
  unfold Lane.acqLines
  (try dsimp only)
  repeat' split
  all_goals simp

@[simp] theorem Lane.acqKeepalive_still (c : Nat) (l : Lane)  :
    (Lane.acqKeepalive c l).id = l.id ∧ (Lane.acqKeepalive c l).lap = l.lap ∧ (Lane.acqKeepalive c l).cfg = l.cfg := by
  unfold Lane.acqKeepalive
  (try dsimp only)
  repeat' split
  all_goals simp

@[simp] theorem Lane.acqInitial_still (line : Nat → Bool) (read : Nat → Int × Nat) (c : Nat) (l : Lane)  :
    (Lane.acqInitial line read c l).id = l.id ∧ (Lane.acqInitial line read c l).lap = l.lap ∧ (Lane.acqInitial line read c l).cfg = l.cfg := by
  unfold Lane.acqInitial
  (try dsimp only)
  repeat' split
  all_goals simp

@[simp] theorem Lane.acqOpen_still (line : Nat → Bool) (read : Nat → Int × Nat) (armId preMs postMs mib : Nat) (level : Option Nat) (l : Lane)  :
    (Lane.acqOpen line read armId preMs postMs mib level l).id = l.id ∧ (Lane.acqOpen line read armId preMs postMs mib level l).lap = l.lap ∧ (Lane.acqOpen line read armId preMs postMs mib level l).cfg = l.cfg := by
  unfold Lane.acqOpen
  (try dsimp only)
  repeat' split
  all_goals simp

@[simp] theorem Lane.acqPre_still (l : Lane)  :
    (Lane.acqPre l).id = l.id ∧ (Lane.acqPre l).lap = l.lap ∧ (Lane.acqPre l).cfg = l.cfg := by
  unfold Lane.acqPre
  (try dsimp only)
  repeat' split
  all_goals simp

@[simp] theorem Lane.acqPost_still (l : Lane)  :
    (Lane.acqPost l).id = l.id ∧ (Lane.acqPost l).lap = l.lap ∧ (Lane.acqPost l).cfg = l.cfg := by
  unfold Lane.acqPost
  (try dsimp only)
  repeat' split
  all_goals simp

@[simp] theorem Lane.acqFull_still (l : Lane)  :
    (Lane.acqFull l).id = l.id ∧ (Lane.acqFull l).lap = l.lap ∧ (Lane.acqFull l).cfg = l.cfg := by
  unfold Lane.acqFull
  (try dsimp only)
  repeat' split
  all_goals simp

@[simp] theorem Lane.acqPause_still (pause : Bool) (l : Lane)  :
    (Lane.acqPause pause l).id = l.id ∧ (Lane.acqPause pause l).lap = l.lap ∧ (Lane.acqPause pause l).cfg = l.cfg := by
  unfold Lane.acqPause
  (try dsimp only)
  repeat' split
  all_goals simp

@[simp] theorem Lane.trigIn_still (k : Nat) (rising : Bool) (l : Lane)  :
    (Lane.trigIn k rising l).id = l.id ∧ (Lane.trigIn k rising l).lap = l.lap ∧ (Lane.trigIn k rising l).cfg = l.cfg := by
  unfold Lane.trigIn
  (try dsimp only)
  repeat' split
  all_goals simp

@[simp] theorem Lane.acqTakeover_still (l : Lane)  :
    (Lane.acqTakeover l).id = l.id ∧ (Lane.acqTakeover l).lap = l.lap ∧ (Lane.acqTakeover l).cfg = l.cfg := by
  unfold Lane.acqTakeover
  (try dsimp only)
  repeat' split
  all_goals simp

@[simp] theorem Lane.acqLost_still (l : Lane) :
    (Lane.acqLost l).id = l.id ∧ (Lane.acqLost l).lap = l.lap ∧ (Lane.acqLost l).cfg = l.cfg := by
  unfold Lane.acqLost
  (try dsimp only)
  repeat' split
  all_goals simp

@[simp] theorem Lane.acqClose_still (l : Lane)  :
    (Lane.acqClose l).id = l.id ∧ (Lane.acqClose l).lap = l.lap ∧ (Lane.acqClose l).cfg = l.cfg := by
  unfold Lane.acqClose
  (try dsimp only)
  repeat' split
  all_goals simp

@[simp] theorem Lane.teamArmApply_still (line : Nat → Bool) (read : Nat → Int × Nat) (k : Nat) (l : Lane)  :
    (Lane.teamArmApply line read k l).id = l.id ∧ (Lane.teamArmApply line read k l).lap = l.lap ∧ (Lane.teamArmApply line read k l).cfg = l.cfg := by
  unfold Lane.teamArmApply
  (try dsimp only)
  repeat' split
  all_goals simp

@[simp] theorem Lane.relayTrigger_still (k id path : Nat) (tag : Int) (l : Lane) :
    (Lane.relayTrigger k id path tag l).id = l.id ∧ (Lane.relayTrigger k id path tag l).lap = l.lap ∧ (Lane.relayTrigger k id path tag l).cfg = l.cfg := by
  unfold Lane.relayTrigger
  (try dsimp only)
  repeat' split
  all_goals simp

@[simp] theorem Lane.teamTrigger_still (k id path : Nat) (tag : Int) (l : Lane)  :
    (Lane.teamTrigger k id path tag l).id = l.id ∧ (Lane.teamTrigger k id path tag l).lap = l.lap ∧ (Lane.teamTrigger k id path tag l).cfg = l.cfg := by
  unfold Lane.teamTrigger
  (try dsimp only)
  repeat' split
  all_goals simp

@[simp] theorem Lane.actOnFrame_still (k : Nat) (f : TeamFrame) (l : Lane)  :
    (Lane.actOnFrame k f l).id = l.id ∧ (Lane.actOnFrame k f l).lap = l.lap ∧ (Lane.actOnFrame k f l).cfg = l.cfg := by
  unfold Lane.actOnFrame
  (try dsimp only)
  repeat' split
  all_goals simp

@[simp] theorem Lane.cmdTeamTrigger_still (fitted : Bool) (r : Request) (l : Lane)  :
    (Lane.cmdTeamTrigger fitted r l).1.id = l.id ∧ (Lane.cmdTeamTrigger fitted r l).1.lap = l.lap ∧ (Lane.cmdTeamTrigger fitted r l).1.cfg = l.cfg := by
  unfold Lane.cmdTeamTrigger
  (try dsimp only)
  repeat' split
  all_goals simp

@[simp] theorem Lane.cmdAcqArm_still (line : Nat → Bool) (read : Nat → Int × Nat) (r : Request) (l : Lane)  :
    (Lane.cmdAcqArm line read r l).1.id = l.id ∧ (Lane.cmdAcqArm line read r l).1.lap = l.lap ∧ (Lane.cmdAcqArm line read r l).1.cfg = l.cfg := by
  unfold Lane.cmdAcqArm
  extract_lets pre post mib scope k e id aa l1 rep least at_ a
  have h1 : l1.id = l.id ∧ l1.lap = l.lap ∧ l1.cfg = l.cfg := by simp [l1]
  clear_value l1
  repeat' split
  all_goals simp [h1]

@[simp] theorem Lane.cmdAcqDisarm_still (r : Request) (l : Lane)  :
    (Lane.cmdAcqDisarm r l).1.id = l.id ∧ (Lane.cmdAcqDisarm r l).1.lap = l.lap ∧ (Lane.cmdAcqDisarm r l).1.cfg = l.cfg := by
  unfold Lane.cmdAcqDisarm
  (try dsimp only)
  repeat' split
  all_goals simp

@[simp] theorem Lane.cmdAcqTrigger_still (r : Request) (l : Lane)  :
    (Lane.cmdAcqTrigger r l).1.id = l.id ∧ (Lane.cmdAcqTrigger r l).1.lap = l.lap ∧ (Lane.cmdAcqTrigger r l).1.cfg = l.cfg := by
  unfold Lane.cmdAcqTrigger
  (try dsimp only)
  repeat' split
  all_goals simp

@[simp] theorem Lane.cmdAcqList_still (r : Request) (l : Lane)  :
    (Lane.cmdAcqList r l).1.id = l.id ∧ (Lane.cmdAcqList r l).1.lap = l.lap ∧ (Lane.cmdAcqList r l).1.cfg = l.cfg := by
  unfold Lane.cmdAcqList
  (try dsimp only)
  repeat' split
  all_goals simp

@[simp] theorem Lane.cmdAcqRead_still (r : Request) (l : Lane)  :
    (Lane.cmdAcqRead r l).1.id = l.id ∧ (Lane.cmdAcqRead r l).1.lap = l.lap ∧ (Lane.cmdAcqRead r l).1.cfg = l.cfg := by
  unfold Lane.cmdAcqRead
  (try dsimp only)
  repeat' split
  all_goals simp

@[simp] theorem Lane.cmdAcqDelete_still (r : Request) (l : Lane)  :
    (Lane.cmdAcqDelete r l).1.id = l.id ∧ (Lane.cmdAcqDelete r l).1.lap = l.lap ∧ (Lane.cmdAcqDelete r l).1.cfg = l.cfg := by
  unfold Lane.cmdAcqDelete
  (try dsimp only)
  repeat' split
  all_goals simp

@[simp] theorem Lane.showSensor_still (failed : Bool) (i : Nat) (v : Option Int) (l : Lane)  :
    (Lane.showSensor failed i v l).id = l.id ∧ (Lane.showSensor failed i v l).lap = l.lap ∧ (Lane.showSensor failed i v l).cfg = l.cfg := by
  unfold Lane.showSensor
  (try dsimp only)
  repeat' split
  all_goals simp

@[simp] theorem Lane.writeRecord_still (bytes : List Nat) (l : Lane)  :
    (Lane.writeRecord bytes l).id = l.id ∧ (Lane.writeRecord bytes l).lap = l.lap ∧ (Lane.writeRecord bytes l).cfg = l.cfg := by
  unfold Lane.writeRecord
  (try dsimp only)
  repeat' split
  all_goals simp

@[simp] theorem Lane.railsAndFans_still (h : Housekeeping) (l : Lane)  :
    (Lane.railsAndFans h l).id = l.id ∧ (Lane.railsAndFans h l).lap = l.lap ∧ (Lane.railsAndFans h l).cfg = l.cfg := by
  unfold Lane.railsAndFans
  (try dsimp only)
  repeat' split
  all_goals simp

@[simp] theorem Lane.fanFault_still (i : Nat) (l : Lane)  :
    (Lane.fanFault i l).id = l.id ∧ (Lane.fanFault i l).lap = l.lap ∧ (Lane.fanFault i l).cfg = l.cfg := by
  unfold Lane.fanFault
  (try dsimp only)
  repeat' split
  all_goals simp

@[simp] theorem Lane.memCheck_still (fails : Bool) (l : Lane) :
    (Lane.memCheck fails l).id = l.id ∧ (Lane.memCheck fails l).lap = l.lap ∧ (Lane.memCheck fails l).cfg = l.cfg := by
  unfold Lane.memCheck
  (try dsimp only)
  repeat' split
  all_goals simp

@[simp] theorem Lane.roundSensors_still (h : Housekeeping) (l : Lane)  :
    (Lane.roundSensors h l).1.id = l.id ∧ (Lane.roundSensors h l).1.lap = l.lap ∧ (Lane.roundSensors h l).1.cfg = l.cfg := by
  unfold Lane.roundSensors
  exact pairFold_still _ _ (fun a x => by simp) _

@[simp] theorem Lane.enterCritical_still (l : Lane)  :
    (Lane.enterCritical l).id = l.id ∧ (Lane.enterCritical l).lap = l.lap ∧ (Lane.enterCritical l).cfg = l.cfg := by
  unfold Lane.enterCritical
  (try dsimp only)
  repeat' split
  all_goals simp

@[simp] theorem Lane.housekeeping_still (h : Housekeeping) (l : Lane)  :
    (Lane.housekeeping h l).id = l.id ∧ (Lane.housekeeping h l).lap = l.lap ∧ (Lane.housekeeping h l).cfg = l.cfg := by
  unfold Lane.housekeeping
  extract_lets r l1 tm before b t2 l2 l3 l4 l5 l6 l7 l8 l9 l10
  have h1 : l1.id = l.id ∧ l1.lap = l.lap ∧ l1.cfg = l.cfg := by simp [l1, r]
  clear_value l1
  have h2 : l2.id = l.id ∧ l2.lap = l.lap ∧ l2.cfg = l.cfg := by simp [l2, h1]
  clear_value l2
  have h4 : l4.id = l.id ∧ l4.lap = l.lap ∧ l4.cfg = l.cfg := by simp [l4, l3, h2]
  clear_value l4
  have h6 : l6.id = l.id ∧ l6.lap = l.lap ∧ l6.cfg = l.cfg := by simp [l6, l5, h4]
  clear_value l6
  have h8 : l8.id = l.id ∧ l8.lap = l.lap ∧ l8.cfg = l.cfg := by simp [l8, l7, h6]
  clear_value l8
  have h10 : l10.id = l.id ∧ l10.lap = l.lap ∧ l10.cfg = l.cfg := by simp [l10, l9, h8]
  clear_value l10
  split
  · exact h6
  · split <;> simp [h10]

@[simp] theorem Lane.clockDivisor_still (l : Lane)  :
    (Lane.clockDivisor l).id = l.id ∧ (Lane.clockDivisor l).lap = l.lap ∧ (Lane.clockDivisor l).cfg = l.cfg := by
  unfold Lane.clockDivisor
  (try dsimp only)
  repeat' split
  all_goals simp

@[simp] theorem Lane.asleepThermal_still (xs : List Int) (l : Lane)  :
    (Lane.asleepThermal xs l).id = l.id ∧ (Lane.asleepThermal xs l).lap = l.lap ∧ (Lane.asleepThermal xs l).cfg = l.cfg := by
  unfold Lane.asleepThermal
  (try dsimp only)
  repeat' split
  all_goals simp

@[simp] theorem Lane.outerCorrect_still (d line : Nat) (l : Lane)  :
    (Lane.outerCorrect d line l).id = l.id ∧ (Lane.outerCorrect d line l).lap = l.lap ∧ (Lane.outerCorrect d line l).cfg = l.cfg := by
  unfold Lane.outerCorrect
  (try dsimp only)
  repeat' split
  all_goals simp

@[simp] theorem Lane.uncorrectable_still (line : Nat) (l : Lane)  :
    (Lane.uncorrectable line l).id = l.id ∧ (Lane.uncorrectable line l).lap = l.lap ∧ (Lane.uncorrectable line l).cfg = l.cfg := by
  unfold Lane.uncorrectable
  (try dsimp only)
  repeat' split
  all_goals simp

@[simp] theorem Lane.scrubNext_still (l : Lane)  :
    (Lane.scrubNext l).id = l.id ∧ (Lane.scrubNext l).lap = l.lap ∧ (Lane.scrubNext l).cfg = l.cfg := by
  unfold Lane.scrubNext
  (try dsimp only)
  repeat' split
  all_goals simp

@[simp] theorem Lane.pac_still (l : Lane) (f : PacerSt → PacerSt)  :
    (Lane.pac l f).id = l.id ∧ (Lane.pac l f).lap = l.lap ∧ (Lane.pac l f).cfg = l.cfg := by
  unfold Lane.pac
  (try dsimp only)
  repeat' split
  all_goals simp

@[simp] theorem Lane.pacerTo_still (st : Int) (l : Lane)  :
    (Lane.pacerTo st l).id = l.id ∧ (Lane.pacerTo st l).lap = l.lap ∧ (Lane.pacerTo st l).cfg = l.cfg := by
  unfold Lane.pacerTo
  (try dsimp only)
  repeat' split
  all_goals simp

@[simp] theorem Lane.pacerCheck_still (l : Lane) :
    (Lane.pacerCheck l).id = l.id ∧ (Lane.pacerCheck l).lap = l.lap ∧ (Lane.pacerCheck l).cfg = l.cfg := by
  unfold Lane.pacerCheck
  (try dsimp only)
  repeat' split
  all_goals simp

@[simp] theorem Lane.ptpTo_still (st : Int) (l : Lane)  :
    (Lane.ptpTo st l).id = l.id ∧ (Lane.ptpTo st l).lap = l.lap ∧ (Lane.ptpTo st l).cfg = l.cfg := by
  unfold Lane.ptpTo
  (try dsimp only)
  repeat' split
  all_goals simp

@[simp] theorem Lane.takeTime_still (l h : Lane) :
    (Lane.takeTime l h).id = l.id ∧ (Lane.takeTime l h).lap = l.lap ∧ (Lane.takeTime l h).cfg = l.cfg := by
  unfold Lane.takeTime
  (try dsimp only)
  repeat' split
  all_goals simp

@[simp] theorem Lane.followPacer_still (l h : Lane) :
    (Lane.followPacer l h).id = l.id ∧ (Lane.followPacer l h).lap = l.lap ∧ (Lane.followPacer l h).cfg = l.cfg := by
  unfold Lane.followPacer
  (try dsimp only)
  repeat' split
  all_goals simp

@[simp] theorem Lane.powerFor_still (ms : Nat) (l : Lane) :
    (Lane.powerFor ms l).id = l.id ∧ (Lane.powerFor ms l).lap = l.lap ∧ (Lane.powerFor ms l).cfg = l.cfg := by
  unfold Lane.powerFor
  (try dsimp only)
  repeat' split
  all_goals simp

@[simp] theorem Lane.powerMs_still (l : Lane) :
    (Lane.powerMs l).id = l.id ∧ (Lane.powerMs l).lap = l.lap ∧ (Lane.powerMs l).cfg = l.cfg := by
  unfold Lane.powerMs
  (try dsimp only)
  repeat' split
  all_goals simp

@[simp] theorem Lane.refsOff_still (l : Lane) :
    (Lane.refsOff l).id = l.id ∧ (Lane.refsOff l).lap = l.lap ∧ (Lane.refsOff l).cfg = l.cfg := by
  unfold Lane.refsOff
  (try dsimp only)
  repeat' split
  all_goals simp

@[simp] theorem Lane.lnk_still (l : Lane) (f : LinkSt → LinkSt)  :
    (Lane.lnk l f).id = l.id ∧ (Lane.lnk l f).lap = l.lap ∧ (Lane.lnk l f).cfg = l.cfg := by
  unfold Lane.lnk
  (try dsimp only)
  repeat' split
  all_goals simp

@[simp] theorem Lane.showState_still (l : Lane)  :
    (Lane.showState l).id = l.id ∧ (Lane.showState l).lap = l.lap ∧ (Lane.showState l).cfg = l.cfg := by
  unfold Lane.showState
  (try dsimp only)
  repeat' split
  all_goals simp

@[simp] theorem Lane.countGiveUp_still (cause : Nat) (l : Lane)  :
    (Lane.countGiveUp cause l).id = l.id ∧ (Lane.countGiveUp cause l).lap = l.lap ∧ (Lane.countGiveUp cause l).cfg = l.cfg := by
  unfold Lane.countGiveUp
  (try dsimp only)
  repeat' split
  all_goals simp

@[simp] theorem Lane.giveUpNow_still (l : Lane)  :
    (Lane.giveUpNow l).id = l.id ∧ (Lane.giveUpNow l).lap = l.lap ∧ (Lane.giveUpNow l).cfg = l.cfg := by
  unfold Lane.giveUpNow
  (try dsimp only)
  repeat' split
  all_goals simp

@[simp] theorem Lane.resendAll_still (l : Lane)  :
    (Lane.resendAll l).id = l.id ∧ (Lane.resendAll l).lap = l.lap ∧ (Lane.resendAll l).cfg = l.cfg := by
  unfold Lane.resendAll
  (try dsimp only)
  repeat' split
  all_goals simp

@[simp] theorem Lane.skipCounters_still (l : Lane)  :
    (Lane.skipCounters l).id = l.id ∧ (Lane.skipCounters l).lap = l.lap ∧ (Lane.skipCounters l).cfg = l.cfg := by
  unfold Lane.skipCounters
  (try dsimp only)
  repeat' split
  all_goals simp

@[simp] theorem Lane.takeoverFlags_still (l : Lane)  :
    (Lane.takeoverFlags l).id = l.id ∧ (Lane.takeoverFlags l).lap = l.lap ∧ (Lane.takeoverFlags l).cfg = l.cfg := by
  unfold Lane.takeoverFlags
  (try dsimp only)
  repeat' split
  all_goals simp

@[simp] theorem Lane.hostPortsDown_still (l : Lane)  :
    (Lane.hostPortsDown l).id = l.id ∧ (Lane.hostPortsDown l).lap = l.lap ∧ (Lane.hostPortsDown l).cfg = l.cfg := by
  unfold Lane.hostPortsDown
  (try dsimp only)
  repeat' split
  all_goals simp

@[simp] theorem Lane.copyTeam_still (l h : Lane) :
    (Lane.copyTeam l h).id = l.id ∧ (Lane.copyTeam l h).lap = l.lap ∧ (Lane.copyTeam l h).cfg = l.cfg := by
  unfold Lane.copyTeam
  (try dsimp only)
  repeat' split
  all_goals simp

@[simp] theorem Lane.copyTune_still (l h : Lane) :
    (Lane.copyTune l h).id = l.id ∧ (Lane.copyTune l h).lap = l.lap ∧ (Lane.copyTune l h).cfg = l.cfg := by
  unfold Lane.copyTune
  (try dsimp only)
  repeat' split
  all_goals simp

@[simp] theorem Lane.steered_still (steer : Bool) (l : Lane) :
    (Lane.steered steer l).id = l.id ∧ (Lane.steered steer l).lap = l.lap ∧ (Lane.steered steer l).cfg = l.cfg := by
  unfold Lane.steered
  (try dsimp only)
  repeat' split
  all_goals simp

@[simp] theorem Lane.refinQualified_still (steer : Bool) (l : Lane) :
    (Lane.refinQualified steer l).id = l.id ∧ (Lane.refinQualified steer l).lap = l.lap ∧ (Lane.refinQualified steer l).cfg = l.cfg := by
  unfold Lane.refinQualified
  (try dsimp only)
  repeat' split
  all_goals simp

@[simp] theorem Lane.refinLost_still (steer : Bool) (l : Lane) :
    (Lane.refinLost steer l).id = l.id ∧ (Lane.refinLost steer l).lap = l.lap ∧ (Lane.refinLost steer l).cfg = l.cfg := by
  unfold Lane.refinLost
  (try dsimp only)
  repeat' split
  all_goals simp

@[simp] theorem Lane.synciQualified_still (steer : Bool) (l : Lane) :
    (Lane.synciQualified steer l).id = l.id ∧ (Lane.synciQualified steer l).lap = l.lap ∧ (Lane.synciQualified steer l).cfg = l.cfg := by
  unfold Lane.synciQualified
  (try dsimp only)
  repeat' split
  all_goals simp

@[simp] theorem Lane.synciLost_still (steer : Bool) (l : Lane) :
    (Lane.synciLost steer l).id = l.id ∧ (Lane.synciLost steer l).lap = l.lap ∧ (Lane.synciLost steer l).cfg = l.cfg := by
  unfold Lane.synciLost
  (try dsimp only)
  repeat' split
  all_goals simp

@[simp] theorem Lane.markerMisaligned_still (l : Lane)  :
    (Lane.markerMisaligned l).id = l.id ∧ (Lane.markerMisaligned l).lap = l.lap ∧ (Lane.markerMisaligned l).cfg = l.cfg := by
  unfold Lane.markerMisaligned
  (try dsimp only)
  repeat' split
  all_goals simp

@[simp] theorem Lane.bandLock_still (band : Nat) (l : Lane)  :
    (Lane.bandLock band l).id = l.id ∧ (Lane.bandLock band l).lap = l.lap ∧ (Lane.bandLock band l).cfg = l.cfg := by
  unfold Lane.bandLock
  (try dsimp only)
  repeat' split
  all_goals simp

@[simp] theorem Lane.acquireComplete_still (steer : Bool) (freq phase : Int) (l : Lane) :
    (Lane.acquireComplete steer freq phase l).id = l.id ∧ (Lane.acquireComplete steer freq phase l).lap = l.lap ∧ (Lane.acquireComplete steer freq phase l).cfg = l.cfg := by
  unfold Lane.acquireComplete
  (try dsimp only)
  repeat' split
  all_goals simp

@[simp] theorem Lane.holdoverExpiry_still (steer : Bool) (l : Lane) :
    (Lane.holdoverExpiry steer l).id = l.id ∧ (Lane.holdoverExpiry steer l).lap = l.lap ∧ (Lane.holdoverExpiry steer l).cfg = l.cfg := by
  unfold Lane.holdoverExpiry
  (try dsimp only)
  repeat' split
  all_goals simp

@[simp] theorem Lane.returnComplete_still (steer : Bool) (l : Lane) :
    (Lane.returnComplete steer l).id = l.id ∧ (Lane.returnComplete steer l).lap = l.lap ∧ (Lane.returnComplete steer l).cfg = l.cfg := by
  unfold Lane.returnComplete
  (try dsimp only)
  repeat' split
  all_goals simp

@[simp] theorem Lane.pacerConfig_still (steer : Bool) (l : Lane) :
    (Lane.pacerConfig steer l).id = l.id ∧ (Lane.pacerConfig steer l).lap = l.lap ∧ (Lane.pacerConfig steer l).cfg = l.cfg := by
  unfold Lane.pacerConfig
  (try dsimp only)
  repeat' split
  all_goals simp

@[simp] theorem Lane.hostLost_still (l : Lane)  :
    (Lane.hostLost l).id = l.id ∧ (Lane.hostLost l).lap = l.lap ∧ (Lane.hostLost l).cfg = l.cfg := by
  unfold Lane.hostLost
  (try dsimp only)
  repeat' split
  all_goals simp

@[simp] theorem Lane.sessionLost_still (o : Nat) (l : Lane)  :
    (Lane.sessionLost o l).id = l.id ∧ (Lane.sessionLost o l).lap = l.lap ∧ (Lane.sessionLost o l).cfg = l.cfg := by
  unfold Lane.sessionLost
  (try dsimp only)
  repeat' split
  all_goals simp

@[simp] theorem Lane.plantLost_still (l : Lane)  :
    (Lane.plantLost l).id = l.id ∧ (Lane.plantLost l).lap = l.lap ∧ (Lane.plantLost l).cfg = l.cfg := by
  unfold Lane.plantLost
  (try dsimp only)
  repeat' split
  all_goals simp

@[simp] theorem Lane.asleepTick_still (l : Lane)  :
    (Lane.asleepTick l).id = l.id ∧ (Lane.asleepTick l).lap = l.lap ∧ (Lane.asleepTick l).cfg = l.cfg := by
  unfold Lane.asleepTick
  (try dsimp only)
  repeat' split
  all_goals simp

@[simp] theorem Lane.correctTime_still (target : Int) (l : Lane)  :
    (Lane.correctTime target l).id = l.id ∧ (Lane.correctTime target l).lap = l.lap ∧ (Lane.correctTime target l).cfg = l.cfg := by
  unfold Lane.correctTime
  (try dsimp only)
  repeat' split
  all_goals simp

@[simp] theorem Lane.todSet_still (v : Int) (l : Lane)  :
    (Lane.todSet v l).id = l.id ∧ (Lane.todSet v l).lap = l.lap ∧ (Lane.todSet v l).cfg = l.cfg := by
  unfold Lane.todSet
  (try dsimp only)
  repeat' split
  all_goals simp

@[simp] theorem Lane.todEpoch_still (l : Lane)  :
    (Lane.todEpoch l).id = l.id ∧ (Lane.todEpoch l).lap = l.lap ∧ (Lane.todEpoch l).cfg = l.cfg := by
  unfold Lane.todEpoch
  (try dsimp only)
  repeat' split
  all_goals simp

@[simp] theorem Lane.ptpOwn_still (l : Lane) :
    (Lane.ptpOwn l).id = l.id ∧ (Lane.ptpOwn l).lap = l.lap ∧ (Lane.ptpOwn l).cfg = l.cfg := by
  unfold Lane.ptpOwn
  (try dsimp only)
  repeat' split
  all_goals simp

@[simp] theorem Lane.ptpMessage_still (port : Nat) (m : PtpMessage) (l : Lane)  :
    (Lane.ptpMessage port m l).id = l.id ∧ (Lane.ptpMessage port m l).lap = l.lap ∧ (Lane.ptpMessage port m l).cfg = l.cfg := by
  unfold Lane.ptpMessage
  (try dsimp only)
  repeat' split
  all_goals simp

@[simp] theorem Lane.ptpSend_still (kind : Nat) (l : Lane)  :
    (Lane.ptpSend kind l).id = l.id ∧ (Lane.ptpSend kind l).lap = l.lap ∧ (Lane.ptpSend kind l).cfg = l.cfg := by
  unfold Lane.ptpSend
  (try dsimp only)
  repeat' split
  all_goals simp

@[simp] theorem Lane.pow_still (l : Lane) (f : PowerSt → PowerSt)  :
    (Lane.pow l f).id = l.id ∧ (Lane.pow l f).lap = l.lap ∧ (Lane.pow l f).cfg = l.cfg := by
  unfold Lane.pow
  (try dsimp only)
  repeat' split
  all_goals simp

@[simp] theorem Lane.ttShow_still (l : Lane)  :
    (Lane.ttShow l).id = l.id ∧ (Lane.ttShow l).lap = l.lap ∧ (Lane.ttShow l).cfg = l.cfg := by
  unfold Lane.ttShow
  (try dsimp only)
  repeat' split
  all_goals simp

@[simp] theorem Lane.ttExpiry_still (id : Nat) (l : Lane)  :
    (Lane.ttExpiry id l).id = l.id ∧ (Lane.ttExpiry id l).lap = l.lap ∧ (Lane.ttExpiry id l).cfg = l.cfg := by
  unfold Lane.ttExpiry
  (try dsimp only)
  repeat' split
  all_goals simp

@[simp] theorem Lane.ttFire_still (e : TtEntry) (l : Lane)  :
    (Lane.ttFire e l).id = l.id ∧ (Lane.ttFire e l).lap = l.lap ∧ (Lane.ttFire e l).cfg = l.cfg := by
  unfold Lane.ttFire
  (try dsimp only)
  repeat' split
  all_goals simp

@[simp] theorem Lane.discardStaged_still (l : Lane)  :
    (Lane.discardStaged l).id = l.id ∧ (Lane.discardStaged l).lap = l.lap ∧ (Lane.discardStaged l).cfg = l.cfg := by
  unfold Lane.discardStaged
  (try dsimp only)
  repeat' split
  all_goals simp

@[simp] theorem Lane.saveCounters_still (l : Lane) :
    (Lane.saveCounters l).id = l.id ∧ (Lane.saveCounters l).lap = l.lap ∧ (Lane.saveCounters l).cfg = l.cfg := by
  unfold Lane.saveCounters
  (try dsimp only)
  repeat' split
  all_goals simp

@[simp] theorem Lane.fallAsleep_still (l : Lane)  :
    (Lane.fallAsleep l).id = l.id ∧ (Lane.fallAsleep l).lap = l.lap ∧ (Lane.fallAsleep l).cfg = l.cfg := by
  unfold Lane.fallAsleep
  (try dsimp only)
  repeat' split
  all_goals simp

@[simp] theorem Lane.mastStarts_still (v : Variant) (l : Lane)  :
    (Lane.mastStarts v l).id = l.id ∧ (Lane.mastStarts v l).lap = l.lap ∧ (Lane.mastStarts v l).cfg = l.cfg := by
  unfold Lane.mastStarts
  (try dsimp only)
  repeat' split
  all_goals simp

@[simp] theorem Lane.busUp_still (b : Nat) (l : Lane)  :
    (Lane.busUp b l).id = l.id ∧ (Lane.busUp b l).lap = l.lap ∧ (Lane.busUp b l).cfg = l.cfg := by
  unfold Lane.busUp
  (try dsimp only)
  repeat' split
  all_goals simp

@[simp] theorem Lane.asleepReads_still (l : Lane) :
    (Lane.asleepReads l).id = l.id ∧ (Lane.asleepReads l).lap = l.lap ∧ (Lane.asleepReads l).cfg = l.cfg := by
  unfold Lane.asleepReads
  (try dsimp only)
  repeat' split
  all_goals simp

@[simp] theorem Lane.gateClocks_still (mast : Bool) (l : Lane)  :
    (Lane.gateClocks mast l).id = l.id ∧ (Lane.gateClocks mast l).lap = l.lap ∧ (Lane.gateClocks mast l).cfg = l.cfg := by
  unfold Lane.gateClocks
  (try dsimp only)
  repeat' split
  all_goals simp

@[simp] theorem Lane.wakeEvents_still (l : Lane)  :
    (Lane.wakeEvents l).id = l.id ∧ (Lane.wakeEvents l).lap = l.lap ∧ (Lane.wakeEvents l).cfg = l.cfg := by
  unfold Lane.wakeEvents
  extract_lets l2 hh l1 l3
  have h1 : l1.id = l.id ∧ l1.lap = l.lap ∧ l1.cfg = l.cfg := by
    simp only [l1]; split <;> simp [l2]
  clear_value l1
  have h3 : l3.id = l1.id ∧ l3.lap = l1.lap ∧ l3.cfg = l1.cfg := by
    refine Lane.forL_still _ _ (fun x l => ?_) l1
    split <;> simp
  simp [h3, h1]

@[simp] theorem Lane.coldLoss_still (l0 : Lane)  :
    (Lane.coldLoss l0).id = l0.id ∧ (Lane.coldLoss l0).lap = l0.lap ∧ (Lane.coldLoss l0).cfg = l0.cfg := by
  unfold Lane.coldLoss
  (try dsimp only)
  repeat' split
  all_goals simp

@[simp] theorem Lane.coldStart_still (v : Variant) (l : Lane)  :
    (Lane.coldStart v l).id = l.id ∧ (Lane.coldStart v l).lap = l.lap ∧ (Lane.coldStart v l).cfg = l.cfg := by
  unfold Lane.coldStart
  (try dsimp only)
  repeat' split
  all_goals simp

@[simp] theorem Lane.sleepLoss_still (l : Lane) :
    (Lane.sleepLoss l).id = l.id ∧ (Lane.sleepLoss l).lap = l.lap ∧ (Lane.sleepLoss l).cfg = l.cfg := by
  unfold Lane.sleepLoss
  (try dsimp only)
  repeat' split
  all_goals simp

@[simp] theorem Lane.powerBack_still (ms : Nat) (clockOk ok0 ok1 held : Bool) (l : Lane) :
    (Lane.powerBack ms clockOk ok0 ok1 held l).id = l.id ∧ (Lane.powerBack ms clockOk ok0 ok1 held l).lap = l.lap ∧ (Lane.powerBack ms clockOk ok0 ok1 held l).cfg = l.cfg := by
  unfold Lane.powerBack
  (try dsimp only)
  repeat' split
  all_goals simp

@[simp] theorem Lane.backupGone_still (l : Lane)  :
    (Lane.backupGone l).id = l.id ∧ (Lane.backupGone l).lap = l.lap ∧ (Lane.backupGone l).cfg = l.cfg := by
  unfold Lane.backupGone
  (try dsimp only)
  repeat' split
  all_goals simp

@[simp] theorem Lane.cmdTtWrite_still (r : Request) (l : Lane)  :
    (Lane.cmdTtWrite r l).1.id = l.id ∧ (Lane.cmdTtWrite r l).1.lap = l.lap ∧ (Lane.cmdTtWrite r l).1.cfg = l.cfg := by
  unfold Lane.cmdTtWrite
  (try dsimp only)
  repeat' split
  all_goals simp

@[simp] theorem Lane.cmdTtRead_still (r : Request) (l : Lane)  :
    (Lane.cmdTtRead r l).1.id = l.id ∧ (Lane.cmdTtRead r l).1.lap = l.lap ∧ (Lane.cmdTtRead r l).1.cfg = l.cfg := by
  unfold Lane.cmdTtRead
  (try dsimp only)
  repeat' split
  all_goals simp

@[simp] theorem Lane.cmdTtClear_still (r : Request) (l : Lane)  :
    (Lane.cmdTtClear r l).1.id = l.id ∧ (Lane.cmdTtClear r l).1.lap = l.lap ∧ (Lane.cmdTtClear r l).1.cfg = l.cfg := by
  unfold Lane.cmdTtClear
  (try dsimp only)
  repeat' split
  all_goals simp

@[simp] theorem Lane.freezeMoved_still (m : UMap Int) (l : Lane) :
    (Lane.freezeMoved m l).id = l.id ∧ (Lane.freezeMoved m l).lap = l.lap ∧ (Lane.freezeMoved m l).cfg = l.cfg := by
  unfold Lane.freezeMoved
  (try dsimp only)
  repeat' split
  all_goals simp

@[simp] theorem Lane.commitValidation_still (v : Variant) (sealOpen : Bool) (l : Lane)  :
    (Lane.commitValidation v sealOpen l).id = l.id ∧ (Lane.commitValidation v sealOpen l).lap = l.lap ∧ (Lane.commitValidation v sealOpen l).cfg = l.cfg := by
  unfold Lane.commitValidation
  (try dsimp only)
  repeat' split
  all_goals simp

@[simp] theorem Lane.commitOutcome_still (epoch : Nat) (c : Commit) (l : Lane)  :
    (Lane.commitOutcome epoch c l).id = l.id ∧ (Lane.commitOutcome epoch c l).lap = l.lap ∧ (Lane.commitOutcome epoch c l).cfg = l.cfg := by
  unfold Lane.commitOutcome
  (try dsimp only)
  repeat' split
  all_goals simp

@[simp] theorem Lane.thaw_still (l : Lane)  :
    (Lane.thaw l).id = l.id ∧ (Lane.thaw l).lap = l.lap ∧ (Lane.thaw l).cfg = l.cfg := by
  unfold Lane.thaw
  (try dsimp only)
  repeat' split
  all_goals simp

@[simp] theorem Lane.armWatches_still (epoch : Nat) (ws : List (Nat × Int)) (l : Lane)  :
    (Lane.armWatches epoch ws l).id = l.id ∧ (Lane.armWatches epoch ws l).lap = l.lap ∧ (Lane.armWatches epoch ws l).cfg = l.cfg := by
  unfold Lane.armWatches
  (try dsimp only)
  repeat' split
  all_goals simp

@[simp] theorem Lane.settleCommits_still (agree : Bool) (l : Lane)  :
    (Lane.settleCommits agree l).id = l.id ∧ (Lane.settleCommits agree l).lap = l.lap ∧ (Lane.settleCommits agree l).cfg = l.cfg := by
  unfold Lane.settleCommits
  (try dsimp only)
  repeat' split
  all_goals simp

@[simp] theorem Lane.clampHistories_still (t : Nat) (l : Lane)  :
    (Lane.clampHistories t l).id = l.id ∧ (Lane.clampHistories t l).lap = l.lap ∧ (Lane.clampHistories t l).cfg = l.cfg := by
  unfold Lane.clampHistories
  (try dsimp only)
  repeat' split
  all_goals simp

@[simp] theorem Lane.swapSlot_still (old : Lane) (t : Nat) (l : Lane)  :
    (Lane.swapSlot old t l).id = l.id ∧ (Lane.swapSlot old t l).lap = l.lap ∧ (Lane.swapSlot old t l).cfg = l.cfg := by
  unfold Lane.swapSlot
  (try dsimp only)
  repeat' split
  all_goals simp

@[simp] theorem Lane.sumLap_still (outlets : Nat) (l : Lane)  :
    (Lane.sumLap outlets l).id = l.id ∧ (Lane.sumLap outlets l).lap = l.lap ∧ (Lane.sumLap outlets l).cfg = l.cfg := by
  unfold Lane.sumLap
  (try dsimp only)
  repeat' split
  all_goals simp

@[simp] theorem Lane.closeMeans_still (outlets : Nat) (l : Lane) :
    (Lane.closeMeans outlets l).id = l.id ∧ (Lane.closeMeans outlets l).lap = l.lap ∧ (Lane.closeMeans outlets l).cfg = l.cfg := by
  unfold Lane.closeMeans
  (try dsimp only)
  repeat' split
  all_goals simp

@[simp] theorem Lane.allocInputs_still (laps : Int) (outlets : Nat) (old : Lane) (l : Lane)  :
    (Lane.allocInputs laps outlets old l).id = l.id ∧ (Lane.allocInputs laps outlets old l).lap = l.lap ∧ (Lane.allocInputs laps outlets old l).cfg = l.cfg := by
  unfold Lane.allocInputs
  (try dsimp only)
  repeat' split
  all_goals simp

@[simp] theorem Lane.capture_still (s : State) (i : LaneId) (l : Lane)  :
    (Lane.capture s i l).id = l.id ∧ (Lane.capture s i l).lap = l.lap ∧ (Lane.capture s i l).cfg = l.cfg := by
  unfold Lane.capture
  (try dsimp only)
  repeat' split
  all_goals simp

@[simp] theorem Lane.watchOne_still (v : Variant) (img : Image) (w : Nat) (l : Lane)  :
    (Lane.watchOne v img w l).id = l.id ∧ (Lane.watchOne v img w l).lap = l.lap ∧ (Lane.watchOne v img w l).cfg = l.cfg := by
  unfold Lane.watchOne
  (try dsimp only)
  repeat' split
  all_goals simp

@[simp] theorem Lane.notify_still (v : Variant) (img : Image) (q : Nat) (b : Sub) (due : List Nat) (more : Bool) (l : Lane)  :
    (Lane.notify v img q b due more l).id = l.id ∧ (Lane.notify v img q b due more l).lap = l.lap ∧ (Lane.notify v img q b due more l).cfg = l.cfg := by
  unfold Lane.notify
  (try dsimp only)
  repeat' split
  all_goals simp

@[simp] theorem Lane.notifyAll_still (v : Variant) (img : Image) (l : Lane)  :
    (Lane.notifyAll v img l).id = l.id ∧ (Lane.notifyAll v img l).lap = l.lap ∧ (Lane.notifyAll v img l).cfg = l.cfg := by
  unfold Lane.notifyAll
  (try dsimp only)
  repeat' split
  all_goals simp

@[simp] theorem Lane.notificationRoom_still (v : Variant) (q id : Nat) (l : Lane)  :
    (Lane.notificationRoom v q id l).id = l.id ∧ (Lane.notificationRoom v q id l).lap = l.lap ∧ (Lane.notificationRoom v q id l).cfg = l.cfg := by
  unfold Lane.notificationRoom
  (try dsimp only)
  repeat' split
  all_goals simp

@[simp] theorem Lane.publish_still (v : Variant) (l : Lane) :
    (Lane.publish v l).id = l.id ∧ (Lane.publish v l).lap = l.lap ∧ (Lane.publish v l).cfg = l.cfg := by
  unfold Lane.publish
  (try dsimp only)
  repeat' split
  all_goals simp

@[simp] theorem Lane.sealImage_still (v : Variant) (l : Lane)  :
    (Lane.sealImage v l).id = l.id ∧ (Lane.sealImage v l).lap = l.lap ∧ (Lane.sealImage v l).cfg = l.cfg := by
  unfold Lane.sealImage
  (try dsimp only)
  repeat' split
  all_goals simp

@[simp] theorem Lane.cmdSnapshot_still (v : Variant) (r : Request) (l : Lane)  :
    (Lane.cmdSnapshot v r l).1.id = l.id ∧ (Lane.cmdSnapshot v r l).1.lap = l.lap ∧ (Lane.cmdSnapshot v r l).1.cfg = l.cfg := by
  unfold Lane.cmdSnapshot
  (try dsimp only)
  repeat' split
  all_goals simp

@[simp] theorem Lane.answerRead_still (v : Variant) (w : WaitingRead) (l : Lane)  :
    (Lane.answerRead v w l).id = l.id ∧ (Lane.answerRead v w l).lap = l.lap ∧ (Lane.answerRead v w l).cfg = l.cfg := by
  unfold Lane.answerRead
  (try dsimp only)
  repeat' split
  all_goals simp

@[simp] theorem Lane.snapshotReady_still (v : Variant) (l : Lane)  :
    (Lane.snapshotReady v l).id = l.id ∧ (Lane.snapshotReady v l).lap = l.lap ∧ (Lane.snapshotReady v l).cfg = l.cfg := by
  unfold Lane.snapshotReady
  (try dsimp only)
  repeat' split
  all_goals simp

@[simp] theorem Lane.snapshotTimeout_still (v : Variant) (seq : Nat) (l : Lane)  :
    (Lane.snapshotTimeout v seq l).id = l.id ∧ (Lane.snapshotTimeout v seq l).lap = l.lap ∧ (Lane.snapshotTimeout v seq l).cfg = l.cfg := by
  unfold Lane.snapshotTimeout
  (try dsimp only)
  repeat' split
  all_goals simp

@[simp] theorem Lane.memberImage_still (v : Variant) (m : Nat) (e : MemberEntry) (l : Lane)  :
    (Lane.memberImage v m e l).id = l.id ∧ (Lane.memberImage v m e l).lap = l.lap ∧ (Lane.memberImage v m e l).cfg = l.cfg := by
  unfold Lane.memberImage
  (try dsimp only)
  repeat' split
  all_goals simp

@[simp] theorem Lane.cmdReadStaged_still (s : State) (r : Request) (l : Lane) :
    (Lane.cmdReadStaged s r l).1.id = l.id ∧ (Lane.cmdReadStaged s r l).1.lap = l.lap ∧ (Lane.cmdReadStaged s r l).1.cfg = l.cfg := by
  unfold Lane.cmdReadStaged
  (try dsimp only)
  repeat' split
  all_goals simp

@[simp] theorem Lane.cmdHistory_still (r : Request) (l : Lane)  :
    (Lane.cmdHistory r l).1.id = l.id ∧ (Lane.cmdHistory r l).1.lap = l.lap ∧ (Lane.cmdHistory r l).1.cfg = l.cfg := by
  unfold Lane.cmdHistory
  (try dsimp only)
  repeat' split
  all_goals simp

@[simp] theorem Lane.cmdSubscribe_still (r : Request) (l : Lane)  :
    (Lane.cmdSubscribe r l).1.id = l.id ∧ (Lane.cmdSubscribe r l).1.lap = l.lap ∧ (Lane.cmdSubscribe r l).1.cfg = l.cfg := by
  unfold Lane.cmdSubscribe
  (try dsimp only)
  repeat' split
  all_goals simp

@[simp] theorem Lane.cmdUnsubscribe_still (r : Request) (l : Lane)  :
    (Lane.cmdUnsubscribe r l).1.id = l.id ∧ (Lane.cmdUnsubscribe r l).1.lap = l.lap ∧ (Lane.cmdUnsubscribe r l).1.cfg = l.cfg := by
  unfold Lane.cmdUnsubscribe
  (try dsimp only)
  repeat' split
  all_goals simp

@[simp] theorem Lane.immediate_still (w : Nat × Nat) (l : Lane)  :
    (Lane.immediate w l).id = l.id ∧ (Lane.immediate w l).lap = l.lap ∧ (Lane.immediate w l).cfg = l.cfg := by
  unfold Lane.immediate
  (try dsimp only)
  repeat' split
  all_goals simp

@[simp] theorem Lane.refusedTest_still (st : Nat) (w : Nat × Nat) (l : Lane) :
    (Lane.refusedTest st w l).id = l.id ∧ (Lane.refusedTest st w l).lap = l.lap ∧ (Lane.refusedTest st w l).cfg = l.cfg := by
  unfold Lane.refusedTest
  (try dsimp only)
  repeat' split
  all_goals simp

@[simp] theorem Lane.cmdStage_still (v : Variant) (r : Request) (l : Lane)  :
    (Lane.cmdStage v r l).1.id = l.id ∧ (Lane.cmdStage v r l).1.lap = l.lap ∧ (Lane.cmdStage v r l).1.cfg = l.cfg := by
  unfold Lane.cmdStage
  (try dsimp only)
  repeat' split
  all_goals simp

@[simp] theorem Lane.cmdCommit_still (v : Variant) (sealOpen : Bool) (r : Request) (l : Lane) :
    (Lane.cmdCommit v sealOpen r l).1.id = l.id ∧ (Lane.cmdCommit v sealOpen r l).1.lap = l.lap ∧ (Lane.cmdCommit v sealOpen r l).1.cfg = l.cfg := by
  unfold Lane.cmdCommit
  (try dsimp only)
  repeat' split
  all_goals simp

@[simp] theorem Lane.cmdDiscard_still (r : Request) (l : Lane)  :
    (Lane.cmdDiscard r l).1.id = l.id ∧ (Lane.cmdDiscard r l).1.lap = l.lap ∧ (Lane.cmdDiscard r l).1.cfg = l.cfg := by
  unfold Lane.cmdDiscard
  (try dsimp only)
  repeat' split
  all_goals simp

@[simp] theorem Lane.cmdCommitList_still (r : Request) (l : Lane)  :
    (Lane.cmdCommitList r l).1.id = l.id ∧ (Lane.cmdCommitList r l).1.lap = l.lap ∧ (Lane.cmdCommitList r l).1.cfg = l.cfg := by
  unfold Lane.cmdCommitList
  (try dsimp only)
  repeat' split
  all_goals simp

@[simp] theorem Lane.hst_still (l : Lane) (f : HostSt → HostSt)  :
    (Lane.hst l f).id = l.id ∧ (Lane.hst l f).lap = l.lap ∧ (Lane.hst l f).cfg = l.cfg := by
  unfold Lane.hst
  (try dsimp only)
  repeat' split
  all_goals simp

@[simp] theorem Lane.resendHistory_still (q : Nat) (h : History) (l : Lane)  :
    (Lane.resendHistory q h l).id = l.id ∧ (Lane.resendHistory q h l).lap = l.lap ∧ (Lane.resendHistory q h l).cfg = l.cfg := by
  unfold Lane.resendHistory
  (try dsimp only)
  repeat' split
  all_goals simp

@[simp] theorem Lane.resync_still (q : Nat) (l : Lane)  :
    (Lane.resync q l).id = l.id ∧ (Lane.resync q l).lap = l.lap ∧ (Lane.resync q l).cfg = l.cfg := by
  unfold Lane.resync
  (try dsimp only)
  repeat' split
  all_goals simp

@[simp] theorem Lane.callMember_still (r : Request) (l : Lane) :
    (Lane.callMember r l).id = l.id ∧ (Lane.callMember r l).lap = l.lap ∧ (Lane.callMember r l).cfg = l.cfg := by
  unfold Lane.callMember
  (try dsimp only)
  repeat' split
  all_goals simp

@[simp] theorem Lane.accept_still (r : Request) (l : Lane)  :
    (Lane.accept r l).id = l.id ∧ (Lane.accept r l).lap = l.lap ∧ (Lane.accept r l).cfg = l.cfg := by
  unfold Lane.accept
  (try dsimp only)
  repeat' split
  all_goals simp

@[simp] theorem Lane.acknowledge_still (q ack : Nat) (l : Lane)  :
    (Lane.acknowledge q ack l).id = l.id ∧ (Lane.acknowledge q ack l).lap = l.lap ∧ (Lane.acknowledge q ack l).cfg = l.cfg := by
  unfold Lane.acknowledge
  (try dsimp only)
  repeat' split
  all_goals simp

@[simp] theorem Lane.takeCounter_still (slot c : Nat) (other : Bool) (l : Lane)  :
    (Lane.takeCounter slot c other l).id = l.id ∧ (Lane.takeCounter slot c other l).lap = l.lap ∧ (Lane.takeCounter slot c other l).cfg = l.cfg := by
  unfold Lane.takeCounter
  (try dsimp only)
  repeat' split
  all_goals simp

@[simp] theorem Lane.takeEntries_still (f : Forward) (l : Lane)  :
    (Lane.takeEntries f l).id = l.id ∧ (Lane.takeEntries f l).lap = l.lap ∧ (Lane.takeEntries f l).cfg = l.cfg := by
  unfold Lane.takeEntries
  (try dsimp only)
  repeat' split
  all_goals simp

@[simp] theorem Lane.ringDatagrams_still (q : Nat) (l : Lane) :
    (Lane.ringDatagrams q l).id = l.id ∧ (Lane.ringDatagrams q l).lap = l.lap ∧ (Lane.ringDatagrams q l).cfg = l.cfg := by
  unfold Lane.ringDatagrams
  (try dsimp only)
  repeat' split
  all_goals simp

@[simp] theorem Lane.ringOut_still (q : Nat) (l : Lane) :
    (Lane.ringOut q l).id = l.id ∧ (Lane.ringOut q l).lap = l.lap ∧ (Lane.ringOut q l).cfg = l.cfg := by
  unfold Lane.ringOut
  (try dsimp only)
  repeat' split
  all_goals simp

@[simp] theorem Lane.sendDatagrams_still (l : Lane)  :
    (Lane.sendDatagrams l).id = l.id ∧ (Lane.sendDatagrams l).lap = l.lap ∧ (Lane.sendDatagrams l).cfg = l.cfg := by
  unfold Lane.sendDatagrams
  (try dsimp only)
  repeat' split
  all_goals simp

@[simp] theorem Lane.counterMirror_still (l h : Lane) :
    (Lane.counterMirror l h).id = l.id ∧ (Lane.counterMirror l h).lap = l.lap ∧ (Lane.counterMirror l h).cfg = l.cfg := by
  unfold Lane.counterMirror
  (try dsimp only)
  repeat' split
  all_goals simp

@[simp] theorem Lane.resendTimer_still (q : Nat) (l : Lane)  :
    (Lane.resendTimer q l).id = l.id ∧ (Lane.resendTimer q l).lap = l.lap ∧ (Lane.resendTimer q l).cfg = l.cfg := by
  unfold Lane.resendTimer
  (try dsimp only)
  repeat' split
  all_goals simp

@[simp] theorem Lane.takeAt_still (n : Nat) (r : Request) (l : Lane) :
    (Lane.takeAt n r l).id = l.id ∧ (Lane.takeAt n r l).lap = l.lap ∧ (Lane.takeAt n r l).cfg = l.cfg := by
  unfold Lane.takeAt
  (try dsimp only)
  repeat' split
  all_goals simp

@[simp] theorem Lane.takeOut_still (r : Request) (l : Lane)  :
    (Lane.takeOut r l).id = l.id ∧ (Lane.takeOut r l).lap = l.lap ∧ (Lane.takeOut r l).cfg = l.cfg := by
  unfold Lane.takeOut
  (try dsimp only)
  repeat' split
  all_goals simp

@[simp] theorem Lane.takeUpTo_still (b : Bool) (n : Nat) (l : Lane) :
    (Lane.takeUpTo b n l).id = l.id ∧ (Lane.takeUpTo b n l).lap = l.lap ∧ (Lane.takeUpTo b n l).cfg = l.cfg := by
  induction n generalizing l with
  | zero => simp [Lane.takeUpTo]
  | succ n ih =>
    unfold Lane.takeUpTo
    dsimp only
    repeat' split
    all_goals simp [ih]

@[simp] theorem Lane.retire_still (r : Request) (l : Lane)  :
    (Lane.retire r l).id = l.id ∧ (Lane.retire r l).lap = l.lap ∧ (Lane.retire r l).cfg = l.cfg := by
  unfold Lane.retire
  (try dsimp only)
  repeat' split
  all_goals simp

@[simp] theorem Lane.cmdNop_still (r : Request) (l : Lane)  :
    (Lane.cmdNop r l).1.id = l.id ∧ (Lane.cmdNop r l).1.lap = l.lap ∧ (Lane.cmdNop r l).1.cfg = l.cfg := by
  unfold Lane.cmdNop
  (try dsimp only)
  repeat' split
  all_goals simp

@[simp] theorem Lane.cmdRingSet_still (r : Request) (l : Lane)  :
    (Lane.cmdRingSet r l).1.id = l.id ∧ (Lane.cmdRingSet r l).1.lap = l.lap ∧ (Lane.cmdRingSet r l).1.cfg = l.cfg := by
  unfold Lane.cmdRingSet
  (try dsimp only)
  repeat' split
  all_goals simp

@[simp] theorem Lane.cmdRingResync_still (r : Request) (l : Lane)  :
    (Lane.cmdRingResync r l).1.id = l.id ∧ (Lane.cmdRingResync r l).1.lap = l.lap ∧ (Lane.cmdRingResync r l).1.cfg = l.cfg := by
  unfold Lane.cmdRingResync
  (try dsimp only)
  repeat' split
  all_goals simp

@[simp] theorem Lane.cmdRingStatus_still (r : Request) (l : Lane)  :
    (Lane.cmdRingStatus r l).1.id = l.id ∧ (Lane.cmdRingStatus r l).1.lap = l.lap ∧ (Lane.cmdRingStatus r l).1.cfg = l.cfg := by
  unfold Lane.cmdRingStatus
  (try dsimp only)
  repeat' split
  all_goals simp

@[simp] theorem Lane.cmdEventMap_still (v : Variant) (r : Request) (l : Lane) :
    (Lane.cmdEventMap v r l).1.id = l.id ∧ (Lane.cmdEventMap v r l).1.lap = l.lap ∧ (Lane.cmdEventMap v r l).1.cfg = l.cfg := by
  unfold Lane.cmdEventMap
  (try dsimp only)
  repeat' split
  all_goals simp

@[simp] theorem Lane.cmdEventMapRead_still (r : Request) (l : Lane)  :
    (Lane.cmdEventMapRead r l).1.id = l.id ∧ (Lane.cmdEventMapRead r l).1.lap = l.lap ∧ (Lane.cmdEventMapRead r l).1.cfg = l.cfg := by
  unfold Lane.cmdEventMapRead
  (try dsimp only)
  repeat' split
  all_goals simp

@[simp] theorem Lane.resetStart_still (code unit : Nat) (l : Lane)  :
    (Lane.resetStart code unit l).id = l.id ∧ (Lane.resetStart code unit l).lap = l.lap ∧ (Lane.resetStart code unit l).cfg = l.cfg := by
  unfold Lane.resetStart
  (try dsimp only)
  repeat' split
  all_goals simp

@[simp] theorem Lane.resetEnd_still (l : Lane) (holder : Lane) (copy : Bool) (code unit : Nat)  :
    (Lane.resetEnd l holder copy code unit).id = l.id ∧ (Lane.resetEnd l holder copy code unit).lap = l.lap ∧ (Lane.resetEnd l holder copy code unit).cfg = l.cfg := by
  unfold Lane.resetEnd
  (try dsimp only)
  repeat' split
  all_goals simp

@[simp] theorem Lane.billing_still (l : Lane) (ok : Bool) (f : Lane → Lane × Reply) (hf : ∀ (l : Lane), (f l).1.id = l.id ∧ (f l).1.lap = l.lap ∧ (f l).1.cfg = l.cfg) :
    (Lane.billing l ok f).1.id = l.id ∧ (Lane.billing l ok f).1.lap = l.lap ∧ (Lane.billing l ok f).1.cfg = l.cfg := by
  unfold Lane.billing
  (try dsimp only)
  repeat' split
  all_goals simp [hf]

@[simp] theorem Lane.cmdPeriod_still (v : Variant) (r : Request) (l : Lane)  :
    (Lane.cmdPeriod v r l).1.id = l.id ∧ (Lane.cmdPeriod v r l).1.lap = l.lap ∧ (Lane.cmdPeriod v r l).1.cfg = l.cfg := by
  refine Lane.billing_still _ _ _ ?_
  intro l
  (try dsimp only)
  repeat' split
  all_goals simp

@[simp] theorem Lane.cmdProfile_still (v : Variant) (r : Request) (l : Lane)  :
    (Lane.cmdProfile v r l).1.id = l.id ∧ (Lane.cmdProfile v r l).1.lap = l.lap ∧ (Lane.cmdProfile v r l).1.cfg = l.cfg := by
  refine Lane.billing_still _ _ _ ?_
  intro l
  (try dsimp only)
  repeat' split
  all_goals simp

@[simp] theorem Lane.cmdLog_still (r : Request) (l : Lane)  :
    (Lane.cmdLog r l).1.id = l.id ∧ (Lane.cmdLog r l).1.lap = l.lap ∧ (Lane.cmdLog r l).1.cfg = l.cfg := by
  refine Lane.billing_still _ _ _ ?_
  intro l
  (try dsimp only)
  repeat' split
  all_goals simp

@[simp] theorem Lane.cmdRecord_still (r : Request) (l : Lane)  :
    (Lane.cmdRecord r l).1.id = l.id ∧ (Lane.cmdRecord r l).1.lap = l.lap ∧ (Lane.cmdRecord r l).1.cfg = l.cfg := by
  refine Lane.billing_still _ _ _ ?_
  intro l
  (try dsimp only)
  repeat' split
  all_goals simp

@[simp] theorem Lane.cmdClockRead_still (r : Request) (l : Lane)  :
    (Lane.cmdClockRead r l).1.id = l.id ∧ (Lane.cmdClockRead r l).1.lap = l.lap ∧ (Lane.cmdClockRead r l).1.cfg = l.cfg := by
  unfold Lane.cmdClockRead
  (try dsimp only)
  repeat' split
  all_goals simp

@[simp] theorem Lane.cmdTamperAck_still (r : Request) (l : Lane)  :
    (Lane.cmdTamperAck r l).1.id = l.id ∧ (Lane.cmdTamperAck r l).1.lap = l.lap ∧ (Lane.cmdTamperAck r l).1.cfg = l.cfg := by
  refine Lane.billing_still _ _ _ ?_
  intro l
  (try dsimp only)
  repeat' split
  all_goals simp

@[simp] theorem Lane.cmdPubkey_still (r : Request) (l : Lane)  :
    (Lane.cmdPubkey r l).1.id = l.id ∧ (Lane.cmdPubkey r l).1.lap = l.lap ∧ (Lane.cmdPubkey r l).1.cfg = l.cfg := by
  unfold Lane.cmdPubkey
  (try dsimp only)
  repeat' split
  all_goals simp

@[simp] theorem Lane.swapPhase_still (old : UMap Int) (p : Nat) (l : Lane)  :
    (Lane.swapPhase old p l).id = l.id ∧ (Lane.swapPhase old p l).lap = l.lap ∧ (Lane.swapPhase old p l).cfg = l.cfg := by
  unfold Lane.swapPhase
  (try dsimp only)
  repeat' split
  all_goals simp

@[simp] theorem Lane.swapPack_still (old : UMap Int) (k : Nat) (l : Lane)  :
    (Lane.swapPack old k l).id = l.id ∧ (Lane.swapPack old k l).lap = l.lap ∧ (Lane.swapPack old k l).cfg = l.cfg := by
  unfold Lane.swapPack
  (try dsimp only)
  repeat' split
  all_goals simp

@[simp] theorem Lane.swapOutlet_still (old : UMap Int) (changed : List Nat) (o : Nat) (l : Lane)  :
    (Lane.swapOutlet old changed o l).id = l.id ∧ (Lane.swapOutlet old changed o l).lap = l.lap ∧ (Lane.swapOutlet old changed o l).cfg = l.cfg := by
  unfold Lane.swapOutlet
  (try dsimp only)
  repeat' split
  all_goals simp

@[simp] theorem Lane.swapPoint_still (old : UMap Int) (changed : List Nat) (m : Nat) (l : Lane) :
    (Lane.swapPoint old changed m l).id = l.id ∧ (Lane.swapPoint old changed m l).lap = l.lap ∧ (Lane.swapPoint old changed m l).cfg = l.cfg := by
  unfold Lane.swapPoint
  (try dsimp only)
  repeat' split
  all_goals simp

@[simp] theorem Lane.swapCalendar_still (old : UMap Int) (l : Lane) :
    (Lane.swapCalendar old l).id = l.id ∧ (Lane.swapCalendar old l).lap = l.lap ∧ (Lane.swapCalendar old l).cfg = l.cfg := by
  unfold Lane.swapCalendar
  (try dsimp only)
  repeat' split
  all_goals simp

@[simp] theorem Lane.swapSafety_still (old : UMap Int) (l : Lane) :
    (Lane.swapSafety old l).id = l.id ∧ (Lane.swapSafety old l).lap = l.lap ∧ (Lane.swapSafety old l).cfg = l.cfg := by
  unfold Lane.swapSafety
  (try dsimp only)
  repeat' split
  all_goals simp

@[simp] theorem Lane.swapMast_still (old : UMap Int) (l : Lane) :
    (Lane.swapMast old l).id = l.id ∧ (Lane.swapMast old l).lap = l.lap ∧ (Lane.swapMast old l).cfg = l.cfg := by
  unfold Lane.swapMast
  (try dsimp only)
  repeat' split
  all_goals simp

@[simp] theorem Lane.swapEffects_still (old : UMap Int) (l : Lane)  :
    (Lane.swapEffects old l).id = l.id ∧ (Lane.swapEffects old l).lap = l.lap ∧ (Lane.swapEffects old l).cfg = l.cfg := by
  unfold Lane.swapEffects
  (try dsimp only)
  repeat' split
  all_goals simp

@[simp] theorem Lane.tunePulses_still (l : Lane)  :
    (Lane.tunePulses l).id = l.id ∧ (Lane.tunePulses l).lap = l.lap ∧ (Lane.tunePulses l).cfg = l.cfg := by
  unfold Lane.tunePulses
  (try dsimp only)
  repeat' split
  all_goals simp

@[simp] theorem Lane.lapPlant_still (bad : List Nat) (l : Lane)  :
    (Lane.lapPlant bad l).id = l.id ∧ (Lane.lapPlant bad l).lap = l.lap ∧ (Lane.lapPlant bad l).cfg = l.cfg := by
  unfold Lane.lapPlant
  (try dsimp only)
  repeat' split
  all_goals simp

@[simp] theorem Lane.showProgress_still (free : Nat) (l : Lane)  :
    (Lane.showProgress free l).id = l.id ∧ (Lane.showProgress free l).lap = l.lap ∧ (Lane.showProgress free l).cfg = l.cfg := by
  unfold Lane.showProgress
  (try dsimp only)
  repeat' split
  all_goals simp

@[simp] theorem Lane.alwaysOnEpoch_still (l : Lane) :
    (Lane.alwaysOnEpoch l).id = l.id ∧ (Lane.alwaysOnEpoch l).lap = l.lap ∧ (Lane.alwaysOnEpoch l).cfg = l.cfg := by
  unfold Lane.alwaysOnEpoch
  (try dsimp only)
  repeat' split
  all_goals simp

@[simp] theorem Lane.roundPassed_still (l : Lane) :
    (Lane.roundPassed l).id = l.id ∧ (Lane.roundPassed l).lap = l.lap ∧ (Lane.roundPassed l).cfg = l.cfg := by
  unfold Lane.roundPassed
  (try dsimp only)
  repeat' split
  all_goals simp

@[simp] theorem Lane.epochEnd_still (v : Variant) (l : Lane)  :
    (Lane.epochEnd v l).id = l.id ∧ (Lane.epochEnd v l).lap = l.lap ∧ (Lane.epochEnd v l).cfg = l.cfg := by
  unfold Lane.epochEnd
  extract_lets l1 l2 l3 l4
  have h1 : l1.id = l.id ∧ l1.lap = l.lap ∧ l1.cfg = l.cfg := by simp [l1]
  clear_value l1
  have h2 : l2.id = l.id ∧ l2.lap = l.lap ∧ l2.cfg = l.cfg := by simp [l2, h1]
  clear_value l2
  simp [l4, l3, h2]

@[simp] theorem Lane.pumpWrite_still (o : Nat) (l0 : Lane) :
    (Lane.pumpWrite o l0).id = l0.id ∧ (Lane.pumpWrite o l0).lap = l0.lap ∧ (Lane.pumpWrite o l0).cfg = l0.cfg := by
  unfold Lane.pumpWrite
  (try dsimp only)
  repeat' split
  all_goals simp

@[simp] theorem Lane.coolReads_still (outlets : Nat) (l : Lane)  :
    (Lane.coolReads outlets l).id = l.id ∧ (Lane.coolReads outlets l).lap = l.lap ∧ (Lane.coolReads outlets l).cfg = l.cfg := by
  unfold Lane.coolReads
  (try dsimp only)
  repeat' split
  all_goals simp

@[simp] theorem Lane.lapBuses_still (outlets : Nat) (l : Lane)  :
    (Lane.lapBuses outlets l).id = l.id ∧ (Lane.lapBuses outlets l).lap = l.lap ∧ (Lane.lapBuses outlets l).cfg = l.cfg := by
  unfold Lane.lapBuses
  (try dsimp only)
  repeat' split
  all_goals simp

@[simp] theorem logChanges_still (old new : UMap Int) (l : Lane)  :
    (logChanges old new l).id = l.id ∧ (logChanges old new l).lap = l.lap ∧ (logChanges old new l).cfg = l.cfg := by
  unfold logChanges
  (try dsimp only)
  repeat' split
  all_goals simp

@[simp] theorem State.lastSeal_still (s : State) (l : Lane)  :
    (State.lastSeal s l).id = l.id ∧ (State.lastSeal s l).lap = l.lap ∧ (State.lastSeal s l).cfg = l.cfg := by
  unfold State.lastSeal
  (try dsimp only)
  repeat' split
  all_goals simp

@[simp] theorem Lane.modem_still (f : Lane → Lane)
    (hf : ∀ l, (f l).id = l.id ∧ (f l).lap = l.lap ∧ (f l).cfg = l.cfg) (l : Lane) :
    (Lane.modem f l).id = l.id ∧ (Lane.modem f l).lap = l.lap ∧ (Lane.modem f l).cfg = l.cfg := by
  unfold Lane.modem
  (try dsimp only)
  repeat' split
  all_goals simp [hf]

@[simp] theorem Lane.onBus_still (b : Nat) (f : Lane → Lane)
    (hf : ∀ l, (f l).id = l.id ∧ (f l).lap = l.lap ∧ (f l).cfg = l.cfg) (l : Lane) :
    (Lane.onBus b f l).id = l.id ∧ (Lane.onBus b f l).lap = l.lap ∧ (Lane.onBus b f l).cfg = l.cfg := by
  unfold Lane.onBus
  (try dsimp only)
  repeat' split
  all_goals simp [hf]

@[simp] theorem Lane.takeLines_still (i : SafetyInputs) (l : Lane)  :
    (Lane.takeLines i l).id = l.id ∧ (Lane.takeLines i l).lap = l.lap ∧ (Lane.takeLines i l).cfg = l.cfg := by
  unfold Lane.takeLines
  (try dsimp only)
  repeat' split
  all_goals simp

@[simp] theorem Lane.asleepCycle_still (outlets : Nat) (i1 i2 : SafetyInputs) (l : Lane)  :
    (Lane.asleepCycle outlets i1 i2 l).id = l.id ∧ (Lane.asleepCycle outlets i1 i2 l).lap = l.lap ∧ (Lane.asleepCycle outlets i1 i2 l).cfg = l.cfg := by
  unfold Lane.asleepCycle
  (try dsimp only)
  repeat' split
  all_goals simp

@[simp] theorem Lane.roundFrames_still (l : Lane)  :
    (Lane.roundFrames l).id = l.id ∧ (Lane.roundFrames l).lap = l.lap ∧ (Lane.roundFrames l).cfg = l.cfg := by
  unfold Lane.roundFrames
  (try dsimp only)
  repeat' split
  all_goals simp

@[simp] theorem Lane.frameAct_still (v : Variant) (k : Nat) (f : TeamFrame) (l : Lane)  :
    (Lane.frameAct v k f l).id = l.id ∧ (Lane.frameAct v k f l).lap = l.lap ∧ (Lane.frameAct v k f l).cfg = l.cfg := by
  unfold Lane.frameAct
  (try dsimp only)
  repeat' split
  all_goals simp

end Sys2Proof.Machine
end

