-- ==== Sys2Proof/Laws/StillState.lean ====
section
/-!
SUPPORT. What no operation on the controller reaches but the few that the spec names for it: which lane is which, their laps,
and their committed configurations. One law per operation.
-/

namespace Sys2Proof.Machine

variable (s : State)

@[simp] theorem State.lane_A : s.lane .A = s.a := rfl

@[simp] theorem State.lane_B : s.lane .B = s.b := rfl

theorem State.setLane_still (i : LaneId) (l : Lane) (h : l.id = (s.lane i).id ∧ l.lap = (s.lane i).lap ∧ l.cfg = (s.lane i).cfg) :
    (s.setLane i l).a.id = s.a.id ∧ (s.setLane i l).a.lap = s.a.lap ∧ (s.setLane i l).a.cfg = s.a.cfg ∧ (s.setLane i l).b.id = s.b.id ∧ (s.setLane i l).b.lap = s.b.lap ∧ (s.setLane i l).b.cfg = s.b.cfg := by
  cases i <;> simpa [State.setLane] using h

@[simp] theorem State.onLane_still (i : LaneId) (p : Lane → Bool) (f : LaneFn) (h : ∀ l, (f s i l).id = l.id ∧ (f s i l).lap = l.lap ∧ (f s i l).cfg = l.cfg) :
    (s.onLane i p f).a.id = s.a.id ∧ (s.onLane i p f).a.lap = s.a.lap ∧ (s.onLane i p f).a.cfg = s.a.cfg ∧ (s.onLane i p f).b.id = s.b.id ∧ (s.onLane i p f).b.lap = s.b.lap ∧ (s.onLane i p f).b.cfg = s.b.cfg := by
  unfold State.onLane
  split
  · exact State.setLane_still s i _ (h _)
  · simp

@[simp] theorem State.eachLane_still (p : Lane → Bool) (f : LaneFn) (h : ∀ i l, (f s i l).id = l.id ∧ (f s i l).lap = l.lap ∧ (f s i l).cfg = l.cfg) :
    (s.eachLane p f).a.id = s.a.id ∧ (s.eachLane p f).a.lap = s.a.lap ∧ (s.eachLane p f).a.cfg = s.a.cfg ∧ (s.eachLane p f).b.id = s.b.id ∧ (s.eachLane p f).b.lap = s.b.lap ∧ (s.eachLane p f).b.cfg = s.b.cfg := by
  unfold State.eachLane
  refine ⟨?_, ?_, ?_, ?_, ?_, ?_⟩ <;> dsimp only <;> split <;> simp [h]

@[simp] theorem State.foldl_still {α : Type} (xs : List α) (f : State → α → State) (h : ∀ s x, (f s x).a.id = s.a.id ∧ (f s x).a.lap = s.a.lap ∧ (f s x).a.cfg = s.a.cfg ∧ (f s x).b.id = s.b.id ∧ (f s x).b.lap = s.b.lap ∧ (f s x).b.cfg = s.b.cfg) (s : State) :
    (xs.foldl f s).a.id = s.a.id ∧ (xs.foldl f s).a.lap = s.a.lap ∧ (xs.foldl f s).a.cfg = s.a.cfg ∧ (xs.foldl f s).b.id = s.b.id ∧ (xs.foldl f s).b.lap = s.b.lap ∧ (xs.foldl f s).b.cfg = s.b.cfg := by
  induction xs generalizing s with
  | nil => simp
  | cons x t ih => simp [ih, h]

@[simp] theorem State.ite_a (c : Prop) [Decidable c] (x y : State) : (if c then x else y).a = if c then x.a else y.a := by split <;> rfl

@[simp] theorem State.ite_b (c : Prop) [Decidable c] (x y : State) : (if c then x else y).b = if c then x.b else y.b := by split <;> rfl

@[simp] theorem State.drive_still  :
    (State.drive s).a.id = s.a.id ∧ (State.drive s).a.lap = s.a.lap ∧ (State.drive s).a.cfg = s.a.cfg ∧ (State.drive s).b.id = s.b.id ∧ (State.drive s).b.lap = s.b.lap ∧ (State.drive s).b.cfg = s.b.cfg := by
  unfold State.drive
  (try dsimp only)
  repeat' split
  all_goals simp

@[simp] theorem State.fireBoth_still (n unit : Nat) (detail : List Int) :
    (State.fireBoth n unit detail s).a.id = s.a.id ∧ (State.fireBoth n unit detail s).a.lap = s.a.lap ∧ (State.fireBoth n unit detail s).a.cfg = s.a.cfg ∧ (State.fireBoth n unit detail s).b.id = s.b.id ∧ (State.fireBoth n unit detail s).b.lap = s.b.lap ∧ (State.fireBoth n unit detail s).b.cfg = s.b.cfg := by
  unfold State.fireBoth
  (try dsimp only)
  repeat' split
  all_goals simp

@[simp] theorem State.alsoFire_still (i : LaneId) (old : State) :
    (State.alsoFire s i old).a.id = s.a.id ∧ (State.alsoFire s i old).a.lap = s.a.lap ∧ (State.alsoFire s i old).a.cfg = s.a.cfg ∧ (State.alsoFire s i old).b.id = s.b.id ∧ (State.alsoFire s i old).b.lap = s.b.lap ∧ (State.alsoFire s i old).b.cfg = s.b.cfg := by
  unfold State.alsoFire
  (try dsimp only)
  repeat' split
  all_goals simp

@[simp] theorem State.alsoTell_still (i : LaneId) (old : State) :
    (State.alsoTell s i old).a.id = s.a.id ∧ (State.alsoTell s i old).a.lap = s.a.lap ∧ (State.alsoTell s i old).a.cfg = s.a.cfg ∧ (State.alsoTell s i old).b.id = s.b.id ∧ (State.alsoTell s i old).b.lap = s.b.lap ∧ (State.alsoTell s i old).b.cfg = s.b.cfg := by
  unfold State.alsoTell
  (try dsimp only)
  repeat' split
  all_goals simp

@[simp] theorem State.pacerFollow_still  :
    (State.pacerFollow s).a.id = s.a.id ∧ (State.pacerFollow s).a.lap = s.a.lap ∧ (State.pacerFollow s).a.cfg = s.a.cfg ∧ (State.pacerFollow s).b.id = s.b.id ∧ (State.pacerFollow s).b.lap = s.b.lap ∧ (State.pacerFollow s).b.cfg = s.b.cfg := by
  unfold State.pacerFollow
  (try dsimp only)
  repeat' split
  all_goals simp

@[simp] theorem State.answerBoth_still (r : Request) (rep : Reply) :
    (State.answerBoth r rep s).a.id = s.a.id ∧ (State.answerBoth r rep s).a.lap = s.a.lap ∧ (State.answerBoth r rep s).a.cfg = s.a.cfg ∧ (State.answerBoth r rep s).b.id = s.b.id ∧ (State.answerBoth r rep s).b.lap = s.b.lap ∧ (State.answerBoth r rep s).b.cfg = s.b.cfg := by
  unfold State.answerBoth
  (try dsimp only)
  repeat' split
  all_goals simp

@[simp] theorem State.laneTo_still (i : LaneId) (st : LaneState) (ph : Phase) :
    (State.laneTo i st ph s).a.id = s.a.id ∧ (State.laneTo i st ph s).a.lap = s.a.lap ∧ (State.laneTo i st ph s).a.cfg = s.a.cfg ∧ (State.laneTo i st ph s).b.id = s.b.id ∧ (State.laneTo i st ph s).b.lap = s.b.lap ∧ (State.laneTo i st ph s).b.cfg = s.b.cfg := by
  unfold State.laneTo
  (try dsimp only)
  repeat' split
  all_goals simp

@[simp] theorem State.laneCleared_still (i : LaneId) (fault : Bool) :
    (State.laneCleared i fault s).a.id = s.a.id ∧ (State.laneCleared i fault s).a.lap = s.a.lap ∧ (State.laneCleared i fault s).a.cfg = s.a.cfg ∧ (State.laneCleared i fault s).b.id = s.b.id ∧ (State.laneCleared i fault s).b.lap = s.b.lap ∧ (State.laneCleared i fault s).b.cfg = s.b.cfg := by
  unfold State.laneCleared
  (try dsimp only)
  repeat' split
  all_goals simp

@[simp] theorem State.laneReset_still (i : LaneId) (fault : Bool) :
    (State.laneReset i fault s).a.id = s.a.id ∧ (State.laneReset i fault s).a.lap = s.a.lap ∧ (State.laneReset i fault s).a.cfg = s.a.cfg ∧ (State.laneReset i fault s).b.id = s.b.id ∧ (State.laneReset i fault s).b.lap = s.b.lap ∧ (State.laneReset i fault s).b.cfg = s.b.cfg := by
  unfold State.laneReset
  (try dsimp only)
  repeat' split
  all_goals simp

@[simp] theorem State.fastOff_still (i : LaneId) (fault : Bool) :
    (State.fastOff i fault s).a.id = s.a.id ∧ (State.fastOff i fault s).a.lap = s.a.lap ∧ (State.fastOff i fault s).a.cfg = s.a.cfg ∧ (State.fastOff i fault s).b.id = s.b.id ∧ (State.fastOff i fault s).b.lap = s.b.lap ∧ (State.fastOff i fault s).b.cfg = s.b.cfg := by
  unfold State.fastOff
  (try dsimp only)
  repeat' split
  all_goals simp

@[simp] theorem State.park_still (i : LaneId) :
    (State.park i s).a.id = s.a.id ∧ (State.park i s).a.lap = s.a.lap ∧ (State.park i s).a.cfg = s.a.cfg ∧ (State.park i s).b.id = s.b.id ∧ (State.park i s).b.lap = s.b.lap ∧ (State.park i s).b.cfg = s.b.cfg := by
  unfold State.park
  (try dsimp only)
  repeat' split
  all_goals simp

@[simp] theorem State.leaveStep_still (i : LaneId) :
    (State.leaveStep i s).a.id = s.a.id ∧ (State.leaveStep i s).a.lap = s.a.lap ∧ (State.leaveStep i s).a.cfg = s.a.cfg ∧ (State.leaveStep i s).b.id = s.b.id ∧ (State.leaveStep i s).b.lap = s.b.lap ∧ (State.leaveStep i s).b.cfg = s.b.cfg := by
  unfold State.leaveStep
  (try dsimp only)
  repeat' split
  all_goals simp

@[simp] theorem State.diagnose_still (i : LaneId) (cause : Nat) :
    (State.diagnose i cause s).a.id = s.a.id ∧ (State.diagnose i cause s).a.lap = s.a.lap ∧ (State.diagnose i cause s).a.cfg = s.a.cfg ∧ (State.diagnose i cause s).b.id = s.b.id ∧ (State.diagnose i cause s).b.lap = s.b.lap ∧ (State.diagnose i cause s).b.cfg = s.b.cfg := by
  unfold State.diagnose
  (try dsimp only)
  repeat' split
  all_goals simp

@[simp] theorem State.lapDiagnosis_still  :
    (State.lapDiagnosis s).a.id = s.a.id ∧ (State.lapDiagnosis s).a.lap = s.a.lap ∧ (State.lapDiagnosis s).a.cfg = s.a.cfg ∧ (State.lapDiagnosis s).b.id = s.b.id ∧ (State.lapDiagnosis s).b.lap = s.b.lap ∧ (State.lapDiagnosis s).b.cfg = s.b.cfg := by
  unfold State.lapDiagnosis
  extract_lets want s1
  have h1 : s1.a.id = s.a.id ∧ s1.a.lap = s.a.lap ∧ s1.a.cfg = s.a.cfg ∧ s1.b.id = s.b.id ∧ s1.b.lap = s.b.lap ∧ s1.b.cfg = s.b.cfg := by
    refine State.eachLane_still s _ _ (fun i l => ?_)
    simp only [want]; split <;> simp
  have h2 := State.eachLane_still s1 Lane.active (fun s i l =>
    if l.link.state = .holder ∧ l.link.giveUp = none then
      match s.conditional i with
      | some c => if s.eligible i.other then l.lnk (fun x => { x with giveUp := some c }) else l
      | none => l
    else l) (fun i l => by repeat' split
                           all_goals simp)
  exact ⟨h2.1.trans h1.1, h2.2.1.trans h1.2.1, h2.2.2.1.trans h1.2.2.1, h2.2.2.2.1.trans h1.2.2.2.1,
    h2.2.2.2.2.1.trans h1.2.2.2.2.1, h2.2.2.2.2.2.trans h1.2.2.2.2.2⟩

@[simp] theorem State.health_still  :
    (State.health s).a.id = s.a.id ∧ (State.health s).a.lap = s.a.lap ∧ (State.health s).a.cfg = s.a.cfg ∧ (State.health s).b.id = s.b.id ∧ (State.health s).b.lap = s.b.lap ∧ (State.health s).b.cfg = s.b.cfg := by
  unfold State.health
  (try dsimp only)
  repeat' split
  all_goals simp

@[simp] theorem State.grantLines_still  :
    (State.grantLines s).a.id = s.a.id ∧ (State.grantLines s).a.lap = s.a.lap ∧ (State.grantLines s).a.cfg = s.a.cfg ∧ (State.grantLines s).b.id = s.b.id ∧ (State.grantLines s).b.lap = s.b.lap ∧ (State.grantLines s).b.cfg = s.b.cfg := by
  unfold State.grantLines
  (try dsimp only)
  repeat' split
  all_goals simp

@[simp] theorem State.loseGrant_still (i : LaneId) :
    (State.loseGrant i s).a.id = s.a.id ∧ (State.loseGrant i s).a.lap = s.a.lap ∧ (State.loseGrant i s).a.cfg = s.a.cfg ∧ (State.loseGrant i s).b.id = s.b.id ∧ (State.loseGrant i s).b.lap = s.b.lap ∧ (State.loseGrant i s).b.cfg = s.b.cfg := by
  unfold State.loseGrant
  (try dsimp only)
  repeat' split
  all_goals simp

@[simp] theorem State.fwStep_still (i : LaneId) (k : Nat) :
    (State.fwStep i k s).a.id = s.a.id ∧ (State.fwStep i k s).a.lap = s.a.lap ∧ (State.fwStep i k s).a.cfg = s.a.cfg ∧ (State.fwStep i k s).b.id = s.b.id ∧ (State.fwStep i k s).b.lap = s.b.lap ∧ (State.fwStep i k s).b.cfg = s.b.cfg := by
  unfold State.fwStep
  (try dsimp only)
  repeat' split
  all_goals simp

@[simp] theorem State.gainGrant_still (i : LaneId) (old : Option LaneId) (oldNo : Nat) :
    (State.gainGrant i old oldNo s).a.id = s.a.id ∧ (State.gainGrant i old oldNo s).a.lap = s.a.lap ∧ (State.gainGrant i old oldNo s).a.cfg = s.a.cfg ∧ (State.gainGrant i old oldNo s).b.id = s.b.id ∧ (State.gainGrant i old oldNo s).b.lap = s.b.lap ∧ (State.gainGrant i old oldNo s).b.cfg = s.b.cfg := by
  unfold State.gainGrant
  (try dsimp only)
  repeat' split
  all_goals simp

@[simp] theorem State.joinBooted_still  :
    (State.joinBooted s).a.id = s.a.id ∧ (State.joinBooted s).a.lap = s.a.lap ∧ (State.joinBooted s).a.cfg = s.a.cfg ∧ (State.joinBooted s).b.id = s.b.id ∧ (State.joinBooted s).b.lap = s.b.lap ∧ (State.joinBooted s).b.cfg = s.b.cfg := by
  unfold State.joinBooted
  (try dsimp only)
  repeat' split
  all_goals simp

@[simp] theorem State.grantEvaluation_still  :
    (State.grantEvaluation s).a.id = s.a.id ∧ (State.grantEvaluation s).a.lap = s.a.lap ∧ (State.grantEvaluation s).a.cfg = s.a.cfg ∧ (State.grantEvaluation s).b.id = s.b.id ∧ (State.grantEvaluation s).b.lap = s.b.lap ∧ (State.grantEvaluation s).b.cfg = s.b.cfg := by
  unfold State.grantEvaluation
  (try dsimp only)
  repeat' split
  all_goals simp

@[simp] theorem State.watchdogMiss_still (i : LaneId) :
    (State.watchdogMiss i s).a.id = s.a.id ∧ (State.watchdogMiss i s).a.lap = s.a.lap ∧ (State.watchdogMiss i s).a.cfg = s.a.cfg ∧ (State.watchdogMiss i s).b.id = s.b.id ∧ (State.watchdogMiss i s).b.lap = s.b.lap ∧ (State.watchdogMiss i s).b.cfg = s.b.cfg := by
  unfold State.watchdogMiss
  (try dsimp only)
  repeat' split
  all_goals simp

@[simp] theorem State.laneInput_still (i : LaneId) (x : LapInput) :
    (State.laneInput i x s).a.id = s.a.id ∧ (State.laneInput i x s).a.lap = s.a.lap ∧ (State.laneInput i x s).a.cfg = s.a.cfg ∧ (State.laneInput i x s).b.id = s.b.id ∧ (State.laneInput i x s).b.lap = s.b.lap ∧ (State.laneInput i x s).b.cfg = s.b.cfg := by
  unfold State.laneInput
  (try dsimp only)
  repeat' split
  all_goals simp

@[simp] theorem State.loadBaton_still (i : LaneId) :
    (State.loadBaton i s).a.id = s.a.id ∧ (State.loadBaton i s).a.lap = s.a.lap ∧ (State.loadBaton i s).a.cfg = s.a.cfg ∧ (State.loadBaton i s).b.id = s.b.id ∧ (State.loadBaton i s).b.lap = s.b.lap ∧ (State.loadBaton i s).b.cfg = s.b.cfg := by
  unfold State.loadBaton
  (try dsimp only)
  repeat' split
  all_goals simp

@[simp] theorem State.bootedLane_still (i : LaneId) :
    (State.bootedLane i s).a.id = s.a.id ∧ (State.bootedLane i s).a.lap = s.a.lap ∧ (State.bootedLane i s).a.cfg = s.a.cfg ∧ (State.bootedLane i s).b.id = s.b.id ∧ (State.bootedLane i s).b.lap = s.b.lap ∧ (State.bootedLane i s).b.cfg = s.b.cfg := by
  unfold State.bootedLane
  (try dsimp only)
  repeat' split
  all_goals simp

@[simp] theorem State.bootComplete_still (i : LaneId) :
    (State.bootComplete i s).a.id = s.a.id ∧ (State.bootComplete i s).a.lap = s.a.lap ∧ (State.bootComplete i s).a.cfg = s.a.cfg ∧ (State.bootComplete i s).b.id = s.b.id ∧ (State.bootComplete i s).b.lap = s.b.lap ∧ (State.bootComplete i s).b.cfg = s.b.cfg := by
  unfold State.bootComplete
  (try dsimp only)
  repeat' split
  all_goals simp

@[simp] theorem State.catchupComplete_still (i : LaneId) :
    (State.catchupComplete i s).a.id = s.a.id ∧ (State.catchupComplete i s).a.lap = s.a.lap ∧ (State.catchupComplete i s).a.cfg = s.a.cfg ∧ (State.catchupComplete i s).b.id = s.b.id ∧ (State.catchupComplete i s).b.lap = s.b.lap ∧ (State.catchupComplete i s).b.cfg = s.b.cfg := by
  unfold State.catchupComplete
  (try dsimp only)
  repeat' split
  all_goals simp

@[simp] theorem State.shadowComplete_still (i : LaneId) :
    (State.shadowComplete i s).a.id = s.a.id ∧ (State.shadowComplete i s).a.lap = s.a.lap ∧ (State.shadowComplete i s).a.cfg = s.a.cfg ∧ (State.shadowComplete i s).b.id = s.b.id ∧ (State.shadowComplete i s).b.lap = s.b.lap ∧ (State.shadowComplete i s).b.cfg = s.b.cfg := by
  unfold State.shadowComplete
  (try dsimp only)
  repeat' split
  all_goals simp

@[simp] theorem State.phaseTimeout_still (i : LaneId) :
    (State.phaseTimeout i s).a.id = s.a.id ∧ (State.phaseTimeout i s).a.lap = s.a.lap ∧ (State.phaseTimeout i s).a.cfg = s.a.cfg ∧ (State.phaseTimeout i s).b.id = s.b.id ∧ (State.phaseTimeout i s).b.lap = s.b.lap ∧ (State.phaseTimeout i s).b.cfg = s.b.cfg := by
  unfold State.phaseTimeout
  (try dsimp only)
  repeat' split
  all_goals simp

@[simp] theorem State.compareFault_still (i : LaneId) :
    (State.compareFault i s).a.id = s.a.id ∧ (State.compareFault i s).a.lap = s.a.lap ∧ (State.compareFault i s).a.cfg = s.a.cfg ∧ (State.compareFault i s).b.id = s.b.id ∧ (State.compareFault i s).b.lap = s.b.lap ∧ (State.compareFault i s).b.cfg = s.b.cfg := by
  unfold State.compareFault
  (try dsimp only)
  repeat' split
  all_goals simp

@[simp] theorem State.crcReceive_still  :
    (State.crcReceive s).a.id = s.a.id ∧ (State.crcReceive s).a.lap = s.a.lap ∧ (State.crcReceive s).a.cfg = s.a.cfg ∧ (State.crcReceive s).b.id = s.b.id ∧ (State.crcReceive s).b.lap = s.b.lap ∧ (State.crcReceive s).b.cfg = s.b.cfg := by
  unfold State.crcReceive
  (try dsimp only)
  repeat' split
  all_goals simp

@[simp] theorem State.linkTimeout_still  :
    (State.linkTimeout s).a.id = s.a.id ∧ (State.linkTimeout s).a.lap = s.a.lap ∧ (State.linkTimeout s).a.cfg = s.a.cfg ∧ (State.linkTimeout s).b.id = s.b.id ∧ (State.linkTimeout s).b.lap = s.b.lap ∧ (State.linkTimeout s).b.cfg = s.b.cfg := by
  unfold State.linkTimeout
  (try dsimp only)
  repeat' split
  all_goals simp

@[simp] theorem State.allocExchange_still  :
    (State.allocExchange s).a.id = s.a.id ∧ (State.allocExchange s).a.lap = s.a.lap ∧ (State.allocExchange s).a.cfg = s.a.cfg ∧ (State.allocExchange s).b.id = s.b.id ∧ (State.allocExchange s).b.lap = s.b.lap ∧ (State.allocExchange s).b.cfg = s.b.cfg := by
  unfold State.allocExchange
  (try dsimp only)
  repeat' split
  all_goals simp

@[simp] theorem State.digestRound_still (differs : Bool) (run : LinkSt → Nat) (set : Nat → LinkSt → LinkSt) :
    (State.digestRound differs run set s).a.id = s.a.id ∧ (State.digestRound differs run set s).a.lap = s.a.lap ∧ (State.digestRound differs run set s).a.cfg = s.a.cfg ∧ (State.digestRound differs run set s).b.id = s.b.id ∧ (State.digestRound differs run set s).b.lap = s.b.lap ∧ (State.digestRound differs run set s).b.cfg = s.b.cfg := by
  unfold State.digestRound
  (try dsimp only)
  repeat' split
  all_goals simp

@[simp] theorem State.laneRemoved_still (i : LaneId) :
    (State.laneRemoved i s).a.id = s.a.id ∧ (State.laneRemoved i s).a.lap = s.a.lap ∧ (State.laneRemoved i s).a.cfg = s.a.cfg ∧ (State.laneRemoved i s).b.id = s.b.id ∧ (State.laneRemoved i s).b.lap = s.b.lap ∧ (State.laneRemoved i s).b.cfg = s.b.cfg := by
  unfold State.laneRemoved
  (try dsimp only)
  repeat' split
  all_goals simp

@[simp] theorem State.ejectOpen_still (i : LaneId) :
    (State.ejectOpen i s).a.id = s.a.id ∧ (State.ejectOpen i s).a.lap = s.a.lap ∧ (State.ejectOpen i s).a.cfg = s.a.cfg ∧ (State.ejectOpen i s).b.id = s.b.id ∧ (State.ejectOpen i s).b.lap = s.b.lap ∧ (State.ejectOpen i s).b.cfg = s.b.cfg := by
  unfold State.ejectOpen
  (try dsimp only)
  repeat' split
  all_goals simp

@[simp] theorem namedLane_still (r : Request) (f : LaneId → StateCmd) (hf : ∀ i s, (f i s).1.a.id = s.a.id ∧ (f i s).1.a.lap = s.a.lap ∧ (f i s).1.a.cfg = s.a.cfg ∧ (f i s).1.b.id = s.b.id ∧ (f i s).1.b.lap = s.b.lap ∧ (f i s).1.b.cfg = s.b.cfg) :
    (namedLane r f s).1.a.id = s.a.id ∧ (namedLane r f s).1.a.lap = s.a.lap ∧ (namedLane r f s).1.a.cfg = s.a.cfg ∧ (namedLane r f s).1.b.id = s.b.id ∧ (namedLane r f s).1.b.lap = s.b.lap ∧ (namedLane r f s).1.b.cfg = s.b.cfg := by
  unfold namedLane
  (try dsimp only)
  repeat' split
  all_goals simp [hf]

@[simp] theorem cmdLaneStatus_still (r : Request) :
    (cmdLaneStatus r s).1.a.id = s.a.id ∧ (cmdLaneStatus r s).1.a.lap = s.a.lap ∧ (cmdLaneStatus r s).1.a.cfg = s.a.cfg ∧ (cmdLaneStatus r s).1.b.id = s.b.id ∧ (cmdLaneStatus r s).1.b.lap = s.b.lap ∧ (cmdLaneStatus r s).1.b.cfg = s.b.cfg := by
  unfold cmdLaneStatus
  (try dsimp only)
  repeat' split
  all_goals simp

@[simp] theorem cmdHandover_still (r : Request) :
    (cmdHandover r s).1.a.id = s.a.id ∧ (cmdHandover r s).1.a.lap = s.a.lap ∧ (cmdHandover r s).1.a.cfg = s.a.cfg ∧ (cmdHandover r s).1.b.id = s.b.id ∧ (cmdHandover r s).1.b.lap = s.b.lap ∧ (cmdHandover r s).1.b.cfg = s.b.cfg := by
  unfold cmdHandover
  refine namedLane_still s r _ (fun i s => ?_)
  (try dsimp only)
  repeat' split
  all_goals simp

@[simp] theorem cmdFwLoad_still (r : Request) :
    (cmdFwLoad r s).1.a.id = s.a.id ∧ (cmdFwLoad r s).1.a.lap = s.a.lap ∧ (cmdFwLoad r s).1.a.cfg = s.a.cfg ∧ (cmdFwLoad r s).1.b.id = s.b.id ∧ (cmdFwLoad r s).1.b.lap = s.b.lap ∧ (cmdFwLoad r s).1.b.cfg = s.b.cfg := by
  unfold cmdFwLoad
  refine namedLane_still s r _ (fun i s => ?_)
  (try dsimp only)
  repeat' split
  all_goals simp

@[simp] theorem cmdFwVerify_still (r : Request) :
    (cmdFwVerify r s).1.a.id = s.a.id ∧ (cmdFwVerify r s).1.a.lap = s.a.lap ∧ (cmdFwVerify r s).1.a.cfg = s.a.cfg ∧ (cmdFwVerify r s).1.b.id = s.b.id ∧ (cmdFwVerify r s).1.b.lap = s.b.lap ∧ (cmdFwVerify r s).1.b.cfg = s.b.cfg := by
  unfold cmdFwVerify
  refine namedLane_still s r _ (fun i s => ?_)
  (try dsimp only)
  repeat' split
  all_goals simp

@[simp] theorem cmdFwActivate_still (r : Request) :
    (cmdFwActivate r s).1.a.id = s.a.id ∧ (cmdFwActivate r s).1.a.lap = s.a.lap ∧ (cmdFwActivate r s).1.a.cfg = s.a.cfg ∧ (cmdFwActivate r s).1.b.id = s.b.id ∧ (cmdFwActivate r s).1.b.lap = s.b.lap ∧ (cmdFwActivate r s).1.b.cfg = s.b.cfg := by
  unfold cmdFwActivate
  refine namedLane_still s r _ (fun i s => ?_)
  extract_lets kind b l o v s1 s2
  have h : s1.a.id = s.a.id ∧ s1.a.lap = s.a.lap ∧ s1.a.cfg = s.a.cfg ∧ s1.b.id = s.b.id ∧ s1.b.lap = s.b.lap ∧ s1.b.cfg = s.b.cfg := by
    refine State.onLane_still s _ _ _ (fun l => ?_)
    dsimp only
    split <;> simp
  have h2 : s2.a.id = s.a.id ∧ s2.a.lap = s.a.lap ∧ s2.a.cfg = s.a.cfg ∧ s2.b.id = s.b.id ∧ s2.b.lap = s.b.lap ∧ s2.b.cfg = s.b.cfg := by
    simp only [s2]; split <;> simp [h]
  clear_value kind b l o v s1 s2
  repeat' split
  all_goals simp [h2]

@[simp] theorem cmdLanePark_still (r : Request) :
    (cmdLanePark r s).1.a.id = s.a.id ∧ (cmdLanePark r s).1.a.lap = s.a.lap ∧ (cmdLanePark r s).1.a.cfg = s.a.cfg ∧ (cmdLanePark r s).1.b.id = s.b.id ∧ (cmdLanePark r s).1.b.lap = s.b.lap ∧ (cmdLanePark r s).1.b.cfg = s.b.cfg := by
  unfold cmdLanePark
  refine namedLane_still s r _ (fun i s => ?_)
  (try dsimp only)
  repeat' split
  all_goals simp

@[simp] theorem State.noteRun_still  :
    (State.noteRun s).a.id = s.a.id ∧ (State.noteRun s).a.lap = s.a.lap ∧ (State.noteRun s).a.cfg = s.a.cfg ∧ (State.noteRun s).b.id = s.b.id ∧ (State.noteRun s).b.lap = s.b.lap ∧ (State.noteRun s).b.cfg = s.b.cfg := by
  unfold State.noteRun
  (try dsimp only)
  repeat' split
  all_goals simp

@[simp] theorem State.drawSeq_still (i : LaneId) :
    (State.drawSeq i s).a.id = s.a.id ∧ (State.drawSeq i s).a.lap = s.a.lap ∧ (State.drawSeq i s).a.cfg = s.a.cfg ∧ (State.drawSeq i s).b.id = s.b.id ∧ (State.drawSeq i s).b.lap = s.b.lap ∧ (State.drawSeq i s).b.cfg = s.b.cfg := by
  unfold State.drawSeq
  (try dsimp only)
  repeat' split
  all_goals simp

@[simp] theorem cmdLaneUnpark_still (r : Request) :
    (cmdLaneUnpark r s).1.a.id = s.a.id ∧ (cmdLaneUnpark r s).1.a.lap = s.a.lap ∧ (cmdLaneUnpark r s).1.a.cfg = s.a.cfg ∧ (cmdLaneUnpark r s).1.b.id = s.b.id ∧ (cmdLaneUnpark r s).1.b.lap = s.b.lap ∧ (cmdLaneUnpark r s).1.b.cfg = s.b.cfg := by
  unfold cmdLaneUnpark
  refine namedLane_still s r _ (fun i s => ?_)
  (try dsimp only)
  repeat' split
  all_goals simp

@[simp] theorem cmdLaneEligible_still (r : Request) :
    (cmdLaneEligible r s).1.a.id = s.a.id ∧ (cmdLaneEligible r s).1.a.lap = s.a.lap ∧ (cmdLaneEligible r s).1.a.cfg = s.a.cfg ∧ (cmdLaneEligible r s).1.b.id = s.b.id ∧ (cmdLaneEligible r s).1.b.lap = s.b.lap ∧ (cmdLaneEligible r s).1.b.cfg = s.b.cfg := by
  unfold cmdLaneEligible
  refine namedLane_still s r _ (fun i s => ?_)
  (try dsimp only)
  repeat' split
  all_goals simp

@[simp] theorem State.powBoth_still (f : Lane → PowerSt → PowerSt) :
    (State.powBoth f s).a.id = s.a.id ∧ (State.powBoth f s).a.lap = s.a.lap ∧ (State.powBoth f s).a.cfg = s.a.cfg ∧ (State.powBoth f s).b.id = s.b.id ∧ (State.powBoth f s).b.lap = s.b.lap ∧ (State.powBoth f s).b.cfg = s.b.cfg := by
  unfold State.powBoth
  (try dsimp only)
  repeat' split
  all_goals simp

@[simp] theorem State.cancelSleep_still  :
    (State.cancelSleep s).a.id = s.a.id ∧ (State.cancelSleep s).a.lap = s.a.lap ∧ (State.cancelSleep s).a.cfg = s.a.cfg ∧ (State.cancelSleep s).b.id = s.b.id ∧ (State.cancelSleep s).b.lap = s.b.lap ∧ (State.cancelSleep s).b.cfg = s.b.cfg := by
  unfold State.cancelSleep
  (try dsimp only)
  repeat' split
  all_goals simp

@[simp] theorem State.sleepPrecheck_still  :
    (State.sleepPrecheck s).a.id = s.a.id ∧ (State.sleepPrecheck s).a.lap = s.a.lap ∧ (State.sleepPrecheck s).a.cfg = s.a.cfg ∧ (State.sleepPrecheck s).b.id = s.b.id ∧ (State.sleepPrecheck s).b.lap = s.b.lap ∧ (State.sleepPrecheck s).b.cfg = s.b.cfg := by
  unfold State.sleepPrecheck
  (try dsimp only)
  repeat' split
  all_goals simp

@[simp] theorem State.sleepPoint_still  :
    (State.sleepPoint s).a.id = s.a.id ∧ (State.sleepPoint s).a.lap = s.a.lap ∧ (State.sleepPoint s).a.cfg = s.a.cfg ∧ (State.sleepPoint s).b.id = s.b.id ∧ (State.sleepPoint s).b.lap = s.b.lap ∧ (State.sleepPoint s).b.cfg = s.b.cfg := by
  unfold State.sleepPoint
  (try dsimp only)
  repeat' split
  all_goals simp

@[simp] theorem State.sleepWantDrop_still  :
    (State.sleepWantDrop s).a.id = s.a.id ∧ (State.sleepWantDrop s).a.lap = s.a.lap ∧ (State.sleepWantDrop s).a.cfg = s.a.cfg ∧ (State.sleepWantDrop s).b.id = s.b.id ∧ (State.sleepWantDrop s).b.lap = s.b.lap ∧ (State.sleepWantDrop s).b.cfg = s.b.cfg := by
  unfold State.sleepWantDrop
  refine State.eachLane_still s _ _ (fun i l => ?_)
  split
  · split <;> simp
  · simp

@[simp] theorem State.startWake_still (source : Nat) :
    (State.startWake source s).a.id = s.a.id ∧ (State.startWake source s).a.lap = s.a.lap ∧ (State.startWake source s).a.cfg = s.a.cfg ∧ (State.startWake source s).b.id = s.b.id ∧ (State.startWake source s).b.lap = s.b.lap ∧ (State.startWake source s).b.cfg = s.b.cfg := by
  unfold State.startWake
  (try dsimp only)
  repeat' split
  all_goals simp

@[simp] theorem State.asleepEntry_still (sealIt : Lane → Lane) (hf : ∀ l, (sealIt l).id = l.id ∧ (sealIt l).lap = l.lap ∧ (sealIt l).cfg = l.cfg) :
    (State.asleepEntry sealIt s).a.id = s.a.id ∧ (State.asleepEntry sealIt s).a.lap = s.a.lap ∧ (State.asleepEntry sealIt s).a.cfg = s.a.cfg ∧ (State.asleepEntry sealIt s).b.id = s.b.id ∧ (State.asleepEntry sealIt s).b.lap = s.b.lap ∧ (State.asleepEntry sealIt s).b.cfg = s.b.cfg := by
  unfold State.asleepEntry
  extract_lets due note s1 go s2
  have hn : ∀ i s, (note i s).a.id = s.a.id ∧ (note i s).a.lap = s.a.lap ∧ (note i s).a.cfg = s.a.cfg ∧ (note i s).b.id = s.b.id ∧ (note i s).b.lap = s.b.lap ∧ (note i s).b.cfg = s.b.cfg := by intro i s; simp only [note]; split <;> simp
  have h1 : s1.a.id = s.a.id ∧ s1.a.lap = s.a.lap ∧ s1.a.cfg = s.a.cfg ∧ s1.b.id = s.b.id ∧ s1.b.lap = s.b.lap ∧ s1.b.cfg = s.b.cfg := by simp [s1, hf, hn]
  clear_value s1
  have hg : ∀ i s, (go i s).a.id = s.a.id ∧ (go i s).a.lap = s.a.lap ∧ (go i s).a.cfg = s.a.cfg ∧ (go i s).b.id = s.b.id ∧ (go i s).b.lap = s.b.lap ∧ (go i s).b.cfg = s.b.cfg := by intro i s; simp only [go]; split <;> simp
  have h2 : s2.a.id = s.a.id ∧ s2.a.lap = s.a.lap ∧ s2.a.cfg = s.a.cfg ∧ s2.b.id = s.b.id ∧ s2.b.lap = s.b.lap ∧ s2.b.cfg = s.b.cfg := by simp [s2, hg, h1]
  clear_value s2
  split
  · simp
  · split <;> simp [h2]

@[simp] theorem State.wake_still (source : Nat) :
    (State.wake source s).a.id = s.a.id ∧ (State.wake source s).a.lap = s.a.lap ∧ (State.wake source s).a.cfg = s.a.cfg ∧ (State.wake source s).b.id = s.b.id ∧ (State.wake source s).b.lap = s.b.lap ∧ (State.wake source s).b.cfg = s.b.cfg := by
  unfold State.wake
  (try dsimp only)
  repeat' split
  all_goals simp

@[simp] theorem State.keeperTimeout_still  :
    (State.keeperTimeout s).a.id = s.a.id ∧ (State.keeperTimeout s).a.lap = s.a.lap ∧ (State.keeperTimeout s).a.cfg = s.a.cfg ∧ (State.keeperTimeout s).b.id = s.b.id ∧ (State.keeperTimeout s).b.lap = s.b.lap ∧ (State.keeperTimeout s).b.cfg = s.b.cfg := by
  unfold State.keeperTimeout
  extract_lets go
  have hg : ∀ i s t, go i s = some t → t.a.id = s.a.id ∧ t.a.lap = s.a.lap ∧ t.a.cfg = s.a.cfg ∧ t.b.id = s.b.id ∧ t.b.lap = s.b.lap ∧ t.b.cfg = s.b.cfg := by
    intro i s t h
    simp only [go] at h
    split at h
    · cases h; simp
    · cases h
  clear_value go
  split
  · next t h => exact hg _ _ _ h
  · cases h : go .B s with
    | none => simp
    | some t => simpa using hg _ _ _ h

@[simp] theorem State.timetableDue_still (id : Nat) :
    (State.timetableDue id s).a.id = s.a.id ∧ (State.timetableDue id s).a.lap = s.a.lap ∧ (State.timetableDue id s).a.cfg = s.a.cfg ∧ (State.timetableDue id s).b.id = s.b.id ∧ (State.timetableDue id s).b.lap = s.b.lap ∧ (State.timetableDue id s).b.cfg = s.b.cfg := by
  unfold State.timetableDue
  (try dsimp only)
  repeat' split
  all_goals simp

@[simp] theorem State.autoSleep_still  :
    (State.autoSleep s).a.id = s.a.id ∧ (State.autoSleep s).a.lap = s.a.lap ∧ (State.autoSleep s).a.cfg = s.a.cfg ∧ (State.autoSleep s).b.id = s.b.id ∧ (State.autoSleep s).b.lap = s.b.lap ∧ (State.autoSleep s).b.cfg = s.b.cfg := by
  unfold State.autoSleep
  (try dsimp only)
  repeat' split
  all_goals simp

@[simp] theorem State.powerEpoch_still  :
    (State.powerEpoch s).a.id = s.a.id ∧ (State.powerEpoch s).a.lap = s.a.lap ∧ (State.powerEpoch s).a.cfg = s.a.cfg ∧ (State.powerEpoch s).b.id = s.b.id ∧ (State.powerEpoch s).b.lap = s.b.lap ∧ (State.powerEpoch s).b.cfg = s.b.cfg := by
  unfold State.powerEpoch
  (try dsimp only)
  repeat' split
  all_goals simp

@[simp] theorem State.supplyGood_still (i : LaneId) :
    (State.supplyGood i s).a.id = s.a.id ∧ (State.supplyGood i s).a.lap = s.a.lap ∧ (State.supplyGood i s).a.cfg = s.a.cfg ∧ (State.supplyGood i s).b.id = s.b.id ∧ (State.supplyGood i s).b.lap = s.b.lap ∧ (State.supplyGood i s).b.cfg = s.b.cfg := by
  unfold State.supplyGood
  (try dsimp only)
  repeat' split
  all_goals simp

@[simp] theorem State.supplyLoss_still (i : LaneId) :
    (State.supplyLoss i s).a.id = s.a.id ∧ (State.supplyLoss i s).a.lap = s.a.lap ∧ (State.supplyLoss i s).a.cfg = s.a.cfg ∧ (State.supplyLoss i s).b.id = s.b.id ∧ (State.supplyLoss i s).b.lap = s.b.lap ∧ (State.supplyLoss i s).b.cfg = s.b.cfg := by
  unfold State.supplyLoss
  (try dsimp only)
  repeat' split
  all_goals simp

@[simp] theorem State.criticalRestart_still (i : LaneId) :
    (State.criticalRestart i s).a.id = s.a.id ∧ (State.criticalRestart i s).a.lap = s.a.lap ∧ (State.criticalRestart i s).a.cfg = s.a.cfg ∧ (State.criticalRestart i s).b.id = s.b.id ∧ (State.criticalRestart i s).b.lap = s.b.lap ∧ (State.criticalRestart i s).b.cfg = s.b.cfg := by
  unfold State.criticalRestart
  (try dsimp only)
  repeat' split
  all_goals simp

@[simp] theorem State.restartAnswer_still  :
    (State.restartAnswer s).a.id = s.a.id ∧ (State.restartAnswer s).a.lap = s.a.lap ∧ (State.restartAnswer s).a.cfg = s.a.cfg ∧ (State.restartAnswer s).b.id = s.b.id ∧ (State.restartAnswer s).b.lap = s.b.lap ∧ (State.restartAnswer s).b.cfg = s.b.cfg := by
  unfold State.restartAnswer
  (try dsimp only)
  repeat' split
  all_goals simp

@[simp] theorem State.moduleRestart_still  :
    (State.moduleRestart s).a.id = s.a.id ∧ (State.moduleRestart s).a.lap = s.a.lap ∧ (State.moduleRestart s).a.cfg = s.a.cfg ∧ (State.moduleRestart s).b.id = s.b.id ∧ (State.moduleRestart s).b.lap = s.b.lap ∧ (State.moduleRestart s).b.cfg = s.b.cfg := by
  unfold State.moduleRestart
  (try dsimp only)
  repeat' split
  all_goals simp

@[simp] theorem cmdSleepEnter_still (r : Request) :
    (cmdSleepEnter r s).1.a.id = s.a.id ∧ (cmdSleepEnter r s).1.a.lap = s.a.lap ∧ (cmdSleepEnter r s).1.a.cfg = s.a.cfg ∧ (cmdSleepEnter r s).1.b.id = s.b.id ∧ (cmdSleepEnter r s).1.b.lap = s.b.lap ∧ (cmdSleepEnter r s).1.b.cfg = s.b.cfg := by
  unfold cmdSleepEnter
  (try dsimp only)
  repeat' split
  all_goals simp

@[simp] theorem cmdPowerStatus_still (r : Request) :
    (cmdPowerStatus r s).1.a.id = s.a.id ∧ (cmdPowerStatus r s).1.a.lap = s.a.lap ∧ (cmdPowerStatus r s).1.a.cfg = s.a.cfg ∧ (cmdPowerStatus r s).1.b.id = s.b.id ∧ (cmdPowerStatus r s).1.b.lap = s.b.lap ∧ (cmdPowerStatus r s).1.b.cfg = s.b.cfg := by
  unfold cmdPowerStatus
  (try dsimp only)
  repeat' split
  all_goals simp

@[simp] theorem cmdModuleRestart_still (r : Request) :
    (cmdModuleRestart r s).1.a.id = s.a.id ∧ (cmdModuleRestart r s).1.a.lap = s.a.lap ∧ (cmdModuleRestart r s).1.a.cfg = s.a.cfg ∧ (cmdModuleRestart r s).1.b.id = s.b.id ∧ (cmdModuleRestart r s).1.b.lap = s.b.lap ∧ (cmdModuleRestart r s).1.b.cfg = s.b.cfg := by
  unfold cmdModuleRestart
  (try dsimp only)
  repeat' split
  all_goals simp

@[simp] theorem State.commitExchange_still  :
    (State.commitExchange s).a.id = s.a.id ∧ (State.commitExchange s).a.lap = s.a.lap ∧ (State.commitExchange s).a.cfg = s.a.cfg ∧ (State.commitExchange s).b.id = s.b.id ∧ (State.commitExchange s).b.lap = s.b.lap ∧ (State.commitExchange s).b.cfg = s.b.cfg := by
  unfold State.commitExchange
  (try dsimp only)
  repeat' split
  all_goals simp

@[simp] theorem State.authFailure_still (i : LaneId) (port : Nat) :
    (State.authFailure i port s).a.id = s.a.id ∧ (State.authFailure i port s).a.lap = s.a.lap ∧ (State.authFailure i port s).a.cfg = s.a.cfg ∧ (State.authFailure i port s).b.id = s.b.id ∧ (State.authFailure i port s).b.lap = s.b.lap ∧ (State.authFailure i port s).b.cfg = s.b.cfg := by
  unfold State.authFailure
  (try dsimp only)
  repeat' split
  all_goals simp

@[simp] theorem State.keyAsked_still (i : LaneId) (d : Datagram) :
    (State.keyAsked i d s).a.id = s.a.id ∧ (State.keyAsked i d s).a.lap = s.a.lap ∧ (State.keyAsked i d s).a.cfg = s.a.cfg ∧ (State.keyAsked i d s).b.id = s.b.id ∧ (State.keyAsked i d s).b.lap = s.b.lap ∧ (State.keyAsked i d s).b.cfg = s.b.cfg := by
  unfold State.keyAsked
  (try dsimp only)
  repeat' split
  all_goals simp

@[simp] theorem State.datagram_still (i : LaneId) (d : Datagram) :
    (State.datagram i d s).a.id = s.a.id ∧ (State.datagram i d s).a.lap = s.a.lap ∧ (State.datagram i d s).a.cfg = s.a.cfg ∧ (State.datagram i d s).b.id = s.b.id ∧ (State.datagram i d s).b.lap = s.b.lap ∧ (State.datagram i d s).b.cfg = s.b.cfg := by
  unfold State.datagram
  (try dsimp only)
  repeat' split
  all_goals simp

@[simp] theorem State.forwarded_still (i : LaneId) :
    (State.forwarded i s).a.id = s.a.id ∧ (State.forwarded i s).a.lap = s.a.lap ∧ (State.forwarded i s).a.cfg = s.a.cfg ∧ (State.forwarded i s).b.id = s.b.id ∧ (State.forwarded i s).b.lap = s.b.lap ∧ (State.forwarded i s).b.cfg = s.b.cfg := by
  unfold State.forwarded
  (try dsimp only)
  repeat' split
  all_goals simp

@[simp] theorem State.requestTake_still  :
    (State.requestTake s).a.id = s.a.id ∧ (State.requestTake s).a.lap = s.a.lap ∧ (State.requestTake s).a.cfg = s.a.cfg ∧ (State.requestTake s).b.id = s.b.id ∧ (State.requestTake s).b.lap = s.b.lap ∧ (State.requestTake s).b.cfg = s.b.cfg := by
  unfold State.requestTake
  (try dsimp only)
  repeat' split
  all_goals simp

@[simp] theorem State.takeNotice_still  :
    (State.takeNotice s).a.id = s.a.id ∧ (State.takeNotice s).a.lap = s.a.lap ∧ (State.takeNotice s).a.cfg = s.a.cfg ∧ (State.takeNotice s).b.id = s.b.id ∧ (State.takeNotice s).b.lap = s.b.lap ∧ (State.takeNotice s).b.cfg = s.b.cfg := by
  unfold State.takeNotice
  (try dsimp only)
  repeat' split
  all_goals simp

@[simp] theorem State.noticeTimeout_still  :
    (State.noticeTimeout s).a.id = s.a.id ∧ (State.noticeTimeout s).a.lap = s.a.lap ∧ (State.noticeTimeout s).a.cfg = s.a.cfg ∧ (State.noticeTimeout s).b.id = s.b.id ∧ (State.noticeTimeout s).b.lap = s.b.lap ∧ (State.noticeTimeout s).b.cfg = s.b.cfg := by
  unfold State.noticeTimeout
  (try dsimp only)
  repeat' split
  all_goals simp

@[simp] theorem onLanes_still (r : Request) (f : Lane → Lane × Option Reply) (hf : ∀ l, (f l).1.id = l.id ∧ (f l).1.lap = l.lap ∧ (f l).1.cfg = l.cfg) :
    (onLanes r f s).1.a.id = s.a.id ∧ (onLanes r f s).1.a.lap = s.a.lap ∧ (onLanes r f s).1.a.cfg = s.a.cfg ∧ (onLanes r f s).1.b.id = s.b.id ∧ (onLanes r f s).1.b.lap = s.b.lap ∧ (onLanes r f s).1.b.cfg = s.b.cfg := by
  unfold onLanes
  extract_lets sel x y s1
  have h : s1.a.id = s.a.id ∧ s1.a.lap = s.a.lap ∧ s1.a.cfg = s.a.cfg ∧ s1.b.id = s.b.id ∧ s1.b.lap = s.b.lap ∧ s1.b.cfg = s.b.cfg := by
    simp only [s1, x, y]
    refine ⟨?_, ?_, ?_, ?_, ?_, ?_⟩ <;> split <;> simp [hf]
  clear_value s1
  split <;> simp [h]

@[simp] theorem onLanesNow_still (r : Request) (f : Lane → Lane × Reply) (hf : ∀ l, (f l).1.id = l.id ∧ (f l).1.lap = l.lap ∧ (f l).1.cfg = l.cfg) :
    (onLanesNow r f s).1.a.id = s.a.id ∧ (onLanesNow r f s).1.a.lap = s.a.lap ∧ (onLanesNow r f s).1.a.cfg = s.a.cfg ∧ (onLanesNow r f s).1.b.id = s.b.id ∧ (onLanesNow r f s).1.b.lap = s.b.lap ∧ (onLanesNow r f s).1.b.cfg = s.b.cfg := by
  unfold onLanesNow
  exact onLanes_still s r _ hf

@[simp] theorem State.run_still (code : Nat) (r : Request) (f : StateCmd) (hf : ∀ s, (f s).1.a.id = s.a.id ∧ (f s).1.a.lap = s.a.lap ∧ (f s).1.a.cfg = s.a.cfg ∧ (f s).1.b.id = s.b.id ∧ (f s).1.b.lap = s.b.lap ∧ (f s).1.b.cfg = s.b.cfg) :
    (State.run code r f s).a.id = s.a.id ∧ (State.run code r f s).a.lap = s.a.lap ∧ (State.run code r f s).a.cfg = s.a.cfg ∧ (State.run code r f s).b.id = s.b.id ∧ (State.run code r f s).b.lap = s.b.lap ∧ (State.run code r f s).b.cfg = s.b.cfg := by
  unfold State.run
  split
  · simp
  · extract_lets l named lacks x
    have h := hf (if cancelsSleep code then s.cancelSleep else s)
    have h2 : (if cancelsSleep code then s.cancelSleep else s).a.id = s.a.id ∧ (if cancelsSleep code then s.cancelSleep else s).a.lap = s.a.lap ∧ (if cancelsSleep code then s.cancelSleep else s).a.cfg = s.a.cfg ∧ (if cancelsSleep code then s.cancelSleep else s).b.id = s.b.id ∧ (if cancelsSleep code then s.cancelSleep else s).b.lap = s.b.lap ∧ (if cancelsSleep code then s.cancelSleep else s).b.cfg = s.b.cfg := by simp
    have hx : x.1.a.id = s.a.id ∧ x.1.a.lap = s.a.lap ∧ x.1.a.cfg = s.a.cfg ∧ x.1.b.id = s.b.id ∧ x.1.b.lap = s.b.lap ∧ x.1.b.cfg = s.b.cfg := by
      simp only [x]; simp [h, h2]
    clear_value x
    repeat' split
    all_goals simp [hx]

@[simp] theorem cmdCaps_still (r : Request) :
    (cmdCaps r s).1.a.id = s.a.id ∧ (cmdCaps r s).1.a.lap = s.a.lap ∧ (cmdCaps r s).1.a.cfg = s.a.cfg ∧ (cmdCaps r s).1.b.id = s.b.id ∧ (cmdCaps r s).1.b.lap = s.b.lap ∧ (cmdCaps r s).1.b.cfg = s.b.cfg := by
  unfold cmdCaps
  (try dsimp only)
  repeat' split
  all_goals simp

@[simp] theorem cmdReset_still (r : Request) :
    (cmdReset r s).1.a.id = s.a.id ∧ (cmdReset r s).1.a.lap = s.a.lap ∧ (cmdReset r s).1.a.cfg = s.a.cfg ∧ (cmdReset r s).1.b.id = s.b.id ∧ (cmdReset r s).1.b.lap = s.b.lap ∧ (cmdReset r s).1.b.cfg = s.b.cfg := by
  unfold cmdReset
  extract_lets code unit u i l o unit' busy armed refused go
  have hg : ∀ j l, (go j l).id = l.id ∧ (go j l).lap = l.lap ∧ (go j l).cfg = l.cfg := by
    intro j l; simp only [go]; repeat' split
    all_goals simp
  clear_value go refused busy armed u l o
  repeat' split
  all_goals simp [hg]

@[simp] theorem State.resetComplete_still (code unit : Nat) :
    (State.resetComplete code unit s).a.id = s.a.id ∧ (State.resetComplete code unit s).a.lap = s.a.lap ∧ (State.resetComplete code unit s).a.cfg = s.a.cfg ∧ (State.resetComplete code unit s).b.id = s.b.id ∧ (State.resetComplete code unit s).b.lap = s.b.lap ∧ (State.resetComplete code unit s).b.cfg = s.b.cfg := by
  unfold State.resetComplete
  extract_lets mine op
  refine State.eachLane_still s _ _ (fun i l => ?_)
  split
  · simp
  · split
    · simp
    · extract_lets l1 here l2
      have h : l2.id = l.id ∧ l2.lap = l.lap ∧ l2.cfg = l.cfg := by simp only [l2, l1]; split <;> simp
      simp [h]

@[simp] theorem cmdClockSet_still (r : Request) :
    (cmdClockSet r s).1.a.id = s.a.id ∧ (cmdClockSet r s).1.a.lap = s.a.lap ∧ (cmdClockSet r s).1.a.cfg = s.a.cfg ∧ (cmdClockSet r s).1.b.id = s.b.id ∧ (cmdClockSet r s).1.b.lap = s.b.lap ∧ (cmdClockSet r s).1.b.cfg = s.b.cfg := by
  unfold cmdClockSet
  (try dsimp only)
  repeat' split
  all_goals simp

@[simp] theorem State.lines_still  :
    (State.lines s).a.id = s.a.id ∧ (State.lines s).a.lap = s.a.lap ∧ (State.lines s).a.cfg = s.a.cfg ∧ (State.lines s).b.id = s.b.id ∧ (State.lines s).b.lap = s.b.lap ∧ (State.lines s).b.cfg = s.b.cfg := by
  unfold State.lines
  (try dsimp only)
  repeat' split
  all_goals simp

@[simp] theorem doNop_still (r : Request) :
    (doNop r s).1.a.id = s.a.id ∧ (doNop r s).1.a.lap = s.a.lap ∧ (doNop r s).1.a.cfg = s.a.cfg ∧ (doNop r s).1.b.id = s.b.id ∧ (doNop r s).1.b.lap = s.b.lap ∧ (doNop r s).1.b.cfg = s.b.cfg := by
  unfold doNop
  (try dsimp only)
  repeat' split
  all_goals simp

@[simp] theorem doCaps_still (r : Request) :
    (doCaps r s).1.a.id = s.a.id ∧ (doCaps r s).1.a.lap = s.a.lap ∧ (doCaps r s).1.a.cfg = s.a.cfg ∧ (doCaps r s).1.b.id = s.b.id ∧ (doCaps r s).1.b.lap = s.b.lap ∧ (doCaps r s).1.b.cfg = s.b.cfg := by
  unfold doCaps
  (try dsimp only)
  repeat' split
  all_goals simp

@[simp] theorem doRingSet_still (r : Request) :
    (doRingSet r s).1.a.id = s.a.id ∧ (doRingSet r s).1.a.lap = s.a.lap ∧ (doRingSet r s).1.a.cfg = s.a.cfg ∧ (doRingSet r s).1.b.id = s.b.id ∧ (doRingSet r s).1.b.lap = s.b.lap ∧ (doRingSet r s).1.b.cfg = s.b.cfg := by
  unfold doRingSet
  (try dsimp only)
  repeat' split
  all_goals simp

@[simp] theorem doRingResync_still (r : Request) :
    (doRingResync r s).1.a.id = s.a.id ∧ (doRingResync r s).1.a.lap = s.a.lap ∧ (doRingResync r s).1.a.cfg = s.a.cfg ∧ (doRingResync r s).1.b.id = s.b.id ∧ (doRingResync r s).1.b.lap = s.b.lap ∧ (doRingResync r s).1.b.cfg = s.b.cfg := by
  unfold doRingResync
  (try dsimp only)
  repeat' split
  all_goals simp

@[simp] theorem doRingStatus_still (r : Request) :
    (doRingStatus r s).1.a.id = s.a.id ∧ (doRingStatus r s).1.a.lap = s.a.lap ∧ (doRingStatus r s).1.a.cfg = s.a.cfg ∧ (doRingStatus r s).1.b.id = s.b.id ∧ (doRingStatus r s).1.b.lap = s.b.lap ∧ (doRingStatus r s).1.b.cfg = s.b.cfg := by
  unfold doRingStatus
  (try dsimp only)
  repeat' split
  all_goals simp

@[simp] theorem doSnapshot_still (r : Request) :
    (doSnapshot r s).1.a.id = s.a.id ∧ (doSnapshot r s).1.a.lap = s.a.lap ∧ (doSnapshot r s).1.a.cfg = s.a.cfg ∧ (doSnapshot r s).1.b.id = s.b.id ∧ (doSnapshot r s).1.b.lap = s.b.lap ∧ (doSnapshot r s).1.b.cfg = s.b.cfg := by
  unfold doSnapshot
  (try dsimp only)
  repeat' split
  all_goals simp

@[simp] theorem doReadStaged_still (r : Request) :
    (doReadStaged r s).1.a.id = s.a.id ∧ (doReadStaged r s).1.a.lap = s.a.lap ∧ (doReadStaged r s).1.a.cfg = s.a.cfg ∧ (doReadStaged r s).1.b.id = s.b.id ∧ (doReadStaged r s).1.b.lap = s.b.lap ∧ (doReadStaged r s).1.b.cfg = s.b.cfg := by
  unfold doReadStaged
  (try dsimp only)
  repeat' split
  all_goals simp

@[simp] theorem doHistory_still (r : Request) :
    (doHistory r s).1.a.id = s.a.id ∧ (doHistory r s).1.a.lap = s.a.lap ∧ (doHistory r s).1.a.cfg = s.a.cfg ∧ (doHistory r s).1.b.id = s.b.id ∧ (doHistory r s).1.b.lap = s.b.lap ∧ (doHistory r s).1.b.cfg = s.b.cfg := by
  unfold doHistory
  (try dsimp only)
  repeat' split
  all_goals simp

@[simp] theorem doStage_still (r : Request) :
    (doStage r s).1.a.id = s.a.id ∧ (doStage r s).1.a.lap = s.a.lap ∧ (doStage r s).1.a.cfg = s.a.cfg ∧ (doStage r s).1.b.id = s.b.id ∧ (doStage r s).1.b.lap = s.b.lap ∧ (doStage r s).1.b.cfg = s.b.cfg := by
  unfold doStage
  (try dsimp only)
  repeat' split
  all_goals simp

@[simp] theorem doCommit_still (r : Request) :
    (doCommit r s).1.a.id = s.a.id ∧ (doCommit r s).1.a.lap = s.a.lap ∧ (doCommit r s).1.a.cfg = s.a.cfg ∧ (doCommit r s).1.b.id = s.b.id ∧ (doCommit r s).1.b.lap = s.b.lap ∧ (doCommit r s).1.b.cfg = s.b.cfg := by
  unfold doCommit
  (try dsimp only)
  repeat' split
  all_goals simp

@[simp] theorem doDiscard_still (r : Request) :
    (doDiscard r s).1.a.id = s.a.id ∧ (doDiscard r s).1.a.lap = s.a.lap ∧ (doDiscard r s).1.a.cfg = s.a.cfg ∧ (doDiscard r s).1.b.id = s.b.id ∧ (doDiscard r s).1.b.lap = s.b.lap ∧ (doDiscard r s).1.b.cfg = s.b.cfg := by
  unfold doDiscard
  (try dsimp only)
  repeat' split
  all_goals simp

@[simp] theorem doCommitList_still (r : Request) :
    (doCommitList r s).1.a.id = s.a.id ∧ (doCommitList r s).1.a.lap = s.a.lap ∧ (doCommitList r s).1.a.cfg = s.a.cfg ∧ (doCommitList r s).1.b.id = s.b.id ∧ (doCommitList r s).1.b.lap = s.b.lap ∧ (doCommitList r s).1.b.cfg = s.b.cfg := by
  unfold doCommitList
  (try dsimp only)
  repeat' split
  all_goals simp

@[simp] theorem doSubscribe_still (r : Request) :
    (doSubscribe r s).1.a.id = s.a.id ∧ (doSubscribe r s).1.a.lap = s.a.lap ∧ (doSubscribe r s).1.a.cfg = s.a.cfg ∧ (doSubscribe r s).1.b.id = s.b.id ∧ (doSubscribe r s).1.b.lap = s.b.lap ∧ (doSubscribe r s).1.b.cfg = s.b.cfg := by
  unfold doSubscribe
  (try dsimp only)
  repeat' split
  all_goals simp

@[simp] theorem doUnsubscribe_still (r : Request) :
    (doUnsubscribe r s).1.a.id = s.a.id ∧ (doUnsubscribe r s).1.a.lap = s.a.lap ∧ (doUnsubscribe r s).1.a.cfg = s.a.cfg ∧ (doUnsubscribe r s).1.b.id = s.b.id ∧ (doUnsubscribe r s).1.b.lap = s.b.lap ∧ (doUnsubscribe r s).1.b.cfg = s.b.cfg := by
  unfold doUnsubscribe
  (try dsimp only)
  repeat' split
  all_goals simp

@[simp] theorem doEventMap_still (r : Request) :
    (doEventMap r s).1.a.id = s.a.id ∧ (doEventMap r s).1.a.lap = s.a.lap ∧ (doEventMap r s).1.a.cfg = s.a.cfg ∧ (doEventMap r s).1.b.id = s.b.id ∧ (doEventMap r s).1.b.lap = s.b.lap ∧ (doEventMap r s).1.b.cfg = s.b.cfg := by
  unfold doEventMap
  (try dsimp only)
  repeat' split
  all_goals simp

@[simp] theorem doEventMapRead_still (r : Request) :
    (doEventMapRead r s).1.a.id = s.a.id ∧ (doEventMapRead r s).1.a.lap = s.a.lap ∧ (doEventMapRead r s).1.a.cfg = s.a.cfg ∧ (doEventMapRead r s).1.b.id = s.b.id ∧ (doEventMapRead r s).1.b.lap = s.b.lap ∧ (doEventMapRead r s).1.b.cfg = s.b.cfg := by
  unfold doEventMapRead
  (try dsimp only)
  repeat' split
  all_goals simp

@[simp] theorem doResetFunction_still (r : Request) :
    (doResetFunction r s).1.a.id = s.a.id ∧ (doResetFunction r s).1.a.lap = s.a.lap ∧ (doResetFunction r s).1.a.cfg = s.a.cfg ∧ (doResetFunction r s).1.b.id = s.b.id ∧ (doResetFunction r s).1.b.lap = s.b.lap ∧ (doResetFunction r s).1.b.cfg = s.b.cfg := by
  unfold doResetFunction
  (try dsimp only)
  repeat' split
  all_goals simp

@[simp] theorem doSessionAuthorize_still (r : Request) :
    (doSessionAuthorize r s).1.a.id = s.a.id ∧ (doSessionAuthorize r s).1.a.lap = s.a.lap ∧ (doSessionAuthorize r s).1.a.cfg = s.a.cfg ∧ (doSessionAuthorize r s).1.b.id = s.b.id ∧ (doSessionAuthorize r s).1.b.lap = s.b.lap ∧ (doSessionAuthorize r s).1.b.cfg = s.b.cfg := by
  unfold doSessionAuthorize
  (try dsimp only)
  repeat' split
  all_goals simp

@[simp] theorem doSessionStop_still (r : Request) :
    (doSessionStop r s).1.a.id = s.a.id ∧ (doSessionStop r s).1.a.lap = s.a.lap ∧ (doSessionStop r s).1.a.cfg = s.a.cfg ∧ (doSessionStop r s).1.b.id = s.b.id ∧ (doSessionStop r s).1.b.lap = s.b.lap ∧ (doSessionStop r s).1.b.cfg = s.b.cfg := by
  unfold doSessionStop
  (try dsimp only)
  repeat' split
  all_goals simp

@[simp] theorem doOutletBlock_still (r : Request) :
    (doOutletBlock r s).1.a.id = s.a.id ∧ (doOutletBlock r s).1.a.lap = s.a.lap ∧ (doOutletBlock r s).1.a.cfg = s.a.cfg ∧ (doOutletBlock r s).1.b.id = s.b.id ∧ (doOutletBlock r s).1.b.lap = s.b.lap ∧ (doOutletBlock r s).1.b.cfg = s.b.cfg := by
  unfold doOutletBlock
  (try dsimp only)
  repeat' split
  all_goals simp

@[simp] theorem doOutletClear_still (r : Request) :
    (doOutletClear r s).1.a.id = s.a.id ∧ (doOutletClear r s).1.a.lap = s.a.lap ∧ (doOutletClear r s).1.a.cfg = s.a.cfg ∧ (doOutletClear r s).1.b.id = s.b.id ∧ (doOutletClear r s).1.b.lap = s.b.lap ∧ (doOutletClear r s).1.b.cfg = s.b.cfg := by
  unfold doOutletClear
  (try dsimp only)
  repeat' split
  all_goals simp

@[simp] theorem doSessionInfo_still (r : Request) :
    (doSessionInfo r s).1.a.id = s.a.id ∧ (doSessionInfo r s).1.a.lap = s.a.lap ∧ (doSessionInfo r s).1.a.cfg = s.a.cfg ∧ (doSessionInfo r s).1.b.id = s.b.id ∧ (doSessionInfo r s).1.b.lap = s.b.lap ∧ (doSessionInfo r s).1.b.cfg = s.b.cfg := by
  unfold doSessionInfo
  (try dsimp only)
  repeat' split
  all_goals simp

@[simp] theorem doSessionRestart_still (r : Request) :
    (doSessionRestart r s).1.a.id = s.a.id ∧ (doSessionRestart r s).1.a.lap = s.a.lap ∧ (doSessionRestart r s).1.a.cfg = s.a.cfg ∧ (doSessionRestart r s).1.b.id = s.b.id ∧ (doSessionRestart r s).1.b.lap = s.b.lap ∧ (doSessionRestart r s).1.b.cfg = s.b.cfg := by
  unfold doSessionRestart
  (try dsimp only)
  repeat' split
  all_goals simp

@[simp] theorem doKeyMsgLoad_still (r : Request) :
    (doKeyMsgLoad r s).1.a.id = s.a.id ∧ (doKeyMsgLoad r s).1.a.lap = s.a.lap ∧ (doKeyMsgLoad r s).1.a.cfg = s.a.cfg ∧ (doKeyMsgLoad r s).1.b.id = s.b.id ∧ (doKeyMsgLoad r s).1.b.lap = s.b.lap ∧ (doKeyMsgLoad r s).1.b.cfg = s.b.cfg := by
  unfold doKeyMsgLoad
  (try dsimp only)
  repeat' split
  all_goals simp

@[simp] theorem doKeyMsgApply_still (r : Request) :
    (doKeyMsgApply r s).1.a.id = s.a.id ∧ (doKeyMsgApply r s).1.a.lap = s.a.lap ∧ (doKeyMsgApply r s).1.a.cfg = s.a.cfg ∧ (doKeyMsgApply r s).1.b.id = s.b.id ∧ (doKeyMsgApply r s).1.b.lap = s.b.lap ∧ (doKeyMsgApply r s).1.b.cfg = s.b.cfg := by
  unfold doKeyMsgApply
  (try dsimp only)
  repeat' split
  all_goals simp

@[simp] theorem doKeyInfo_still (r : Request) :
    (doKeyInfo r s).1.a.id = s.a.id ∧ (doKeyInfo r s).1.a.lap = s.a.lap ∧ (doKeyInfo r s).1.a.cfg = s.a.cfg ∧ (doKeyInfo r s).1.b.id = s.b.id ∧ (doKeyInfo r s).1.b.lap = s.b.lap ∧ (doKeyInfo r s).1.b.cfg = s.b.cfg := by
  unfold doKeyInfo
  (try dsimp only)
  repeat' split
  all_goals simp

@[simp] theorem doKeyList_still (r : Request) :
    (doKeyList r s).1.a.id = s.a.id ∧ (doKeyList r s).1.a.lap = s.a.lap ∧ (doKeyList r s).1.a.cfg = s.a.cfg ∧ (doKeyList r s).1.b.id = s.b.id ∧ (doKeyList r s).1.b.lap = s.b.lap ∧ (doKeyList r s).1.b.cfg = s.b.cfg := by
  unfold doKeyList
  (try dsimp only)
  repeat' split
  all_goals simp

@[simp] theorem doKeyCounterRead_still (r : Request) :
    (doKeyCounterRead r s).1.a.id = s.a.id ∧ (doKeyCounterRead r s).1.a.lap = s.a.lap ∧ (doKeyCounterRead r s).1.a.cfg = s.a.cfg ∧ (doKeyCounterRead r s).1.b.id = s.b.id ∧ (doKeyCounterRead r s).1.b.lap = s.b.lap ∧ (doKeyCounterRead r s).1.b.cfg = s.b.cfg := by
  unfold doKeyCounterRead
  (try dsimp only)
  repeat' split
  all_goals simp

@[simp] theorem doLaneStatus_still (r : Request) :
    (doLaneStatus r s).1.a.id = s.a.id ∧ (doLaneStatus r s).1.a.lap = s.a.lap ∧ (doLaneStatus r s).1.a.cfg = s.a.cfg ∧ (doLaneStatus r s).1.b.id = s.b.id ∧ (doLaneStatus r s).1.b.lap = s.b.lap ∧ (doLaneStatus r s).1.b.cfg = s.b.cfg := by
  unfold doLaneStatus
  (try dsimp only)
  repeat' split
  all_goals simp

@[simp] theorem doBatonHandover_still (r : Request) :
    (doBatonHandover r s).1.a.id = s.a.id ∧ (doBatonHandover r s).1.a.lap = s.a.lap ∧ (doBatonHandover r s).1.a.cfg = s.a.cfg ∧ (doBatonHandover r s).1.b.id = s.b.id ∧ (doBatonHandover r s).1.b.lap = s.b.lap ∧ (doBatonHandover r s).1.b.cfg = s.b.cfg := by
  unfold doBatonHandover
  (try dsimp only)
  repeat' split
  all_goals simp

@[simp] theorem doFwLoad_still (r : Request) :
    (doFwLoad r s).1.a.id = s.a.id ∧ (doFwLoad r s).1.a.lap = s.a.lap ∧ (doFwLoad r s).1.a.cfg = s.a.cfg ∧ (doFwLoad r s).1.b.id = s.b.id ∧ (doFwLoad r s).1.b.lap = s.b.lap ∧ (doFwLoad r s).1.b.cfg = s.b.cfg := by
  unfold doFwLoad
  (try dsimp only)
  repeat' split
  all_goals simp

@[simp] theorem doFwVerify_still (r : Request) :
    (doFwVerify r s).1.a.id = s.a.id ∧ (doFwVerify r s).1.a.lap = s.a.lap ∧ (doFwVerify r s).1.a.cfg = s.a.cfg ∧ (doFwVerify r s).1.b.id = s.b.id ∧ (doFwVerify r s).1.b.lap = s.b.lap ∧ (doFwVerify r s).1.b.cfg = s.b.cfg := by
  unfold doFwVerify
  (try dsimp only)
  repeat' split
  all_goals simp

@[simp] theorem doFwActivate_still (r : Request) :
    (doFwActivate r s).1.a.id = s.a.id ∧ (doFwActivate r s).1.a.lap = s.a.lap ∧ (doFwActivate r s).1.a.cfg = s.a.cfg ∧ (doFwActivate r s).1.b.id = s.b.id ∧ (doFwActivate r s).1.b.lap = s.b.lap ∧ (doFwActivate r s).1.b.cfg = s.b.cfg := by
  unfold doFwActivate
  (try dsimp only)
  repeat' split
  all_goals simp

@[simp] theorem doLanePark_still (r : Request) :
    (doLanePark r s).1.a.id = s.a.id ∧ (doLanePark r s).1.a.lap = s.a.lap ∧ (doLanePark r s).1.a.cfg = s.a.cfg ∧ (doLanePark r s).1.b.id = s.b.id ∧ (doLanePark r s).1.b.lap = s.b.lap ∧ (doLanePark r s).1.b.cfg = s.b.cfg := by
  unfold doLanePark
  (try dsimp only)
  repeat' split
  all_goals simp

@[simp] theorem doLaneUnpark_still (r : Request) :
    (doLaneUnpark r s).1.a.id = s.a.id ∧ (doLaneUnpark r s).1.a.lap = s.a.lap ∧ (doLaneUnpark r s).1.a.cfg = s.a.cfg ∧ (doLaneUnpark r s).1.b.id = s.b.id ∧ (doLaneUnpark r s).1.b.lap = s.b.lap ∧ (doLaneUnpark r s).1.b.cfg = s.b.cfg := by
  unfold doLaneUnpark
  (try dsimp only)
  repeat' split
  all_goals simp

@[simp] theorem doLaneEligible_still (r : Request) :
    (doLaneEligible r s).1.a.id = s.a.id ∧ (doLaneEligible r s).1.a.lap = s.a.lap ∧ (doLaneEligible r s).1.a.cfg = s.a.cfg ∧ (doLaneEligible r s).1.b.id = s.b.id ∧ (doLaneEligible r s).1.b.lap = s.b.lap ∧ (doLaneEligible r s).1.b.cfg = s.b.cfg := by
  unfold doLaneEligible
  (try dsimp only)
  repeat' split
  all_goals simp

@[simp] theorem doTeamStatus_still (r : Request) :
    (doTeamStatus r s).1.a.id = s.a.id ∧ (doTeamStatus r s).1.a.lap = s.a.lap ∧ (doTeamStatus r s).1.a.cfg = s.a.cfg ∧ (doTeamStatus r s).1.b.id = s.b.id ∧ (doTeamStatus r s).1.b.lap = s.b.lap ∧ (doTeamStatus r s).1.b.cfg = s.b.cfg := by
  unfold doTeamStatus
  (try dsimp only)
  repeat' split
  all_goals simp

@[simp] theorem doTeamMembers_still (r : Request) :
    (doTeamMembers r s).1.a.id = s.a.id ∧ (doTeamMembers r s).1.a.lap = s.a.lap ∧ (doTeamMembers r s).1.a.cfg = s.a.cfg ∧ (doTeamMembers r s).1.b.id = s.b.id ∧ (doTeamMembers r s).1.b.lap = s.b.lap ∧ (doTeamMembers r s).1.b.cfg = s.b.cfg := by
  unfold doTeamMembers
  (try dsimp only)
  repeat' split
  all_goals simp

@[simp] theorem doTeamTrigger_still (r : Request) :
    (doTeamTrigger r s).1.a.id = s.a.id ∧ (doTeamTrigger r s).1.a.lap = s.a.lap ∧ (doTeamTrigger r s).1.a.cfg = s.a.cfg ∧ (doTeamTrigger r s).1.b.id = s.b.id ∧ (doTeamTrigger r s).1.b.lap = s.b.lap ∧ (doTeamTrigger r s).1.b.cfg = s.b.cfg := by
  unfold doTeamTrigger
  (try dsimp only)
  repeat' split
  all_goals simp

@[simp] theorem doTuneStart_still (r : Request) :
    (doTuneStart r s).1.a.id = s.a.id ∧ (doTuneStart r s).1.a.lap = s.a.lap ∧ (doTuneStart r s).1.a.cfg = s.a.cfg ∧ (doTuneStart r s).1.b.id = s.b.id ∧ (doTuneStart r s).1.b.lap = s.b.lap ∧ (doTuneStart r s).1.b.cfg = s.b.cfg := by
  unfold doTuneStart
  (try dsimp only)
  repeat' split
  all_goals simp

@[simp] theorem doTuneStop_still (r : Request) :
    (doTuneStop r s).1.a.id = s.a.id ∧ (doTuneStop r s).1.a.lap = s.a.lap ∧ (doTuneStop r s).1.a.cfg = s.a.cfg ∧ (doTuneStop r s).1.b.id = s.b.id ∧ (doTuneStop r s).1.b.lap = s.b.lap ∧ (doTuneStop r s).1.b.cfg = s.b.cfg := by
  unfold doTuneStop
  (try dsimp only)
  repeat' split
  all_goals simp

@[simp] theorem doTuneResult_still (r : Request) :
    (doTuneResult r s).1.a.id = s.a.id ∧ (doTuneResult r s).1.a.lap = s.a.lap ∧ (doTuneResult r s).1.a.cfg = s.a.cfg ∧ (doTuneResult r s).1.b.id = s.b.id ∧ (doTuneResult r s).1.b.lap = s.b.lap ∧ (doTuneResult r s).1.b.cfg = s.b.cfg := by
  unfold doTuneResult
  (try dsimp only)
  repeat' split
  all_goals simp

@[simp] theorem doTraceArm_still (r : Request) :
    (doTraceArm r s).1.a.id = s.a.id ∧ (doTraceArm r s).1.a.lap = s.a.lap ∧ (doTraceArm r s).1.a.cfg = s.a.cfg ∧ (doTraceArm r s).1.b.id = s.b.id ∧ (doTraceArm r s).1.b.lap = s.b.lap ∧ (doTraceArm r s).1.b.cfg = s.b.cfg := by
  unfold doTraceArm
  (try dsimp only)
  repeat' split
  all_goals simp

@[simp] theorem doTraceRead_still (r : Request) :
    (doTraceRead r s).1.a.id = s.a.id ∧ (doTraceRead r s).1.a.lap = s.a.lap ∧ (doTraceRead r s).1.a.cfg = s.a.cfg ∧ (doTraceRead r s).1.b.id = s.b.id ∧ (doTraceRead r s).1.b.lap = s.b.lap ∧ (doTraceRead r s).1.b.cfg = s.b.cfg := by
  unfold doTraceRead
  (try dsimp only)
  repeat' split
  all_goals simp

@[simp] theorem doAcqArm_still (r : Request) :
    (doAcqArm r s).1.a.id = s.a.id ∧ (doAcqArm r s).1.a.lap = s.a.lap ∧ (doAcqArm r s).1.a.cfg = s.a.cfg ∧ (doAcqArm r s).1.b.id = s.b.id ∧ (doAcqArm r s).1.b.lap = s.b.lap ∧ (doAcqArm r s).1.b.cfg = s.b.cfg := by
  unfold doAcqArm
  (try dsimp only)
  repeat' split
  all_goals simp

@[simp] theorem doAcqDisarm_still (r : Request) :
    (doAcqDisarm r s).1.a.id = s.a.id ∧ (doAcqDisarm r s).1.a.lap = s.a.lap ∧ (doAcqDisarm r s).1.a.cfg = s.a.cfg ∧ (doAcqDisarm r s).1.b.id = s.b.id ∧ (doAcqDisarm r s).1.b.lap = s.b.lap ∧ (doAcqDisarm r s).1.b.cfg = s.b.cfg := by
  unfold doAcqDisarm
  (try dsimp only)
  repeat' split
  all_goals simp

@[simp] theorem doAcqTrigger_still (r : Request) :
    (doAcqTrigger r s).1.a.id = s.a.id ∧ (doAcqTrigger r s).1.a.lap = s.a.lap ∧ (doAcqTrigger r s).1.a.cfg = s.a.cfg ∧ (doAcqTrigger r s).1.b.id = s.b.id ∧ (doAcqTrigger r s).1.b.lap = s.b.lap ∧ (doAcqTrigger r s).1.b.cfg = s.b.cfg := by
  unfold doAcqTrigger
  (try dsimp only)
  repeat' split
  all_goals simp

@[simp] theorem doAcqList_still (r : Request) :
    (doAcqList r s).1.a.id = s.a.id ∧ (doAcqList r s).1.a.lap = s.a.lap ∧ (doAcqList r s).1.a.cfg = s.a.cfg ∧ (doAcqList r s).1.b.id = s.b.id ∧ (doAcqList r s).1.b.lap = s.b.lap ∧ (doAcqList r s).1.b.cfg = s.b.cfg := by
  unfold doAcqList
  (try dsimp only)
  repeat' split
  all_goals simp

@[simp] theorem doAcqRead_still (r : Request) :
    (doAcqRead r s).1.a.id = s.a.id ∧ (doAcqRead r s).1.a.lap = s.a.lap ∧ (doAcqRead r s).1.a.cfg = s.a.cfg ∧ (doAcqRead r s).1.b.id = s.b.id ∧ (doAcqRead r s).1.b.lap = s.b.lap ∧ (doAcqRead r s).1.b.cfg = s.b.cfg := by
  unfold doAcqRead
  (try dsimp only)
  repeat' split
  all_goals simp

@[simp] theorem doAcqDelete_still (r : Request) :
    (doAcqDelete r s).1.a.id = s.a.id ∧ (doAcqDelete r s).1.a.lap = s.a.lap ∧ (doAcqDelete r s).1.a.cfg = s.a.cfg ∧ (doAcqDelete r s).1.b.id = s.b.id ∧ (doAcqDelete r s).1.b.lap = s.b.lap ∧ (doAcqDelete r s).1.b.cfg = s.b.cfg := by
  unfold doAcqDelete
  (try dsimp only)
  repeat' split
  all_goals simp

@[simp] theorem doPeriodRead_still (r : Request) :
    (doPeriodRead r s).1.a.id = s.a.id ∧ (doPeriodRead r s).1.a.lap = s.a.lap ∧ (doPeriodRead r s).1.a.cfg = s.a.cfg ∧ (doPeriodRead r s).1.b.id = s.b.id ∧ (doPeriodRead r s).1.b.lap = s.b.lap ∧ (doPeriodRead r s).1.b.cfg = s.b.cfg := by
  unfold doPeriodRead
  (try dsimp only)
  repeat' split
  all_goals simp

@[simp] theorem doProfileRead_still (r : Request) :
    (doProfileRead r s).1.a.id = s.a.id ∧ (doProfileRead r s).1.a.lap = s.a.lap ∧ (doProfileRead r s).1.a.cfg = s.a.cfg ∧ (doProfileRead r s).1.b.id = s.b.id ∧ (doProfileRead r s).1.b.lap = s.b.lap ∧ (doProfileRead r s).1.b.cfg = s.b.cfg := by
  unfold doProfileRead
  (try dsimp only)
  repeat' split
  all_goals simp

@[simp] theorem doLogRead_still (r : Request) :
    (doLogRead r s).1.a.id = s.a.id ∧ (doLogRead r s).1.a.lap = s.a.lap ∧ (doLogRead r s).1.a.cfg = s.a.cfg ∧ (doLogRead r s).1.b.id = s.b.id ∧ (doLogRead r s).1.b.lap = s.b.lap ∧ (doLogRead r s).1.b.cfg = s.b.cfg := by
  unfold doLogRead
  (try dsimp only)
  repeat' split
  all_goals simp

@[simp] theorem doRecordRead_still (r : Request) :
    (doRecordRead r s).1.a.id = s.a.id ∧ (doRecordRead r s).1.a.lap = s.a.lap ∧ (doRecordRead r s).1.a.cfg = s.a.cfg ∧ (doRecordRead r s).1.b.id = s.b.id ∧ (doRecordRead r s).1.b.lap = s.b.lap ∧ (doRecordRead r s).1.b.cfg = s.b.cfg := by
  unfold doRecordRead
  (try dsimp only)
  repeat' split
  all_goals simp

@[simp] theorem doClockRead_still (r : Request) :
    (doClockRead r s).1.a.id = s.a.id ∧ (doClockRead r s).1.a.lap = s.a.lap ∧ (doClockRead r s).1.a.cfg = s.a.cfg ∧ (doClockRead r s).1.b.id = s.b.id ∧ (doClockRead r s).1.b.lap = s.b.lap ∧ (doClockRead r s).1.b.cfg = s.b.cfg := by
  unfold doClockRead
  (try dsimp only)
  repeat' split
  all_goals simp

@[simp] theorem doClockSet_still (r : Request) :
    (doClockSet r s).1.a.id = s.a.id ∧ (doClockSet r s).1.a.lap = s.a.lap ∧ (doClockSet r s).1.a.cfg = s.a.cfg ∧ (doClockSet r s).1.b.id = s.b.id ∧ (doClockSet r s).1.b.lap = s.b.lap ∧ (doClockSet r s).1.b.cfg = s.b.cfg := by
  unfold doClockSet
  (try dsimp only)
  repeat' split
  all_goals simp

@[simp] theorem doTamperAck_still (r : Request) :
    (doTamperAck r s).1.a.id = s.a.id ∧ (doTamperAck r s).1.a.lap = s.a.lap ∧ (doTamperAck r s).1.a.cfg = s.a.cfg ∧ (doTamperAck r s).1.b.id = s.b.id ∧ (doTamperAck r s).1.b.lap = s.b.lap ∧ (doTamperAck r s).1.b.cfg = s.b.cfg := by
  unfold doTamperAck
  (try dsimp only)
  repeat' split
  all_goals simp

@[simp] theorem doPubkeyRead_still (r : Request) :
    (doPubkeyRead r s).1.a.id = s.a.id ∧ (doPubkeyRead r s).1.a.lap = s.a.lap ∧ (doPubkeyRead r s).1.a.cfg = s.a.cfg ∧ (doPubkeyRead r s).1.b.id = s.b.id ∧ (doPubkeyRead r s).1.b.lap = s.b.lap ∧ (doPubkeyRead r s).1.b.cfg = s.b.cfg := by
  unfold doPubkeyRead
  (try dsimp only)
  repeat' split
  all_goals simp

@[simp] theorem doSleepEnter_still (r : Request) :
    (doSleepEnter r s).1.a.id = s.a.id ∧ (doSleepEnter r s).1.a.lap = s.a.lap ∧ (doSleepEnter r s).1.a.cfg = s.a.cfg ∧ (doSleepEnter r s).1.b.id = s.b.id ∧ (doSleepEnter r s).1.b.lap = s.b.lap ∧ (doSleepEnter r s).1.b.cfg = s.b.cfg := by
  unfold doSleepEnter
  (try dsimp only)
  repeat' split
  all_goals simp

@[simp] theorem doTtWrite_still (r : Request) :
    (doTtWrite r s).1.a.id = s.a.id ∧ (doTtWrite r s).1.a.lap = s.a.lap ∧ (doTtWrite r s).1.a.cfg = s.a.cfg ∧ (doTtWrite r s).1.b.id = s.b.id ∧ (doTtWrite r s).1.b.lap = s.b.lap ∧ (doTtWrite r s).1.b.cfg = s.b.cfg := by
  unfold doTtWrite
  (try dsimp only)
  repeat' split
  all_goals simp

@[simp] theorem doTtRead_still (r : Request) :
    (doTtRead r s).1.a.id = s.a.id ∧ (doTtRead r s).1.a.lap = s.a.lap ∧ (doTtRead r s).1.a.cfg = s.a.cfg ∧ (doTtRead r s).1.b.id = s.b.id ∧ (doTtRead r s).1.b.lap = s.b.lap ∧ (doTtRead r s).1.b.cfg = s.b.cfg := by
  unfold doTtRead
  (try dsimp only)
  repeat' split
  all_goals simp

@[simp] theorem doTtClear_still (r : Request) :
    (doTtClear r s).1.a.id = s.a.id ∧ (doTtClear r s).1.a.lap = s.a.lap ∧ (doTtClear r s).1.a.cfg = s.a.cfg ∧ (doTtClear r s).1.b.id = s.b.id ∧ (doTtClear r s).1.b.lap = s.b.lap ∧ (doTtClear r s).1.b.cfg = s.b.cfg := by
  unfold doTtClear
  (try dsimp only)
  repeat' split
  all_goals simp

@[simp] theorem doPowerStatus_still (r : Request) :
    (doPowerStatus r s).1.a.id = s.a.id ∧ (doPowerStatus r s).1.a.lap = s.a.lap ∧ (doPowerStatus r s).1.a.cfg = s.a.cfg ∧ (doPowerStatus r s).1.b.id = s.b.id ∧ (doPowerStatus r s).1.b.lap = s.b.lap ∧ (doPowerStatus r s).1.b.cfg = s.b.cfg := by
  unfold doPowerStatus
  (try dsimp only)
  repeat' split
  all_goals simp

@[simp] theorem doModuleRestart_still (r : Request) :
    (doModuleRestart r s).1.a.id = s.a.id ∧ (doModuleRestart r s).1.a.lap = s.a.lap ∧ (doModuleRestart r s).1.a.cfg = s.a.cfg ∧ (doModuleRestart r s).1.b.id = s.b.id ∧ (doModuleRestart r s).1.b.lap = s.b.lap ∧ (doModuleRestart r s).1.b.cfg = s.b.cfg := by
  unfold doModuleRestart
  (try dsimp only)
  repeat' split
  all_goals simp

@[simp] theorem doCanTxWrite_still (r : Request) :
    (doCanTxWrite r s).1.a.id = s.a.id ∧ (doCanTxWrite r s).1.a.lap = s.a.lap ∧ (doCanTxWrite r s).1.a.cfg = s.a.cfg ∧ (doCanTxWrite r s).1.b.id = s.b.id ∧ (doCanTxWrite r s).1.b.lap = s.b.lap ∧ (doCanTxWrite r s).1.b.cfg = s.b.cfg := by
  unfold doCanTxWrite
  (try dsimp only)
  repeat' split
  all_goals simp

@[simp] theorem doCanRxRead_still (r : Request) :
    (doCanRxRead r s).1.a.id = s.a.id ∧ (doCanRxRead r s).1.a.lap = s.a.lap ∧ (doCanRxRead r s).1.a.cfg = s.a.cfg ∧ (doCanRxRead r s).1.b.id = s.b.id ∧ (doCanRxRead r s).1.b.lap = s.b.lap ∧ (doCanRxRead r s).1.b.cfg = s.b.cfg := by
  unfold doCanRxRead
  (try dsimp only)
  repeat' split
  all_goals simp

@[simp] theorem doCanSleep_still (r : Request) :
    (doCanSleep r s).1.a.id = s.a.id ∧ (doCanSleep r s).1.a.lap = s.a.lap ∧ (doCanSleep r s).1.a.cfg = s.a.cfg ∧ (doCanSleep r s).1.b.id = s.b.id ∧ (doCanSleep r s).1.b.lap = s.b.lap ∧ (doCanSleep r s).1.b.cfg = s.b.cfg := by
  unfold doCanSleep
  (try dsimp only)
  repeat' split
  all_goals simp

@[simp] theorem doCanWake_still (r : Request) :
    (doCanWake r s).1.a.id = s.a.id ∧ (doCanWake r s).1.a.lap = s.a.lap ∧ (doCanWake r s).1.a.cfg = s.a.cfg ∧ (doCanWake r s).1.b.id = s.b.id ∧ (doCanWake r s).1.b.lap = s.b.lap ∧ (doCanWake r s).1.b.cfg = s.b.cfg := by
  unfold doCanWake
  (try dsimp only)
  repeat' split
  all_goals simp

@[simp] theorem doCanRecover_still (r : Request) :
    (doCanRecover r s).1.a.id = s.a.id ∧ (doCanRecover r s).1.a.lap = s.a.lap ∧ (doCanRecover r s).1.a.cfg = s.a.cfg ∧ (doCanRecover r s).1.b.id = s.b.id ∧ (doCanRecover r s).1.b.lap = s.b.lap ∧ (doCanRecover r s).1.b.cfg = s.b.cfg := by
  unfold doCanRecover
  (try dsimp only)
  repeat' split
  all_goals simp

@[simp] theorem doMastWrite_still (r : Request) :
    (doMastWrite r s).1.a.id = s.a.id ∧ (doMastWrite r s).1.a.lap = s.a.lap ∧ (doMastWrite r s).1.a.cfg = s.a.cfg ∧ (doMastWrite r s).1.b.id = s.b.id ∧ (doMastWrite r s).1.b.lap = s.b.lap ∧ (doMastWrite r s).1.b.cfg = s.b.cfg := by
  unfold doMastWrite
  (try dsimp only)
  repeat' split
  all_goals simp

@[simp] theorem doMastRead_still (r : Request) :
    (doMastRead r s).1.a.id = s.a.id ∧ (doMastRead r s).1.a.lap = s.a.lap ∧ (doMastRead r s).1.a.cfg = s.a.cfg ∧ (doMastRead r s).1.b.id = s.b.id ∧ (doMastRead r s).1.b.lap = s.b.lap ∧ (doMastRead r s).1.b.cfg = s.b.cfg := by
  unfold doMastRead
  (try dsimp only)
  repeat' split
  all_goals simp

@[simp] theorem doMastMapRead_still (r : Request) :
    (doMastMapRead r s).1.a.id = s.a.id ∧ (doMastMapRead r s).1.a.lap = s.a.lap ∧ (doMastMapRead r s).1.a.cfg = s.a.cfg ∧ (doMastMapRead r s).1.b.id = s.b.id ∧ (doMastMapRead r s).1.b.lap = s.b.lap ∧ (doMastMapRead r s).1.b.cfg = s.b.cfg := by
  unfold doMastMapRead
  (try dsimp only)
  repeat' split
  all_goals simp

theorem commandOf_still (code : Nat) (r : Request) (f : StateCmd) (h : commandOf code r = some f) :
    (f s).1.a.id = s.a.id ∧ (f s).1.a.lap = s.a.lap ∧ (f s).1.a.cfg = s.a.cfg ∧ (f s).1.b.id = s.b.id ∧ (f s).1.b.lap = s.b.lap ∧ (f s).1.b.cfg = s.b.cfg := by
  unfold commandOf at h
  split at h <;> cases h <;> simp

@[simp] theorem State.execute_still (r : Request) :
    (State.execute r s).a.id = s.a.id ∧ (State.execute r s).a.lap = s.a.lap ∧ (State.execute r s).a.cfg = s.a.cfg ∧ (State.execute r s).b.id = s.b.id ∧ (State.execute r s).b.lap = s.b.lap ∧ (State.execute r s).b.cfg = s.b.cfg := by
  unfold State.execute
  split
  · next f h => exact State.run_still s _ _ _ (fun s => commandOf_still s _ _ _ h)
  · exact State.run_still s _ _ _ (fun s => by simp)

@[simp] theorem State.executeTaken_still  :
    (State.executeTaken s).a.id = s.a.id ∧ (State.executeTaken s).a.lap = s.a.lap ∧ (State.executeTaken s).a.cfg = s.a.cfg ∧ (State.executeTaken s).b.id = s.b.id ∧ (State.executeTaken s).b.lap = s.b.lap ∧ (State.executeTaken s).b.cfg = s.b.cfg := by
  unfold State.executeTaken
  (try dsimp only)
  repeat' split
  all_goals simp

@[simp] theorem State.epochEnd_still  :
    (State.epochEnd s).a.id = s.a.id ∧ (State.epochEnd s).a.lap = s.a.lap ∧ (State.epochEnd s).a.cfg = s.a.cfg ∧ (State.epochEnd s).b.id = s.b.id ∧ (State.epochEnd s).b.lap = s.b.lap ∧ (State.epochEnd s).b.cfg = s.b.cfg := by
  unfold State.epochEnd
  (try dsimp only)
  repeat' split
  all_goals simp

@[simp] theorem State.readableImages_still  :
    (State.readableImages s).a.id = s.a.id ∧ (State.readableImages s).a.lap = s.a.lap ∧ (State.readableImages s).a.cfg = s.a.cfg ∧ (State.readableImages s).b.id = s.b.id ∧ (State.readableImages s).b.lap = s.b.lap ∧ (State.readableImages s).b.cfg = s.b.cfg := by
  unfold State.readableImages
  (try dsimp only)
  repeat' split
  all_goals simp

@[simp] theorem State.datagramCounters_still  :
    (State.datagramCounters s).a.id = s.a.id ∧ (State.datagramCounters s).a.lap = s.a.lap ∧ (State.datagramCounters s).a.cfg = s.a.cfg ∧ (State.datagramCounters s).b.id = s.b.id ∧ (State.datagramCounters s).b.lap = s.b.lap ∧ (State.datagramCounters s).b.cfg = s.b.cfg := by
  unfold State.datagramCounters
  (try dsimp only)
  repeat' split
  all_goals simp

@[simp] theorem State.linkInputs_still  :
    (State.linkInputs s).a.id = s.a.id ∧ (State.linkInputs s).a.lap = s.a.lap ∧ (State.linkInputs s).a.cfg = s.a.cfg ∧ (State.linkInputs s).b.id = s.b.id ∧ (State.linkInputs s).b.lap = s.b.lap ∧ (State.linkInputs s).b.cfg = s.b.cfg := by
  unfold State.linkInputs
  (try dsimp only)
  repeat' split
  all_goals simp

@[simp] theorem State.countLap_still  :
    (State.countLap s).a.id = s.a.id ∧ (State.countLap s).a.lap = s.a.lap ∧ (State.countLap s).a.cfg = s.a.cfg ∧ (State.countLap s).b.id = s.b.id ∧ (State.countLap s).b.lap = s.b.lap ∧ (State.countLap s).b.cfg = s.b.cfg := by
  unfold State.countLap
  (try dsimp only)
  repeat' split
  all_goals simp

@[simp] theorem State.commitRound_still  :
    (State.commitRound s).a.id = s.a.id ∧ (State.commitRound s).a.lap = s.a.lap ∧ (State.commitRound s).a.cfg = s.a.cfg ∧ (State.commitRound s).b.id = s.b.id ∧ (State.commitRound s).b.lap = s.b.lap ∧ (State.commitRound s).b.cfg = s.b.cfg := by
  unfold State.commitRound
  (try dsimp only)
  repeat' split
  all_goals simp

@[simp] theorem State.imageSeal_still  :
    (State.imageSeal s).a.id = s.a.id ∧ (State.imageSeal s).a.lap = s.a.lap ∧ (State.imageSeal s).a.cfg = s.a.cfg ∧ (State.imageSeal s).b.id = s.b.id ∧ (State.imageSeal s).b.lap = s.b.lap ∧ (State.imageSeal s).b.cfg = s.b.cfg := by
  unfold State.imageSeal
  (try dsimp only)
  repeat' split
  all_goals simp

@[simp] theorem State.both_still (f : Lane → Lane) (hf : ∀ l, (f l).id = l.id ∧ (f l).lap = l.lap ∧ (f l).cfg = l.cfg) :
    (State.both f s).a.id = s.a.id ∧ (State.both f s).a.lap = s.a.lap ∧ (State.both f s).a.cfg = s.a.cfg ∧ (State.both f s).b.id = s.b.id ∧ (State.both f s).b.lap = s.b.lap ∧ (State.both f s).b.cfg = s.b.cfg := by
  unfold State.both
  (try dsimp only)
  repeat' split
  all_goals simp [hf]

@[simp] theorem State.bothBut_still (missed : Option LaneId) (f : Lane → Lane) (hf : ∀ l, (f l).id = l.id ∧ (f l).lap = l.lap ∧ (f l).cfg = l.cfg) :
    (State.bothBut missed f s).a.id = s.a.id ∧ (State.bothBut missed f s).a.lap = s.a.lap ∧ (State.bothBut missed f s).a.cfg = s.a.cfg ∧ (State.bothBut missed f s).b.id = s.b.id ∧ (State.bothBut missed f s).b.lap = s.b.lap ∧ (State.bothBut missed f s).b.cfg = s.b.cfg := by
  unfold State.bothBut
  (try dsimp only)
  repeat' split
  all_goals (refine State.eachLane_still s _ _ (fun i l => ?_); split <;> simp [hf])

@[simp] theorem State.one_still (i : LaneId) (f : Lane → Lane) (hf : ∀ l, (f l).id = l.id ∧ (f l).lap = l.lap ∧ (f l).cfg = l.cfg) :
    (State.one i f s).a.id = s.a.id ∧ (State.one i f s).a.lap = s.a.lap ∧ (State.one i f s).a.cfg = s.a.cfg ∧ (State.one i f s).b.id = s.b.id ∧ (State.one i f s).b.lap = s.b.lap ∧ (State.one i f s).b.cfg = s.b.cfg := by
  unfold State.one
  (try dsimp only)
  repeat' split
  all_goals simp [hf]

@[simp] theorem State.powered_still (i : LaneId) (f : Lane → Lane) (hf : ∀ l, (f l).id = l.id ∧ (f l).lap = l.lap ∧ (f l).cfg = l.cfg) :
    (State.powered i f s).a.id = s.a.id ∧ (State.powered i f s).a.lap = s.a.lap ∧ (State.powered i f s).a.cfg = s.a.cfg ∧ (State.powered i f s).b.id = s.b.id ∧ (State.powered i f s).b.lap = s.b.lap ∧ (State.powered i f s).b.cfg = s.b.cfg := by
  unfold State.powered
  (try dsimp only)
  repeat' split
  all_goals simp [hf]

@[simp] theorem State.kept_still (i : LaneId) (f : Lane → Lane) (hf : ∀ l, (f l).id = l.id ∧ (f l).lap = l.lap ∧ (f l).cfg = l.cfg) :
    (State.kept i f s).a.id = s.a.id ∧ (State.kept i f s).a.lap = s.a.lap ∧ (State.kept i f s).a.cfg = s.a.cfg ∧ (State.kept i f s).b.id = s.b.id ∧ (State.kept i f s).b.lap = s.b.lap ∧ (State.kept i f s).b.cfg = s.b.cfg := by
  unfold State.kept
  (try dsimp only)
  repeat' split
  all_goals simp [hf]

@[simp] theorem State.keptBoth_still (f : Lane → Lane) (hf : ∀ l, (f l).id = l.id ∧ (f l).lap = l.lap ∧ (f l).cfg = l.cfg) :
    (State.keptBoth f s).a.id = s.a.id ∧ (State.keptBoth f s).a.lap = s.a.lap ∧ (State.keptBoth f s).a.cfg = s.a.cfg ∧ (State.keptBoth f s).b.id = s.b.id ∧ (State.keptBoth f s).b.lap = s.b.lap ∧ (State.keptBoth f s).b.cfg = s.b.cfg := by
  unfold State.keptBoth
  (try dsimp only)
  repeat' split
  all_goals simp [hf]

@[simp] theorem State.beside_still (f : Lane → Lane → Lane) (hf : ∀ l h, (f l h).id = l.id ∧ (f l h).lap = l.lap ∧ (f l h).cfg = l.cfg) :
    (State.beside f s).a.id = s.a.id ∧ (State.beside f s).a.lap = s.a.lap ∧ (State.beside f s).a.cfg = s.a.cfg ∧ (State.beside f s).b.id = s.b.id ∧ (State.beside f s).b.lap = s.b.lap ∧ (State.beside f s).b.cfg = s.b.cfg := by
  unfold State.beside
  repeat' split
  all_goals simp [hf]

@[simp] theorem State.holderOnly_still (f : Lane → Lane) (hf : ∀ l, (f l).id = l.id ∧ (f l).lap = l.lap ∧ (f l).cfg = l.cfg) :
    (State.holderOnly f s).a.id = s.a.id ∧ (State.holderOnly f s).a.lap = s.a.lap ∧ (State.holderOnly f s).a.cfg = s.a.cfg ∧ (State.holderOnly f s).b.id = s.b.id ∧ (State.holderOnly f s).b.lap = s.b.lap ∧ (State.holderOnly f s).b.cfg = s.b.cfg := by
  unfold State.holderOnly
  (try dsimp only)
  repeat' split
  all_goals simp [hf]

@[simp] theorem State.atOutlet_still (o : Nat) (f : Lane → Lane) (hf : ∀ l, (f l).id = l.id ∧ (f l).lap = l.lap ∧ (f l).cfg = l.cfg) :
    (State.atOutlet o f s).a.id = s.a.id ∧ (State.atOutlet o f s).a.lap = s.a.lap ∧ (State.atOutlet o f s).a.cfg = s.a.cfg ∧ (State.atOutlet o f s).b.id = s.b.id ∧ (State.atOutlet o f s).b.lap = s.b.lap ∧ (State.atOutlet o f s).b.cfg = s.b.cfg := by
  unfold State.atOutlet
  (try dsimp only)
  repeat' split
  all_goals simp [hf]

@[simp] theorem State.atPack_still (k : Nat) (f : Lane → Lane) (hf : ∀ l, (f l).id = l.id ∧ (f l).lap = l.lap ∧ (f l).cfg = l.cfg) :
    (State.atPack k f s).a.id = s.a.id ∧ (State.atPack k f s).a.lap = s.a.lap ∧ (State.atPack k f s).a.cfg = s.a.cfg ∧ (State.atPack k f s).b.id = s.b.id ∧ (State.atPack k f s).b.lap = s.b.lap ∧ (State.atPack k f s).b.cfg = s.b.cfg := by
  unfold State.atPack
  (try dsimp only)
  repeat' split
  all_goals simp [hf]

@[simp] theorem State.atPhase_still (p : Nat) (f : Lane → Lane) (hf : ∀ l, (f l).id = l.id ∧ (f l).lap = l.lap ∧ (f l).cfg = l.cfg) :
    (State.atPhase p f s).a.id = s.a.id ∧ (State.atPhase p f s).a.lap = s.a.lap ∧ (State.atPhase p f s).a.cfg = s.a.cfg ∧ (State.atPhase p f s).b.id = s.b.id ∧ (State.atPhase p f s).b.lap = s.b.lap ∧ (State.atPhase p f s).b.cfg = s.b.cfg := by
  unfold State.atPhase
  (try dsimp only)
  repeat' split
  all_goals simp [hf]

@[simp] theorem State.atHub_still (i : LaneId) (h : Nat) (f : Lane → Lane) (hf : ∀ l, (f l).id = l.id ∧ (f l).lap = l.lap ∧ (f l).cfg = l.cfg) :
    (State.atHub i h f s).a.id = s.a.id ∧ (State.atHub i h f s).a.lap = s.a.lap ∧ (State.atHub i h f s).a.cfg = s.a.cfg ∧ (State.atHub i h f s).b.id = s.b.id ∧ (State.atHub i h f s).b.lap = s.b.lap ∧ (State.atHub i h f s).b.cfg = s.b.cfg := by
  unfold State.atHub
  (try dsimp only)
  repeat' split
  all_goals simp [hf]

@[simp] theorem State.atAc_still (i : LaneId) (n : Nat) (f : Lane → Lane) (hf : ∀ l, (f l).id = l.id ∧ (f l).lap = l.lap ∧ (f l).cfg = l.cfg) :
    (State.atAc i n f s).a.id = s.a.id ∧ (State.atAc i n f s).a.lap = s.a.lap ∧ (State.atAc i n f s).a.cfg = s.a.cfg ∧ (State.atAc i n f s).b.id = s.b.id ∧ (State.atAc i n f s).b.lap = s.b.lap ∧ (State.atAc i n f s).b.cfg = s.b.cfg := by
  unfold State.atAc
  (try dsimp only)
  repeat' split
  all_goals simp [hf]

@[simp] theorem State.atPoint_still (i : LaneId) (m : Nat) (f : Lane → Lane) (hf : ∀ l, (f l).id = l.id ∧ (f l).lap = l.lap ∧ (f l).cfg = l.cfg) :
    (State.atPoint i m f s).a.id = s.a.id ∧ (State.atPoint i m f s).a.lap = s.a.lap ∧ (State.atPoint i m f s).a.cfg = s.a.cfg ∧ (State.atPoint i m f s).b.id = s.b.id ∧ (State.atPoint i m f s).b.lap = s.b.lap ∧ (State.atPoint i m f s).b.cfg = s.b.cfg := by
  unfold State.atPoint
  (try dsimp only)
  repeat' split
  all_goals simp [hf]

@[simp] theorem State.below_still (n u : Nat) (f : Lane → Lane) (hf : ∀ l, (f l).id = l.id ∧ (f l).lap = l.lap ∧ (f l).cfg = l.cfg) :
    (State.below n u f s).a.id = s.a.id ∧ (State.below n u f s).a.lap = s.a.lap ∧ (State.below n u f s).a.cfg = s.a.cfg ∧ (State.below n u f s).b.id = s.b.id ∧ (State.below n u f s).b.lap = s.b.lap ∧ (State.below n u f s).b.cfg = s.b.cfg := by
  unfold State.below
  (try dsimp only)
  repeat' split
  all_goals simp [hf]

@[simp] theorem State.teamed_still (f : Lane → Lane) (hf : ∀ l, (f l).id = l.id ∧ (f l).lap = l.lap ∧ (f l).cfg = l.cfg) :
    (State.teamed f s).a.id = s.a.id ∧ (State.teamed f s).a.lap = s.a.lap ∧ (State.teamed f s).a.cfg = s.a.cfg ∧ (State.teamed f s).b.id = s.b.id ∧ (State.teamed f s).b.lap = s.b.lap ∧ (State.teamed f s).b.cfg = s.b.cfg := by
  unfold State.teamed
  (try dsimp only)
  repeat' split
  all_goals simp [hf]

@[simp] theorem State.mirror_still (i : LaneId) (fired : Bool) (n : Nat) (detail : List Int) :
    (State.mirror i fired n detail s).a.id = s.a.id ∧ (State.mirror i fired n detail s).a.lap = s.a.lap ∧ (State.mirror i fired n detail s).a.cfg = s.a.cfg ∧ (State.mirror i fired n detail s).b.id = s.b.id ∧ (State.mirror i fired n detail s).b.lap = s.b.lap ∧ (State.mirror i fired n detail s).b.cfg = s.b.cfg := by
  unfold State.mirror
  (try dsimp only)
  repeat' split
  all_goals simp

@[simp] theorem State.pacerRow_still (i : LaneId) (f : Bool → Lane → Lane) (hf : ∀ b l, (f b l).id = l.id ∧ (f b l).lap = l.lap ∧ (f b l).cfg = l.cfg) :
    (State.pacerRow i f s).a.id = s.a.id ∧ (State.pacerRow i f s).a.lap = s.a.lap ∧ (State.pacerRow i f s).a.cfg = s.a.cfg ∧ (State.pacerRow i f s).b.id = s.b.id ∧ (State.pacerRow i f s).b.lap = s.b.lap ∧ (State.pacerRow i f s).b.cfg = s.b.cfg := by
  unfold State.pacerRow
  (try dsimp only)
  repeat' split
  all_goals simp [hf]

@[simp] theorem State.sessionCompare_still (o : Nat) :
    (State.sessionCompare o s).a.id = s.a.id ∧ (State.sessionCompare o s).a.lap = s.a.lap ∧ (State.sessionCompare o s).a.cfg = s.a.cfg ∧ (State.sessionCompare o s).b.id = s.b.id ∧ (State.sessionCompare o s).b.lap = s.b.lap ∧ (State.sessionCompare o s).b.cfg = s.b.cfg := by
  unfold State.sessionCompare
  (try dsimp only)
  repeat' split
  all_goals simp

@[simp] theorem State.outletEvent_still (o : Nat) (f : Lane → Lane) (hf : ∀ l, (f l).id = l.id ∧ (f l).lap = l.lap ∧ (f l).cfg = l.cfg) :
    (State.outletEvent o f s).a.id = s.a.id ∧ (State.outletEvent o f s).a.lap = s.a.lap ∧ (State.outletEvent o f s).a.cfg = s.a.cfg ∧ (State.outletEvent o f s).b.id = s.b.id ∧ (State.outletEvent o f s).b.lap = s.b.lap ∧ (State.outletEvent o f s).b.cfg = s.b.cfg := by
  unfold State.outletEvent
  (try dsimp only)
  repeat' split
  all_goals simp [hf]

@[simp] theorem State.atOutletBut_still (o : Nat) (missed : Option LaneId) (f : Lane → Lane) (hf : ∀ l, (f l).id = l.id ∧ (f l).lap = l.lap ∧ (f l).cfg = l.cfg) :
    (State.atOutletBut o missed f s).a.id = s.a.id ∧ (State.atOutletBut o missed f s).a.lap = s.a.lap ∧ (State.atOutletBut o missed f s).a.cfg = s.a.cfg ∧ (State.atOutletBut o missed f s).b.id = s.b.id ∧ (State.atOutletBut o missed f s).b.lap = s.b.lap ∧ (State.atOutletBut o missed f s).b.cfg = s.b.cfg := by
  unfold State.atOutletBut
  (try dsimp only)
  repeat' split
  all_goals simp [hf]

@[simp] theorem State.messageBut_still (o : Nat) (missed : Option LaneId) (f : Bool → Lane → Lane) (hf : ∀ b l, (f b l).id = l.id ∧ (f b l).lap = l.lap ∧ (f b l).cfg = l.cfg) :
    (State.messageBut o missed f s).a.id = s.a.id ∧ (State.messageBut o missed f s).a.lap = s.a.lap ∧ (State.messageBut o missed f s).a.cfg = s.a.cfg ∧ (State.messageBut o missed f s).b.id = s.b.id ∧ (State.messageBut o missed f s).b.lap = s.b.lap ∧ (State.messageBut o missed f s).b.cfg = s.b.cfg := by
  unfold State.messageBut
  (try dsimp only)
  repeat' split
  all_goals simp [hf]

@[simp] theorem State.message_still (o : Heard Nat) (f : Bool → Lane → Lane) (hf : ∀ b l, (f b l).id = l.id ∧ (f b l).lap = l.lap ∧ (f b l).cfg = l.cfg) :
    (State.message o f s).a.id = s.a.id ∧ (State.message o f s).a.lap = s.a.lap ∧ (State.message o f s).a.cfg = s.a.cfg ∧ (State.message o f s).b.id = s.b.id ∧ (State.message o f s).b.lap = s.b.lap ∧ (State.message o f s).b.cfg = s.b.cfg := by
  unfold State.message
  (try dsimp only)
  repeat' split
  all_goals simp [hf]

@[simp] theorem State.fireBeside_still (old : State) :
    (State.fireBeside s old).a.id = s.a.id ∧ (State.fireBeside s old).a.lap = s.a.lap ∧ (State.fireBeside s old).a.cfg = s.a.cfg ∧ (State.fireBeside s old).b.id = s.b.id ∧ (State.fireBeside s old).b.lap = s.b.lap ∧ (State.fireBeside s old).b.cfg = s.b.cfg := by
  unfold State.fireBeside
  (try dsimp only)
  repeat' split
  all_goals simp

@[simp] theorem State.mastStep_still (t : Nat) (f : Lane → Lane) (hf : ∀ l, (f l).id = l.id ∧ (f l).lap = l.lap ∧ (f l).cfg = l.cfg) :
    (State.mastStep t f s).a.id = s.a.id ∧ (State.mastStep t f s).a.lap = s.a.lap ∧ (State.mastStep t f s).a.cfg = s.a.cfg ∧ (State.mastStep t f s).b.id = s.b.id ∧ (State.mastStep t f s).b.lap = s.b.lap ∧ (State.mastStep t f s).b.cfg = s.b.cfg := by
  unfold State.mastStep
  (try dsimp only)
  repeat' split
  all_goals simp [hf]

@[simp] theorem State.mastBoth_still (t : Nat) (d f : Lane → Lane) (hd : ∀ l, (d l).id = l.id ∧ (d l).lap = l.lap ∧ (d l).cfg = l.cfg)
    (hf : ∀ l, (f l).id = l.id ∧ (f l).lap = l.lap ∧ (f l).cfg = l.cfg) :
    (State.mastBoth t d f s).a.id = s.a.id ∧ (State.mastBoth t d f s).a.lap = s.a.lap ∧ (State.mastBoth t d f s).a.cfg = s.a.cfg ∧ (State.mastBoth t d f s).b.id = s.b.id ∧ (State.mastBoth t d f s).b.lap = s.b.lap ∧ (State.mastBoth t d f s).b.cfg = s.b.cfg := by
  unfold State.mastBoth
  (try dsimp only)
  repeat' split
  all_goals simp [hd, hf]

@[simp] theorem State.canDone_still (b : Nat) (e : CanEnd) :
    (State.canDone b e s).a.id = s.a.id ∧ (State.canDone b e s).a.lap = s.a.lap ∧ (State.canDone b e s).a.cfg = s.a.cfg ∧ (State.canDone b e s).b.id = s.b.id ∧ (State.canDone b e s).b.lap = s.b.lap ∧ (State.canDone b e s).b.cfg = s.b.cfg := by
  unfold State.canDone
  (try dsimp only)
  repeat' split
  all_goals simp

@[simp] theorem State.busRow_still (i : LaneId) (b : Nat) (f : Lane → Lane) (hf : ∀ l, (f l).id = l.id ∧ (f l).lap = l.lap ∧ (f l).cfg = l.cfg) :
    (State.busRow i b f s).a.id = s.a.id ∧ (State.busRow i b f s).a.lap = s.a.lap ∧ (State.busRow i b f s).a.cfg = s.a.cfg ∧ (State.busRow i b f s).b.id = s.b.id ∧ (State.busRow i b f s).b.lap = s.b.lap ∧ (State.busRow i b f s).b.cfg = s.b.cfg := by
  unfold State.busRow
  (try dsimp only)
  repeat' split
  all_goals simp [hf]

@[simp] theorem State.sampleTaken_still (i : LaneId) :
    (State.sampleTaken i s).a.id = s.a.id ∧ (State.sampleTaken i s).a.lap = s.a.lap ∧ (State.sampleTaken i s).a.cfg = s.a.cfg ∧ (State.sampleTaken i s).b.id = s.b.id ∧ (State.sampleTaken i s).b.lap = s.b.lap ∧ (State.sampleTaken i s).b.cfg = s.b.cfg := by
  unfold State.sampleTaken
  (try dsimp only)
  repeat' split
  all_goals simp

@[simp] theorem State.ringShown_still (i : LaneId) :
    (State.ringShown i s).a.id = s.a.id ∧ (State.ringShown i s).a.lap = s.a.lap ∧ (State.ringShown i s).a.cfg = s.a.cfg ∧ (State.ringShown i s).b.id = s.b.id ∧ (State.ringShown i s).b.lap = s.b.lap ∧ (State.ringShown i s).b.cfg = s.b.cfg := by
  unfold State.ringShown
  (try dsimp only)
  repeat' split
  all_goals simp

@[simp] theorem State.bypass_still (net : Nat) (cue : BypassCue) :
    (State.bypass net cue s).a.id = s.a.id ∧ (State.bypass net cue s).a.lap = s.a.lap ∧ (State.bypass net cue s).a.cfg = s.a.cfg ∧ (State.bypass net cue s).b.id = s.b.id ∧ (State.bypass net cue s).b.lap = s.b.lap ∧ (State.bypass net cue s).b.cfg = s.b.cfg := by
  unfold State.bypass
  (try dsimp only)
  repeat' split
  all_goals simp

@[simp] theorem State.trigEdge_still (k : Nat) (rising : Bool) :
    (State.trigEdge k rising s).a.id = s.a.id ∧ (State.trigEdge k rising s).a.lap = s.a.lap ∧ (State.trigEdge k rising s).a.cfg = s.a.cfg ∧ (State.trigEdge k rising s).b.id = s.b.id ∧ (State.trigEdge k rising s).b.lap = s.b.lap ∧ (State.trigEdge k rising s).b.cfg = s.b.cfg := by
  unfold State.trigEdge
  (try dsimp only)
  repeat' split
  all_goals simp

@[simp] theorem State.busWake_still (b : Nat) (frame : Option CanFrame) :
    (State.busWake b frame s).a.id = s.a.id ∧ (State.busWake b frame s).a.lap = s.a.lap ∧ (State.busWake b frame s).a.cfg = s.a.cfg ∧ (State.busWake b frame s).b.id = s.b.id ∧ (State.busWake b frame s).b.lap = s.b.lap ∧ (State.busWake b frame s).b.cfg = s.b.cfg := by
  unfold State.busWake
  (try dsimp only)
  repeat' split
  all_goals simp

@[simp] theorem State.pulseLane_still (f : Lane → Lane) (hf : ∀ l, (f l).id = l.id ∧ (f l).lap = l.lap ∧ (f l).cfg = l.cfg) :
    (State.pulseLane f s).a.id = s.a.id ∧ (State.pulseLane f s).a.lap = s.a.lap ∧ (State.pulseLane f s).a.cfg = s.a.cfg ∧ (State.pulseLane f s).b.id = s.b.id ∧ (State.pulseLane f s).b.lap = s.b.lap ∧ (State.pulseLane f s).b.cfg = s.b.cfg := by
  unfold State.pulseLane
  (try dsimp only)
  repeat' split
  all_goals simp [hf]

@[simp] theorem State.proxBand_still (o band : Nat) :
    (State.proxBand o band s).a.id = s.a.id ∧ (State.proxBand o band s).a.lap = s.a.lap ∧ (State.proxBand o band s).a.cfg = s.a.cfg ∧ (State.proxBand o band s).b.id = s.b.id ∧ (State.proxBand o band s).b.lap = s.b.lap ∧ (State.proxBand o band s).b.cfg = s.b.cfg := by
  unfold State.proxBand
  (try dsimp only)
  repeat' split
  all_goals simp

@[simp] theorem State.tamperRow_still (x : Latch) :
    (State.tamperRow x s).a.id = s.a.id ∧ (State.tamperRow x s).a.lap = s.a.lap ∧ (State.tamperRow x s).a.cfg = s.a.cfg ∧ (State.tamperRow x s).b.id = s.b.id ∧ (State.tamperRow x s).b.lap = s.b.lap ∧ (State.tamperRow x s).b.cfg = s.b.cfg := by
  unfold State.tamperRow
  (try dsimp only)
  repeat' split
  all_goals simp

@[simp] theorem State.testPulseEnd_still (x : Nat) (readBack : Bool) :
    (State.testPulseEnd x readBack s).a.id = s.a.id ∧ (State.testPulseEnd x readBack s).a.lap = s.a.lap ∧ (State.testPulseEnd x readBack s).a.cfg = s.a.cfg ∧ (State.testPulseEnd x readBack s).b.id = s.b.id ∧ (State.testPulseEnd x readBack s).b.lap = s.b.lap ∧ (State.testPulseEnd x readBack s).b.cfg = s.b.cfg := by
  unfold State.testPulseEnd
  (try dsimp only)
  repeat' split
  all_goals simp

@[simp] theorem State.safetySample_still (i : LaneId) (c1 c2 : SafetyInputs) :
    (State.safetySample i c1 c2 s).a.id = s.a.id ∧ (State.safetySample i c1 c2 s).a.lap = s.a.lap ∧ (State.safetySample i c1 c2 s).a.cfg = s.a.cfg ∧ (State.safetySample i c1 c2 s).b.id = s.b.id ∧ (State.safetySample i c1 c2 s).b.lap = s.b.lap ∧ (State.safetySample i c1 c2 s).b.cfg = s.b.cfg := by
  unfold State.safetySample
  (try dsimp only)
  repeat' split
  all_goals simp

@[simp] theorem State.loopDrop_still  :
    (State.loopDrop s).a.id = s.a.id ∧ (State.loopDrop s).a.lap = s.a.lap ∧ (State.loopDrop s).a.cfg = s.a.cfg ∧ (State.loopDrop s).b.id = s.b.id ∧ (State.loopDrop s).b.lap = s.b.lap ∧ (State.loopDrop s).b.cfg = s.b.cfg := by
  unfold State.loopDrop
  (try dsimp only)
  repeat' split
  all_goals simp

@[simp] theorem State.houseRound_still (i : LaneId) (h : Housekeeping) :
    (State.houseRound i h s).a.id = s.a.id ∧ (State.houseRound i h s).a.lap = s.a.lap ∧ (State.houseRound i h s).a.cfg = s.a.cfg ∧ (State.houseRound i h s).b.id = s.b.id ∧ (State.houseRound i h s).b.lap = s.b.lap ∧ (State.houseRound i h s).b.cfg = s.b.cfg := by
  unfold State.houseRound
  (try dsimp only)
  repeat' split
  all_goals simp

@[simp] theorem State.dramOutcome_still (i : LaneId) (corrected : Bool) (device line : Nat) :
    (State.dramOutcome i corrected device line s).a.id = s.a.id ∧ (State.dramOutcome i corrected device line s).a.lap = s.a.lap ∧ (State.dramOutcome i corrected device line s).a.cfg = s.a.cfg ∧ (State.dramOutcome i corrected device line s).b.id = s.b.id ∧ (State.dramOutcome i corrected device line s).b.lap = s.b.lap ∧ (State.dramOutcome i corrected device line s).b.cfg = s.b.cfg := by
  unfold State.dramOutcome
  (try dsimp only)
  repeat' split
  all_goals simp

@[simp] theorem State.supplyMirror_still (i : LaneId) (old : State) :
    (State.supplyMirror s i old).a.id = s.a.id ∧ (State.supplyMirror s i old).a.lap = s.a.lap ∧ (State.supplyMirror s i old).a.cfg = s.a.cfg ∧ (State.supplyMirror s i old).b.id = s.b.id ∧ (State.supplyMirror s i old).b.lap = s.b.lap ∧ (State.supplyMirror s i old).b.cfg = s.b.cfg := by
  unfold State.supplyMirror
  (try dsimp only)
  repeat' split
  all_goals simp

end Sys2Proof.Machine
end

