-- ==== Sys2Proof/Laws/SharedCommands.lean ====
section
/-!
SUPPORT. The identity of the chassis, the seal, the queue and the grant, which no command of a host and no lap start reaches. One
law per operation.
-/

namespace Sys2Proof.Machine

variable (s : State)

@[simp] theorem namedLane_core (r : Request) (f : LaneId → StateCmd) (hf : ∀ i s, (f i s).1.core = s.core) : (namedLane r f s).1.core = s.core := by
  unfold namedLane
  (try dsimp only)
  repeat' split
  all_goals simp [hf]

@[simp] theorem cmdLaneStatus_core (r : Request) : (cmdLaneStatus r s).1.core = s.core := by
  unfold cmdLaneStatus
  (try dsimp only)
  repeat' split
  all_goals simp

@[simp] theorem cmdHandover_core (r : Request) : (cmdHandover r s).1.core = s.core := by
  unfold cmdHandover
  refine namedLane_core s r _ (fun i s => ?_)
  (try dsimp only)
  repeat' split
  all_goals simp

@[simp] theorem cmdFwLoad_core (r : Request) : (cmdFwLoad r s).1.core = s.core := by
  unfold cmdFwLoad
  refine namedLane_core s r _ (fun i s => ?_)
  (try dsimp only)
  repeat' split
  all_goals simp

@[simp] theorem cmdFwVerify_core (r : Request) : (cmdFwVerify r s).1.core = s.core := by
  unfold cmdFwVerify
  refine namedLane_core s r _ (fun i s => ?_)
  (try dsimp only)
  repeat' split
  all_goals simp

@[simp] theorem cmdFwActivate_core (r : Request) : (cmdFwActivate r s).1.core = s.core := by
  unfold cmdFwActivate
  refine namedLane_core s r _ (fun i s => ?_)
  extract_lets kind b l o v s1 s2
  have h : s2.core = s.core := by simp only [s2, s1]; split <;> simp
  clear_value kind b l o v s1 s2
  repeat' split
  all_goals simp [h]

@[simp] theorem cmdLanePark_core (r : Request) : (cmdLanePark r s).1.core = s.core := by
  unfold cmdLanePark
  refine namedLane_core s r _ (fun i s => ?_)
  (try dsimp only)
  repeat' split
  all_goals simp

@[simp] theorem cmdLaneUnpark_core (r : Request) : (cmdLaneUnpark r s).1.core = s.core := by
  unfold cmdLaneUnpark
  refine namedLane_core s r _ (fun i s => ?_)
  (try dsimp only)
  repeat' split
  all_goals simp

@[simp] theorem cmdLaneEligible_core (r : Request) : (cmdLaneEligible r s).1.core = s.core := by
  unfold cmdLaneEligible
  refine namedLane_core s r _ (fun i s => ?_)
  (try dsimp only)
  repeat' split
  all_goals simp

@[simp] theorem State.keeperTimeout_core  : (State.keeperTimeout s).core = s.core := by
  unfold State.keeperTimeout
  extract_lets go
  have hg : ∀ i s t, go i s = some t → t.core = s.core := by
    intro i s t h
    simp only [go] at h
    split at h
    · cases h; simp
    · cases h
  clear_value go
  split
  · next t h => exact hg _ _ _ h
  · cases h : go .B s with
    | none => simp
    | some t => simpa using hg _ _ _ h

@[simp] theorem State.moduleRestart_core  : (State.moduleRestart s).core = s.core := by
  unfold State.moduleRestart
  extract_lets due go s1 cc s2
  have hg : ∀ i s, (go i s).core = s.core := by intro i s; simp only [go]; split <;> simp
  split
  · rfl
  · rw [State.eachLane_core]
    show s1.core = s.core
    simp [s1, hg]

@[simp] theorem cmdSleepEnter_core (r : Request) : (cmdSleepEnter r s).1.core = s.core := by
  unfold cmdSleepEnter
  (try dsimp only)
  repeat' split
  all_goals simp

@[simp] theorem cmdPowerStatus_core (r : Request) : (cmdPowerStatus r s).1.core = s.core := by
  unfold cmdPowerStatus
  (try dsimp only)
  repeat' split
  all_goals simp

@[simp] theorem cmdModuleRestart_core (r : Request) : (cmdModuleRestart r s).1.core = s.core := by
  unfold cmdModuleRestart
  (try dsimp only)
  repeat' split
  all_goals simp

@[simp] theorem onLanes_core (r : Request) (f : Lane → Lane × Option Reply) : (onLanes r f s).1.core = s.core := by
  unfold onLanes
  extract_lets sel x y s1
  split <;> rfl

@[simp] theorem onLanesNow_core (r : Request) (f : Lane → Lane × Reply) : (onLanesNow r f s).1.core = s.core := by
  unfold onLanesNow
  exact onLanes_core s r _

@[simp] theorem State.run_core (code : Nat) (r : Request) (f : StateCmd) (hf : ∀ s, (f s).1.core = s.core) : (State.run code r f s).core = s.core := by
  unfold State.run
  split
  · simp
  · extract_lets l named lacks x
    have h := hf (if cancelsSleep code then s.cancelSleep else s)
    have h2 : (if cancelsSleep code then s.cancelSleep else s).core = s.core := by split <;> simp
    have hx : x.1.core = s.core := h.trans h2
    clear_value x
    repeat' split
    all_goals simp [hx]

@[simp] theorem cmdCaps_core (r : Request) : (cmdCaps r s).1.core = s.core := by
  unfold cmdCaps
  (try dsimp only)
  repeat' split
  all_goals simp

@[simp] theorem cmdReset_core (r : Request) : (cmdReset r s).1.core = s.core := by
  unfold cmdReset
  extract_lets code unit u i l o busy armed refused go
  clear_value u l o busy armed refused go
  repeat' split
  all_goals simp

@[simp] theorem cmdClockSet_core (r : Request) : (cmdClockSet r s).1.core = s.core := by
  unfold cmdClockSet
  (try dsimp only)
  repeat' split
  all_goals simp

@[simp] theorem doNop_core (r : Request) : (doNop r s).1.core = s.core := by
  unfold doNop
  (try dsimp only)
  repeat' split
  all_goals simp

@[simp] theorem doCaps_core (r : Request) : (doCaps r s).1.core = s.core := by
  unfold doCaps
  (try dsimp only)
  repeat' split
  all_goals simp

@[simp] theorem doRingSet_core (r : Request) : (doRingSet r s).1.core = s.core := by
  unfold doRingSet
  (try dsimp only)
  repeat' split
  all_goals simp

@[simp] theorem doRingResync_core (r : Request) : (doRingResync r s).1.core = s.core := by
  unfold doRingResync
  (try dsimp only)
  repeat' split
  all_goals simp

@[simp] theorem doRingStatus_core (r : Request) : (doRingStatus r s).1.core = s.core := by
  unfold doRingStatus
  (try dsimp only)
  repeat' split
  all_goals simp

@[simp] theorem doSnapshot_core (r : Request) : (doSnapshot r s).1.core = s.core := by
  unfold doSnapshot
  (try dsimp only)
  repeat' split
  all_goals simp

@[simp] theorem doReadStaged_core (r : Request) : (doReadStaged r s).1.core = s.core := by
  unfold doReadStaged
  (try dsimp only)
  repeat' split
  all_goals simp

@[simp] theorem doHistory_core (r : Request) : (doHistory r s).1.core = s.core := by
  unfold doHistory
  (try dsimp only)
  repeat' split
  all_goals simp

@[simp] theorem doStage_core (r : Request) : (doStage r s).1.core = s.core := by
  unfold doStage
  (try dsimp only)
  repeat' split
  all_goals simp

@[simp] theorem doCommit_core (r : Request) : (doCommit r s).1.core = s.core := by
  unfold doCommit
  (try dsimp only)
  repeat' split
  all_goals simp

@[simp] theorem doDiscard_core (r : Request) : (doDiscard r s).1.core = s.core := by
  unfold doDiscard
  (try dsimp only)
  repeat' split
  all_goals simp

@[simp] theorem doCommitList_core (r : Request) : (doCommitList r s).1.core = s.core := by
  unfold doCommitList
  (try dsimp only)
  repeat' split
  all_goals simp

@[simp] theorem doSubscribe_core (r : Request) : (doSubscribe r s).1.core = s.core := by
  unfold doSubscribe
  (try dsimp only)
  repeat' split
  all_goals simp

@[simp] theorem doUnsubscribe_core (r : Request) : (doUnsubscribe r s).1.core = s.core := by
  unfold doUnsubscribe
  (try dsimp only)
  repeat' split
  all_goals simp

@[simp] theorem doEventMap_core (r : Request) : (doEventMap r s).1.core = s.core := by
  unfold doEventMap
  (try dsimp only)
  repeat' split
  all_goals simp

@[simp] theorem doEventMapRead_core (r : Request) : (doEventMapRead r s).1.core = s.core := by
  unfold doEventMapRead
  (try dsimp only)
  repeat' split
  all_goals simp

@[simp] theorem doResetFunction_core (r : Request) : (doResetFunction r s).1.core = s.core := by
  unfold doResetFunction
  (try dsimp only)
  repeat' split
  all_goals simp

@[simp] theorem doSessionAuthorize_core (r : Request) : (doSessionAuthorize r s).1.core = s.core := by
  unfold doSessionAuthorize
  (try dsimp only)
  repeat' split
  all_goals simp

@[simp] theorem doSessionStop_core (r : Request) : (doSessionStop r s).1.core = s.core := by
  unfold doSessionStop
  (try dsimp only)
  repeat' split
  all_goals simp

@[simp] theorem doOutletBlock_core (r : Request) : (doOutletBlock r s).1.core = s.core := by
  unfold doOutletBlock
  (try dsimp only)
  repeat' split
  all_goals simp

@[simp] theorem doOutletClear_core (r : Request) : (doOutletClear r s).1.core = s.core := by
  unfold doOutletClear
  (try dsimp only)
  repeat' split
  all_goals simp

@[simp] theorem doSessionInfo_core (r : Request) : (doSessionInfo r s).1.core = s.core := by
  unfold doSessionInfo
  (try dsimp only)
  repeat' split
  all_goals simp

@[simp] theorem doSessionRestart_core (r : Request) : (doSessionRestart r s).1.core = s.core := by
  unfold doSessionRestart
  (try dsimp only)
  repeat' split
  all_goals simp

@[simp] theorem doKeyMsgLoad_core (r : Request) : (doKeyMsgLoad r s).1.core = s.core := by
  unfold doKeyMsgLoad
  (try dsimp only)
  repeat' split
  all_goals simp

@[simp] theorem doKeyMsgApply_core (r : Request) : (doKeyMsgApply r s).1.core = s.core := by
  unfold doKeyMsgApply
  (try dsimp only)
  repeat' split
  all_goals simp

@[simp] theorem doKeyInfo_core (r : Request) : (doKeyInfo r s).1.core = s.core := by
  unfold doKeyInfo
  (try dsimp only)
  repeat' split
  all_goals simp

@[simp] theorem doKeyList_core (r : Request) : (doKeyList r s).1.core = s.core := by
  unfold doKeyList
  (try dsimp only)
  repeat' split
  all_goals simp

@[simp] theorem doKeyCounterRead_core (r : Request) : (doKeyCounterRead r s).1.core = s.core := by
  unfold doKeyCounterRead
  (try dsimp only)
  repeat' split
  all_goals simp

@[simp] theorem doLaneStatus_core (r : Request) : (doLaneStatus r s).1.core = s.core := by
  unfold doLaneStatus
  (try dsimp only)
  repeat' split
  all_goals simp

@[simp] theorem doBatonHandover_core (r : Request) : (doBatonHandover r s).1.core = s.core := by
  unfold doBatonHandover
  (try dsimp only)
  repeat' split
  all_goals simp

@[simp] theorem doFwLoad_core (r : Request) : (doFwLoad r s).1.core = s.core := by
  unfold doFwLoad
  (try dsimp only)
  repeat' split
  all_goals simp

@[simp] theorem doFwVerify_core (r : Request) : (doFwVerify r s).1.core = s.core := by
  unfold doFwVerify
  (try dsimp only)
  repeat' split
  all_goals simp

@[simp] theorem doFwActivate_core (r : Request) : (doFwActivate r s).1.core = s.core := by
  unfold doFwActivate
  (try dsimp only)
  repeat' split
  all_goals simp

@[simp] theorem doLanePark_core (r : Request) : (doLanePark r s).1.core = s.core := by
  unfold doLanePark
  (try dsimp only)
  repeat' split
  all_goals simp

@[simp] theorem doLaneUnpark_core (r : Request) : (doLaneUnpark r s).1.core = s.core := by
  unfold doLaneUnpark
  (try dsimp only)
  repeat' split
  all_goals simp

@[simp] theorem doLaneEligible_core (r : Request) : (doLaneEligible r s).1.core = s.core := by
  unfold doLaneEligible
  (try dsimp only)
  repeat' split
  all_goals simp

@[simp] theorem doTeamStatus_core (r : Request) : (doTeamStatus r s).1.core = s.core := by
  unfold doTeamStatus
  (try dsimp only)
  repeat' split
  all_goals simp

@[simp] theorem doTeamMembers_core (r : Request) : (doTeamMembers r s).1.core = s.core := by
  unfold doTeamMembers
  (try dsimp only)
  repeat' split
  all_goals simp

@[simp] theorem doTeamTrigger_core (r : Request) : (doTeamTrigger r s).1.core = s.core := by
  unfold doTeamTrigger
  (try dsimp only)
  repeat' split
  all_goals simp

@[simp] theorem doTuneStart_core (r : Request) : (doTuneStart r s).1.core = s.core := by
  unfold doTuneStart
  (try dsimp only)
  repeat' split
  all_goals simp

@[simp] theorem doTuneStop_core (r : Request) : (doTuneStop r s).1.core = s.core := by
  unfold doTuneStop
  (try dsimp only)
  repeat' split
  all_goals simp

@[simp] theorem doTuneResult_core (r : Request) : (doTuneResult r s).1.core = s.core := by
  unfold doTuneResult
  (try dsimp only)
  repeat' split
  all_goals simp

@[simp] theorem doTraceArm_core (r : Request) : (doTraceArm r s).1.core = s.core := by
  unfold doTraceArm
  (try dsimp only)
  repeat' split
  all_goals simp

@[simp] theorem doTraceRead_core (r : Request) : (doTraceRead r s).1.core = s.core := by
  unfold doTraceRead
  (try dsimp only)
  repeat' split
  all_goals simp

@[simp] theorem doAcqArm_core (r : Request) : (doAcqArm r s).1.core = s.core := by
  unfold doAcqArm
  (try dsimp only)
  repeat' split
  all_goals simp

@[simp] theorem doAcqDisarm_core (r : Request) : (doAcqDisarm r s).1.core = s.core := by
  unfold doAcqDisarm
  (try dsimp only)
  repeat' split
  all_goals simp

@[simp] theorem doAcqTrigger_core (r : Request) : (doAcqTrigger r s).1.core = s.core := by
  unfold doAcqTrigger
  (try dsimp only)
  repeat' split
  all_goals simp

@[simp] theorem doAcqList_core (r : Request) : (doAcqList r s).1.core = s.core := by
  unfold doAcqList
  (try dsimp only)
  repeat' split
  all_goals simp

@[simp] theorem doAcqRead_core (r : Request) : (doAcqRead r s).1.core = s.core := by
  unfold doAcqRead
  (try dsimp only)
  repeat' split
  all_goals simp

@[simp] theorem doAcqDelete_core (r : Request) : (doAcqDelete r s).1.core = s.core := by
  unfold doAcqDelete
  (try dsimp only)
  repeat' split
  all_goals simp

@[simp] theorem doPeriodRead_core (r : Request) : (doPeriodRead r s).1.core = s.core := by
  unfold doPeriodRead
  (try dsimp only)
  repeat' split
  all_goals simp

@[simp] theorem doProfileRead_core (r : Request) : (doProfileRead r s).1.core = s.core := by
  unfold doProfileRead
  (try dsimp only)
  repeat' split
  all_goals simp

@[simp] theorem doLogRead_core (r : Request) : (doLogRead r s).1.core = s.core := by
  unfold doLogRead
  (try dsimp only)
  repeat' split
  all_goals simp

@[simp] theorem doRecordRead_core (r : Request) : (doRecordRead r s).1.core = s.core := by
  unfold doRecordRead
  (try dsimp only)
  repeat' split
  all_goals simp

@[simp] theorem doClockRead_core (r : Request) : (doClockRead r s).1.core = s.core := by
  unfold doClockRead
  (try dsimp only)
  repeat' split
  all_goals simp

@[simp] theorem doClockSet_core (r : Request) : (doClockSet r s).1.core = s.core := by
  unfold doClockSet
  (try dsimp only)
  repeat' split
  all_goals simp

@[simp] theorem doTamperAck_core (r : Request) : (doTamperAck r s).1.core = s.core := by
  unfold doTamperAck
  (try dsimp only)
  repeat' split
  all_goals simp

@[simp] theorem doPubkeyRead_core (r : Request) : (doPubkeyRead r s).1.core = s.core := by
  unfold doPubkeyRead
  (try dsimp only)
  repeat' split
  all_goals simp

@[simp] theorem doSleepEnter_core (r : Request) : (doSleepEnter r s).1.core = s.core := by
  unfold doSleepEnter
  (try dsimp only)
  repeat' split
  all_goals simp

@[simp] theorem doTtWrite_core (r : Request) : (doTtWrite r s).1.core = s.core := by
  unfold doTtWrite
  (try dsimp only)
  repeat' split
  all_goals simp

@[simp] theorem doTtRead_core (r : Request) : (doTtRead r s).1.core = s.core := by
  unfold doTtRead
  (try dsimp only)
  repeat' split
  all_goals simp

@[simp] theorem doTtClear_core (r : Request) : (doTtClear r s).1.core = s.core := by
  unfold doTtClear
  (try dsimp only)
  repeat' split
  all_goals simp

@[simp] theorem doPowerStatus_core (r : Request) : (doPowerStatus r s).1.core = s.core := by
  unfold doPowerStatus
  (try dsimp only)
  repeat' split
  all_goals simp

@[simp] theorem doModuleRestart_core (r : Request) : (doModuleRestart r s).1.core = s.core := by
  unfold doModuleRestart
  (try dsimp only)
  repeat' split
  all_goals simp

@[simp] theorem doCanTxWrite_core (r : Request) : (doCanTxWrite r s).1.core = s.core := by
  unfold doCanTxWrite
  (try dsimp only)
  repeat' split
  all_goals simp

@[simp] theorem doCanRxRead_core (r : Request) : (doCanRxRead r s).1.core = s.core := by
  unfold doCanRxRead
  (try dsimp only)
  repeat' split
  all_goals simp

@[simp] theorem doCanSleep_core (r : Request) : (doCanSleep r s).1.core = s.core := by
  unfold doCanSleep
  (try dsimp only)
  repeat' split
  all_goals simp

@[simp] theorem doCanWake_core (r : Request) : (doCanWake r s).1.core = s.core := by
  unfold doCanWake
  (try dsimp only)
  repeat' split
  all_goals simp

@[simp] theorem doCanRecover_core (r : Request) : (doCanRecover r s).1.core = s.core := by
  unfold doCanRecover
  (try dsimp only)
  repeat' split
  all_goals simp

@[simp] theorem doMastWrite_core (r : Request) : (doMastWrite r s).1.core = s.core := by
  unfold doMastWrite
  (try dsimp only)
  repeat' split
  all_goals simp

@[simp] theorem doMastRead_core (r : Request) : (doMastRead r s).1.core = s.core := by
  unfold doMastRead
  (try dsimp only)
  repeat' split
  all_goals simp

@[simp] theorem doMastMapRead_core (r : Request) : (doMastMapRead r s).1.core = s.core := by
  unfold doMastMapRead
  (try dsimp only)
  repeat' split
  all_goals simp

theorem commandOf_core (code : Nat) (r : Request) (f : StateCmd) (h : commandOf code r = some f) :
    (f s).1.core = s.core := by
  unfold commandOf at h
  split at h <;> cases h <;> simp

@[simp] theorem State.execute_core (r : Request) : (State.execute r s).core = s.core := by
  unfold State.execute
  split
  · next f h => exact State.run_core s _ _ _ (fun s => commandOf_core s _ _ _ h)
  · exact State.run_core s _ _ _ (fun s => rfl)

@[simp] theorem State.executeTaken_core  : (State.executeTaken s).core = s.core := by
  unfold State.executeTaken
  (try dsimp only)
  repeat' split
  all_goals simp

@[simp] theorem State.lapStart_core (inp : LaneId → LapInput) : (State.lapStart inp s).core = s.core := by
  unfold State.lapStart
  extract_lets n s0 failed leave s1 s2 s3 s4 s4a s5 s6 s7 s8 s9
  have hl : ∀ i s, (leave i s).core = s.core := by intro i s; simp only [leave]; split <;> simp
  have h1 : s1.core = s.core := by rw [show s1 = leave .B (leave .A s0) from rfl, hl, hl]; exact State.eachLane_core ..
  have h3 : s3.core = s.core := by
    have h2 : s2.core = s.core := (State.lines_core s1).trans h1
    clear_value s2
    simp only [s3]; split <;> simp [h2]
  clear_value s3
  have h7 : s7.core = s.core := by simp [s7, s6, s5, s4a, s4, h3]
  clear_value s7
  simp [s9, s8, h7]

@[simp] theorem State.safetySample_core (i : LaneId) (c1 c2 : SafetyInputs) : (State.safetySample i c1 c2 s).core = s.core := by
  unfold State.safetySample
  extract_lets n s0 s1 cc s2 s3 s4 s5
  have h1 : s1.core = s.core := by
    have h0 : s0.core = s.core := State.foldl_core _ _ (fun s x => by simp) s
    clear_value s0
    simp [s1, h0]
  have h2 : s2.core = s.core := by simp only [s2]; split <;> exact h1
  have h3 : s3.core = s.core := by simp only [s3]; split <;> simp [h2]
  clear_value s2 s3
  have h4 : s4.core = s.core := by simp only [s4]; split <;> simp [h3]
  clear_value s4
  split
  · simp [h4]
  · split
    · split <;> simp [s5]
    · rfl

end Sys2Proof.Machine
end

