-- ==== Sys2Proof/WellFormed.lean ====
section
/-!
DEFINITION. Well-formed commands: every operand within the range that its encoding or the variant with the most units gives
it. The meanings are total and act on every operand; these checks say which operands the hardware can deliver.
-/

namespace Sys2Proof.Machine

/-- Every number of the list is a byte. -/
def allBytes (bs : List Nat) : Bool := bs.all (fun b => decide (b < 256))

/-- A signed value that fits 64 bits. -/
def fits64 (v : Int) : Bool := decide (-(2 ^ 63) ≤ v) && decide (v < 2 ^ 63)

/-- A request entry (R75): field widths, a team path of depth at most 8, a lane selector, at most 224 body bytes. -/
def Request.wf (r : Request) : Bool :=
  decide (r.ring < 32) && decide (r.seq < 2 ^ 32) && decide (r.hostTag < 2 ^ 64) && decide (r.command < 2 ^ 16)
    && decide (r.path < 2 ^ 28) && decide (r.path % 16 ≤ 8) && decide (r.lane < 256) && decide (r.body.length ≤ 224)
    && allBytes r.body

/-- A mailbox datagram (R70): header field widths and at most 4 entries. -/
def Datagram.wf (d : Datagram) : Bool :=
  decide (d.version < 256) && decide (d.kind < 256) && decide (d.keySlot < 2 ^ 16) && decide (d.counter < 2 ^ 64)
    && decide (d.ring < 256) && decide (d.count < 256) && decide (d.ackSeq < 2 ^ 32) && decide (d.entries.length ≤ 4)
    && d.entries.all Request.wf && decide (d.port < 2) && decide (d.udpPort < 2 ^ 16) && decide (d.source < 2 ^ 144)

/-- A PTP message (R110) on one of the two Net 1 ports. -/
def PtpMessage.wf : PtpMessage → Bool
  | .announce d p c => decide (d < 256) && decide (p < 256) && decide (c < 2 ^ 128)
  | .sync d c t => decide (d < 256) && decide (c < 2 ^ 128) && fits64 t
  | .pdelay d => fits64 d

/-- What a lane's hardware brings to a lap (R99): issue positions of an engine's lap, and as many failed frames as a u32 counter counts. -/
def LapInput.wf (x : LapInput) : Bool := x.bad.all (fun p => decide (p < 2048)) && decide (x.linkErrors < 2 ^ 32)

/-- An uplink header (R127). -/
def UplinkHeader.wf (u : UplinkHeader) : Bool :=
  decide (u.lap < 2 ^ 48) && decide (u.hubFlags < 256) && decide (u.dlState < 256) && decide (u.obeyed < 256)
    && decide (u.portA < 256) && decide (u.portB < 256)

/-- A status block (R127). -/
def StatusBlock.wf (b : StatusBlock) : Bool :=
  [b.tripped, b.armed, b.overlap, b.bothOnRej, b.hsTimeout, b.cmdLoss, b.refreshed].all (fun x => decide (x < 2 ^ 16))
    && decide (b.cfgAck < 2 ^ 16) && decide (b.gate < 2 ^ 64) && decide (b.contactor < 2 ^ 64)

/-- A fast measurement block (R128) of the 16 local phases. -/
def FastBlock.wf (f : FastBlock) : Bool :=
  decide (f.i.length ≤ 16) && decide (f.vOut.length ≤ 16) && decide (f.vDc.length ≤ 16) && decide (f.lapLo < 256)
    && decide (f.measFlags < 256)

/-- A handshake's draws (R238). -/
def SessionDraws.wf (d : SessionDraws) : Bool := [d.random, d.ephemeral, d.nonce].all (fun x => decide (x < 2 ^ 64))

/-- A metering sample (R257): channels of AC points 0..7 and of DC points 0..31. -/
def MeterSample.wf (ms : MeterSample) : Bool :=
  ms.ac.all (fun e => decide (e.1 < 8) && decide (e.2.length ≤ 6))
    && ms.dc.all (fun e => decide (e.1 < 32) && decide (e.2.length ≤ 2)) && decide (ms.otherOfs ≤ 256)

/-- One channel's safety inputs (R321) of outlets 0..31. -/
def SafetyInputs.wf (i : SafetyInputs) : Bool :=
  (i.imdOpen ++ i.imdWire ++ i.proxOut ++ i.latchOut ++ i.pins.map (fun p => p.1)).all (fun o => decide (o < 32))

/-- A safety telegram (R341). -/
def Telegram.wf (t : Telegram) : Bool :=
  decide (t.teamId < 2 ^ 16) && decide (t.sender < 256) && decide (t.version < 256) && decide (t.seq < 2 ^ 32)
    && fits64 t.sendTime && decide (t.demand < 2 ^ 32) && decide (t.resetCount < 2 ^ 16)

/-- An entry of a member's response (R76): field widths. -/
def MemberEntry.wf (e : MemberEntry) : Bool :=
  decide (e.seq < 2 ^ 32) && decide (e.hostTag < 2 ^ 64) && decide (e.status < 2 ^ 16) && decide (e.part < 2 ^ 16) && decide (e.epoch < 2 ^ 64)

/-- A team frame's payload (R401): what stands in it is itself within range. -/
def TeamPayload.wf : TeamPayload → Bool
  | .beacon serial epoch states pacer mask gen =>
    decide (serial < 2 ^ 64) && decide (epoch < 2 ^ 64) && decide (states < 2 ^ 16) && decide (pacer < 2 ^ 8) && decide (mask < 2 ^ 8)
      && decide (gen < 2 ^ 16)
  | .telegram t => t.wf
  | .report round want drawn => fits64 round && fits64 want && fits64 drawn
  | .allocation round watts => fits64 round && fits64 watts
  | .requests rs => rs.all Request.wf
  | .responses es => es.all MemberEntry.wf
  | .arm id epoch pre post mib =>
    decide (id < 2 ^ 32) && fits64 epoch && decide (pre < 2 ^ 32) && decide (post < 2 ^ 32) && decide (mib < 2 ^ 32)
  | .trigger id path tag => decide (id < 2 ^ 32) && decide (path < 2 ^ 32) && fits64 tag
  | .change mask gen epoch => decide (mask < 2 ^ 8) && decide (gen < 2 ^ 16) && fits64 epoch
  | .ack epoch => fits64 epoch
  | .bulk es => es.all MemberEntry.wf

/-- A team frame's header and payload (R400, R401). -/
def TeamFrame.wf (f : TeamFrame) : Bool :=
  decide (f.ttl < 256) && decide (f.dir < 2) && decide (f.teamId < 2 ^ 16) && decide (f.sender < 256)
    && decide (f.dest < 256) && (f.net == 1 || f.net == 2) && decide (f.seq < 2 ^ 64) && fits64 f.teamEpoch
    && decide (f.keyGen < 2 ^ 16) && f.payload.wf

/-- A CAN frame (R414): identifier width, payload lengths, no data in a remote frame. -/
def CanFrame.wf (f : CanFrame) : Bool :=
  decide (f.id < (if f.ide then 2 ^ 29 else 2 ^ 11)) && allBytes f.data
    && (decide (f.data.length ≤ 8) || (f.fdf && [12, 16, 20, 24, 32, 48, 64].contains f.data.length))
    && (!f.remote || f.data.isEmpty)

/-- A mast response (R429): 8 header bytes, a payload of the length they give, 4 bytes of link report and at most 44 of data. -/
def MastResponse.wf (a : MastResponse) : Bool :=
  decide (a.header.length = 8) && allBytes a.header && decide (a.header.getD 7 0 = a.payload.length)
    && decide (4 ≤ a.payload.length ∧ a.payload.length ≤ 48) && allBytes a.payload

/-- A housekeeping round's readings (R479): 14 sensors, 4 fans. -/
def Housekeeping.wf (h : Housekeeping) : Bool :=
  decide (h.sensors.length = 14) && decide (h.fanCmd.length = 4) && decide (h.fanRpm.length = 4)

end Sys2Proof.Machine

namespace Sys2Proof

open Sys2Proof.Machine

/-- Whether every operand of a command lies within its range. Rows without operands, and rows whose only operand is a lane,
are well-formed as they stand. -/
def Instr.wellFormed : Instr → Bool
  | .nop r => r.wf
  | .caps r => r.wf
  | .ringSet r => r.wf
  | .ringResync r => r.wf
  | .ringStatus r => r.wf
  | .snapshot r => r.wf
  | .snapshotMemberTimeout seq => decide (seq < 2 ^ 32)
  | .readStaged r => r.wf
  | .history r => r.wf
  | .stage r => r.wf
  | .commit r => r.wf
  | .discard r => r.wf
  | .commitList r => r.wf
  | .subscribe r => r.wf
  | .unsubscribe r => r.wf
  | .eventMap r => r.wf
  | .eventMapRead r => r.wf
  | .resetFunction r => r.wf
  | .functionResetComplete code unit => decide (code < 256) && decide (unit < 2 ^ 16)
  | .todSetWrite value => fits64 value
  | .rearmWrite phase => decide (phase < 512)
  | .testGateWrite phase value => decide (phase < 512) && decide (value < 2 ^ 16)
  | .histResetWrite slot => decide (slot < 2048)
  | .hostPowerKwWrite node value => decide (node < 256) && fits64 value
  | .sessionAuthorize r => r.wf
  | .sessionStop r => r.wf
  | .outletBlock r => r.wf
  | .outletClear r => r.wf
  | .sessionInfo r => r.wf
  | .sessionRestart r => r.wf
  | .keyMsgLoad r => r.wf
  | .keyMsgApply r => r.wf
  | .keyInfo r => r.wf
  | .keyList r => r.wf
  | .keyCounterRead r => r.wf
  | .keyDeliveryRequest _ engine slot op => decide (engine < 256) && decide (slot < 1024) && decide (op < 256)
  | .cartridgePairing _ secret => decide (secret < 2 ^ 384)
  | .laneStatus r => r.wf
  | .batonHandover r => r.wf
  | .fwLoad r => r.wf
  | .fwVerify r => r.wf
  | .fwActivate r => r.wf
  | .lanePark r => r.wf
  | .laneUnpark r => r.wf
  | .laneEligible r => r.wf
  | .teamStatus r => r.wf
  | .teamMembers r => r.wf
  | .membershipChangeApply level => decide (level < 8)
  | .teamTrigger r => r.wf
  | .tuneStart r => r.wf
  | .tuneStop r => r.wf
  | .tuneResult r => r.wf
  | .traceArm r => r.wf
  | .traceTrigger source => decide (source < 256)
  | .traceRead r => r.wf
  | .acqArm r => r.wf
  | .acqKeepalive channel => decide (channel < 256)
  | .acqDisarm r => r.wf
  | .acqTrigger r => r.wf
  | .acqList r => r.wf
  | .acqRead r => r.wf
  | .acqDelete r => r.wf
  | .trigInEdge input _ => decide (input < 2)
  | .trigOutPulseEnd output => decide (output < 2)
  | .periodRead r => r.wf
  | .profileRead r => r.wf
  | .logRead r => r.wf
  | .recordRead r => r.wf
  | .clockRead r => r.wf
  | .clockSet r => r.wf
  | .tamperAck r => r.wf
  | .pubkeyRead r => r.wf
  | .sleepEnter r => r.wf
  | .ttWrite r => r.wf
  | .ttRead r => r.wf
  | .ttClear r => r.wf
  | .powerStatus r => r.wf
  | .moduleRestart r => r.wf
  | .canTxWrite r => r.wf
  | .canRxRead r => r.wf
  | .canSleep r => r.wf
  | .canWake r => r.wf
  | .canRecover r => r.wf
  | .mastWrite r => r.wf
  | .mastRead r => r.wf
  | .mastMapRead r => r.wf
  | .datagramReceive _ d => d.wf
  | .forwardedRequest _ => true
  | .resendTimer ring => decide (ring < 32)
  | .notificationRoom ring sub => decide (ring < 32) && decide (sub < 256)
  | .lapStart inA inB => inA.wf && inB.wf
  | .refinQualified _ => true
  | .refinLost _ => true
  | .synciQualified _ => true
  | .synciLost _ => true
  | .epochMarkerMisaligned _ => true
  | .bandSearchLock _ band => decide (band < 256)
  | .lapsStart _ => true
  | .acquireComplete _ freq phase => fits64 freq && fits64 phase
  | .holdoverExpiry _ => true
  | .returnComplete _ => true
  | .ptpMessage port m => decide (port < 2) && m.wf
  | .uplinkHeaderReceive _ hub u => decide (hub < 32) && u.wf
  | .statusBlockReceive _ hub b => decide (hub < 32) && b.wf
  | .fastBlockReceive _ hub f => decide (hub < 32) && f.wf
  | .thermalBlockReceive _ hub _ block => decide (hub < 32) && block.temps.all fits64
  | .junctionTempTimeout _ hub => decide (hub < 32)
  | .hubIdentityRecord _ hub iFs vFs fitted => decide (hub < 32) && decide (iFs < 2 ^ 32) && decide (vFs < 2 ^ 32) && decide (fitted < 2 ^ 32)
  | .hubBlind _ hub => decide (hub < 32)
  | .blindClear _ hub => decide (hub < 32)
  | .lossOfSignal _ hub => decide (hub < 32)
  | .signalPresent _ hub => decide (hub < 32)
  | .linkAlignComplete _ hub => decide (hub < 32)
  | .rangeComplete _ hub delayPs => decide (hub < 32) && decide (delayPs < 2 ^ 32)
  | .configComplete _ hub => decide (hub < 32)
  | .linkAlignLost _ hub => decide (hub < 32)
  | .linkTrainingTimeout _ hub => decide (hub < 32)
  | .linkFaultRetry _ hub => decide (hub < 32)
  | .rearmDelayExpiry phase => decide (phase < 512)
  | .packRunStart pack => decide (pack < 64)
  | .packMatrixTimeout pack => decide (pack < 64)
  | .packStopComplete pack => decide (pack < 64)
  | .joinComplete phase => decide (phase < 512)
  | .leaveComplete phase => decide (phase < 512)
  | .phaseJoin phase => decide (phase < 512)
  | .allocationOverrun _ => true
  | .teamReportReceive f want drawn => decide (f.level < 8) && decide (f.member < 8) && fits64 f.round && fits64 want && fits64 drawn
  | .teamAllocationReceive w => decide (w.level < 8) && fits64 w.round && fits64 w.watts
  | .canFrameReceive bus f => decide (bus < 4) && f.frame.wf
  | .canColumnOpen bus cycle c => decide (bus < 4) && decide (cycle < 64) && decide (c.column < 32)
  | .canColumnClose bus => decide (bus < 4)
  | .canErrorStateChange _ bus state tec recN => decide (bus < 4) && fits64 state && decide (tec < 2 ^ 16) && decide (recN < 2 ^ 16)
  | .canBusoffRecovery _ bus => decide (bus < 4)
  | .canWakePattern bus frame => decide (bus < 4) && match frame with | none => true | some f => f.wf
  | .mastRequestSend port => decide (port < 2)
  | .mastResponseReceive port a => decide (port < 2) && a.wf
  | .mastResponseTimeout port => decide (port < 2)
  | .mastAlert port a => decide (port < 2) && decide (a.header.length = 8) && allBytes a.header && a.payload.isEmpty
  | .sensorTimeout outlet sensor => decide (outlet < 32) && decide (sensor < 7)
  | .forecastOverrun outlet => decide (outlet < 32)
  | .coolReady outlet => decide (outlet < 32)
  | .degradedRecover outlet => decide (outlet < 32)
  | .degradedExpiry outlet => decide (outlet < 32)
  | .degradedElapsedReset outlet => decide (outlet < 32)
  | .cooldownExpiry outlet => decide (outlet < 32)
  | .proxBandChange outlet lineMv => decide (outlet < 32) && decide (lineMv < 2 ^ 32)
  | .latchFbChange outlet state => decide (outlet < 32) && fits64 state
  | .contactorFeedbackChange outlet _ => decide (outlet < 32)
  | .signedRecordReceive number => decide (number < 2 ^ 32)
  | .sdpRequest outlet => decide (outlet.body < 32)
  | .tlsClientHello outlet suites ext draws => decide (outlet.body < 32) && (suites ++ ext.groups ++ ext.schemes).all (fun x => decide (x < 2 ^ 16)) && draws.wf
  | .handshakeTimeout outlet => decide (outlet < 32)
  | .sessionRandomReceive outlet => decide (outlet < 32)
  | .supportedAppProtocolReq outlet offers => decide (outlet.body < 32) && offers.all (fun p => decide (p.standard < 2 ^ 16) && decide (p.edition < 2 ^ 16))
  | .sessionSetupReq outlet evccid id => decide (outlet.body < 32) && decide (evccid < 2 ^ 64) && decide (id < 2 ^ 64)
  | .authorizationSetupReq outlet => decide (outlet.body < 32)
  | .authorizationReq outlet mode _ contract => decide (outlet.body < 32) && decide (mode < 256) && allBytes contract
  | .serviceDiscoveryReq outlet => decide (outlet.body < 32)
  | .serviceDetailReq outlet => decide (outlet.body < 32)
  | .serviceSelectionReq outlet c => decide (outlet.body < 32) && (c.service :: c.mode :: c.valueAdded).all (fun x => decide (x < 2 ^ 16))
  | .dcChargeParameterDiscoveryReq outlet vMax iMax pMax => decide (outlet.body < 32) && decide (vMax < 2 ^ 32) && decide (iMax < 2 ^ 32) && decide (pMax < 2 ^ 32)
  | .scheduleExchangeReq outlet => decide (outlet.body < 32)
  | .dcCableCheckReq outlet => decide (outlet.body < 32)
  | .dcPreChargeReq outlet target => decide (outlet.body < 32) && decide (target < 2 ^ 32)
  | .powerDeliveryReq outlet kind => decide (outlet.body < 32) && decide (kind < 3)
  | .dcChargeLoopReq outlet iTarget iMax pMax vTarget vMax => decide (outlet.body < 32) && decide (iTarget < 2 ^ 32) && decide (iMax < 2 ^ 32) && decide (pMax < 2 ^ 32) && decide (vTarget < 2 ^ 32) && decide (vMax < 2 ^ 32)
  | .dcWeldingDetectionReq outlet => decide (outlet.body < 32)
  | .sessionStopReq outlet => decide (outlet.body < 32)
  | .stepLimitExpiry outlet => decide (outlet < 32)
  | .coolNotReadyTimeout outlet => decide (outlet < 32)
  | .isolationPass outlet => decide (outlet < 32)
  | .prechargeReached outlet => decide (outlet < 32)
  | .prechargeShort outlet => decide (outlet < 32)
  | .rampdownComplete outlet => decide (outlet < 32)
  | .dischargeComplete outlet => decide (outlet < 32)
  | .plugCycle outlet => decide (outlet < 32)
  | .meteringSample _ ms => ms.wf
  | .cycleEnd _ point _ => decide (point < 8)
  | .fixedBlockEnd _ point => decide (point < 8)
  | .ntcRead _ point milliOhm => decide (point < 40) && decide (milliOhm < 2 ^ 64)
  | .referenceCheck _ ppm => fits64 ppm
  | .mpCrcCheck _ crc _ => decide (crc < 2 ^ 32)
  | .s0Pulse _ input onMs => decide (input < 16) && decide (onMs < 2 ^ 32)
  | .s0Stuck _ input onMs => decide (input < 16) && decide (onMs < 2 ^ 32)
  | .s0LaneDisagree input => decide (input < 16)
  | .pulseOutputTick output => decide (output < 4)
  | .pulseEnd output => decide (output < 4)
  | .supplyLoss _ => true
  | .supplyRestore _ ms _ _ _ _ => decide (ms < 2 ^ 32)
  | .supplyGood _ => true
  | .sealChange _ => true
  | .tamperRecord cause point times values =>
    decide (cause < 256) && decide (point < 40) && decide (times.clearMs < 2 ^ 32) && decide (times.downMs < 2 ^ 32) && values.all fits64
  | .safetyCycle _ ch1 ch2 => ch1.wf && ch2.wf
  | .tripLatchReceive _ function => decide (function < 256)
  | .resetEdge _ openMs closedMs => decide (openMs < 2 ^ 32) && decide (closedMs < 2 ^ 32)
  | .testPulseStart output => decide (output < 99)
  | .testPulseEnd output _ => decide (output < 99)
  | .loopTestPulseTimeout _ => true
  | .safetyTelegramReceive net t => (net == 1 || net == 2) && t.wf
  | .telegramTimeout member => decide (member < 8)
  | .netLost net => (net == 1 || net == 2)
  | .netRestored net => (net == 1 || net == 2)
  | .dischargeSupervisionExpiry outlet => decide (outlet < 32)
  | .backupDischargeCheck outlet => decide (outlet < 32)
  | .degradedCurrentCheck outlet => decide (outlet < 32)
  | .giveUp _ => true
  | .watchdogMiss _ => true
  | .hostPortsDown _ => true
  | .laneInserted _ _ _ serial => decide (serial < 2 ^ 64)
  | .laneRemoved _ => true
  | .ejectOpen _ => true
  | .bootComplete _ => true
  | .resyncAlignComplete _ => true
  | .copyComplete _ => true
  | .catchupComplete _ => true
  | .shadowComplete _ => true
  | .resyncPhaseTimeout _ => true
  | .teamFrameReceive f => f.wf
  | .bypassSwitch net _ => (net == 1 || net == 2)
  | .teamArmApply level => decide (level < 8)
  | .wake source => decide (source < 256)
  | .timetableDue id => decide (id < 2 ^ 64)
  | .timetableExpiry id => decide (id < 2 ^ 64)
  | .housekeepingRound _ h => h.wf
  | .fanFault _ fan => decide (fan < 4)
  | .criticalRestart _ => true
  | .asleepThermalCheck _ sensors => sensors.all fits64
  | .dramError _ _ device line => decide (device < 16) && decide (line < 2 ^ 32)
  | .scrub _ => true
  | .memberAnswerTimeout seq => decide (seq < 2 ^ 32)
  | .backupStoreExhausted _ => true
  | .asleepEpochTick _ => true
  | .s0OffTransition _ input => decide (input < 16)
  | .mainsZeroCrossing port periodUs noise => decide (port < 2) && decide (periodUs < 2 ^ 32) && noise.all (fun x => decide (x < 2 ^ 16))
  | .canTxComplete sent => decide (sent.bus < 4)
  | .outletSegmentFrame outlet _ seq len secret _ => decide (outlet < 32) && decide (seq < 2 ^ 32) && decide (len < 2 ^ 32) && decide (secret < 2 ^ 64)
  | .ptpSendInterval kind => decide (kind < 3)
  | .sessionEngineIdle engine => decide (engine < 4)
  | .snapshotImageReady => true
  | .keyDigestExchange => true
  | .keyCommitPoint => true
  | .tuneMeasurementStart => true
  | .tuneComplete => true
  | .tuneGuardAbort => true
  | .traceComplete => true
  | .acqPreElapsed => true
  | .acqTriggerCondition => true
  | .acqPostElapsed => true
  | .acqMemoryFull => true
  | .sleepPrecheck => true
  | .sleepPoint => true
  | .sleepWantDrop => true
  | .asleepEntry => true
  | .autoSleepStart => true
  | .moduleRestartReset => true
  | .requestTake => true
  | .takeNotice => true
  | .takeNoticeTimeout => true
  | .epochBoundary => true
  | .imageSeal => true
  | .commitValidation => true
  | .commitDigestExchange => true
  | .laneLinkCrcReceive => true
  | .laneLinkTimeout => true
  | .controlSetReceive => true
  | .holderSampleReceive => true
  | .allocationRound => true
  | .allocDigestExchange => true
  | .targetLoad => true
  | .teamExchangeDeadline => true
  | .modelStep => true
  | .forecast => true
  | .meterLaneCompare => true
  | .intervalClose => true
  | .billingClose => true
  | .tariffEvaluation => true
  | .intervalAdoption => true
  | .displayScroll => true
  | .safeLoopIn => true
  | .teamDegradedExpiry => true
  | .teamElapsedReset => true
  | .grantEvaluation => true
  | .beaconSend => true
  | .beaconReturnCheck => true
  | .memberStateUpdate => true
  | .keeperTimeout => true

end Sys2Proof
end

