-- ==== Sys2Proof/Tests/Slice0.lean ====
section
/-!
SUPPORT. Tests of the model: the operand checks refuse a term out of range for each check, some rules' own numbers, and for every statement a
witness of its hypotheses, clause by clause.
-/

namespace Sys2Proof.Tests

open Sys2Proof Sys2Proof.Machine

-- The witnesses below are evaluated by the kernel one after another. Elaborated in parallel, each would wait for the ones before it
-- in a thread of its own, and the stacks of those threads together exceed the memory that the check allows.
set_option Elab.async false

/-! ### Well-formed operands -/

/-- Operands within their ranges, for the terms below. -/
def okRequest : Request := { ring := 0, seq := 1, hostTag := 0, command := 1, lane := 0, path := 0, body := [] }
def okDatagram : Datagram :=
  { version := 1, kind := 0, keySlot := 0, counter := 0, ring := 0, count := 1, ackSeq := 0, source := 0, tagOk := true, entries := [okRequest] }
def okHeader : UplinkHeader := ⟨true, true, 0, 0, 0, 0, 0, 0, 0, 0⟩
def okStatus : StatusBlock := ⟨true, true, 0, 0, 0, 0, 0, 0, 0, 0, 0, 0, 0, 0⟩
def okFast : FastBlock := ⟨true, true, 0, [], [], [], 0, 0⟩
def okInputs : SafetyInputs :=
  { estop1 := true, estop2 := true, reset := false, loopIn := true, loopPulse := false, imdOpen := [], imdWire := [], proxOut := [],
    latchOut := [], pins := [], lowOuts := [] }
def okTelegram : Telegram := ⟨0, 0, 0, 0, 0, 0, 0, true⟩
def okTeamFrame : TeamFrame := ⟨1, 0, 0, 0, 0, 1, 0, 0, 0, true, 0, .bulk []⟩
def okCan : CanFrame := ⟨false, 0, false, false, false, []⟩
def okMast : MastResponse :=
  ⟨[0, 1, 0x20, 0, 0, 0, 0, 4], [0, 0, 0, 0], ⟨0, 0, 0, 0, 0, []⟩, ⟨0, 0, 0, 0, 0, []⟩⟩
def okAlert : MastResponse := { okMast with header := [0, 1, 0x60, 0, 0, 0, 0, 0], payload := [] }
def okDraws : SessionDraws := ⟨0, 0, 0⟩
def okHouse : Housekeeping := ⟨List.replicate 14 none, [], List.replicate 4 0, List.replicate 4 0, 0, 0, 0⟩

def inRange0 : List Instr := [
  .nop okRequest, .caps okRequest, .ringSet okRequest, .ringResync okRequest, .ringStatus okRequest, .snapshot okRequest,
  .snapshotMemberTimeout 0, .readStaged okRequest, .history okRequest, .stage okRequest, .commit okRequest, .discard okRequest,
  .commitList okRequest, .subscribe okRequest, .unsubscribe okRequest, .eventMap okRequest, .eventMapRead okRequest,
  .resetFunction okRequest, .functionResetComplete 0 0, .todSetWrite 0, .rearmWrite 0, .testGateWrite 0 0, .histResetWrite 0,
  .hostPowerKwWrite 0 0, .sessionAuthorize okRequest, .sessionStop okRequest, .outletBlock okRequest, .outletClear okRequest,
  .sessionInfo okRequest, .sessionRestart okRequest, .keyMsgLoad okRequest, .keyMsgApply okRequest, .keyInfo okRequest,
  .keyList okRequest, .keyCounterRead okRequest, .keyDeliveryRequest .A 0 0 0, .cartridgePairing true 0, .laneStatus okRequest,
  .batonHandover okRequest, .fwLoad okRequest]

def inRange1 : List Instr := [
  .fwVerify okRequest, .fwActivate okRequest, .lanePark okRequest, .laneUnpark okRequest, .laneEligible okRequest,
  .teamStatus okRequest, .teamMembers okRequest, .membershipChangeApply 0, .teamTrigger okRequest, .tuneStart okRequest,
  .tuneStop okRequest, .tuneResult okRequest, .traceArm okRequest, .traceTrigger 0, .traceRead okRequest, .acqArm okRequest,
  .acqKeepalive 0, .acqDisarm okRequest, .acqTrigger okRequest, .acqList okRequest, .acqRead okRequest, .acqDelete okRequest,
  .trigInEdge 0 true, .trigOutPulseEnd 0, .periodRead okRequest, .profileRead okRequest, .logRead okRequest, .recordRead okRequest,
  .clockRead okRequest, .clockSet okRequest, .tamperAck okRequest, .pubkeyRead okRequest, .sleepEnter okRequest,
  .ttWrite okRequest, .ttRead okRequest, .ttClear okRequest, .powerStatus okRequest, .moduleRestart okRequest,
  .canTxWrite okRequest, .canRxRead okRequest]

def inRange2 : List Instr := [
  .canSleep okRequest, .canWake okRequest, .canRecover okRequest, .mastWrite okRequest, .mastRead okRequest,
  .mastMapRead okRequest, .datagramReceive .A okDatagram, .resendTimer 0, .notificationRoom 0 0, .lapStart {} {},
  .bandSearchLock .A 0, .acquireComplete .A 0 0, .ptpMessage 0 (.pdelay 0), .uplinkHeaderReceive .A 0 okHeader,
  .statusBlockReceive .A 0 okStatus, .fastBlockReceive .A 0 okFast, .thermalBlockReceive .A 0 true ⟨0, []⟩, .junctionTempTimeout .A 0,
  .hubIdentityRecord .A 0 0 0 0, .hubBlind .A 0, .blindClear .A 0, .lossOfSignal .A 0, .signalPresent .A 0,
  .linkAlignComplete .A 0, .rangeComplete .A 0 0, .configComplete .A 0, .linkAlignLost .A 0, .linkTrainingTimeout .A 0,
  .linkFaultRetry .A 0, .rearmDelayExpiry 0, .packRunStart 0, .packMatrixTimeout 0, .packStopComplete 0, .joinComplete 0,
  .leaveComplete 0, .phaseJoin 0, .teamReportReceive ⟨0, 0, 0⟩ 0 0, .teamAllocationReceive ⟨0, 0, 0⟩,
  .canFrameReceive 0 ⟨okCan, ⟨none, false⟩⟩, .canColumnOpen 0 0 ⟨0, false⟩]

def inRange3 : List Instr := [
  .canColumnClose 0, .canErrorStateChange .A 0 0 0 0, .canBusoffRecovery .A 0, .canWakePattern 0 none, .mastRequestSend 0,
  .mastResponseReceive 0 okMast, .mastResponseTimeout 0, .mastAlert 0 okAlert, .sensorTimeout 0 0, .forecastOverrun 0, .coolReady 0,
  .degradedRecover 0, .degradedExpiry 0, .degradedElapsedReset 0, .cooldownExpiry 0, .proxBandChange 0 0, .latchFbChange 0 0,
  .contactorFeedbackChange 0 ⟨.opened, .moving⟩, .signedRecordReceive 0, .sdpRequest ⟨none, 0⟩, .tlsClientHello ⟨none, 0⟩ [] ⟨[], []⟩ okDraws, .handshakeTimeout 0,
  .sessionRandomReceive 0, .supportedAppProtocolReq ⟨none, 0⟩ [⟨20, 1⟩], .sessionSetupReq ⟨none, 0⟩ 0 0, .authorizationSetupReq ⟨none, 0⟩,
  .authorizationReq ⟨none, 0⟩ 0 true [], .serviceDiscoveryReq ⟨none, 0⟩, .serviceDetailReq ⟨none, 0⟩, .serviceSelectionReq ⟨none, 0⟩ ⟨2, 1, []⟩,
  .dcChargeParameterDiscoveryReq ⟨none, 0⟩ 0 0 0, .scheduleExchangeReq ⟨none, 0⟩, .dcCableCheckReq ⟨none, 0⟩, .dcPreChargeReq ⟨none, 0⟩ 0, .powerDeliveryReq ⟨none, 0⟩ 0,
  .dcChargeLoopReq ⟨none, 0⟩ 0 0 0 0 0, .dcWeldingDetectionReq ⟨none, 0⟩, .sessionStopReq ⟨none, 0⟩, .stepLimitExpiry 0, .coolNotReadyTimeout 0]

def inRange4 : List Instr := [
  .isolationPass 0, .prechargeReached 0, .prechargeShort 0, .rampdownComplete 0, .dischargeComplete 0, .plugCycle 0,
  .meteringSample .A ⟨[], [], 0⟩, .cycleEnd .A 0 0, .fixedBlockEnd .A 0, .ntcRead .A 0 0, .referenceCheck .A 0,
  .mpCrcCheck .A 0 true, .s0Pulse .A 0 0, .s0Stuck .A 0 0, .s0LaneDisagree 0, .pulseOutputTick 0, .pulseEnd 0,
  .supplyRestore .A 0 true true true true, .tamperRecord 0 0 ⟨0, 0⟩ [], .safetyCycle .A okInputs okInputs, .tripLatchReceive .A 0,
  .resetEdge .A 0 0, .testPulseStart 0, .testPulseEnd 0 true, .safetyTelegramReceive 1 okTelegram, .telegramTimeout 0, .netLost 1,
  .netRestored 1, .dischargeSupervisionExpiry 0, .backupDischargeCheck 0, .degradedCurrentCheck 0, .laneInserted .A true true 0,
  .teamFrameReceive okTeamFrame, .bypassSwitch 1 ⟨true, true⟩, .teamArmApply 0, .wake 0, .timetableDue 0, .timetableExpiry 0,
  .housekeepingRound .A okHouse, .fanFault .A 0]

def inRange5 : List Instr := [
  .asleepThermalCheck .A [], .dramError .A true 0 0, .memberAnswerTimeout 0, .s0OffTransition .A 0, .mainsZeroCrossing 0 0 [],
  .canTxComplete ⟨0, ⟨none, false⟩⟩, .outletSegmentFrame 0 ⟨none, true⟩ 0 0 0 true, .ptpSendInterval 0, .sessionEngineIdle 0]

def outOfRange0 : List Instr := [
  .nop { okRequest with ring := 32 }, .caps { okRequest with ring := 32 }, .ringSet { okRequest with ring := 32 },
  .ringResync { okRequest with ring := 32 }, .ringStatus { okRequest with ring := 32 }, .snapshot { okRequest with ring := 32 },
  .snapshotMemberTimeout (2 ^ 32), .readStaged { okRequest with ring := 32 }, .history { okRequest with ring := 32 },
  .stage { okRequest with ring := 32 }, .commit { okRequest with ring := 32 }, .discard { okRequest with ring := 32 },
  .commitList { okRequest with ring := 32 }, .subscribe { okRequest with ring := 32 }, .unsubscribe { okRequest with ring := 32 },
  .eventMap { okRequest with ring := 32 }, .eventMapRead { okRequest with ring := 32 },
  .resetFunction { okRequest with ring := 32 }, .functionResetComplete 256 0, .functionResetComplete 0 (2 ^ 16),
  .todSetWrite (2 ^ 63), .rearmWrite 512, .testGateWrite 512 0, .testGateWrite 0 (2 ^ 16), .histResetWrite 2048,
  .hostPowerKwWrite 256 0, .hostPowerKwWrite 0 (2 ^ 63), .sessionAuthorize { okRequest with ring := 32 },
  .sessionStop { okRequest with ring := 32 }, .outletBlock { okRequest with ring := 32 },
  .outletClear { okRequest with ring := 32 }, .sessionInfo { okRequest with ring := 32 },
  .sessionRestart { okRequest with ring := 32 }, .keyMsgLoad { okRequest with ring := 32 },
  .keyMsgApply { okRequest with ring := 32 }, .keyInfo { okRequest with ring := 32 }, .keyList { okRequest with ring := 32 },
  .keyCounterRead { okRequest with ring := 32 }, .keyDeliveryRequest .A 256 0 0, .keyDeliveryRequest .A 0 1024 0]

def outOfRange1 : List Instr := [
  .keyDeliveryRequest .A 0 0 256, .cartridgePairing true (2 ^ 384), .laneStatus { okRequest with ring := 32 },
  .batonHandover { okRequest with ring := 32 }, .fwLoad { okRequest with ring := 32 }, .fwVerify { okRequest with ring := 32 },
  .fwActivate { okRequest with ring := 32 }, .lanePark { okRequest with ring := 32 }, .laneUnpark { okRequest with ring := 32 },
  .laneEligible { okRequest with ring := 32 }, .teamStatus { okRequest with ring := 32 },
  .teamMembers { okRequest with ring := 32 }, .membershipChangeApply 8, .teamTrigger { okRequest with ring := 32 },
  .tuneStart { okRequest with ring := 32 }, .tuneStop { okRequest with ring := 32 }, .tuneResult { okRequest with ring := 32 },
  .traceArm { okRequest with ring := 32 }, .traceTrigger 256, .traceRead { okRequest with ring := 32 },
  .acqArm { okRequest with ring := 32 }, .acqKeepalive 256, .acqDisarm { okRequest with ring := 32 },
  .acqTrigger { okRequest with ring := 32 }, .acqList { okRequest with ring := 32 }, .acqRead { okRequest with ring := 32 },
  .acqDelete { okRequest with ring := 32 }, .trigInEdge 2 true, .trigOutPulseEnd 2, .periodRead { okRequest with ring := 32 },
  .profileRead { okRequest with ring := 32 }, .logRead { okRequest with ring := 32 }, .recordRead { okRequest with ring := 32 },
  .clockRead { okRequest with ring := 32 }, .clockSet { okRequest with ring := 32 }, .tamperAck { okRequest with ring := 32 },
  .pubkeyRead { okRequest with ring := 32 }, .sleepEnter { okRequest with ring := 32 }, .ttWrite { okRequest with ring := 32 },
  .ttRead { okRequest with ring := 32 }]

def outOfRange2 : List Instr := [
  .ttClear { okRequest with ring := 32 }, .powerStatus { okRequest with ring := 32 }, .moduleRestart { okRequest with ring := 32 },
  .canTxWrite { okRequest with ring := 32 }, .canRxRead { okRequest with ring := 32 }, .canSleep { okRequest with ring := 32 },
  .canWake { okRequest with ring := 32 }, .canRecover { okRequest with ring := 32 }, .mastWrite { okRequest with ring := 32 },
  .mastRead { okRequest with ring := 32 }, .mastMapRead { okRequest with ring := 32 },
  .datagramReceive .A { okDatagram with ring := 256 }, .resendTimer 32, .notificationRoom 32 0, .notificationRoom 0 256,
  .lapStart { bad := [2048] } {}, .lapStart { linkErrors := 2 ^ 32 } {}, .lapStart {} { bad := [2048] }, .lapStart {} { linkErrors := 2 ^ 32 }, .bandSearchLock .A 256, .acquireComplete .A (2 ^ 63) 0, .acquireComplete .A 0 (2 ^ 63),
  .ptpMessage 2 (.pdelay 0), .ptpMessage 0 (.pdelay (2 ^ 63)), .uplinkHeaderReceive .A 32 okHeader,
  .uplinkHeaderReceive .A 0 { okHeader with lap := 2 ^ 48 }, .statusBlockReceive .A 32 okStatus,
  .statusBlockReceive .A 0 { okStatus with gate := 2 ^ 64 }, .fastBlockReceive .A 32 okFast,
  .fastBlockReceive .A 0 { okFast with lapLo := 256 }, .thermalBlockReceive .A 32 true ⟨0, []⟩, .thermalBlockReceive .A 0 true ⟨0, [2 ^ 63]⟩,
  .junctionTempTimeout .A 32, .hubIdentityRecord .A 32 0 0 0, .hubIdentityRecord .A 0 (2 ^ 32) 0 0,
  .hubIdentityRecord .A 0 0 (2 ^ 32) 0, .hubIdentityRecord .A 0 0 0 (2 ^ 32), .hubBlind .A 32, .blindClear .A 32,
  .lossOfSignal .A 32, .signalPresent .A 32, .linkAlignComplete .A 32]

def outOfRange3 : List Instr := [
  .rangeComplete .A 32 0, .rangeComplete .A 0 (2 ^ 32), .configComplete .A 32, .linkAlignLost .A 32, .linkTrainingTimeout .A 32,
  .linkFaultRetry .A 32, .rearmDelayExpiry 512, .packRunStart 64, .packMatrixTimeout 64, .packStopComplete 64, .joinComplete 512,
  .leaveComplete 512, .phaseJoin 512, .teamReportReceive ⟨8, 0, 0⟩ 0 0, .teamReportReceive ⟨0, 8, 0⟩ 0 0, .teamReportReceive ⟨0, 0, 2 ^ 63⟩ 0 0,
  .teamReportReceive ⟨0, 0, 0⟩ (2 ^ 63) 0, .teamReportReceive ⟨0, 0, 0⟩ 0 (2 ^ 63), .teamAllocationReceive ⟨8, 0, 0⟩,
  .teamAllocationReceive ⟨0, 2 ^ 63, 0⟩, .teamAllocationReceive ⟨0, 0, 2 ^ 63⟩, .canFrameReceive 4 ⟨okCan, ⟨none, false⟩⟩,
  .canFrameReceive 0 ⟨{ okCan with id := 2 ^ 11 }, ⟨none, false⟩⟩, .canColumnOpen 4 0 ⟨0, false⟩, .canColumnOpen 0 64 ⟨0, false⟩,
  .canColumnOpen 0 0 ⟨32, false⟩, .canColumnClose 4, .canErrorStateChange .A 4 0 0 0,
  .canErrorStateChange .A 0 (2 ^ 63) 0 0, .canErrorStateChange .A 0 0 (2 ^ 16) 0, .canErrorStateChange .A 0 0 0 (2 ^ 16),
  .canBusoffRecovery .A 4, .canWakePattern 4 none, .canWakePattern 0 (some { okCan with id := 2 ^ 11 }), .mastRequestSend 2,
  .mastResponseReceive 2 okMast, .mastResponseReceive 0 { okMast with payload := [256, 0, 0, 0] }, .mastResponseTimeout 2,
  .mastAlert 2 okAlert, .mastAlert 0 okMast, .sensorTimeout 32 0, .sensorTimeout 0 7, .forecastOverrun 32, .coolReady 32]

def outOfRange4 : List Instr := [
  .degradedRecover 32, .degradedExpiry 32, .degradedElapsedReset 32, .cooldownExpiry 32, .proxBandChange 32 0,
  .proxBandChange 0 (2 ^ 32), .latchFbChange 32 0, .latchFbChange 0 (2 ^ 63), .contactorFeedbackChange 32 ⟨.opened, .closed⟩,
  .signedRecordReceive (2 ^ 32), .sdpRequest ⟨none, 32⟩, .tlsClientHello ⟨none, 32⟩ [] ⟨[], []⟩ okDraws,
  .tlsClientHello ⟨none, 0⟩ [2 ^ 16] ⟨[], []⟩ okDraws, .tlsClientHello ⟨none, 0⟩ [] ⟨[2 ^ 16], []⟩ okDraws, .tlsClientHello ⟨none, 0⟩ [] ⟨[], [2 ^ 16]⟩ okDraws,
  .tlsClientHello ⟨none, 0⟩ [] ⟨[], []⟩ { okDraws with nonce := 2 ^ 64 }, .handshakeTimeout 32, .sessionRandomReceive 32,
  .supportedAppProtocolReq ⟨none, 32⟩ [], .supportedAppProtocolReq ⟨none, 0⟩ [⟨2 ^ 16, 0⟩], .supportedAppProtocolReq ⟨none, 0⟩ [⟨0, 2 ^ 16⟩], .sessionSetupReq ⟨none, 32⟩ 0 0, .sessionSetupReq ⟨none, 0⟩ (2 ^ 64) 0,
  .sessionSetupReq ⟨none, 0⟩ 0 (2 ^ 64), .authorizationSetupReq ⟨none, 32⟩, .authorizationReq ⟨none, 32⟩ 0 true [], .authorizationReq ⟨none, 0⟩ 256 true [],
  .authorizationReq ⟨none, 0⟩ 0 true [256], .serviceDiscoveryReq ⟨none, 32⟩, .serviceDetailReq ⟨none, 32⟩, .serviceSelectionReq ⟨none, 32⟩ ⟨0, 0, []⟩, .serviceSelectionReq ⟨none, 0⟩ ⟨2 ^ 16, 0, []⟩,
  .serviceSelectionReq ⟨none, 0⟩ ⟨0, 2 ^ 16, []⟩, .serviceSelectionReq ⟨none, 0⟩ ⟨0, 0, [2 ^ 16]⟩,
  .dcChargeParameterDiscoveryReq ⟨none, 32⟩ 0 0 0, .dcChargeParameterDiscoveryReq ⟨none, 0⟩ (2 ^ 32) 0 0,
  .dcChargeParameterDiscoveryReq ⟨none, 0⟩ 0 (2 ^ 32) 0, .dcChargeParameterDiscoveryReq ⟨none, 0⟩ 0 0 (2 ^ 32), .scheduleExchangeReq ⟨none, 32⟩,
  .dcCableCheckReq ⟨none, 32⟩, .dcPreChargeReq ⟨none, 32⟩ 0, .dcPreChargeReq ⟨none, 0⟩ (2 ^ 32), .powerDeliveryReq ⟨none, 32⟩ 0, .powerDeliveryReq ⟨none, 0⟩ 3,
  .dcChargeLoopReq ⟨none, 32⟩ 0 0 0 0 0]

def outOfRange5 : List Instr := [
  .dcChargeLoopReq ⟨none, 0⟩ (2 ^ 32) 0 0 0 0, .dcChargeLoopReq ⟨none, 0⟩ 0 (2 ^ 32) 0 0 0, .dcChargeLoopReq ⟨none, 0⟩ 0 0 (2 ^ 32) 0 0,
  .dcChargeLoopReq ⟨none, 0⟩ 0 0 0 (2 ^ 32) 0, .dcChargeLoopReq ⟨none, 0⟩ 0 0 0 0 (2 ^ 32), .dcWeldingDetectionReq ⟨none, 32⟩, .sessionStopReq ⟨none, 32⟩,
  .stepLimitExpiry 32, .coolNotReadyTimeout 32, .isolationPass 32, .prechargeReached 32, .prechargeShort 32, .rampdownComplete 32,
  .dischargeComplete 32, .plugCycle 32, .meteringSample .A ⟨[(8, [])], [], 0⟩, .cycleEnd .A 8 0,
  .fixedBlockEnd .A 8, .ntcRead .A 40 0, .ntcRead .A 0 (2 ^ 64), .referenceCheck .A (2 ^ 63), .mpCrcCheck .A (2 ^ 32) true,
  .s0Pulse .A 16 0, .s0Pulse .A 0 (2 ^ 32), .s0Stuck .A 16 0, .s0Stuck .A 0 (2 ^ 32), .s0LaneDisagree 16, .pulseOutputTick 4,
  .pulseEnd 4, .supplyRestore .A (2 ^ 32) true true true true, .tamperRecord 256 0 ⟨0, 0⟩ [], .tamperRecord 0 40 ⟨0, 0⟩ [],
  .tamperRecord 0 0 ⟨2 ^ 32, 0⟩ [], .tamperRecord 0 0 ⟨0, 2 ^ 32⟩ [], .tamperRecord 0 0 ⟨0, 0⟩ [2 ^ 63], .safetyCycle .A { okInputs with imdOpen := [32] } okInputs,
  .safetyCycle .A okInputs { okInputs with imdOpen := [32] }, .tripLatchReceive .A 256, .resetEdge .A (2 ^ 32) 0,
  .resetEdge .A 0 (2 ^ 32)]

def outOfRange6 : List Instr := [
  .testPulseStart 99, .testPulseEnd 99 true, .safetyTelegramReceive 0 okTelegram,
  .safetyTelegramReceive 1 { okTelegram with sender := 256 }, .telegramTimeout 8, .netLost 0, .netRestored 0,
  .dischargeSupervisionExpiry 32, .backupDischargeCheck 32, .degradedCurrentCheck 32, .laneInserted .A true true (2 ^ 64),
  .teamFrameReceive { okTeamFrame with net := 0 }, .bypassSwitch 0 ⟨true, true⟩, .teamArmApply 8, .wake 256, .timetableDue (2 ^ 64),
  .timetableExpiry (2 ^ 64), .housekeepingRound .A { okHouse with sensors := [] }, .fanFault .A 4, .asleepThermalCheck .A [2 ^ 63],
  .dramError .A true 16 0, .dramError .A true 0 (2 ^ 32), .memberAnswerTimeout (2 ^ 32), .s0OffTransition .A 16,
  .mainsZeroCrossing 2 0 [], .mainsZeroCrossing 0 (2 ^ 32) [], .mainsZeroCrossing 0 0 [2 ^ 16], .canTxComplete ⟨4, ⟨none, false⟩⟩,
  .outletSegmentFrame 32 ⟨none, true⟩ 0 0 0 true, .outletSegmentFrame 0 ⟨none, true⟩ (2 ^ 32) 0 0 true,
  .outletSegmentFrame 0 ⟨none, true⟩ 0 (2 ^ 32) 0 true, .outletSegmentFrame 0 ⟨none, true⟩ 0 0 (2 ^ 64) true, .ptpSendInterval 3,
  .sessionEngineIdle 4]

/-- Every command with operands in range is well-formed. -/
theorem test_inRange_accepted : (inRange0 ++ inRange1 ++ inRange2 ++ inRange3 ++ inRange4 ++ inRange5).all Instr.wellFormed = true := by decide +kernel

/-- A command with one operand just out of its range is refused: one term for each check. -/
theorem test_outOfRange_refused : (outOfRange0 ++ outOfRange1 ++ outOfRange2 ++ outOfRange3 ++ outOfRange4 ++ outOfRange5 ++ outOfRange6).all (fun c => !c.wellFormed) = true := by decide +kernel

theorem test_request_refused : ([{ okRequest with ring := 32 }, { okRequest with seq := 2 ^ 32 }, { okRequest with hostTag := 2 ^ 64 }, { okRequest with command := 2 ^ 16 }, { okRequest with path := 2 ^ 28 }, { okRequest with path := 9 }, { okRequest with lane := 256 }, { okRequest with body := List.replicate 225 0 }, { okRequest with body := [256] }] :
    List Request).all (fun x => !(Instr.nop x).wellFormed) = true := by decide +kernel

theorem test_datagram_refused : ([{ okDatagram with version := 256 }, { okDatagram with kind := 256 }, { okDatagram with keySlot := 2 ^ 16 }, { okDatagram with counter := 2 ^ 64 }, { okDatagram with ring := 256 }, { okDatagram with count := 256 }, { okDatagram with ackSeq := 2 ^ 32 }, { okDatagram with entries := List.replicate 5 okRequest }, { okDatagram with entries := [{ okRequest with ring := 32 }] },
    { okDatagram with port := 2 }, { okDatagram with udpPort := 2 ^ 16 }, { okDatagram with source := 2 ^ 144 }] :
    List Datagram).all (fun x => !(Instr.datagramReceive .A x).wellFormed) = true := by decide +kernel

theorem test_uplinkHeader_refused : ([{ okHeader with lap := 2 ^ 48 }, { okHeader with hubFlags := 256 }, { okHeader with dlState := 256 }, { okHeader with obeyed := 256 }, { okHeader with portA := 256 }, { okHeader with portB := 256 }] :
    List UplinkHeader).all (fun x => !(Instr.uplinkHeaderReceive .A 0 x).wellFormed) = true := by decide +kernel

theorem test_statusBlock_refused : ([{ okStatus with tripped := 2 ^ 16 }, { okStatus with armed := 2 ^ 16 }, { okStatus with overlap := 2 ^ 16 }, { okStatus with bothOnRej := 2 ^ 16 }, { okStatus with hsTimeout := 2 ^ 16 }, { okStatus with cmdLoss := 2 ^ 16 }, { okStatus with refreshed := 2 ^ 16 }, { okStatus with cfgAck := 2 ^ 16 }, { okStatus with gate := 2 ^ 64 }, { okStatus with contactor := 2 ^ 64 }] :
    List StatusBlock).all (fun x => !(Instr.statusBlockReceive .A 0 x).wellFormed) = true := by decide +kernel

theorem test_fastBlock_refused : ([{ okFast with i := List.replicate 17 0 }, { okFast with vOut := List.replicate 17 0 }, { okFast with vDc := List.replicate 17 0 }, { okFast with lapLo := 256 }, { okFast with measFlags := 256 }] :
    List FastBlock).all (fun x => !(Instr.fastBlockReceive .A 0 x).wellFormed) = true := by decide +kernel

theorem test_meterSample_refused : ([{ (⟨[], [], 0⟩ : MeterSample) with ac := [(8, [])] }, { (⟨[], [], 0⟩ : MeterSample) with ac := [(0, List.replicate 7 ⟨0, false⟩)] }, { (⟨[], [], 0⟩ : MeterSample) with dc := [(32, [])] }, { (⟨[], [], 0⟩ : MeterSample) with dc := [(0, List.replicate 3 ⟨0, false⟩)] }, { (⟨[], [], 0⟩ : MeterSample) with otherOfs := 257 }] :
    List MeterSample).all (fun x => !(Instr.meteringSample .A x).wellFormed) = true := by decide +kernel

theorem test_safetyInputs_refused : ([{ okInputs with imdOpen := [32] }, { okInputs with imdWire := [32] }, { okInputs with proxOut := [32] }, { okInputs with latchOut := [32] }, { okInputs with pins := [(32, 0, 0)] }] :
    List SafetyInputs).all (fun x => !(Instr.safetyCycle .A okInputs x).wellFormed) = true := by decide +kernel

theorem test_telegram_refused : ([{ okTelegram with teamId := 2 ^ 16 }, { okTelegram with sender := 256 }, { okTelegram with version := 256 }, { okTelegram with seq := 2 ^ 32 }, { okTelegram with sendTime := 2 ^ 63 }, { okTelegram with demand := 2 ^ 32 }, { okTelegram with resetCount := 2 ^ 16 }] :
    List Telegram).all (fun x => !(Instr.safetyTelegramReceive 1 x).wellFormed) = true := by decide +kernel

theorem test_teamFrame_refused : ([{ okTeamFrame with ttl := 256 }, { okTeamFrame with dir := 2 }, { okTeamFrame with teamId := 2 ^ 16 }, { okTeamFrame with sender := 256 }, { okTeamFrame with dest := 256 }, { okTeamFrame with net := 3 }, { okTeamFrame with seq := 2 ^ 64 }, { okTeamFrame with teamEpoch := 2 ^ 63 }, { okTeamFrame with keyGen := 2 ^ 16 }] :
    List TeamFrame).all (fun x => !(Instr.teamFrameReceive x).wellFormed) = true := by decide +kernel

theorem test_teamPayload_refused : ([.beacon (2 ^ 64) 0 0 0 0 0, .beacon 0 (2 ^ 64) 0 0 0 0, .beacon 0 0 (2 ^ 16) 0 0 0, .beacon 0 0 0 (2 ^ 8) 0 0,
    .beacon 0 0 0 0 (2 ^ 8) 0, .beacon 0 0 0 0 0 (2 ^ 16), .telegram { okTelegram with sender := 256 }, .report (2 ^ 63) 0 0, .report 0 (2 ^ 63) 0,
    .report 0 0 (2 ^ 63), .allocation (2 ^ 63) 0, .allocation 0 (2 ^ 63), .requests [{ okRequest with ring := 32 }],
    .responses [⟨2 ^ 32, 0, 0, 0, true, 0, []⟩], .responses [⟨0, 2 ^ 64, 0, 0, true, 0, []⟩], .responses [⟨0, 0, 2 ^ 16, 0, true, 0, []⟩],
    .responses [⟨0, 0, 0, 2 ^ 16, true, 0, []⟩], .responses [⟨0, 0, 0, 0, true, 2 ^ 64, []⟩], .arm (2 ^ 32) 0 0 0 0, .arm 0 (2 ^ 63) 0 0 0,
    .arm 0 0 (2 ^ 32) 0 0, .arm 0 0 0 (2 ^ 32) 0, .arm 0 0 0 0 (2 ^ 32), .trigger (2 ^ 32) 0 0, .trigger 0 (2 ^ 32) 0, .trigger 0 0 (2 ^ 63),
    .change (2 ^ 8) 0 0, .change 0 (2 ^ 16) 0, .change 0 0 (2 ^ 63), .ack (2 ^ 63), .bulk [⟨2 ^ 32, 0, 0, 0, true, 0, []⟩]] :
    List TeamPayload).all (fun x => !(Instr.teamFrameReceive { okTeamFrame with payload := x }).wellFormed) = true := by decide +kernel

theorem test_canFrame_refused : ([{ okCan with id := 2 ^ 11 }, { okCan with ide := true, id := 2 ^ 29 }, { okCan with data := [256] }, { okCan with data := List.replicate 9 0 }, { okCan with fdf := true, data := List.replicate 13 0 }, { okCan with remote := true, data := [0] }] :
    List CanFrame).all (fun x => !(Instr.canFrameReceive 0 ⟨x, ⟨none, false⟩⟩).wellFormed) = true := by decide +kernel

theorem test_mastResponse_refused : ([{ okMast with header := [] }, { okMast with header := [0, 1, 256, 0, 0, 0, 0, 4] }, { okMast with payload := [0, 0, 0] }, { okMast with payload := [0, 0, 0, 256] },
    { okMast with header := [0, 1, 0x20, 0, 0, 0, 0, 49], payload := List.replicate 49 0 }] :
    List MastResponse).all (fun x => !(Instr.mastResponseReceive 0 x).wellFormed) = true := by decide +kernel

theorem test_housekeeping_refused : ([{ okHouse with sensors := [] }, { okHouse with fanCmd := [] }, { okHouse with fanRpm := [] }] :
    List Housekeeping).all (fun x => !(Instr.housekeepingRound .A x).wellFormed) = true := by decide +kernel

theorem test_ptpMessage_refused : ([.announce 256 0 0, .announce 0 256 0, .announce 0 0 (2 ^ 128), .sync 256 0 0, .sync 0 (2 ^ 128) 0,
    .sync 0 0 (2 ^ 63), .pdelay (2 ^ 63)] : List PtpMessage).all (fun x => !(Instr.ptpMessage 0 x).wellFormed) = true := by
  decide +kernel

/-! ### States for the tests -/

/-- A lane at lap `n` with its laps running and its domains powered, in `st` of R356. -/
def runLane (i : LaneId) (st : LaneState) (n : Nat) : Lane :=
  { Lane.reset i with
    lap := n
    link := { state := st, booted := true, want := true, grant := decide (st = .holder), granted := true, liveLaps := [n] }
    pacer := { locked := true, laps := true }
    power := { fastOn := true, power := 1 } }

/-- Lane A holds the baton, lane B stands by, both at lap `n`; `f` alters each. -/
def W (n : Nat) (f : Lane → Lane := id) : State :=
  { State.reset with
    a := f (runLane .A .holder n), b := f (runLane .B .standby n), arbiter := { grant := some .A, baton := 1, lap := n } }

/-- Points, given as addresses with values, set in the committed configuration. -/
def withCfg (es : List (Nat × Int)) (l : Lane) : Lane :=
  { l with cfg := es.foldl (fun m e => UMap.put pointDefault m e.1 e.2) l.cfg }

/-- The same for status points. -/
def withPts (es : List (Nat × Int)) (l : Lane) : Lane := es.foldl (fun l e => l.setp e.1 e.2) l

/-- Phase 0 bound to pack 0, pack 0 to outlet 0, hub 0 wired to outlet 0, its selector confirmed, its link `READY`. -/
def plant (l : Lane) : Lane :=
  ((withCfg [(Hub.hubEnable 0, 1), (Hub.busOutlet 0 0, 0), (Ph.phaseEnable 0, 1), (Ph.pack 0, 0), (Pk.outlet 0, 0),
    (Pk.minPhases 0, 1)] l).setHub 0 { contactor := 1, statusOk := true }) |>.setp (Hub.linkState 0) lkReady
    |>.setp (Hub.phasesFitted 0) 1 |>.setp (Hub.cfgAck 0) 1

/-! ### Rules' own numbers -/

/-- R288: the display rolls over from 9,999,999,999 to 0. -/
theorem test_display_rolls_over : displayRegister (9999999999 * 1000000) = 9999999999 ∧ displayRegister (10000000000 * 1000000) = 0 := by
  decide +kernel

/-- R150: the number of a hub record skips values whose bits 15..0 are 0. -/
theorem test_cfgGen_skips : nextCfgGen 0xFFFF = 0x10001 := by decide +kernel

/-- R353: with both lanes qualified and WANT raised in the same lap, lane A is granted, with the next number. -/
theorem test_grant_tie : (({ W 1000 with arbiter := { baton := 7, lap := 1000 } } : State).grantNext 1000) = { grant := some .A, baton := 8, lap := 1000 } := by
  decide +kernel

/-- R355: the baton number is of 32 bits; the number after 0xFFFF_FFFF is 0, and it is later. -/
theorem test_baton_wraps : batonLater 0 0xFFFFFFFF = true ∧ batonLater 0xFFFFFFFF 0 = false := by decide +kernel

/-- R83: NOP echoes its body; the reply is the newest of the ring. -/
theorem test_nop_echo : (match exec (.nop { okRequest with body := [0x55] }) (W 1000) with
    | .next t => decide (((t.lane .A).ring 0).history.head? = some ⟨1, 1, 0, (Reply.ok [(1, 0x55)]).entries okRequest⟩)
    | _ => false) = true := by
  decide +kernel

/-- The block idles on an empty queue (assumption 30). -/
theorem test_idle : step State.reset = .next State.reset := rfl

/-! ### Witnesses of the statements' hypotheses -/

/-- Every hypothesis of `Obligations.LinkTraining` is met, clause by clause. -/
theorem hyps_LinkTraining :
    (∃ s : State, ∃ i : LaneId, ∃ h : Nat, HubServed i h s ∧ linkOf s i h = lkDark)
    ∧ (∃ s : State, ∃ i : LaneId, ∃ h : Nat, HubServed i h s ∧ linkOf s i h = lkAlign)
    ∧ (∃ s : State, ∃ i : LaneId, ∃ h : Nat, ∃ d : Nat, ∃ n : Nat, HubServed i h s ∧ linkOf s i h = lkRange ∧ n = (if (s.lane i.other).linksRun = true ∧ linkOf s i.other h = lkReady then 1 else 2) ∧ d ≤ 650000 * n)
    ∧ (∃ s : State, ∃ i : LaneId, ∃ h : Nat, ∃ d : Nat, ∃ n : Nat, HubServed i h s ∧ linkOf s i h = lkRange ∧ n = (if (s.lane i.other).linksRun = true ∧ linkOf s i.other h = lkReady then 1 else 2) ∧ 650000 * n < d)
    ∧ (∃ s : State, ∃ i : LaneId, ∃ h : Nat, HubServed i h s ∧ linkOf s i h = lkConfig)
    ∧ (∃ s : State, ∃ i : LaneId, ∃ h : Nat, HubServed i h s ∧ linkOf s i h = lkReady)
    ∧ (∃ s : State, ∃ i : LaneId, ∃ h : Nat, ∃ st, ∃ limit, HubServed i h s ∧ (st, limit) ∈ [(lkAlign, 20), (lkRange, 40), (lkConfig, 400)] ∧ linkOf s i h = st ∧ ((s.lane i).hub h).enteredLap + limit < (s.lane i).lap)
    ∧ (∃ s : State, ∃ i : LaneId, ∃ h : Nat, HubServed i h s ∧ linkOf s i h = lkFault ∧ ((s.lane i).hub h).enteredLap + 20000 ≤ (s.lane i).lap) :=
  ⟨⟨(W 1000 (fun (l : Lane) => l |> withPts [(Hub.linkState 31, lkDark)])), .B, 31, by decide +kernel⟩,
    ⟨(W 1000 (fun (l : Lane) => l |> withPts [(Hub.linkState 31, lkAlign)])), .B, 31, by decide +kernel⟩,
    ⟨{ W 1000 with b := (W 1000 (withPts [(Hub.linkState 31, lkRange)])).b, a := (W 1000 (withPts [(Hub.linkState 31, lkReady)])).a }, .B, 31, 650000, 1, by decide +kernel⟩,
    ⟨(W 1000 (fun (l : Lane) => l |> withPts [(Hub.linkState 31, lkRange)])), .B, 31, 1300001, 2, by decide +kernel⟩,
    ⟨(W 1000 (fun (l : Lane) => l |> withPts [(Hub.linkState 31, lkConfig)])), .B, 31, by decide +kernel⟩,
    ⟨(W 1000 (fun (l : Lane) => l |> withPts [(Hub.linkState 31, lkReady)])), .B, 31, by decide +kernel⟩,
    ⟨(W 21 (fun (l : Lane) => l |> withPts [(Hub.linkState 31, lkAlign)])), .B, 31, lkAlign, 20, by decide +kernel⟩,
    ⟨(W 20000 (fun (l : Lane) => l |> withPts [(Hub.linkState 31, lkFault)])), .B, 31, by decide +kernel⟩⟩

/-- Every hypothesis of `Obligations.LinkFrame` is met, clause by clause. -/
theorem hyps_LinkFrame :
    (∃ (s t : State) (i : LaneId) (h d : Nat) (c : Instr), c ∈ [.signalPresent i h, .linkAlignComplete i h, .rangeComplete i h d, .configComplete i h, .lossOfSignal i h,
      .linkAlignLost i h, .linkTrainingTimeout i h, .linkFaultRetry i h] ∧ exec c s = .next t)
    ∧ (∃ (s t : State) (i : LaneId) (h d : Nat) (c : Instr) (k : Nat), c ∈ [.signalPresent i h, .linkAlignComplete i h, .rangeComplete i h d, .configComplete i h, .lossOfSignal i h,
      .linkAlignLost i h, .linkTrainingTimeout i h, .linkFaultRetry i h] ∧ exec c s = .next t ∧ k ≠ h)
    ∧ (∃ (s t : State) (i : LaneId) (h d : Nat) (c : Instr) (a : Nat), c ∈ [.signalPresent i h, .linkAlignComplete i h, .rangeComplete i h d, .configComplete i h, .lossOfSignal i h,
      .linkAlignLost i h, .linkTrainingTimeout i h, .linkFaultRetry i h] ∧ exec c s = .next t
      ∧ a ∉ [Hub.linkState h, Hub.linkFault h, Hub.retrains h, Hub.delayPs h])
    ∧ (∃ (s t : State) (i : LaneId) (h d : Nat) (c : Instr), c ∈ [.signalPresent i h, .linkAlignComplete i h, .rangeComplete i h d, .configComplete i h, .lossOfSignal i h,
      .linkAlignLost i h, .linkTrainingTimeout i h, .linkFaultRetry i h] ∧ exec c s = .next t
      ∧ (linkOf s i h = lkOff ∨ (s.lane i).linksRun = false ∨ s.chassis.variant.ports ≤ h)) :=
  ⟨⟨W 1000, _, .B, 31, 0, .linkFaultRetry .B 31, by decide, rfl⟩,
    ⟨W 1000, _, .B, 31, 0, .linkFaultRetry .B 31, 30, by decide, rfl, by decide⟩,
    ⟨W 1000, _, .B, 31, 0, .linkFaultRetry .B 31, Hub.linkState 30, by decide, rfl, by decide⟩,
    ⟨W 1000, _, .B, 31, 0, .linkFaultRetry .B 31, by decide, rfl, Or.inl (by decide +kernel)⟩⟩

/-- Every hypothesis of `Obligations.UplinkHeaderRow` is met, clause by clause. -/
theorem hyps_UplinkHeaderRow :
    (∃ s : State, ∃ i : LaneId, ∃ h : Nat, ∃ u : UplinkHeader, HubServed i h s ∧ linkOf s i h = lkReady ∧ u.crcOk = true ∧ (u.portA = 0xFF ∨ u.portA = h) ∧ (u.portB = 0xFF ∨ u.portB = h) ∧ bitsAt u.obeyed 1 0 ≠ 0)
    ∧ (∃ s : State, ∃ i : LaneId, ∃ h : Nat, ∃ u : UplinkHeader, HubServed i h s ∧ linkOf s i h = lkReady ∧ u.crcOk = true ∧ (u.portA ≠ 0xFF ∧ u.portA ≠ h ∨ u.portB ≠ 0xFF ∧ u.portB ≠ h))
    ∧ (∃ s : State, ∃ i : LaneId, ∃ h : Nat, ∃ u : UplinkHeader, HubServed i h s ∧ linkOf s i h = lkReady ∧ u.crcOk = false)
    ∧ (∃ s : State, ∃ i : LaneId, ∃ h : Nat, ∃ u : UplinkHeader, HubServed i h s ∧ linkOf s i h = lkReady ∧ u.alignOk = true)
    ∧ (∃ s : State, ∃ i : LaneId, ∃ h : Nat, ∃ u : UplinkHeader, HubServed i h s ∧ linkOf s i h = lkReady ∧ u.alignOk = false) :=
  ⟨⟨(W 1000 (fun (l : Lane) => l |> withPts [(Hub.linkState 31, lkReady)])), .B, 31, ⟨true, true, 3, 500, 1000, 1, 0, 1, 31, 0xFF⟩, by decide +kernel⟩,
    ⟨(W 1000 (fun (l : Lane) => l |> withPts [(Hub.linkState 31, lkReady)])), .B, 31, ⟨true, true, 3, 500, 1000, 1, 0, 1, 0, 0xFF⟩, by decide +kernel⟩,
    ⟨(W 1000 (fun (l : Lane) => l |> withPts [(Hub.linkState 31, lkReady)])), .B, 31, ⟨false, true, 3, 500, 1000, 1, 0, 1, 31, 0xFF⟩, by decide +kernel⟩,
    ⟨(W 1000 (fun (l : Lane) => l |> withPts [(Hub.linkState 31, lkReady)])), .B, 31, ⟨true, true, 3, 500, 1000, 1, 0, 1, 31, 0xFF⟩, by decide +kernel⟩,
    ⟨(W 1000 (fun (l : Lane) => l |> withPts [(Hub.linkState 31, lkReady)])), .B, 31, ⟨true, false, 3, 500, 1000, 1, 0, 1, 31, 0xFF⟩, by decide +kernel⟩⟩

/-- Every hypothesis of `Obligations.StatusBlockRow` is met, clause by clause. -/
theorem hyps_StatusBlockRow :
    (∃ s : State, ∃ i : LaneId, ∃ h : Nat, ∃ b : StatusBlock, HubServed i h s ∧ linkOf s i h ≠ lkOff ∧ b.crcOk = true ∧ b.onTime = true ∧ b.codeErrors = 0)
    ∧ (∃ s : State, ∃ i : LaneId, ∃ h : Nat, ∃ b : StatusBlock, HubServed i h s ∧ linkOf s i h ≠ lkOff ∧ b.crcOk = false) :=
  ⟨⟨(W 1000 (fun (l : Lane) => l |> withPts [(Hub.linkState 31, lkReady)])), .B, 31, ⟨true, true, 0, 1, 2, 3, 0, 0, 0, 1, 0, 5, 7, 0⟩, by decide +kernel⟩,
    ⟨(W 1000 (fun (l : Lane) => l |> withPts [(Hub.linkState 31, lkReady)])), .B, 31, ⟨false, true, 0, 1, 2, 3, 0, 0, 0, 1, 0, 5, 7, 0⟩, by decide +kernel⟩⟩

/-- Every hypothesis of `Obligations.MeasurementBlocks` is met, clause by clause. -/
theorem hyps_MeasurementBlocks :
    (∃ s : State, ∃ i : LaneId, ∃ h : Nat, ∃ f : FastBlock, HubServed i h s ∧ linkOf s i h ≠ lkOff ∧ f.crcOk = true ∧ f.onTime = true ∧ f.codeErrors = 0 ∧ f.lapLo = (s.lane i).lap % 256)
    ∧ (∃ s : State, ∃ i : LaneId, ∃ h : Nat, ∃ f : FastBlock, HubServed i h s ∧ linkOf s i h ≠ lkOff ∧ (f.onTime = false ∨ f.lapLo ≠ (s.lane i).lap % 256))
    ∧ (∃ s : State, ∃ i : LaneId, ∃ h : Nat, HubServed i h s ∧ linkOf s i h ≠ lkOff)
    ∧ (∃ s : State, ∃ i : LaneId, ∃ h : Nat, HubServed i h s ∧ linkOf s i h ≠ lkOff ∧ 200 ≤ ((s.lane i).hub h).thermMiss)
    ∧ (∃ s : State, ∃ i : LaneId, ∃ h : Nat, HubServed i h s ∧ (2 ≤ ((s.lane i).hub h).missRun ∨ (1 ≤ ((s.lane i).hub h).missRun ∧ ((s.lane i).hub h).complete = false)) ∧ (s.lane i).p (Hub.blind h) = 0)
    ∧ (∃ s : State, ∃ i : LaneId, ∃ h : Nat, HubServed i h s ∧ (s.lane i).p (Hub.blind h) = 1 ∧ 64 ≤ ((s.lane i).hub h).goodRun)
    ∧ (∃ s : State, ∃ i : LaneId, ∃ h : Nat, HubServed i h s ∧ s.holder ≠ some i.other)
    ∧ (∃ s : State, ∃ i : LaneId, ∃ h : Nat, HubServed i h s ∧ s.holder = some i.other) :=
  ⟨⟨(W 511 (fun (l : Lane) => l |> withPts [(Hub.linkState 31, lkReady)])), .B, 31, ⟨true, true, 0, [1, -2], [3], [4], 255, 0⟩, by decide +kernel⟩,
    ⟨(W 512 (fun (l : Lane) => l |> withPts [(Hub.linkState 31, lkReady)])), .B, 31, ⟨true, true, 0, [1, -2], [3], [4], 1, 0⟩, by decide +kernel⟩,
    ⟨(W 1000 (fun (l : Lane) => l |> withPts [(Hub.linkState 31, lkReady)])), .B, 31, by decide +kernel⟩,
    ⟨(W 1000 (fun (l : Lane) => l |> withPts [(Hub.linkState 31, lkReady)] |>.setHub 31 { thermMiss := 200 })), .B, 31, by decide +kernel⟩,
    ⟨(W 1000 (fun (l : Lane) => l |> plant |> withPts [(Ph.memberState 0, msActive)] |>.setHub 0 { missRun := 1 })), .B, 0, by decide +kernel⟩,
    ⟨(W 1000 (fun (l : Lane) => l |> plant |> withPts [(Hub.blind 0, 1)] |>.setHub 0 { goodRun := 64 })), .B, 0, by decide +kernel⟩,
    ⟨(W 1000 (fun (l : Lane) => l |> withPts [(Hub.linkState 31, lkReady)])), .A, 31, by decide +kernel⟩,
    ⟨(W 1000 (fun (l : Lane) => l |> withPts [(Hub.linkState 31, lkReady)])), .B, 31, by decide +kernel⟩⟩

/-- Every hypothesis of `Obligations.PhaseMoves` is met, clause by clause. -/
theorem hyps_PhaseMoves :
    (∃ s : State, ∃ i : LaneId, ∃ p : Nat, p < s.chassis.variant.phases ∧ (s.lane i).active = true ∧ (s.lane i).p (Ph.memberState p) = msJoining ∧ (s.lane i).p (Ph.weight p) = 65536)
    ∧ (∃ s : State, ∃ i : LaneId, ∃ p : Nat, p < s.chassis.variant.phases ∧ (s.lane i).active = true ∧ (s.lane i).p (Ph.memberState p) = msLeaving ∧ (s.lane i).p (Ph.weight p) = 0)
    ∧ (∃ s : State, ∃ i : LaneId, ∃ p : Nat, p < s.chassis.variant.phases ∧ (s.lane i).active = true ∧ (s.lane i).p (Ph.memberState p) = msParked ∧ (s.lane i).joinReady p = true ∧ ((s.lane i).phase p).prep = none ∧ earlyDuty (s.lane i).cfg p = true)
    ∧ (∃ s : State, ∃ i : LaneId, ∃ p : Nat, p < s.chassis.variant.phases ∧ (s.lane i).active = true ∧ (s.lane i).p (Ph.memberState p) = msParked ∧ (s.lane i).joinReady p = true ∧ ((s.lane i).phase p).prep = none ∧ earlyDuty (s.lane i).cfg p = false)
    ∧ (∃ s : State, ∃ i : LaneId, ∃ p : Nat, p < s.chassis.variant.phases ∧ (s.lane i).active = true ∧ (s.lane i).p (Ph.memberState p) = msLost ∧ (s.lane i).rearmMet p = true ∧ (s.lane i).c (Ph.phaseEnable p) = 1)
    ∧ (∃ s : State, ∃ i : LaneId, ∃ p : Nat, p < s.chassis.variant.phases ∧ (s.lane i).active = true ∧ (s.lane i).p (Ph.memberState p) = msLost ∧ (s.lane i).rearmMet p = true ∧ (s.lane i).c (Ph.phaseEnable p) ≠ 1)
    ∧ (∃ s : State, ∃ i : LaneId, ∃ p : Nat, p < s.chassis.variant.phases ∧ (s.lane i).active = true)
    ∧ (∃ s : State, ∃ i : LaneId, ∃ p : Nat, ∃ v, p < s.chassis.variant.phases ∧ (s.lane i).active = true ∧ (s.lane i).c (Hub.testMode (p / 16)) = 1 ∧ bitsAt v 1 0 ≠ 3 ∧ 1 ≤ bitsAt v 15 8 ∧ bitsAt v 15 8 ≤ 200)
    ∧ (∃ s : State, ∃ i : LaneId, ∃ p : Nat, ∃ v, p < s.chassis.variant.phases ∧ (s.lane i).active = true ∧ (s.lane i).c (Hub.testMode (p / 16)) ≠ 1 ∧ bitsAt v 1 0 ≠ 3)
    ∧ (∃ s : State, ∃ i : LaneId, ∃ p : Nat, ∃ v, p < s.chassis.variant.phases ∧ (s.lane i).active = true ∧ bitsAt v 1 0 = 3) :=
  ⟨⟨(W 1000 (fun (l : Lane) => l |> plant |> withPts [(Ph.memberState 0, msJoining)] |> withPts [(Ph.weight 0, 65536)])), .B, 0, by decide +kernel⟩,
    ⟨(W 1000 (fun (l : Lane) => l |> plant |> withPts [(Ph.memberState 0, msLeaving)] |> withPts [(Ph.weight 0, 0)])), .B, 0, by decide +kernel⟩,
    ⟨(W 1000 (fun (l : Lane) => l |> plant |> withPts [(Ph.memberState 0, msParked)] |> withPts [(Pk.packState 0, pkRun)] |>.setPhase 0 { armZero := 5000000 })), .B, 0, by decide +kernel⟩,
    ⟨(W 1000 (fun (l : Lane) => l |> plant |> withPts [(Ph.memberState 0, msParked)] |> withPts [(Pk.packState 0, pkRun)] |>.setPhase 0 { armZero := 5000000 } |> withCfg [(Slot.entryHi 1000, 0x80000000), (Slot.entryLo 1000, 0x10000)])), .B, 0, by decide +kernel⟩,
    ⟨(W 1000 (fun (l : Lane) => l |> plant |> withPts [(Ph.memberState 0, msLost)] |> withPts [(Pk.packState 0, pkRun)] |>.setPhase 0 { armZero := 5000000 })), .B, 0, by decide +kernel⟩,
    ⟨(W 1000 (fun (l : Lane) => l |> plant |> withPts [(Ph.memberState 0, msLost)] |> withPts [(Pk.packState 0, pkRun)] |>.setPhase 0 { armZero := 5000000 } |> withCfg [(Ph.phaseEnable 0, 0)])), .B, 0, by decide +kernel⟩,
    ⟨(W 1000 (fun (l : Lane) => l |> plant |> withPts [(Ph.memberState 0, msParked)])), .B, 0, by decide +kernel⟩,
    ⟨(W 1000 (fun (l : Lane) => l |> plant |> withCfg [(Hub.testMode 0, 1)])), .B, 0, 0xC802, by decide +kernel⟩,
    ⟨(W 1000 (fun (l : Lane) => l |> plant)), .B, 0, 0xC802, by decide +kernel⟩,
    ⟨(W 1000 (fun (l : Lane) => l |> plant)), .B, 0, 3, by decide +kernel⟩⟩

/-- Every hypothesis of `Obligations.PackMoves` is met, clause by clause. -/
theorem hyps_PackMoves :
    (∃ s : State, ∃ i : LaneId, ∃ k : Nat, k < s.chassis.variant.packs ∧ (s.lane i).active = true ∧ (s.lane i).p (Pk.packState k) = pkClosing ∧ ((s.lane i).startPhases k).all (fun p => (s.lane i).selectorConfirmed p && !((s.lane i).phase p).frozen) = true ∧ (s.lane i).fewest k ≤ (((s.lane i).startPhases k).filter (s.lane i).startAllowed).length)
    ∧ (∃ s : State, ∃ i : LaneId, ∃ k : Nat, k < s.chassis.variant.packs ∧ (s.lane i).active = true ∧ (s.lane i).p (Pk.packState k) = pkClosing ∧ ((s.lane i).startPhases k).all (fun p => (s.lane i).selectorConfirmed p && !((s.lane i).phase p).frozen) = true ∧ (((s.lane i).startPhases k).filter (s.lane i).startAllowed).length < (s.lane i).fewest k)
    ∧ (∃ s : State, ∃ i : LaneId, ∃ k : Nat, k < s.chassis.variant.packs ∧ (s.lane i).active = true ∧ (s.lane i).p (Pk.packState k) = pkClosing ∧ ((s.lane i).pack k).reqLap + (s.lane i).cn (Pk.matrixTimeoutMs k) * 200 ≤ (s.lane i).lap ∧ (s.lane i).fewest k ≤ (((s.lane i).startPhases k).filter (fun p => (s.lane i).selectorConfirmed p && (s.lane i).startAllowed p)).length)
    ∧ (∃ s : State, ∃ i : LaneId, ∃ k : Nat, k < s.chassis.variant.packs ∧ (s.lane i).active = true ∧ (s.lane i).p (Pk.packState k) = pkStopping ∧ ((s.lane i).p (Pk.target k) = 0 ∧ -onePercent ≤ (s.lane i).p (Pk.packI k) ∧ (s.lane i).p (Pk.packI k) ≤ onePercent ∨ ((s.lane i).pack k).reqLap + (s.lane i).cn (Pk.stopLaps k) + 400 ≤ (s.lane i).lap)) :=
  ⟨⟨(W 1000 (fun (l : Lane) => l |> plant |> withPts [(Pk.packState 0, pkClosing)])), .B, 0, by decide +kernel⟩,
    ⟨(W 1000 (fun (l : Lane) => l |> plant |> withPts [(Pk.packState 0, pkClosing)] |> withCfg [(Pk.minPhases 0, 2)])), .B, 0, by decide +kernel⟩,
    ⟨(W 100000 (fun (l : Lane) => l |> plant |> withPts [(Pk.packState 0, pkClosing)] |> withCfg [(Ph.pack 1, 0), (Ph.phaseEnable 1, 1)])), .B, 0, by decide +kernel⟩,
    ⟨(W 1000 (fun (l : Lane) => l |> plant |> withPts [(Pk.packState 0, pkStopping), (Pk.packI 0, onePercent)])), .B, 0, by decide +kernel⟩⟩

/-- Every hypothesis of `Obligations.AllocationRows` is met, clause by clause. -/
theorem hyps_AllocationRows :
    (∃ s : State, ∃ i : LaneId, (s.lane i).active = true ∧ 8 ≤ (s.lane i).lapIn ∧ (s.lane i).lapIn ≤ 140 ∧ (s.lane i).alloc.doneEpoch ≠ some (s.lane i).epoch)
    ∧ (∃ s : State, ∃ i : LaneId, (s.lane i).active = true ∧ 140 ≤ (s.lane i).lapIn ∧ (s.lane i).alloc.doneEpoch ≠ some (s.lane i).epoch)
    ∧ (∃ s : State, ∃ i : LaneId, (s.lane i).active = true ∧ s.holder = some i.other ∧ (s.lane i).link.state = .standby ∧ (s.lane i).lapIn = 140 ∧ (s.lane i).alloc.doneEpoch = some (s.lane i).epoch ∧ (s.lane i.other).alloc.doneEpoch = some (s.lane i.other).epoch ∧ (s.lane i).allocDigest = (s.lane i.other).allocDigest)
    ∧ (∃ s : State, ∃ i : LaneId, (s.lane i).active = true ∧ s.holder = some i.other ∧ (s.lane i).link.state = .standby ∧ (s.lane i).lapIn = 140 ∧ (s.lane i).alloc.doneEpoch = some (s.lane i).epoch ∧ (s.lane i.other).alloc.doneEpoch = some (s.lane i.other).epoch ∧ (s.lane i).allocDigest ≠ (s.lane i.other).allocDigest ∧ (s.lane i).link.allocRun = 0 ∧ (s.lane i).link.linkRound = false ∧ rxDiffers (s.lane i.other) (s.lane i) = false)
    ∧ (∃ s : State, ∃ i : LaneId, (s.lane i).active = true ∧ (s.lane i).lapIn = 150 ∧ (s.lane i).alloc.doneEpoch = some (s.lane i).epoch) :=
  ⟨⟨(W 208), .B, by decide +kernel⟩,
    ⟨(W 340), .B, by decide +kernel⟩,
    ⟨(W 340 (fun (l : Lane) => l |> fun (l : Lane) => { l with alloc := { doneEpoch := some 1 } })), .B, by decide +kernel⟩,
    ⟨{ W 340 (fun l => { l with alloc := { doneEpoch := some 1 } }) with b := (W 340 (fun l => { l with alloc := { doneEpoch := some 1, packAmps := [(3, 5)] } })).b }, .B, by decide +kernel⟩,
    ⟨(W 350 (fun (l : Lane) => l |> fun (l : Lane) => { l with alloc := { doneEpoch := some 1, packTargets := [(63, 5)] } })), .B, by decide +kernel⟩⟩

/-- Every hypothesis of `Obligations.PoolInputs` is met, clause by clause. -/
theorem hyps_PoolInputs :
    (∃ s : State, ∃ i : LaneId, ∃ x, (s.lane i).active = true ∧ x < 256)
    ∧ (∃ s : State, ∃ i : LaneId, ∃ k, ∃ m, ∃ x, ∃ round, (s.lane i).active = true ∧ s.chassis.variant.team = true ∧ memberNode (s.lane i).cfg m = some x ∧ lvlUsed (s.lane i).cfg k = true ∧ lvlMember (s.lane i).cfg k = 0 ∧ RoundOpen (s.lane i) k round ∧ (s.lane i).memberState k m = 2)
    ∧ (∃ s : State, ∃ i : LaneId, ∃ k, ∃ m, ∃ x, ∃ round, (s.lane i).active = true ∧ s.chassis.variant.team = true ∧ memberNode (s.lane i).cfg m = some x ∧ lvlUsed (s.lane i).cfg k = true ∧ lvlMember (s.lane i).cfg k = 0 ∧ (¬ RoundOpen (s.lane i) k round ∨ (s.lane i).memberState k m ≠ 2))
    ∧ (∃ s : State, ∃ i : LaneId, ∃ k, ∃ x, ∃ round, (s.lane i).active = true ∧ s.chassis.variant.team = true ∧ x ∈ topNodes (s.lane i).cfg ∧ cfgAt (s.lane i).cfg (Pool.parent x) = 0xFFFFFFFE ∧ lvlUsed (s.lane i).cfg k = true ∧ RoundOpen (s.lane i) k round)
    ∧ (∃ s : State, ∃ i : LaneId, ∃ k, ∃ x, ∃ round, (s.lane i).active = true ∧ s.chassis.variant.team = true ∧ x ∈ topNodes (s.lane i).cfg ∧ cfgAt (s.lane i).cfg (Pool.parent x) = 0xFFFFFFFE ∧ lvlUsed (s.lane i).cfg k = true ∧ ¬ RoundOpen (s.lane i) k round)
    ∧ (∃ s : State, ∃ i : LaneId, ∃ x, (s.lane i).active = true ∧ s.chassis.variant.team = true ∧ (s.lane i).lapIn = 4 ∧ x ∈ usedNodes (s.lane i).cfg ∧ (s.lane i).exchangeNode x = true ∧ ((s.lane i).pool x).arrived = true)
    ∧ (∃ s : State, ∃ i : LaneId, ∃ x, (s.lane i).active = true ∧ s.chassis.variant.team = true ∧ (s.lane i).lapIn = 4 ∧ x ∈ usedNodes (s.lane i).cfg ∧ (s.lane i).exchangeNode x = true ∧ ((s.lane i).pool x).arrived = false) :=
  ⟨⟨(W 1000), .B, 255, by decide +kernel⟩,
    ⟨(W 1150 (fun (l : Lane) => l |> withCfg [(Pool.kind 255, 3), (Pool.memberIndex 255, 7)] |> withCfg [(Team.teamLvl 0, 0x80018000)] |> withPts [(Team.memberStates 0, 32768)])), .B, 0, 7, 255, 5, by decide +kernel⟩,
    ⟨(W 1005 (fun (l : Lane) => l |> withCfg [(Pool.kind 255, 3), (Pool.memberIndex 255, 7)] |> withCfg [(Team.teamLvl 0, 0x80018000)] |> withPts [(Team.memberStates 0, 32768)])), .B, 0, 7, 255, 4, by decide +kernel⟩,
    ⟨(W 1004 (fun (l : Lane) => l |> withCfg [(Pool.kind 3, 1), (Pool.parent 3, 0xFFFFFFFE)] |> withCfg [(Team.teamLvl 0, 0x80018000)])), .B, 0, 3, 4, by decide +kernel⟩,
    ⟨(W 1149 (fun (l : Lane) => l |> withCfg [(Pool.kind 3, 1), (Pool.parent 3, 0xFFFFFFFE)] |> withCfg [(Team.teamLvl 0, 0x80018000)])), .B, 0, 3, 5, by decide +kernel⟩,
    ⟨(W 1004 (fun (l : Lane) => l |> withCfg [(Pool.kind 255, 3), (Pool.memberIndex 255, 7)] |>.setPool 255 { arrived := true, inWant := 9 })), .B, 255, by decide +kernel⟩,
    ⟨(W 1004 (fun (l : Lane) => l |> withCfg [(Pool.kind 255, 3), (Pool.memberIndex 255, 7)])), .B, 255, by decide +kernel⟩⟩

/-- Every hypothesis of `Obligations.Cooling` is met, clause by clause. -/
theorem hyps_Cooling :
    (∃ s : State, ∃ i : LaneId, ∃ o : Nat, ∃ n, ∃ t0, o < s.chassis.variant.outlets ∧ (s.lane i).active = true ∧ n < 7 ∧ (s.lane i).srcEn o n = true ∧ ((s.lane i).sensor o n).lap = some t0 ∧ t0 + (s.lane i).srcTimeout o n * 200 < (s.lane i).lap ∧ ((s.lane i).sensor o n).bad = false)
    ∧ (∃ s : State, ∃ i : LaneId, ∃ o : Nat, ∃ t0, o < s.chassis.variant.outlets ∧ (s.lane i).active = true ∧ ((s.lane i).cool o).goodSince = some t0 ∧ t0 + 200000 ≤ (s.lane i).lap ∧ (s.lane i).flowNow o ≠ none)
    ∧ (∃ s : State, ∃ i : LaneId, ∃ o : Nat, ∃ t0, o < s.chassis.variant.outlets ∧ (s.lane i).active = true ∧ ((s.lane i).cool o).recoverSince = some t0 ∧ (s.lane i).p (Out.coolState o) = csDegraded ∧ t0 + 1000000 ≤ (s.lane i).lap)
    ∧ (∃ s : State, ∃ i : LaneId, ∃ o : Nat, o < s.chassis.variant.outlets ∧ (s.lane i).active = true ∧ (s.lane i).p (Out.coolState o) = csDegraded ∧ 60000 ≤ (s.lane i).p (Out.degradedElapsedMs o))
    ∧ (∃ s : State, ∃ i : LaneId, ∃ o : Nat, ∃ t0, o < s.chassis.variant.outlets ∧ (s.lane i).active = true ∧ ((s.lane i).cool o).goodSince = some t0 ∧ (s.lane i).p (Out.coolState o) = csNormal ∧ t0 + 60000000 ≤ (s.lane i).lap)
    ∧ (∃ s : State, ∃ i : LaneId, ∃ o : Nat, ∃ t0, o < s.chassis.variant.outlets ∧ (s.lane i).active = true ∧ ((s.lane i).cool o).openedLap = some t0 ∧ t0 + (s.lane i).cn (Out.cooldownS o) * 200000 ≤ (s.lane i).lap)
    ∧ (∃ s : State, ∃ i : LaneId, ∃ o : Nat, ∃ f, ∃ r, o < s.chassis.variant.outlets ∧ (s.lane i).active = true ∧ 4 ≤ (s.lane i).lapIn ∧ (s.lane i).lapIn ≤ 8 ∧ (s.lane i).c (Out.coolMode o) = 1 ∧ f = flowFactor ((s.lane i).cool o).flow4 ((s.lane i).c (Out.flowNom o)) ∧ r = modelStep ((s.lane i).cool o).th1 ((s.lane i).cool o).th2 ((s.lane i).meanSquare o) f ((s.lane i).c (Out.k1Mc o)) ((s.lane i).c (Out.k2Mc o)) ((s.lane i).c (Out.tau1Ms o)) ((s.lane i).c (Out.tau2Ms o)) (((s.lane i).cool o).cool4.getD ((s.lane i).coolant o)) ((s.lane i).c (Out.obsTauMs o)) ((s.lane i).cool o).pin4)
    ∧ (∃ s : State, ∃ i : LaneId, ∃ o : Nat, o < s.chassis.variant.outlets ∧ (s.lane i).active = true ∧ 8 ≤ (s.lane i).lapIn ∧ (s.lane i).lapIn ≤ 140 ∧ (s.lane i).c (Out.coolMode o) ≠ 1)
    ∧ (∃ s : State, ∃ i : LaneId, ∃ o : Nat, o < s.chassis.variant.outlets ∧ (s.lane i).active = true ∧ 8 ≤ (s.lane i).lapIn ∧ (s.lane i).lapIn ≤ 140 ∧ (s.lane i).c (Out.coolMode o) = 1 ∧ (s.lane i).forecastDue o = true ∧ (s.lane i).handledForecast o = false)
    ∧ (∃ s : State, ∃ i : LaneId, ∃ o : Nat, o < s.chassis.variant.outlets ∧ (s.lane i).active = true ∧ 140 ≤ (s.lane i).lapIn ∧ (s.lane i).forecastDue o = true ∧ (s.lane i).handledForecast o = false)
    ∧ (∃ s : State, ∃ i : LaneId, ∃ o : Nat, o < s.chassis.variant.outlets ∧ (s.lane i).active = true ∧ (s.lane i).handledForecast o = true) :=
  ⟨⟨(W 2000 (fun (l : Lane) => l |> withCfg [(Out.src 31 6, 0x80000001)] |>.setSensor 31 6 { lap := some 1799, bad := false })), .B, 31, 6, 1799, by decide +kernel⟩,
    ⟨(W 200001 (fun (l : Lane) => l |> withCfg [(Out.src 31 0, 0x80000001)] |>.setCool 31 { goodSince := some 1 } |>.setSensor 31 0 { value := 5, lap := some 200000, bad := false })), .B, 31, 1, by decide +kernel⟩,
    ⟨(W 1000001 (fun (l : Lane) => l |>.setCool 31 { recoverSince := some 1 } |> withPts [(Out.coolState 31, csDegraded)])), .B, 31, 1, by decide +kernel⟩,
    ⟨(W 1000 (fun (l : Lane) => l |> withPts [(Out.coolState 31, csDegraded), (Out.degradedElapsedMs 31, 60000)])), .B, 31, by decide +kernel⟩,
    ⟨(W 60000001 (fun (l : Lane) => l |>.setCool 31 { goodSince := some 1 } |> withPts [(Out.degradedElapsedMs 31, 7)])), .B, 31, 1, by decide +kernel⟩,
    ⟨(W 400000001 (fun (l : Lane) => l |>.setCool 31 { openedLap := some 1 })), .B, 31, 1, by decide +kernel⟩,
    ⟨(W 1004 (fun (l : Lane) => l |> withCfg [(Out.coolMode 31, 1)])), .B, 31, _, _, by decide +kernel, by decide +kernel, by decide +kernel, by decide +kernel, by decide +kernel, rfl, rfl⟩,
    ⟨(W 1140 (fun (l : Lane) => l |> withCfg [(Out.coolMode 31, 0)])), .B, 31, by decide +kernel⟩,
    ⟨(W 1008 (fun (l : Lane) => l |> withCfg [(Out.coolMode 31, 1)])), .B, 31, by decide +kernel⟩,
    ⟨(W 1140 (fun (l : Lane) => l |> withCfg [(Out.coolMode 31, 1)])), .B, 31, by decide +kernel⟩,
    ⟨(W 1140 (fun (l : Lane) => l |>.setCool 31 { fcEpoch := some 5 })), .B, 31, by decide +kernel⟩⟩

/-- Every hypothesis of `Obligations.SessionLink` is met, clause by clause. -/
theorem hyps_SessionLink :
    (∃ s : State, ∃ i : LaneId, ∃ o : Nat, o < s.chassis.variant.outlets ∧ (s.lane i).active = true ∧ ssLink ≤ (s.lane i).ss o ∧ (s.lane i).ss o < ssRampdown)
    ∧ (∃ s : State, ∃ i : LaneId, ∃ o : Nat, ∃ m : Option LaneId, ∃ suites : List Nat, ∃ groups : List Nat, ∃ schemes : List Nat, o < s.chassis.variant.outlets ∧ (s.lane i).active = true ∧ m ≠ some i ∧ (s.lane i).ss o = ssLink ∧ suites.contains 0x1302 = true ∧ groups.contains 0x1E = true ∧ schemes.contains 0x0603 = true ∧ ((s.lane i).askKey (engSession o) ((s.lane i).role Key.roleSecc) 1).2 = true)
    ∧ (∃ s : State, ∃ i : LaneId, ∃ o : Nat, ∃ m : Option LaneId, ∃ suites : List Nat, o < s.chassis.variant.outlets ∧ (s.lane i).active = true ∧ m ≠ some i ∧ (s.lane i).ss o = ssLink ∧ (∀ k ∈ tlsSuites, suites.contains k = false))
    ∧ (∃ s : State, ∃ i : LaneId, ∃ o : Nat, ∃ m : Option LaneId, ∃ offers : List AppProtocol, o < s.chassis.variant.outlets ∧ (s.lane i).active = true ∧ m ≠ some i ∧ InStep s i o ssLink ∧ (⟨20, 1⟩ : AppProtocol) ∈ offers)
    ∧ (∃ s : State, ∃ i : LaneId, ∃ o : Nat, ∃ m : Option LaneId, ∃ offers : List AppProtocol, o < s.chassis.variant.outlets ∧ (s.lane i).active = true ∧ m ≠ some i ∧ InStep s i o ssLink ∧ (⟨20, 1⟩ : AppProtocol) ∉ offers)
    ∧ (∃ s : State, ∃ i : LaneId, ∃ o : Nat, o < s.chassis.variant.outlets ∧ (s.lane i).active = true)
    ∧ (∃ s : State, ∃ i : LaneId, ∃ o : Nat, ∃ t0, o < s.chassis.variant.outlets ∧ (s.lane i).active = true ∧ (s.lane i).ss o = ssLink ∧ ((s.lane i).out o).tls.helloLap = some t0 ∧ ((s.lane i).out o).tls.up = false ∧ t0 + msLaps 5000 ≤ (s.lane i).lap)
    ∧ (∃ s : State, ∃ i : LaneId, ∃ o : Nat, o < s.chassis.variant.outlets ∧ (s.lane i).active = true ∧ s.holder = some i.other ∧ (s.lane i).p (Out.sessionGen o) = (s.lane i.other).p (Out.sessionGen o))
    ∧ (∃ s : State, ∃ i : LaneId, ∃ o : Nat, o < s.chassis.variant.outlets ∧ (s.lane i).active = true ∧ s.holder = some i.other ∧ (s.lane i).p (Out.sessionGen o) ≠ (s.lane i.other).p (Out.sessionGen o)) :=
  ⟨⟨(W 1000 (fun (l : Lane) => l |> withPts [(Out.sessionStep 31, ssLink)])), .B, 31, by decide +kernel⟩,
    ⟨(W 1000 (fun (l : Lane) => l |> withPts [(Out.sessionStep 31, ssLink)] |> withCfg [(Key.roleSecc, 20)] |> withPts [(Key.storeSerialOk, 1)] |> fun (l : Lane) => { l with keys := { l.keys with slots := [(0, factorySlot 0x100100), (20, { state := 1, attr := 0x200010, ver := 1, parentVer := 1 })] } })), .B, 31, some .A, [0x1302], [0x1E], [0x0603], by decide +kernel⟩,
    ⟨(W 1000 (fun (l : Lane) => l |> withPts [(Out.sessionStep 31, ssLink)])), .B, 31, some .A, [0x1399], by decide +kernel⟩,
    ⟨(W 1000 (fun (l : Lane) => l |> withPts [(Out.sessionStep 31, ssLink)])), .B, 31, none, [⟨7, 2⟩, ⟨20, 1⟩], by decide +kernel⟩,
    ⟨(W 1000 (fun (l : Lane) => l |> withPts [(Out.sessionStep 31, ssLink)])), .B, 31, some .A, [⟨20, 2⟩], by decide +kernel⟩,
    ⟨(W 1000 (fun (l : Lane) => l |> withPts [(Out.sessionStep 31, ssLink)] |>.setOut 31 { tls := { up := true } })), .B, 31, by decide +kernel⟩,
    ⟨(W 1000001 (fun (l : Lane) => l |> withPts [(Out.sessionStep 31, ssLink)] |>.setOut 31 { tls := { helloLap := some 1 } })), .B, 31, 1, by decide +kernel⟩,
    ⟨(W 1000 (fun (l : Lane) => l |> withPts [(Out.sessionStep 31, ssLink)] |>.setOut 31 { tls := { randoms := [4, 5] } })), .B, 31, by decide +kernel⟩,
    ⟨{ W 1000 with b := (W 1000 (withPts [(Out.sessionGen 31, 1)])).b }, .B, 31, by decide +kernel⟩⟩

/-- Every hypothesis of `Obligations.SessionParameters` is met, clause by clause. -/
theorem hyps_SessionParameters :
    (∃ s : State, ∃ i : LaneId, ∃ m : Option LaneId, ∃ o : Nat, m ≠ some i ∧ InStep s i o ssLink)
    ∧ (∃ s : State, ∃ i : LaneId, ∃ m : Option LaneId, ∃ o : Nat, m ≠ some i ∧ InStep s i o ssAuth)
    ∧ (∃ s : State, ∃ i : LaneId, ∃ m : Option LaneId, ∃ o : Nat, ∃ mode, m ≠ some i ∧ InStep s i o ssAuth ∧ mode ≠ 1 ∧ bitAt ((s.lane i).scn o (Out.idMode o)) mode = true ∧ ((s.lane i).out o).decision = some true)
    ∧ (∃ s : State, ∃ i : LaneId, ∃ m : Option LaneId, ∃ o : Nat, ∃ mode, m ≠ some i ∧ InStep s i o ssAuth ∧ mode ≠ 1 ∧ bitAt ((s.lane i).scn o (Out.idMode o)) mode = true ∧ ((s.lane i).out o).decision = some false)
    ∧ (∃ s : State, ∃ i : LaneId, ∃ m : Option LaneId, ∃ o : Nat, ∃ mode, m ≠ some i ∧ InStep s i o ssAuth ∧ mode ≠ 1 ∧ bitAt ((s.lane i).scn o (Out.idMode o)) mode = true ∧ ((s.lane i).out o).decision = none)
    ∧ (∃ s : State, ∃ i : LaneId, ∃ m : Option LaneId, ∃ o : Nat, ∃ chainOk, m ≠ some i ∧ InStep s i o ssAuth ∧ bitAt ((s.lane i).scn o (Out.idMode o)) 1 = true ∧ chainOk = true ∧ ((s.lane i).askAnchor o).2 = true)
    ∧ (∃ s : State, ∃ i : LaneId, ∃ m : Option LaneId, ∃ o : Nat, ∃ chainOk, m ≠ some i ∧ InStep s i o ssAuth ∧ bitAt ((s.lane i).scn o (Out.idMode o)) 1 = true ∧ chainOk = false)
    ∧ (∃ s : State, ∃ i : LaneId, ∃ m : Option LaneId, ∃ o : Nat, ∃ mode, m ≠ some i ∧ InStep s i o ssAuth ∧ bitAt ((s.lane i).scn o (Out.idMode o)) mode = false)
    ∧ (∃ s : State, ∃ i : LaneId, ∃ m : Option LaneId, ∃ o : Nat, m ≠ some i ∧ InStep s i o ssParam)
    ∧ (∃ s : State, ∃ i : LaneId, ∃ m : Option LaneId, ∃ o : Nat, ∃ service : Nat, ∃ mode : Nat, ∃ vas : List Nat, m ≠ some i ∧ InStep s i o ssParam ∧ (service ≠ 2 ∨ mode ≠ 1 ∨ vas ≠ []))
    ∧ (∃ s : State, ∃ i : LaneId, ∃ m : Option LaneId, ∃ o : Nat, m ≠ some i ∧ InStep s i o ssCharge) :=
  ⟨⟨(W 1000 (fun (l : Lane) => l |> withPts [(Out.sessionStep 31, ssLink)])), .B, some .A, 31, by decide +kernel⟩,
    ⟨(W 1000 (fun (l : Lane) => l |> withPts [(Out.sessionStep 31, ssAuth)])), .B, some .A, 31, by decide +kernel⟩,
    ⟨(W 1000 (fun (l : Lane) => l |> withPts [(Out.sessionStep 31, ssAuth)] |>.setOut 31 { decision := some true } |> withCfg [(Out.idMode 31, 3)])), .B, some .A, 31, 0, by decide +kernel⟩,
    ⟨(W 1000 (fun (l : Lane) => l |> withPts [(Out.sessionStep 31, ssAuth)] |> withCfg [(Out.idMode 31, 5)] |>.setOut 31 { decision := some false })), .B, some .A, 31, 2, by decide +kernel⟩,
    ⟨(W 1000 (fun (l : Lane) => l |> withPts [(Out.sessionStep 31, ssAuth)] |> withCfg [(Out.idMode 31, 3)])), .B, some .A, 31, 0, by decide +kernel⟩,
    ⟨(W 1000 (fun (l : Lane) => l |> withPts [(Out.sessionStep 31, ssAuth)] |> withCfg [(Out.idMode 31, 2)] |> withCfg [(Key.roleAnchor 0, 30)] |> withPts [(Key.storeSerialOk, 1)] |> fun (l : Lane) => { l with keys := { l.keys with slots := [(0, factorySlot 0x100100), (30, { state := 1, attr := 0x500010, ver := 1, parentVer := 1 })] } })), .B, some .A, 31, true, by decide +kernel⟩,
    ⟨(W 1000 (fun (l : Lane) => l |> withPts [(Out.sessionStep 31, ssAuth)] |> withCfg [(Out.idMode 31, 2)])), .B, some .A, 31, false, by decide +kernel⟩,
    ⟨(W 1000 (fun (l : Lane) => l |> withPts [(Out.sessionStep 31, ssAuth)] |> withCfg [(Out.idMode 31, 1)])), .B, some .A, 31, 1, by decide +kernel⟩,
    ⟨(W 1000 (fun (l : Lane) => l |> withPts [(Out.sessionStep 31, ssParam)])), .B, some .A, 31, by decide +kernel⟩,
    ⟨(W 1000 (fun (l : Lane) => l |> withPts [(Out.sessionStep 31, ssParam)])), .B, some .A, 31, 2, 1, [3], by decide +kernel⟩,
    ⟨(W 1000 (fun (l : Lane) => l |> withPts [(Out.sessionStep 31, ssCharge)])), .B, some .A, 31, by decide +kernel⟩⟩

/-- Every hypothesis of `Obligations.SessionPower` is met, clause by clause. -/
theorem hyps_SessionPower :
    (∃ s : State, ∃ i : LaneId, ∃ m : Option LaneId, ∃ o : Nat, m ≠ some i ∧ (InStep s i o ssParam ∨ InStep s i o ssConnect))
    ∧ (∃ s : State, ∃ i : LaneId, ∃ m : Option LaneId, ∃ o : Nat, m ≠ some i ∧ InStep s i o ssIsolation ∧ ((s.lane i).out o).isoPassed = false)
    ∧ (∃ s : State, ∃ i : LaneId, ∃ m : Option LaneId, ∃ o : Nat, m ≠ some i ∧ InStep s i o ssIsolation ∧ ((s.lane i).out o).isoPassed = true)
    ∧ (∃ s : State, ∃ i : LaneId, ∃ m : Option LaneId, ∃ o : Nat, m ≠ some i ∧ InStep s i o ssPrecharge ∧ ((s.lane i).out o).preReached = true)
    ∧ (∃ s : State, ∃ i : LaneId, ∃ m : Option LaneId, ∃ o : Nat, ∃ kind, m ≠ some i ∧ InStep s i o ssCharge ∧ kind ≠ 0)
    ∧ (∃ s : State, ∃ i : LaneId, ∃ m : Option LaneId, ∃ o : Nat, m ≠ some i ∧ (InStep s i o ssEvClose ∨ InStep s i o ssCharge))
    ∧ (∃ s : State, ∃ i : LaneId, ∃ m : Option LaneId, ∃ o : Nat, m ≠ some i ∧ InStep s i o ssEvOpen)
    ∧ (∃ s : State, ∃ i : LaneId, ∃ m : Option LaneId, ∃ o : Nat, m ≠ some i ∧ InStep s i o ssAuth ∧ (s.lane i).contactorsClosed o = false) :=
  ⟨⟨(W 1000 (fun (l : Lane) => l |> withPts [(Out.sessionStep 31, ssConnect)])), .B, some .A, 31, by decide +kernel⟩,
    ⟨(W 1000 (fun (l : Lane) => l |> withPts [(Out.sessionStep 31, ssIsolation)])), .B, some .A, 31, by decide +kernel⟩,
    ⟨(W 1000 (fun (l : Lane) => l |> withPts [(Out.sessionStep 31, ssIsolation)] |>.setOut 31 { isoPassed := true })), .B, some .A, 31, by decide +kernel⟩,
    ⟨(W 1000 (fun (l : Lane) => l |> withPts [(Out.sessionStep 31, ssPrecharge)] |>.setOut 31 { preReached := true })), .B, some .A, 31, by decide +kernel⟩,
    ⟨(W 1000 (fun (l : Lane) => l |> withPts [(Out.sessionStep 31, ssCharge)])), .B, some .A, 31, 1, by decide +kernel⟩,
    ⟨(W 1000 (fun (l : Lane) => l |> withPts [(Out.sessionStep 31, ssCharge)])), .B, some .A, 31, by decide +kernel⟩,
    ⟨(W 1000 (fun (l : Lane) => l |> withPts [(Out.sessionStep 31, ssEvOpen)])), .B, some .A, 31, by decide +kernel⟩,
    ⟨(W 1000 (fun (l : Lane) => l |> withPts [(Out.sessionStep 31, ssAuth)])), .B, some .A, 31, by decide +kernel⟩⟩

/-- Every hypothesis of `Obligations.SessionSequence` is met, clause by clause. -/
theorem hyps_SessionSequence : ∃ s : State, ∃ i : LaneId, ∃ m : Option LaneId, ∃ o : Nat, ∃ a : Nat, ∃ b : Nat, ∃ c : Instr, m ≠ some i ∧ InStep s i o ssCharge ∧ c ∈ [.supportedAppProtocolReq ⟨m, o⟩ [⟨20, 1⟩], .sessionSetupReq ⟨m, o⟩ a b, .authorizationSetupReq ⟨m, o⟩, .authorizationReq ⟨m, o⟩ a true [], .serviceDiscoveryReq ⟨m, o⟩, .serviceDetailReq ⟨m, o⟩, .serviceSelectionReq ⟨m, o⟩ ⟨a, b, []⟩, .dcChargeParameterDiscoveryReq ⟨m, o⟩ a b a, .dcCableCheckReq ⟨m, o⟩, .dcPreChargeReq ⟨m, o⟩ a, .powerDeliveryReq ⟨m, o⟩ 0, .dcWeldingDetectionReq ⟨m, o⟩, .sessionStopReq ⟨m, o⟩] :=
  ⟨(W 1000 (fun (l : Lane) => l |> withPts [(Out.sessionStep 31, ssCharge)])), .B, some .A, 31, 1, 2, .powerDeliveryReq ⟨some .A, 31⟩ 0, by decide +kernel⟩

/-- Every hypothesis of `Obligations.SessionEvents` is met, clause by clause. -/
theorem hyps_SessionEvents :
    (∃ s : State, ∃ i : LaneId, ∃ o : Nat, o < s.chassis.variant.outlets ∧ (s.lane i).active = true)
    ∧ (∃ s : State, ∃ i : LaneId, ∃ o : Nat, ∃ mv, o < s.chassis.variant.outlets ∧ (s.lane i).active = true ∧ (s.lane i).proxOf o mv ≠ 1 ∧ (s.lane i).p (Out.proxState o) = 1 ∧ (s.lane i).ss o = ssCharge)
    ∧ (∃ s : State, ∃ i : LaneId, ∃ o : Nat, o < s.chassis.variant.outlets ∧ (s.lane i).active = true ∧ (s.lane i).ss o = ssPlugged)
    ∧ (∃ s : State, ∃ i : LaneId, ∃ o : Nat, o < s.chassis.variant.outlets ∧ (s.lane i).active = true ∧ (s.lane i).ss o = ssConnect ∧ (s.lane i).sc o (Out.coolMode o) = 1 ∧ (s.lane i).p (Out.coolReady o) = 0 ∧ ((s.lane i).out o).stepLap + msLaps 10000 ≤ (s.lane i).lap)
    ∧ (∃ s : State, ∃ i : LaneId, ∃ o : Nat, ∃ t0, o < s.chassis.variant.outlets ∧ (s.lane i).active = true ∧ ((s.lane i).out o).isoSince = some t0 ∧ (s.lane i).ss o = ssIsolation ∧ t0 + msLaps ((s.lane i).scn o (Out.isoHoldMs o)) ≤ (s.lane i).lap)
    ∧ (∃ s : State, ∃ i : LaneId, ∃ o : Nat, ∃ t0, o < s.chassis.variant.outlets ∧ (s.lane i).active = true ∧ ((s.lane i).out o).tolSince = some t0 ∧ (s.lane i).ss o = ssPrecharge ∧ t0 + msLaps 20 ≤ (s.lane i).lap)
    ∧ (∃ s : State, ∃ i : LaneId, ∃ o : Nat, o < s.chassis.variant.outlets ∧ (s.lane i).active = true ∧ ((s.lane i).ss o = ssIsolation ∨ (s.lane i).ss o = ssPrecharge) ∧ 4001 ≤ ((s.lane i).out o).shortCount)
    ∧ (∃ s : State, ∃ i : LaneId, ∃ o : Nat, o < s.chassis.variant.outlets ∧ (s.lane i).active = true ∧ (s.lane i).ss o = ssRampdown ∧ (s.lane i).currentLow o = true ∧ ((s.lane i).out o).stopAsked = true)
    ∧ (∃ s : State, ∃ i : LaneId, ∃ o : Nat, o < s.chassis.variant.outlets ∧ (s.lane i).active = true ∧ (s.lane i).ss o = ssRampdown ∧ (s.lane i).currentLow o = true ∧ ((s.lane i).out o).stopAsked = false ∧ ((s.lane i).out o).tls.up = false)
    ∧ (∃ s : State, ∃ i : LaneId, ∃ o : Nat, o < s.chassis.variant.outlets ∧ (s.lane i).active = true ∧ (s.lane i).ss o = ssDischarge ∧ (s.lane i).cableSafe o = true)
    ∧ (∃ s : State, ∃ i : LaneId, ∃ o : Nat, ∃ n, o < s.chassis.variant.outlets ∧ (s.lane i).active = true ∧ ((s.lane i).out o).openFor = some n ∧ (s.lane i).p (Out.proxState o) = 1 ∧ msLaps 1000 ≤ n)
    ∧ (∃ s : State, ∃ i : LaneId, ∃ o : Nat, ∃ n, o < s.chassis.variant.outlets ∧ (s.lane i).active = true ∧ (s.lane i).ss o = ssEvOpen ∧ (s.lane i).stepLimit o = some (some n, 0) ∧ (s.lane i).limitFrom o + n ≤ (s.lane i).lap)
    ∧ (∃ s : State, ∃ i : LaneId, ∃ o : Nat, ∃ n, ∃ code, o < s.chassis.variant.outlets ∧ (s.lane i).active = true ∧ (s.lane i).ss o ∈ [ssPlugged, ssLink, ssConnect, ssIsolation, ssPrecharge, ssEvClose, ssCharge] ∧ (s.lane i).stepLimit o = some (some n, code) ∧ (s.lane i).limitFrom o + n ≤ (s.lane i).lap)
    ∧ (∃ s : State, ∃ i : LaneId, ∃ o : Nat, ∃ n, o < s.chassis.variant.outlets ∧ (s.lane i).active = true ∧ (s.lane i).ss o = ssUnlatch ∧ (s.lane i).stepLimit o = some (some n, 3) ∧ (s.lane i).limitFrom o + n ≤ (s.lane i).lap)
    ∧ (∃ s : State, ∃ i : LaneId, ∃ o : Nat, ∃ e, o < s.chassis.variant.outlets ∧ (s.lane i).active = true ∧ e < 4) :=
  ⟨⟨(W 1000 (fun (l : Lane) => l |> withPts [(Out.sessionStep 31, ssIdle)])), .B, 31, by decide +kernel⟩,
    ⟨(W 1000 (fun (l : Lane) => l |> withPts [(Out.sessionStep 31, ssCharge)] |> withPts [(Out.proxState 31, 1)])), .B, 31, 0, by decide +kernel⟩,
    ⟨(W 1000 (fun (l : Lane) => l |> withPts [(Out.sessionStep 31, ssPlugged)])), .B, 31, by decide +kernel⟩,
    ⟨(W 20000000 (fun (l : Lane) => l |> withPts [(Out.sessionStep 31, ssConnect)] |> withCfg [(Out.coolMode 31, 1)])), .B, 31, by decide +kernel⟩,
    ⟨(W 2000001 (fun (l : Lane) => l |> withPts [(Out.sessionStep 31, ssIsolation)] |>.setOut 31 { isoSince := some 1 })), .B, 31, 1, by decide +kernel⟩,
    ⟨(W 4001 (fun (l : Lane) => l |> withPts [(Out.sessionStep 31, ssPrecharge)] |>.setOut 31 { tolSince := some 1 })), .B, 31, 1, by decide +kernel⟩,
    ⟨(W 1000 (fun (l : Lane) => l |> withPts [(Out.sessionStep 31, ssPrecharge)] |>.setOut 31 { shortCount := 4001 })), .B, 31, by decide +kernel⟩,
    ⟨(W 1000 (fun (l : Lane) => l |> withPts [(Out.sessionStep 31, ssRampdown)] |>.setOut 31 { iDc := 5000, stopAsked := true })), .B, 31, by decide +kernel⟩,
    ⟨(W 1000 (fun (l : Lane) => l |> withPts [(Out.sessionStep 31, ssRampdown)])), .B, 31, by decide +kernel⟩,
    ⟨(W 1000 (fun (l : Lane) => l |> withPts [(Out.sessionStep 31, ssDischarge)] |>.setOut 31 { vDc := 60000 })), .B, 31, by decide +kernel⟩,
    ⟨(W 200001 (fun (l : Lane) => l |> withPts [(Out.sessionStep 31, ssUnlatch)] |>.setOut 31 { openFor := some 200000, holds := 2 } |> withPts [(Out.proxState 31, 1)])), .B, 31, 200000, by decide +kernel⟩,
    ⟨(W 1000000 (fun (l : Lane) => l |> withPts [(Out.sessionStep 31, ssEvOpen)])), .B, 31, 400000, by decide +kernel⟩,
    ⟨(W 20000000 (fun (l : Lane) => l |> withPts [(Out.sessionStep 31, ssLink)])), .B, 31, 4000000, 4, by decide +kernel⟩,
    ⟨(W 1000000 (fun (l : Lane) => l |> withPts [(Out.sessionStep 31, ssUnlatch)])), .B, 31, 100000, by decide +kernel⟩,
    ⟨(W 1000 (fun (l : Lane) => l |> withPts [(Out.sessionStep 31, ssIdle)])), .B, 31, 3, by decide +kernel⟩⟩

/-- Every hypothesis of `Obligations.MeterSamples` is met, clause by clause. -/
theorem hyps_MeterSamples :
    (∃ s : State, ∃ i : LaneId, (s.lane i).alwaysOn = true ∧ (s.lane i).met.clockSteps = [])
    ∧ (∃ s : State, ∃ i : LaneId, ∃ n : Nat, ∃ d : Int, ∃ w : Bool, (s.lane i).alwaysOn = true ∧ (s.lane i).met.clockSteps = [⟨n, d, w⟩] ∧ n < (s.lane i).lap)
    ∧ (∃ s : State, ∃ i : LaneId, ∃ ms : MeterSample, ∃ n : Nat, (s.lane i).alwaysOn = true ∧ n < 8 ∧ (s.lane i).met.clockSteps = [] ∧ (s.lane i).metRuns = true ∧ (s.lane i).metEnabled n = true ∧ (s.lane i).inReset 5 n = false ∧ (s.lane i).p Mp.mpState ≠ 2 ∧ (s.lane i).p Mp.refState ≠ 1 ∧ (ms.ac.find? (fun e => e.1 == n)).isSome = true)
    ∧ (∃ s : State, ∃ i : LaneId, ∃ ms : MeterSample, ∃ d : Nat, (s.lane i).alwaysOn = true ∧ d < 32 ∧ (s.lane i).met.clockSteps = [] ∧ (s.lane i).metRuns = true ∧ (s.lane i).inReset 5 (256 + d) = false ∧ (s.lane i).p Mp.mpState ≠ 2 ∧ (s.lane i).p Mp.refState ≠ 1 ∧ (ms.dc.find? (fun e => e.1 == d)).isSome = true)
    ∧ (∃ s : State, ∃ i : LaneId, ∃ n, ∃ now, ∃ c, ∃ t256, (s.lane i).alwaysOn = true ∧ n < s.chassis.variant.acPoints ∧ (s.lane i).metRuns = true ∧ (s.lane i).metEnabled n = true ∧ (s.lane i).crossing n = some now ∧ ((s.lane i).acPt n).cross = some c ∧ now = c + t256 ∧ 29266 ≤ t256 ∧ t256 ≤ 48762 ∧ ((s.lane i).acPt n).fixed = false ∧ (s.lane i).p Mp.refState ≠ 1)
    ∧ (∃ s : State, ∃ i : LaneId, ∃ n, ∃ now, ∃ c, ∃ t256, (s.lane i).alwaysOn = true ∧ n < s.chassis.variant.acPoints ∧ (s.lane i).metRuns = true ∧ (s.lane i).metEnabled n = true ∧ (s.lane i).crossing n = some now ∧ ((s.lane i).acPt n).cross = some c ∧ now = c + t256 ∧ (t256 < 29266 ∨ 48762 < t256))
    ∧ (∃ s : State, ∃ i : LaneId, ∃ n, (s.lane i).alwaysOn = true ∧ n < s.chassis.variant.acPoints ∧ (s.lane i).metRuns = true ∧ (s.lane i).metEnabled n = true ∧ (s.lane i).inBlocks n = true ∧ 160 ≤ ((s.lane i).acPt n).n)
    ∧ (∃ s : State, ∃ i : LaneId, ∃ m, ∃ ohm, ∃ v, (s.lane i).alwaysOn = true ∧ (m < s.chassis.variant.acPoints ∨ 8 ≤ m ∧ m < 8 + s.chassis.variant.dcPoints) ∧ (s.lane i).metRuns = true ∧ (s.lane i).ntcValue m ohm = some v ∧ -50000 ≤ v ∧ v ≤ 150000)
    ∧ (∃ s : State, ∃ i : LaneId, ∃ m, ∃ ohm, (s.lane i).alwaysOn = true ∧ (m < s.chassis.variant.acPoints ∨ 8 ≤ m ∧ m < 8 + s.chassis.variant.dcPoints) ∧ (s.lane i).metRuns = true ∧ ((s.lane i).ntcValue m ohm).all (fun v => decide (v < -50000 ∨ 150000 < v)) = true) :=
  ⟨⟨(W 1000), .A, by decide +kernel⟩,
    ⟨(W 1000 (fun (l : Lane) => l |> fun (l : Lane) => l.met! (fun m => { m with legal := 1577836800000 * 8, clockSteps := [⟨999, 5, true⟩] }) |> withPts [(Cal.clockState, 0)])), .A, 999, 5, true, by decide +kernel⟩,
    ⟨(W 1000 (fun (l : Lane) => l |> withCfg [(Ac.pointEnable 7, 1)])), .A, ⟨[(7, [])], [], 0⟩, 7, by decide +kernel⟩,
    ⟨(W 1000), .A, ⟨[], [(31, [])], 0⟩, 31, by decide +kernel⟩,
    ⟨(W 1000 (fun (l : Lane) => l |> withCfg [(Ac.pointEnable 7, 1)] |> (fun (l : Lane) => l.met! (fun m => { m with tick := 1000 })) |>.setAc 7 { buf := { v := [0], i := [], q := [] } :: List.replicate 159 { v := [-200000000], i := [], q := [] }, cross := some 226734, fixed := false })), .B, 7, 256000, 226734, 29266, by decide +kernel⟩,
    ⟨(W 1000 (fun (l : Lane) => l |> withCfg [(Ac.pointEnable 7, 1)] |> (fun (l : Lane) => l.met! (fun m => { m with tick := 1000 })) |>.setAc 7 { buf := { v := [0], i := [], q := [] } :: List.replicate 159 { v := [-200000000], i := [], q := [] }, cross := some 226735, fixed := false })), .B, 7, 256000, 226735, 29265, by decide +kernel⟩,
    ⟨(W 1000 (fun (l : Lane) => l |> withCfg [(Ac.pointEnable 7, 1)] |>.setAc 7 { n := 160 })), .A, 7, by decide +kernel⟩,
    ⟨W 1000, .A, 39, 10000000, 25000, by decide +kernel⟩,
    ⟨W 1000, .A, 39, 0, by decide +kernel⟩⟩

/-- Every hypothesis of `Obligations.MeterBesideHolder` is met, clause by clause. -/
theorem hyps_MeterBesideHolder :
    (∃ s : State, ∃ i : LaneId, (s.lane i).active = true ∧ s.holder = some i.other ∧ (s.lane i).lapIn = 2)
    ∧ (∃ s : State, ∃ i : LaneId, (s.lane i).active = true ∧ s.holder = some i.other ∧ (s.lane i.other).met.clockSteps = [])
    ∧ (∃ s : State, ∃ i : LaneId, (s.lane i).active = true ∧ s.holder = some i.other)
    ∧ (∃ s : State, ∃ i : LaneId, ∃ n, ∃ r, (s.lane i).active = true ∧ s.holder = some i.other ∧ (s.lane i.other).met.records.find? (fun r => decide (r.no = n)) = some r ∧ (∃ e ∈ (s.lane i).met.records, e.no = n) ∧ r.gen = (s.lane i).p (Out.sessionGen r.outlet))
    ∧ (∃ s : State, ∃ i : LaneId, ∃ m, ∃ r, (s.lane i).active = true ∧ s.holder = some i.other ∧ (s.lane i).met.copied = true ∧ m ∈ (s.lane i).metPoints ∧ (s.lane i.other).lastRecord m = some r ∧ (m < 8 ∨ r.gen = (s.lane i).pn (Out.sessionGen (m - 8))) ∧ (∃ e, (s.lane i).lastRecord m = some e ∧ e.endMs = r.endMs)) :=
  ⟨⟨(W 1002), .B, by decide +kernel⟩,
    ⟨(W 1000), .B, by decide +kernel⟩,
    ⟨(W 1000), .B, by decide +kernel⟩,
    ⟨(W 1000 (fun (l : Lane) => l |> fun (l : Lane) => l.met! (fun m => { m with records := [({ no := 9, fields := [], sig := none } : SignedRec)] }))), .B, 9, ({ no := 9, fields := [], sig := none } : SignedRec), by decide +kernel⟩,
    ⟨(W 1000 (fun (l : Lane) => l |> withCfg [(Ac.pointEnable 7, 1)] |> fun (l : Lane) => l.met! (fun m => { m with copied := true, profile := [({ point := 7, endMs := 5, seq := 1, durationMs := 9, flags := 0, tariff := 0, inc := [] } : IntervalRec)] }))), .B, 7, ({ point := 7, endMs := 5, seq := 1, durationMs := 9, flags := 0, tariff := 0, inc := [] } : IntervalRec), by decide +kernel⟩⟩

/-- Every hypothesis of `Obligations.MeterChecks` is met, clause by clause. -/
theorem hyps_MeterChecks :
    (∃ s : State, ∃ i : LaneId, (s.lane i).alwaysOn = true)
    ∧ (∃ s : State, ∃ i : LaneId, ∃ crc : Nat, ∃ same : Bool, ∃ good : Bool, (s.lane i).alwaysOn = true ∧ good = (match (s.lane i).link.metCrc with | some c => decide (crc = c) | none => same))
    ∧ (∃ s : State, ∃ i : LaneId, ∃ opened : Bool, (s.lane i).alwaysOn = true ∧ (s.lane i).met.lossTicks = none ∧ (s.lane i).p Cal.sealState ≠ (if opened then 1 else 0))
    ∧ (∃ s : State, ∃ i : LaneId, ∃ cause, ∃ point, ∃ clearMs, (s.lane i).alwaysOn = true ∧ (s.lane i).met.lossTicks = none ∧ (s.lane i).tamperDue cause point clearMs = true ∧ ((s.lane i).keys.apply = none ∨ cause < 4))
    ∧ (∃ s : State, ∃ i : LaneId, ∃ cause, ∃ point, ∃ clearMs, ∃ a, (s.lane i).alwaysOn = true ∧ (s.lane i).met.lossTicks = none ∧ (s.lane i).tamperDue cause point clearMs = true ∧ (s.lane i).keys.apply = some a ∧ 4 ≤ cause ∧ (∀ x ∈ a.tampers, x.1 ≠ cause ∨ x.2.1 ≠ point)) :=
  ⟨⟨(W 1000), .B, by decide +kernel⟩,
    ⟨(W 1000), .B, 5, false, false, by decide +kernel⟩,
    ⟨(W 1000 (fun (l : Lane) => l |> withPts [(Cal.sealState, 0)])), .B, true, by decide +kernel⟩,
    ⟨(W 2000000 (fun (l : Lane) => l |> fun (l : Lane) => l.met! (fun m => { m with tampers := [(65, { since := 8001 })] }))), .B, 1, 1, 0, by decide +kernel⟩,
    ⟨(W 1000 (fun (l : Lane) => l |> fun (l : Lane) => { l with keys := { l.keys with apply := some ({ lap := 999, req := { ring := 0, seq := 1, hostTag := 2, command := 513, lane := 0, path := 0, body := [0, 0] }, auth := 0, status := 0, index := 0, trial := [], counter := 1, touched := [] } : KeyApply) } })), .B, 6, 39, 0, ({ lap := 999, req := { ring := 0, seq := 1, hostTag := 2, command := 513, lane := 0, path := 0, body := [0, 0] }, auth := 0, status := 0, index := 0, trial := [], counter := 1, touched := [] } : KeyApply), by decide +kernel⟩⟩

/-- Every hypothesis of `Obligations.PulseRows` is met, clause by clause. -/
theorem hyps_PulseRows :
    (∃ s : State, ∃ i : LaneId, ∃ n : Nat, ∃ ms, n < 16 ∧ (s.lane i).alwaysOn = true ∧ (s.lane i).c (S0.s0Enable n) = 1 ∧ (s.lane i).cn (S0.s0MinOnMs n) ≤ ms ∧ ((s.lane i).s0 n).counted = false)
    ∧ (∃ s : State, ∃ i : LaneId, ∃ n : Nat, n < 16 ∧ (s.lane i).alwaysOn = true ∧ (s.lane i).c (S0.s0Enable n) = 1 ∧ ((s.lane i).s0 n).counted = true)
    ∧ (∃ s : State, ∃ i : LaneId, ∃ n : Nat, ∃ ms, n < 16 ∧ (s.lane i).alwaysOn = true ∧ (s.lane i).c (S0.s0Enable n) = 1 ∧ (s.lane i).cn (S0.s0MaxOnMs n) < ms ∧ ((s.lane i).s0 n).onMs ≠ none)
    ∧ (∃ s : State, ∃ i : LaneId, ∃ n : Nat, n < 16 ∧ (s.lane i).alwaysOn = true ∧ (s.lane i).c (S0.s0Enable n) = 1 ∧ ((s.lane i).s0 n).onMs ≠ none ∧ ((s.lane i).s0 n).counted = false)
    ∧ (∃ s : State, ∃ i : LaneId, ∃ n : Nat, n < 16 ∧ (s.lane i).alwaysOn = true ∧ (s.lane i).c (S0.s0Enable n) = 1 ∧ (s.lane i).active = true ∧ (s.lane i).p (S0.s0Count n) ≠ (s.lane i.other).p (S0.s0Count n))
    ∧ (∃ s : State, ∃ i : LaneId, ∃ n : Nat, ∃ u, n < 16 ∧ (s.lane i).alwaysOn = true ∧ (s.lane i).c (S0.s0Enable n) = 1 ∧ u < 4 ∧ s.asleep = false ∧ s.holder = some i ∧ ((s.lane i).po u).level = false ∧ ((s.lane i).po u).width ≤ (s.lane i).met.tick - ((s.lane i).po u).since ∧ 0 < (s.lane i).p (Po.poBacklog u))
    ∧ (∃ s : State, ∃ i : LaneId, ∃ n : Nat, ∃ u, n < 16 ∧ (s.lane i).alwaysOn = true ∧ (s.lane i).c (S0.s0Enable n) = 1 ∧ u < 4 ∧ s.asleep = false ∧ s.holder = some i ∧ ((s.lane i).po u).level = true ∧ ((s.lane i).po u).width ≤ (s.lane i).met.tick - ((s.lane i).po u).since) :=
  ⟨⟨(W 1000 (fun (l : Lane) => l |> withCfg [(S0.s0Enable 15, 1)])), .B, 15, 30, by decide +kernel⟩,
    ⟨(W 1000 (fun (l : Lane) => l |> withCfg [(S0.s0Enable 15, 1)] |>.setS0 15 { counted := true })), .B, 15, by decide +kernel⟩,
    ⟨(W 1000 (fun (l : Lane) => l |> withCfg [(S0.s0Enable 15, 1)] |>.setS0 15 { onMs := some 1 })), .B, 15, 100000000, by decide +kernel⟩,
    ⟨(W 1000 (fun (l : Lane) => l |> withCfg [(S0.s0Enable 15, 1)] |>.setS0 15 { onMs := some 1 })), .B, 15, by decide +kernel⟩,
    ⟨{ ((W 1000 (fun (l : Lane) => l |> withCfg [(S0.s0Enable 15, 1)]))) with a := (W 1000 (fun (l : Lane) => l |> withCfg [(S0.s0Enable 15, 1)] |> withPts [(S0.s0Count 15, 9)])).a }, .B, 15, by decide +kernel⟩,
    ⟨(W 1000 (fun (l : Lane) => l |> withCfg [(S0.s0Enable 15, 1)] |> withPts [(Po.poBacklog 3, 1)] |> fun (l : Lane) => l.met! (fun m => { m with tick := 10 }) |>.setPo 3 { width := 10 })), .A, 15, 3, by decide +kernel⟩,
    ⟨(W 1000 (fun (l : Lane) => l |> withCfg [(S0.s0Enable 15, 1)] |> fun (l : Lane) => l.met! (fun m => { m with tick := 10 }) |>.setPo 3 { level := true, width := 10 })), .A, 15, 3, by decide +kernel⟩⟩

/-- Every hypothesis of `Obligations.BillingRows` is met, clause by clause. -/
theorem hyps_BillingRows :
    (∃ s : State, ∃ i : LaneId, (s.lane i).alwaysOn = true ∧ (s.lane i).met.lossTicks = none ∧ (s.lane i).met.nextBoundary ≤ (s.lane i).localMs)
    ∧ (∃ s : State, ∃ i : LaneId, (s.lane i).alwaysOn = true ∧ (s.lane i).met.lossTicks = none ∧ nextBilling (s.lane i).cfg (s.lane i).met.lastPeriod ≤ (s.lane i).localMs)
    ∧ (∃ s : State, ∃ i : LaneId, ∃ new, (s.lane i).alwaysOn = true ∧ new = tariffAt (s.lane i).cfg ((s.lane i).eveTariff ((s.lane i).localMs / dayMs)) (s.lane i).localMs ∧ (s.lane i).met.lossTicks = none ∧ (s.lane i).localMs < (s.lane i).met.nextBoundary ∧ (s.lane i).localMs < nextBilling (s.lane i).cfg (s.lane i).met.lastPeriod ∧ new ≠ (s.lane i).tariff)
    ∧ (∃ s : State, ∃ i : LaneId, (s.lane i).alwaysOn = true ∧ (s.lane i).met.lossTicks.isSome = true)
    ∧ (∃ s : State, ∃ i : LaneId, (s.lane i).alwaysOn = true ∧ (s.lane i).met.displayLap + 200000 * (s.lane i).cn Cal.scrollDwellS ≤ (s.lane i).proxClock) :=
  ⟨⟨(W 1000 (fun (l : Lane) => l |> fun (l : Lane) => l.met! (fun m => { m with legal := 7200000, nextBoundary := 900000 }))), .B, by decide +kernel⟩,
    ⟨(W 1000 (fun (l : Lane) => l |> fun (l : Lane) => l.met! (fun m => { m with legal := 2678400000 * 8 }))), .B, by decide +kernel⟩,
    ⟨(W 1000 (fun (l : Lane) => l |> fun (l : Lane) => l.met! (fun m => { m with legal := 7200000, nextBoundary := 10000000000 }) |> withCfg [(Cal.daySw 0 0, 0x80000001)])), .B, 1, by decide +kernel⟩,
    ⟨(W 1000 (fun (l : Lane) => l |> fun (l : Lane) => l.met! (fun m => { m with lossTicks := some 5 }))), .B, by decide +kernel⟩,
    ⟨(W 200000000), .B, by decide +kernel⟩⟩

/-- Every hypothesis of `Obligations.EmergencyStop` is met, clause by clause. -/
theorem hyps_EmergencyStop :
    (∃ s : State, ∃ i : LaneId, ∃ c : SafetyInputs, (s.lane i).active = true ∧ (s.lane i).link.state = .holder ∧ (s.lane i).filtersKnown = true ∧ (s.lane i).safe.chanFault = false ∧ (s.lane i).safe.diffRun = 0 ∧ c.estop1 = false)
    ∧ (∃ s : State, ∃ i : LaneId, ∃ n, (s.lane i).alwaysOn = true ∧ (n < 3 ∨ 16 ≤ n ∧ n < 16 + 8 * 32 ∧ n % 8 < 7) ∧ n ∈ (s.lane i.other).safe.trip1)
    ∧ (∃ s : State, ∃ i : LaneId, ∃ m, s.chassis.variant.team = true ∧ (s.lane i).active = true ∧ (s.lane i).c SafM.teamSafety = 1 ∧ (s.lane i).safetyMembers.contains m = true ∧ ((s.lane i).tgSender m).time + 13000000 < (s.lane i).pacer.teamTime ∧ ((s.lane i).tgSender m).late = false)
    ∧ (∃ s : State, ∃ i : LaneId, ∃ n1, ∃ n2, n1 = max (s.lane i).safe.con1.pulseLap (s.lane i).safe.startLap + msLaps 1100 ∧ n2 = max (s.lane i).safe.con2.pulseLap (s.lane i).safe.startLap + msLaps 1100 ∧ (s.lane i).active = true ∧ (s.lane i).c SafM.loopMode = 1 ∧ n1 ≤ (s.lane i).lap ∧ n2 ≤ (s.lane i).lap)
    ∧ (∃ s : State, ∃ i : LaneId, ∃ n1, ∃ n2, n1 = max (s.lane i).safe.con1.pulseLap (s.lane i).safe.startLap + msLaps 1100 ∧ n2 = max (s.lane i).safe.con2.pulseLap (s.lane i).safe.startLap + msLaps 1100 ∧ (s.lane i).active = true ∧ (s.lane i).c SafM.loopMode = 1 ∧ (n1 ≤ (s.lane i).lap ∨ n2 ≤ (s.lane i).lap))
    ∧ (∃ s : State, ∃ i : LaneId, ∃ n1, ∃ n2, n1 = max (s.lane i).safe.con1.pulseLap (s.lane i).safe.startLap + msLaps 1100 ∧ n2 = max (s.lane i).safe.con2.pulseLap (s.lane i).safe.startLap + msLaps 1100 ∧ (s.lane i).active = true ∧ (s.lane i).c SafM.loopMode = 1 ∧ (s.lane i).lap < n1 ∧ (s.lane i).lap < n2)
    ∧ (∃ s : State, ∃ i : LaneId, (s.lane i).active = true ∧ (s.lane i).c SafM.loopMode = 1) :=
  ⟨⟨(W 1000 (fun (l : Lane) => l |> fun (l : Lane) => l.safe! (fun x => { x with filled := true }))), .A, { okInputs with estop1 := false }, by decide +kernel⟩,
    ⟨{ (W 1000) with a := (W 1000 (fun (l : Lane) => { l with safe := { l.safe with trip1 := [270] } })).a }, .B, 270, by decide +kernel⟩,
    ⟨(W 1000 (fun (l : Lane) => l |> withCfg [(SafM.teamSafety, 1)] |> withPts [(Team.teamMembers 0, 0x80)] |> fun (l : Lane) => { l with pacer := { l.pacer with teamTime := 13000001 } })), .B, 7, by decide +kernel⟩,
    ⟨(W 220005 (fun (l : Lane) => l |> withCfg [(SafM.loopMode, 1)] |> fun (l : Lane) => l.safe! (fun x => { x with con1 := { x.con1 with pulseLap := 5 }, con2 := { x.con2 with pulseLap := 5 }, startLap := 1 }))), .B, 220005, 220005, by decide +kernel⟩,
    ⟨(W 220005 (fun (l : Lane) => l |> withCfg [(SafM.loopMode, 1)] |> fun (l : Lane) => l.safe! (fun x => { x with con1 := { x.con1 with pulseLap := 6 }, con2 := { x.con2 with pulseLap := 5 }, startLap := 1 }))), .B, 220006, 220005, by decide +kernel⟩,
    ⟨(W 220005 (fun (l : Lane) => l |> withCfg [(SafM.loopMode, 1)] |> fun (l : Lane) => l.safe! (fun x => { x with con1 := { x.con1 with pulseLap := 6 }, con2 := { x.con2 with pulseLap := 6 }, startLap := 1 }))), .B, 220006, 220006, by decide +kernel⟩,
    ⟨(W 1000 (fun (l : Lane) => l |> withCfg [(SafM.loopMode, 1)])), .B, by decide +kernel⟩⟩

/-- Every hypothesis of `Obligations.ResetEdge` is met, clause by clause. -/
theorem hyps_ResetEdge :
    (∃ s : State, ∃ i : LaneId, ∃ n : Nat, ∃ openMs : Nat, ∃ closedMs : Nat, (s.lane i).alwaysOn = true ∧ (n < 3 ∨ 16 ≤ n ∧ n < 16 + 8 * s.chassis.variant.outlets ∧ n % 8 < 7) ∧ 200 ≤ openMs ∧ 50 ≤ closedMs ∧ s.arbiter.grant ≠ none ∧ (s.lane i).p (fnAddr n) = fnResettable)
    ∧ (∃ s : State, ∃ i : LaneId, ∃ n : Nat, ∃ openMs : Nat, ∃ closedMs : Nat, (s.lane i).alwaysOn = true ∧ (n < 3 ∨ 16 ≤ n ∧ n < 16 + 8 * s.chassis.variant.outlets ∧ n % 8 < 7) ∧ 200 ≤ openMs ∧ 50 ≤ closedMs ∧ s.arbiter.grant ≠ none ∧ (s.lane i).p (fnAddr n) = fnTripped)
    ∧ (∃ s : State, ∃ i : LaneId, ∃ n : Nat, ∃ openMs : Nat, ∃ closedMs : Nat, (s.lane i).alwaysOn = true ∧ (n < 3 ∨ 16 ≤ n ∧ n < 16 + 8 * s.chassis.variant.outlets ∧ n % 8 < 7) ∧ 200 ≤ openMs ∧ 50 ≤ closedMs ∧ s.arbiter.grant = none)
    ∧ (∃ s : State, ∃ i : LaneId, ∃ n : Nat, ∃ openMs : Nat, ∃ closedMs : Nat, (s.lane i).alwaysOn = true ∧ (n < 3 ∨ 16 ≤ n ∧ n < 16 + 8 * s.chassis.variant.outlets ∧ n % 8 < 7) ∧ (openMs < 200 ∨ closedMs < 50)) :=
  ⟨⟨(W 1000 (fun (l : Lane) => l |> withPts [(fnAddr 270, fnResettable)])), .B, 270, 200, 50, by decide +kernel⟩,
    ⟨(W 1000 (fun (l : Lane) => l |> withPts [(fnAddr 270, fnTripped)])), .B, 270, 200, 50, by decide +kernel⟩,
    ⟨{ (W 1000) with arbiter := {} }, .B, 270, 200, 50, by decide +kernel⟩,
    ⟨(W 1000), .B, 270, 199, 50, by decide +kernel⟩⟩

/-- Every hypothesis of `Obligations.ProtectionPulses` is met, clause by clause. -/
theorem hyps_ProtectionPulses :
    (∃ s : State, ∃ i : LaneId, ∃ x : Nat, s.holder = some i ∧ s.energised x = true ∧ (s.lane i).lapIn = 20 ∧ (s.lane i).epoch % 500 ∈ pulseEpochs x)
    ∧ (∃ s : State, ∃ i : LaneId, ∃ x : Nat, ∃ e, s.holder = some i ∧ ((s.lane i).safe.pulses.find? (fun e => e.1 == x) = some e) ∧ e.2 + (s.lane i).cn SafM.tpWidthUs / 5 ≤ (s.lane i).lap)
    ∧ (∃ s : State, ∃ i : LaneId, ∃ x : Nat, ∃ e, s.holder = some i ∧ ((s.lane i).safe.pulses.find? (fun e => e.1 == x) = some e) ∧ e.2 + (s.lane i).cn SafM.tpWidthUs / 5 ≤ (s.lane i).lap ∧ x < 3)
    ∧ (∃ s : State, ∃ i : LaneId, ∃ o : Nat, ∃ t0, o < s.chassis.variant.outlets ∧ (s.lane i).active = true ∧ ((s.lane i).out o).discharge = some t0 ∧ t0 + msLaps 1000 ≤ (s.lane i).lap ∧ 60000 < ((s.lane i).out o).vOwn)
    ∧ (∃ s : State, ∃ i : LaneId, ∃ o : Nat, ∃ t0, o < s.chassis.variant.outlets ∧ (s.lane i).active = true ∧ ((s.lane i).out o).bdisOff = some t0 ∧ t0 + msLaps 2000 ≤ (s.lane i).lap ∧ 60000 < ((s.lane i).out o).vOwn)
    ∧ (∃ s : State, ∃ i : LaneId, ∃ o : Nat, ∃ t0, o < s.chassis.variant.outlets ∧ (s.lane i).active = true ∧ (UMap.get (fun _ => 0) (s.lane i).safe.expiredLap o = t0 + 1) ∧ t0 + msLaps 2000 ≤ (s.lane i).lap ∧ (s.lane i).p (Out.coolState o) = csExpired ∧ 5000 < (s.lane i).ownAmps o) :=
  ⟨⟨(W 220 (fun (l : Lane) => l |> fun (l : Lane) => { l with safe := { l.safe with filled := true, startupHold := false } })), .A, 0, by decide +kernel⟩,
    ⟨(W 1000 (fun (l : Lane) => l |> fun (l : Lane) => { l with safe := { l.safe with pulses := [(0, 0)] } })), .A, 0, (0, 0), by decide +kernel⟩,
    ⟨(W 1000 (fun (l : Lane) => l |> fun (l : Lane) => { l with safe := { l.safe with pulses := [(2, 0)] } })), .A, 2, (2, 0), by decide +kernel⟩,
    ⟨(W 200001 (fun (l : Lane) => l |>.setOut 31 { discharge := some 1, vOwn := 60001 })), .A, 31, 1, by decide +kernel⟩,
    ⟨(W 400001 (fun (l : Lane) => l |>.setOut 31 { bdisOff := some 1, vOwn := 60001 })), .A, 31, 1, by decide +kernel⟩,
    ⟨(W 400001 (fun (l : Lane) => l |> fun (l : Lane) => { l with safe := { l.safe with expiredLap := [(31, 2)] } } |> withPts [(Out.coolState 31, csExpired)] |>.setOut 31 { iOwn := 5001 })), .A, 31, 1, by decide +kernel⟩⟩

/-- Every hypothesis of `Obligations.TelegramRows` is met, clause by clause. -/
theorem hyps_TelegramRows :
    (∃ s : State, ∃ i : LaneId, ∃ tg : Telegram, s.chassis.variant.team = true ∧ (s.lane i).active = true ∧ (tg.teamId : Int) = (s.lane i).c SafM.teamId ∧ (s.lane i).safetyMembers.contains tg.sender = true ∧ tg.crcOk = true ∧ ((s.lane i).tgSender tg.sender).seq = none ∧ tg.sendTime ≤ (s.lane i).pacer.teamTime ∧ (s.lane i).pacer.teamTime ≤ tg.sendTime + 3000000)
    ∧ (∃ s : State, ∃ i : LaneId, ∃ tg : Telegram, s.chassis.variant.team = true ∧ (s.lane i).active = true ∧ tg.crcOk = false)
    ∧ (∃ s : State, ∃ i : LaneId, s.chassis.variant.team = true ∧ (s.lane i).active = true ∧ (s.lane i).c SafM.teamSafety = 1 ∧ bitAt ((s.lane i).pn SafM.netState) 0 = true ∧ (s.lane i).safe.net1Lap + msLaps 13 ≤ (s.lane i).lap ∧ (s.lane i).lap < (s.lane i).safe.net2Lap + msLaps 13 ∧ (s.lane i).p (SafM.fnStateMod 1) = fnHealthy)
    ∧ (∃ s : State, ∃ i : LaneId, s.chassis.variant.team = true ∧ (s.lane i).active = true ∧ (s.lane i).c SafM.teamSafety = 1 ∧ (s.lane i).safetyMembers ≠ [] ∧ (∀ m ∈ (s.lane i).safetyMembers, ∃ t0 ∈ ((s.lane i).tgSender m).agree, t0 + msLaps 10000 ≤ (s.lane i).lap) ∧ (s.lane i).pn SafM.netState = 2 ∧ (s.lane i).p (SafM.fnStateMod 1) = fnDegraded)
    ∧ (∃ s : State, ∃ i : LaneId, s.chassis.variant.team = true ∧ (s.lane i).active = true ∧ (s.lane i).p (SafM.fnStateMod 1) = fnDegraded ∧ 300000 ≤ (s.lane i).p SafM.teamElapsedMs)
    ∧ (∃ s : State, ∃ i : LaneId, ∃ t0, s.chassis.variant.team = true ∧ (s.lane i).active = true ∧ (s.lane i).safe.bothLap = some t0 ∧ t0 + msLaps 300000 ≤ (s.lane i).lap) :=
  ⟨⟨(W 1000 (fun (l : Lane) => l |> withCfg [(SafM.teamId, 3)] |> withPts [(Team.teamMembers 0, 0x80)] |> fun (l : Lane) => { l with pacer := { l.pacer with teamTime := 3000000 } })), .B, ⟨3, 7, 1, 5, 0, 0, 0, true⟩, by decide +kernel⟩,
    ⟨(W 1000), .B, ⟨3, 7, 1, 5, 0, 0, 0, false⟩, by decide +kernel⟩,
    ⟨(W 3000 (fun (l : Lane) => l |> withCfg [(SafM.teamSafety, 1)] |> withPts [(SafM.netState, 3), (SafM.fnStateMod 1, fnHealthy)] |> fun (l : Lane) => { l with safe := { l.safe with net1Lap := 400, net2Lap := 401 } })), .B, by decide +kernel⟩,
    ⟨(W 2000001 (fun (l : Lane) => l |> withPts [(SafM.netState, 2), (SafM.fnStateMod 1, fnDegraded), (Team.teamMembers 0, 3)] |> withCfg [(SafM.teamSafety, 1)] |> fun (l : Lane) => { l with safe := { l.safe with senders := [(1, { agree := some 1 })] } })), .B, by decide +kernel⟩,
    ⟨(W 1000 (fun (l : Lane) => l |> withPts [(SafM.fnStateMod 1, fnDegraded), (SafM.teamElapsedMs, 300000)])), .B, by decide +kernel⟩,
    ⟨(W 60000001 (fun (l : Lane) => l |> fun (l : Lane) => { l with safe := { l.safe with bothLap := some 1 } })), .B, 1, by decide +kernel⟩⟩

/-- Every hypothesis of `Obligations.LaneLife` is met, clause by clause. -/
theorem hyps_LaneLife :
    (∃ s : State, ∃ i : LaneId, (s.lane i).link.state = .absent)
    ∧ (∃ s : State, ∃ i : LaneId, (s.lane i).link.state = .reset ∧ (s.lane i).power.fastOn = true ∧ (s.lane i).link.parked = false ∧ (s.lane i).link.mismatchCart = false ∧ (s.lane i).therm.shut = false ∧ s.arbiter.grant = some i.other)
    ∧ (∃ s : State, ∃ i : LaneId, (s.lane i).link.state = .reset ∧ (s.lane i).power.fastOn = true ∧ (s.lane i).link.parked = false ∧ (s.lane i).link.mismatchCart = false ∧ (s.lane i).therm.shut = false ∧ s.arbiter.grant = none ∧ (s.lane i).pacer.laps = true ∧ (s.lane i).power.power ≠ 5 ∧ (s.lane i).link.want = false)
    ∧ (∃ s : State, ∃ i : LaneId, s.arbiter.grant = some i.other ∧ (s.lane i).link.phase = .align ∧ (s.lane i).pacer.laps = true ∧ (s.lane i).lap = (s.lane i.other).lap ∧ (s.lane i).hubsReady = true)
    ∧ (∃ s : State, ∃ i : LaneId, s.arbiter.grant = some i.other ∧ (s.lane i).link.phase = .copy)
    ∧ (∃ s : State, ∃ i : LaneId, s.arbiter.grant = some i.other ∧ (s.lane i).link.phase = .catchup ∧ imagesEqual (s.lane i).imgs (s.lane i.other).imgs = true)
    ∧ (∃ s : State, ∃ i : LaneId, (s.lane i).link.phase = .shadow ∧ 1000 ≤ (s.lane i).link.shadowClean)
    ∧ (∃ s : State, ∃ i : LaneId, (s.lane i).link.phase = .copy ∧ (s.lane i).pacer.laps = true ∧ (s.lane i).link.phaseLap + 60 * 200000 ≤ (s.lane i).lap)
    ∧ (∃ s : State, ∃ i : LaneId, (s.lane i).link.state ≠ .absent)
    ∧ (∃ s : State, ∃ i : LaneId, (s.lane i).link.state = .standby)
    ∧ (∃ s : State, ∃ i : LaneId, (s.lane i).link.state = .holder) :=
  ⟨⟨{ W 1000 with b := (W 1000 (fun (l : Lane) => l |> fun (l : Lane) => { l with link := { l.link with state := .absent } })).b }, .B, by decide +kernel⟩,
    ⟨{ W 1000 with b := (W 1000 (fun (l : Lane) => l |> fun (l : Lane) => { l with link := { l.link with state := .reset, want := false } })).b }, .B, by decide +kernel⟩,
    ⟨{ (({ W 1000 with b := (W 1000 (fun (l : Lane) => l |> fun (l : Lane) => { l with link := { l.link with state := .reset, want := false } })).b } : State)) with arbiter := {} }, .B, by decide +kernel⟩,
    ⟨{ W 1000 with b := (W 1000 (fun (l : Lane) => l |> fun (l : Lane) => { l with link := { l.link with state := .resync, phase := .align } })).b }, .B, by decide +kernel⟩,
    ⟨{ W 1000 with b := (W 1000 (fun (l : Lane) => l |> fun (l : Lane) => { l with link := { l.link with state := .resync, phase := .copy } })).b }, .B, by decide +kernel⟩,
    ⟨(W 1000 (fun (l : Lane) => l |> fun (l : Lane) => { l with link := { l.link with state := if l.id = .B then .resync else .holder, phase := .catchup } } |> fun (l : Lane) => { l with imgs := [{ lane := l.id, epoch := 1, baton := 1, cfg := [], pts := [], stat := [], phaseGen := [], packGen := [], unready := [], identified := [], written := [], partner := none }] })), .B, by decide +kernel⟩,
    ⟨{ W 1000 with b := (W 1000 (fun (l : Lane) => l |> fun (l : Lane) => { l with link := { l.link with state := .resync, phase := .shadow, shadowClean := 1000 } })).b }, .B, by decide +kernel⟩,
    ⟨{ W 12000000 with b := (W 12000000 (fun (l : Lane) => l |> fun (l : Lane) => { l with link := { l.link with state := .resync, phase := .copy } })).b }, .B, by decide +kernel⟩,
    ⟨(W 1000), .B, by decide +kernel⟩,
    ⟨(W 1000), .B, by decide +kernel⟩,
    ⟨(W 1000), .A, by decide +kernel⟩⟩

/-- Every hypothesis of `Obligations.LaneFaults` is met, clause by clause. -/
theorem hyps_LaneFaults :
    (∃ s : State, ∃ i : LaneId, ∃ c, (s.lane i).active = true ∧ (s.lane i).link.giveUp = some c ∧ (s.lane i).link.want = true)
    ∧ (∃ s : State, ∃ i : LaneId, (s.lane i).active = true ∧ (s.lane i).link.state = .holder)
    ∧ (∃ s : State, ∃ i : LaneId, (s.lane i).active = true ∧ (s.lane i).link.state = .standby)
    ∧ (∃ s : State, ∃ i : LaneId, (s.lane i).active = true ∧ s.holder = some i.other ∧ (s.lane i).link.state = .standby)
    ∧ (∃ s : State, ∃ i : LaneId, (s.lane i).active = true ∧ s.holder = some i.other ∧ (s.lane i).link.state = .standby ∧ blockDiffs (s.lane i) (s.lane i.other) = [])
    ∧ (∃ s : State, ∃ i : LaneId, (s.lane i).active = true ∧ s.holder = some i.other ∧ (s.lane i).link.state = .standby ∧ blockDiffs (s.lane i) (s.lane i.other) ≠ [] ∧ (s.lane i).link.cmpRun = 0 ∧ (∀ x ∈ blockDiffs (s.lane i) (s.lane i.other), linkCaused (s.lane i.other) (s.lane i) x = false))
    ∧ (∃ s : State, ∃ i : LaneId, (s.lane i).active = true) :=
  ⟨⟨(W 1000 (fun (l : Lane) => l |> fun (l : Lane) => { l with link := { l.link with giveUp := some 3 } })), .B, 3, by decide +kernel⟩,
    ⟨(W 1000), .A, by decide +kernel⟩,
    ⟨(W 1000), .B, by decide +kernel⟩,
    ⟨(W 1000), .B, by decide +kernel⟩,
    ⟨(W 1000), .B, by decide +kernel⟩,
    ⟨{ W 1000 (fun (l : Lane) => l |> withCfg [(Hub.hubEnable 31, 1)]) with b := (W 1000 (fun (l : Lane) => l |> withCfg [(Hub.hubEnable 31, 1)] |>.setHub 31 { block := { cfgGen := 1 } })).b }, .B, by decide +kernel⟩,
    ⟨(W 1000), .B, by decide +kernel⟩⟩

/-- Every hypothesis of `Obligations.Grant` is met, clause by clause. -/
theorem hyps_Grant :
    (∃ s : State, ∃ h : LaneId, (s.lane h).lapping = true ∧ s.arbiter.evaluated ≠ some s.lapNow ∧ s.arbiter.grant = none ∧ (s.lane h).qualifies s.lapNow = true ∧ ((s.lane h.other).qualifies s.lapNow = true → (s.lane h).link.wantLap < (s.lane h.other).link.wantLap ∨ (h = .A ∧ (s.lane h).link.wantLap = (s.lane h.other).link.wantLap)))
    ∧ (∃ s : State, s.arbiter.evaluated = some s.lapNow)
    ∧ (∃ s : State, ∃ h : LaneId, (s.lane h).lapping = true ∧ s.arbiter.evaluated ≠ some s.lapNow ∧ s.arbiter.grant = some h ∧ (s.lane h).present = true ∧ (s.lane h).link.want = true ∧ (s.lane h).liveWithin s.lapNow 2 = true)
    ∧ (∃ s : State, ∃ h : LaneId, (s.lane h).lapping = true ∧ s.arbiter.evaluated ≠ some s.lapNow ∧ s.arbiter.grant = some h ∧ ((s.lane h).present = false ∨ (s.lane h).link.want = false ∨ (s.lane h).liveWithin s.lapNow 2 = false) ∧ (s.lane h.other).qualifies s.lapNow = true)
    ∧ (∃ s : State, ∃ h : LaneId, (s.lane h).lapping = true ∧ s.arbiter.evaluated ≠ some s.lapNow ∧ s.arbiter.grant = some h ∧ ((s.lane h).present = false ∨ (s.lane h).link.want = false ∨ (s.lane h).liveWithin s.lapNow 2 = false) ∧ (s.lane h.other).qualifies s.lapNow = false) :=
  ⟨⟨{ (W 1000 (fun (l : Lane) => l |> fun (l : Lane) => { l with link := { l.link with want := true, wantLap := 7, liveLaps := [1000] } })) with arbiter := { lap := 1000 } }, .A, by decide +kernel⟩,
    ⟨{ W 1000 with arbiter := { grant := some .A, baton := 1, lap := 1000, evaluated := some 1000 } }, by decide +kernel⟩,
    ⟨{ W 1000 with arbiter := { grant := some .A, baton := 1, lap := 1000 }, a := (W 1000 (fun l => { l with link := { l.link with want := true, liveLaps := [1000] } })).a }, .A, by decide +kernel⟩,
    ⟨{ W 1000 with a := (W 1000 (fun l => l |> fun (l : Lane) => { l with link := { l.link with want := false } })).a }, .A, by decide +kernel⟩,
    ⟨(W 1000 (fun (l : Lane) => l |> fun (l : Lane) => { l with link := { l.link with want := false } })), .A, by decide +kernel⟩⟩

/-- Every hypothesis of `Obligations.KeyRows` is met, clause by clause. -/
theorem hyps_KeyRows :
    (∃ s : State, ∃ i : LaneId, ∃ e, ∃ d, ∃ k, ∃ op, (s.lane i).active = true ∧ (s.lane i).serving e = some d ∧ (s.lane i).deliveryStatus d k op = st_OK)
    ∧ (∃ s : State, ∃ i : LaneId, ∃ e, (s.lane i).active = true ∧ (s.lane i).serving e = none)
    ∧ (∃ s : State, ∃ i : LaneId, ∃ e, ∃ d, ∃ k, ∃ op, (s.lane i).active = true ∧ (s.lane i).serving e = some d ∧ (s.lane i).deliveryStatus d k op ≠ st_OK)
    ∧ (∃ s : State, ∃ i : LaneId, ∃ a, ∃ b, (s.lane i).active = true ∧ (s.lane i).keys.apply = some a ∧ (s.lane i.other).keys.apply = some b ∧ (s.lane i).lap = a.lap + 1)
    ∧ (∃ s : State, ∃ i : LaneId, ∃ a, (s.lane i).active = true ∧ (s.lane i).keys.apply = some a ∧ a.lap + 2 ≤ (s.lane i).lap ∧ (s.lane i).keyVerdict a (s.inStepBeside i) = st_OK)
    ∧ (∃ s : State, ∃ i : LaneId, ∃ a, (s.lane i).active = true ∧ (s.lane i).keys.apply = some a ∧ a.lap + 2 ≤ (s.lane i).lap ∧ (s.lane i).keyVerdict a (s.inStepBeside i) ≠ st_OK)
    ∧ (∃ s : State, ∃ i : LaneId, (s.lane i).active = true ∧ s.a.present = true ∧ s.b.present = true) :=
  ⟨⟨(W 1000 (fun (l : Lane) => l |> withPts [(Key.storeSerialOk, 1)] |> fun (l : Lane) => { l with keys := { l.keys with slots := [(0, factorySlot 0x100100), (20, { state := 1, attr := 0x200010, ver := 1, parentVer := 1 })] } })), .B, 4, 4, 20, 1, by decide +kernel⟩,
    ⟨(W 1000 (fun (l : Lane) => { l with host := { l.host with resets := [{ code := 6, unit := 0, lanes := 0, req := { ring := 0, seq := 1, hostTag := 2, command := 96, lane := 0, path := 0, body := [] } }, { code := 6, unit := 1, lanes := 0, req := { ring := 0, seq := 1, hostTag := 2, command := 96, lane := 0, path := 0, body := [] } }, { code := 6, unit := 2, lanes := 0, req := { ring := 0, seq := 1, hostTag := 2, command := 96, lane := 0, path := 0, body := [] } }, { code := 6, unit := 3, lanes := 0, req := { ring := 0, seq := 1, hostTag := 2, command := 96, lane := 0, path := 0, body := [] } }] } })), .B, 4, by decide +kernel⟩,
    ⟨(W 1000), .B, 4, 4, 1024, 1, by decide +kernel⟩,
    ⟨(W 1000 (fun (l : Lane) => l |> fun (l : Lane) => { l with keys := { l.keys with apply := some ({ lap := 999, req := { ring := 0, seq := 1, hostTag := 2, command := 0x302, lane := 0, path := 0, body := [] }, status := 0, index := 0, trial := [], counter := 9, touched := [], agreed := none } : KeyApply) } })), .B, ({ lap := 999, req := { ring := 0, seq := 1, hostTag := 2, command := 0x302, lane := 0, path := 0, body := [] }, status := 0, index := 0, trial := [], counter := 9, touched := [], agreed := none } : KeyApply), ({ lap := 999, req := { ring := 0, seq := 1, hostTag := 2, command := 0x302, lane := 0, path := 0, body := [] }, status := 0, index := 0, trial := [], counter := 9, touched := [], agreed := none } : KeyApply), by decide +kernel⟩,
    ⟨(W 1001 (fun (l : Lane) => l |> fun (l : Lane) => { l with keys := { l.keys with apply := some ({ lap := 999, req := { ring := 0, seq := 1, hostTag := 2, command := 0x302, lane := 0, path := 0, body := [] }, status := st_OK, index := 0, trial := [], counter := 9, touched := [], agreed := some true } : KeyApply) } })), .B, ({ lap := 999, req := { ring := 0, seq := 1, hostTag := 2, command := 0x302, lane := 0, path := 0, body := [] }, status := st_OK, index := 0, trial := [], counter := 9, touched := [], agreed := some true } : KeyApply), by decide +kernel⟩,
    ⟨(W 1001 (fun (l : Lane) => l |> fun (l : Lane) => { l with keys := { l.keys with apply := some ({ lap := 999, req := { ring := 0, seq := 1, hostTag := 2, command := 0x302, lane := 0, path := 0, body := [] }, status := st_OK, index := 0, trial := [], counter := 9, touched := [], agreed := none } : KeyApply) } })), .B, ({ lap := 999, req := { ring := 0, seq := 1, hostTag := 2, command := 0x302, lane := 0, path := 0, body := [] }, status := st_OK, index := 0, trial := [], counter := 9, touched := [], agreed := none } : KeyApply), by decide +kernel⟩,
    ⟨(W 1000), .B, by decide +kernel⟩⟩

/-- Every hypothesis of `Obligations.PacerRows` is met, clause by clause. -/
theorem hyps_PacerRows :
    (∃ s : State, ∃ i : LaneId, (s.lane i).present = true ∧ (s.lane i).power.fastOn = true)
    ∧ (∃ s : State, ∃ i : LaneId, (s.lane i).present = true ∧ (s.lane i).power.fastOn = true ∧ s.holder = some i.other ∧ (s.lane i).lapping = true ∧ (s.lane i.other).pcState ≠ pcSearch)
    ∧ (∃ s : State, ∃ i : LaneId, (s.lane i).present = true ∧ (s.lane i).power.fastOn = true ∧ s.steers i = true ∧ (s.lane i).pacer.refinOk = true ∧ (s.lane i).c Pc.pacerSource = 1 ∧ (s.lane i).pcState = pcTrack)
    ∧ (∃ s : State, ∃ i : LaneId, (s.lane i).present = true ∧ (s.lane i).power.fastOn = true ∧ s.steers i = true ∧ (s.lane i).pacer.synciOk = true ∧ (s.lane i).c Pc.pacerSource = 2 ∧ (s.lane i).pcState = pcTrack)
    ∧ (∃ s : State, ∃ i : LaneId, (s.lane i).present = true ∧ (s.lane i).power.fastOn = true ∧ s.steers i = true ∧ (s.lane i).pcState = pcAcquire ∧ (s.lane i).sourceOk = true ∧ (s.lane i).c Pc.pacerSource ≠ 3)
    ∧ (∃ s : State, ∃ i : LaneId, (s.lane i).present = true ∧ (s.lane i).power.fastOn = true ∧ s.steers i = true ∧ (s.lane i).pcState = pcHoldover ∧ (s.lane i).pacer.enteredLap + 2000000 ≤ (s.lane i).lap)
    ∧ (∃ s : State, ∃ i : LaneId, (s.lane i).present = true ∧ (s.lane i).power.fastOn = true ∧ s.steers i = true ∧ (s.lane i).pcState = pcReturn)
    ∧ (∃ s : State, ∃ i : LaneId, (s.lane i).present = true ∧ (s.lane i).power.fastOn = true ∧ (s.lane i).pacer.laps = true ∧ (s.lane i).lapIn ≠ 0)
    ∧ (∃ s : State, ∃ i : LaneId, (s.lane i).present = true ∧ (s.lane i).power.fastOn = true ∧ (s.lane i).pacer.laps = false)
    ∧ (∃ s : State, ∃ i : LaneId, (s.lane i).present = true ∧ (s.lane i).power.fastOn = true ∧ (s.lane i).pacer.laps = false ∧ (s.lane i).pacer.locked = true ∧ (s.lane i).link.parked = false ∧ (s.lane i).link.mismatchCart = false ∧ (s.lane i.other).lapping = false) :=
  ⟨⟨(W 1000), .B, by decide +kernel⟩,
    ⟨(W 1000 (fun (l : Lane) => l |> withPts [(Pc.pacerState, pcTrack)])), .B, by decide +kernel⟩,
    ⟨(W 1000 (fun (l : Lane) => l |> withPts [(Pc.pacerState, pcTrack)] |> withCfg [(Pc.pacerSource, 1)] |> fun (l : Lane) => { l with pacer := { l.pacer with refinOk := true } })), .A, by decide +kernel⟩,
    ⟨(W 1000 (fun (l : Lane) => l |> withPts [(Pc.pacerState, pcTrack)] |> withCfg [(Pc.pacerSource, 2)] |> fun (l : Lane) => { l with pacer := { l.pacer with synciOk := true } })), .A, by decide +kernel⟩,
    ⟨(W 1000 (fun (l : Lane) => l |> withPts [(Pc.pacerState, pcAcquire)] |> withCfg [(Pc.pacerSource, 1)] |> fun (l : Lane) => { l with pacer := { l.pacer with refinOk := true } })), .A, by decide +kernel⟩,
    ⟨(W 2000000 (fun (l : Lane) => l |> withPts [(Pc.pacerState, pcHoldover)])), .A, by decide +kernel⟩,
    ⟨(W 1000 (fun (l : Lane) => l |> withPts [(Pc.pacerState, pcReturn)])), .A, by decide +kernel⟩,
    ⟨(W 1001), .B, by decide +kernel⟩,
    ⟨(W 1000 (fun (l : Lane) => l |> fun (l : Lane) => { l with pacer := { l.pacer with laps := false } })), .B, by decide +kernel⟩,
    ⟨{ W 1000 with b := (W 1000 (fun l => l |> fun (l : Lane) => { l with pacer := { l.pacer with laps := false } })).b, a := (W 1000 (fun l => l |> fun (l : Lane) => { l with pacer := { l.pacer with laps := false } })).a }, .B, by decide +kernel⟩⟩

/-- Every hypothesis of `Obligations.TeamTime` is met, clause by clause. -/
theorem hyps_TeamTime :
    (∃ s : State, ∃ i : LaneId, ∃ prio, ∃ clock, (s.lane i).active = true ∧ s.chassis.variant.team = true ∧ (s.lane i).p Pc.ptpState ≠ 0 ∧ (s.lane i).pacer.best = none ∧ betterMaster prio clock ((s.lane i).cn Pc.ptpPriority1) (s.lane i).serial = true)
    ∧ (∃ s : State, ∃ i : LaneId, (s.lane i).active = true ∧ s.chassis.variant.team = true ∧ (s.lane i).p Pc.ptpState ≠ 0)
    ∧ (∃ s : State, ∃ i : LaneId, ∃ port, ∃ prio, ∃ clock, (s.lane i).active = true ∧ s.chassis.variant.team = true ∧ (s.lane i).p Pc.ptpState ≠ 0 ∧ (s.lane i).pacer.best = some (prio, clock, port) ∧ (s.lane i).ptpFollows = true)
    ∧ (∃ s : State, ∃ i : LaneId, (s.lane i).active = true ∧ (s.lane i).ptpFollows = false)
    ∧ (∃ s : State, ∃ i : LaneId, (s.lane i).active = true ∧ (s.lane i).ptpFollows = true) :=
  ⟨⟨(W 1000 (fun (l : Lane) => l |> withPts [(Pc.ptpState, 1)])), .B, 0, 0, by decide +kernel⟩,
    ⟨(W 1000 (fun (l : Lane) => l |> withPts [(Pc.ptpState, 1)] |> fun (l : Lane) => { l with pacer := { l.pacer with syncSeq := 65535 } })), .B, by decide +kernel⟩,
    ⟨(W 1000 (fun (l : Lane) => l |> withPts [(Pc.ptpState, 2)] |> fun (l : Lane) => { l with pacer := { l.pacer with best := some (5, 9, 1) } })), .B, 1, 5, 9, by decide +kernel⟩,
    ⟨(W 1000 (fun (l : Lane) => l |> withPts [(Pc.ptpState, 1)])), .B, by decide +kernel⟩,
    ⟨(W 1000 (fun (l : Lane) => l |> withPts [(Pc.ptpState, 2)])), .B, by decide +kernel⟩⟩

/-- Every hypothesis of `Obligations.EpochRows` is met, clause by clause. -/
theorem hyps_EpochRows :
    (∃ s : State, ∃ i : LaneId, (s.lane i).active = true ∧ (s.lane i).lapIn = 0 ∧ (s.lane i).host.trial = none)
    ∧ (∃ s : State, ∃ i : LaneId, ∃ m, (s.lane i).active = true ∧ (s.lane i).lapIn = 0 ∧ (s.lane i).host.trial = some m ∧ m ≠ (s.lane i).cfg)
    ∧ (∃ s : State, ∃ i : LaneId, ∃ img, (s.lane i).active = true ∧ (s.lane i).sealing = some img ∧ (s.lane i).lapIn < 4)
    ∧ (∃ s : State, ∃ i : LaneId, ∃ img, (s.lane i).active = true ∧ (s.lane i).sealing = some img ∧ (s.lane i).lapIn = 4)
    ∧ (∃ s : State, ∃ i : LaneId, (s.lane i).active = true ∧ (s.lane i).lapIn = 160 ∧ (s.lane i).host.trial = none)
    ∧ (∃ s : State, ∃ i : LaneId, (s.lane i).active = true ∧ s.holder = some i ∧ (s.lane i).lapIn = 190 ∧ (s.lane i).host.due ((s.lane i).epoch + 1) ≠ [] ∧ (s.lane i).host.trial.isSome = true ∧ (s.lane i.other).active = true ∧ (s.lane i.other).link.state = .standby ∧ s.mixed = false ∧ (s.lane i).host.trial = (s.lane i.other).host.trial ∧ (s.lane i).host.due ((s.lane i).epoch + 1) = (s.lane i.other).host.due ((s.lane i).epoch + 1))
    ∧ (∃ s : State, ∃ i : LaneId, (s.lane i).active = true ∧ s.holder = some i ∧ (s.lane i).lapIn = 190 ∧ (s.lane i).host.due ((s.lane i).epoch + 1) ≠ [] ∧ (s.lane i).host.trial.isSome = true ∧ (s.lane i.other).active = true ∧ (s.lane i.other).link.state = .standby ∧ s.mixed = false ∧ (s.lane i).host.trial ≠ (s.lane i.other).host.trial) :=
  ⟨⟨(W 1000), .B, by decide +kernel⟩,
    ⟨(W 1000 (fun (l : Lane) => l |> fun (l : Lane) => { l with host := { l.host with trial := some [(0x91000, 1)] } })), .B, [(0x91000, 1)], by decide +kernel⟩,
    ⟨(W 1003 (fun (l : Lane) => l |> fun (l : Lane) => { l with sealing := some ({ lane := .B, epoch := 4, baton := 1, cfg := [], pts := [], stat := [], phaseGen := [], packGen := [], unready := [], identified := [], written := [], partner := none } : Image) })), .B, ({ lane := .B, epoch := 4, baton := 1, cfg := [], pts := [], stat := [], phaseGen := [], packGen := [], unready := [], identified := [], written := [], partner := none } : Image), by decide +kernel⟩,
    ⟨(W 1004 (fun (l : Lane) => l |> fun (l : Lane) => { l with sealing := some ({ lane := .B, epoch := 4, baton := 1, cfg := [], pts := [], stat := [], phaseGen := [], packGen := [], unready := [], identified := [], written := [], partner := none } : Image) })), .B, ({ lane := .B, epoch := 4, baton := 1, cfg := [], pts := [], stat := [], phaseGen := [], packGen := [], unready := [], identified := [], written := [], partner := none } : Image), by decide +kernel⟩,
    ⟨(W 1160), .B, by decide +kernel⟩,
    ⟨(W 1190 (fun (l : Lane) => l |> fun (l : Lane) => { l with host := { l.host with commits := [({ ring := 0, seq := 1, hostTag := 0, target := 6, held := false, writes := [] } : Commit)], trial := some [(0x91000, 1)] } })), .A, by decide +kernel⟩,
    ⟨{ W 1190 (fun l => l |> fun (l : Lane) => { l with host := { l.host with commits := [({ ring := 0, seq := 1, hostTag := 0, target := 6, held := false, writes := [] } : Commit)], trial := some [(0x91000, 1)] } }) with b := (W 1190 (fun l => l |> fun (l : Lane) => { l with host := { l.host with commits := [({ ring := 0, seq := 1, hostTag := 0, target := 6, held := false, writes := [] } : Commit)], trial := some [] } })).b }, .A, by decide +kernel⟩⟩

/-- Every hypothesis of `Obligations.SupplyRows` is met, clause by clause. -/
theorem hyps_SupplyRows :
    (∃ s : State, ∃ i : LaneId, (s.lane i).alwaysOn = true ∧ (s.lane i).met.lossTicks = none)
    ∧ (∃ s : State, ∃ i : LaneId, ∃ t0, (s.lane i).alwaysOn = true ∧ (s.lane i).met.lossTicks = some t0)
    ∧ (∃ s : State, ∃ i : LaneId, (s.lane i).present = true ∧ (s.lane i).power.fastOn = false ∧ (s.lane i).therm.shut = false ∧ (s.lane i).power.power ≠ pwAsleep)
    ∧ (∃ s : State, ∃ i : LaneId, ∃ t0, (s.lane i).present = true ∧ (s.lane i).met.lossTicks = some t0) :=
  ⟨⟨(W 1000 (fun (l : Lane) => l |> fun (l : Lane) => l.met! (fun m => { m with legal := 77 }))), .B, by decide +kernel⟩,
    ⟨(W 1000 (fun (l : Lane) => l |> fun (l : Lane) => l.met! (fun m => { m with lossTicks := some 77 }))), .B, 77, by decide +kernel⟩,
    ⟨{ W 1000 with b := (W 1000 (fun l => l |> fun (l : Lane) => { l with power := { l.power with fastOn := false } } |> fun (l : Lane) => { l with link := { l.link with state := .reset } })).b }, .B, by decide +kernel⟩,
    ⟨(W 1000 (fun (l : Lane) => l |> fun (l : Lane) => l.met! (fun m => { m with lossTicks := some 77 }))), .B, 77, by decide +kernel⟩⟩

/-- Every hypothesis of `Obligations.SleepRows` is met, clause by clause. -/
theorem hyps_SleepRows :
    (∃ s : State, ∃ i : LaneId, ∃ p, (s.lane i).active = true ∧ s.holder = some i ∧ (s.lane i).power.sleep = some p ∧ p.checked = false ∧ (s.lane i).epoch + 1 = p.epoch ∧ (s.lane i).lapIn = 160 ∧ s.sleepCause (s.lane i) = 0)
    ∧ (∃ s : State, ∃ i : LaneId, ∃ p, (s.lane i).active = true ∧ s.holder = some i ∧ (s.lane i).power.sleep = some p ∧ p.checked = false ∧ (s.lane i).epoch + 1 = p.epoch ∧ (s.lane i).lapIn = 160 ∧ s.sleepCause (s.lane i) ≠ 0)
    ∧ (∃ s : State, ∃ i : LaneId, ∃ p, (s.lane i).active = true ∧ s.holder = some i ∧ (s.lane i).power.sleep = some p ∧ p.checked = true ∧ p.committed = false ∧ (s.lane i).epoch = p.epoch ∧ (s.lane i).lapIn = 4)
    ∧ (∃ s : State, ∃ i : LaneId, ∃ p, (s.lane i).active = true ∧ (s.lane i).power.sleep = some p ∧ p.committed = true ∧ (s.lane i).epoch = p.epoch ∧ (s.lane i).lapIn = 190)
    ∧ (∃ s : State, ∃ i : LaneId, ∃ p, (s.lane i).active = true ∧ (s.lane i).power.sleep = some p ∧ p.committed = true ∧ (s.lane i).epoch = p.epoch ∧ (s.lane i).lapIn = 199 ∧ s.a.power.latched = none ∧ s.b.power.latched = none)
    ∧ (∃ s : State, ∃ i : LaneId, ∃ e, (s.lane i).active = true ∧ s.holder = some i ∧ (s.lane i).c Pw.autoSleep = 1 ∧ (s.lane i).power.power = pwReady ∧ (s.lane i).power.sleep = none ∧ (s.lane i).power.readySince = some e ∧ e + 1000 * (s.lane i).cn Pw.sleepIdleS ≤ (s.lane i).epoch ∧ (s.lane i).ttWithin ((s.lane i).cn Pw.sleepMinS) = false)
    ∧ (∃ s : State, ∃ i : LaneId, ∃ r : Request, (s.lane i).active = true ∧ (s.lane i).power.restart = some ((s.lane i).epoch, r) ∧ (s.lane i).lapIn = 199 ∧ (s.lane i).link.parked = false ∧ (s.lane i).power.fastOn = true) :=
  ⟨⟨(W 1160 (fun (l : Lane) => l |> fun (l : Lane) => { l with power := { l.power with sleep := some ({ epoch := 6, req := none } : SleepPrep) } })), .A, ({ epoch := 6, req := none } : SleepPrep), by decide +kernel⟩,
    ⟨(W 1160 (fun (l : Lane) => l |> fun (l : Lane) => { l with power := { l.power with sleep := some ({ epoch := 6, req := none } : SleepPrep) } } |> withPts [(Pk.packState 0, pkRun)])), .A, ({ epoch := 6, req := none } : SleepPrep), by decide +kernel⟩,
    ⟨(W 1004 (fun (l : Lane) => l |> fun (l : Lane) => { l with power := { l.power with sleep := some ({ epoch := 5, req := none, checked := true } : SleepPrep) } })), .A, ({ epoch := 5, req := none, checked := true } : SleepPrep), by decide +kernel⟩,
    ⟨(W 1190 (fun (l : Lane) => l |> fun (l : Lane) => { l with power := { l.power with sleep := some ({ epoch := 5, req := none, checked := true, committed := true } : SleepPrep) } })), .A, ({ epoch := 5, req := none, checked := true, committed := true } : SleepPrep), by decide +kernel⟩,
    ⟨(W 1199 (fun (l : Lane) => l |> fun (l : Lane) => { l with power := { l.power with sleep := some ({ epoch := 5, req := none, checked := true, committed := true } : SleepPrep) } })), .A, ({ epoch := 5, req := none, checked := true, committed := true } : SleepPrep), by decide +kernel⟩,
    ⟨(W 1000000000 (fun (l : Lane) => l |> withCfg [(Pw.autoSleep, 1)] |> fun (l : Lane) => { l with power := { l.power with readySince := some 1 } })), .A, 1, by decide +kernel⟩,
    ⟨(W 1199 (fun (l : Lane) => l |> fun (l : Lane) => { l with power := { l.power with restart := some (5, { ring := 0, seq := 1, hostTag := 2, command := 0x505, lane := 0, path := 0, body := [] }) } })), .A, { ring := 0, seq := 1, hostTag := 2, command := 0x505, lane := 0, path := 0, body := [] }, by decide +kernel⟩⟩

/-- Every hypothesis of `Obligations.WakeRows` is met, clause by clause. -/
theorem hyps_WakeRows :
    (∃ s : State, ∃ i : LaneId, (s.lane i).alwaysOn = true ∧ (s.lane i).power.power = 4)
    ∧ (∃ s : State, ∃ i : LaneId, ∃ source, (s.lane s.wakeLane).wakes source = true ∧ (s.lane i).present = true ∧ (s.lane i).power.power = pwAsleep)
    ∧ (∃ s : State, ∃ source : Nat, ∃ p : SleepPrep, (s.lane s.wakeLane).wakes source = true ∧ (s.lane s.wakeLane).power.sleep = some p ∧ (s.lane s.wakeLane).power.power ≠ pwAsleep ∧ (s.lane s.wakeLane).power.power ≠ pwWaking ∧ p.committed = true)
    ∧ (∃ s : State, ∃ source : Nat, ∃ p : SleepPrep, (s.lane s.wakeLane).wakes source = true ∧ (s.lane s.wakeLane).power.sleep = some p ∧ (s.lane s.wakeLane).power.power ≠ pwAsleep ∧ (s.lane s.wakeLane).power.power ≠ pwWaking ∧ p.committed = false)
    ∧ (∃ s : State, ∃ i : LaneId, ∃ id, ∃ e, (s.lane i).alwaysOn = true ∧ (i = .A ∨ s.a.alwaysOn = false) ∧ (s.lane i).ttReady id = some e)
    ∧ (∃ s : State, ∃ i : LaneId, (s.lane i).alwaysOn = true)
    ∧ (∃ s : State, ∃ i : LaneId, (s.lane i).power.power = pwWaking ∧ (s.lane i).power.keeper = true ∧ (s.lane i).link.want = false ∧ s.arbiter.grant = none ∧ (s.lane i.other).present = true ∧ (s.lane i.other).power.power = pwWaking ∧ (s.lane i.other).power.keeper = false ∧ (s.lane i.other).power.wakeStartMs + 3000 ≤ (s.lane i.other).legalMs) :=
  ⟨⟨(W 1000 (fun (l : Lane) => l |> fun (l : Lane) => { l with power := { l.power with power := 4 } })), .B, by decide +kernel⟩,
    ⟨(W 1000 (fun (l : Lane) => l |> fun (l : Lane) => { l with power := { l.power with power := 4 } })), .B, 7, by decide +kernel⟩,
    ⟨(W 1000 (fun (l : Lane) => l |> fun (l : Lane) => { l with power := { l.power with power := 3, sleep := some { epoch := 6, req := none, checked := true, committed := true } } })), 7, ({ epoch := 6, req := none, checked := true, committed := true } : SleepPrep), by decide +kernel⟩,
    ⟨(W 1000 (fun (l : Lane) => l |> fun (l : Lane) => { l with power := { l.power with power := 3, sleep := some { epoch := 6, req := none, checked := true, committed := false } } })), 7, ({ epoch := 6, req := none, checked := true, committed := false } : SleepPrep), by decide +kernel⟩,
    ⟨(W 1000 (fun (l : Lane) => l |> withPts [(Cal.clockState, 0)] |> fun (l : Lane) => { l with power := { l.power with tt := [{ id := 3, arrivalMs := 5, leadS := 1 }] } })), .A, 3, ({ id := 3, arrivalMs := 5, leadS := 1 } : TtEntry), by decide +kernel⟩,
    ⟨(W 1000), .B, by decide +kernel⟩,
    ⟨{ W 1000 (fun l => l |> fun (l : Lane) => { l with power := { l.power with power := 5, keeper := false } } |> fun (l : Lane) => l.met! (fun m => { m with legal := 24000 }) |> fun (l : Lane) => { l with link := { l.link with want := false } }) with arbiter := {}, b := (W 1000 (fun l => l |> fun (l : Lane) => { l with power := { l.power with power := 5, keeper := true } } |> fun (l : Lane) => l.met! (fun m => { m with legal := 24000 }) |> fun (l : Lane) => { l with link := { l.link with want := false } })).b }, .B, by decide +kernel⟩⟩

/-- Every hypothesis of `Obligations.HealthRows` is met, clause by clause. -/
theorem hyps_HealthRows :
    (∃ s : State, ∃ i : LaneId, ∃ h : Housekeeping, ∃ tm : Int, (s.lane i).present = true ∧ (s.lane i).power.fastOn = true ∧ tm = ((s.lane i).roundSensors h).1.roundMax h)
    ∧ (∃ s : State, ∃ i : LaneId, ∃ fan, (s.lane i).present = true ∧ (s.lane i).power.fastOn = true ∧ fan < 4 ∧ (fanRounds ≤ UMap.get (fun _ => 0) (s.lane i).therm.fans fan) ∧ (s.lane i).therm.fanFaults.contains fan = false)
    ∧ (∃ s : State, ∃ i : LaneId, (s.lane i).present = true ∧ (s.lane i).power.fastOn = true)
    ∧ (∃ s : State, ∃ i : LaneId, (s.lane i).present = true ∧ (s.lane i).power.fastOn = true ∧ (s.lane i).power.power ≠ 4)
    ∧ (∃ s : State, ∃ i : LaneId, (s.lane i).alwaysOn = true ∧ (s.lane i).therm.shut = true)
    ∧ (∃ s : State, ∃ i : LaneId, (s.lane i).mayRestart = true) :=
  ⟨⟨(W 1000), .B, ⟨List.replicate 14 (some 1280), [], List.replicate 4 0, List.replicate 4 0, 0, 48000, 25⟩, 1280, by decide +kernel⟩,
    ⟨(W 1000 (fun (l : Lane) => l |> fun (l : Lane) => { l with therm := { l.therm with fans := [(3, 40)] } })), .B, 3, by decide +kernel⟩,
    ⟨(W 1000), .B, by decide +kernel⟩,
    ⟨(W 1000), .B, by decide +kernel⟩,
    ⟨(W 1000 (fun (l : Lane) => l |> fun (l : Lane) => { l with therm := { l.therm with shut := true } })), .B, by decide +kernel⟩,
    ⟨(W 1000 (fun (l : Lane) => l |> fun (l : Lane) => { l with therm := { l.therm with shut := true, coolS := 300 } })), .B, by decide +kernel⟩⟩

/-- Every hypothesis of `Obligations.TeamRows` is met, clause by clause. -/
theorem hyps_TeamRows :
    (∃ s : State, ∃ i : LaneId, ∃ f : TeamFrame, (s.lane i).active = true ∧ s.chassis.variant.team = true ∧ levelOf (s.lane i).cfg f.teamId = none ∧ f.ttl ≤ 1)
    ∧ (∃ s : State, ∃ i : LaneId, ∃ f : TeamFrame, (s.lane i).active = true ∧ s.chassis.variant.team = true ∧ levelOf (s.lane i).cfg f.teamId = none ∧ 1 < f.ttl ∧ (s.lane i).link.grant = true)
    ∧ (∃ s : State, ∃ i : LaneId, ∃ f : TeamFrame, (s.lane i).active = true ∧ s.chassis.variant.team = true ∧ levelOf (s.lane i).cfg f.teamId = none ∧ 1 < f.ttl ∧ (s.lane i).link.grant = false)
    ∧ (∃ s : State, ∃ i : LaneId, ∃ f : TeamFrame, ∃ k : Nat, (s.lane i).active = true ∧ s.chassis.variant.team = true ∧ levelOf (s.lane i).cfg f.teamId = some k ∧ (s.lane i).isOwn k f = false ∧ 1 < f.ttl ∧ f.tagOk = false)
    ∧ (∃ s : State, ∃ i : LaneId, ∃ f : TeamFrame, ∃ k : Nat, (s.lane i).active = true ∧ s.chassis.variant.team = true ∧ levelOf (s.lane i).cfg f.teamId = some k ∧ (s.lane i).isOwn k f = false ∧ 1 < f.ttl ∧ f.tagOk = true ∧ ((s.lane i).teamKey k).2 = true ∧ (f.sender, f.net, f.seq) ∈ ((s.lane i).lvl k).heard)
    ∧ (∃ s : State, ∃ i : LaneId, ∃ f : TeamFrame, ∃ k : Nat, ∃ serial, ∃ epoch, ∃ st, ∃ ps, ∃ mask, ∃ gen, (s.lane i).active = true ∧ s.chassis.variant.team = true ∧ levelOf (s.lane i).cfg f.teamId = some k ∧ (s.lane i).isOwn k f = false ∧ 1 < f.ttl ∧ f.tagOk = true ∧ ((s.lane i).teamKey k).2 = true ∧ (f.sender, f.net, f.seq) ∉ ((s.lane i).lvl k).heard ∧ (s.lane i).addressed k f = true ∧ f.payload = .beacon serial epoch st ps mask gen)
    ∧ (∃ s : State, ∃ i : LaneId, ∃ f : TeamFrame, ∃ k : Nat, (s.lane i).active = true ∧ s.chassis.variant.team = true ∧ levelOf (s.lane i).cfg f.teamId = some k ∧ (s.lane i).isOwn k f = true ∧ f.beaconOf (s.lane i).epoch = true)
    ∧ (∃ s : State, ∃ i : LaneId, ∃ f : TeamFrame, ∃ k : Nat, (s.lane i).active = true ∧ s.chassis.variant.team = true ∧ levelOf (s.lane i).cfg f.teamId = some k ∧ (s.lane i).isOwn k f = true ∧ f.beaconOf (s.lane i).epoch = false)
    ∧ (∃ s : State, ∃ i : LaneId, (s.lane i).active = true ∧ s.chassis.variant.team = true ∧ (s.lane i).lapIn = 10 ∧ usedLevels (s.lane i).cfg ≠ [])
    ∧ (∃ s : State, ∃ i : LaneId, ∃ k, (s.lane i).active = true ∧ s.chassis.variant.team = true ∧ (s.lane i).lapIn = 10 ∧ k ∈ usedLevels (s.lane i).cfg ∧ (s.lane i).link.grant = true ∧ (∀ j ∈ usedLevels (s.lane i).cfg, (s.lane i).teamKeyHeld j = true ∧ ((s.lane i).askKey engTeam (teamSlot j) 3).2 = true))
    ∧ (∃ s : State, ∃ i : LaneId, ∃ back1 : Bool, ∃ back2 : Bool, (s.lane i).active = true ∧ s.chassis.variant.team = true ∧ (back1 = true ↔ ∀ k ∈ usedLevels (s.lane i).cfg, (k, 1, 0) ∈ (s.lane i).team.returns ∧ (k, 1, 1) ∈ (s.lane i).team.returns) ∧ (back2 = true ↔ ∀ k ∈ usedLevels (s.lane i).cfg, (k, 2, 0) ∈ (s.lane i).team.returns ∧ (k, 2, 1) ∈ (s.lane i).team.returns) ∧ (s.lane i).lapIn = 60 ∧ (s.lane i).team.beaconEpoch = some (s.lane i).epoch)
    ∧ (∃ s : State, ∃ i : LaneId, ∃ k, ∃ m, (s.lane i).active = true ∧ s.chassis.variant.team = true ∧ (s.lane i).lapIn = 20 ∧ k ∈ usedLevels (s.lane i).cfg ∧ m < 8)
    ∧ (∃ s : State, ∃ i : LaneId, ∃ k, ∃ c, (s.lane i).active = true ∧ s.chassis.variant.team = true ∧ k < 8 ∧ ((s.lane i).lvl k).change = some c ∧ c.epoch ≤ (s.lane i).teamEpoch k)
    ∧ (∃ s : State, ∃ i : LaneId, ∃ k, ∃ a, (s.lane i).active = true ∧ s.chassis.variant.team = true ∧ ((s.lane i).lvl k).arm = some a ∧ a.armed = false ∧ a.epoch ≤ (s.lane i).teamEpoch k ∧ (s.lane i).memberState k (lvlMember (s.lane i).cfg k) = 2 ∧ (s.lane i).inReset 4 0 = false ∧ (s.lane i).armed = none ∧ (s.lane i).acq.records.length < 16 ∧ a.mib ≤ (s.lane i).pn Ta.acqFreeMib) :=
  ⟨⟨(W 1000), .B, ⟨1, 0, 3, 5, 0, 1, 9, 0, 0, true, 0, .ack 0⟩, by decide +kernel⟩,
    ⟨(W 1000), .A, ⟨2, 0, 3, 5, 0, 1, 9, 0, 0, true, 0, .ack 0⟩, by decide +kernel⟩,
    ⟨(W 1000), .B, ⟨2, 0, 3, 5, 0, 1, 9, 0, 0, true, 0, .ack 0⟩, by decide +kernel⟩,
    ⟨(W 1000 (fun (l : Lane) => l |> withCfg [(Team.teamLvl 0, 0x80018000)])), .B, ⟨2, 0, 3, 5, 0, 1, 9, 0, 0, false, 0, .ack 0⟩, 0, by decide +kernel⟩,
    ⟨(W 1000 (fun (l : Lane) => l |> withCfg [(Team.teamLvl 0, 0x80018000)] |> withPts [(Key.storeSerialOk, 1)] |> withCfg [(Key.roleTeam, 21)] |> fun (l : Lane) => { l with keys := { l.keys with slots := [(0, factorySlot 0x100100), (21, { state := 1, attr := 0x100020, ver := 1, parentVer := 1 }), (teamSlot 0, { state := 1, attr := 0x100020, ver := 1, parent := 21, parentVer := 1 })] } } |> fun (l : Lane) => { l with team := { l.team with levels := [(0, { heard := [(5, 1, 9)] })] } })), .B, ⟨2, 0, 3, 5, 0, 1, 9, 0, 0, true, 0, .ack 0⟩, 0, by decide +kernel⟩,
    ⟨(W 1000 (fun (l : Lane) => l |> withCfg [(Team.teamLvl 0, 0x80018000)] |> withPts [(Key.storeSerialOk, 1)] |> withCfg [(Key.roleTeam, 21)] |> fun (l : Lane) => { l with keys := { l.keys with slots := [(0, factorySlot 0x100100), (21, { state := 1, attr := 0x100020, ver := 1, parentVer := 1 }), (teamSlot 0, { state := 1, attr := 0x100020, ver := 1, parent := 21, parentVer := 1 })] } })), .B, ⟨2, 0, 3, 5, 1, 1, 9, 0, 0, true, 0, .beacon 7 5 3 1 0 0⟩, 0, 7, 5, 3, 1, 0, 0, by decide +kernel⟩,
    ⟨(W 1000 (fun (l : Lane) => l |> withCfg [(Team.teamLvl 0, 0x80018000)])), .B, ⟨1, 1, 3, 0, 0, 2, 9, 0, 0, false, 0, .beacon 0 5 3 1 0 0⟩, 0, by decide +kernel⟩,
    ⟨(W 1000 (fun (l : Lane) => l |> withCfg [(Team.teamLvl 0, 0x80018000)])), .B, ⟨1, 1, 3, 0, 0, 2, 9, 0, 0, false, 0, .beacon 0 4 3 1 0 0⟩, 0, by decide +kernel⟩,
    ⟨(W 1010 (fun (l : Lane) => l |> withCfg [(Team.teamLvl 0, 0x80018000)])), .B, by decide +kernel⟩,
    ⟨(W 1010 (fun (l : Lane) => l |> withCfg [(Team.teamLvl 0, 0x80018000)] |> withPts [(Key.storeSerialOk, 1)] |> withCfg [(Key.roleTeam, 21)] |> fun (l : Lane) => { l with keys := { l.keys with slots := [(0, factorySlot 0x100100), (21, { state := 1, attr := 0x100020, ver := 1, parentVer := 1 }), (teamSlot 0, { state := 1, attr := 0x100020, ver := 1, parent := 21, parentVer := 1 })] } })), .A, 0, by decide +kernel⟩,
    ⟨(W 1060 (fun (l : Lane) => l |> withCfg [(Team.teamLvl 0, 0x80018000)] |> fun (l : Lane) => { l with team := { l.team with beaconEpoch := some 5, run1 := 15, returns := [(0, 1, 0), (0, 1, 1), (0, 2, 0)] } })), .B, true, false, by decide +kernel⟩,
    ⟨(W 1020 (fun (l : Lane) => l |> withCfg [(Team.teamLvl 0, 0x80018000)])), .B, 0, 7, by decide +kernel⟩,
    ⟨(W 1000 (fun (l : Lane) => l |> fun (l : Lane) => { l with team := { l.team with levels := [(7, { change := some ({ mask := 3, keyGen := 2, epoch := 5 } : TeamChange) })] } })), .B, 7, ({ mask := 3, keyGen := 2, epoch := 5 } : TeamChange), by decide +kernel⟩,
    ⟨(W 1000 (fun (l : Lane) => l |> withCfg [(Team.teamLvl 0, 0x80018000)] |> withPts [(Team.memberStates 0, 2)] |> fun (l : Lane) => { l with team := { l.team with levels := [(0, { arm := some ({ id := 1, epoch := 5, preMs := 10, postMs := 20, mib := 16 } : TeamArm) })] } } |> withPts [(Ta.acqFreeMib, 16)])), .B, 0, ({ id := 1, epoch := 5, preMs := 10, postMs := 20, mib := 16 } : TeamArm), by decide +kernel⟩⟩

/-- Every hypothesis of `Obligations.BusRows` is met, clause by clause. -/
theorem hyps_BusRows :
    (∃ s : State, ∃ i : LaneId, ∃ b : Nat, ∃ f : CanFrame, ∃ e : CanEnd, b < 4 ∧ (s.lane i).active = true ∧ (s.lane i).inReset 2 b = false ∧ f.remote = false ∧ (s.lane i).p (Can.canState b) ∈ [canActive, canPassive, canListen] ∧ e.missed ≠ some (s.lane i).id ∧ rxObject (s.lane i).cfg b f = none)
    ∧ (∃ s : State, ∃ i : LaneId, ∃ b : Nat, ∃ f : CanFrame, ∃ e : CanEnd, ∃ n, b < 4 ∧ (s.lane i).active = true ∧ (s.lane i).inReset 2 b = false ∧ f.remote = false ∧ (s.lane i).p (Can.canState b) ∈ [canActive, canPassive, canListen] ∧ e.missed ≠ some (s.lane i).id ∧ rxObject (s.lane i).cfg b f = some n)
    ∧ (∃ s : State, ∃ i : LaneId, ∃ b : Nat, ∃ f : CanFrame, ∃ e : CanEnd, b < 4 ∧ (s.lane i).active = true ∧ (s.lane i).inReset 2 b = false ∧ f.remote = false ∧ (s.lane i).p (Can.canState b) ∈ [canActive, canPassive, canListen] ∧ e.missed = some (s.lane i).id)
    ∧ (∃ s : State, ∃ i : LaneId, ∃ b : Nat, ∃ f : CanFrame, b < 4 ∧ (s.lane i).active = true ∧ f.remote = true)
    ∧ (∃ s : State, ∃ i : LaneId, ∃ b : Nat, ∃ c, ∃ k, b < 4 ∧ (s.lane i).active = true ∧ (s.lane i).inReset 2 b = false ∧ ((s.lane i).bus b).col b k ≠ 0xFFFFFFFF ∧ c = (s.lane i).canCycle b ∧ k < 32)
    ∧ (∃ s : State, ∃ i : LaneId, ∃ b : Nat, b < 4 ∧ (s.lane i).active = true ∧ (s.lane i).inReset 2 b = true)
    ∧ (∃ s : State, ∃ i : LaneId, ∃ b : Nat, b < 4 ∧ (s.lane i).active = true ∧ (s.lane i).inReset 2 b = false)
    ∧ (∃ s : State, ∃ i : LaneId, ∃ b : Nat, ∃ q : CanReq, b < 4 ∧ (s.lane i).active = true ∧ (s.lane i).inReset 2 b = false ∧ s.holder = some i ∧ ((s.lane i).bus b).flight = some q)
    ∧ (∃ s : State, ∃ i : LaneId, ∃ b : Nat, ∃ q : CanReq, b < 4 ∧ (s.lane i).active = true ∧ (s.lane i).inReset 2 b = false ∧ s.holder = some i.other ∧ (s.lane i.other).inReset 2 b = false ∧ ((s.lane i.other).bus b).flight = some q ∧ ((s.lane i).bus b).flight = some q ∧ (s.lane i).link.granted = false)
    ∧ (∃ s : State, ∃ i : LaneId, ∃ b : Nat, b < 4 ∧ (s.lane i).active = true ∧ (s.lane i).inReset 2 b = false ∧ s.holder = none)
    ∧ (∃ s : State, ∃ i : LaneId, ∃ b : Nat, b < 4 ∧ (s.lane i).active = true ∧ (s.lane i).p (Can.canState b) ∈ [canActive, canPassive, canBusOff])
    ∧ (∃ s : State, ∃ i : LaneId, ∃ b : Nat, b < 4 ∧ (s.lane i).active = true ∧ (s.lane i).p (Can.canState b) = canBusOff ∧ ((s.lane i).c (Can.boffAuto b) = 1 ∨ ((s.lane i).bus b).recovering = true))
    ∧ (∃ s : State, ∃ i : LaneId, ∃ b : Nat, ∃ frame, b < 4 ∧ (s.lane i).active = true ∧ s.asleep = false ∧ (s.lane i).canWakes b frame = true) :=
  ⟨⟨(W 1000 (fun (l : Lane) => l |> withPts [(Can.canState 3, canListen)])), .B, 3, ⟨false, 5, false, false, false, [1, 2]⟩, ⟨some .A, true⟩, by decide +kernel⟩,
    ⟨(W 1000 (fun (l : Lane) => l |> withPts [(Can.canState 3, canListen)] |> withCfg [(Can.rxCfg 3 63, 0x80000005)])), .B, 3, ⟨false, 5, false, false, false, [1, 2]⟩, ⟨none, false⟩, 63, by decide +kernel⟩,
    ⟨(W 1000 (fun (l : Lane) => l |> withPts [(Can.canState 3, canListen)])), .B, 3, ⟨false, 5, false, false, false, [1, 2]⟩, ⟨some .B, true⟩, by decide +kernel⟩,
    ⟨(W 1000), .B, 3, ⟨false, 5, false, false, true, [1, 2]⟩, by decide +kernel⟩,
    ⟨(W 1000 (fun (l : Lane) => l |>.setBus 3 { bank := [(Can.colOfsUs 3 31, 7)] })), .B, 3, ((W 1000 (fun l => l |>.setBus 3 { bank := [(Can.colOfsUs 3 31, 7)] })).lane .B).canCycle 3, 31, by decide +kernel⟩,
    ⟨(W 1000 (fun (l : Lane) => l |> fun (l : Lane) => { l with host := { l.host with resets := [{ code := 2, unit := 3, lanes := 0, req := { ring := 0, seq := 1, hostTag := 2, command := 80, lane := 0, path := 0, body := [2, 0, 3, 0] } }] } })), .B, 3, by decide +kernel⟩,
    ⟨(W 1000 (fun (l : Lane) => l |>.setBus 3 { column := some 3, pending := [{ obj := 2, cell := true, payload := [] }] })), .B, 3, by decide +kernel⟩,
    ⟨(W 1000 (fun (l : Lane) => l |>.setBus 3 { flight := some { obj := 2, cell := false, payload := [1] } })), .A, 3, { obj := 2, cell := false, payload := [1] }, by decide +kernel⟩,
    ⟨(W 1000 (fun (l : Lane) => l |>.setBus 3 { flight := some { obj := 2, cell := false, payload := [1] } } |> fun (l : Lane) => { l with link := { l.link with granted := decide (l.id = .A) } })), .B, 3, { obj := 2, cell := false, payload := [1] }, by decide +kernel⟩,
    ⟨{ W 1000 with arbiter := {} }, .B, 3, by decide +kernel⟩,
    ⟨(W 1000 (fun (l : Lane) => l |> withPts [(Can.canState 3, canActive)])), .B, 3, by decide +kernel⟩,
    ⟨(W 1000 (fun (l : Lane) => l |> withPts [(Can.canState 3, canBusOff)] |>.setBus 3 { recovering := true })), .B, 3, by decide +kernel⟩,
    ⟨(W 1000 (fun (l : Lane) => l |> withCfg [(Can.wakeMode 3, 1)] |>.setBus 3 { asleep := true })), .B, 3, none, by decide +kernel⟩⟩

/-- Every hypothesis of `Obligations.MastRows` is met, clause by clause. -/
theorem hyps_MastRows :
    (∃ s : State, ∃ i : LaneId, ∃ port : Nat, port < 2 ∧ s.chassis.variant.mast = true ∧ (s.lane i).active = true)
    ∧ (∃ s : State, ∃ i : LaneId, ∃ port : Nat, port < 2 ∧ s.chassis.variant.mast = true ∧ (s.lane i).active = true ∧ s.holder = some i ∧ (s.lane i).inReset 3 0 = false ∧ ((s.lane i).mastPort port).active = false ∧ ((s.lane i).mastPort port).inBand = true ∧ ((s.lane i).mastPort port).nextCycle ≤ ((s.lane i).mastPort port).cycles ∧ ((s.lane i).mastPort port).repeatDue = true)
    ∧ (∃ s : State, ∃ i : LaneId, ∃ port : Nat, ∃ n, port < 2 ∧ s.chassis.variant.mast = true ∧ (s.lane i).active = true ∧ s.holder = some i ∧ (s.lane i).inReset 3 0 = false ∧ ((s.lane i).mastPort port).active = false ∧ ((s.lane i).mastPort port).inBand = true ∧ ((s.lane i).mastPort port).nextCycle ≤ ((s.lane i).mastPort port).cycles ∧ ((s.lane i).mastPort port).repeatDue = false ∧ nextNode (portNodes (s.lane i).cfg port) ((s.lane i).mastPort port).node = some n)
    ∧ (∃ s : State, ∃ i : LaneId, ∃ port : Nat, ∃ a : MastResponse, port < 2 ∧ s.chassis.variant.mast = true ∧ (s.lane i).active = true ∧ s.holder = some i ∧ (s.lane i).inReset 3 0 = false ∧ ((s.lane i).mastPort port).active = true ∧ (s.lane i).answers port a = true ∧ a.bodyOk (s.lane i).id = true)
    ∧ (∃ s : State, ∃ i : LaneId, ∃ port : Nat, ∃ a : MastResponse, port < 2 ∧ s.chassis.variant.mast = true ∧ (s.lane i).active = true ∧ s.holder = some i ∧ (s.lane i).inReset 3 0 = false ∧ ((s.lane i).mastPort port).active = true ∧ (s.lane i).answers port a = true ∧ a.bodyOk (s.lane i).id = false)
    ∧ (∃ s : State, ∃ i : LaneId, ∃ port : Nat, port < 2 ∧ s.chassis.variant.mast = true ∧ (s.lane i).active = true ∧ s.holder = some i ∧ (s.lane i).inReset 3 0 = false ∧ ((s.lane i).mastPort port).active = true ∧ ((s.lane i).mastPort port).dueCycle + 12 ≤ ((s.lane i).mastPort port).cycles ∧ ((s.lane i).mastPort port).repeats < (s.lane i).cn Mast.mastRetries)
    ∧ (∃ s : State, ∃ i : LaneId, ∃ port : Nat, port < 2 ∧ s.chassis.variant.mast = true ∧ (s.lane i).active = true ∧ s.holder = some i ∧ (s.lane i).inReset 3 0 = false ∧ ((s.lane i).mastPort port).active = true ∧ ((s.lane i).mastPort port).dueCycle + 12 ≤ ((s.lane i).mastPort port).cycles ∧ (s.lane i).cn Mast.mastRetries ≤ ((s.lane i).mastPort port).repeats)
    ∧ (∃ s : State, ∃ i : LaneId, ∃ port : Nat, ∃ a : MastResponse, s.chassis.variant.mast = true ∧ s.asleep = true ∧ s.a.present = true ∧ s.a.power.power = pwAsleep ∧ s.a.alertValid port a = true ∧ s.a.wakes 4 = true ∧ (s.lane i).present = true ∧ (s.lane i).power.power = pwAsleep) :=
  ⟨⟨(W 1000), .A, 1, by decide +kernel⟩,
    ⟨(W 1000 (fun (l : Lane) => l |>.setMastPort 1 { repeatDue := true, node := 16 } |> withCfg [(Mast.mastNode 15, 0x80000001)])), .A, 1, by decide +kernel⟩,
    ⟨(W 1000 (fun (l : Lane) => l |> withCfg [(Mast.mastNode 15, 0x80000001)])), .A, 1, 16, by decide +kernel⟩,
    ⟨(W 1000 (fun (l : Lane) => l |> withCfg [(Mast.mastNode 15, 0x80000001)] |>.setMastPort 1 { active := true, node := 16 } |>.setMastNode 16 { seq := 4 })), .A, 1, ⟨[0, 16, 0x20, 4, 0, 0, 0, 6], [0, 0, 0, 0, 8, 9], ⟨4, 0, 7, 2, crc32c [0, 16, 0x20, 4, 0, 0, 0, 6, 0, 0, 0, 0, 8, 9], []⟩, ⟨0, 0, 0, 0, 0, []⟩⟩, by decide +kernel⟩,
    ⟨(W 1000 (fun (l : Lane) => l |> withCfg [(Mast.mastNode 15, 0x80000001)] |>.setMastPort 1 { active := true, node := 16 } |>.setMastNode 16 { seq := 4 })), .A, 1, ⟨[0, 16, 0x20, 4, 0, 0, 0, 6], [0, 0, 0, 0, 8, 9], ⟨4, 0, 8, 1, crc32c [0, 16, 0x20, 4, 0, 0, 0, 6, 0, 0, 0, 0, 8, 9], []⟩, ⟨0, 0, 0, 0, 0, []⟩⟩, by decide +kernel⟩,
    ⟨(W 1000 (fun (l : Lane) => l |> withCfg [(Mast.mastNode 15, 0x80000001)] |>.setMastPort 1 { active := true, node := 16, cycles := 12 } |> withCfg [(Mast.mastRetries, 1)])), .A, 1, by decide +kernel⟩,
    ⟨(W 1000 (fun (l : Lane) => l |> withCfg [(Mast.mastNode 15, 0x80000001)] |>.setMastPort 1 { active := true, node := 16, cycles := 12, repeats := 1 } |> withCfg [(Mast.mastRetries, 1)])), .A, 1, by decide +kernel⟩,
    ⟨(W 1000 (fun (l : Lane) => l |> withCfg [(Mast.mastNode 15, 0x80000001), (Pw.wakeMask, 31)] |> fun (l : Lane) => { l with power := { l.power with power := 4, fastOn := false }, pacer := { l.pacer with laps := false } })), .B, 1, { okAlert with header := [0, 16, 0x60, 0, 0, 0, 0, 0] }, by decide +kernel⟩⟩

/-- Every hypothesis of `Obligations.TuneRows` is met, clause by clause. -/
theorem hyps_TuneRows :
    (∃ s : State, ∃ i : LaneId, ∃ p, (s.lane i).active = true ∧ (s.lane i).tune.plan = some p ∧ (s.lane i).tune.running = false ∧ (s.lane i).epoch = p.startEpoch ∧ (s.lane i).lapIn = 0)
    ∧ (∃ s : State, ∃ i : LaneId, ∃ p, ∃ e, (s.lane i).active = true ∧ (s.lane i).tune.plan = some p ∧ p.doneEpoch = some e ∧ (e + 1 < (s.lane i).epoch ∨ (e + 1 = (s.lane i).epoch ∧ 4 ≤ (s.lane i).lapIn)))
    ∧ (∃ s : State, ∃ i : LaneId, ∃ p, (s.lane i).active = true ∧ (s.lane i).tune.plan = some p ∧ (s.lane i).tune.running = true ∧ 4 ≤ p.devRun)
    ∧ (∃ s : State, ∃ i : LaneId, ∃ src, (s.lane i).active = true ∧ (s.lane i).p Ta.traceState = 1 ∧ (s.lane i).trace.source = src ∧ (s.lane i).trace.armLap + (s.lane i).trace.pre ≤ (s.lane i).lap)
    ∧ (∃ s : State, ∃ i : LaneId, ∃ src, (s.lane i).active = true ∧ (s.lane i).p Ta.traceState = 1 ∧ (s.lane i).trace.source = src ∧ (s.lane i).lap < (s.lane i).trace.armLap + (s.lane i).trace.pre)
    ∧ (∃ s : State, ∃ i : LaneId, ∃ g, (s.lane i).active = true ∧ (s.lane i).p Ta.traceState = 2 ∧ (s.lane i).trace.trigLap = some g ∧ g + 65535 - (s.lane i).trace.pre < (s.lane i).lap) :=
  ⟨⟨(W 1000 (fun (l : Lane) => l |> fun (l : Lane) => { l with tune := { plan := some ({ slot := 7, node := 0, kind := 3, amp := 1, nodeA := 0, nodeB := 0, guard := none, guardA := 0, startEpoch := 5, endLap := 0 } : TunePlan) } })), .B, ({ slot := 7, node := 0, kind := 3, amp := 1, nodeA := 0, nodeB := 0, guard := none, guardA := 0, startEpoch := 5, endLap := 0 } : TunePlan), by decide +kernel⟩,
    ⟨(W 1004 (fun (l : Lane) => l |> fun (l : Lane) => { l with tune := { running := true, plan := some ({ slot := 7, node := 0, kind := 3, amp := 1, nodeA := 0, nodeB := 0, guard := none, guardA := 0, startEpoch := 5, endLap := 0, doneEpoch := some 4 } : TunePlan) } })), .B, ({ slot := 7, node := 0, kind := 3, amp := 1, nodeA := 0, nodeB := 0, guard := none, guardA := 0, startEpoch := 5, endLap := 0, doneEpoch := some 4 } : TunePlan), 4, by decide +kernel⟩,
    ⟨(W 1000 (fun (l : Lane) => l |> fun (l : Lane) => { l with tune := { running := true, plan := some ({ slot := 7, node := 0, kind := 3, amp := 1, nodeA := 0, nodeB := 0, guard := none, guardA := 0, startEpoch := 5, endLap := 0, devRun := 4 } : TunePlan) } })), .B, ({ slot := 7, node := 0, kind := 3, amp := 1, nodeA := 0, nodeB := 0, guard := none, guardA := 0, startEpoch := 5, endLap := 0, devRun := 4 } : TunePlan), by decide +kernel⟩,
    ⟨(W 1000 (fun (l : Lane) => l |> fun (l : Lane) => { l with trace := { armLap := 900, pre := 100, source := 2 } } |> withPts [(Ta.traceState, 1)])), .B, 2, by decide +kernel⟩,
    ⟨(W 1000 (fun (l : Lane) => l |> fun (l : Lane) => { l with trace := { armLap := 900, pre := 101, source := 2 } } |> withPts [(Ta.traceState, 1)])), .B, 2, by decide +kernel⟩,
    ⟨(W 66536 (fun (l : Lane) => l |> fun (l : Lane) => { l with trace := { trigLap := some 1000, pre := 0 } } |> withPts [(Ta.traceState, 2)])), .B, 1000, by decide +kernel⟩⟩

/-- Every hypothesis of `Obligations.AcquisitionRows` is met, clause by clause. -/
theorem hyps_AcquisitionRows :
    (∃ s : State, ∃ i : LaneId, ∃ r, (s.lane i).active = true ∧ (s.lane i).armed = some r ∧ r.state = 1 ∧ r.armLap + msLaps r.preMs ≤ (s.lane i).lap)
    ∧ (∃ s : State, ∃ i : LaneId, ∃ r, ∃ m, (s.lane i).active = true ∧ (s.lane i).armed = some r ∧ r.state = 2 ∧ (s.lane i).acq.met = some m)
    ∧ (∃ s : State, ∃ i : LaneId, ∃ r, (s.lane i).active = true ∧ (s.lane i).armed = some r ∧ r.state = 3 ∧ r.trig.getD 0 + (r.postMs : Int) * 1000000 ≤ (s.lane i).pacer.teamTime)
    ∧ (∃ s : State, ∃ i : LaneId, ∃ r, (s.lane i).active = true ∧ (s.lane i).armed = some r ∧ r.state = 3 ∧ r.capacity ≤ r.entries.length)
    ∧ (∃ s : State, ∃ i : LaneId, ∃ r, ∃ c, (s.lane i).active = true ∧ (s.lane i).armed = some r ∧ c < 256 ∧ (s.lane i).acq.paused = false ∧ (s.lane i).acq.lapCount < 200 ∧ (s.lane i).cn (Acq.acqKeepaliveMs c) ≠ 0 ∧ (s.lane i).acqKind c ≠ 0 ∧ ((s.lane i).acqChan c).known = true ∧ ((s.lane i).acqChan c).lap + msLaps ((s.lane i).cn (Acq.acqKeepaliveMs c)) ≤ (s.lane i).lap ∧ (r.entries.length < r.capacity ∨ r.state ≠ 3))
    ∧ (∃ s : State, ∃ i : LaneId, ∃ r, ∃ k, ∃ n, ∃ rising, (s.lane i).active = true ∧ (s.lane i).armed = some r ∧ k < 2 ∧ n < 4 ∧ r.state = 2 ∧ (s.lane i).acq.paused = false ∧ (s.lane i).acq.met = none ∧ (s.lane i).edgeMeets n k rising = true ∧ (∀ m, m < n → (s.lane i).edgeMeets m k rising = false))
    ∧ (∃ s : State, ∃ i : LaneId, (s.lane i).active = true)
    ∧ (∃ s : State, ∃ i : LaneId, ∃ n, (s.lane i).active = true ∧ (s.lane i).acq.pulse0 = some n ∧ n + 2 ≤ (s.lane i).lap)
    ∧ (∃ s : State, ∃ i : LaneId, ∃ n, (s.lane i).active = true ∧ (s.lane i).acq.pulse1 = some n ∧ n + 2 ≤ (s.lane i).lap) :=
  ⟨⟨(W 1001 (fun (l : Lane) => l |> fun (l : Lane) => { l with acq := { l.acq with records := [({ no := 0, state := 1, armId := 1, preMs := 5, postMs := 5, mib := 0, armLap := 1, trigLap := 1 } : AcqRecord)] } })), .B, ({ no := 0, state := 1, armId := 1, preMs := 5, postMs := 5, mib := 0, armLap := 1, trigLap := 1 } : AcqRecord), by decide +kernel⟩,
    ⟨(W 1001 (fun (l : Lane) => l |> fun (l : Lane) => { l with acq := { l.acq with records := [({ no := 0, state := 2, armId := 1, preMs := 5, postMs := 5, mib := 0, armLap := 1, trigLap := 1 } : AcqRecord)], met := some (7, 3) } })), .B, ({ no := 0, state := 2, armId := 1, preMs := 5, postMs := 5, mib := 0, armLap := 1, trigLap := 1 } : AcqRecord), (7, 3), by decide +kernel⟩,
    ⟨(W 1001 (fun (l : Lane) => l |> fun (l : Lane) => { l with pacer := { l.pacer with teamTime := 5000009 }, acq := { l.acq with records := [({ no := 0, state := 3, armId := 1, preMs := 5, postMs := 5, mib := 0, armLap := 1, trig := some 9, trigLap := 1 } : AcqRecord)] } })), .B, ({ no := 0, state := 3, armId := 1, preMs := 5, postMs := 5, mib := 0, armLap := 1, trig := some 9, trigLap := 1 } : AcqRecord), by decide +kernel⟩,
    ⟨(W 1001 (fun (l : Lane) => l |> fun (l : Lane) => { l with acq := { l.acq with records := [({ no := 0, state := 3, armId := 1, preMs := 5, postMs := 5, mib := 0, armLap := 1, trigLap := 1 } : AcqRecord)] } })), .B, ({ no := 0, state := 3, armId := 1, preMs := 5, postMs := 5, mib := 0, armLap := 1, trigLap := 1 } : AcqRecord), by decide +kernel⟩,
    ⟨(W 201 (fun (l : Lane) => l |> fun (l : Lane) => { l with acq := { l.acq with records := [({ no := 0, state := 1, armId := 1, preMs := 5, postMs := 5, mib := 0, armLap := 1, trigLap := 1 } : AcqRecord)], chans := [(255, { known := true, lap := 1 })] } } |> withCfg [(Acq.acqKeepaliveMs 255, 1), (Acq.acqSrc 255, 0x10000001)])), .B, ({ no := 0, state := 1, armId := 1, preMs := 5, postMs := 5, mib := 0, armLap := 1, trigLap := 1 } : AcqRecord), 255, by decide +kernel⟩,
    ⟨(W 1000 (fun (l : Lane) => l |> fun (l : Lane) => { l with acq := { l.acq with records := [({ no := 0, state := 2, armId := 1, preMs := 5, postMs := 5, mib := 0, armLap := 1, trigLap := 1 } : AcqRecord)] } } |> withCfg [(Ta.acqTrig 3, 0xA8000000)])), .B, ({ no := 0, state := 2, armId := 1, preMs := 5, postMs := 5, mib := 0, armLap := 1, trigLap := 1 } : AcqRecord), 1, 3, false, by decide +kernel⟩,
    ⟨(W 1000), .B, by decide +kernel⟩,
    ⟨(W 1000 (fun (l : Lane) => l |> fun (l : Lane) => { l with acq := { l.acq with pulse0 := some 998 } })), .B, 998, by decide +kernel⟩,
    ⟨(W 1000 (fun (l : Lane) => l |> fun (l : Lane) => { l with acq := { l.acq with pulse1 := some 998 } })), .B, 998, by decide +kernel⟩⟩

/-- Every hypothesis of `Obligations.ReadCommands` is met, clause by clause. -/
theorem hyps_ReadCommands :
    (∃ s : State, ∃ i : LaneId, ∃ r : Request, r.lane = 0 ∧ Admitted s i 0x0001 r)
    ∧ (∃ s : State, ∃ i : LaneId, ∃ r : Request, r.lane = 0 ∧ Admitted s i 0x0002 r ∧ r.len = 0)
    ∧ (∃ s : State, ∃ i : LaneId, ∃ r : Request, r.lane = 0 ∧ Admitted s i 0x0005 r ∧ r.len = 1 ∧ r.at_ 0 1 ≤ 31)
    ∧ (∃ s : State, ∃ i : LaneId, ∃ r : Request, ∃ addrs, r.lane = 0 ∧ Admitted s i 0x0011 r ∧ snapshotAddrs r = some addrs ∧ (∀ a ∈ addrs, (s.lane i).noMember a = false ∧ (s.lane i).foreign a = false ∧ addrBad a = false))
    ∧ (∃ s : State, ∃ i : LaneId, ∃ r : Request, r.lane = 0 ∧ Admitted s i 0x0012 r ∧ r.len = 20 ∧ (s.lane i).noMember (r.at_ 0 4) = false ∧ (s.lane i).foreign (r.at_ 0 4) = false ∧ addrBad (r.at_ 0 4) = false)
    ∧ (∃ s : State, ∃ i : LaneId, ∃ r : Request, r.lane = 0 ∧ Admitted s i 0x0023 r ∧ r.len = 0)
    ∧ (∃ s : State, ∃ i : LaneId, ∃ r : Request, r.lane = 0 ∧ Admitted s i 0x0041 r ∧ r.len = 0)
    ∧ (∃ s : State, ∃ i : LaneId, ∃ r : Request, r.lane = 0 ∧ Admitted s i 0x0104 r ∧ r.len = 1 ∧ r.at_ 0 1 < s.chassis.variant.outlets ∧ (s.lane i).c (Out.outletEnable (r.at_ 0 1)) ≠ 0 ∧ (s.lane i).ss (r.at_ 0 1) ≠ ssIdle ∧ (s.lane i).ss (r.at_ 0 1) ≠ ssBlocked)
    ∧ (∃ s : State, ∃ i : LaneId, ∃ r : Request, r.lane = 0 ∧ Admitted s i 0x0202 r ∧ r.len = 2 ∧ r.at_ 0 2 ≤ 1023)
    ∧ (∃ s : State, ∃ i : LaneId, ∃ r : Request, r.lane = 0 ∧ Admitted s i 0x0203 r ∧ r.len = 4 ∧ 1 ≤ r.at_ 2 2 ∧ r.at_ 2 2 ≤ 64 ∧ r.at_ 0 2 + r.at_ 2 2 ≤ 1024)
    ∧ (∃ s : State, ∃ i : LaneId, ∃ r : Request, r.lane = 0 ∧ Admitted s i 0x0204 r ∧ r.len = 0)
    ∧ (∃ s : State, ∃ i : LaneId, ∃ r : Request, r.lane = 0 ∧ Admitted s i 0x0300 r ∧ r.len = 0)
    ∧ (∃ s : State, ∃ i : LaneId, ∃ r : Request, r.lane = 0 ∧ Admitted s i 0x0400 r ∧ s.chassis.variant.team = true ∧ r.len = 1 ∧ r.at_ 0 1 ≤ 7 ∧ lvlUsed (s.lane i).cfg (r.at_ 0 1) = true)
    ∧ (∃ s : State, ∃ i : LaneId, ∃ r : Request, r.lane = 0 ∧ Admitted s i 0x0502 r ∧ r.len = 2 ∧ (s.lane i).tune.haveResult = true)
    ∧ (∃ s : State, ∃ i : LaneId, ∃ r : Request, r.lane = 0 ∧ Admitted s i 0x0511 r ∧ r.len = 6 ∧ r.at_ 0 1 ≤ 1 ∧ r.at_ 1 1 ≤ 7 ∧ (s.lane i).trace.trigLap.isSome = true)
    ∧ (∃ s : State, ∃ i : LaneId, ∃ r : Request, r.lane = 0 ∧ Admitted s i 0x0523 r ∧ r.len = 0)
    ∧ (∃ s : State, ∃ i : LaneId, ∃ r : Request, ∃ x, r.lane = 0 ∧ x ∈ (s.lane i).acq.records ∧ Admitted s i 0x0524 r ∧ r.len = 16 ∧ r.at_ 0 1 = x.no)
    ∧ (∃ s : State, ∃ i : LaneId, ∃ r : Request, ∃ m, r.lane = 0 ∧ (s.lane i).p Mp.mpState = 0 ∧ Admitted s i 0x0600 r ∧ r.len = 3 ∧ meterPoint s.chassis.variant (r.at_ 1 1) (r.at_ 2 1) = .ok m ∧ r.at_ 0 1 ≤ 35 ∧ r.at_ 0 1 < (s.lane i).met.periods.length)
    ∧ (∃ s : State, ∃ i : LaneId, ∃ r : Request, ∃ m, r.lane = 0 ∧ (s.lane i).p Mp.mpState = 0 ∧ Admitted s i 0x0601 r ∧ r.len = 18 ∧ meterPoint s.chassis.variant (r.at_ 0 1) (r.at_ 1 1) = .ok m ∧ 1 ≤ r.at_ 16 2 ∧ r.at_ 16 2 ≤ 2880 ∧ (s.lane i).legalMs - 400 * dayMs ≤ (r.at_ 8 8 : Int) ∧ (∃ x ∈ (s.lane i).met.profile, x.point = m ∧ (r.at_ 8 8 : Int) ≤ x.endMs))
    ∧ (∃ s : State, ∃ i : LaneId, ∃ r : Request, r.lane = 0 ∧ (s.lane i).p Mp.mpState = 0 ∧ Admitted s i 0x0602 r ∧ r.len = 12 ∧ 1 ≤ r.at_ 8 2 ∧ r.at_ 8 2 ≤ 4096 ∧ r.at_ 10 2 ≤ 11 ∧ (∃ e ∈ (s.lane i).met.log, e.number ≤ r.at_ 0 8))
    ∧ (∃ s : State, ∃ i : LaneId, ∃ r : Request, ∃ x, r.lane = 0 ∧ (s.lane i).p Mp.mpState = 0 ∧ x ∈ (s.lane i).met.records ∧ Admitted s i 0x0603 r ∧ r.len = 8 ∧ r.at_ 0 8 = x.no)
    ∧ (∃ s : State, ∃ i : LaneId, ∃ r : Request, r.lane = 0 ∧ (s.lane i).p Mp.mpState = 0 ∧ Admitted s i 0x0604 r ∧ r.len = 0)
    ∧ (∃ s : State, ∃ i : LaneId, ∃ r : Request, r.lane = 0 ∧ (s.lane i).p Mp.mpState = 0 ∧ Admitted s i 0x0607 r ∧ r.len = 0)
    ∧ (∃ s : State, ∃ i : LaneId, ∃ r : Request, r.lane = 0 ∧ Admitted s i 0x0702 r ∧ r.len = 1)
    ∧ (∃ s : State, ∃ i : LaneId, ∃ r : Request, r.lane = 0 ∧ Admitted s i 0x0704 r ∧ r.len = 0)
    ∧ (∃ s : State, ∃ i : LaneId, ∃ r : Request, r.lane = 0 ∧ Admitted s i 0x0811 r ∧ s.chassis.variant.mast = true ∧ r.len = 1 ∧ 1 ≤ r.at_ 0 1 ∧ r.at_ 0 1 ≤ 16 ∧ nodeOn (s.lane i).cfg (r.at_ 0 1) = true ∧ ((s.lane i).mastNodeSt (r.at_ 0 1)).known = true)
    ∧ (∃ s : State, ∃ i : LaneId, ∃ r : Request, r.lane = 0 ∧ Admitted s i 0x0812 r ∧ s.chassis.variant.mast = true ∧ r.len = 1 ∧ r.at_ 0 1 ≤ 1) :=
  ⟨⟨(W 1000), .A, ({ ring := 0, seq := 1, hostTag := 2, command := 1, lane := 0, path := 0, body := [85], verdict := true } : Request), by decide +kernel⟩,
    ⟨(W 1000), .A, ({ ring := 0, seq := 1, hostTag := 2, command := 2, lane := 0, path := 0, body := [], verdict := true } : Request), by decide +kernel⟩,
    ⟨(W 1000), .A, ({ ring := 0, seq := 1, hostTag := 2, command := 5, lane := 0, path := 0, body := [31], verdict := true } : Request), by decide +kernel⟩,
    ⟨(W 1000), .A, ({ ring := 0, seq := 1, hostTag := 2, command := 17, lane := 0, path := 0, body := [0, 0, 0, 0, 0, 0, 0, 0, 1, 0, 0, 0, 0, 16, 9, 0, 1, 0, 0, 0], verdict := true } : Request), [0x91000], by decide +kernel⟩,
    ⟨(W 1000), .A, ({ ring := 0, seq := 1, hostTag := 2, command := 18, lane := 0, path := 0, body := [0, 16, 9, 0, 1, 0, 0, 0, 0, 0, 0, 0, 5, 0, 0, 0, 0, 0, 0, 0], verdict := true } : Request), by decide +kernel⟩,
    ⟨(W 1000), .A, ({ ring := 0, seq := 1, hostTag := 2, command := 35, lane := 0, path := 0, body := [], verdict := true } : Request), by decide +kernel⟩,
    ⟨(W 1000), .A, ({ ring := 0, seq := 1, hostTag := 2, command := 65, lane := 0, path := 0, body := [], verdict := true } : Request), by decide +kernel⟩,
    ⟨(W 1000 (fun (l : Lane) => l |> withPts [(Out.sessionStep 31, ssCharge)] |> withCfg [(Out.outletEnable 31, 1)])), .A, ({ ring := 0, seq := 1, hostTag := 2, command := 260, lane := 0, path := 0, body := [31], verdict := true } : Request), by decide +kernel⟩,
    ⟨(W 1000), .A, ({ ring := 0, seq := 1, hostTag := 2, command := 514, lane := 0, path := 0, body := [255, 3], verdict := true } : Request), by decide +kernel⟩,
    ⟨(W 1000), .A, ({ ring := 0, seq := 1, hostTag := 2, command := 515, lane := 0, path := 0, body := [192, 3, 64, 0], verdict := true } : Request), by decide +kernel⟩,
    ⟨(W 1000), .A, ({ ring := 0, seq := 1, hostTag := 2, command := 516, lane := 0, path := 0, body := [], verdict := true } : Request), by decide +kernel⟩,
    ⟨(W 1000), .A, ({ ring := 0, seq := 1, hostTag := 2, command := 768, lane := 0, path := 0, body := [], verdict := true } : Request), by decide +kernel⟩,
    ⟨(W 1000 (fun (l : Lane) => l |> withCfg [(Team.teamLvl 0, 0x80018000)])), .A, ({ ring := 0, seq := 1, hostTag := 2, command := 1024, lane := 0, path := 0, body := [0], verdict := true } : Request), by decide +kernel⟩,
    ⟨(W 1000 (fun (l : Lane) => l |> fun (l : Lane) => { l with tune := { l.tune with haveResult := true } })), .A, ({ ring := 0, seq := 1, hostTag := 2, command := 1282, lane := 0, path := 0, body := [0, 0], verdict := true } : Request), by decide +kernel⟩,
    ⟨(W 1000 (fun (l : Lane) => l |> fun (l : Lane) => { l with trace := { trigLap := some 900 } })), .A, ({ ring := 0, seq := 1, hostTag := 2, command := 1297, lane := 0, path := 0, body := [1, 7, 0, 0, 0, 0], verdict := true } : Request), by decide +kernel⟩,
    ⟨(W 1000), .A, ({ ring := 0, seq := 1, hostTag := 2, command := 1315, lane := 0, path := 0, body := [], verdict := true } : Request), by decide +kernel⟩,
    ⟨(W 1000 (fun (l : Lane) => l |> fun (l : Lane) => { l with acq := { l.acq with records := [({ no := 2, state := 4, armId := 1, preMs := 5, postMs := 5, mib := 0, armLap := 1, trigLap := 1 } : AcqRecord)] } })), .A, ({ ring := 0, seq := 1, hostTag := 2, command := 1316, lane := 0, path := 0, body := [2, 0, 0, 0, 0, 0, 0, 0, 0, 0, 0, 0, 0, 0, 0, 0], verdict := true } : Request), ({ no := 2, state := 4, armId := 1, preMs := 5, postMs := 5, mib := 0, armLap := 1, trigLap := 1 } : AcqRecord), by decide +kernel⟩,
    ⟨(W 1000 (fun (l : Lane) => l |> fun (l : Lane) => l.met! (fun m => { m with periods := [({ no := 1, startMs := 0, endMs := 9, regs := [] } : PeriodRec)] }))), .A, ({ ring := 0, seq := 1, hostTag := 2, command := 1536, lane := 0, path := 0, body := [0, 0, 7], verdict := true } : Request), 7, by decide +kernel⟩,
    ⟨(W 1000 (fun (l : Lane) => l |> fun (l : Lane) => l.met! (fun m => { m with profile := [({ point := 7, endMs := 5, seq := 1, durationMs := 9, flags := 0, tariff := 0, inc := [] } : IntervalRec)] }))), .A, ({ ring := 0, seq := 1, hostTag := 2, command := 1537, lane := 0, path := 0, body := [0, 7, 0, 0, 0, 0, 0, 0, 0, 0, 0, 0, 0, 0, 0, 0, 64, 11], verdict := true } : Request), 7, by decide +kernel⟩,
    ⟨(W 1000 (fun (l : Lane) => l |> fun (l : Lane) => l.met! (fun m => { m with log := [({ number := 3, kind := 1, kindNo := 1, lane := 0, utcMs := 0, epoch := 1, detail := [] } : LogEntry)] }))), .A, ({ ring := 0, seq := 1, hostTag := 2, command := 1538, lane := 0, path := 0, body := [3, 0, 0, 0, 0, 0, 0, 0, 0, 16, 11, 0], verdict := true } : Request), by decide +kernel⟩,
    ⟨(W 1000 (fun (l : Lane) => l |> fun (l : Lane) => l.met! (fun m => { m with records := [({ no := 9, fields := [], sig := none } : SignedRec)] }))), .A, ({ ring := 0, seq := 1, hostTag := 2, command := 1539, lane := 0, path := 0, body := [9, 0, 0, 0, 0, 0, 0, 0], verdict := true } : Request), ({ no := 9, fields := [], sig := none } : SignedRec), by decide +kernel⟩,
    ⟨(W 1000), .A, ({ ring := 0, seq := 1, hostTag := 2, command := 1540, lane := 0, path := 0, body := [], verdict := true } : Request), by decide +kernel⟩,
    ⟨(W 1000), .A, ({ ring := 0, seq := 1, hostTag := 2, command := 1543, lane := 0, path := 0, body := [], verdict := true } : Request), by decide +kernel⟩,
    ⟨(W 1000), .A, ({ ring := 0, seq := 1, hostTag := 2, command := 1794, lane := 0, path := 0, body := [0], verdict := true } : Request), by decide +kernel⟩,
    ⟨(W 1000), .A, ({ ring := 0, seq := 1, hostTag := 2, command := 1796, lane := 0, path := 0, body := [], verdict := true } : Request), by decide +kernel⟩,
    ⟨(W 1000 (fun (l : Lane) => l |> withCfg [(Mast.mastNode 15, 0x80000001)] |>.setMastNode 16 { known := true })), .A, ({ ring := 0, seq := 1, hostTag := 2, command := 2065, lane := 0, path := 0, body := [16], verdict := true } : Request), by decide +kernel⟩,
    ⟨(W 1000), .A, ({ ring := 0, seq := 1, hostTag := 2, command := 2066, lane := 0, path := 0, body := [1], verdict := true } : Request), by decide +kernel⟩⟩

/-- Every hypothesis of `Obligations.RingCommands` is met, clause by clause. -/
theorem hyps_RingCommands :
    (∃ s : State, ∃ i : LaneId, ∃ r : Request, r.lane = 0 ∧ Admitted s i 0x0001 r)
    ∧ (∃ s : State, ∃ i : LaneId, ∃ r : Request, ∃ q, r.lane = 0 ∧ Admitted s i 0x0003 r ∧ r.len = 5 ∧ r.at_ 0 1 = q ∧ q ≤ 31 ∧ r.at_ 1 1 ≤ 1 ∧ r.at_ 4 1 ≤ 127)
    ∧ (∃ s : State, ∃ i : LaneId, ∃ r : Request, r.lane = 0 ∧ Admitted s i 0x0004 r ∧ r.len = 0)
    ∧ (∃ s : State, ∃ i : LaneId, ∃ r : Request, r.lane = 0 ∧ Admitted s i 0x0030 r ∧ 8 ≤ r.len ∧ r.at_ 6 2 ≤ 13 ∧ r.len = 8 + 16 * r.at_ 6 2 ∧ r.at_ 0 2 ≤ 15 ∧ (∀ b ∈ ((s.lane i).ring r.ring).subs, b.id ≠ r.at_ 0 2) ∧ r.at_ 2 1 ≤ 1 ∧ (r.at_ 2 1 = 1 → r.at_ 4 2 ≠ 0) ∧ (∀ x ∈ subRanges r (r.at_ 6 2), addrBad x.1 = false ∧ addrBad (x.1 + x.2.1 - 1) = false ∧ (s.lane i).noMember x.1 = false) ∧ (∀ b : Sub, b.ranges = subRanges r (r.at_ 6 2) → b.points.length ≤ 4096))
    ∧ (∃ s : State, ∃ i : LaneId, ∃ r : Request, r.lane = 0 ∧ Admitted s i 0x0031 r ∧ r.len = 2 ∧ (∃ b ∈ ((s.lane i).ring r.ring).subs, b.id = r.at_ 0 2))
    ∧ (∃ s : State, ∃ i : LaneId, ∃ r : Request, ∃ e, ∃ q, r.lane = 0 ∧ Admitted s i 0x0040 r ∧ r.len = 6 ∧ r.at_ 0 2 = 1 ∧ r.at_ 2 2 = e ∧ r.at_ 4 1 = q ∧ e ≤ 127 ∧ (q ≤ 31 ∨ q = 255) ∧ bitAt ((s.lane i).ring r.ring).rights 6 = true ∧ eventAbsent s.chassis.variant e = false) :=
  ⟨⟨(W 1000), .A, ({ ring := 0, seq := 1, hostTag := 2, command := 1, lane := 0, path := 0, body := [85], verdict := true } : Request), by decide +kernel⟩,
    ⟨(W 1000), .A, ({ ring := 0, seq := 1, hostTag := 2, command := 3, lane := 0, path := 0, body := [31, 1, 255, 3, 127], verdict := true } : Request), 31, by decide +kernel⟩,
    ⟨(W 1000 (fun (l : Lane) => l |>.setRing 0 { ringDefault 0 with nextSeq := 9 })), .A, ({ ring := 0, seq := 1, hostTag := 2, command := 4, lane := 0, path := 0, body := [], verdict := true } : Request), by decide +kernel⟩,
    ⟨(W 1000), .A, ({ ring := 0, seq := 1, hostTag := 2, command := 48, lane := 0, path := 0, body := [15, 0, 1, 0, 1, 0, 1, 0, 0, 16, 9, 0, 2, 0, 0, 0, 0, 0, 0, 0, 0, 0, 0, 0], verdict := true } : Request), by (repeat' apply And.intro) <;> first | decide +kernel | exact (fun b h => by simp only [Sub.points, h]; decide +kernel)⟩,
    ⟨(W 1000 (fun (l : Lane) => l |>.setRing 0 { ringDefault 0 with subs := [({ id := 5, started := true } : Sub)] })), .A, ({ ring := 0, seq := 1, hostTag := 2, command := 49, lane := 0, path := 0, body := [5, 0], verdict := true } : Request), by decide +kernel⟩,
    ⟨(W 1000), .A, ({ ring := 0, seq := 1, hostTag := 2, command := 64, lane := 0, path := 0, body := [1, 0, 127, 0, 255, 0], verdict := true } : Request), 127, 255, by decide +kernel⟩⟩

/-- Every hypothesis of `Obligations.ConfigurationCommands` is met, clause by clause. -/
theorem hyps_ConfigurationCommands :
    (∃ s : State, ∃ i : LaneId, ∃ r : Request, ∃ n, (s.lane i).active = true ∧ r.lane = 0 ∧ Admitted s i 0x0020 r ∧ r.at_ 0 2 = n ∧ n ≤ 18 ∧ r.len = 8 + 12 * n ∧ (((stageWrites r n).map (fun w => cfgKey (addrPoint w.1))).Nodup) ∧ ((s.lane i).ring r.ring).staging.length + n ≤ 16384 ∧ (∀ w ∈ stageWrites r n, (s.lane i).stageStatus s.chassis.variant w = st_OK ∧ accessAt w.1 = some .rs ∧ (s.lane i).looseEntry ((s.lane i).ring r.ring).staging (stageWrites r n) w = false))
    ∧ (∃ s : State, ∃ i : LaneId, ∃ r : Request, ∃ n, ∃ w, ∃ ws, (s.lane i).active = true ∧ r.lane = 0 ∧ Admitted s i 0x0020 r ∧ r.at_ 0 2 = n ∧ n ≤ 18 ∧ r.len = 8 + 12 * n ∧ stageWrites r n = w :: ws ∧ (s.lane i).stageStatus s.chassis.variant w ≠ st_OK)
    ∧ (∃ s : State, ∃ i : LaneId, ∃ r : Request, (s.lane i).active = true ∧ r.lane = 0 ∧ Admitted s i 0x0021 r ∧ r.len = 8 ∧ r.at_ 0 8 = 0 ∧ (s.lane i).earliestEpoch r ≤ (s.lane i).epoch + 60000)
    ∧ (∃ s : State, ∃ i : LaneId, ∃ r : Request, ∃ e, (s.lane i).active = true ∧ r.lane = 0 ∧ Admitted s i 0x0021 r ∧ r.len = 8 ∧ r.at_ 0 8 = e ∧ (s.lane i).earliestEpoch r < e ∧ e ≤ (s.lane i).epoch + 60000 ∧ ((s.lane i).heldCommits r.ring ((s.lane i).earliestEpoch r)).length < 4)
    ∧ (∃ s : State, ∃ i : LaneId, ∃ r : Request, (s.lane i).active = true ∧ r.lane = 0 ∧ Admitted s i 0x0022 r ∧ r.len = 0)
    ∧ (∃ s : State, ∃ i : LaneId, ∃ r : Request, ∃ addrs : List Nat, ∃ e : Nat, ∃ img, (s.lane i).active = true ∧ r.lane = 0 ∧ Admitted s i 0x0010 r ∧ snapshotAddrs r = some addrs ∧ (∀ a ∈ addrs, (s.lane i).noMember a = false ∧ (s.lane i).foreign a = false) ∧ r.at_ 0 8 ≠ 0 ∧ (r.at_ 0 8 : Int) - (s.lane i).epochShift false = e ∧ (s.lane i).fellAsleep e = false ∧ ((s.lane i).latest.getD ((s.lane i).epoch - 1) : Int) - 63 ≤ e ∧ (e : Int) ≤ (s.lane i).latest.getD ((s.lane i).epoch - 1) + 64 ∧ (s.lane i).imageOf e = some img)
    ∧ (∃ s : State, ∃ i : LaneId, ∃ r : Request, ∃ addrs : List Nat, ∃ e : Nat, (s.lane i).active = true ∧ r.lane = 0 ∧ Admitted s i 0x0010 r ∧ snapshotAddrs r = some addrs ∧ (∀ a ∈ addrs, (s.lane i).noMember a = false ∧ (s.lane i).foreign a = false) ∧ r.at_ 0 8 ≠ 0 ∧ (r.at_ 0 8 : Int) - (s.lane i).epochShift false = e ∧ (s.lane i).fellAsleep e = false ∧ ((s.lane i).latest.getD ((s.lane i).epoch - 1) : Int) - 63 ≤ e ∧ (e : Int) ≤ (s.lane i).latest.getD ((s.lane i).epoch - 1) + 64 ∧ (s.lane i).imageOf e = none ∧ (((s.lane i).latest.getD ((s.lane i).epoch - 1)) < e ∨ (s.lane i).imgs = []))
    ∧ (∃ s : State, ∃ i : LaneId, ∃ r : Request, ∃ code : Nat, ∃ unit : Nat, ∃ j : LaneId, (s.lane i).active = true ∧ Admitted s i 0x0050 r ∧ r.len = 4 ∧ r.at_ 0 1 = code ∧ r.at_ 2 2 = unit ∧ resetUnit s.chassis.variant code unit = (true, true) ∧ r.lane ∈ resetLanes code ∧ j = (if r.lane = 2 then LaneId.B else .A) ∧ (r.lane ≠ 0 → (s.lane j).present = true) ∧ (r.lane = 0 → s.a.present = true ∧ s.b.present = true) ∧ s.a.host.resets = [] ∧ s.b.host.resets = [] ∧ (code ∈ [1, 2, 3, 4, 6] ∨ (code = 5 ∧ (s.lane j.other).link.state.inStep = true) ∨ (code = 7 ∧ s.arbiter.grant ≠ some j) ∨ (code = 8 ∧ s.arbiter.grant ≠ some j)))
    ∧ (∃ s : State, ∃ i : LaneId, ∃ r : Request, ∃ unit, ∃ j, (s.lane i).active = true ∧ Admitted s i 0x0050 r ∧ r.len = 4 ∧ r.at_ 0 1 = 9 ∧ r.at_ 2 2 = unit ∧ r.lane = LaneId.num j + 1 ∧ (s.lane j).present = true ∧ s.a.host.resets = [] ∧ s.b.host.resets = [] ∧ s.arbiter.grant = some j.other ∧ (s.lane j).link.fwAnswer = none) :=
  ⟨⟨(W 1000), .A, ({ ring := 0, seq := 1, hostTag := 2, command := 32, lane := 0, path := 0, body := [1, 0, 0, 0, 0, 0, 0, 0, 0, 16, 9, 0, 1, 0, 0, 0, 0, 0, 0, 0], verdict := true } : Request), 1, by decide +kernel⟩,
    ⟨(W 1000), .A, ({ ring := 0, seq := 1, hostTag := 2, command := 32, lane := 0, path := 0, body := [1, 0, 0, 0, 0, 0, 0, 0, 0, 0, 0, 0, 1, 0, 0, 0, 0, 0, 0, 0], verdict := true } : Request), 1, (0, 1), [], by decide +kernel⟩,
    ⟨(W 1000), .A, ({ ring := 0, seq := 1, hostTag := 2, command := 33, lane := 0, path := 0, body := [0, 0, 0, 0, 0, 0, 0, 0], verdict := true } : Request), by decide +kernel⟩,
    ⟨(W 1000), .A, ({ ring := 0, seq := 1, hostTag := 2, command := 33, lane := 0, path := 0, body := [101, 234, 0, 0, 0, 0, 0, 0], verdict := true } : Request), 60005, by decide +kernel⟩,
    ⟨(W 1000 (fun (l : Lane) => l |>.setRing 0 { ringDefault 0 with staging := [(0x91000, 1)] })), .A, ({ ring := 0, seq := 1, hostTag := 2, command := 34, lane := 0, path := 0, body := [], verdict := true } : Request), by decide +kernel⟩,
    ⟨(W 1000 (fun (l : Lane) => l |> fun (l : Lane) => { l with imgs := [({ lane := .A, epoch := 4, baton := 1, cfg := [], pts := [], stat := [], phaseGen := [], packGen := [], unready := [], identified := [], written := [], partner := none } : Image)] })), .A, ({ ring := 0, seq := 1, hostTag := 2, command := 16, lane := 0, path := 0, body := [4, 0, 0, 0, 0, 0, 0, 0, 1, 0, 0, 0, 0, 16, 9, 0, 1, 0, 0, 0], verdict := true } : Request), [0x91000], 4, ({ lane := .A, epoch := 4, baton := 1, cfg := [], pts := [], stat := [], phaseGen := [], packGen := [], unready := [], identified := [], written := [], partner := none } : Image), by decide +kernel⟩,
    ⟨(W 1000), .A, ({ ring := 0, seq := 1, hostTag := 2, command := 16, lane := 0, path := 0, body := [68, 0, 0, 0, 0, 0, 0, 0, 1, 0, 0, 0, 0, 16, 9, 0, 1, 0, 0, 0], verdict := true } : Request), [0x91000], 68, by decide +kernel⟩,
    ⟨(W 1000), .A, ({ ring := 0, seq := 1, hostTag := 2, command := 80, lane := 0, path := 0, body := [1, 0, 31, 0], verdict := true } : Request), 1, 31, .A, by decide +kernel⟩,
    ⟨(W 1000), .A, ({ ring := 0, seq := 1, hostTag := 2, command := 80, lane := 2, path := 0, body := [9, 0, 0, 0], verdict := true } : Request), 0, .B, by decide +kernel⟩⟩

/-- Every hypothesis of `Obligations.SessionAndKeyCommands` is met, clause by clause. -/
theorem hyps_SessionAndKeyCommands :
    (∃ s : State, ∃ i : LaneId, ∃ r : Request, ∃ o, r.lane = 0 ∧ r.at_ 0 1 = o ∧ o < s.chassis.variant.outlets ∧ (s.lane i).c (Out.outletEnable o) ≠ 0 ∧ Admitted s i 0x0100 r ∧ r.len = 2 ∧ (s.lane i).ss o = ssAuth ∧ r.at_ 1 1 = 1)
    ∧ (∃ s : State, ∃ i : LaneId, ∃ r : Request, ∃ o, r.lane = 0 ∧ r.at_ 0 1 = o ∧ o < s.chassis.variant.outlets ∧ (s.lane i).c (Out.outletEnable o) ≠ 0 ∧ Admitted s i 0x0100 r ∧ r.len = 2 ∧ (s.lane i).ss o = ssAuth ∧ r.at_ 1 1 = 0)
    ∧ (∃ s : State, ∃ i : LaneId, ∃ r : Request, ∃ o, r.lane = 0 ∧ r.at_ 0 1 = o ∧ o < s.chassis.variant.outlets ∧ (s.lane i).c (Out.outletEnable o) ≠ 0 ∧ Admitted s i 0x0101 r ∧ r.len = 1 ∧ (s.lane i).ss o = ssCharge)
    ∧ (∃ s : State, ∃ i : LaneId, ∃ r : Request, ∃ o, r.lane = 0 ∧ r.at_ 0 1 = o ∧ o < s.chassis.variant.outlets ∧ (s.lane i).c (Out.outletEnable o) ≠ 0 ∧ Admitted s i 0x0102 r ∧ r.len = 2 ∧ r.at_ 1 1 ≤ 1)
    ∧ (∃ s : State, ∃ i : LaneId, ∃ r : Request, ∃ o, r.lane = 0 ∧ r.at_ 0 1 = o ∧ o < s.chassis.variant.outlets ∧ (s.lane i).c (Out.outletEnable o) ≠ 0 ∧ Admitted s i 0x0103 r ∧ r.len = 1 ∧ (s.lane i).ss o = ssBlocked ∧ bitAt ((s.lane i).out o).holds 2 = true)
    ∧ (∃ s : State, ∃ i : LaneId, ∃ r : Request, ∃ o, r.lane = 0 ∧ r.at_ 0 1 = o ∧ o < s.chassis.variant.outlets ∧ (s.lane i).c (Out.outletEnable o) ≠ 0 ∧ Admitted s i 0x0105 r ∧ r.len = 1 ∧ (s.lane i).ss o = ssBlocked ∧ bitAt ((s.lane i).out o).holds 1 = true)
    ∧ (∃ s : State, ∃ i : LaneId, ∃ r : Request, ∃ n, r.lane = 0 ∧ Admitted s i 0x0200 r ∧ r.at_ 2 2 = n ∧ 1 ≤ n ∧ n ≤ 220 ∧ r.len = 4 + n ∧ r.at_ 0 2 + n ≤ 688 ∧ (r.at_ 0 2 = 0 ∨ r.at_ 0 2 = ((s.lane i).keyBuffer r.ring).length))
    ∧ (∃ s : State, ∃ i : LaneId, ∃ r : Request, r.lane = 0 ∧ Admitted s i 0x0201 r ∧ r.len = 2 ∧ (s.lane i).keys.apply = none) :=
  ⟨⟨(W 1000 (fun (l : Lane) => l |> withCfg [(Out.outletEnable 31, 1)] |> withPts [(Out.sessionStep 31, ssAuth)])), .A, ({ ring := 0, seq := 1, hostTag := 2, command := 256, lane := 0, path := 0, body := [31, 1], verdict := true } : Request), 31, by decide +kernel⟩,
    ⟨(W 1000 (fun (l : Lane) => l |> withCfg [(Out.outletEnable 31, 1)] |> withPts [(Out.sessionStep 31, ssAuth)])), .A, ({ ring := 0, seq := 1, hostTag := 2, command := 256, lane := 0, path := 0, body := [31, 0], verdict := true } : Request), 31, by decide +kernel⟩,
    ⟨(W 1000 (fun (l : Lane) => l |> withCfg [(Out.outletEnable 31, 1)] |> withPts [(Out.sessionStep 31, ssCharge)])), .A, ({ ring := 0, seq := 1, hostTag := 2, command := 257, lane := 0, path := 0, body := [31], verdict := true } : Request), 31, by decide +kernel⟩,
    ⟨(W 1000 (fun (l : Lane) => l |> withCfg [(Out.outletEnable 31, 1)] |> withPts [(Out.sessionStep 31, ssCharge)])), .A, ({ ring := 0, seq := 1, hostTag := 2, command := 258, lane := 0, path := 0, body := [31, 1], verdict := true } : Request), 31, by decide +kernel⟩,
    ⟨(W 1000 (fun (l : Lane) => l |> withCfg [(Out.outletEnable 31, 1)] |> withPts [(Out.sessionStep 31, ssBlocked)] |>.setOut 31 { holds := 4 })), .A, ({ ring := 0, seq := 1, hostTag := 2, command := 259, lane := 0, path := 0, body := [31], verdict := true } : Request), 31, by decide +kernel⟩,
    ⟨(W 1000 (fun (l : Lane) => l |> withCfg [(Out.outletEnable 31, 1)] |> withPts [(Out.sessionStep 31, ssBlocked)] |>.setOut 31 { holds := 2 })), .A, ({ ring := 0, seq := 1, hostTag := 2, command := 261, lane := 0, path := 0, body := [31], verdict := true } : Request), 31, by decide +kernel⟩,
    ⟨(W 1000), .A, ({ ring := 0, seq := 1, hostTag := 2, command := 512, lane := 0, path := 0, body := [0, 0, 220, 0, 0, 0, 0, 0, 0, 0, 0, 0, 0, 0, 0, 0, 0, 0, 0, 0, 0, 0, 0, 0, 0, 0, 0, 0, 0, 0, 0, 0, 0, 0, 0, 0, 0, 0, 0, 0, 0, 0, 0, 0, 0, 0, 0, 0, 0, 0, 0, 0, 0, 0, 0, 0, 0, 0, 0, 0, 0, 0, 0, 0, 0, 0, 0, 0, 0, 0, 0, 0, 0, 0, 0, 0, 0, 0, 0, 0, 0, 0, 0, 0, 0, 0, 0, 0, 0, 0, 0, 0, 0, 0, 0, 0, 0, 0, 0, 0, 0, 0, 0, 0, 0, 0, 0, 0, 0, 0, 0, 0, 0, 0, 0, 0, 0, 0, 0, 0, 0, 0, 0, 0, 0, 0, 0, 0, 0, 0, 0, 0, 0, 0, 0, 0, 0, 0, 0, 0, 0, 0, 0, 0, 0, 0, 0, 0, 0, 0, 0, 0, 0, 0, 0, 0, 0, 0, 0, 0, 0, 0, 0, 0, 0, 0, 0, 0, 0, 0, 0, 0, 0, 0, 0, 0, 0, 0, 0, 0, 0, 0, 0, 0, 0, 0, 0, 0, 0, 0, 0, 0, 0, 0, 0, 0, 0, 0, 0, 0, 0, 0, 0, 0, 0, 0, 0, 0, 0, 0, 0, 0, 0, 0, 0, 0, 0, 0, 0, 0, 0, 0, 0, 0], verdict := true } : Request), 220, by decide +kernel⟩,
    ⟨(W 1000), .A, ({ ring := 0, seq := 1, hostTag := 2, command := 513, lane := 0, path := 0, body := [0, 0], verdict := true } : Request), by decide +kernel⟩⟩

/-- Every hypothesis of `Obligations.LaneCommands` is met, clause by clause. -/
theorem hyps_LaneCommands :
    (∃ s : State, ∃ i : LaneId, ∃ r : Request, ∃ j : LaneId, r.lane = j.num + 1 ∧ (s.lane j).present = true ∧ Admitted s i 0x0301 r ∧ r.len = 0 ∧ s.arbiter.grant = some j.other ∧ (s.lane j.other).link.state = .holder ∧ s.eligible j = true)
    ∧ (∃ s : State, ∃ i : LaneId, ∃ r : Request, ∃ j : LaneId, ∃ kind, ∃ b, ∃ ofs, ∃ n, r.lane = j.num + 1 ∧ (s.lane j).present = true ∧ Admitted s i 0x0302 r ∧ r.at_ 0 1 = kind ∧ r.at_ 1 1 = b ∧ r.at_ 4 4 = ofs ∧ r.at_ 8 2 = n ∧ 1 ≤ n ∧ n ≤ 208 ∧ r.len = 16 + n ∧ kind ≤ 1 ∧ b ≤ 1 ∧ (s.lane j).runningBank kind ≠ b ∧ ofs + n ≤ 2147483648 ∧ (ofs = 0 ∨ ofs = ((s.lane j).link.bank kind b).data.length))
    ∧ (∃ s : State, ∃ i : LaneId, ∃ r : Request, ∃ j : LaneId, ∃ kind, ∃ b, r.lane = j.num + 1 ∧ (s.lane j).present = true ∧ Admitted s i 0x0303 r ∧ r.len = 8 ∧ r.at_ 0 1 = kind ∧ r.at_ 1 1 = b ∧ kind ≤ 1 ∧ b ≤ 1 ∧ r.verdict = false)
    ∧ (∃ s : State, ∃ i : LaneId, ∃ r : Request, ∃ j : LaneId, ∃ kind, ∃ b, ∃ k, r.lane = j.num + 1 ∧ (s.lane j).present = true ∧ Admitted s i 0x0303 r ∧ r.len = 8 ∧ r.at_ 0 1 = kind ∧ r.at_ 1 1 = b ∧ kind ≤ 1 ∧ b ≤ 1 ∧ r.verdict = true ∧ k < 4 ∧ (s.lane j).deliveryStatus engVerify ((s.lane j).role (Key.roleUpdate k)) 2 = st_OK ∧ ((s.lane j).link.bank kind b).data.length = r.at_ 4 4)
    ∧ (∃ s : State, ∃ i : LaneId, ∃ r : Request, ∃ j : LaneId, ∃ b, r.lane = j.num + 1 ∧ (s.lane j).present = true ∧ Admitted s i 0x0304 r ∧ r.len = 2 ∧ r.at_ 0 1 = 0 ∧ r.at_ 1 1 = b ∧ b ≤ 1 ∧ s.arbiter.grant = some j.other ∧ (s.lane j).link.state = .standby ∧ ((s.lane j).link.bank 0 b).verified = true ∧ (s.lane j.other).p Hp.fwCompatMin ≤ (((s.lane j).link.bank 0 b).compat : Int) ∧ (((s.lane j).link.bank 0 b).compatMin : Int) ≤ (s.lane j.other).p Hp.fwCompat)
    ∧ (∃ s : State, ∃ i : LaneId, ∃ r : Request, ∃ j : LaneId, r.lane = j.num + 1 ∧ (s.lane j).present = true ∧ Admitted s i 0x0305 r ∧ r.len = 0 ∧ s.arbiter.grant ≠ some j)
    ∧ (∃ s : State, ∃ i : LaneId, ∃ r : Request, ∃ j : LaneId, r.lane = j.num + 1 ∧ (s.lane j).present = true ∧ Admitted s i 0x0306 r ∧ r.len = 0 ∧ (s.lane j).link.parked = true)
    ∧ (∃ s : State, ∃ i : LaneId, ∃ r : Request, ∃ j : LaneId, r.lane = j.num + 1 ∧ (s.lane j).present = true ∧ Admitted s i 0x0307 r ∧ r.len = 0)
    ∧ (∃ s : State, ∃ i : LaneId, ∃ r : Request, ∃ k, ∃ mask, s.chassis.variant.team = true ∧ r.lane = 0 ∧ Admitted s i 0x0401 r ∧ r.len = 16 ∧ r.at_ 0 1 = k ∧ r.at_ 1 1 = mask ∧ k ≤ 7 ∧ lvlUsed (s.lane i).cfg k = true ∧ lvlMember (s.lane i).cfg k = 0 ∧ mask % 2 = 1 ∧ (s.lane i).teamEpoch k + 20 ≤ (r.at_ 8 8 : Int) ∧ (r.at_ 8 8 : Int) ≤ (s.lane i).teamEpoch k + 60000 ∧ ((s.lane i).lvl k).change = none)
    ∧ (∃ s : State, ∃ i : LaneId, ∃ r : Request, ∃ k, ∃ a, s.chassis.variant.team = true ∧ r.lane = 0 ∧ Admitted s i 0x0402 r ∧ r.len = 8 ∧ r.at_ 0 1 = k ∧ k ≤ 7 ∧ lvlUsed (s.lane i).cfg k = true ∧ ((s.lane i).lvl k).arm = some a ∧ a.id = r.at_ 4 4 ∧ a.armed = true ∧ ((s.lane i).teamKey k).2 = true)
    ∧ (∃ s : State, ∃ i : LaneId, ∃ r : Request, ∃ k, ∃ a, s.chassis.variant.team = true ∧ r.lane = 0 ∧ Admitted s i 0x0402 r ∧ r.len = 8 ∧ r.at_ 0 1 = k ∧ k ≤ 7 ∧ lvlUsed (s.lane i).cfg k = true ∧ ((s.lane i).lvl k).arm = some a ∧ a.id = r.at_ 4 4 ∧ a.armed = true ∧ ((s.lane i).teamKey k).2 = false)
    ∧ (∃ s : State, ∃ i : LaneId, ∃ r : Request, ∃ k, ∃ a, s.chassis.variant.team = true ∧ r.lane = 0 ∧ Admitted s i 0x0402 r ∧ r.len = 8 ∧ r.at_ 0 1 = k ∧ k ≤ 7 ∧ lvlUsed (s.lane i).cfg k = true ∧ ((s.lane i).lvl k).arm = some a ∧ a.id = r.at_ 4 4 ∧ a.armed = false) :=
  ⟨⟨(W 1000), .A, ({ ring := 0, seq := 1, hostTag := 2, command := 769, lane := 2, path := 0, body := [], verdict := true } : Request), .B, by decide +kernel⟩,
    ⟨(W 1000), .A, ({ ring := 0, seq := 1, hostTag := 2, command := 770, lane := 2, path := 0, body := [0, 1, 0, 0, 0, 0, 0, 0, 208, 0, 0, 0, 0, 0, 0, 0, 0, 0, 0, 0, 0, 0, 0, 0, 0, 0, 0, 0, 0, 0, 0, 0, 0, 0, 0, 0, 0, 0, 0, 0, 0, 0, 0, 0, 0, 0, 0, 0, 0, 0, 0, 0, 0, 0, 0, 0, 0, 0, 0, 0, 0, 0, 0, 0, 0, 0, 0, 0, 0, 0, 0, 0, 0, 0, 0, 0, 0, 0, 0, 0, 0, 0, 0, 0, 0, 0, 0, 0, 0, 0, 0, 0, 0, 0, 0, 0, 0, 0, 0, 0, 0, 0, 0, 0, 0, 0, 0, 0, 0, 0, 0, 0, 0, 0, 0, 0, 0, 0, 0, 0, 0, 0, 0, 0, 0, 0, 0, 0, 0, 0, 0, 0, 0, 0, 0, 0, 0, 0, 0, 0, 0, 0, 0, 0, 0, 0, 0, 0, 0, 0, 0, 0, 0, 0, 0, 0, 0, 0, 0, 0, 0, 0, 0, 0, 0, 0, 0, 0, 0, 0, 0, 0, 0, 0, 0, 0, 0, 0, 0, 0, 0, 0, 0, 0, 0, 0, 0, 0, 0, 0, 0, 0, 0, 0, 0, 0, 0, 0, 0, 0, 0, 0, 0, 0, 0, 0, 0, 0, 0, 0, 0, 0, 0, 0, 0, 0, 0, 0, 0, 0, 0, 0, 0, 0], verdict := true } : Request), .B, 0, 1, 0, 208, by decide +kernel⟩,
    ⟨(W 1000), .A, ({ ring := 0, seq := 1, hostTag := 2, command := 771, lane := 2, path := 0, body := [0, 1, 0, 0, 0, 0, 0, 0], verdict := false } : Request), .B, 0, 1, by decide +kernel⟩,
    ⟨(W 1000 (fun (l : Lane) => l |> withPts [(Key.storeSerialOk, 1)] |> withCfg [(Key.roleUpdate 3, 22)] |> fun (l : Lane) => { l with keys := { l.keys with slots := [(0, factorySlot 0x100100), (22, { state := 1, attr := 0x500000 + 2 ^ engVerify, ver := 1, parentVer := 1 })] } } |> fun (l : Lane) => { l with link := { l.link with banks := [(1, { data := [1, 2, 3] })] } })), .A, ({ ring := 0, seq := 1, hostTag := 2, command := 771, lane := 2, path := 0, body := [0, 1, 0, 0, 3, 0, 0, 0], verdict := true } : Request), .B, 0, 1, 3, by decide +kernel⟩,
    ⟨(W 1000 (fun (l : Lane) => l |> fun (l : Lane) => { l with link := { l.link with banks := [(1, { verified := true })] } })), .A, ({ ring := 0, seq := 1, hostTag := 2, command := 772, lane := 2, path := 0, body := [0, 1], verdict := true } : Request), .B, 1, by decide +kernel⟩,
    ⟨(W 1000), .A, ({ ring := 0, seq := 1, hostTag := 2, command := 773, lane := 2, path := 0, body := [], verdict := true } : Request), .B, by decide +kernel⟩,
    ⟨{ W 1000 with b := (W 1000 (fun l => l |> fun (l : Lane) => { l with link := { l.link with parked := true, state := .reset } })).b }, .A, ({ ring := 0, seq := 1, hostTag := 2, command := 774, lane := 2, path := 0, body := [], verdict := true } : Request), .B, by decide +kernel⟩,
    ⟨{ W 1000 with b := (W 1000 (fun l => l |> fun (l : Lane) => { l with link := { l.link with cmpPersist := true } })).b }, .A, ({ ring := 0, seq := 1, hostTag := 2, command := 775, lane := 2, path := 0, body := [], verdict := true } : Request), .B, by decide +kernel⟩,
    ⟨(W 1000 (fun (l : Lane) => l |> withCfg [(Team.teamLvl 0, 0x80018000)])), .A, ({ ring := 0, seq := 1, hostTag := 2, command := 1025, lane := 0, path := 0, body := [0, 255, 0, 0, 0, 0, 0, 0, 25, 0, 0, 0, 0, 0, 0, 0], verdict := true } : Request), 0, 255, by decide +kernel⟩,
    ⟨(W 1000 (fun (l : Lane) => l |> withCfg [(Team.teamLvl 0, 0x80018000)] |> withPts [(Key.storeSerialOk, 1)] |> withCfg [(Key.roleTeam, 21)] |> fun (l : Lane) => { l with keys := { l.keys with slots := [(0, factorySlot 0x100100), (21, { state := 1, attr := 0x100020, ver := 1, parentVer := 1 }), (teamSlot 0, { state := 1, attr := 0x100020, ver := 1, parent := 21, parentVer := 1 })] } } |> fun (l : Lane) => { l with team := { l.team with levels := [(0, { arm := some ({ id := 7, epoch := 5, preMs := 10, postMs := 20, mib := 16, armed := true } : TeamArm) })] } })), .A, ({ ring := 0, seq := 1, hostTag := 2, command := 1026, lane := 0, path := 0, body := [0, 0, 0, 0, 7, 0, 0, 0], verdict := true } : Request), 0, ({ id := 7, epoch := 5, preMs := 10, postMs := 20, mib := 16, armed := true } : TeamArm), by decide +kernel⟩,
    ⟨(W 1000 (fun (l : Lane) => l |> withCfg [(Team.teamLvl 0, 0x80018000)] |> fun (l : Lane) => { l with team := { l.team with levels := [(0, { arm := some ({ id := 7, epoch := 5, preMs := 10, postMs := 20, mib := 16, armed := true } : TeamArm) })] } })), .A, ({ ring := 0, seq := 1, hostTag := 2, command := 1026, lane := 0, path := 0, body := [0, 0, 0, 0, 7, 0, 0, 0], verdict := true } : Request), 0, ({ id := 7, epoch := 5, preMs := 10, postMs := 20, mib := 16, armed := true } : TeamArm), by decide +kernel⟩,
    ⟨(W 1000 (fun (l : Lane) => l |> withCfg [(Team.teamLvl 0, 0x80018000)] |> fun (l : Lane) => { l with team := { l.team with levels := [(0, { arm := some ({ id := 7, epoch := 5, preMs := 10, postMs := 20, mib := 16, armed := false } : TeamArm) })] } })), .A, ({ ring := 0, seq := 1, hostTag := 2, command := 1026, lane := 0, path := 0, body := [0, 0, 0, 0, 7, 0, 0, 0], verdict := true } : Request), 0, ({ id := 7, epoch := 5, preMs := 10, postMs := 20, mib := 16, armed := false } : TeamArm), by decide +kernel⟩⟩

/-- Every hypothesis of `Obligations.ToolCommands` is met, clause by clause. -/
theorem hyps_ToolCommands :
    (∃ s : State, ∃ i : LaneId, ∃ r : Request, ∃ p, r.lane = 0 ∧ Admitted s i 0x0500 r ∧ r.len = (if r.at_ 3 1 = 1 then 28 else if r.at_ 3 1 = 2 then 30 else 20) ∧ (s.lane i).tune.plan = none ∧ r.at_ 0 2 ≤ 2047 ∧ enValid (entryHi (s.lane i).cfg (r.at_ 0 2)) = true ∧ (s.lane i).tunePlan r = some p ∧ (p.guard = none → guardNeeded (s.lane i).cfg (r.at_ 0 2) = false) ∧ (∀ k ∈ p.guard, k ≤ 63 ∧ (s.lane i).p (Pk.packState k) = pkRun))
    ∧ (∃ s : State, ∃ i : LaneId, ∃ r : Request, r.lane = 0 ∧ Admitted s i 0x0501 r ∧ r.len = 0 ∧ (s.lane i).tune.plan.isSome = true)
    ∧ (∃ s : State, ∃ i : LaneId, ∃ r : Request, r.lane = 0 ∧ Admitted s i 0x0510 r ∧ r.len = 3 ∧ r.at_ 2 1 ≤ 4 ∧ (s.lane i).p Ta.traceState ≠ 1)
    ∧ (∃ s : State, ∃ i : LaneId, ∃ r : Request, r.lane = 0 ∧ Admitted s i 0x0520 r ∧ r.len = 20 ∧ r.at_ 0 4 ≤ 60000 ∧ 1 ≤ r.at_ 4 4 ∧ r.at_ 4 4 ≤ 3600000 ∧ 16 ≤ r.at_ 8 2 ∧ r.at_ 8 2 ≤ 4096 ∧ r.at_ 10 1 = 0 ∧ (s.lane i).acq.paused = false ∧ (s.lane i).armed = none ∧ (s.lane i).acq.records.length < 16 ∧ r.at_ 8 2 ≤ (s.lane i).pn Ta.acqFreeMib ∧ (s.lane i).inReset 4 0 = false)
    ∧ (∃ s : State, ∃ i : LaneId, ∃ r : Request, ∃ q, r.lane = 0 ∧ (s.lane i).armed = some q ∧ Admitted s i 0x0521 r ∧ r.len = 0)
    ∧ (∃ s : State, ∃ i : LaneId, ∃ r : Request, ∃ q, r.lane = 0 ∧ (s.lane i).armed = some q ∧ Admitted s i 0x0522 r ∧ r.len = 0 ∧ (s.lane i).acq.paused = false ∧ q.state = 2)
    ∧ (∃ s : State, ∃ i : LaneId, ∃ r : Request, ∃ n, r.lane = 0 ∧ Admitted s i 0x0525 r ∧ r.len = 1 ∧ r.at_ 0 1 = n ∧ (∃ q ∈ (s.lane i).acq.records, q.no = n))
    ∧ (∃ s : State, ∃ i : LaneId, ∃ r : Request, ∃ ms : Nat, ∃ w : Bool, r.lane = 0 ∧ Admitted s i 0x0605 r ∧ r.len = 8 ∧ r.at_ 0 8 = ms ∧ (s.lane i).p Mp.mpState = 0 ∧ clockFirst ≤ (ms : Int) ∧ (ms : Int) < clockEnd ∧ s.refLane = some i ∧ (s.lane i).met.clockSteps = [] ∧ w = (s.lane i).clockWithin ((ms : Int) - (s.lane i).legalMs) (decide ((s.lane i).p Cal.clockState = 0)) ∧ (w = true ∨ (s.lane i).met.splitOpen = false ∨ (s.lane i).p Cal.clockState ≠ 0))
    ∧ (∃ s : State, ∃ i : LaneId, ∃ r : Request, ∃ ms : Nat, ∃ w : Bool, r.lane = 0 ∧ Admitted s i 0x0605 r ∧ r.len = 8 ∧ r.at_ 0 8 = ms ∧ (s.lane i).p Mp.mpState = 0 ∧ clockFirst ≤ (ms : Int) ∧ (ms : Int) < clockEnd ∧ s.refLane = some i ∧ (s.lane i).met.clockSteps = [] ∧ w = (s.lane i).clockWithin ((ms : Int) - (s.lane i).legalMs) (decide ((s.lane i).p Cal.clockState = 0)) ∧ w = false ∧ (s.lane i).met.splitOpen = true ∧ (s.lane i).p Cal.clockState = 0)
    ∧ (∃ s : State, ∃ i : LaneId, ∃ r : Request, ∃ n, r.lane = 0 ∧ Admitted s i 0x0606 r ∧ r.len = 4 ∧ r.at_ 0 4 = n ∧ (s.lane i).p Mp.mpState = 0 ∧ (∃ k ∈ (s.lane i).met.unacked, k.1 = n)) :=
  ⟨⟨(W 1000 (fun (l : Lane) => l |> withCfg [(Slot.entryHi 7, 0x80000000)])), .A, ({ ring := 0, seq := 1, hostTag := 2, command := 1280, lane := 0, path := 0, body := [7, 0, 0, 3, 1, 0, 0, 0, 0, 1, 255, 0, 0, 0, 0, 0, 16, 0, 0, 0], verdict := true } : Request), ((((W 1000 (fun l => l |> withCfg [(Slot.entryHi 7, 0x80000000)])).lane .A).tunePlan ({ ring := 0, seq := 1, hostTag := 2, command := 1280, lane := 0, path := 0, body := [7, 0, 0, 3, 1, 0, 0, 0, 0, 1, 255, 0, 0, 0, 0, 0, 16, 0, 0, 0], verdict := true } : Request)).getD { slot := 0, node := 0, kind := 0, amp := 0, nodeA := 0, nodeB := 0, guard := none, guardA := 0, startEpoch := 0, endLap := 0 }), by decide +kernel⟩,
    ⟨(W 1000 (fun (l : Lane) => l |> fun (l : Lane) => { l with tune := { l.tune with plan := some { slot := 0, node := 0, kind := 0, amp := 0, nodeA := 0, nodeB := 0, guard := none, guardA := 0, startEpoch := 0, endLap := 0 } } })), .A, ({ ring := 0, seq := 1, hostTag := 2, command := 1281, lane := 0, path := 0, body := [], verdict := true } : Request), by decide +kernel⟩,
    ⟨(W 1000), .A, ({ ring := 0, seq := 1, hostTag := 2, command := 1296, lane := 0, path := 0, body := [255, 255, 4], verdict := true } : Request), by decide +kernel⟩,
    ⟨(W 1000 (fun (l : Lane) => l |> withPts [(Ta.acqFreeMib, 4096)])), .A, ({ ring := 0, seq := 1, hostTag := 2, command := 1312, lane := 0, path := 0, body := [96, 234, 0, 0, 128, 238, 54, 0, 0, 16, 0, 0, 0, 0, 0, 0, 0, 0, 0, 0], verdict := true } : Request), by decide +kernel⟩,
    ⟨(W 1000 (fun (l : Lane) => l |> fun (l : Lane) => { l with acq := { l.acq with records := [({ no := 2, state := 2, armId := 1, preMs := 5, postMs := 5, mib := 0, armLap := 1, trigLap := 1 } : AcqRecord)] } })), .A, ({ ring := 0, seq := 1, hostTag := 2, command := 1313, lane := 0, path := 0, body := [], verdict := true } : Request), ({ no := 2, state := 2, armId := 1, preMs := 5, postMs := 5, mib := 0, armLap := 1, trigLap := 1 } : AcqRecord), by decide +kernel⟩,
    ⟨(W 1000 (fun (l : Lane) => l |> fun (l : Lane) => { l with acq := { l.acq with records := [({ no := 2, state := 2, armId := 1, preMs := 5, postMs := 5, mib := 0, armLap := 1, trigLap := 1 } : AcqRecord)] } })), .A, ({ ring := 0, seq := 1, hostTag := 2, command := 1314, lane := 0, path := 0, body := [], verdict := true } : Request), ({ no := 2, state := 2, armId := 1, preMs := 5, postMs := 5, mib := 0, armLap := 1, trigLap := 1 } : AcqRecord), by decide +kernel⟩,
    ⟨(W 1000 (fun (l : Lane) => l |> fun (l : Lane) => { l with acq := { l.acq with records := [({ no := 2, state := 5, armId := 1, preMs := 5, postMs := 5, mib := 0, armLap := 1, trigLap := 1 } : AcqRecord)] } })), .A, ({ ring := 0, seq := 1, hostTag := 2, command := 1317, lane := 0, path := 0, body := [2], verdict := true } : Request), 2, by decide +kernel⟩,
    ⟨(W 1000 (fun (l : Lane) => l |> fun (l : Lane) => l.met! (fun m => { m with legal := 1577836800000 * 8 }) |> withPts [(Cal.clockState, 0)])), .A, ({ ring := 0, seq := 1, hostTag := 2, command := 1541, lane := 0, path := 0, body := [1, 232, 102, 94, 111, 1, 0, 0], verdict := true } : Request), 1577836800001, true, by decide +kernel⟩,
    ⟨(W 1000 (fun (l : Lane) => l |> fun (l : Lane) => l.met! (fun m => { m with legal := 1577836800000 * 8, splitOpen := true }) |> withPts [(Cal.clockState, 0)])), .A, ({ ring := 0, seq := 1, hostTag := 2, command := 1541, lane := 0, path := 0, body := [1, 232, 102, 94, 112, 1, 0, 0], verdict := true } : Request), 1582131767297, false, by decide +kernel⟩,
    ⟨(W 1000 (fun (l : Lane) => l |> fun (l : Lane) => l.met! (fun m => { m with unacked := [(5, 1)] }))), .A, ({ ring := 0, seq := 1, hostTag := 2, command := 1542, lane := 0, path := 0, body := [5, 0, 0, 0], verdict := true } : Request), 5, by decide +kernel⟩⟩

/-- Every hypothesis of `Obligations.PowerAndBusCommands` is met, clause by clause. -/
theorem hyps_PowerAndBusCommands :
    (∃ s : State, ∃ i : LaneId, ∃ r : Request, r.lane = 0 ∧ Admitted s i 0x0700 r ∧ r.len = 0 ∧ s.a.power.sleep = none ∧ s.b.power.sleep = none)
    ∧ (∃ s : State, ∃ i : LaneId, ∃ r : Request, ∃ n, r.lane = 0 ∧ Admitted s i 0x0701 r ∧ r.at_ 0 1 = n ∧ 1 ≤ n ∧ n ≤ 13 ∧ r.len = 8 + 16 * n ∧ (∀ e ∈ ttEntriesOf r, e.arrivalMs = 0 ∨ ((s.lane i).legalMs < (e.arrivalMs : Int) ∧ (e.arrivalMs : Int) ≤ (s.lane i).legalMs + 400 * 86400000 ∧ e.leadS ≤ 3600)) ∧ ((ttEntriesOf r).foldl ttPut (s.lane i).power.tt).length ≤ 64)
    ∧ (∃ s : State, ∃ i : LaneId, ∃ r : Request, r.lane = 0 ∧ Admitted s i 0x0703 r ∧ r.len = 0)
    ∧ (∃ s : State, ∃ i : LaneId, ∃ r : Request, r.lane = 0 ∧ s.holder = some i ∧ Admitted s i 0x0705 r ∧ r.len = 0 ∧ (s.lane i).power.restart = none ∧ s.restartRefused (s.lane i) = false)
    ∧ (∃ s : State, ∃ i : LaneId, ∃ r : Request, ∃ b, ∃ n, r.lane = 0 ∧ r.at_ 0 1 = b ∧ b ≤ 3 ∧ (s.lane i).c (Can.canEnable b) ≠ 0 ∧ ((s.lane i).bus b).asleep = false ∧ Admitted s i 0x0800 r ∧ r.at_ 1 1 = n ∧ n ≤ 63 ∧ r.len = 4 + r.at_ 2 1 ∧ txEnabled (s.lane i).cfg b n = true ∧ r.at_ 2 1 ∈ canLengths (bitAt ((s.lane i).cn (Can.txCfg b n)) 29))
    ∧ (∃ s : State, ∃ i : LaneId, ∃ r : Request, ∃ b, ∃ n, r.lane = 0 ∧ r.at_ 0 1 = b ∧ b ≤ 3 ∧ (s.lane i).c (Can.canEnable b) ≠ 0 ∧ ((s.lane i).bus b).asleep = false ∧ Admitted s i 0x0801 r ∧ r.len = 2 ∧ r.at_ 1 1 = n ∧ n ≤ 63 ∧ bitAt ((s.lane i).cn (Can.rxCfg b n)) 31 = true)
    ∧ (∃ s : State, ∃ i : LaneId, ∃ r : Request, ∃ b, r.lane = 0 ∧ r.at_ 0 1 = b ∧ b ≤ 3 ∧ (s.lane i).c (Can.canEnable b) ≠ 0 ∧ ((s.lane i).bus b).asleep = false ∧ Admitted s i 0x0802 r ∧ r.len = 1)
    ∧ (∃ s : State, ∃ i : LaneId, ∃ r : Request, ∃ b, r.lane = 0 ∧ r.at_ 0 1 = b ∧ b ≤ 3 ∧ (s.lane i).c (Can.canEnable b) ≠ 0 ∧ ((s.lane i).bus b).asleep = false ∧ Admitted s i 0x0804 r ∧ r.len = 1 ∧ (s.lane i).c (Can.boffAuto b) ≠ 1 ∧ ((s.lane i).bus b).off = true)
    ∧ (∃ s : State, ∃ i : LaneId, ∃ r : Request, ∃ b, r.lane = 0 ∧ r.at_ 0 1 = b ∧ b ≤ 3 ∧ (s.lane i).c (Can.canEnable b) ≠ 0 ∧ Admitted s i 0x0803 r ∧ r.len = 1)
    ∧ (∃ s : State, ∃ i : LaneId, ∃ r : Request, ∃ n, r.lane = 0 ∧ Admitted s i 0x0810 r ∧ s.chassis.variant.mast = true ∧ r.len = 2 + r.at_ 1 1 ∧ r.at_ 1 1 ≤ 48 ∧ r.at_ 0 1 = n ∧ 1 ≤ n ∧ n ≤ 16 ∧ nodeOn (s.lane i).cfg n = true ∧ ((s.lane i).mastNodeSt n).queue.length < 4) :=
  ⟨⟨(W 1000), .A, ({ ring := 0, seq := 1, hostTag := 2, command := 1792, lane := 0, path := 0, body := [], verdict := true } : Request), by decide +kernel⟩,
    ⟨(W 1000), .A, ({ ring := 0, seq := 1, hostTag := 2, command := 1793, lane := 0, path := 0, body := [1, 0, 0, 0, 0, 0, 0, 0, 3, 0, 16, 14, 0, 0, 0, 0, 0, 192, 239, 11, 8, 0, 0, 0], verdict := true } : Request), 1, by decide +kernel⟩,
    ⟨(W 1000), .A, ({ ring := 0, seq := 1, hostTag := 2, command := 1795, lane := 0, path := 0, body := [], verdict := true } : Request), by decide +kernel⟩,
    ⟨(W 1000), .A, ({ ring := 0, seq := 1, hostTag := 2, command := 1797, lane := 0, path := 0, body := [], verdict := true } : Request), by decide +kernel⟩,
    ⟨(W 1000 (fun (l : Lane) => l |> withCfg [(Can.canEnable 3, 1)] |> withCfg [(Can.txCfg 3 63, 0x80000005)])), .A, ({ ring := 0, seq := 1, hostTag := 2, command := 2048, lane := 0, path := 0, body := [3, 63, 8, 0, 7, 0, 0, 0, 0, 0, 0, 0], verdict := true } : Request), 3, 63, by decide +kernel⟩,
    ⟨(W 1000 (fun (l : Lane) => l |> withCfg [(Can.canEnable 3, 1)] |> withCfg [(Can.rxCfg 3 63, 0x80000005)])), .A, ({ ring := 0, seq := 1, hostTag := 2, command := 2049, lane := 0, path := 0, body := [3, 63], verdict := true } : Request), 3, 63, by decide +kernel⟩,
    ⟨(W 1000 (fun (l : Lane) => l |> withCfg [(Can.canEnable 3, 1)])), .A, ({ ring := 0, seq := 1, hostTag := 2, command := 2050, lane := 0, path := 0, body := [3], verdict := true } : Request), 3, by decide +kernel⟩,
    ⟨(W 1000 (fun (l : Lane) => l |> withCfg [(Can.canEnable 3, 1)] |> withCfg [(Can.boffAuto 3, 0)] |>.setBus 3 { off := true })), .A, ({ ring := 0, seq := 1, hostTag := 2, command := 2052, lane := 0, path := 0, body := [3], verdict := true } : Request), 3, by decide +kernel⟩,
    ⟨(W 1000 (fun (l : Lane) => l |> withCfg [(Can.canEnable 3, 1)] |>.setBus 3 { asleep := true })), .A, ({ ring := 0, seq := 1, hostTag := 2, command := 2051, lane := 0, path := 0, body := [3], verdict := true } : Request), 3, by decide +kernel⟩,
    ⟨(W 1000 (fun (l : Lane) => l |> withCfg [(Mast.mastNode 15, 0x80000001)])), .A, ({ ring := 0, seq := 1, hostTag := 2, command := 2064, lane := 0, path := 0, body := [16, 48, 0, 0, 0, 0, 0, 0, 0, 0, 0, 0, 0, 0, 0, 0, 0, 0, 0, 0, 0, 0, 0, 0, 0, 0, 0, 0, 0, 0, 0, 0, 0, 0, 0, 0, 0, 0, 0, 0, 0, 0, 0, 0, 0, 0, 0, 0, 0, 0], verdict := true } : Request), 16, by decide +kernel⟩⟩

/-- Every hypothesis of `Obligations.MailboxRows` is met, clause by clause. -/
theorem hyps_MailboxRows :
    (∃ s : State, ∃ i : LaneId, ∃ d : Datagram, (s.lane i).active = true ∧ (d.udpPort ≠ 50120 ∨ ((s.lane i).hostPort d.port).enabled = false))
    ∧ (∃ s : State, ∃ i : LaneId, ∃ d : Datagram, (s.lane i).active = true ∧ d.udpPort = 50120 ∧ d.port < 2 ∧ ((s.lane i).hostPort d.port).enabled = true ∧ d.version = 1 ∧ d.count = d.entries.length ∧ ((d.kind = 0 ∧ 1 ≤ d.count ∧ d.count ≤ 4) ∨ ((d.kind = 2 ∨ d.kind = 3) ∧ d.count = 0)) ∧ (s.lane i).authentic d = false)
    ∧ (∃ s : State, ∃ i : LaneId, ∃ d : Datagram, (s.lane i).active = true ∧ d.udpPort = 50120 ∧ d.port < 2 ∧ ((s.lane i).hostPort d.port).enabled = true ∧ d.version = 1 ∧ d.count = d.entries.length ∧ ((d.kind = 0 ∧ 1 ≤ d.count ∧ d.count ≤ 4) ∨ ((d.kind = 2 ∨ d.kind = 3) ∧ d.count = 0)) ∧ (s.lane i).authentic d = true ∧ ((s.lane i).window d.keySlot).stale d.counter = true ∧ ((s.lane i).window d.keySlot).viaOther.contains d.counter = false)
    ∧ (∃ s : State, ∃ i : LaneId, ∃ d : Datagram, (s.lane i).active = true ∧ d.udpPort = 50120 ∧ d.port < 2 ∧ ((s.lane i).hostPort d.port).enabled = true ∧ d.version = 1 ∧ d.count = d.entries.length ∧ ((d.kind = 0 ∧ 1 ≤ d.count ∧ d.count ≤ 4) ∨ ((d.kind = 2 ∨ d.kind = 3) ∧ d.count = 0)) ∧ (s.lane i).authentic d = true ∧ ((s.lane i).window d.keySlot).stale d.counter = true ∧ ((s.lane i).window d.keySlot).viaOther.contains d.counter = true)
    ∧ (∃ s : State, ∃ i : LaneId, ∃ d : Datagram, (s.lane i).active = true ∧ d.udpPort = 50120 ∧ d.port < 2 ∧ ((s.lane i).hostPort d.port).enabled = true ∧ d.version = 1 ∧ d.count = d.entries.length ∧ ((d.kind = 0 ∧ 1 ≤ d.count ∧ d.count ≤ 4) ∨ ((d.kind = 2 ∨ d.kind = 3) ∧ d.count = 0)) ∧ (s.lane i).authentic d = true ∧ ((s.lane i).window d.keySlot).stale d.counter = false)
    ∧ (∃ s : State, ∃ i : LaneId, ∃ f, ∃ rest, (s.lane i).active = true ∧ (s.lane i.other).host.forward = f :: rest ∧ ((s.lane i).window f.keySlot).recent.contains f.counter = false)
    ∧ (∃ s : State, ∃ i : LaneId, ∃ f, ∃ rest, (s.lane i).active = true ∧ (s.lane i.other).host.forward = f :: rest ∧ ((s.lane i).window f.keySlot).recent.contains f.counter = true)
    ∧ (∃ s : State, ∃ i : LaneId, (s.lane i).active = true ∧ s.holder = some i ∧ (s.lane i).host.takeLap ≠ (s.lane i).lap + 1 ∧ (s.lane i).power.sleep = none)
    ∧ (∃ s : State, ∃ i : LaneId, (s.lane i).active = true ∧ s.holder = some i ∧ (s.lane i.other).active = true)
    ∧ (∃ s : State, ∃ i : LaneId, ∃ n, (s.lane i).active = true ∧ s.holder = some i ∧ (s.lane i.other).active = true ∧ n ∈ (s.lane i).host.notices ∧ n.2.2 + 2 ≤ (s.lane i).lap)
    ∧ (∃ s : State, ∃ i : LaneId, ∃ q, ∃ e, (s.lane i).active = true ∧ (s.lane i).link.grant = true ∧ e ∈ ((s.lane i).ring q).entries ∧ e.sentLap ≠ 0 ∧ e.sentLap + msLaps 20 ≤ (s.lane i).lap + 1)
    ∧ (∃ s : State, ∃ i : LaneId, ∃ q, ∃ id, ∃ b, ∃ img, (s.lane i).active = true ∧ (s.lane i).imgs.head? = some img ∧ (((s.lane i).ring q).subs.find? (fun x => x.id == id) = some b) ∧ b.started = true ∧ b.pending ≠ [] ∧ ((s.lane i).ring q).room true = true ∧ ((s.lane i).ring q).waiting = []) :=
  ⟨⟨(W 1000), .A, { version := 1, kind := 2, keySlot := 16, counter := 5, ring := 0, count := 0, ackSeq := 0, source := 0, port := 1, tagOk := true, entries := [], udpPort := 50121 }, by decide +kernel⟩,
    ⟨(W 1000), .A, { version := 1, kind := 2, keySlot := 16, counter := 5, ring := 0, count := 0, ackSeq := 0, source := 0, port := 1, tagOk := false, entries := [] }, by decide +kernel⟩,
    ⟨(W 1000 (fun (l : Lane) => l |> withPts [(Key.storeSerialOk, 1)] |> fun (l : Lane) => { l with host := { l.host with counters := [(16, { highest := 5, recent := [5] })] } })), .A, { version := 1, kind := 2, keySlot := 16, counter := 5, ring := 0, count := 0, ackSeq := 0, source := 0, port := 1, tagOk := true, entries := [] }, by decide +kernel⟩,
    ⟨(W 1000 (fun (l : Lane) => l |> withPts [(Key.storeSerialOk, 1)] |> fun (l : Lane) => { l with host := { l.host with counters := [(16, { highest := 5, recent := [5], viaOther := [5] })] } })), .A, { version := 1, kind := 2, keySlot := 16, counter := 5, ring := 0, count := 0, ackSeq := 0, source := 0, port := 1, tagOk := true, entries := [] }, by decide +kernel⟩,
    ⟨(W 1000 (fun (l : Lane) => l |> withPts [(Key.storeSerialOk, 1)])), .A, { version := 1, kind := 0, keySlot := 16, counter := 5, ring := 0, count := 1, ackSeq := 0, source := 0, port := 1, tagOk := true, entries := [({ ring := 0, seq := 1, hostTag := 2, command := 1, lane := 0, path := 0, body := [], verdict := true } : Request)] }, by decide +kernel⟩,
    ⟨(W 1000 (fun (l : Lane) => l |> fun (l : Lane) => { l with host := { l.host with forward := [({ ring := 0, keySlot := 16, counter := 5, source := 7, ackSeq := 0, entries := [] } : Forward)] } })), .A, ({ ring := 0, keySlot := 16, counter := 5, source := 7, ackSeq := 0, entries := [] } : Forward), [], by decide +kernel⟩,
    ⟨(W 1000 (fun (l : Lane) => l |> fun (l : Lane) => { l with host := { l.host with forward := [({ ring := 0, keySlot := 16, counter := 5, source := 7, ackSeq := 0, entries := [] } : Forward)], counters := [(16, { highest := 5, recent := [5] })] } })), .A, ({ ring := 0, keySlot := 16, counter := 5, source := 7, ackSeq := 0, entries := [] } : Forward), [], by decide +kernel⟩,
    ⟨(W 1000), .A, by decide +kernel⟩,
    ⟨(W 1000 (fun (l : Lane) => l |> fun (l : Lane) => { l with host := { l.host with notices := [(0, 1, 998)] } })), .A, by decide +kernel⟩,
    ⟨(W 1000 (fun (l : Lane) => l |> fun (l : Lane) => { l with host := { l.host with notices := [(0, 1, 998)] } })), .A, (0, 1, 998), by decide +kernel⟩,
    ⟨(W 4000 (fun (l : Lane) => l |>.setRing 0 { ringDefault 0 with entries := [({ sentLap := 1 } : Entry)] })), .A, 0, ({ sentLap := 1 } : Entry), by decide +kernel⟩,
    ⟨(W 1000 (fun (l : Lane) => l |> fun (l : Lane) => { l with imgs := [({ lane := .A, epoch := 4, baton := 1, cfg := [], pts := [], stat := [], phaseGen := [], packGen := [], unready := [], identified := [], written := [], partner := none } : Image)] } |>.setRing 0 { ringDefault 0 with subs := [{ id := 5, started := true, ranges := [(0x91000, 1, 0)], pending := [4] }] })), .A, 0, 5, ({ id := 5, started := true, ranges := [(0x91000, 1, 0)], pending := [4] } : Sub), ({ lane := .A, epoch := 4, baton := 1, cfg := [], pts := [], stat := [], phaseGen := [], packGen := [], unready := [], identified := [], written := [], partner := none } : Image), by decide +kernel⟩⟩

/-- Every hypothesis of `Obligations.WaitingRequests` is met, clause by clause. -/
theorem hyps_WaitingRequests :
    (∃ s : State, ∃ i : LaneId, ∃ w, (s.lane i).active = true ∧ w ∈ (s.lane i).host.waitingReads ∧ (s.lane i).readReady w = true ∧ (snapshotAddrs w.req).isSome = true)
    ∧ (∃ s : State, ∃ i : LaneId, ∃ w, ∃ img, ∃ addrs, (s.lane i).active = true ∧ (s.lane i).host.waitingReads = [w] ∧ (s.lane i).readReady w = true ∧ (s.lane i).imageOf w.epoch = some img ∧ snapshotAddrs w.req = some addrs)
    ∧ (∃ s : State, ∃ i : LaneId, ∃ seq, ∃ w, (s.lane i).active = true ∧ ((s.lane i).host.waitingReads.find? (fun w => w.req.seq == seq && !w.wait.isEmpty) = some w) ∧ w.lap + msLaps 2 ≤ (s.lane i).lap)
    ∧ (∃ s : State, ∃ i : LaneId, ∃ seq, ∃ c, (s.lane i).active = true ∧ ((s.lane i).host.memberCalls.find? (fun c => c.2.seq == seq) = some c) ∧ c.1 + msLaps 20 ≤ (s.lane i).lap)
    ∧ (∃ s : State, ∃ i : LaneId, ∃ code, ∃ unit, ∃ x, (s.lane i).active = true ∧ x ∈ (s.lane i).host.resets ∧ x.code = code ∧ x.unit = unit ∧ (code ≠ 1 ∨ (s.lane i).ss unit = ssIdle ∨ (s.lane i).ss unit = ssBlocked))
    ∧ (∃ s : State, ∃ i : LaneId, ∃ slot, (s.lane i).active = true ∧ slot < 2048) :=
  ⟨⟨(W 1000 (fun (l : Lane) => l |> fun (l : Lane) => { l with imgs := [({ lane := .A, epoch := 4, baton := 1, cfg := [], pts := [], stat := [], phaseGen := [], packGen := [], unready := [], identified := [], written := [], partner := none } : Image)] } |> fun (l : Lane) => { l with host := { l.host with waitingReads := [({ req := ({ ring := 0, seq := 1, hostTag := 2, command := 16, lane := 0, path := 0, body := [4, 0, 0, 0, 0, 0, 0, 0, 1, 0, 0, 0, 0, 16, 9, 0, 1, 0, 0, 0], verdict := true } : Request), epoch := 4, lap := 600 } : WaitingRead)] } })), .A, ({ req := ({ ring := 0, seq := 1, hostTag := 2, command := 16, lane := 0, path := 0, body := [4, 0, 0, 0, 0, 0, 0, 0, 1, 0, 0, 0, 0, 16, 9, 0, 1, 0, 0, 0], verdict := true } : Request), epoch := 4, lap := 600 } : WaitingRead), by decide +kernel⟩,
    ⟨(W 1000 (fun (l : Lane) => l |> fun (l : Lane) => { l with imgs := [({ lane := .A, epoch := 4, baton := 1, cfg := [], pts := [], stat := [], phaseGen := [], packGen := [], unready := [], identified := [], written := [], partner := none } : Image)] } |> fun (l : Lane) => { l with host := { l.host with waitingReads := [({ req := ({ ring := 0, seq := 1, hostTag := 2, command := 16, lane := 0, path := 0, body := [4, 0, 0, 0, 0, 0, 0, 0, 1, 0, 0, 0, 0, 16, 9, 0, 1, 0, 0, 0], verdict := true } : Request), epoch := 4, lap := 600 } : WaitingRead)] } })), .A, ({ req := ({ ring := 0, seq := 1, hostTag := 2, command := 16, lane := 0, path := 0, body := [4, 0, 0, 0, 0, 0, 0, 0, 1, 0, 0, 0, 0, 16, 9, 0, 1, 0, 0, 0], verdict := true } : Request), epoch := 4, lap := 600 } : WaitingRead), ({ lane := .A, epoch := 4, baton := 1, cfg := [], pts := [], stat := [], phaseGen := [], packGen := [], unready := [], identified := [], written := [], partner := none } : Image), [0x91000], by decide +kernel⟩,
    ⟨(W 1000 (fun (l : Lane) => l |> fun (l : Lane) => { l with host := { l.host with waitingReads := [({ req := ({ ring := 0, seq := 1, hostTag := 2, command := 16, lane := 0, path := 0, body := [4, 0, 0, 0, 0, 0, 0, 0, 1, 0, 0, 0, 0, 16, 9, 0, 1, 0, 0, 0], verdict := true } : Request), epoch := 4, lap := 600, wait := [3] } : WaitingRead)] } })), .A, 1, ({ req := ({ ring := 0, seq := 1, hostTag := 2, command := 16, lane := 0, path := 0, body := [4, 0, 0, 0, 0, 0, 0, 0, 1, 0, 0, 0, 0, 16, 9, 0, 1, 0, 0, 0], verdict := true } : Request), epoch := 4, lap := 600, wait := [3] } : WaitingRead), by decide +kernel⟩,
    ⟨(W 5000 (fun (l : Lane) => l |> fun (l : Lane) => { l with host := { l.host with memberCalls := [(1000, ({ ring := 0, seq := 1, hostTag := 2, command := 16, lane := 0, path := 0, body := [4, 0, 0, 0, 0, 0, 0, 0, 1, 0, 0, 0, 0, 16, 9, 0, 1, 0, 0, 0], verdict := true } : Request))] } })), .A, 1, (1000, ({ ring := 0, seq := 1, hostTag := 2, command := 16, lane := 0, path := 0, body := [4, 0, 0, 0, 0, 0, 0, 0, 1, 0, 0, 0, 0, 16, 9, 0, 1, 0, 0, 0], verdict := true } : Request)), by decide +kernel⟩,
    ⟨(W 1000 (fun (l : Lane) => l |> fun (l : Lane) => { l with host := { l.host with resets := [({ code := 1, unit := 31, lanes := 0, req := ({ ring := 0, seq := 1, hostTag := 2, command := 80, lane := 0, path := 0, body := [1, 0, 31, 0], verdict := true } : Request) } : FnReset)] } })), .A, 1, 31, ({ code := 1, unit := 31, lanes := 0, req := ({ ring := 0, seq := 1, hostTag := 2, command := 80, lane := 0, path := 0, body := [1, 0, 31, 0], verdict := true } : Request) } : FnReset), by decide +kernel⟩,
    ⟨(W 1000), .A, 2047, by decide +kernel⟩⟩

/-- Every hypothesis of `Obligations.LapsAndConfiguration` is met, clause by clause. -/
theorem hyps_LapsAndConfiguration :
    (∃ c : Instr, ∃ s : State, ∃ t : State, exec c s = .next t ∧ (∀ a b, c ≠ .lapStart a b) ∧ (∀ j, c ≠ .lapsStart j)
      ∧ (∀ j, c ≠ .resyncAlignComplete j) ∧ (∀ j fresh m n, c ≠ .laneInserted j fresh m n))
    ∧ (∃ c : Instr, ∃ s : State, ∃ t : State, exec c s = .next t ∧ c ≠ .epochBoundary ∧ (∀ j, c ≠ .copyComplete j) ∧ (∀ j fresh m n, c ≠ .laneInserted j fresh m n)) :=
  ⟨⟨.epochBoundary, W 1000, _, rfl, fun _ _ => nofun, fun _ => nofun, fun _ => nofun, fun _ _ _ _ => nofun⟩,
    ⟨.lapStart {} {}, W 1000, _, rfl, nofun, fun _ => nofun, fun _ _ _ _ => nofun⟩⟩

/-- Every hypothesis of `Obligations.NothingElseMoves` is met, clause by clause. -/
theorem hyps_NothingElseMoves :
    ∃ (c : Instr) (s : State), (∀ b, c ≠ .sealChange b) ∧ c ≠ .grantEvaluation ∧ s.arbiter.grant.isSome = true :=
  ⟨.epochBoundary, W 1000, fun _ => nofun, nofun, rfl⟩

/-- Every hypothesis of `Obligations.PeripheralFrame` is met, clause by clause. -/
theorem hyps_PeripheralFrame :
    (∃ (s t : State) (c : Instr) (i : LaneId), exec c s = .next t ∧ ∃ j band freq phase port m kind, c ∈ [.refinQualified j, .refinLost j, .synciQualified j, .synciLost j, .epochMarkerMisaligned j,
      .bandSearchLock j band, .acquireComplete j freq phase, .holdoverExpiry j, .returnComplete j, .ptpMessage port m, .ptpSendInterval kind])
    ∧ (∃ (s t : State) (c : Instr) (i : LaneId), exec c s = .next t ∧ ∃ j b e f cyc col st tec recN, c ∈ [.canFrameReceive b f, .canColumnOpen b cyc col, .canColumnClose b, .canTxComplete ⟨b, e⟩,
      .canErrorStateChange j b st tec recN, .canBusoffRecovery j b])
    ∧ (∃ (s t : State) (c : Instr) (i : LaneId), exec c s = .next t ∧ ∃ j b e f cyc col st tec recN d, c ∈ [.canFrameReceive b f, .canColumnOpen b cyc col, .canColumnClose b, .canTxComplete ⟨b, e⟩,
      .canErrorStateChange j b st tec recN, .canBusoffRecovery j b] ∧ d ≠ b)
    ∧ (∃ (s t : State) (c : Instr) (i : LaneId), exec c s = .next t ∧ ∃ port a us noise, c ∈ [.mastRequestSend port, .mastResponseReceive port a, .mastResponseTimeout port,
      .mainsZeroCrossing port us noise])
    ∧ (∃ (s t : State) (c : Instr) (i : LaneId), exec c s = .next t ∧ ∃ src, c ∈ [.tuneMeasurementStart, .tuneComplete, .tuneGuardAbort, .traceTrigger src, .traceComplete]) :=
  ⟨⟨W 1000, _, .ptpSendInterval 2, .B, rfl, .A, 0, 0, 0, 0, .pdelay 0, 2, by decide⟩,
    ⟨W 1000, _, .canBusoffRecovery .B 3, .B, rfl, .B, 3, ⟨none, false⟩, ⟨okCan, none, false⟩, 0, ⟨0, false⟩, 0, 0, 0, by decide⟩,
    ⟨W 1000, _, .canBusoffRecovery .B 3, .B, rfl, .B, 3, ⟨none, false⟩, ⟨okCan, none, false⟩, 0, ⟨0, false⟩, 0, 0, 0, 2, by decide, by decide⟩,
    ⟨W 1000, _, .mainsZeroCrossing 1 20000 [], .B, rfl, 1, okMast, 20000, [], by decide⟩,
    ⟨W 1000, _, .traceTrigger 3, .B, rfl, 3, by decide⟩⟩

/-- Every hypothesis of `Obligations.PointFrame` is met, clause by clause. -/
theorem hyps_PointFrame :
    (∃ (s t : State) (c : Instr) (j : LaneId) (p o n e : Nat) (ppm : Int) (crc : Nat) (same : Bool) (as : List Nat),
      (c, as) ∈ [(.joinComplete p, [Ph.memberState p]), (.epochMarkerMisaligned j, [Pc.epochMisaligned]),
      (.allocationOverrun j, [Al.allocOverruns]),
      (.degradedElapsedReset o, [Out.degradedElapsedMs o]), (.teamElapsedReset, [SafM.teamElapsedMs]),
      (.referenceCheck j ppm, [Mp.refDevPpm, Mp.refState]), (.mpCrcCheck j crc same, [Mp.mpCrc, Mp.mpState]),
      (.s0LaneDisagree n, [S0.s0Fault n, S0.s0Faults n]), (.sessionEngineIdle e, [Pw.clockGate])]
      ∧ exec c s = .next t)
    ∧ (∃ (s t : State) (o : Nat), exec (.forecastOverrun o) s = .next t)
    ∧ (∃ (s : State) (closed link : Bool), s.chassis.variant.team = true
      ∧ (if closed then s.a.inResetState && s.b.inResetState else s.arbiter.grant.isSome && link) = true) :=
  ⟨⟨W 1000, _, .sessionEngineIdle 3, .A, 511, 31, 15, 3, 100, 0, true, [Pw.clockGate], by decide, rfl⟩,
    ⟨W 1140, _, 31, rfl⟩, ⟨W 1000, false, true, by decide +kernel⟩⟩

/-- Every hypothesis of `Obligations.MeterAndPoolFrame` is met, clause by clause. -/
theorem hyps_MeterAndPoolFrame :
    (∃ (s t : State) (c : Instr) (j : LaneId) (m now milliOhm n onMs : Nat), exec c s = .next t
      ∧ c ∈ [.cycleEnd j m now, .fixedBlockEnd j m, .ntcRead j m milliOhm, .s0Stuck j n onMs, .intervalClose, .billingClose,
        .tariffEvaluation])
    ∧ (∃ (s t : State) (c : Instr) (j : LaneId) (m now milliOhm n onMs : Nat), exec c s = .next t
      ∧ c ∈ [.cycleEnd j m now, .fixedBlockEnd j m, .ntcRead j m milliOhm, .s0Stuck j n onMs])
    ∧ (∃ (s t : State) (c : Instr) (src : RoundSource) (w : RoundWatts) (want drawn : Int), exec c s = .next t
      ∧ c ∈ [.controlSetReceive, .allocationRound, .teamReportReceive src want drawn, .teamAllocationReceive w])
    ∧ (∃ (s t : State) (c : Instr) (k p : Nat), exec c s = .next t ∧ c ∈ [.packRunStart k, .phaseJoin p, .rearmDelayExpiry p]) :=
  ⟨⟨W 1000, _, .intervalClose, .B, 39, 0, 10000000, 15, 0, rfl, by decide⟩,
    ⟨W 1000, _, .ntcRead .B 39 10000000, .B, 39, 0, 10000000, 15, 0, rfl, by decide⟩,
    ⟨W 1000, _, .teamReportReceive ⟨7, 7, 5⟩ 0 0, ⟨7, 7, 5⟩, ⟨0, 0, 0⟩, 0, 0, rfl, by decide⟩,
    ⟨W 1000, _, .phaseJoin 511, 63, 511, rfl, by decide⟩⟩

/-- Every hypothesis of `Obligations.LegalDisplay` is met, clause by clause. -/
theorem hyps_LegalDisplay : ∃ reg : Int, 0 ≤ reg :=
  ⟨9999999999999999, by decide +kernel⟩

/-- Every hypothesis of `Obligations.BatonNumber` is met, clause by clause. -/
theorem hyps_BatonNumber :
    (∃ s t : State, s.arbiter.baton < 2 ^ 32 ∧ step s = .next t)
    ∧ (∃ (c : Instr) (s t : State), s.arbiter.baton < 2 ^ 32 ∧ exec c s = .next t ∧ t.arbiter.baton ≠ s.arbiter.baton) :=
  ⟨⟨{ W 1000 with pending := [.grantEvaluation], arbiter := { baton := 2 ^ 32 - 1, lap := 1000 } }, _, by decide +kernel, rfl⟩,
    ⟨.grantEvaluation, { W 1000 with arbiter := { baton := 2 ^ 32 - 1, lap := 1000 } }, _, by decide +kernel, rfl, by decide +kernel⟩⟩

/-- Every hypothesis of `Obligations.BatonStays` is met, clause by clause. -/
theorem hyps_BatonStays :
    ∃ (c : Instr) (s t : State) (h : LaneId), exec c s = .next t ∧ s.arbiter.grant = some h ∧ t.arbiter.grant ≠ some h :=
  ⟨.grantEvaluation, W 1000 (fun l => { l with link := { l.link with want := decide (l.id = .B) } }), _, .A, rfl, rfl, by decide +kernel⟩

/-- Every hypothesis of `Obligations.SubscriptionLimits` is met, clause by clause. -/
theorem hyps_SubscriptionLimits :
    (∃ s : State, ∃ i : LaneId, ∃ r : Request, r.lane = 0 ∧ Admitted s i 0x0030 r ∧ (s.lane i).active = true ∧ (∀ b ∈ ((s.lane i).ring r.ring).subs, b.id ≤ 15) ∧ (((s.lane i).ring r.ring).subs.map Sub.id).Nodup)
    ∧ (∃ s : State, ∃ i : LaneId, ∃ r : Request, r.lane = 0 ∧ Admitted s i 0x0030 r ∧ (s.lane i).active = true ∧ 8 ≤ r.len ∧ r.at_ 6 2 ≤ 13 ∧ r.len = 8 + 16 * r.at_ 6 2 ∧ (15 < r.at_ 0 2 ∨ ∃ b, ((s.lane i).ring r.ring).subs.find? (fun b => b.id == r.at_ 0 2) = some b ∧ b.started = true ∧ r.at_ 3 1 = 0))
    ∧ (∃ s : State, ∃ i : LaneId, ∃ r : Request, r.lane = 0 ∧ Admitted s i 0x0030 r ∧ (s.lane i).active = true ∧ 8 ≤ r.len ∧ r.at_ 6 2 ≤ 13 ∧ r.len = 8 + 16 * r.at_ 6 2 ∧ r.at_ 0 2 ≤ 15 ∧ r.at_ 2 1 ≤ 1 ∧ (r.at_ 2 1 = 1 → r.at_ 4 2 ≠ 0) ∧ (∀ x ∈ subRanges r (r.at_ 6 2), addrBad x.1 = false ∧ addrBad (x.1 + x.2.1 - 1) = false ∧ (s.lane i).noMember x.1 = false) ∧ (∀ b, ((s.lane i).ring r.ring).subs.find? (fun b => b.id == r.at_ 0 2) = some b → b.started = false ∨ r.at_ 3 1 ≠ 0) ∧ (∀ b : Sub, b.ranges = (match ((s.lane i).ring r.ring).subs.find? (fun b => b.id == r.at_ 0 2) with | some old => old.ranges | none => []) ++ subRanges r (r.at_ 6 2) → 4096 < b.points.length)) :=
  ⟨⟨(W 1000 (fun (l : Lane) => l |>.setRing 0 { ringDefault 0 with subs := [({ id := 5, started := true } : Sub)] })), .A, ({ ring := 0, seq := 1, hostTag := 2, command := 48, lane := 0, path := 0, body := [15, 0, 1, 0, 1, 0, 1, 0, 0, 16, 9, 0, 2, 0, 0, 0, 0, 0, 0, 0, 0, 0, 0, 0], verdict := true } : Request), by decide +kernel⟩,
    ⟨(W 1000), .A, ({ ring := 0, seq := 1, hostTag := 2, command := 48, lane := 0, path := 0, body := [16, 0, 1, 0, 1, 0, 0, 0], verdict := true } : Request), by (repeat' apply And.intro) <;> first | decide +kernel | exact Or.inl (by decide +kernel)⟩,
    ⟨(W 1000), .A, ({ ring := 0, seq := 1, hostTag := 2, command := 48, lane := 0, path := 0, body := [15, 0, 1, 0, 1, 0, 2, 0, 0, 16, 9, 0, 0, 16, 0, 0, 0, 0, 0, 0, 0, 0, 0, 0, 0, 16, 9, 0, 1, 0, 0, 0, 0, 0, 0, 0, 0, 0, 0, 0], verdict := true } : Request), by (repeat' apply And.intro) <;> first | decide +kernel | exact (fun b h => by have e : (none : Option Sub) = some b := h; cases e) | exact (fun b h => by have e : b.ranges = [(0x91000, 4096, 0), (0x91000, 1, 0)] := h; simp only [Sub.points, e]; decide +kernel)⟩⟩

end Sys2Proof.Tests
end

section
/-!
00_scope.md: what reset leaves, and what every command of the machine leaves alone.
-/

namespace Sys2Proof.Machine

open Sys2Proof

section Commands

variable (s : State)

/-! ### What an equation of cores says -/

/-- Two states with one core agree on the queue, the chassis's identity, the seal, the grant, and the baton number of a standing grant. -/
theorem State.core_eq_iff (t : State) : t.core = s.core ↔
    t.pending = s.pending ∧ t.chassis.variant = s.chassis.variant ∧ t.chassis.serialLo = s.chassis.serialLo
    ∧ t.chassis.serialHi = s.chassis.serialHi ∧ t.chassis.rev = s.chassis.rev ∧ t.chassis.sealOpen = s.chassis.sealOpen
    ∧ t.arbiter.grant = s.arbiter.grant ∧ (s.arbiter.grant.isSome = true → t.arbiter.baton = s.arbiter.baton) := by
  simp only [State.core, Core.mk.injEq]
  constructor
  · rintro ⟨hv, hlo, hhi, hrev, hseal, hq, hg, hb⟩
    exact ⟨hq, hv, hlo, hhi, hrev, hseal, hg, fun h => by simpa [hg, h] using hb⟩
  · rintro ⟨hq, hv, hlo, hhi, hrev, hseal, hg, hb⟩
    exact ⟨hv, hlo, hhi, hrev, hseal, hq, hg, by rw [hg]; split <;> simp_all⟩

/-! ### The rows that choose what they reach -/

@[simp] theorem State.ite_core (c : Prop) [Decidable c] (x y : State) : (if c then x else y).core = if c then x.core else y.core :=
  apply_ite State.core c x y

@[simp] theorem State.linkRow_core (i : LaneId) (h : Nat) (f : Lane → Lane) : (s.linkRow i h f).core = s.core := by
  simp [State.linkRow]

@[simp] theorem State.factRow_core (i : LaneId) (h : Nat) (f : Lane → Lane) : (s.factRow i h f).core = s.core := by
  simp [State.factRow]

/-- A hub's record reaches no lane, one, or both, as the grant stands. -/
@[simp] theorem State.hubIdentity_core (i : LaneId) (h iFs vFs fitted : Nat) : (s.hubIdentity i h iFs vFs fitted).core = s.core := by
  unfold State.hubIdentity
  cases s.holder <;> simp

/-- SEAL_CHANGE moves the CAL SEAL switch and nothing else of the core (R312). -/
theorem exec_sealChange_core (opened : Bool) : ∃ t, exec (.sealChange opened) s = .next t
    ∧ t.core = ({ s with chassis := { s.chassis with sealOpen := opened } } : State).core :=
  ⟨_, rfl, State.eachLane_core _ _ _⟩

/-! ### The evaluation of the grant -/

/-- An evaluation writes the arbiter's own record; what follows from it reaches the lanes only (R353). -/
theorem State.grantEvaluation_core : ∃ new : Arbiter, s.grantEvaluation.core = ({ s with arbiter := new } : State).core := by
  unfold State.grantEvaluation
  split
  · exact ⟨s.arbiter, rfl⟩
  · refine ⟨{ s.grantNext s.lapNow with evaluated := some s.lapNow }, ?_⟩
    dsimp only
    split
    · simp
    · cases s.arbiter.grant <;> cases (s.grantNext s.lapNow).grant <;> simp

theorem exec_grantEvaluation_core : ∃ t new, exec .grantEvaluation s = .next t ∧ t.core = ({ s with arbiter := new } : State).core := by
  obtain ⟨new, h⟩ := s.grantEvaluation_core
  exact ⟨_, new, rfl, by simpa using h⟩

/-! ### Every other command -/

/-- Every command but SEAL_CHANGE and GRANT_EVALUATION completes and leaves the core: its meaning is composed of operations that
each leave it, by the `_core` law of the operation. -/
theorem exec_core (c : Instr) (hseal : ∀ b, c ≠ .sealChange b) (hgrant : c ≠ .grantEvaluation) :
    ∃ t, exec c s = .next t ∧ t.core = s.core := by
  cases c
  case sealChange b => exact absurd rfl (hseal b)
  case grantEvaluation => exact absurd rfl hgrant
  all_goals exact ⟨_, rfl, by simp⟩

end Commands

/-! ### The machine as a whole -/

/-- Settles O53, from what each command does to the core. -/
theorem nothingElseMoves : Obligations.NothingElseMoves := by
  unfold Obligations.NothingElseMoves
  intro c s
  by_cases hseal : ∃ b, c = .sealChange b
  · obtain ⟨b, rfl⟩ := hseal
    obtain ⟨t, ht, hcore⟩ := exec_sealChange_core s b
    obtain ⟨hq, hv, hlo, hhi, hrev, -, hg, hb⟩ := (State.core_eq_iff _ t).mp hcore
    exact ⟨t, ht, hq, hv, hlo, hhi, hrev, fun h => absurd rfl (h b), fun _ => ⟨hg, hb⟩⟩
  by_cases hgrant : c = .grantEvaluation
  · subst hgrant
    obtain ⟨t, new, ht, hcore⟩ := exec_grantEvaluation_core s
    obtain ⟨hq, hv, hlo, hhi, hrev, ho, -⟩ := (State.core_eq_iff _ t).mp hcore
    exact ⟨t, ht, hq, hv, hlo, hhi, hrev, fun _ => ho, fun h => absurd rfl h⟩
  · obtain ⟨t, ht, hcore⟩ := exec_core s c (fun b h => hseal ⟨b, h⟩) hgrant
    obtain ⟨hq, hv, hlo, hhi, hrev, ho, hg, hb⟩ := (State.core_eq_iff s t).mp hcore
    exact ⟨t, ht, hq, hv, hlo, hhi, hrev, fun _ => ho, fun _ => ⟨hg, hb⟩⟩

/-- Nothing waits, so a step leaves the state as it is (assumption 30). -/
theorem step_of_pending_nil (s : State) (h : s.pending = []) : step s = .next s := by
  simp [step, h]

/-- Reset makes both lanes alike but for their names. -/
theorem State.lane_reset (i : LaneId) : State.reset.lane i = Lane.reset i := by
  cases i <;> rfl

/-- Settles O51, lane by lane; the idle step is that of every state in which nothing waits. -/
theorem resetState : Obligations.ResetState := by
  unfold Obligations.ResetState
  refine ⟨rfl, rfl, rfl, fun i => ?_, step_of_pending_nil _ rfl⟩
  rw [State.lane_reset]
  exact ⟨rfl, rfl, rfl, rfl⟩

end Sys2Proof.Machine
end

section
/-!
01_architecture.md: laps and epochs, how a lane leaves its place, and rows of one or two points.
-/

namespace Sys2Proof.Machine

open Sys2Proof

/-! ### Laps that stop as LAP_START counts them -/

/-- A controller just reset in which the laps of lane A run. -/
def State.lappingReset : State :=
  { State.reset with a := { Lane.reset .A with pacer := { locked := true, laps := true } } }

/-- The PLL of lane A has lost its lock in the lap that ends (R360 cause 2): the lane is reset and its laps stop before they are counted. -/
theorem lapStart_lappingReset_unlocked (inputs : LaneId → LapInput) (hA : inputs .A = { unlocked := true }) (hB : inputs .B = {}) :
    ((State.lappingReset.lapStart inputs).lane .A).lap = 0 := by
  obtain rfl : inputs = fun i => match i with | .A => { unlocked := true } | .B => {} := by
    funext i; cases i <;> assumption
  decide +kernel

/-- Refutes O52: lane A loses its PLL lock in the lap that ends, so LAP_START stops its laps (R98) before they are counted, and its lap
number stays 0. -/
theorem not_lapsAndConfiguration : ¬ Obligations.LapsAndConfiguration := by
  unfold Obligations.LapsAndConfiguration
  rintro ⟨hlaps, -, -⟩
  obtain ⟨t, ht, hlap⟩ := hlaps State.lappingReset { unlocked := true } {}
  have hcounted : (t.lane .A).lap = 1 := (hlap .A).trans (by decide +kernel)
  have hnext : .next (State.lapStart _ State.lappingReset) = Host.Outcome.next t := ht
  rw [← Host.Outcome.next.inj hnext, lapStart_lappingReset_unlocked _ rfl rfl] at hcounted
  exact absurd hcounted (by decide)

/-! ### What a row leaves of each lane -/

/-- Nothing of the lane differs but its rings and what goes with them; the trial that waits for the epoch stays. -/
def Lane.RingsOnly (l m : Lane) : Prop := { m with host := l.host } = l ∧ m.host.trial = l.host.trial

/-- A relation between a lane before and after, in which events and answers leave a lane, and which steps carry on. -/
structure LaneRel (R : LaneId → Lane → Lane → Prop) : Prop where
  rings : ∀ {i l m}, l.RingsOnly m → R i l m
  trans : ∀ {i l m n}, R i l m → R i m n → R i l n

/-- Nothing but the lanes differs, and each of them by `R`. -/
def State.LaneWise (R : LaneId → Lane → Lane → Prop) (s t : State) : Prop := OnlyLanes s t ∧ ∀ i, R i (s.lane i) (t.lane i)

theorem State.LaneWise.arbiter {R : LaneId → Lane → Lane → Prop} {s t : State} (h : s.LaneWise R t) : t.arbiter = s.arbiter := by
  rw [h.1]

/-- A command completes with an effect that holds of the state it answers. -/
theorem does_of_next {c : Instr} {s t : State} {P : State → Prop} (h : exec c s = .next t) (hP : P t) : Does c s P := ⟨t, h, hP⟩

theorem Lane.RingsOnly.refl (l : Lane) : l.RingsOnly l := ⟨rfl, rfl⟩

theorem Lane.RingsOnly.eq {l m : Lane} (h : l.RingsOnly m) : m = { l with host := m.host } := by
  conv_rhs => rw [← h.1]

theorem Lane.RingsOnly.trans {l m n : Lane} (h : l.RingsOnly m) (h' : m.RingsOnly n) : l.RingsOnly n :=
  ⟨by rw [h'.eq]; exact h.1, h'.2.trans h.2⟩

theorem Lane.ringsOnly_fire (l : Lane) (n unit : Nat) (detail : List Int) : l.RingsOnly (l.fire n unit detail) := by
  unfold Lane.fire
  dsimp only
  repeat' split
  all_goals exact ⟨rfl, rfl⟩

theorem Lane.ringsOnly_answer (l : Lane) (r : Request) (rep : Reply) : l.RingsOnly (l.answer r rep) := ⟨rfl, rfl⟩

theorem LaneRel.ringsOnly : LaneRel (fun _ => Lane.RingsOnly) := ⟨id, fun h h' => h.trans h'⟩

/-- What a row on lane `i` leaves of the other lane: everything but its rings. -/
theorem LaneRel.beside (i : LaneId) : LaneRel (fun j l m => j ≠ i → l.RingsOnly m) :=
  ⟨fun h _ => h, fun h h' hj => (h hj).trans (h' hj)⟩

section Rel

variable {R : LaneId → Lane → Lane → Prop} (hR : LaneRel R) {s t u : State}

include hR

theorem LaneRel.refl (i : LaneId) (l : Lane) : R i l l := hR.rings (.refl l)

theorem LaneRel.state_refl (s : State) : s.LaneWise R s := ⟨rfl, fun i => hR.refl i _⟩

theorem LaneRel.state_trans (h : s.LaneWise R t) (h' : t.LaneWise R u) : s.LaneWise R u := by
  refine ⟨?_, fun i => hR.trans (h.2 i) (h'.2 i)⟩
  have hu := h'.1
  rw [h.1] at hu
  exact hu

theorem LaneRel.onLane (i : LaneId) (p : Lane → Bool) (f : LaneFn) (h : ∀ l, R i l (f s i l)) : s.LaneWise R (s.onLane i p f) := by
  refine ⟨?_, fun j => ?_⟩
  · unfold State.onLane
    split
    · cases i <;> rfl
    · rfl
  · rw [State.lane_onLane]
    split
    · next hj => exact hj.1 ▸ h _
    · exact hR.refl j _

theorem LaneRel.eachLane (p : Lane → Bool) (f : LaneFn) (h : ∀ i l, R i l (f s i l)) : s.LaneWise R (s.eachLane p f) := by
  refine ⟨rfl, fun j => ?_⟩
  rw [State.lane_eachLane]
  split
  · exact h j _
  · exact hR.refl j _

theorem LaneRel.forL {α : Type} (i : LaneId) (xs : List α) (f : α → Lane → Lane) (h : ∀ x l, R i l (f x l)) (l : Lane) :
    R i l (l.forL xs f) := by
  unfold Lane.forL
  induction xs generalizing l with
  | nil => exact hR.refl i l
  | cons x xs ih => exact hR.trans (h x l) (ih (f x l))

theorem LaneRel.foldl {α : Type} (xs : List α) (f : State → α → State) (h : ∀ s x, State.LaneWise R s (f s x)) (s : State) :
    s.LaneWise R (xs.foldl f s) := by
  induction xs generalizing s with
  | nil => exact hR.state_refl s
  | cons x xs ih => exact hR.state_trans (h s x) (ih _)

theorem LaneRel.fireBoth (s : State) (n unit : Nat) (detail : List Int) : s.LaneWise R (s.fireBoth n unit detail) :=
  hR.eachLane _ _ fun _ l => hR.rings (l.ringsOnly_fire n unit detail)

theorem LaneRel.answerBoth (s : State) (r : Request) (rep : Reply) : s.LaneWise R (s.answerBoth r rep) :=
  hR.eachLane _ _ fun _ l => hR.rings (l.ringsOnly_answer r rep)

theorem LaneRel.alsoFire (s : State) (i : LaneId) (old : State) : s.LaneWise R (s.alsoFire i old) := by
  unfold State.alsoFire
  exact hR.onLane _ _ _ fun l => hR.forL _ _ _ (fun _ l => hR.rings (l.ringsOnly_fire _ _ _)) l

theorem LaneRel.mirror (s : State) (i : LaneId) (fired : Bool) (n : Nat) (detail : List Int) :
    s.LaneWise R (s.mirror i fired n detail) := by
  unfold State.mirror
  split
  · exact hR.onLane _ _ _ fun l => hR.rings (l.ringsOnly_fire _ _ _)
  · exact hR.state_refl s

end Rel

/-! ### The link records of the lanes -/

@[simp] theorem LaneId.other_other (i : LaneId) : i.other.other = i := by cases i <;> rfl

@[simp] theorem LaneId.other_ne (i : LaneId) : i.other ≠ i := by cases i <;> decide

@[simp] theorem LaneId.ne_other (i : LaneId) : i ≠ i.other := by cases i <;> decide

theorem Lane.RingsOnly.link {l m : Lane} (h : l.RingsOnly m) : m.link = l.link := by rw [h.eq]

theorem Lane.RingsOnly.p {l m : Lane} (h : l.RingsOnly m) (a : Nat) : m.p a = l.p a := by rw [h.eq]; rfl

section Links

variable (l : Lane)

@[simp] theorem Lane.ite_link (c : Prop) [Decidable c] (a b : Lane) : (if c then a else b).link = if c then a.link else b.link :=
  apply_ite Lane.link c a b

theorem Lane.foldl_link {α : Type} (xs : List α) (f : Lane → α → Lane) (h : ∀ l x, (f l x).link = l.link) (l : Lane) :
    (xs.foldl f l).link = l.link := by
  induction xs generalizing l with
  | nil => rfl
  | cons x xs ih => exact (ih _).trans (h l x)

@[simp] theorem Lane.forN_link (n : Nat) (f : Nat → Lane → Lane) (h : ∀ k l, (f k l).link = l.link) : (l.forN n f).link = l.link :=
  Lane.foldl_link _ _ (fun l k => h k l) l

@[simp] theorem Lane.mark_link (bit : Nat) : (l.mark bit).link.state = l.link.state ∧ (l.mark bit).link.cmpRun = l.link.cmpRun :=
  ⟨rfl, rfl⟩

@[simp] theorem Lane.linkTo_link (h : Nat) (st : Int) : (l.linkTo h st).link = l.link := by
  simp [Lane.linkTo]

@[simp] theorem Lane.linkEnable_link (h : Nat) : (l.linkEnable h).link = l.link := by
  simp [Lane.linkEnable]

@[simp] theorem Lane.linksUp_link : l.linksUp.link = l.link := by
  simp [Lane.linksUp]

@[simp] theorem Lane.linksDown_link : l.linksDown.link = l.link := by
  simp [Lane.linksDown]

@[simp] theorem Lane.showState_link : l.showState.link = l.link := by
  simp [Lane.showState]

@[simp] theorem Lane.showAcq_link : l.showAcq.link = l.link := by
  simp [Lane.showAcq]

@[simp] theorem Lane.acqLost_link : l.acqLost.link = l.link := by
  simp [Lane.acqLost]

@[simp] theorem Lane.pacerTo_link (st : Int) : (l.pacerTo st).link = l.link := by
  simp [Lane.pacerTo]

@[simp] theorem Lane.outputsFell_link (driven tripped : Nat → Bool) (o : Nat) : (l.outputsFell driven tripped o).link = l.link := by
  simp [Lane.outputsFell]

@[simp] theorem Lane.showOutputs_link (driven pulsed tripped : Nat → Bool) (n : Nat) :
    (l.showOutputs driven pulsed tripped n).link = l.link := by
  simp [Lane.showOutputs]

end Links

/-! ### A lane put into a state -/

theorem State.LaneWise.link {s t : State} (h : s.LaneWise (fun _ => Lane.RingsOnly) t) (i : LaneId) :
    (t.lane i).link = (s.lane i).link := (h.2 i).link

section States

variable (s : State) (i : LaneId)

/-- A lane goes to the state and phase named, and whether a fault reset it stands as before. -/
theorem State.laneTo_link (st : LaneState) (ph : Phase) : ((s.laneTo i st ph).lane i).link.state = st
    ∧ ((s.laneTo i st ph).lane i).link.phase = ph ∧ ((s.laneTo i st ph).lane i).link.faultReset = (s.lane i).link.faultReset := by
  unfold State.laneTo
  extract_lets old up s1 s2
  have h1 : (s1.lane i).link = { (s.lane i).link with state := st, phase := ph, phaseLap := (s.lane i).lap } := by
    simp [s1, State.lane_onLane]
  have h2 : (s2.lane i).link = (s1.lane i).link := by
    simp only [s2]
    split
    · rfl
    · exact ((LaneRel.ringsOnly.fireBoth ..).link i).trans ((LaneRel.ringsOnly.alsoFire ..).link i)
  rw [h1] at h2
  clear_value s2
  split
  · split
    · split
      · rw [(LaneRel.ringsOnly.fireBoth ..).link i, (LaneRel.ringsOnly.answerBoth ..).link i]
        simp [State.lane_onLane, h2]
      · rw [(LaneRel.ringsOnly.answerBoth ..).link i]
        simp [State.lane_onLane, h2]
    · simp [h2]
  · simp [h2]

/-- Of the other lane it reaches only the rings. -/
theorem State.laneTo_beside (st : LaneState) (ph : Phase) : s.LaneWise (fun j l m => j ≠ i → l.RingsOnly m) (s.laneTo i st ph) := by
  have hR := LaneRel.beside i
  unfold State.laneTo
  extract_lets old up s1 s2
  have h1 : s.LaneWise (fun j l m => j ≠ i → l.RingsOnly m) s1 := hR.onLane _ _ _ fun _ h => absurd rfl h
  have h2 : s.LaneWise (fun j l m => j ≠ i → l.RingsOnly m) s2 := by
    simp only [s2]
    split
    · exact h1
    · exact hR.state_trans h1 (hR.state_trans (hR.alsoFire ..) (hR.fireBoth ..))
  clear_value s2
  have h3 : ∀ r, s.LaneWise (fun j l m => j ≠ i → l.RingsOnly m)
      ((s2.onLane i (fun _ => true) (fun _ _ l => l.lnk (fun x => { x with fwAnswer := none }))).answerBoth r (Reply.ok [])) :=
    fun r => hR.state_trans h2 (hR.state_trans (hR.onLane _ _ _ fun _ h => absurd rfl h) (hR.answerBoth ..))
  split
  · split
    · split
      · exact hR.state_trans (h3 _) (hR.fireBoth ..)
      · exact h3 _
    · exact h2
  · exact h2

/-- A lane that leaves step goes to state 2 at `ALIGN`; only a standby does, a lane in `SHADOW` counts its clean epochs anew (R364). -/
theorem State.leaveStep_link_of_standby (h : (s.lane i).link.state = .standby) :
    ((s.leaveStep i).lane i).link.state = .resync ∧ ((s.leaveStep i).lane i).link.phase = .align := by
  simp [State.leaveStep, h, State.laneTo_link]

theorem State.leaveStep_beside : s.LaneWise (fun j l m => j ≠ i → l.RingsOnly m) (s.leaveStep i) := by
  have hR := LaneRel.beside i
  unfold State.leaveStep
  split
  · exact hR.state_trans (hR.onLane _ _ _ fun _ h => absurd rfl h) (State.laneTo_beside ..)
  · split
    · exact hR.onLane _ _ _ fun _ h => absurd rfl h
    · exact hR.state_refl s

/-- A lane reset by its own fault starts again in state 1, with the fault on its record (R356, R373). -/
theorem State.laneReset_link (fault : Bool) :
    ((s.laneReset i fault).lane i).link.state = .reset ∧ ((s.laneReset i fault).lane i).link.faultReset = fault := by
  have hcleared : ((s.laneCleared i fault).lane i).link.faultReset = fault := by
    unfold State.laneCleared
    dsimp only
    split <;> simp [State.lane_onLane]
  simp [State.laneReset, State.laneTo_link, hcleared]

@[simp] theorem State.lane_drive_link : (s.drive.lane i).link = (s.lane i).link := by
  cases i <;> simp [State.drive, State.lane]

@[simp] theorem State.drive_arbiter : s.drive.arbiter = s.arbiter := rfl

end States

/-! ### How a lane leaves its place -/

section Faults

variable (s : State) (i : LaneId)

/-- What shows the outputs writes domain 7 only. -/
theorem Lane.showOutputs_p (l : Lane) (driven pulsed tripped : Nat → Bool) (n a : Nat) (hn : n ≤ 32) (ha : 0x80000 ≤ a) :
    (l.showOutputs driven pulsed tripped n).p a = l.p a := by
  have hout : ∀ (o : Nat) (l : Lane) (v : Int), o < n → ((l.outputsFell driven tripped o).setp (Saf.outState o) v).p a = l.p a := by
    intro o l v ho
    have h1 : a ≠ Saf.outState o := by unfold Saf.outState; omega
    have h2 : a ≠ Saf.backupDischarges o := by unfold Saf.backupDischarges; omega
    rw [Lane.p_setp, if_neg h1]
    unfold Lane.outputsFell
    dsimp only
    repeat' split
    all_goals simp [h2]
  have hsafe : a ≠ SafM.safeOutState := by unfold SafM.safeOutState; omega
  unfold Lane.showOutputs Lane.forN
  simp only [Lane.safeBang_read]
  refine List.foldlRecOn (motive := fun m : Lane => m.p a = l.p a) _ _ (by simp [hsafe]) fun m hm o ho => ?_
  exact (hout o m _ (List.mem_range.mp ho)).trans hm

theorem State.lane_drive_p (a : Nat) (ha : 0x80000 ≤ a) : (s.drive.lane i).p a = (s.lane i).p a := by
  have hn : s.chassis.variant.outlets ≤ 32 := by cases s.chassis.variant <;> decide
  cases i <;> exact Lane.showOutputs_p _ _ _ _ _ a hn ha

/-- A latched request to give up is carried out (R359). -/
theorem Lane.giveUpNow_of_latched (l : Lane) (c : Nat) (hc : l.link.giveUp = some c) (hw : l.link.want = true) :
    l.giveUpNow = (l.lnk (fun x => { x with want := false, releaseLap := some l.lap })).countGiveUp c := by
  simp [Lane.giveUpNow, hc, hw]

/-- A holder that misses the watchdog is halted, and nothing else (R360 cause 1). -/
theorem State.watchdogMiss_of_holder (h : (s.lane i).link.state = .holder) :
    s.watchdogMiss i = s.onLane i (fun _ => true) (fun _ _ l => l.lnk (fun x => { x with halted := some 1 })) := by
  simp [State.watchdogMiss, State.diagnose, h]

/-- A standby that misses the watchdog is reset (R360 cause 1). -/
theorem State.watchdogMiss_of_standby (h : (s.lane i).link.state = .standby) : s.watchdogMiss i = s.laneReset i true := by
  simp [State.watchdogMiss, State.diagnose, h]

/-- A silent lane link takes the standby out of step (R360 cause 13). -/
theorem State.linkTimeout_of_standby (hh : s.holder = some i.other) (h : (s.lane i).link.state = .standby) :
    s.linkTimeout = (s.eachLane Lane.active (fun _ _ l => l.mark 12)).leaveStep i := by
  have h' : ((s.eachLane Lane.active (fun _ _ l => l.mark 12)).lane i).link.state = .standby := by
    rw [State.lane_eachLane]
    split <;> exact h
  simp [State.linkTimeout, hh, State.diagnose, h']

/-- The standby's comparison of command blocks beside holder `h`, where no link error explains a difference and the lap before had
none (R30). -/
theorem State.crcReceive_of_standby (h : LaneId) (hh : s.holder = some h) (ha : (s.lane h.other).active = true)
    (hst : (s.lane h.other).link.state = .standby)
    (hown : ∀ x ∈ blockDiffs (s.lane h.other) (s.lane h), linkCaused (s.lane h) (s.lane h.other) x = false)
    (hrun : blockDiffs (s.lane h.other) (s.lane h) = [] ∨ (s.lane h.other).link.cmpRun = 0) :
    (s.crcReceive.lane h.other).link.state = .standby
    ∧ (s.crcReceive.lane h.other).link.cmpRun = (if blockDiffs (s.lane h.other) (s.lane h) = [] then 0 else 1)
    ∧ (s.crcReceive.lane h.other).p Hp.cbMismatch
      = (s.lane h.other).p Hp.cbMismatch + ((blockDiffs (s.lane h.other) (s.lane h)).length : Nat) := by
  generalize ht : s.crcReceive = t
  unfold State.crcReceive at ht
  rw [hh] at ht
  dsimp -zeta only at ht
  extract_lets i l diffs byLink own traced s1 s2 s3 at ht
  have hinst : (l.active && (l.link.state.inStep || decide (l.link.phase = .shadow))) = true := by
    simp only [l, i, ha, hst]; rfl
  rw [if_neg (by rw [hinst]; decide)] at ht
  have hby : byLink = [] := List.filter_eq_nil_iff.mpr fun x hx => by simpa using hown x hx
  have howns : own = diffs := by simp [own, hby]
  have h1 : (s1.lane i).link.state = .standby ∧ (s1.lane i).link.cmpRun = (if diffs = [] then 0 else 1)
      ∧ (s1.lane i).p Hp.cbMismatch = l.p Hp.cbMismatch + (diffs.length : Nat) := by
    have hne : Hp.cbMismatch ≠ Hp.cbMismatchLink := by decide
    have hlane : s1.lane i = _ := (s.lane_onLane i i _ _).trans (if_pos ⟨rfl, rfl⟩)
    rw [hlane, howns, hby]
    cases hd : diffs with
    | nil => simp [hst, hne, i, l]
    | cons x xs =>
      have hrun' : (s.lane i).link.cmpRun = 0 := hrun.resolve_left (by simp [hd, diffs, l, i])
      simp [hst, hne, hrun', i, l]
  have h2 : Lane.RingsOnly (s1.lane i) (s2.lane i) := (LaneRel.ringsOnly.foldl _ _ (fun _ _ => LaneRel.ringsOnly.fireBoth ..) s1).2 i
  have h3 : s3.lane i = s2.lane i := by simp [s3, State.lane_onLane, i]
  rw [← h2.link, ← h2.p, ← h3] at h1
  clear_value s3
  have hlow : ¬ 2 ≤ (s3.lane i).link.cmpRun := by
    rw [h1.2.1]; split <;> decide
  rw [if_neg hlow] at ht
  exact ht ▸ h1

end Faults

/-- Settles O26, clause by clause from what each row does to its lane. -/
theorem laneFaults : Obligations.LaneFaults := by
  unfold Obligations.LaneFaults
  intro s i ha
  refine ⟨fun c hc hw => ?_, fun hst => ?_, fun hst => ?_, fun hh hst => ⟨?_, fun hnone => ?_, fun hsome hrun hown => ?_⟩, ?_⟩
  · refine does_of_next rfl ?_
    rw [State.lane_one, if_pos ⟨rfl, ha⟩, Lane.giveUpNow_of_latched _ c hc hw]
    have hne : Hp.giveUpCause ≠ Hp.giveUps := by decide
    simp [Lane.countGiveUp, hne, hne.symm]
  · refine does_of_next rfl ?_
    rw [State.watchdogMiss_of_holder s i hst]
    have harb := ((LaneRel.beside i).onLane (s := s) i (fun _ => true) (fun _ _ l => l.lnk (fun x => { x with halted := some 1 }))
      fun _ h => absurd rfl h).arbiter
    simp [State.lane_onLane, hst, harb]
  · refine does_of_next rfl ?_
    rw [State.watchdogMiss_of_standby s i hst]
    simp [State.laneReset_link]
  · refine does_of_next rfl ?_
    rw [State.linkTimeout_of_standby s i hh hst]
    have hmark : ∀ j, ((s.eachLane Lane.active (fun _ _ l => l.mark 12)).lane j).link.state = (s.lane j).link.state := by
      intro j
      rw [State.lane_eachLane]
      split <;> rfl
    have hbeside := (s.eachLane Lane.active (fun _ _ l => l.mark 12)).leaveStep_beside i
    obtain ⟨hstate, hphase⟩ := State.leaveStep_link_of_standby _ i ((hmark i).trans hst)
    simp only [State.lane_drive_link, State.drive_arbiter]
    refine ⟨hstate, hphase, ?_, hbeside.arbiter⟩
    rw [(hbeside.2 i.other (LaneId.other_ne i)).link, hmark]
  · obtain ⟨h1, h2, h3⟩ := s.crcReceive_of_standby i.other hh (by simpa using ha) (by simpa using hst) (by simp [hnone])
      (by simp [hnone])
    simp only [LaneId.other_other, hnone] at h1 h2 h3
    refine does_of_next rfl ?_
    rw [State.lane_drive_link, State.lane_drive_p _ _ _ (by decide)]
    simpa [h1, h2] using h3
  · obtain ⟨h1, h2, h3⟩ := s.crcReceive_of_standby i.other hh (by simpa using ha) (by simpa using hst) (by simpa using hown)
      (.inr (by simpa using hrun))
    simp only [LaneId.other_other, hsome, if_false] at h1 h2 h3
    refine does_of_next rfl ?_
    rw [State.lane_drive_link, State.lane_drive_p _ _ _ (by decide)]
    exact ⟨h2, h3⟩
  · refine does_of_next rfl ?_
    rw [State.lane_one, if_pos ⟨rfl, ha⟩]
    rfl

/-! ### Rows of one or two points -/

/-- Beside the points `as`, the status codes and what events write, the lane is as before. -/
def Lane.PointsOnly (as : List Nat) (l m : Lane) : Prop := besideEvents l m = l ∧ KeepsPoints (fun a => a ∈ as) l m

theorem Lane.RingsOnly.pointsOnly {l m : Lane} (h : l.RingsOnly m) (as : List Nat) : l.PointsOnly as m :=
  ⟨by rw [h.eq]; rfl, fun a _ => h.p a⟩

theorem besideEvents_trans {l m n : Lane} (h : besideEvents l m = l) (h' : besideEvents m n = m) : besideEvents l n = l := by
  have e : besideEvents l n = besideEvents l (besideEvents m n) := rfl
  rw [e, h', h]

theorem keepsPoints_trans {P : Nat → Prop} {l m n : Lane} (h : KeepsPoints P l m) (h' : KeepsPoints P m n) : KeepsPoints P l n :=
  fun a ha => (h' a ha).trans (h a ha)

theorem LaneRel.pointsOnly (as : List Nat) : LaneRel (fun _ => Lane.PointsOnly as) :=
  ⟨fun h => h.pointsOnly as, fun h h' => ⟨besideEvents_trans h.1 h'.1, keepsPoints_trans h.2 h'.2⟩⟩

section Points

variable {as : List Nat}

theorem Lane.PointsOnly.trans {l m n : Lane} (h : l.PointsOnly as m) (h' : m.PointsOnly as n) : l.PointsOnly as n :=
  (LaneRel.pointsOnly as).trans (i := .A) h h'

theorem Lane.PointsOnly.refl (l : Lane) : l.PointsOnly as l := ⟨rfl, fun _ _ => rfl⟩

theorem Lane.pointsOnly_setp (l : Lane) {a : Nat} (v : Int) (h : a ∈ as) : l.PointsOnly as (l.setp a v) :=
  ⟨rfl, fun b hb => by rw [Lane.p_setp, if_neg fun e : b = a => hb (e ▸ h)]⟩

theorem Lane.pointsOnly_fire (l : Lane) (n unit : Nat) (detail : List Int) : l.PointsOnly as (l.fire n unit detail) :=
  (l.ringsOnly_fire n unit detail).pointsOnly as

theorem Lane.pointsOnly_joinComplete (l : Lane) (p : Nat) : l.PointsOnly [Ph.memberState p] (l.joinComplete p) := by
  unfold Lane.joinComplete
  split
  · exact l.pointsOnly_setp _ (by simp)
  · exact .refl l

theorem Lane.pointsOnly_markerMisaligned (l : Lane) : l.PointsOnly [Pc.epochMisaligned] l.markerMisaligned := by
  unfold Lane.markerMisaligned
  split
  · exact .refl l
  · split
    · exact l.pointsOnly_setp _ (by simp)
    · exact (l.pointsOnly_setp _ (by simp)).trans (Lane.pointsOnly_fire ..)

theorem Lane.pointsOnly_allocOverrun (l : Lane) (i : LaneId) : l.PointsOnly [Al.allocOverruns] (l.allocOverrun i) := by
  unfold Lane.allocOverrun
  split
  · exact (l.pointsOnly_setp _ (by simp)).trans (Lane.pointsOnly_fire ..)
  · exact .refl l

theorem Lane.pointsOnly_degradedElapsedReset (l : Lane) (o : Nat) :
    l.PointsOnly [Out.degradedElapsedMs o] (l.degradedElapsedReset o) := by
  unfold Lane.degradedElapsedReset
  split
  · split
    · exact l.pointsOnly_setp _ (by simp)
    · exact .refl l
  · exact .refl l

theorem Lane.pointsOnly_teamElapsedReset (l : Lane) : l.PointsOnly [SafM.teamElapsedMs] l.teamElapsedReset := by
  unfold Lane.teamElapsedReset
  split
  · split
    · exact l.pointsOnly_setp _ (by simp)
    · exact .refl l
  · exact .refl l

theorem Lane.pointsOnly_referenceCheck (l : Lane) (points : Nat) (ppm : Int) :
    l.PointsOnly [Mp.refDevPpm, Mp.refState] (l.referenceCheck points ppm) := by
  have hdev := l.pointsOnly_setp (as := [Mp.refDevPpm, Mp.refState]) ppm (List.mem_cons_self ..)
  have hstate : ∀ v, l.PointsOnly [Mp.refDevPpm, Mp.refState] ((l.setp Mp.refDevPpm ppm).setp Mp.refState v) :=
    fun v => hdev.trans (Lane.pointsOnly_setp _ v (by simp))
  unfold Lane.referenceCheck
  dsimp only
  split
  · exact (hstate 1).trans ((LaneRel.pointsOnly _).forL .A _ _ (fun n m => m.pointsOnly_fire _ _ _) _)
  · split
    · exact hdev
    · exact hstate 0

theorem Lane.pointsOnly_mpCrcCheck (l : Lane) (crc : Nat) (same : Bool) :
    l.PointsOnly [Mp.mpCrc, Mp.mpState] (l.mpCrcCheck crc same) :=
  (l.pointsOnly_setp _ (by simp)).trans (Lane.pointsOnly_setp _ _ (by simp))

theorem Lane.pointsOnly_s0Disagree (l other : Lane) (n : Nat) : l.PointsOnly [S0.s0Fault n, S0.s0Faults n] (l.s0Disagree other n) := by
  unfold Lane.s0Disagree Lane.s0Fault
  split
  · split
    · exact .refl l
    · exact ((l.pointsOnly_setp _ (by simp)).trans (Lane.pointsOnly_setp _ _ (by simp))).trans (Lane.pointsOnly_fire ..)
  · exact .refl l

end Points

/-- A state that a command answers is the one that its meaning gives. -/
theorem laneWise_of_exec {R : LaneId → Lane → Lane → Prop} {c : Instr} {s t u : State} (hc : exec c s = .next u)
    (h : s.LaneWise R u) (ht : exec c s = .next t) : s.LaneWise R t :=
  Host.Outcome.next.inj (hc.symm.trans ht) ▸ h

/-- The rows of one or two points and events, each with its points. -/
theorem exec_pointsOnly {s t : State} {c : Instr} {as : List Nat} {j : LaneId} {p o n e : Nat} {ppm : Int} {crc : Nat} {same : Bool}
    (hc : (c, as) ∈ [(.joinComplete p, [Ph.memberState p]), (.epochMarkerMisaligned j, [Pc.epochMisaligned]),
      (.allocationOverrun j, [Al.allocOverruns]), (.degradedElapsedReset o, [Out.degradedElapsedMs o]),
      (.teamElapsedReset, [SafM.teamElapsedMs]), (.referenceCheck j ppm, [Mp.refDevPpm, Mp.refState]),
      (.mpCrcCheck j crc same, [Mp.mpCrc, Mp.mpState]), (.s0LaneDisagree n, [S0.s0Fault n, S0.s0Faults n]),
      (.sessionEngineIdle e, [Pw.clockGate])])
    (ht : exec c s = .next t) : s.LaneWise (fun _ => Lane.PointsOnly as) t := by
  have hR := LaneRel.pointsOnly as
  simp only [List.mem_cons, Prod.mk.injEq, List.not_mem_nil, or_false] at hc
  obtain ⟨rfl, rfl⟩ | ⟨rfl, rfl⟩ | ⟨rfl, rfl⟩ | ⟨rfl, rfl⟩ | ⟨rfl, rfl⟩ | ⟨rfl, rfl⟩ | ⟨rfl, rfl⟩ | ⟨rfl, rfl⟩
    | ⟨rfl, rfl⟩ := hc
  · refine laneWise_of_exec rfl ?_ ht
    unfold State.atPhase
    split
    · exact hR.eachLane _ _ fun _ l => l.pointsOnly_joinComplete p
    · exact hR.state_refl s
  · exact laneWise_of_exec rfl (hR.state_trans (hR.onLane _ _ _ fun l => l.pointsOnly_markerMisaligned) (hR.alsoFire ..)) ht
  · exact laneWise_of_exec rfl (hR.state_trans (hR.onLane _ _ _ fun l => l.pointsOnly_allocOverrun j) (hR.mirror ..)) ht
  · refine laneWise_of_exec rfl ?_ ht
    unfold State.atOutlet
    split
    · exact hR.eachLane _ _ fun _ l => l.pointsOnly_degradedElapsedReset o
    · exact hR.state_refl s
  · refine laneWise_of_exec rfl ?_ ht
    unfold State.teamed
    split
    · exact hR.eachLane _ _ fun _ l => l.pointsOnly_teamElapsedReset
    · exact hR.state_refl s
  · exact laneWise_of_exec rfl (hR.state_trans (hR.onLane _ _ _ fun l => l.pointsOnly_referenceCheck _ ppm) (hR.alsoFire ..)) ht
  · exact laneWise_of_exec rfl (hR.onLane _ _ _ fun l => l.pointsOnly_mpCrcCheck crc same) ht
  · refine laneWise_of_exec rfl ?_ ht
    split
    · exact hR.eachLane _ _ fun _ l => l.pointsOnly_s0Disagree _ n
    · exact hR.state_refl s
  · refine laneWise_of_exec rfl ?_ ht
    unfold State.below
    split
    · exact hR.eachLane _ _ fun _ l => l.pointsOnly_setp _ (by simp)
    · exact hR.state_refl s

/-! ### A forecast that overruns, and the bypass switches -/

/-- Beside the points of `P`, the cooling records, the status codes and what events write, the lane is as before. -/
def Lane.CoolsOnly (P : Nat → Prop) (l m : Lane) : Prop := { besideEvents l m with cools := l.cools } = l ∧ KeepsPoints P l m

theorem LaneRel.coolsOnly (P : Nat → Prop) : LaneRel (fun _ => Lane.CoolsOnly P) := by
  refine ⟨fun h => ⟨by rw [h.eq]; rfl, fun a _ => h.p a⟩, fun {i l m n} h h' => ⟨?_, keepsPoints_trans h.2 h'.2⟩⟩
  have e : { besideEvents l n with cools := l.cools }
    = { besideEvents l { besideEvents m n with cools := m.cools } with cools := l.cools } := rfl
  rw [e, h'.1, h.1]

theorem Lane.coolsOnly_forecastOverrun (l : Lane) (o : Nat) : l.CoolsOnly (fun a => a = Out.fcOverruns o) (l.forecastOverrun o) := by
  unfold Lane.forecastOverrun
  split
  · exact ⟨rfl, fun a ha => (Lane.p_setp ..).trans (if_neg ha)⟩
  · exact (LaneRel.coolsOnly _).refl .A l

/-- A bit reads as it was set. -/
theorem bitAt_setBit (v n : Nat) (b : Bool) : bitAt (setBit v n b) n = b := by
  have hclear : (v - v / 2 ^ n % 2 * 2 ^ n) / 2 ^ n = v / 2 ^ n - v / 2 ^ n % 2 := by
    rw [Nat.mul_comm, Nat.sub_mul_div]
  unfold bitAt setBit bitN
  cases b with
  | false => rw [if_neg (by decide), Nat.add_zero, hclear, beq_eq_false_iff_ne]; omega
  | true => rw [if_pos rfl, Nat.add_div_right _ (Nat.two_pow_pos n), hclear, beq_iff_eq]; omega

theorem Lane.pointsOnly_showBypass (l : Lane) (net : Nat) (closed : Bool) : l.PointsOnly [Team.ringState] (l.showBypass net closed) := by
  unfold Lane.showBypass
  dsimp only
  split
  · exact .refl l
  · exact (l.pointsOnly_setp _ (by simp)).trans (Lane.pointsOnly_fire ..)

/-- The shown position of a net's switch is the switch's position (R398). -/
theorem Lane.showBypass_ringState (l : Lane) (net : Nat) (closed : Bool) :
    bitAt ((l.showBypass net closed).pn Team.ringState) (net + 1) = closed := by
  have hset := bitAt_setBit (l.pn Team.ringState) (net + 1) closed
  unfold Lane.showBypass
  dsimp only
  split
  · next h => rwa [h] at hset
  · rw [show ∀ (m : Lane) n u d, (m.fire n u d).pn Team.ringState = m.pn Team.ringState from
      fun m n u d => congrArg Int.toNat ((m.ringsOnly_fire n u d).p _)]
    simpa [Lane.pn] using hset

/-- The chassis with the switch of a net in a position. -/
def Chassis.bypassed (c : Chassis) (net : Nat) (closed : Bool) : Chassis :=
  if net = 1 then { c with bypass1 := closed } else { c with bypass2 := closed }

/-- A switch of a team net that may move, moves (R398). -/
theorem State.bypass_of_free (s : State) (net : Nat) (closed link : Bool) (hteam : s.chassis.variant.team = true)
    (hnet : net = 1 ∨ net = 2)
    (hfree : (if closed then s.a.inResetState && s.b.inResetState else s.arbiter.grant.isSome && link) = true) :
    s.bypass net ⟨closed, link⟩ = ({ s with chassis := s.chassis.bypassed net closed } : State).eachLane Lane.present
      (fun _ _ l => l.showBypass net closed) := by
  have hnet' : (net != 1 && net != 2) = false := by rcases hnet with rfl | rfl <;> rfl
  have hfree' : ¬ (if closed then !(s.a.inResetState && s.b.inResetState) else s.arbiter.grant.isNone || !link) = true := by
    cases closed with
    | false => simpa [Option.isSome_iff_ne_none] using hfree
    | true => simpa using hfree
  unfold State.bypass
  dsimp only
  rw [hteam, hnet', if_neg (by decide), if_neg hfree']
  rfl

/-- It stands in the chassis, and every present lane shows it; no other point moves. -/
theorem State.bypass_shown (s : State) (net : Nat) (closed link : Bool) (hteam : s.chassis.variant.team = true)
    (hnet : net = 1 ∨ net = 2)
    (hfree : (if closed then s.a.inResetState && s.b.inResetState else s.arbiter.grant.isSome && link) = true) :
    { s.bypass net ⟨closed, link⟩ with a := s.a, b := s.b } = { s with chassis := s.chassis.bypassed net closed }
    ∧ ∀ i, KeepsPoints (fun a => a = Team.ringState) (s.lane i) ((s.bypass net ⟨closed, link⟩).lane i)
      ∧ ((s.lane i).present = true → bitAt (((s.bypass net ⟨closed, link⟩).lane i).pn Team.ringState) (net + 1) = closed) := by
  rw [s.bypass_of_free net closed link hteam hnet hfree]
  refine ⟨rfl, fun i => ?_⟩
  have hlane : ∀ c : Chassis, ({ s with chassis := c } : State).lane i = s.lane i := fun _ => rfl
  rw [State.lane_eachLane, hlane]
  split
  · exact ⟨fun a ha => (Lane.pointsOnly_showBypass _ net closed).2 a (by simpa using ha),
      fun _ => Lane.showBypass_ringState _ net closed⟩
  · next h => exact ⟨fun _ _ => rfl, fun h' => absurd h' h⟩

/-- Settles O55: each row moves a lane by a relation that its points and events satisfy, and a bypass switch shows in every present lane. -/
theorem pointFrame : Obligations.PointFrame := by
  unfold Obligations.PointFrame
  refine ⟨fun s t c i j p o n e ppm crc same as hc ht => ?_, fun s t i o ht => ?_, fun s closed link hteam hfree => ?_⟩
  · obtain ⟨honly, hlanes⟩ := exec_pointsOnly hc ht
    exact ⟨honly, hlanes i⟩
  · obtain ⟨honly, hlanes⟩ : s.LaneWise (fun _ => Lane.CoolsOnly (fun a => a = Out.fcOverruns o)) t := by
      refine laneWise_of_exec rfl ?_ ht
      unfold State.atOutlet
      split
      · exact (LaneRel.coolsOnly _).eachLane _ _ fun _ l => l.coolsOnly_forecastOverrun o
      · exact (LaneRel.coolsOnly _).state_refl s
    exact ⟨honly, hlanes i⟩
  · exact ⟨does_of_next rfl (s.bypass_shown 1 closed link hteam (.inl rfl) hfree),
      does_of_next rfl (s.bypass_shown 2 closed link hteam (.inr rfl) hfree)⟩

/-! ### The trial that waits for an epoch, and the always-on epoch

Of the operations that the boundary of an epoch runs, only the bank swap takes the trial, and none counts the always-on epoch; one lemma
per operation, in the order of the definitions. -/

@[simp] theorem Lane.foldl_trial {α : Type} (xs : List α) (f : Lane → α → Lane)
    (h : ∀ l x, (f l x).host.trial = l.host.trial ∧ (f l x).pacer.aoEpoch = l.pacer.aoEpoch) (l : Lane) :
    (xs.foldl f l).host.trial = l.host.trial ∧ (xs.foldl f l).pacer.aoEpoch = l.pacer.aoEpoch := by
  induction xs generalizing l with
  | nil => exact ⟨rfl, rfl⟩
  | cons x t ih => rw [List.foldl_cons, (ih _).1, (ih _).2]; exact h l x

@[simp] theorem Lane.forL_trial {α : Type} (xs : List α) (f : α → Lane → Lane)
    (h : ∀ x l, (f x l).host.trial = l.host.trial ∧ (f x l).pacer.aoEpoch = l.pacer.aoEpoch) (l : Lane) :
    (l.forL xs f).host.trial = l.host.trial ∧ (l.forL xs f).pacer.aoEpoch = l.pacer.aoEpoch :=
  Lane.foldl_trial xs _ (fun l x => h x l) l

@[simp] theorem Lane.forN_trial (n : Nat) (f : Nat → Lane → Lane)
    (h : ∀ x l, (f x l).host.trial = l.host.trial ∧ (f x l).pacer.aoEpoch = l.pacer.aoEpoch) (l : Lane) :
    (l.forN n f).host.trial = l.host.trial ∧ (l.forN n f).pacer.aoEpoch = l.pacer.aoEpoch :=
  Lane.foldl_trial _ _ (fun l x => h x l) l

@[simp] theorem Lane.ite_host (c : Prop) [Decidable c] (a b : Lane) : (if c then a else b).host = if c then a.host else b.host :=
  apply_ite Lane.host c a b

@[simp] theorem Lane.ite_pacer (c : Prop) [Decidable c] (a b : Lane) : (if c then a else b).pacer = if c then a.pacer else b.pacer :=
  apply_ite Lane.pacer c a b

@[simp] theorem HostSt.ite_trial (c : Prop) [Decidable c] (a b : HostSt) : (if c then a else b).trial = if c then a.trial else b.trial :=
  apply_ite HostSt.trial c a b

@[simp] theorem PacerSt.ite_aoEpoch (c : Prop) [Decidable c] (a b : PacerSt) :
    (if c then a else b).aoEpoch = if c then a.aoEpoch else b.aoEpoch :=
  apply_ite PacerSt.aoEpoch c a b

section Trials

variable (l : Lane)

@[simp] theorem Lane.thaw_trial :
    l.thaw.host.trial = l.host.trial ∧ l.thaw.pacer.aoEpoch = l.pacer.aoEpoch := by
  simp [Lane.thaw]

@[simp] theorem Lane.clampHistories_trial (t : Nat) :
    (l.clampHistories t).host.trial = l.host.trial ∧ (l.clampHistories t).pacer.aoEpoch = l.pacer.aoEpoch := by
  simp [Lane.clampHistories]

@[simp] theorem Lane.incGen_trial (a : Nat) :
    (l.incGen a).host.trial = l.host.trial ∧ (l.incGen a).pacer.aoEpoch = l.pacer.aoEpoch := by
  simp [Lane.incGen]

@[simp] theorem Lane.swapSlot_trial (old : Lane) (t : Nat) :
    (Lane.swapSlot old t l).host.trial = l.host.trial ∧ (Lane.swapSlot old t l).pacer.aoEpoch = l.pacer.aoEpoch := by
  unfold Lane.swapSlot
  dsimp only
  repeat' split
  all_goals simp

@[simp] theorem Lane.recapacity_trial (k : Nat) :
    (l.recapacity k).host.trial = l.host.trial ∧ (l.recapacity k).pacer.aoEpoch = l.pacer.aoEpoch := by
  simp [Lane.recapacity]

@[simp] theorem Lane.packSources_trial (k : Nat) :
    (l.packSources k).host.trial = l.host.trial ∧ (l.packSources k).pacer.aoEpoch = l.pacer.aoEpoch := by
  simp [Lane.packSources]

@[simp] theorem Lane.showEmpty_trial (k : Nat) :
    (l.showEmpty k).host.trial = l.host.trial ∧ (l.showEmpty k).pacer.aoEpoch = l.pacer.aoEpoch := by
  simp [Lane.showEmpty]

@[simp] theorem Lane.showMembers_trial (k : Nat) :
    (l.showMembers k).host.trial = l.host.trial ∧ (l.showMembers k).pacer.aoEpoch = l.pacer.aoEpoch := by
  simp [Lane.showMembers]

@[simp] theorem Lane.setRing_trial (q : Nat) (r : Ring) :
    (l.setRing q r).host.trial = l.host.trial ∧ (l.setRing q r).pacer.aoEpoch = l.pacer.aoEpoch := by
  simp [Lane.setRing]

@[simp] theorem Lane.queue_trial (q : Nat) (es : List Entry) :
    (l.queue q es).host.trial = l.host.trial ∧ (l.queue q es).pacer.aoEpoch = l.pacer.aoEpoch := by
  simp [Lane.queue]

@[simp] theorem Lane.fire_trial (n unit : Nat) (detail : List Int) :
    (l.fire n unit detail).host.trial = l.host.trial ∧ (l.fire n unit detail).pacer.aoEpoch = l.pacer.aoEpoch :=
  ⟨(l.ringsOnly_fire ..).2, by rw [(l.ringsOnly_fire ..).eq]⟩

@[simp] theorem Lane.tuneAbort_trial (cause : Int) :
    (l.tuneAbort cause).host.trial = l.host.trial ∧ (l.tuneAbort cause).pacer.aoEpoch = l.pacer.aoEpoch := by
  unfold Lane.tuneAbort
  split <;> simp

@[simp] theorem Lane.tuneConfig_trial (old : UMap Int) (oldGen : Nat → Nat) :
    (l.tuneConfig old oldGen).host.trial = l.host.trial ∧ (l.tuneConfig old oldGen).pacer.aoEpoch = l.pacer.aoEpoch := by
  unfold Lane.tuneConfig
  split <;> simp

@[simp] theorem Lane.disarm_trial (p : Nat) :
    (l.disarm p).host.trial = l.host.trial ∧ (l.disarm p).pacer.aoEpoch = l.pacer.aoEpoch := by
  simp [Lane.disarm]

@[simp] theorem Lane.outEvent_trial (o : Nat) :
    (l.outEvent o).host.trial = l.host.trial ∧ (l.outEvent o).pacer.aoEpoch = l.pacer.aoEpoch := by
  simp [Lane.outEvent]

@[simp] theorem Lane.packOff_trial (k : Nat) :
    (l.packOff k).host.trial = l.host.trial ∧ (l.packOff k).pacer.aoEpoch = l.pacer.aoEpoch := by
  simp [Lane.packOff]

@[simp] theorem Lane.packStop_trial (k : Nat) :
    (l.packStop k).host.trial = l.host.trial ∧ (l.packStop k).pacer.aoEpoch = l.pacer.aoEpoch := by
  simp [Lane.packStop]

@[simp] theorem Lane.swapPack_trial (old : UMap Int) (k : Nat) :
    (l.swapPack old k).host.trial = l.host.trial ∧ (l.swapPack old k).pacer.aoEpoch = l.pacer.aoEpoch := by
  unfold Lane.swapPack
  split <;> simp

@[simp] theorem Lane.swapPhase_trial (old : UMap Int) (p : Nat) :
    (l.swapPhase old p).host.trial = l.host.trial ∧ (l.swapPhase old p).pacer.aoEpoch = l.pacer.aoEpoch := by
  simp [Lane.swapPhase]

@[simp] theorem Lane.flowTimers_trial (o : Nat) :
    (l.flowTimers o).host.trial = l.host.trial ∧ (l.flowTimers o).pacer.aoEpoch = l.pacer.aoEpoch := by
  simp [Lane.flowTimers]

@[simp] theorem Lane.sensorPoints_trial (o : Nat) :
    (l.sensorPoints o).host.trial = l.host.trial ∧ (l.sensorPoints o).pacer.aoEpoch = l.pacer.aoEpoch := by
  unfold Lane.sensorPoints
  dsimp only
  split <;> simp

@[simp] theorem Lane.setSensor_trial (o n : Nat) (s : SensorSt) :
    (l.setSensor o n s).host.trial = l.host.trial ∧ (l.setSensor o n s).pacer.aoEpoch = l.pacer.aoEpoch := by
  simp [Lane.setSensor]

@[simp] theorem Lane.clearForecast_trial (o : Nat) :
    (l.clearForecast o).host.trial = l.host.trial ∧ (l.clearForecast o).pacer.aoEpoch = l.pacer.aoEpoch := by
  simp [Lane.clearForecast]

@[simp] theorem Lane.swapOutlet_trial (old : UMap Int) (changed : List Nat) (o : Nat) :
    (l.swapOutlet old changed o).host.trial = l.host.trial ∧ (l.swapOutlet old changed o).pacer.aoEpoch = l.pacer.aoEpoch := by
  simp [Lane.swapOutlet]

@[simp] theorem Lane.setOpenI_trial (m : Nat) (x : OpenInterval) :
    (l.setOpenI m x).host.trial = l.host.trial ∧ (l.setOpenI m x).pacer.aoEpoch = l.pacer.aoEpoch := by
  simp [Lane.setOpenI]

@[simp] theorem Lane.addReg_trial (m q t : Nat) (n : Int) :
    (l.addReg m q t n).host.trial = l.host.trial ∧ (l.addReg m q t n).pacer.aoEpoch = l.pacer.aoEpoch := by
  simp [Lane.addReg]

@[simp] theorem Lane.credit_trial (m q t : Nat) (e : Int) :
    (l.credit m q t e).host.trial = l.host.trial ∧ (l.credit m q t e).pacer.aoEpoch = l.pacer.aoEpoch := by
  simp [Lane.credit]

@[simp] theorem Lane.setPo_trial (u : Nat) (x : PoSt) :
    (l.setPo u x).host.trial = l.host.trial ∧ (l.setPo u x).pacer.aoEpoch = l.pacer.aoEpoch := by
  simp [Lane.setPo]

@[simp] theorem Lane.poDue_trial (u n : Nat) :
    (l.poDue u n).host.trial = l.host.trial ∧ (l.poDue u n).pacer.aoEpoch = l.pacer.aoEpoch := by
  induction n generalizing l with
  | zero => simp [Lane.poDue]
  | succ n ih =>
    unfold Lane.poDue
    dsimp only
    split <;> simp [ih]

@[simp] theorem Lane.addEnergy_trial (m q t : Nat) (e : Int) :
    (l.addEnergy m q t e).host.trial = l.host.trial ∧ (l.addEnergy m q t e).pacer.aoEpoch = l.pacer.aoEpoch := by
  simp [Lane.addEnergy]

@[simp] theorem Lane.latePart_trial (m q : Nat) (c : CycleCut) (d : Int) :
    (l.latePart m q c d).host.trial = l.host.trial ∧ (l.latePart m q c d).pacer.aoEpoch = l.pacer.aoEpoch := by
  unfold Lane.latePart
  dsimp only
  split <;> simp

@[simp] theorem Lane.cycleCredit_trial (m q : Nat) (e : Int) (n : Nat) (cut : Option CycleCut) :
    (l.cycleCredit m q e n cut).host.trial = l.host.trial ∧ (l.cycleCredit m q e n cut).pacer.aoEpoch = l.pacer.aoEpoch := by
  unfold Lane.cycleCredit
  split <;> simp

@[simp] theorem Lane.setAc_trial (n : Nat) (x : AcSt) :
    (l.setAc n x).host.trial = l.host.trial ∧ (l.setAc n x).pacer.aoEpoch = l.pacer.aoEpoch := by
  simp [Lane.setAc]

@[simp] theorem Lane.gainShown_trial (m c : Nat) (switched : Bool) :
    (l.gainShown m c switched).host.trial = l.host.trial ∧ (l.gainShown m c switched).pacer.aoEpoch = l.pacer.aoEpoch := by
  simp [Lane.gainShown]

@[simp] theorem Lane.setChan_trial (m c : Nat) (x : ChanSt) :
    (l.setChan m c x).host.trial = l.host.trial ∧ (l.setChan m c x).pacer.aoEpoch = l.pacer.aoEpoch := by
  simp [Lane.setChan]

@[simp] theorem Lane.endWindow_trial (m n : Nat) (next : Bool) :
    (l.endWindow m n next).host.trial = l.host.trial ∧ (l.endWindow m n next).pacer.aoEpoch = l.pacer.aoEpoch := by
  simp [Lane.endWindow]

@[simp] theorem Lane.acBlock_trial (n t256 skip count : Nat) :
    (l.acBlock n t256 skip count).host.trial = l.host.trial ∧ (l.acBlock n t256 skip count).pacer.aoEpoch = l.pacer.aoEpoch := by
  simp [Lane.acBlock]

@[simp] theorem Lane.closePart_trial (n : Nat) :
    (l.closePart n).host.trial = l.host.trial ∧ (l.closePart n).pacer.aoEpoch = l.pacer.aoEpoch := by
  simp [Lane.closePart]

@[simp] theorem Lane.evalComp_trial (m : Nat) :
    (l.evalComp m).host.trial = l.host.trial ∧ (l.evalComp m).pacer.aoEpoch = l.pacer.aoEpoch := by
  simp [Lane.evalComp]

@[simp] theorem Lane.setDc_trial (d : Nat) (x : DcSt) :
    (l.setDc d x).host.trial = l.host.trial ∧ (l.setDc d x).pacer.aoEpoch = l.pacer.aoEpoch := by
  simp [Lane.setDc]

@[simp] theorem Lane.swapPoint_trial (old : UMap Int) (changed : List Nat) (m : Nat) :
    (l.swapPoint old changed m).host.trial = l.host.trial ∧ (l.swapPoint old changed m).pacer.aoEpoch = l.pacer.aoEpoch := by
  simp [Lane.swapPoint]

@[simp] theorem Lane.swapCalendar_trial (old : UMap Int) :
    (l.swapCalendar old).host.trial = l.host.trial ∧ (l.swapCalendar old).pacer.aoEpoch = l.pacer.aoEpoch := by
  simp [Lane.swapCalendar]

@[simp] theorem Lane.cutCycles_trial (f : Nat → CycleCut → CycleCut) :
    (l.cutCycles f).host.trial = l.host.trial ∧ (l.cutCycles f).pacer.aoEpoch = l.pacer.aoEpoch := by
  unfold Lane.cutCycles
  refine Lane.forN_trial _ _ (fun m l => ?_) l
  dsimp only
  repeat' split
  all_goals simp

@[simp] theorem Lane.evalTariff_trial (t : Int) :
    (l.evalTariff t).host.trial = l.host.trial ∧ (l.evalTariff t).pacer.aoEpoch = l.pacer.aoEpoch := by
  simp [Lane.evalTariff]

@[simp] theorem Lane.flagAll_trial (bit : Nat) :
    (l.flagAll bit).host.trial = l.host.trial ∧ (l.flagAll bit).pacer.aoEpoch = l.pacer.aoEpoch := by
  simp [Lane.flagAll]

@[simp] theorem Lane.idlePoint_trial (fl : Nat) (start : Int) (len : Option Int) (m : Nat) :
    (l.idlePoint fl start len m).host.trial = l.host.trial ∧ (l.idlePoint fl start len m).pacer.aoEpoch = l.pacer.aoEpoch := by
  simp [Lane.idlePoint]

@[simp] theorem Lane.demands_trial (m : Nat) (x : OpenInterval) (endMs : Int) :
    (l.demands m x endMs).host.trial = l.host.trial ∧ (l.demands m x endMs).pacer.aoEpoch = l.pacer.aoEpoch := by
  simp [Lane.demands]

@[simp] theorem Lane.closePoint_trial (endMs : Int) (fl : Nat) (start : Int) (len : Option Int) (m : Nat) :
    (l.closePoint endMs fl start len m).host.trial = l.host.trial
    ∧ (l.closePoint endMs fl start len m).pacer.aoEpoch = l.pacer.aoEpoch := by
  simp [Lane.closePoint]

@[simp] theorem Lane.closePoints_trial (endMs : Int) (fl : Nat) (start : Int) (len : Option Int) :
    (l.closePoints endMs fl start len).host.trial = l.host.trial ∧ (l.closePoints endMs fl start len).pacer.aoEpoch = l.pacer.aoEpoch := by
  simp [Lane.closePoints]

@[simp] theorem Lane.applyBoundary_trial (wr : Bool) (fl : Nat) :
    (l.applyBoundary wr fl).host.trial = l.host.trial ∧ (l.applyBoundary wr fl).pacer.aoEpoch = l.pacer.aoEpoch := by
  simp [Lane.applyBoundary]

@[simp] theorem Lane.clearDemand_trial :
    l.clearDemand.host.trial = l.host.trial ∧ l.clearDemand.pacer.aoEpoch = l.pacer.aoEpoch := by
  simp [Lane.clearDemand]

@[simp] theorem Lane.applyBilling_trial (b : Int) :
    (l.applyBilling b).host.trial = l.host.trial ∧ (l.applyBilling b).pacer.aoEpoch = l.pacer.aoEpoch := by
  simp [Lane.applyBilling]

@[simp] theorem Lane.applyDue_trial (upTo : Int) (fl f recs : Nat) :
    (l.applyDue upTo fl f recs).host.trial = l.host.trial ∧ (l.applyDue upTo fl f recs).pacer.aoEpoch = l.pacer.aoEpoch := by
  induction f generalizing recs l with
  | zero => simp [Lane.applyDue]
  | succ f ih =>
    unfold Lane.applyDue
    dsimp only
    repeat' split
    all_goals simp [ih]

@[simp] theorem Lane.applyAll_trial (upTo : Int) (fl recs : Nat) :
    (l.applyAll upTo fl recs).host.trial = l.host.trial ∧ (l.applyAll upTo fl recs).pacer.aoEpoch = l.pacer.aoEpoch := by
  simp [Lane.applyAll]

@[simp] theorem Lane.tariffEvaluation_trial :
    l.tariffEvaluation.host.trial = l.host.trial ∧ l.tariffEvaluation.pacer.aoEpoch = l.pacer.aoEpoch := by
  simp [Lane.tariffEvaluation]

@[simp] theorem Lane.swapSafety_trial (old : UMap Int) :
    (l.swapSafety old).host.trial = l.host.trial ∧ (l.swapSafety old).pacer.aoEpoch = l.pacer.aoEpoch := by
  simp [Lane.swapSafety]

@[simp] theorem Lane.telegramsFrom_trial (ms : List Nat) :
    (l.telegramsFrom ms).host.trial = l.host.trial ∧ (l.telegramsFrom ms).pacer.aoEpoch = l.pacer.aoEpoch := by
  simp [Lane.telegramsFrom]

@[simp] theorem Lane.signOwed_trial :
    l.signOwed.host.trial = l.host.trial ∧ l.signOwed.pacer.aoEpoch = l.pacer.aoEpoch := by
  simp [Lane.signOwed]

@[simp] theorem Lane.linkTo_trial (h : Nat) (st : Int) :
    (l.linkTo h st).host.trial = l.host.trial ∧ (l.linkTo h st).pacer.aoEpoch = l.pacer.aoEpoch := by
  simp [Lane.linkTo]

@[simp] theorem Lane.linkEnable_trial (h : Nat) :
    (l.linkEnable h).host.trial = l.host.trial ∧ (l.linkEnable h).pacer.aoEpoch = l.pacer.aoEpoch := by
  simp [Lane.linkEnable]

@[simp] theorem Lane.linksUp_trial :
    l.linksUp.host.trial = l.host.trial ∧ l.linksUp.pacer.aoEpoch = l.pacer.aoEpoch := by
  simp [Lane.linksUp]

@[simp] theorem Lane.setMastPort_trial (t : Nat) (x : MastPort) :
    (l.setMastPort t x).host.trial = l.host.trial ∧ (l.setMastPort t x).pacer.aoEpoch = l.pacer.aoEpoch := by
  simp [Lane.setMastPort]

@[simp] theorem Lane.setMastNode_trial (n : Nat) (x : MastNode) :
    (l.setMastNode n x).host.trial = l.host.trial ∧ (l.setMastNode n x).pacer.aoEpoch = l.pacer.aoEpoch := by
  simp [Lane.setMastNode]

@[simp] theorem Lane.swapMast_trial (old : UMap Int) :
    (l.swapMast old).host.trial = l.host.trial ∧ (l.swapMast old).pacer.aoEpoch = l.pacer.aoEpoch := by
  simp [Lane.swapMast]

@[simp] theorem Lane.swapEffects_trial (old : UMap Int) :
    (l.swapEffects old).host.trial = l.host.trial ∧ (l.swapEffects old).pacer.aoEpoch = l.pacer.aoEpoch := by
  simp [Lane.swapEffects]

@[simp] theorem Lane.logOf_trial (lane kind : Nat) (detail : List Int) :
    (l.logOf lane kind detail).host.trial = l.host.trial ∧ (l.logOf lane kind detail).pacer.aoEpoch = l.pacer.aoEpoch := by
  simp [Lane.logOf]

@[simp] theorem Lane.logEntry_trial (kind : Nat) (detail : List Int) :
    (l.logEntry kind detail).host.trial = l.host.trial ∧ (l.logEntry kind detail).pacer.aoEpoch = l.pacer.aoEpoch := by
  simp [Lane.logEntry]

@[simp] theorem Lane.canMatrix_trial (b : Nat) :
    (l.canMatrix b).host.trial = l.host.trial ∧ (l.canMatrix b).pacer.aoEpoch = l.pacer.aoEpoch := by
  simp [Lane.canMatrix]

@[simp] theorem Lane.canClear_trial (b : Nat) :
    (l.canClear b).host.trial = l.host.trial ∧ (l.canClear b).pacer.aoEpoch = l.pacer.aoEpoch := by
  simp [Lane.canClear]

@[simp] theorem Lane.canRefresh_trial (b : Nat) :
    (l.canRefresh b).host.trial = l.host.trial ∧ (l.canRefresh b).pacer.aoEpoch = l.pacer.aoEpoch := by
  simp [Lane.canRefresh]

@[simp] theorem Lane.clockDivisor_trial :
    l.clockDivisor.host.trial = l.host.trial ∧ l.clockDivisor.pacer.aoEpoch = l.pacer.aoEpoch := by
  simp [Lane.clockDivisor]

@[simp] theorem Lane.trigOut_trial (event : Int) :
    (l.trigOut event).host.trial = l.host.trial ∧ (l.trigOut event).pacer.aoEpoch = l.pacer.aoEpoch := by
  simp [Lane.trigOut]

@[simp] theorem Lane.correctTime_trial (target : Int) :
    (l.correctTime target).host.trial = l.host.trial ∧ (l.correctTime target).pacer.aoEpoch = l.pacer.aoEpoch := by
  simp [Lane.correctTime]

@[simp] theorem Lane.todEpoch_trial :
    l.todEpoch.host.trial = l.host.trial ∧ l.todEpoch.pacer.aoEpoch = l.pacer.aoEpoch := by
  unfold Lane.todEpoch
  split <;> simp

@[simp] theorem Lane.pacerTo_trial (st : Int) :
    (l.pacerTo st).host.trial = l.host.trial ∧ (l.pacerTo st).pacer.aoEpoch = l.pacer.aoEpoch := by
  simp [Lane.pacerTo]

@[simp] theorem Lane.pacerCheck_trial :
    l.pacerCheck.host.trial = l.host.trial ∧ l.pacerCheck.pacer.aoEpoch = l.pacer.aoEpoch := by
  simp [Lane.pacerCheck]

@[simp] theorem Lane.pacerConfig_trial (steer : Bool) :
    (l.pacerConfig steer).host.trial = l.host.trial ∧ (l.pacerConfig steer).pacer.aoEpoch = l.pacer.aoEpoch := by
  simp [Lane.pacerConfig]

@[simp] theorem Lane.outputsFell_trial (driven tripped : Nat → Bool) (o : Nat) :
    (l.outputsFell driven tripped o).host.trial = l.host.trial ∧ (l.outputsFell driven tripped o).pacer.aoEpoch = l.pacer.aoEpoch := by
  simp [Lane.outputsFell]

@[simp] theorem Lane.showOutputs_trial (driven pulsed tripped : Nat → Bool) (outlets : Nat) :
    (l.showOutputs driven pulsed tripped outlets).host.trial = l.host.trial
    ∧ (l.showOutputs driven pulsed tripped outlets).pacer.aoEpoch = l.pacer.aoEpoch := by
  simp [Lane.showOutputs]

@[simp] theorem Lane.acqMet_trial (i : Nat) (time : Int) :
    (l.acqMet i time).host.trial = l.host.trial ∧ (l.acqMet i time).pacer.aoEpoch = l.pacer.aoEpoch := by
  unfold Lane.acqMet
  dsimp only
  repeat' split
  all_goals simp

@[simp] theorem Lane.setAcqChan_trial (c : Nat) (x : AcqChan) :
    (l.setAcqChan c x).host.trial = l.host.trial ∧ (l.setAcqChan c x).pacer.aoEpoch = l.pacer.aoEpoch := by
  simp [Lane.setAcqChan]

@[simp] theorem Lane.acqCompare_trial (c : Nat) (value time : Int) :
    (l.acqCompare c value time).host.trial = l.host.trial ∧ (l.acqCompare c value time).pacer.aoEpoch = l.pacer.aoEpoch := by
  simp [Lane.acqCompare]

@[simp] theorem Lane.setRecord_trial (r : AcqRecord) :
    (l.setRecord r).host.trial = l.host.trial ∧ (l.setRecord r).pacer.aoEpoch = l.pacer.aoEpoch := by
  simp [Lane.setRecord]

@[simp] theorem Lane.acqStore_trial (c : Nat) (value : Int) (status flags : Nat) (tag : AcqTag) :
    (l.acqStore c value status flags tag).host.trial = l.host.trial
    ∧ (l.acqStore c value status flags tag).pacer.aoEpoch = l.pacer.aoEpoch := by
  unfold Lane.acqStore
  split <;> simp

@[simp] theorem Lane.acqSample_trial (c : Nat) (value : Int) (status : Nat) (tag : AcqTag) :
    (l.acqSample c value status tag).host.trial = l.host.trial ∧ (l.acqSample c value status tag).pacer.aoEpoch = l.pacer.aoEpoch := by
  simp [Lane.acqSample]

@[simp] theorem Lane.acqLines_trial (line : Nat → Bool) :
    (l.acqLines line).host.trial = l.host.trial ∧ (l.acqLines line).pacer.aoEpoch = l.pacer.aoEpoch := by
  simp [Lane.acqLines]

@[simp] theorem Lane.allocInputs_trial (laps : Int) (outlets : Nat) (old : Lane) :
    (Lane.allocInputs laps outlets old l).host.trial = l.host.trial
    ∧ (Lane.allocInputs laps outlets old l).pacer.aoEpoch = l.pacer.aoEpoch := by
  simp [Lane.allocInputs]

@[simp] theorem logChanges_trial (old new : UMap Int) :
    (logChanges old new l).host.trial = l.host.trial ∧ (logChanges old new l).pacer.aoEpoch = l.pacer.aoEpoch := by
  simp [logChanges]

@[simp] theorem Lane.followPacer_trial (h : Lane) :
    (l.followPacer h).host.trial = l.host.trial ∧ (l.followPacer h).pacer.aoEpoch = l.pacer.aoEpoch := by
  unfold Lane.followPacer
  split <;> simp

end Trials

/-! ### The boundary of an epoch -/

/-- The committed configuration, the trial that waits and the always-on epoch stay. -/
def Lane.SameTrial (l m : Lane) : Prop := m.cfg = l.cfg ∧ m.host.trial = l.host.trial ∧ m.pacer.aoEpoch = l.pacer.aoEpoch

theorem LaneRel.sameTrial : LaneRel (fun _ => Lane.SameTrial) :=
  ⟨fun h => ⟨by rw [h.eq], h.2, by rw [h.eq]⟩,
   fun ⟨hc, ht, he⟩ ⟨hc', ht', he'⟩ => ⟨hc'.trans hc, ht'.trans ht, he'.trans he⟩⟩

theorem changedPoints_self (m : UMap Int) : changedPoints m m = [] := by
  simp [changedPoints]

theorem logChanges_self (m : UMap Int) (l : Lane) : logChanges m m l = l := by
  simp [logChanges, Lane.forL]

/-- Without a trial the blocks keep their banks (R55). -/
theorem Lane.epochBegin_of_no_trial (v : Variant) (l : Lane) (h : l.host.trial = none) : l.SameTrial (l.epochBegin v) := by
  have hbanks : l.swapBanks = l.thaw := by simp [Lane.swapBanks, h]
  have heffects : (logChanges l.cfg l.swapBanks.cfg l.swapBanks).swapEffects l.cfg = l.thaw := by
    simp [hbanks, logChanges_self, Lane.swapEffects, changedPoints_self]
  unfold Lane.epochBegin
  simp only [heffects]
  exact ⟨by simp, by simp, by simp⟩

/-- A trial other than the configuration in force comes into force, and waits no longer (R55). -/
theorem Lane.epochBegin_of_trial (v : Variant) (l : Lane) (m : UMap Int) (h : l.host.trial = some m) (hm : m ≠ l.cfg) :
    (l.epochBegin v).cfg = clearMoves m ∧ (l.epochBegin v).host.trial = none := by
  have hbanks : l.swapBanks.cfg = clearMoves m ∧ l.swapBanks.host.trial = none := by
    simp [Lane.swapBanks, h, hm]
  simp [Lane.epochBegin, hbanks]

theorem LaneRel.drive {R : LaneId → Lane → Lane → Prop} (s : State)
    (h : ∀ i l driven pulsed tripped n, R i l (l.showOutputs driven pulsed tripped n)) : s.LaneWise R s.drive :=
  ⟨rfl, fun i => by cases i <;> exact h ..⟩

theorem Lane.lapping_of_active {l : Lane} (h : l.active = true) : l.lapping = true := by
  simp only [Lane.active, Bool.and_eq_true] at h
  obtain ⟨⟨hlaps, -⟩, hstate⟩ := h
  have hpresent : l.link.state ≠ .absent := fun he => by simp [he] at hstate
  simp [Lane.lapping, Lane.present, hlaps, hpresent]

/-- What follows a lane's own work at the boundary keeps its configuration and trial. -/
theorem State.epochBoundary_sameTrial (s : State) (i : LaneId) (ha : (s.lane i).active = true) (hl : (s.lane i).lapIn = 0) :
    ((s.lane i).epochBegin s.chassis.variant).SameTrial (s.epochBoundary.lane i) := by
  have hR := LaneRel.sameTrial
  unfold State.epochBoundary
  extract_lets s1 s2
  have h1 : s1.lane i = (s.lane i).epochBegin s.chassis.variant := by
    simp [s1, State.lane_eachLane, ha, hl, Lane.lapping_of_active ha]
  have h2 : s1.LaneWise (fun _ => Lane.SameTrial) s2 := hR.eachLane _ _ fun _ l => ⟨by simp, by simp, by simp⟩
  have hfollow : s2.LaneWise (fun _ => Lane.SameTrial) s2.pacerFollow := by
    unfold State.pacerFollow
    split
    · exact hR.onLane _ _ _ fun l => ⟨by simp, by simp, by simp⟩
    · exact hR.state_refl s2
  have hlines : s2.pacerFollow.LaneWise (fun _ => Lane.SameTrial) s2.pacerFollow.lines :=
    hR.eachLane _ _ fun _ l => ⟨by simp, by simp, by simp⟩
  have hdrive := LaneRel.drive (R := fun _ => Lane.SameTrial) s2.pacerFollow.lines fun _ l driven pulsed tripped n =>
    ⟨by simp, by simp, by simp⟩
  rw [← h1]
  exact (hR.state_trans h2 (hR.state_trans hfollow (hR.state_trans hlines hdrive))).2 i

/-! ### The images of a lane -/

section Images

@[simp] theorem Lane.foldl_imgs {α : Type} (xs : List α) (f : Lane → α → Lane)
    (h : ∀ l x, (f l x).imgs = l.imgs ∧ (f l x).sealing = l.sealing ∧ (f l x).sealDone = l.sealDone) (l : Lane) :
    (xs.foldl f l).imgs = l.imgs ∧ (xs.foldl f l).sealing = l.sealing ∧ (xs.foldl f l).sealDone = l.sealDone := by
  induction xs generalizing l with
  | nil => exact ⟨rfl, rfl, rfl⟩
  | cons x xs ih => rw [List.foldl_cons, (ih _).1, (ih _).2.1, (ih _).2.2]; exact h l x

@[simp] theorem Lane.forL_imgs {α : Type} (xs : List α) (f : α → Lane → Lane)
    (h : ∀ x l, (f x l).imgs = l.imgs ∧ (f x l).sealing = l.sealing ∧ (f x l).sealDone = l.sealDone) (l : Lane) :
    (l.forL xs f).imgs = l.imgs ∧ (l.forL xs f).sealing = l.sealing ∧ (l.forL xs f).sealDone = l.sealDone :=
  Lane.foldl_imgs xs _ (fun l x => h x l) l

@[simp] theorem Lane.forN_imgs (n : Nat) (f : Nat → Lane → Lane)
    (h : ∀ x l, (f x l).imgs = l.imgs ∧ (f x l).sealing = l.sealing ∧ (f x l).sealDone = l.sealDone) (l : Lane) :
    (l.forN n f).imgs = l.imgs ∧ (l.forN n f).sealing = l.sealing ∧ (l.forN n f).sealDone = l.sealDone :=
  Lane.foldl_imgs _ _ (fun l x => h x l) l

@[simp] theorem Lane.ite_imgs (c : Prop) [Decidable c] (a b : Lane) : (if c then a else b).imgs = if c then a.imgs else b.imgs :=
  apply_ite Lane.imgs c a b

@[simp] theorem Lane.ite_sealing (c : Prop) [Decidable c] (a b : Lane) :
    (if c then a else b).sealing = if c then a.sealing else b.sealing :=
  apply_ite Lane.sealing c a b

@[simp] theorem Lane.ite_sealDone (c : Prop) [Decidable c] (a b : Lane) :
    (if c then a else b).sealDone = if c then a.sealDone else b.sealDone :=
  apply_ite Lane.sealDone c a b

variable (l : Lane)

@[simp] theorem Lane.answerRead_imgs (v : Variant) (w : WaitingRead) :
    (l.answerRead v w).imgs = l.imgs ∧ (l.answerRead v w).sealing = l.sealing ∧ (l.answerRead v w).sealDone = l.sealDone := by
  unfold Lane.answerRead
  split
  · exact ⟨rfl, rfl, rfl⟩
  · exact ⟨rfl, rfl, rfl⟩

@[simp] theorem Lane.snapshotReady_imgs (v : Variant) :
    (l.snapshotReady v).imgs = l.imgs ∧ (l.snapshotReady v).sealing = l.sealing ∧ (l.snapshotReady v).sealDone = l.sealDone := by
  simp [Lane.snapshotReady]

@[simp] theorem Lane.watchOne_imgs (v : Variant) (img : Image) (w : Nat) :
    (l.watchOne v img w).imgs = l.imgs ∧ (l.watchOne v img w).sealing = l.sealing ∧ (l.watchOne v img w).sealDone = l.sealDone := by
  simp [Lane.watchOne]

@[simp] theorem Lane.wakeEvents_imgs :
    l.wakeEvents.imgs = l.imgs ∧ l.wakeEvents.sealing = l.sealing ∧ l.wakeEvents.sealDone = l.sealDone := by
  unfold Lane.wakeEvents
  extract_lets l2 host l1 l3
  have h1 : l1.imgs = l.imgs ∧ l1.sealing = l.sealing ∧ l1.sealDone = l.sealDone := by
    simp only [l1, l2]
    split <;> simp
  have h3 : l3.imgs = l1.imgs ∧ l3.sealing = l1.sealing ∧ l3.sealDone = l1.sealDone :=
    Lane.forL_imgs _ _ (fun id m => by split <;> simp) l1
  rw [h1.1, h1.2.1, h1.2.2] at h3
  exact h3

@[simp] theorem Lane.acqMet_imgs (i : Nat) (time : Int) :
    (l.acqMet i time).imgs = l.imgs ∧ (l.acqMet i time).sealing = l.sealing ∧ (l.acqMet i time).sealDone = l.sealDone := by
  unfold Lane.acqMet
  dsimp only
  repeat' split
  all_goals simp

@[simp] theorem Lane.acqCompare_imgs (c : Nat) (value time : Int) :
    (l.acqCompare c value time).imgs = l.imgs
    ∧ (l.acqCompare c value time).sealing = l.sealing ∧ (l.acqCompare c value time).sealDone = l.sealDone := by
  simp [Lane.acqCompare, Lane.setAcqChan]

@[simp] theorem Lane.acqStore_imgs (c : Nat) (value : Int) (status flags : Nat) (tag : AcqTag) :
    (l.acqStore c value status flags tag).imgs = l.imgs
    ∧ (l.acqStore c value status flags tag).sealing = l.sealing ∧ (l.acqStore c value status flags tag).sealDone = l.sealDone := by
  unfold Lane.acqStore
  split <;> simp [Lane.setAcqChan, Lane.setRecord]

@[simp] theorem Lane.acqSample_imgs (c : Nat) (value : Int) (status : Nat) (tag : AcqTag) :
    (l.acqSample c value status tag).imgs = l.imgs
    ∧ (l.acqSample c value status tag).sealing = l.sealing ∧ (l.acqSample c value status tag).sealDone = l.sealDone := by
  simp [Lane.acqSample]

@[simp] theorem Lane.acqImage_imgs (read : Nat → Int × Nat) (endTime : Int) :
    (l.acqImage read endTime).imgs = l.imgs
    ∧ (l.acqImage read endTime).sealing = l.sealing ∧ (l.acqImage read endTime).sealDone = l.sealDone := by
  simp [Lane.acqImage]

@[simp] theorem Lane.notify_imgs (v : Variant) (img : Image) (q : Nat) (b : Sub) (due : List Nat) (more : Bool) :
    (l.notify v img q b due more).imgs = l.imgs
    ∧ (l.notify v img q b due more).sealing = l.sealing ∧ (l.notify v img q b due more).sealDone = l.sealDone := by
  unfold Lane.notify
  dsimp only
  repeat' split
  all_goals exact ⟨rfl, rfl, rfl⟩

@[simp] theorem Lane.notifyAll_imgs (v : Variant) (img : Image) :
    (l.notifyAll v img).imgs = l.imgs ∧ (l.notifyAll v img).sealing = l.sealing ∧ (l.notifyAll v img).sealDone = l.sealDone := by
  simp [Lane.notifyAll]

/-- In laps 0 to 3 the image captured is sealed (R45). -/
theorem Lane.sealImage_of_early (v : Variant) (img : Image) (h : l.sealing = some img) (hl : l.lapIn < 4) :
    l.sealImage v = { l with sealDone := true } := by
  simp [Lane.sealImage, hl, h]

/-- In lap 4 it stands as the latest (R45). -/
theorem Lane.publish_images (v : Variant) (img : Image) (h : l.sealing = some img) :
    (l.publish v).sealing = none ∧ (l.publish v).imgs = (img :: l.imgs).take 64 := by
  simp [Lane.publish, h]

end Images

/-- The image captured, where IMAGE_SEAL finds the lane in laps 0 to 3 of the epoch after and in lap 4. -/
theorem State.imageSeal_images (s : State) (i : LaneId) (img : Image) (ha : (s.lane i).active = true)
    (h : (s.lane i).sealing = some img) :
    ((s.lane i).lapIn < 4 → (s.imageSeal.lane i).sealing = some img ∧ (s.imageSeal.lane i).sealDone = true
      ∧ (s.imageSeal.lane i).imgs = (s.lane i).imgs)
    ∧ ((s.lane i).lapIn = 4 → (s.imageSeal.lane i).sealing = none
      ∧ (s.imageSeal.lane i).imgs = (img :: (s.lane i).imgs).take 64) := by
  have hlane : (s.lane i).lapIn ≤ 4 →
      s.imageSeal.lane i = ((s.lane i).sealImage s.chassis.variant).snapshotReady s.chassis.variant := by
    intro hl
    simp [State.imageSeal, State.lane_eachLane, ha, hl]
  refine ⟨fun hl => ?_, fun hl => ?_⟩
  · rw [hlane hl.le, Lane.sealImage_of_early _ _ img h hl]
    simp [h]
  · have hseal : (s.lane i).sealImage s.chassis.variant = (s.lane i).publish s.chassis.variant := by simp [Lane.sealImage, hl]
    rw [hlane hl.le, hseal]
    simp [Lane.publish_images _ _ img h]

/-! ### The commits that fall due -/

/-- The trial stays, and the count of differing commit digests. -/
def Lane.SameOutcome (l m : Lane) : Prop := m.host.trial = l.host.trial ∧ m.p Hp.commitDisagree = l.p Hp.commitDisagree

theorem LaneRel.sameOutcome : LaneRel (fun _ => Lane.SameOutcome) :=
  ⟨fun h => ⟨h.2, Lane.RingsOnly.p h _⟩, fun ⟨ht, hp⟩ ⟨ht', hp'⟩ => ⟨ht'.trans ht, hp'.trans hp⟩⟩

section Settle

variable (l : Lane)

theorem Lane.SameOutcome.trans {l m n : Lane} (h : l.SameOutcome m) (h' : m.SameOutcome n) : l.SameOutcome n :=
  LaneRel.sameOutcome.trans (i := .A) h h'

theorem Lane.ringsOnly_commitOutcome (epoch : Nat) (c : Commit) : l.RingsOnly (l.commitOutcome epoch c) := by
  unfold Lane.commitOutcome
  split
  · exact l.ringsOnly_fire ..
  · exact l.ringsOnly_answer ..

theorem Lane.sameOutcome_armWatches (epoch : Nat) (ws : List (Nat × Int)) : l.SameOutcome (l.armWatches epoch ws) := by
  unfold Lane.armWatches
  refine LaneRel.sameOutcome.forL .A _ _ (fun _ _ => ?_) l
  exact ⟨rfl, rfl⟩

theorem Lane.sameOutcome_thaw : l.SameOutcome l.thaw := by
  unfold Lane.thaw
  refine LaneRel.sameOutcome.forL .A _ _ (fun _ _ => ?_) l
  exact ⟨rfl, rfl⟩

theorem Lane.sameOutcome_freezeMoved (m : UMap Int) : l.SameOutcome (l.freezeMoved m) :=
  LaneRel.sameOutcome.forL .A (movedPhases l.cfg m) (fun p l => l.setPhase p { l.phase p with frozen := true })
    (fun _ _ => ⟨rfl, rfl⟩) l

/-- At lap 160 a trial comes to wait, and the configuration in force stays (R55). -/
theorem Lane.commitValidation_trial (v : Variant) (sealOpen : Bool) (hl : l.lapIn = 160) (h : l.host.trial = none) :
    (l.commitValidation v sealOpen).host.trial.isSome = true ∧ (l.commitValidation v sealOpen).cfg = l.cfg := by
  refine ⟨?_, by simp⟩
  unfold Lane.commitValidation
  rw [if_neg (by simp [hl, h])]
  dsimp only
  rw [(Lane.sameOutcome_freezeMoved ..).1]
  rfl

/-- Commits due that the lanes agree on keep their trial till the swap; those they differ on are counted, and the trial is dropped
(R33). -/
theorem Lane.settleCommits_outcome (agree : Bool) (hdue : l.host.due (l.epoch + 1) ≠ []) (ht : l.host.trial.isSome = true) :
    (l.settleCommits agree).host.trial = (if agree then l.host.trial else none)
    ∧ (l.settleCommits agree).p Hp.commitDisagree = l.p Hp.commitDisagree + (if agree then 0 else 1) := by
  have hwork : ¬ ((l.host.due (l.epoch + 1)).isEmpty || l.host.trial.isNone) = true := by
    simpa [Option.isSome_iff_ne_none] using And.intro hdue ht
  unfold Lane.settleCommits
  extract_lets e due l0 done host l1 good l2
  rw [if_neg hwork]
  have h1 : l1.host.trial = (if agree then l.host.trial else none)
      ∧ l1.p Hp.commitDisagree = l.p Hp.commitDisagree + (if agree then 0 else 1) := by
    cases agree
    · exact ⟨rfl, (l.p_addp ..).trans (if_pos rfl)⟩
    · exact ⟨rfl, (Int.add_zero _).symm⟩
  have h2 : l1.SameOutcome l2 := by
    simp only [l2]
    split
    · exact l1.sameOutcome_armWatches ..
    · exact l1.sameOutcome_thaw
  have h3 := LaneRel.sameOutcome.forL .A due
    (fun c l => l.commitOutcome e (if agree then c else { c with status := st_LANE_DISAGREE }))
    (fun _ m => LaneRel.sameOutcome.rings (i := .A) (m.ringsOnly_commitOutcome ..)) l2
  obtain ⟨htrial, hcount⟩ := h2.trans h3
  exact ⟨htrial.trans h1.1, hcount.trans h1.2⟩

end Settle

section Exchange

variable (s : State) (i : LaneId)

/-- Of the lane beside it, a comparison that differs reaches only the rings. -/
theorem State.compareFault_beside : s.LaneWise (fun j l m => j ≠ i → l.RingsOnly m) (s.compareFault i) := by
  have hR := LaneRel.beside i
  have hown : ∀ (s : State) (f : LaneFn), s.LaneWise (fun j l m => j ≠ i → l.RingsOnly m) (s.onLane i (fun _ => true) f) :=
    fun s f => hR.onLane _ _ _ fun _ h => absurd rfl h
  unfold State.compareFault
  extract_lets l
  split
  · split
    · exact hown ..
    · exact hR.state_trans (hown ..) (State.leaveStep_beside ..)
  · exact s.leaveStep_beside i

theorem State.grant_of_holder (h : s.holder = some i) : s.arbiter.grant = some i := by
  unfold State.holder at h
  split at h
  · next hg =>
    split at h
    · exact hg.trans h
    · cases h
  · cases h

/-- Of the lane that holds the grant, a round of digests reaches only the rings: it is kept in the other one (R366). -/
theorem State.digestRound_beside (differs : Bool) (run : LinkSt → Nat) (set : Nat → LinkSt → LinkSt)
    (hgrant : s.arbiter.grant = some i) : (s.lane i).RingsOnly ((s.digestRound differs run set).lane i) := by
  have hR := LaneRel.beside i.other
  have hown : ∀ (s : State) (f : LaneFn),
      s.LaneWise (fun j l m => j ≠ i.other → l.RingsOnly m) (s.onLane i.other (fun _ => true) f) :=
    fun s f => hR.onLane _ _ _ fun _ h => absurd rfl h
  suffices s.LaneWise (fun j l m => j ≠ i.other → l.RingsOnly m) (s.digestRound differs run set) from this.2 i (LaneId.ne_other i)
  unfold State.digestRound
  split
  · exact hR.state_refl s
  · next h hh =>
    obtain rfl : i = h := Option.some.inj (hgrant.symm.trans (s.grant_of_holder h hh))
    dsimp only
    split
    · exact hR.state_refl s
    · split
      · exact hown ..
      · split
        · exact hR.state_trans (hown ..) (hR.state_trans (State.compareFault_beside ..) (hown ..))
        · exact hown ..

/-- At lap 190 the holder settles what is due by what the standby holds (R33). -/
theorem State.commitExchange_holder (h : s.holder = some i) (hl : (s.lane i).lapIn = 190) (ha : (s.lane i.other).active = true)
    (hst : (s.lane i.other).link.state = .standby) (hmixed : s.mixed = false) :
    s.commitExchange.lane i = (s.lane i).settleCommits (decide ((s.lane i).host.trial = (s.lane i.other).host.trial)
      && decide ((s.lane i).host.due ((s.lane i).epoch + 1) = (s.lane i.other).host.due ((s.lane i).epoch + 1))) := by
  simp [State.commitExchange, h, hl, ha, hst, hmixed, State.lane_onLane]

/-- What the round of digests adds reaches the holder's rings only (R33, R366). -/
theorem State.commitRound_holder (h : s.holder = some i) : (s.commitExchange.lane i).RingsOnly (s.commitRound.lane i) := by
  obtain ⟨-, -, -, -, -, -, hgrant, -⟩ := (s.core_eq_iff _).mp s.commitExchange_core
  unfold State.commitRound
  dsimp only
  split
  · exact State.digestRound_beside _ i _ _ _ (hgrant.trans (s.grant_of_holder i h))
  · exact .refl _

end Exchange

/-- Settles O31, row by row: the boundary, the seal, the validation and the exchange of commit digests. -/
theorem epochRows : Obligations.EpochRows := by
  unfold Obligations.EpochRows
  intro s i ha
  refine ⟨fun hl => ⟨fun ht => ?_, fun m ht hm => ?_⟩, fun img himg => ⟨fun hl => ?_, fun hl => ?_⟩, fun hl ht => ?_,
    fun hh hl hdue ht hoa host hmixed => ?_⟩
  · obtain ⟨hcfg, -, hepoch⟩ := LaneRel.sameTrial.trans (i := i) ((s.lane i).epochBegin_of_no_trial s.chassis.variant ht)
      (s.epochBoundary_sameTrial i ha hl)
    exact does_of_next rfl ⟨hcfg, hepoch⟩
  · obtain ⟨hcfg, htrial⟩ := (s.lane i).epochBegin_of_trial s.chassis.variant m ht hm
    obtain ⟨hcfg', htrial', -⟩ := s.epochBoundary_sameTrial i ha hl
    exact does_of_next rfl ⟨hcfg'.trans hcfg, htrial'.trans htrial⟩
  · exact does_of_next rfl ((s.imageSeal_images i img ha himg).1 hl)
  · exact does_of_next rfl ((s.imageSeal_images i img ha himg).2 hl)
  · refine does_of_next rfl ?_
    rw [State.lane_both, if_pos ha]
    exact (s.lane i).commitValidation_trial _ _ hl ht
  · have hround := s.commitRound_holder i hh
    have hholder := s.commitExchange_holder i hh hl hoa host hmixed
    obtain ⟨htrial, hcount⟩ := (s.lane i).settleCommits_outcome (decide ((s.lane i).host.trial = (s.lane i.other).host.trial)
      && decide ((s.lane i).host.due ((s.lane i).epoch + 1) = (s.lane i.other).host.due ((s.lane i).epoch + 1))) hdue ht
    rw [← hholder] at htrial hcount
    refine ⟨fun hsame hdues => does_of_next rfl ?_, fun hdiffer => does_of_next rfl ?_⟩
    · rw [hround.2, hround.p, htrial, hcount]
      simp [hsame, hdues]
    · rw [hround.2, hround.p, htrial, hcount]
      simp [hdiffer]

end Sys2Proof.Machine
end

section
/-!
03_host_mailboxes.md: how an admitted request runs, what an answer leaves of a ring, and the commands on rings.
-/

namespace Sys2Proof.Machine

open Sys2Proof

/-! ### How an admitted request runs -/

section Admission

variable {s : State} {i : LaneId} {r : Request} {code : Nat}

/-- The lane whose copy decides the answers computes. -/
theorem State.active_of_refLane (h : s.refLane = some i) : (s.lane i).active = true := by
  have hholder : ∀ j, s.holder = some j → (s.lane j).active = true := by
    intro j hj
    unfold State.holder at hj
    split at hj
    · split at hj
      · next ha => exact Option.some.inj hj ▸ ha
      · cases hj
    · cases hj
  unfold State.refLane at h
  split at h
  · next j hj => exact Option.some.inj h ▸ hholder j hj
  · split at h
    · next ha => exact Option.some.inj h ▸ ha
    · split at h
      · next hb => exact Option.some.inj h ▸ hb
      · cases h

/-- Of an admitted request for both lanes only the command's own effect is left to run (R75, R79, R83). -/
theorem State.run_of_admitted {f : StateCmd} {t : State} {rep : Reply} (h : Admitted s i code r) (hr : r.lane = 0)
    (hc : cancelsSleep code = false) (hf : f s = (t, some rep)) : s.run code r f = t.answerBoth r rep := by
  obtain ⟨href, hwalk, hzeros, hright⟩ := h
  unfold State.run
  simp only [href, hwalk, hr]
  cases hb : rightOf code r with
  | none => simp [hzeros, hc, hf]
  | some b => simp [hright b hb, hzeros, hc, hf]

/-- What a command of both lanes does, and whose reply counts (R75). -/
theorem onLanesNow_eq (f : Lane → Lane × Reply) (href : s.refLane = some i) (hr : r.lane = 0) :
    onLanesNow r f s = (s.both (fun l => (f l).1), some (f (s.lane i)).2) := by
  have ha := State.active_of_refLane href
  unfold onLanesNow onLanes State.both State.eachLane
  cases i
  · simp_all [State.lane]
  · simp_all [State.lane]

/-- The deciding lane holds the answer of a command that leaves it computing. -/
theorem State.lane_run_of_answer {f : StateCmd} {t : State} {rep : Reply} (h : Admitted s i code r) (hr : r.lane = 0)
    (hc : cancelsSleep code = false) (hf : f s = (t, some rep)) (ht : (t.lane i).active = (s.lane i).active) :
    (s.run code r f).lane i = (t.lane i).answer r rep := by
  rw [State.run_of_admitted h hr hc hf, State.answerBoth, State.lane_eachLane, if_pos (ht.trans (State.active_of_refLane h.1))]

/-- After a command of both lanes the deciding lane has run it on itself and holds the answer. -/
theorem State.lane_run_now (F : StateCmd) {f : Lane → Lane × Reply} {l : Lane} {rep : Reply} (h : Admitted s i code r) (hr : r.lane = 0)
    (hc : cancelsSleep code = false) (hF : F s = onLanesNow r f s) (hf : f (s.lane i) = (l, rep)) (hl : l.active = (s.lane i).active) :
    (s.run code r F).lane i = l.answer r rep := by
  have hlane : (s.both (fun l => (f l).1)).lane i = l := by
    rw [State.lane_both, if_pos (State.active_of_refLane h.1), hf]
  rw [onLanesNow_eq f h.1 hr, hf] at hF
  rw [State.lane_run_of_answer h hr hc hF (by rw [hlane, hl]), hlane]

end Admission

/-! ### What an answer leaves of the rings -/

/-- Of the ring nothing differs but what it sends, its history and the requests under execution. -/
def Ring.AnswersOnly (g k : Ring) : Prop :=
  k = { g with entries := k.entries, waiting := k.waiting, nextRsp := k.nextRsp, history := k.history
               inProgress := k.inProgress, takes := k.takes }

theorem Ring.AnswersOnly.trans {g k m : Ring} (h : g.AnswersOnly k) (h' : k.AnswersOnly m) : g.AnswersOnly m := by
  unfold Ring.AnswersOnly at *
  rw [h', h]

theorem Ring.answersOnly_place (send : Nat × Bool) (g : Ring) (e : Entry) : g.AnswersOnly (g.place send e) := by
  unfold Ring.place
  split <;> rfl

theorem Ring.answersOnly_settle (send : Nat × Bool) (g : Ring) : g.AnswersOnly (g.settle send) :=
  List.foldlRecOn (motive := g.AnswersOnly) _ _ rfl fun _ h e _ => h.trans (Ring.answersOnly_place send _ e)

theorem Lane.answersOnly_queue (l : Lane) (q k : Nat) (es : List Entry) : (l.ring k).AnswersOnly ((l.queue q es).ring k) := by
  unfold Lane.queue
  rw [Lane.ring_setRing]
  split
  · next h => exact h ▸ Ring.AnswersOnly.trans (by rfl) (Ring.answersOnly_settle _ _)
  · rfl

theorem Lane.answersOnly_answer (l : Lane) (r : Request) (rep : Reply) (k : Nat) :
    (l.ring k).AnswersOnly ((l.answer r rep).ring k) := by
  have hqueue := l.answersOnly_queue r.ring k (rep.entries r)
  unfold Lane.answer
  dsimp only
  rw [Lane.ring_setRing]
  split
  · next h =>
    subst h
    exact hqueue.trans (by rfl)
  · exact hqueue

/-- The settings, sequence numbers, staging and subscriptions of every ring stand after an answer. -/
@[simp] theorem Lane.ring_answer (l : Lane) (r : Request) (rep : Reply) (k : Nat) :
    ((l.answer r rep).ring k).keySlot = (l.ring k).keySlot ∧ ((l.answer r rep).ring k).setting = (l.ring k).setting
    ∧ ((l.answer r rep).ring k).nextSeq = (l.ring k).nextSeq ∧ ((l.answer r rep).ring k).held = (l.ring k).held
    ∧ ((l.answer r rep).ring k).staging = (l.ring k).staging ∧ ((l.answer r rep).ring k).subs = (l.ring k).subs := by
  rw [l.answersOnly_answer r rep k]
  exact ⟨rfl, rfl, rfl, rfl, rfl, rfl⟩

@[simp] theorem Lane.evRing_answer (l : Lane) (r : Request) (rep : Reply) (n : Nat) : (l.answer r rep).evRing n = l.evRing n := rfl

/-- An answer is the newest of its ring's history (R81). -/
@[simp] theorem Lane.answered_answer (l : Lane) (r : Request) (rep : Reply) : Answered (l.answer r rep) r rep := by
  simp [Answered, Lane.answer]

/-! ### The commands on rings -/

section RingCommands

variable (l : Lane) {r : Request}

/-- `RING_SET` in range (R83). -/
theorem Lane.cmdRingSet_eq (hlen : r.len = 5) (hq : r.at_ 0 1 ≤ 31) (hon : r.at_ 1 1 ≤ 1) (hrights : r.at_ 4 1 ≤ 127) :
    l.cmdRingSet r = (l.setRing (r.at_ 0 1) { l.ring (r.at_ 0 1) with setting := some ⟨decide (r.at_ 1 1 = 1 ∨ r.at_ 0 1 = 0), r.at_ 2 2,
      if r.at_ 0 1 = 0 then r.at_ 4 1 ||| 0x40 else r.at_ 4 1⟩ }, Reply.ok []) := by
  unfold Lane.cmdRingSet
  dsimp only
  rw [if_neg (by omega), if_neg (by omega)]

theorem Lane.cmdRingResync_eq (hlen : r.len = 0) : l.cmdRingResync r = (l.resync r.ring, Reply.ok []) := by
  simp [Lane.cmdRingResync, hlen]

/-- A subscription that `SUBSCRIBE` makes, before a notification (R49). -/
def Request.newSub (r : Request) (since : Nat) : Sub :=
  { id := r.at_ 0 2, periodic := decide (r.at_ 2 1 = 1), period := r.at_ 4 2, ranges := subRanges r (r.at_ 6 2)
    started := decide (r.at_ 3 1 = 0), since := since }

/-- `SUBSCRIBE` of an id that the ring does not hold, within the limits of R49 and R84. -/
theorem Lane.cmdSubscribe_eq (hn : r.at_ 6 2 ≤ 13) (hlen : r.len = 8 + 16 * r.at_ 6 2) (hid : r.at_ 0 2 ≤ 15)
    (hnew : ∀ b ∈ (l.ring r.ring).subs, b.id ≠ r.at_ 0 2) (hmode : r.at_ 2 1 ≤ 1) (hperiod : r.at_ 2 1 = 1 → r.at_ 4 2 ≠ 0)
    (haddr : ∀ x ∈ subRanges r (r.at_ 6 2), addrBad x.1 = false ∧ addrBad (x.1 + x.2.1 - 1) = false ∧ l.noMember x.1 = false)
    (hpoints : (r.newSub l.epoch).points.length ≤ 4096) :
    l.cmdSubscribe r = (l.setRing r.ring { l.ring r.ring with
      subs := (l.ring r.ring).subs.filter (fun x => x.id != r.at_ 0 2) ++ [r.newSub l.epoch] }, Reply.ok [(2, (r.at_ 0 2 : Int))]) := by
  have hold : (l.ring r.ring).subs.find? (fun b => b.id == r.at_ 0 2) = none :=
    List.find?_eq_none.mpr fun b hb => by simpa using hnew b hb
  have hbad : ¬ (subRanges r (r.at_ 6 2)).any (fun x => addrBad x.1 || addrBad (x.1 + x.2.1 - 1)) = true := by
    simpa using fun a b c hx => ⟨(haddr (a, b, c) hx).1, (haddr (a, b, c) hx).2.1⟩
  have hmember : ¬ (subRanges r (r.at_ 6 2)).any (fun x => l.noMember x.1) = true := by
    simpa using fun a b c hx => (haddr (a, b, c) hx).2.2
  have hsub : ({ ({ id := r.at_ 0 2, periodic := decide (r.at_ 2 1 = 1), period := r.at_ 4 2 } : Sub) with
      ranges := [] ++ subRanges r (r.at_ 6 2), started := !decide (r.at_ 3 1 ≠ 0), full := true, since := l.epoch, pending := []
      skipped := 0, last := [] } : Sub) = r.newSub l.epoch := by
    simp [Request.newSub]
  unfold Lane.cmdSubscribe
  dsimp only
  rw [hold, if_neg (by omega), if_neg (by simpa using hid), if_neg (by omega), if_neg hbad, if_neg hmember, Option.getD_none, hsub,
    if_neg (by omega)]

theorem Lane.cmdUnsubscribe_eq (hlen : r.len = 2) (hsub : ∃ b ∈ (l.ring r.ring).subs, b.id = r.at_ 0 2) :
    l.cmdUnsubscribe r = (l.setRing r.ring { l.ring r.ring with
      subs := (l.ring r.ring).subs.filter (fun b => b.id != r.at_ 0 2) }, Reply.ok []) := by
  have hany : (l.ring r.ring).subs.any (fun b => b.id == r.at_ 0 2) = true := by simpa using hsub
  simp [Lane.cmdUnsubscribe, hlen, hany]

/-- `EVENT_MAP` of one source, from a ring that may change every map (R74, R87). -/
theorem Lane.cmdEventMap_eq (v : Variant) (hlen : r.len = 6) (hn : r.at_ 0 2 = 1) (he : r.at_ 2 2 ≤ 127)
    (hq : r.at_ 4 1 ≤ 31 ∨ r.at_ 4 1 = 255) (hadmin : bitAt (l.ring r.ring).rights 6 = true)
    (hfitted : eventAbsent v (r.at_ 2 2) = false) :
    l.cmdEventMap v r = (l.hst (fun h => { h with evMap := UMap.put (fun _ => 255) h.evMap (r.at_ 2 2) (r.at_ 4 1) }), Reply.ok []) := by
  have hentries : eventEntries r = [(r.at_ 2 2, r.at_ 4 1)] := by simp [eventEntries, hn]
  have hright : l.mapLacks r = false := by simp [Lane.mapLacks, hentries, hadmin]
  have hrange : ¬ [(r.at_ 2 2, r.at_ 4 1)].any (fun e => decide (127 < e.1) || (decide (31 < e.2) && decide (e.2 ≠ 255))) = true := by
    simp; omega
  unfold Lane.cmdEventMap
  dsimp only
  rw [if_neg (by omega), hentries, if_neg hrange, if_neg (by simp [hright]), if_neg (by simp [hfitted])]
  rfl

end RingCommands

/-- `EVENT_MAP` reaches the deciding lane as any command does: the map that a lane without a part in the command takes over is
written beside it (R89). -/
theorem doEventMap_eq {s : State} {i : LaneId} {r : Request} {l : Lane} {rep : Reply} (href : s.refLane = some i) (hr : r.lane = 0)
    (hf : (s.lane i).cmdEventMap s.chassis.variant r = (l, rep)) : ∃ t, doEventMap r s = (t, some rep) ∧ t.lane i = l := by
  have hnow := onLanesNow_eq (Lane.cmdEventMap s.chassis.variant r) href hr
  rw [hf] at hnow
  refine ⟨_, by unfold doEventMap; rw [hnow, href], ?_⟩
  rw [State.lane_onLane, Option.getD_some, if_neg (not_and_of_not_left _ (LaneId.ne_other i)), State.lane_both,
    if_pos (State.active_of_refLane href), hf]

/-- Settles O42, command by command: each runs in the deciding lane, and its answer leaves what it has written. -/
theorem ringCommands : Obligations.RingCommands := by
  unfold Obligations.RingCommands
  intro s i r hr
  refine ⟨fun h => ?_, fun q h hlen hq hq31 hon hrights => ?_, fun h hlen => ?_,
    fun h _ hn hlen hid hnew hmode hperiod haddr hpoints => ?_, fun h hlen hsub => ?_,
    fun e q h hlen hn he hq he127 hq31 hadmin hfitted => ?_⟩
  · refine does_of_next rfl ?_
    rw [State.lane_run_now (doNop r) h hr rfl rfl rfl rfl]
    exact Lane.answered_answer ..
  · subst hq
    refine does_of_next rfl ?_
    rw [State.lane_run_now (doRingSet r) h hr rfl rfl ((s.lane i).cmdRingSet_eq hlen hq31 hon hrights) (by simp)]
    simp
  · refine does_of_next rfl ?_
    rw [State.lane_run_now (doRingResync r) h hr rfl rfl ((s.lane i).cmdRingResync_eq hlen) (by simp [Lane.resync])]
    simp [Lane.resync]
  · refine does_of_next rfl ?_
    rw [State.lane_run_now (doSubscribe r) h hr rfl rfl
      ((s.lane i).cmdSubscribe_eq hn hlen hid hnew hmode hperiod haddr (hpoints _ rfl)) (by simp)]
    exact ⟨r.newSub (s.lane i).epoch, by simp, rfl, rfl, rfl, rfl⟩
  · refine does_of_next rfl ?_
    rw [State.lane_run_now (doUnsubscribe r) h hr rfl rfl ((s.lane i).cmdUnsubscribe_eq hlen hsub) (by simp)]
    simp
  · subst he hq
    obtain ⟨t, ht, hlane⟩ := doEventMap_eq h.1 hr ((s.lane i).cmdEventMap_eq _ hlen hn he127 hq31 hadmin hfitted)
    refine does_of_next rfl ?_
    rw [State.lane_run_of_answer h hr rfl ht (by simp [hlane]), hlane]
    refine ⟨Lane.answered_answer .., ?_, fun f hf => ?_⟩
    · rw [Lane.evRing_answer]
      simp [Lane.evRing]
    · rw [Lane.evRing_answer]
      simp [Lane.evRing, hf]

end Sys2Proof.Machine
end

section
/-!
02_state_ledger.md: what the statements on reading, staging, resending, waking and waiting leave out, each shown by a state.
-/

namespace Sys2Proof.Machine

open Sys2Proof

/-! ### The states of the counterexamples -/

/-- Lane `i` in lap `n`, its laps running, in state 4 with the grant. -/
def Lane.holdingAt (i : LaneId) (n : Nat) : Lane :=
  { Lane.reset i with lap := n, pacer := { locked := true, laps := true }, link := { state := .holder, want := true, grant := true } }

/-- A controller in which lane A holds the baton and lane B is in reset. -/
def State.heldByA (n : Nat) (f : Lane → Lane) : State :=
  { a := f (Lane.holdingAt .A n), b := Lane.reset .B, arbiter := { grant := some .A, baton := 1 } }

/-! ### A command answers one state, and a request is answered in one way -/

/-- An effect that a command completes with holds of the state that its meaning gives. -/
theorem of_does {c : Instr} {s t : State} {P : State → Prop} (h : Does c s P) (hc : exec c s = .next t) : P t := by
  obtain ⟨u, hu, hP⟩ := h
  exact Host.Outcome.next.inj (hu.symm.trans hc) ▸ hP

/-- The first entry of a reply carries its status and its epoch (R76). -/
theorem Reply.head_entries (r : Request) (rep : Reply) :
    (rep.entries r).head?.map (fun e => (e.status, e.epoch)) = some (rep.status, rep.epoch) := by
  unfold Reply.entries
  cases hparts : partsOr [] rep.parts with
  | nil => cases hrep : rep.parts <;> simp [partsOr, hrep] at hparts
  | cons p ps => rfl

/-- Two replies that a lane holds as its newest to one request agree. -/
theorem answered_unique {l : Lane} {r : Request} {rep rep' : Reply} (h : Answered l r rep) (h' : Answered l r rep') :
    rep.status = rep'.status ∧ rep.epoch = rep'.epoch := by
  have hentries : rep.entries r = rep'.entries r := by simpa using h.symm.trans h'
  have hhead := rep.head_entries r
  rw [hentries, rep'.head_entries r] at hhead
  simpa [eq_comm] using hhead

/-! ### Commands that read -/

/-- A command of both lanes that reads is answered `OK` by the lane that decides. -/
theorem status_of_reads {s : State} {i : LaneId} {r : Request} {code : Nat} {c : Instr} {F : StateCmd}
    {f : Lane → Lane × Reply} {rep : Reply} (hreads : Reads c r s) (h : Admitted s i code r) (hr : r.lane = 0) (hc : cancelsSleep code = false)
    (hexec : exec c s = .next (s.run code r F)) (hF : F s = onLanesNow r f s) (hf : f (s.lane i) = (s.lane i, rep)) : rep.status = st_OK := by
  obtain ⟨ok, hok, hnext⟩ := hreads
  have hstate := Host.Outcome.next.inj (hexec.symm.trans hnext)
  have hrun := State.lane_run_now F h hr hc hF hf rfl
  rw [hstate, State.answerBoth, State.lane_eachLane, if_pos (State.active_of_refLane h.1)] at hrun
  have hanswered : Answered ((s.lane i).answer r ok) r rep := hrun ▸ Lane.answered_answer ..
  exact (answered_unique hanswered (Lane.answered_answer ..)).1.trans hok

/-- `SESSION_INFO` reads the enable of the outlet as its session does (R59, R252). -/
theorem Lane.cmdSessionInfo_of_disabled (l : Lane) {r : Request} {outlets : Nat} (hlen : r.len = 1) (ho : r.at_ 0 1 < outlets)
    (hoff : l.sc (r.at_ 0 1) (Out.outletEnable (r.at_ 0 1)) = 0) :
    l.cmdSessionInfo outlets r = (l, Reply.just st_OUTLET_DISABLED) := by
  simp [Lane.cmdSessionInfo, Lane.outletCmd, hlen, ho, hoff]

/-- Outlet 0 is enabled by the bank in force, and its session in `CHARGE` keeps the parameters of a bank in which it was not. -/
def State.keptDisabled : State :=
  State.heldByA 1000 (fun l => ({ l with cfg := [(Out.outletEnable 0, 1)] }.setp (Out.sessionStep 0) ssCharge).setOut 0 { par := some [] })

/-- `SESSION_INFO` of outlet 0. -/
def Request.infoOfOutlet : Request := { ring := 0, seq := 1, hostTag := 2, command := 0x104, lane := 0, path := 0, body := [0] }

/-- Refutes O41: the outlet's enable is premised of the bank in force, but `SESSION_INFO` reads it in the parameters that the session keeps
(R59), and answers `OUTLET_DISABLED` where they have it off. No premise says that a session keeps only banks with its outlet enabled. -/
theorem not_readCommands : ¬ Obligations.ReadCommands := by
  unfold Obligations.ReadCommands
  intro h
  obtain ⟨-, -, -, -, -, -, -, hinfo, -⟩ := h State.keptDisabled .A Request.infoOfOutlet rfl
  have hadmitted : Admitted State.keptDisabled .A 0x0104 Request.infoOfOutlet := by decide +kernel
  have hreads := hinfo hadmitted rfl (by decide) (by decide +kernel) (by decide +kernel) (by decide +kernel)
  have hstatus := status_of_reads hreads hadmitted rfl rfl rfl rfl
    (Lane.cmdSessionInfo_of_disabled _ rfl (by decide) (by decide +kernel))
  exact absurd hstatus (by decide)

/-! ### Staging -/

/-- A `STAGE` whose first write may not be written stages nothing: it is answered with that write's place, and counts the false start that
the write may be (R52, R147). -/
theorem Lane.cmdStage_of_refused (l : Lane) (v : Variant) {r : Request} {n : Nat} {w : Nat × Nat} {ws : List (Nat × Nat)}
    (hn : r.at_ 0 2 = n) (hmax : n ≤ 18) (hlen : r.len = 8 + 12 * n) (hws : stageWrites r n = w :: ws) (hst : l.stageStatus v w ≠ st_OK) :
    l.cmdStage v r = (l.refusedTest (l.stageStatus v w) w, { status := l.stageStatus v w, parts := [[(1, 0)]] }) := by
  obtain ⟨k, rfl⟩ : ∃ k, n = k + 1 := by
    cases n with
    | zero => simp [stageWrites] at hws
    | succ k => exact ⟨k, rfl⟩
  unfold Lane.cmdStage
  dsimp only
  rw [hn, if_neg (by omega), hws, List.range_succ_eq_map, List.findSome?_cons, List.getD_cons_zero, if_pos hst]
  rfl

/-- A refused write of `test_gate` that asks for both switches counts a false start of its phase (R147). -/
theorem Lane.refusedTest_falseStarts (l : Lane) {w : Nat × Nat} {p : Nat} (hp : p < 512) (ha : addrPoint w.1 = Ph.testGate p)
    (hboth : bitsAt w.2 1 0 = 3) : (l.refusedTest st_RANGE w).p (Ph.falseStarts p) = l.p (Ph.falseStarts p) + 1 := by
  have hphase : Ph.testGate p % 0x10000 / 128 = p := by unfold Ph.testGate; omega
  have hdomain : Ph.testGate p / 0x10000 = 1 := by unfold Ph.testGate; omega
  unfold Lane.refusedTest
  dsimp only
  rw [ha, hphase, if_pos ⟨rfl, hdomain, rfl, hboth⟩]
  simp [Lane.falseStart]

/-- `STAGE` of one write: both switches of phase 0 by `test_gate`. -/
def Request.stageBothSwitches : Request :=
  { ring := 0, seq := 1, hostTag := 2, command := 0x20, lane := 0, path := 0
    body := [1, 0, 0, 0, 0, 0, 0, 0] ++ leBytes 4 (Ph.testGate 0) ++ leBytes 8 3 }

/-- Refutes O43: a refused `STAGE` is said to do no more than answer, but where the write asks `test_gate` for both switches it counts a
false start of the phase (R147). -/
theorem not_configurationCommands : ¬ Obligations.ConfigurationCommands := by
  unfold Obligations.ConfigurationCommands
  intro h
  obtain ⟨-, hrefused, -⟩ := h (State.heldByA 1000 id) .A Request.stageBothSwitches (by decide +kernel)
  have hadmitted : Admitted (State.heldByA 1000 id) .A 0x0020 Request.stageBothSwitches := by decide +kernel
  have hstatus : (Lane.holdingAt .A 1000).stageStatus .D (Ph.testGate 0, 3) = st_RANGE := by decide +kernel
  have hrange : (Lane.holdingAt .A 1000).stageStatus .D (Ph.testGate 0, 3) ≠ st_OK := by rw [hstatus]; decide
  have hlane := of_does (hrefused rfl hadmitted 1 (Ph.testGate 0, 3) [] rfl (by decide) rfl rfl hrange) rfl
  have hstage := (Lane.holdingAt .A 1000).cmdStage_of_refused .D (r := Request.stageBothSwitches) (w := (Ph.testGate 0, 3)) (ws := [])
    rfl (by decide : 1 ≤ 18) rfl rfl hrange
  rw [State.lane_run_now (doStage Request.stageBothSwitches) hadmitted rfl rfl rfl hstage (by rw [hstatus]; decide +kernel)] at hlane
  have hcount := (Lane.holdingAt .A 1000).refusedTest_falseStarts (w := (Ph.testGate 0, 3)) (p := 0) (by decide) rfl (by decide)
  have hsame := congrArg (fun l : Lane => l.p (Ph.falseStarts 0)) hlane
  simp only [Lane.answer_read, hstatus, hcount] at hsame
  exact absurd hsame (by decide +kernel)

/-! ### Resending -/

/-- A single entry that is due again, as RESEND_TIMER leaves it: marked, and stamped with the lane that sends it now (R76, R81). -/
theorem Lane.entries_resendTimer (l : Lane) {q : Nat} {e : Entry} (hg : l.link.grant = true) (he : (l.ring q).entries = [e])
    (hsent : e.sentLap ≠ 0) (hdue : e.sentLap + msLaps 20 ≤ l.lap + 1) :
    ((l.resendTimer q).ring q).entries = [{ e.stamp l.sends with resent := true }] := by
  simp [Lane.resendTimer, hg, he, hsent, hdue]

/-- An entry that lane A has sent in lap 1. -/
def Entry.sentByA : Entry := { rspSeq := 1, sentLap := 1 }

/-- Lane B holds the baton, and what lane A has sent on ring 0 is not acknowledged. -/
def State.handedOver : State :=
  { a := Lane.reset .A, b := (Lane.holdingAt .B 5000).setRing 0 { ringDefault 0 with entries := [Entry.sentByA] }
    arbiter := { grant := some .B, baton := 2 } }

/-- Refutes O48: an entry sent again is said to differ in its mark and its lap alone, but it also carries which lane sends it (R76), here
lane B what lane A sent before the baton moved. -/
theorem not_mailboxRows : ¬ Obligations.MailboxRows := by
  unfold Obligations.MailboxRows
  intro h
  have hactive : (State.handedOver.lane .B).active = true := by decide +kernel
  have hentries : (State.handedOver.b.ring 0).entries = [Entry.sentByA] := by decide +kernel
  have hdue : Entry.sentByA.sentLap + msLaps 20 ≤ State.handedOver.b.lap + 1 := by decide +kernel
  obtain ⟨-, -, -, -, hresend, -⟩ := h State.handedOver .B hactive
  have hclaimed := of_does (hresend 0 Entry.sentByA rfl (by rw [State.lane_B, hentries]; exact List.mem_singleton_self _) (by decide) hdue) rfl
  rw [State.lane_both, if_pos hactive, State.lane_B, Lane.entries_resendTimer _ rfl hentries (by decide) hdue, List.mem_singleton]
    at hclaimed
  exact absurd (congrArg Entry.byB hclaimed) (by decide +kernel)

/-! ### Waking -/

/-- On the way into `ASLEEP` a wake source that acts is latched in every present lane (R464). -/
theorem State.wake_of_committed (s : State) {source : Nat} {p : SleepPrep} (hw : (s.lane s.wakeLane).wakes source = true)
    (hs : (s.lane s.wakeLane).power.sleep = some p) (hc : p.committed = true) (hasleep : (s.lane s.wakeLane).power.power ≠ pwAsleep)
    (hwaking : (s.lane s.wakeLane).power.power ≠ pwWaking) :
    s.wake source = s.powBoth (fun _ x => { x with latched := some (x.latched.getD source), wakeSeen := x.wakeSeen ||| 2 ^ (source - 1) }) := by
  simp [State.wake, hw, hs, hc, hasleep, hwaking]

/-- A missing lane is left as it is. -/
theorem State.lane_powBoth_of_absent (s : State) {j : LaneId} (f : Lane → PowerSt → PowerSt) (hj : (s.lane j).present = false) :
    (s.powBoth f).lane j = s.lane j := by
  rw [State.powBoth, State.lane_eachLane, if_neg (by simp [hj])]

/-- Lane A alone, past the point of its sleep. -/
def State.aloneToSleep : State :=
  { a := (Lane.holdingAt .A 1190).pow (fun x => { x with
      power := pwPrep, sleep := some { epoch := 5, req := none, checked := true, committed := true } })
    b := { id := .B }, arbiter := { grant := some .A, baton := 1 } }

/-- Refutes O34: every lane is said to latch a wake on the way into `ASLEEP`, but a lane that is not there does not. -/
theorem not_wakeRows : ¬ Obligations.WakeRows := by
  unfold Obligations.WakeRows
  intro h
  obtain ⟨-, -, hlatch, -⟩ := h State.aloneToSleep .A
  have hw : (State.aloneToSleep.lane State.aloneToSleep.wakeLane).wakes 7 = true := by decide +kernel
  have hlatched := of_does ((hlatch 7 _ hw rfl (by decide +kernel) (by decide +kernel)).1 rfl) rfl .B
  rw [State.wake_of_committed _ hw rfl rfl (by decide +kernel) (by decide +kernel),
    State.lane_powBoth_of_absent _ _ (by decide +kernel)] at hlatched
  exact absurd hlatched (by decide +kernel)

/-! ### Waiting -/

/-- A single snapshot that waits, once its image is there: it is answered with the records that are asked of this controller, by the epoch
numbers that the request uses (R47, R48). -/
theorem Lane.answered_snapshotReady (l : Lane) (v : Variant) {w : WaitingRead} {img : Image} {addrs : List Nat}
    (hw : l.host.waitingReads = [w]) (hready : l.readReady w = true) (himg : l.imageOf w.epoch = some img)
    (haddrs : snapshotAddrs w.req = some addrs) :
    Answered (l.snapshotReady v) w.req (l.snapshotReply v img (l.readAddrs w.req addrs) w.got
      (l.epochShift (l.teamRead w.req (l.readAddrs w.req addrs)))) := by
  have hone : l.snapshotReady v = l.answerRead v w := by simp [Lane.snapshotReady, Lane.forL, hw, hready]
  rw [hone, Lane.answerRead, himg, haddrs]
  exact Lane.answered_answer ..

/-- The epoch that a snapshot's answer names (R46, R48). -/
theorem Lane.snapshotReply_epoch (l : Lane) (v : Variant) (img : Image) (addrs : List Nat) (got : List (Nat × List (List Field))) (ofs : Int)
    (h : addrs.any addrBad = false) : (l.snapshotReply v img addrs got ofs).epoch = (img.epoch + ofs).toNat := by
  simp [Lane.snapshotReply, h]

/-- An image of epoch 4 without a value. -/
def Image.ofEpoch4 : Image :=
  { lane := .A, epoch := 4, baton := 1, cfg := [], pts := [], stat := [], phaseGen := [], packGen := [], unready := [], identified := []
    written := [], partner := none }

/-- Member 1 asks for this controller's point 0x91000 in the image of team epoch 7. -/
def Request.memberSnapshot : Request :=
  { ring := 33, seq := 1, hostTag := 2, command := 0x10, lane := 0, path := 0
    body := leBytes 8 7 ++ [1, 0, 0, 0] ++ leBytes 4 0x91000 ++ [1, 0, 0, 0] }

/-- The request of another member as it waits for this controller's epoch 4. -/
def WaitingRead.ofMember : WaitingRead := { req := Request.memberSnapshot, epoch := 4, lap := 900 }

/-- Lane A, member 0 of a team whose epochs run 3 ahead, has sealed the image that member 1's request waits for. -/
def State.memberWaits : State :=
  State.heldByA 1000 (fun l => { l with
    cfg := [(Team.teamLvl 0, 0x80008000)], pts := UMap.put pointDefault l.pts (Team.epochOffset 0) 3
    imgs := [Image.ofEpoch4], host := { l.host with waitingReads := [WaitingRead.ofMember] } })

/-- Refutes O49: the answer to a waiting snapshot is said to name this controller's epoch where no foreign point is asked for, but the
answer to another member's request names the team's epoch (R48, R408). -/
theorem not_waitingRequests : ¬ Obligations.WaitingRequests := by
  unfold Obligations.WaitingRequests
  intro h
  have hactive : (State.memberWaits.lane .A).active = true := by decide +kernel
  have hready : State.memberWaits.a.readReady WaitingRead.ofMember = true := by decide +kernel
  have himg : State.memberWaits.a.imageOf 4 = some Image.ofEpoch4 := by decide +kernel
  have haddrs : snapshotAddrs Request.memberSnapshot = some [0x91000] := by decide +kernel
  obtain ⟨-, hanswer, -⟩ := h State.memberWaits .A hactive
  have hclaimed := of_does (hanswer WaitingRead.ofMember Image.ofEpoch4 [0x91000] rfl hready himg haddrs) rfl
  rw [State.lane_both, if_pos hactive] at hclaimed
  have hepoch := (answered_unique hclaimed (State.memberWaits.a.answered_snapshotReady .D rfl hready himg haddrs)).2
  rw [Lane.snapshotReply_epoch _ _ _ _ _ _ (by decide +kernel), Lane.snapshotReply_epoch _ _ _ _ _ _ (by decide +kernel)] at hepoch
  exact absurd hepoch (by decide +kernel)

end Sys2Proof.Machine
end

section
/-!
05_stage_link.md: what the rows of the link states leave.
-/

namespace Sys2Proof.Machine

open Sys2Proof

/-! ### What a step of one link leaves of its lane -/

/-- The points that the state of hub `h`'s link shows (R129, R130). -/
def linkPoints (h : Nat) : List Nat := [Hub.linkState h, Hub.linkFault h, Hub.retrains h, Hub.delayPs h]

/-- Beside hub `h`'s record, the points of its link and the rings, the lane is as before. -/
structure Lane.LinkOnly (h : Nat) (l m : Lane) : Prop where
  onlyHub : OnlyHub l m
  otherHubs : ∀ k, k ≠ h → m.hub k = l.hub k
  points : KeepsPoints (fun a => a ∈ linkPoints h) l m

section Links

variable {h : Nat}

theorem Lane.LinkOnly.refl (l : Lane) : l.LinkOnly h l := ⟨rfl, fun _ _ => rfl, fun _ _ => rfl⟩

theorem onlyHub_trans {l m n : Lane} (hlm : OnlyHub l m) (hmn : OnlyHub m n) : OnlyHub l n := by
  have e : { n with pts := l.pts, hubs := l.hubs, host := l.host }
    = { ({ n with pts := m.pts, hubs := m.hubs, host := m.host } : Lane) with pts := l.pts, hubs := l.hubs, host := l.host } := rfl
  unfold OnlyHub at *
  rw [e, hmn, hlm]

theorem Lane.LinkOnly.trans {l m n : Lane} (hlm : l.LinkOnly h m) (hmn : m.LinkOnly h n) : l.LinkOnly h n :=
  ⟨onlyHub_trans hlm.onlyHub hmn.onlyHub, fun k hk => (hmn.otherHubs k hk).trans (hlm.otherHubs k hk),
    keepsPoints_trans hlm.points hmn.points⟩

theorem Lane.RingsOnly.linkOnly {l m : Lane} (hr : l.RingsOnly m) : l.LinkOnly h m := by
  rw [hr.eq]
  exact ⟨rfl, fun _ _ => rfl, fun _ _ => rfl⟩

theorem Lane.linkOnly_setp (l : Lane) {a : Nat} (v : Int) (ha : a ∈ linkPoints h) : l.LinkOnly h (l.setp a v) :=
  ⟨rfl, fun _ _ => rfl, fun b hb => by rw [Lane.p_setp, if_neg fun e : b = a => hb (e ▸ ha)]⟩

theorem Lane.linkOnly_setHub (l : Lane) (x : HubSt) : l.LinkOnly h (l.setHub h x) :=
  ⟨rfl, fun k hk => by rw [Lane.hub_setHub, if_neg hk], fun _ _ => rfl⟩

theorem Lane.linkOnly_linkTo (l : Lane) (st : Int) : l.LinkOnly h (l.linkTo h st) := by
  unfold Lane.linkTo
  extract_lets old l1 x ui
  have hcount : l.LinkOnly h l1 := by
    simp only [l1]
    split
    · exact l.linkOnly_setp _ (by simp [linkPoints])
    · exact .refl l
  split
  · exact .refl l
  · exact ((hcount.trans (l1.linkOnly_setp st (by simp [linkPoints]))).trans (Lane.linkOnly_setHub _ _)).trans (Lane.ringsOnly_fire ..).linkOnly

theorem Lane.linkOnly_linkFault (l : Lane) (cause : Int) : l.LinkOnly h (l.linkFault h cause) :=
  (l.linkOnly_setp cause (by simp [linkPoints])).trans (Lane.linkOnly_linkTo _ _)

theorem Lane.linkOnly_linkStep (l : Lane) (src dst : Int) : l.LinkOnly h (l.linkStep h src dst) := by
  unfold Lane.linkStep
  split
  · exact l.linkOnly_linkTo dst
  · exact .refl l

theorem Lane.linkOnly_rangeDone (l : Lane) (timePs : Nat) (beside : Bool) : l.LinkOnly h (l.rangeDone h timePs beside) := by
  have hdelay : ∀ v : Int, l.LinkOnly h (l.setp (Hub.delayPs h) v) := fun v => l.linkOnly_setp v (by simp [linkPoints])
  unfold Lane.rangeDone
  extract_lets n
  split
  · exact .refl l
  · split
    · exact (hdelay _).trans (Lane.linkOnly_linkFault _ 1)
    · exact ((hdelay _).trans (Lane.linkOnly_setHub _ _)).trans (Lane.linkOnly_linkTo _ _)

theorem Lane.linkOnly_trainingTimeout (l : Lane) : l.LinkOnly h (l.trainingTimeout h) := by
  unfold Lane.trainingTimeout
  extract_lets st limit
  split
  · exact l.linkOnly_linkFault 3
  · exact .refl l

theorem Lane.linkOnly_faultRetry (l : Lane) : l.LinkOnly h (l.faultRetry h) := by
  unfold Lane.faultRetry
  split
  · exact (l.linkOnly_setp 0 (by simp [linkPoints])).trans (Lane.linkOnly_linkTo _ _)
  · exact .refl l

/-! ### A link that is off -/

section Off

variable {l : Lane} (hoff : l.p (Hub.linkState h) = lkOff)

include hoff

theorem Lane.linkStep_of_off {src : Int} (dst : Int) (hsrc : lkOff ≠ src) : l.linkStep h src dst = l := by
  rw [Lane.linkStep, hoff, if_neg hsrc]

theorem Lane.rangeDone_of_off (timePs : Nat) (beside : Bool) : l.rangeDone h timePs beside = l := by
  simp only [Lane.rangeDone, hoff]
  exact if_pos (by decide)

theorem Lane.trainingTimeout_of_off : l.trainingTimeout h = l := by
  simp only [Lane.trainingTimeout, hoff]
  exact if_neg (not_and_of_not_left _ (by decide))

theorem Lane.faultRetry_of_off : l.faultRetry h = l := by
  rw [Lane.faultRetry, hoff, if_neg (not_and_of_not_left _ (by decide))]

end Off

end Links

/-! ### What a row of a link reaches -/

section LinkRow

variable (s : State) (i : LaneId) (h : Nat)

/-- A row on the link of hub `h` in lane `i` moves this lane by a step of that link, and of the other only the rings. -/
def Lane.LinkRow (i : LaneId) (h : Nat) (j : LaneId) (l m : Lane) : Prop := (j = i → l.LinkOnly h m) ∧ (j ≠ i → l.RingsOnly m)

theorem LaneRel.linkRow : LaneRel (Lane.LinkRow i h) :=
  ⟨fun hr => ⟨fun _ => hr.linkOnly, fun _ => hr⟩,
    fun hlm hmn => ⟨fun hj => (hlm.1 hj).trans (hmn.1 hj), fun hj => (hlm.2 hj).trans (hmn.2 hj)⟩⟩

theorem State.laneWise_linkRow {f : Lane → Lane} (hf : ∀ l : Lane, l.LinkOnly h (f l)) :
    s.LaneWise (Lane.LinkRow i h) (s.linkRow i h f) := by
  have hR := LaneRel.linkRow i h
  have hhub : s.LaneWise (Lane.LinkRow i h) (s.atHub i h f) := by
    unfold State.atHub
    split
    · exact hR.onLane i _ _ fun l => ⟨fun _ => hf l, fun hi => absurd rfl hi⟩
    · exact hR.state_refl s
  exact hR.state_trans hhub (hR.alsoFire ..)

/-- Where nothing has been raised, nothing is raised in the other lane. -/
theorem State.alsoFire_self : s.alsoFire i s = s := by
  have hnone : (s.lane i).eventNotes.filter (fun e => !(s.lane i).eventNotes.contains e) = [] := by simp
  unfold State.alsoFire State.onLane
  dsimp only
  rw [hnone]
  split
  · cases i <;> rfl
  · rfl

/-- A row that does not reach the lane, or leaves it as it is, leaves the state. -/
theorem State.linkRow_of_still {f : Lane → Lane}
    (hf : f (s.lane i) = s.lane i ∨ (s.lane i).linksRun = false ∨ s.chassis.variant.ports ≤ h) : s.linkRow i h f = s := by
  have hhub : s.atHub i h f = s := by
    unfold State.atHub State.onLane
    split
    · next hport =>
      split
      · next hrun =>
        have hsame : f (s.lane i) = s.lane i :=
          hf.resolve_right (not_or.mpr ⟨by simp [hrun], Nat.not_le.mpr hport⟩)
        dsimp only
        rw [hsame]
        cases i <;> rfl
      · rfl
    · rfl
  rw [State.linkRow, hhub, s.alsoFire_self i]

/-- Each row of the link states is a row on one link, by a step that leaves what a link does not hold, and that leaves a link that is off. -/
theorem exec_linkStates {c : Instr} {d : Nat}
    (hc : c ∈ [.signalPresent i h, .linkAlignComplete i h, .rangeComplete i h d, .configComplete i h, .lossOfSignal i h,
      .linkAlignLost i h, .linkTrainingTimeout i h, .linkFaultRetry i h]) :
    ∃ f : Lane → Lane, exec c s = .next (s.linkRow i h f) ∧ (∀ l : Lane, l.LinkOnly h (f l))
      ∧ ∀ l : Lane, l.p (Hub.linkState h) = lkOff → f l = l := by
  have hstep : ∀ src dst, lkOff ≠ src → (∀ l : Lane, l.LinkOnly h (l.linkStep h src dst))
      ∧ ∀ l : Lane, l.p (Hub.linkState h) = lkOff → l.linkStep h src dst = l :=
    fun src dst hsrc => ⟨fun l => l.linkOnly_linkStep src dst, fun _ hoff => Lane.linkStep_of_off hoff dst hsrc⟩
  simp only [List.mem_cons, List.not_mem_nil, or_false] at hc
  obtain rfl | rfl | rfl | rfl | rfl | rfl | rfl | rfl := hc
  · exact ⟨_, rfl, hstep lkDark lkAlign (by decide)⟩
  · exact ⟨_, rfl, hstep lkAlign lkRange (by decide)⟩
  · exact ⟨_, rfl, fun l : Lane => l.linkOnly_rangeDone d _, fun _ hoff => Lane.rangeDone_of_off hoff d _⟩
  · exact ⟨_, rfl, hstep lkConfig lkReady (by decide)⟩
  · exact ⟨_, rfl, hstep lkReady lkAlign (by decide)⟩
  · exact ⟨_, rfl, hstep lkReady lkAlign (by decide)⟩
  · exact ⟨_, rfl, Lane.linkOnly_trainingTimeout, fun _ => Lane.trainingTimeout_of_off⟩
  · exact ⟨_, rfl, Lane.linkOnly_faultRetry, fun _ => Lane.faultRetry_of_off⟩

end LinkRow

/-- Settles O2: each row is a step of one link, carried to its lane and told to the other. -/
theorem linkFrame : Obligations.LinkFrame := by
  unfold Obligations.LinkFrame
  intro s t i h d c hc ht
  obtain ⟨f, hexec, honly, hoff⟩ := exec_linkStates s i h hc
  obtain rfl : s.linkRow i h f = t := Host.Outcome.next.inj (hexec.symm.trans ht)
  obtain ⟨hlanes, hrel⟩ := s.laneWise_linkRow i h honly
  obtain ⟨hhub, hothers, hpoints⟩ := (hrel i).1 rfl
  obtain ⟨hbeside, -⟩ := (hrel i.other).2 i.other_ne
  exact ⟨hlanes, hhub, hbeside, hothers, hpoints, fun hstill => s.linkRow_of_still i h (hstill.imp_left (hoff _))⟩

end Sys2Proof.Machine
end

section
/-!
03_host_mailboxes.md: the limits of a ring's subscriptions.
-/

namespace Sys2Proof.Machine

open Sys2Proof

/-! ### What `SUBSCRIBE` does -/

/-- The subscription that `SUBSCRIBE` makes of the one with its number, or of none, with the request's ranges added (R49, R84). -/
def Lane.grownSub (l : Lane) (r : Request) : Sub :=
  let base := ((l.ring r.ring).subs.find? (fun b => b.id == r.at_ 0 2)).getD
    { id := r.at_ 0 2, periodic := decide (r.at_ 2 1 = 1), period := r.at_ 4 2 }
  { base with
    ranges := base.ranges ++ subRanges r (r.at_ 6 2), started := !decide (r.at_ 3 1 ≠ 0), full := true, since := l.epoch, pending := []
    skipped := 0, last := [] }

/-- The ring's subscriptions but that of the number that `SUBSCRIBE` names. -/
def Lane.otherSubs (l : Lane) (r : Request) : List Sub := (l.ring r.ring).subs.filter (fun x => x.id != r.at_ 0 2)

section Subscriptions

variable (l : Lane) {r : Request}

theorem Lane.grownSub_id : (l.grownSub r).id = r.at_ 0 2 := by
  unfold Lane.grownSub
  cases hold : (l.ring r.ring).subs.find? (fun b => b.id == r.at_ 0 2) with
  | none => rfl
  | some b => simpa using List.find?_some hold

theorem Lane.mem_otherSubs {b : Sub} : b ∈ l.otherSubs r ↔ b ∈ (l.ring r.ring).subs ∧ b.id ≠ r.at_ 0 2 := by
  simp [Lane.otherSubs]

/-- `SUBSCRIBE` leaves the lane, or names a number up to 15 and leaves that ring without it or with it as the last. -/
theorem Lane.cmdSubscribe_lane : (l.cmdSubscribe r).1 = l
    ∨ r.at_ 0 2 ≤ 15 ∧ ∃ new, (new = [] ∨ new = [l.grownSub r])
      ∧ (l.cmdSubscribe r).1 = l.setRing r.ring { l.ring r.ring with subs := l.otherSubs r ++ new } := by
  generalize hx : l.cmdSubscribe r = x
  unfold Lane.cmdSubscribe at hx
  extract_lets id mode more n rs g old base b rest at hx
  split_ifs at hx with hlen hfull hmode hbad hmember hlarge <;> subst hx
  · exact .inl rfl
  · exact .inl rfl
  · exact .inl rfl
  · exact .inl rfl
  · exact .inl rfl
  · exact .inr ⟨Nat.not_lt.mp (not_or.mp hfull).1, [], .inl rfl, by rw [List.append_nil]; rfl⟩
  · exact .inr ⟨Nat.not_lt.mp (not_or.mp hfull).1, [l.grownSub r], .inr rfl, rfl⟩

section Lengths

variable (hn : r.at_ 6 2 ≤ 13) (hlen : r.len = 8 + 16 * r.at_ 6 2)

include hn hlen

/-- A number beyond 15, or one in use without `more` (R84). -/
theorem Lane.cmdSubscribe_of_taken (htaken : 15 < r.at_ 0 2 ∨ ∃ b,
      (l.ring r.ring).subs.find? (fun b => b.id == r.at_ 0 2) = some b ∧ b.started = true ∧ r.at_ 3 1 = 0) :
    l.cmdSubscribe r = (l, Reply.just st_SUBSCRIPTION_FULL) := by
  unfold Lane.cmdSubscribe
  dsimp only
  rw [if_neg (by omega), if_pos]
  refine htaken.imp_right ?_
  rintro ⟨b, hold, hstarted, hmore⟩
  simp [hold, hstarted, hmore]

/-- A subscription that would grow beyond 4,096 points (R84). -/
theorem Lane.cmdSubscribe_of_large (hid : r.at_ 0 2 ≤ 15)
    (hopen : ∀ b, (l.ring r.ring).subs.find? (fun b => b.id == r.at_ 0 2) = some b → b.started = false ∨ r.at_ 3 1 ≠ 0)
    (hmode : r.at_ 2 1 ≤ 1) (hperiod : r.at_ 2 1 = 1 → r.at_ 4 2 ≠ 0)
    (haddr : ∀ x ∈ subRanges r (r.at_ 6 2), addrBad x.1 = false ∧ addrBad (x.1 + x.2.1 - 1) = false ∧ l.noMember x.1 = false)
    (hlarge : 4096 < (l.grownSub r).points.length) :
    l.cmdSubscribe r = (l.setRing r.ring { l.ring r.ring with subs := l.otherSubs r }, Reply.just st_BAD_LENGTH) := by
  have hbad : ¬ (subRanges r (r.at_ 6 2)).any (fun x => addrBad x.1 || addrBad (x.1 + x.2.1 - 1)) = true := by
    simpa using fun a b c hx => ⟨(haddr (a, b, c) hx).1, (haddr (a, b, c) hx).2.1⟩
  have hmember : ¬ (subRanges r (r.at_ 6 2)).any (fun x => l.noMember x.1) = true := by
    simpa using fun a b c hx => (haddr (a, b, c) hx).2.2
  unfold Lane.cmdSubscribe
  dsimp only
  rw [if_neg (by omega), if_neg ?free, if_neg (by omega), if_neg hbad, if_neg hmember]
  · exact if_pos hlarge
  refine not_or.mpr ⟨by omega, ?_⟩
  cases hold : (l.ring r.ring).subs.find? (fun b => b.id == r.at_ 0 2) with
  | none => simp
  | some b => rcases hopen b hold with h | h <;> simp [h]

end Lengths

/-! ### The numbers of a ring's subscriptions -/

/-- The subscriptions of a ring are numbered 0 to 15, each number once (R84). -/
def Ring.SubsNumbered (g : Ring) : Prop := (∀ b ∈ g.subs, b.id ≤ 15) ∧ (g.subs.map Sub.id).Nodup

/-- There are 16 numbers. -/
theorem Ring.SubsNumbered.length_le {g : Ring} (hg : g.SubsNumbered) : g.subs.length ≤ 16 := by
  have hrange : g.subs.map Sub.id ⊆ List.range 16 := by
    intro n hn
    obtain ⟨b, hb, rfl⟩ := List.mem_map.mp hn
    exact List.mem_range.mpr (Nat.lt_succ_of_le (hg.1 b hb))
  simpa using (hg.2.subperm hrange).length_le

theorem Lane.subsNumbered_cmdSubscribe (hg : (l.ring r.ring).SubsNumbered) : ((l.cmdSubscribe r).1.ring r.ring).SubsNumbered := by
  obtain hsame | ⟨hid, new, hnew, hlane⟩ := l.cmdSubscribe_lane (r := r)
  · rwa [hsame]
  rw [hlane, Lane.ring_setRing, if_pos rfl]
  have hothers : (∀ b ∈ l.otherSubs r, b.id ≤ 15) ∧ ((l.otherSubs r).map Sub.id).Nodup :=
    ⟨fun b hb => hg.1 b (l.mem_otherSubs.mp hb).1, hg.2.sublist (List.filter_sublist.map _)⟩
  obtain rfl | rfl := hnew
  · simpa [Ring.SubsNumbered] using hothers
  · have hfresh : r.at_ 0 2 ∉ (l.otherSubs r).map Sub.id := by
      intro hmem
      obtain ⟨b, hb, hsame⟩ := List.mem_map.mp hmem
      exact (l.mem_otherSubs.mp hb).2 hsame
    refine ⟨fun b hb => ?_, ?_⟩
    · obtain hb | hb := List.mem_append.mp hb
      · exact hothers.1 b hb
      · rw [List.mem_singleton.mp hb, l.grownSub_id]
        exact hid
    · simpa [l.grownSub_id, List.nodup_append] using ⟨hothers.2, by simpa using hfresh⟩

end Subscriptions

@[simp] theorem Lane.cmdSubscribe_active (l : Lane) (r : Request) : (l.cmdSubscribe r).1.active = l.active := by
  obtain hsame | ⟨-, new, -, hlane⟩ := l.cmdSubscribe_lane (r := r)
  · rw [hsame]
  · simp [hlane]

/-- Settles O60: `SUBSCRIBE` keeps the ring's numbers distinct and below 16, and each refusal by the check that meets it. -/
theorem subscriptionLimits : Obligations.SubscriptionLimits := by
  unfold Obligations.SubscriptionLimits
  intro s i r hr h _
  have hrun := State.lane_run_now (doSubscribe r) (l := ((s.lane i).cmdSubscribe r).1) (rep := ((s.lane i).cmdSubscribe r).2)
    h hr rfl rfl rfl ((s.lane i).cmdSubscribe_active r)
  refine ⟨fun hids hnodup => ?_, fun _ hn hlen => ⟨fun htaken => ?_, fun hid hmode hperiod haddr hopen hlarge => ?_⟩⟩
  · have hnumbered : (((s.lane i).cmdSubscribe r).1.ring r.ring).SubsNumbered := (s.lane i).subsNumbered_cmdSubscribe ⟨hids, hnodup⟩
    refine does_of_next rfl ?_
    rw [hrun]
    simpa using ⟨hnumbered.1, hnumbered.2, hnumbered.length_le⟩
  · refine does_of_next rfl ?_
    rw [hrun, (s.lane i).cmdSubscribe_of_taken hn hlen htaken]
    simp
  · have hgrown : 4096 < ((s.lane i).grownSub r).points.length := by
      refine hlarge _ ?_
      unfold Lane.grownSub
      cases ((s.lane i).ring r.ring).subs.find? (fun b => b.id == r.at_ 0 2) <;> rfl
    refine does_of_next rfl ?_
    rw [hrun, (s.lane i).cmdSubscribe_of_large hn hlen hid hopen hmode hperiod haddr hgrown]
    refine ⟨Lane.answered_answer .., fun b hb => ?_⟩
    simp only [Lane.ring_answer, Lane.ring_setRing, if_true] at hb
    exact ((s.lane i).mem_otherSubs.mp hb).2

end Sys2Proof.Machine
end

section
/-!
04_pacer_and_laps.md: what the rows of the units beside the power path leave, the Pacer's rows, and team time.
-/

namespace Sys2Proof.Machine

open Sys2Proof

/-! ### What lies outside a unit of the lane -/

/-- A unit of the lane: what the lane holds beside the unit's records, and which points are the unit's own. Points, status codes and rings
are not part of `rest`. -/
structure LaneUnit (κ : Type) where
  rest : Lane → κ
  own : Nat → Bool
  rest_besideEvents : ∀ l m, rest (besideEvents l m) = rest m

/-- All of a lane that the unit does not hold, but for status codes and what events write. -/
def LaneUnit.outside {κ : Type} (u : LaneUnit κ) (l : Lane) : κ × (Nat → Int) := (u.rest l, fun a => if u.own a then 0 else l.p a)

section Outside

variable {κ : Type} (u : LaneUnit κ)

theorem LaneUnit.outside_of_ringsOnly {l m : Lane} (h : l.RingsOnly m) : u.outside m = u.outside l := by
  have hrest : u.rest m = u.rest l := (u.rest_besideEvents l m).symm.trans (congrArg u.rest (h.pointsOnly []).1)
  simp only [LaneUnit.outside, hrest, h.p]

theorem LaneRel.outside : LaneRel (fun _ l m => u.outside m = u.outside l) := ⟨u.outside_of_ringsOnly, fun h h' => h'.trans h⟩

/-- A step of the lane that stays inside the unit. -/
abbrev LaneUnit.Inside (f : Lane → Lane) : Prop := ∀ l, u.outside (f l) = u.outside l

/-- Nothing but the lanes differs, and nothing of them that lies outside the unit. -/
abbrev LaneUnit.Within (s t : State) : Prop := s.LaneWise (fun _ l m => u.outside m = u.outside l) t

variable (l : Lane)

@[simp] theorem LaneUnit.outside_fire (n unit : Nat) (detail : List Int) : u.outside (l.fire n unit detail) = u.outside l :=
  u.outside_of_ringsOnly (l.ringsOnly_fire n unit detail)

@[simp] theorem LaneUnit.outside_fireIf (b : Bool) (n unit : Nat) (detail : List Int) :
    u.outside (l.fireIf b n unit detail) = u.outside l := by
  cases b
  · rfl
  · exact u.outside_fire l n unit detail

@[simp] theorem LaneUnit.outside_setp {a : Nat} (v : Int) (ha : u.own a = true) : u.outside (l.setp a v) = u.outside l := by
  have hrest : u.rest (l.setp a v) = u.rest l :=
    (u.rest_besideEvents l (l.setp a v)).symm.trans (congrArg u.rest (l.pointsOnly_setp v (List.mem_singleton_self a)).1)
  have hpoints : ∀ b, (if u.own b then 0 else (l.setp a v).p b) = if u.own b then 0 else l.p b := by
    intro b
    rw [Lane.p_setp]
    by_cases hb : b = a
    · simp [hb, ha]
    · rw [if_neg hb]
  simp only [LaneUnit.outside, hrest, hpoints]

@[simp] theorem LaneUnit.outside_addp {a : Nat} (n : Int) (ha : u.own a = true) : u.outside (l.addp a n) = u.outside l :=
  u.outside_setp l _ ha

@[simp] theorem LaneUnit.outside_inc {a : Nat} (ha : u.own a = true) : u.outside (l.inc a) = u.outside l :=
  u.outside_addp l 1 ha

theorem LaneUnit.rest_eq {l m : Lane} (h : u.outside m = u.outside l) : u.rest m = u.rest l := congrArg Prod.fst h

theorem LaneUnit.keepsPoints {l m : Lane} {P : Nat → Prop} (h : u.outside m = u.outside l) (hP : ∀ a, u.own a = true → P a) :
    KeepsPoints P l m := by
  intro a ha
  have hown : ¬ u.own a = true := fun hu => ha (hP a hu)
  simpa only [LaneUnit.outside, if_neg hown] using congrFun (congrArg Prod.snd h) a

end Outside

/-! ### The Pacer -/

/-- The Pacer's records and points (R113). -/
def LaneUnit.pacer : LaneUnit Lane where
  rest l := { l with pts := [], stat := [], host := {}, pacer := {} }
  own a := decide (0x90200 ≤ a ∧ a < 0x90300)
  rest_besideEvents _ _ := rfl

section Pacer

variable (l : Lane)

@[simp] theorem LaneUnit.pacer_own :
    LaneUnit.pacer.own Pc.pacerState = true ∧ LaneUnit.pacer.own Pc.freqOffset = true ∧ LaneUnit.pacer.own Pc.phaseError = true
    ∧ LaneUnit.pacer.own Pc.epochMisaligned = true ∧ LaneUnit.pacer.own Pc.refinLosses = true
    ∧ LaneUnit.pacer.own Pc.synciLosses = true ∧ LaneUnit.pacer.own Pc.band = true ∧ LaneUnit.pacer.own Pc.ptpState = true
    ∧ LaneUnit.pacer.own Pc.ptpOffset = true := by
  decide

@[simp] theorem Lane.pac_outside_pacer (f : PacerSt → PacerSt) : LaneUnit.pacer.outside (l.pac f) = LaneUnit.pacer.outside l := rfl

@[simp] theorem Lane.pacerTo_outside_pacer (st : Int) : LaneUnit.pacer.outside (l.pacerTo st) = LaneUnit.pacer.outside l := by
  unfold Lane.pacerTo
  split <;> simp

@[simp] theorem Lane.steered_outside_pacer (steer : Bool) : LaneUnit.pacer.outside (l.steered steer) = LaneUnit.pacer.outside l := by
  unfold Lane.steered Lane.pacerCheck
  dsimp only
  split_ifs <;> simp

theorem Lane.refinLost_inside_pacer (steer : Bool) : LaneUnit.pacer.Inside (Lane.refinLost steer) := by
  intro l
  unfold Lane.refinLost
  split <;> simp

theorem Lane.synciLost_inside_pacer (steer : Bool) : LaneUnit.pacer.Inside (Lane.synciLost steer) := by
  intro l
  unfold Lane.synciLost
  split <;> simp

theorem Lane.markerMisaligned_inside_pacer : LaneUnit.pacer.Inside Lane.markerMisaligned := by
  intro l
  unfold Lane.markerMisaligned
  dsimp only
  split_ifs <;> simp

theorem Lane.bandLock_inside_pacer (band : Nat) : LaneUnit.pacer.Inside (Lane.bandLock band) := by
  intro l
  unfold Lane.bandLock
  split <;> simp

theorem Lane.acquireComplete_inside_pacer (steer : Bool) (freq phase : Int) :
    LaneUnit.pacer.Inside (Lane.acquireComplete steer freq phase) := by
  intro l
  unfold Lane.acquireComplete
  dsimp only
  split_ifs <;> simp

theorem Lane.holdoverExpiry_inside_pacer (steer : Bool) : LaneUnit.pacer.Inside (Lane.holdoverExpiry steer) := by
  intro l
  unfold Lane.holdoverExpiry
  split <;> simp

theorem Lane.returnComplete_inside_pacer (steer : Bool) : LaneUnit.pacer.Inside (Lane.returnComplete steer) := by
  intro l
  unfold Lane.returnComplete
  split <;> simp

theorem Lane.followPacer_inside_pacer (h : Lane) : LaneUnit.pacer.Inside (fun l => l.followPacer h) := by
  intro l
  unfold Lane.followPacer
  split <;> simp

@[simp] theorem Lane.ptpTo_outside_pacer (st : Int) : LaneUnit.pacer.outside (l.ptpTo st) = LaneUnit.pacer.outside l := by
  unfold Lane.ptpTo
  split <;> simp

@[simp] theorem Lane.ptpOwn_outside_pacer : LaneUnit.pacer.outside l.ptpOwn = LaneUnit.pacer.outside l := by
  unfold Lane.ptpOwn
  split
  · split <;> simp
  · simp

@[simp] theorem Lane.correctTime_outside_pacer (target : Int) :
    LaneUnit.pacer.outside (l.correctTime target) = LaneUnit.pacer.outside l := by
  unfold Lane.correctTime
  dsimp only
  split <;> simp

theorem Lane.ptpMessage_inside_pacer (port : Nat) (m : PtpMessage) : LaneUnit.pacer.Inside (Lane.ptpMessage port m) := by
  intro l
  unfold Lane.ptpMessage
  split
  · rfl
  · cases m with
    | announce domain priority clock =>
      dsimp only
      repeat' split
      all_goals simp
    | sync domain clock timeNs =>
      dsimp only
      repeat' split
      all_goals simp
    | pdelay delayNs => simp

theorem Lane.ptpSend_inside_pacer (kind : Nat) : LaneUnit.pacer.Inside (Lane.ptpSend kind) := by
  intro l
  unfold Lane.ptpSend
  split_ifs <;> simp

end Pacer

/-- After the step of a row of a lane's Pacer, the lanes follow the holder or tell their events. -/
theorem LaneRel.pacerRow_after {R : LaneId → Lane → Lane → Prop} (hR : LaneRel R) (hfollow : ∀ i l h, R i l (l.followPacer h))
    (s : State) (i : LaneId) (f : Bool → Lane → Lane) : (s.powered i (f (s.steers i))).LaneWise R (s.pacerRow i f) := by
  unfold State.pacerRow
  dsimp only
  split
  · unfold State.pacerFollow
    split
    · exact hR.onLane _ _ _ fun l => hfollow _ l _
    · exact hR.state_refl _
  · exact hR.alsoFire ..

/-- The rows of the Pacer. -/
theorem exec_within_pacer {s t : State} {c : Instr} {j : LaneId} {band port kind : Nat} {freq phase : Int} {m : PtpMessage}
    (hc : c ∈ [.refinQualified j, .refinLost j, .synciQualified j, .synciLost j, .epochMarkerMisaligned j, .bandSearchLock j band,
        .acquireComplete j freq phase, .holdoverExpiry j, .returnComplete j, .ptpMessage port m, .ptpSendInterval kind])
    (ht : exec c s = .next t) : LaneUnit.pacer.Within s t := by
  have hR := LaneRel.outside LaneUnit.pacer
  have hrow : ∀ f : Bool → Lane → Lane, (∀ steer, LaneUnit.pacer.Inside (f steer)) → LaneUnit.pacer.Within s (s.pacerRow j f) :=
    fun f hf => hR.state_trans (hR.onLane j _ _ fun l => hf _ l) (hR.pacerRow_after (fun _ l h => Lane.followPacer_inside_pacer h l) s j f)
  have hteam : ∀ f : Lane → Lane, LaneUnit.pacer.Inside f → LaneUnit.pacer.Within s (s.teamed f) := by
    intro f hf
    unfold State.teamed
    split
    · exact hR.eachLane _ _ fun _ l => hf l
    · exact hR.state_refl s
  simp only [List.mem_cons, List.not_mem_nil, or_false] at hc
  obtain rfl | rfl | rfl | rfl | rfl | rfl | rfl | rfl | rfl | rfl | rfl := hc
  · exact laneWise_of_exec rfl (hrow Lane.refinQualified fun steer _ => Lane.steered_outside_pacer _ steer) ht
  · exact laneWise_of_exec rfl (hrow _ Lane.refinLost_inside_pacer) ht
  · exact laneWise_of_exec rfl (hrow Lane.synciQualified fun steer _ => Lane.steered_outside_pacer _ steer) ht
  · exact laneWise_of_exec rfl (hrow _ Lane.synciLost_inside_pacer) ht
  · exact laneWise_of_exec rfl (hR.state_trans (hR.onLane _ _ _ Lane.markerMisaligned_inside_pacer) (hR.alsoFire ..)) ht
  · exact laneWise_of_exec rfl (hR.onLane _ _ _ (Lane.bandLock_inside_pacer band)) ht
  · exact laneWise_of_exec rfl (hrow _ fun steer => Lane.acquireComplete_inside_pacer steer freq phase) ht
  · exact laneWise_of_exec rfl (hrow _ Lane.holdoverExpiry_inside_pacer) ht
  · exact laneWise_of_exec rfl (hrow _ Lane.returnComplete_inside_pacer) ht
  · exact laneWise_of_exec rfl (hteam _ (Lane.ptpMessage_inside_pacer port m)) ht
  · exact laneWise_of_exec rfl (hteam _ (Lane.ptpSend_inside_pacer kind)) ht

/-! ### A bus -/

/-- The records and points of bus `b` (R426). -/
def LaneUnit.bus (b : Nat) : LaneUnit (Lane × (Nat → CanBus)) where
  rest l := ({ l with pts := [], stat := [], host := {}, can := [] }, fun d => if d = b then {} else l.bus d)
  own a := decide (0x92000 + 4096 * b ≤ a ∧ a < 0x93000 + 4096 * b)
  rest_besideEvents _ _ := rfl

section Bus

variable (b : Nat) (l : Lane)

@[simp] theorem LaneUnit.bus_own :
    (LaneUnit.bus b).own (Can.canState b) = true ∧ (LaneUnit.bus b).own (Can.tec b) = true ∧ (LaneUnit.bus b).own (Can.rec b) = true
    ∧ (LaneUnit.bus b).own (Can.rxFrames b) = true ∧ (LaneUnit.bus b).own (Can.txFrames b) = true
    ∧ (LaneUnit.bus b).own (Can.unmatched b) = true ∧ (LaneUnit.bus b).own (Can.ttMissed b) = true
    ∧ (LaneUnit.bus b).own (Can.busOffs b) = true := by
  simp only [LaneUnit.bus, Can.canState, Can.tec, Can.rec, Can.rxFrames, Can.txFrames, Can.unmatched, Can.ttMissed, Can.busOffs,
    decide_eq_true_eq]
  omega

@[simp] theorem Lane.setBus_outside_bus (x : CanBus) : (LaneUnit.bus b).outside (l.setBus b x) = (LaneUnit.bus b).outside l := by
  have hbuses : ∀ d, (if d = b then {} else (l.setBus b x).bus d) = if d = b then {} else l.bus d := by
    intro d
    rw [Lane.bus_setBus]
    split <;> rfl
  simp only [LaneUnit.outside, LaneUnit.bus, hbuses]
  rfl

theorem Lane.canReceive_inside_bus (f : CanFrame) : (LaneUnit.bus b).Inside (Lane.canReceive b f) := by
  intro l
  unfold Lane.canReceive
  dsimp only
  split
  · rfl
  · split <;> simp

@[simp] theorem Lane.canStart_outside_bus : (LaneUnit.bus b).outside (l.canStart b) = (LaneUnit.bus b).outside l := by
  unfold Lane.canStart
  dsimp only
  split
  · rfl
  · split <;> simp

@[simp] theorem Lane.canNext_outside_bus (busy : Bool) : (LaneUnit.bus b).outside (l.canNext b busy) = (LaneUnit.bus b).outside l := by
  simp [Lane.canNext]

@[simp] theorem Lane.dueInBusOff_outside_bus : (LaneUnit.bus b).outside (l.dueInBusOff b) = (LaneUnit.bus b).outside l := by
  unfold Lane.dueInBusOff
  split <;> simp

@[simp] theorem Lane.canWithdraw_outside_bus : (LaneUnit.bus b).outside (l.canWithdraw b) = (LaneUnit.bus b).outside l := by
  unfold Lane.canWithdraw
  dsimp only
  split <;> simp

theorem Lane.canColumnOpen_inside_bus (c : Nat) (e : CanColumn) : (LaneUnit.bus b).Inside (Lane.canColumnOpen b c e) := by
  intro l
  unfold Lane.canColumnOpen
  dsimp only
  split_ifs <;> simp

theorem Lane.canColumnClose_inside_bus : (LaneUnit.bus b).Inside (Lane.canColumnClose b) := by
  intro l
  simp [Lane.canColumnClose]

theorem Lane.canSent_inside_bus (busy : Bool) : (LaneUnit.bus b).Inside (Lane.canSent b busy) := by
  intro l
  simp [Lane.canSent]

theorem Lane.canHeard_inside_bus (busy : Bool) (r : CanReq) : (LaneUnit.bus b).Inside (Lane.canHeard b busy r) := by
  intro l
  unfold Lane.canHeard
  dsimp only
  rw [Lane.canNext_outside_bus]
  split
  · split <;> simp
  · simp

theorem Lane.canError_inside_bus (st : Int) (tec recN : Nat) : (LaneUnit.bus b).Inside (Lane.canError b st tec recN) := by
  intro l
  unfold Lane.canError Lane.canEvent
  dsimp only
  split_ifs <;> simp

theorem Lane.canFollow_inside_bus (h : Lane) : (LaneUnit.bus b).Inside (fun l => l.canFollow b h) := by
  intro l
  simp [Lane.canFollow]

theorem Lane.canRejoin_inside_bus : (LaneUnit.bus b).Inside (Lane.canRejoin b) := by
  intro l
  unfold Lane.canRejoin Lane.canEvent
  split <;> simp

theorem Lane.onBus_inside {κ : Type} (u : LaneUnit κ) {f : Lane → Lane} (hf : u.Inside f) : u.Inside (Lane.onBus b f) := by
  intro l
  unfold Lane.onBus
  split
  · rfl
  · exact hf l

end Bus

/-- The lane beside the holder, where a lane holds the baton. -/
theorem LaneRel.besideHolder {R : LaneId → Lane → Lane → Prop} (hR : LaneRel R) (s : State) {f : Lane → Lane → Lane}
    (hf : ∀ i l h, R i l (f l h)) : s.LaneWise R (s.beside f) := by
  unfold State.beside
  split
  · exact hR.state_refl s
  · exact hR.onLane _ _ _ fun l => hf _ l _

/-- The rows of a bus. -/
theorem exec_within_bus {s t : State} {c : Instr} {j : LaneId} {b cyc tec recN : Nat} {st : Int} {e : CanEnd} {f : CanArrival}
    {col : CanColumn} (hc : c ∈ [.canFrameReceive b f, .canColumnOpen b cyc col, .canColumnClose b, .canTxComplete ⟨b, e⟩,
      .canErrorStateChange j b st tec recN, .canBusoffRecovery j b])
    (ht : exec c s = .next t) : (LaneUnit.bus b).Within s t := by
  have hR := LaneRel.outside (LaneUnit.bus b)
  have hbelow : ∀ f : Lane → Lane, (LaneUnit.bus b).Inside f → (LaneUnit.bus b).Within s (s.below 4 b (fun l => l.onBus b f)) := by
    intro f hf
    unfold State.below
    split
    · exact hR.eachLane _ _ fun _ => Lane.onBus_inside b _ hf
    · exact hR.state_refl s
  have hrow : ∀ f : Lane → Lane, (LaneUnit.bus b).Inside f → (LaneUnit.bus b).Within s (if b < 4 then s.busRow j b f else s) := by
    intro f hf
    split
    · exact hR.state_trans (hR.state_trans (hR.onLane _ _ _ hf) (hR.besideHolder _ fun _ l h => Lane.canFollow_inside_bus b h l))
        (hR.alsoFire ..)
    · exact hR.state_refl s
  simp only [List.mem_cons, List.not_mem_nil, or_false] at hc
  obtain rfl | rfl | rfl | rfl | rfl | rfl := hc
  · refine laneWise_of_exec rfl (hbelow _ fun l => ?_) ht
    rw [Lane.canNext_outside_bus]
    split
    · rfl
    · exact Lane.canReceive_inside_bus b f.frame l
  · exact laneWise_of_exec rfl (hbelow _ (Lane.canColumnOpen_inside_bus b cyc col)) ht
  · exact laneWise_of_exec rfl (hbelow _ (Lane.canColumnClose_inside_bus b)) ht
  · refine laneWise_of_exec rfl ?_ ht
    unfold State.canDone
    split
    · exact hR.state_refl s
    · split
      · exact hR.state_refl s
      · split
        · exact hR.state_refl s
        · refine hR.state_trans (hR.onLane _ _ _ fun l => Lane.canSent_inside_bus b e.busy l)
            (hR.onLane _ _ _ fun l => Lane.onBus_inside b _ (fun l => ?_) l)
          split
          · exact Lane.canNext_outside_bus b l e.busy
          · exact Lane.canHeard_inside_bus b e.busy _ l
  · exact laneWise_of_exec rfl (hrow _ (Lane.canError_inside_bus b st tec recN)) ht
  · exact laneWise_of_exec rfl (hrow _ (Lane.canRejoin_inside_bus b)) ht

/-! ### The mast link -/

/-- The records and points of the mast link (R435). -/
def LaneUnit.mast : LaneUnit Lane where
  rest l := { l with pts := [], stat := [], host := {}, mast := {} }
  own a := decide (0x96000 ≤ a)
  rest_besideEvents _ _ := rfl

section Mast

variable (l : Lane) (t : Nat)

@[simp] theorem LaneUnit.mast_own (k : Nat) :
    LaneUnit.mast.own (Mast.mapNow k) = true ∧ LaneUnit.mast.own (Mast.mapStored k) = true ∧ LaneUnit.mast.own (Mast.mainsOut k) = true
    ∧ LaneUnit.mast.own (Mast.nodeState k) = true ∧ LaneUnit.mast.own (Mast.polls k) = true
    ∧ LaneUnit.mast.own (Mast.repeats k) = true ∧ LaneUnit.mast.own (Mast.mastCorrected k) = true
    ∧ LaneUnit.mast.own (Mast.mastFailed k) = true := by
  simp only [LaneUnit.mast, Mast.mapNow, Mast.mapStored, Mast.mainsOut, Mast.nodeState, Mast.polls, Mast.repeats, Mast.mastCorrected,
    Mast.mastFailed, decide_eq_true_eq]
  omega

@[simp] theorem Lane.setMastPort_outside_mast (x : MastPort) : LaneUnit.mast.outside (l.setMastPort t x) = LaneUnit.mast.outside l := rfl

@[simp] theorem Lane.setMastNode_outside_mast (n : Nat) (x : MastNode) :
    LaneUnit.mast.outside (l.setMastNode n x) = LaneUnit.mast.outside l := rfl

theorem Lane.zeroCrossing_inside_mast (periodUs : Nat) (noise : List Nat) : LaneUnit.mast.Inside (Lane.zeroCrossing t periodUs noise) := by
  intro l
  unfold Lane.zeroCrossing
  dsimp only
  split <;> simp

@[simp] theorem Lane.mastRequest_outside_mast (n rep : Nat) (carried : Option (List Nat)) :
    LaneUnit.mast.outside (l.mastRequest t n rep carried) = LaneUnit.mast.outside l := by
  simp [Lane.mastRequest]

theorem Lane.mastSend_inside_mast : LaneUnit.mast.Inside (Lane.mastSend t) := by
  intro l
  unfold Lane.mastSend
  dsimp only
  repeat' split
  all_goals simp

@[simp] theorem Lane.adapt_outside_mast (bad : List Nat) (good : Bool) :
    LaneUnit.mast.outside (l.adapt t bad good) = LaneUnit.mast.outside l := by
  simp [Lane.adapt]

theorem Lane.mastDecode_inside_mast (a : MastResponse) : LaneUnit.mast.Inside (Lane.mastDecode t a) := by
  intro l
  unfold Lane.mastDecode
  dsimp only
  split_ifs <;> simp

theorem Lane.mastResponse_inside_mast (a : MastResponse) : LaneUnit.mast.Inside (Lane.mastResponse t a) := by
  intro l
  unfold Lane.mastResponse
  dsimp only
  split
  · rfl
  · split <;> simp

@[simp] theorem Lane.mastMissed_outside_mast : LaneUnit.mast.outside (l.mastMissed t) = LaneUnit.mast.outside l := by
  unfold Lane.mastMissed
  dsimp only
  split <;> simp

theorem Lane.mastTimeout_inside_mast : LaneUnit.mast.Inside (Lane.mastTimeout t) := by
  intro l
  unfold Lane.mastTimeout
  dsimp only
  split_ifs <;> simp

theorem Lane.mastFollow_inside_mast (h : Lane) : LaneUnit.mast.Inside (fun l => l.mastFollow h t) := by
  intro l
  have hnodes := (LaneRel.outside LaneUnit.mast).forL .A (portNodes l.cfg t) (fun n l =>
    (l.setMastNode n { l.mastNodeSt n with queue := (h.mastNodeSt n).queue, seq := (h.mastNodeSt n).seq
                                           fails := (h.mastNodeSt n).fails }).setp (Mast.nodeState (n - 1))
      (h.p (Mast.nodeState (n - 1)))) fun n l => by simp
  exact (hnodes _).trans (by simp)

theorem Lane.modem_inside {κ : Type} (u : LaneUnit κ) {f : Lane → Lane} (hf : u.Inside f) : u.Inside (Lane.modem f) := by
  intro l
  unfold Lane.modem
  split
  · rfl
  · exact hf l

end Mast

/-- The holder alone. -/
theorem LaneRel.holderOnly {R : LaneId → Lane → Lane → Prop} (hR : LaneRel R) (s : State) {f : Lane → Lane}
    (hf : ∀ i l, R i l (f l)) : s.LaneWise R (s.holderOnly f) := by
  unfold State.holderOnly
  split
  · exact hR.state_refl s
  · exact hR.onLane _ _ _ fun l => hf _ l

theorem LaneRel.fireBeside {R : LaneId → Lane → Lane → Prop} (hR : LaneRel R) (s old : State) : s.LaneWise R (s.fireBeside old) := by
  unfold State.fireBeside
  split
  · exact hR.alsoFire ..
  · exact hR.state_refl s

/-- The rows of a mast port. -/
theorem exec_within_mast {s t : State} {c : Instr} {port us : Nat} {a : MastResponse} {noise : List Nat}
    (hc : c ∈ [.mastRequestSend port, .mastResponseReceive port a, .mastResponseTimeout port, .mainsZeroCrossing port us noise])
    (ht : exec c s = .next t) : LaneUnit.mast.Within s t := by
  have hR := LaneRel.outside LaneUnit.mast
  have hholder : ∀ (s0 : State) (f : Lane → Lane), LaneUnit.mast.Inside f → LaneUnit.mast.Within s0
      (((s0.holderOnly (Lane.modem f)).beside (fun l h => l.mastFollow h port)).fireBeside s) :=
    fun s0 f hf => hR.state_trans (hR.state_trans (hR.holderOnly s0 fun _ => Lane.modem_inside _ hf)
      (hR.besideHolder _ fun _ l h => Lane.mastFollow_inside_mast port h l)) (hR.fireBeside ..)
  have hstep : ∀ f : Lane → Lane, LaneUnit.mast.Inside f → LaneUnit.mast.Within s (s.mastStep port f) := by
    intro f hf
    unfold State.mastStep
    split
    · exact hholder s f hf
    · exact hR.state_refl s
  simp only [List.mem_cons, List.not_mem_nil, or_false] at hc
  obtain rfl | rfl | rfl | rfl := hc
  · exact laneWise_of_exec rfl (hstep _ (Lane.mastSend_inside_mast port)) ht
  · refine laneWise_of_exec rfl ?_ ht
    unfold State.mastBoth
    split
    · exact hR.state_trans (hR.eachLane _ _ fun _ => Lane.modem_inside _ (Lane.mastDecode_inside_mast port a))
        (hholder _ _ (Lane.mastResponse_inside_mast port a))
    · exact hR.state_refl s
  · exact laneWise_of_exec rfl (hstep _ (Lane.mastTimeout_inside_mast port)) ht
  · refine laneWise_of_exec rfl ?_ ht
    split
    · exact hR.eachLane _ _ fun _ => Lane.zeroCrossing_inside_mast port us noise
    · exact hR.state_refl s

/-! ### Tuning and the trace engine -/

/-- The records and points of tuning and of the trace engine (R454). -/
def LaneUnit.tuning : LaneUnit Lane where
  rest l := { l with pts := [], stat := [], host := {}, tune := {}, trace := {} }
  own a := decide (0x90700 ≤ a ∧ a < 0x90800)
  rest_besideEvents _ _ := rfl

section Tuning

variable (l : Lane)

@[simp] theorem LaneUnit.tuning_own :
    LaneUnit.tuning.own Ta.tuneState = true ∧ LaneUnit.tuning.own Ta.tuneSlot = true ∧ LaneUnit.tuning.own Ta.tuneCause = true
    ∧ LaneUnit.tuning.own Ta.tuneProgress = true ∧ LaneUnit.tuning.own Ta.tuneGuardDevA = true
    ∧ LaneUnit.tuning.own Ta.tuneRuns = true ∧ LaneUnit.tuning.own Ta.tuneAborts = true
    ∧ LaneUnit.tuning.own Ta.traceState = true ∧ LaneUnit.tuning.own Ta.traceTrigLap = true
    ∧ LaneUnit.tuning.own Ta.traceTrigIgnored = true := by
  decide

@[simp] theorem Lane.records_outside_tuning (x : TuneSt) (y : TraceSt) :
    LaneUnit.tuning.outside { l with tune := x, trace := y } = LaneUnit.tuning.outside l := rfl

theorem Lane.tuneAbort_inside_tuning (cause : Int) : LaneUnit.tuning.Inside (Lane.tuneAbort cause) := by
  intro l
  unfold Lane.tuneAbort
  dsimp only
  split
  · rfl
  · split <;> simp

theorem Lane.tuneGuardAbort_inside_tuning : LaneUnit.tuning.Inside Lane.tuneGuardAbort := by
  intro l
  unfold Lane.tuneGuardAbort
  repeat' split
  · exact Lane.tuneAbort_inside_tuning 1 l
  · rfl
  · rfl

theorem Lane.tuneStart_inside_tuning : LaneUnit.tuning.Inside Lane.tuneStart := by
  intro l
  unfold Lane.tuneStart
  dsimp only
  repeat' split
  all_goals simp

theorem Lane.tuneComplete_inside_tuning : LaneUnit.tuning.Inside Lane.tuneComplete := by
  intro l
  unfold Lane.tuneComplete
  dsimp only
  repeat' split
  all_goals simp

theorem Lane.traceTrigger_inside_tuning (source : Nat) : LaneUnit.tuning.Inside (Lane.traceTrigger source) := by
  intro l
  unfold Lane.traceTrigger
  split_ifs <;> simp

theorem Lane.traceComplete_inside_tuning : LaneUnit.tuning.Inside Lane.traceComplete := by
  intro l
  unfold Lane.traceComplete
  repeat' split
  all_goals simp

end Tuning

/-- The rows of tuning and of the trace engine. -/
theorem exec_within_tuning {s t : State} {c : Instr} {src : Nat}
    (hc : c ∈ [.tuneMeasurementStart, .tuneComplete, .tuneGuardAbort, .traceTrigger src, .traceComplete])
    (ht : exec c s = .next t) : LaneUnit.tuning.Within s t := by
  have hR := LaneRel.outside LaneUnit.tuning
  simp only [List.mem_cons, List.not_mem_nil, or_false] at hc
  obtain rfl | rfl | rfl | rfl | rfl := hc
  · exact laneWise_of_exec rfl (hR.eachLane _ _ fun _ => Lane.tuneStart_inside_tuning) ht
  · exact laneWise_of_exec rfl (hR.eachLane _ _ fun _ => Lane.tuneComplete_inside_tuning) ht
  · exact laneWise_of_exec rfl (hR.eachLane _ _ fun _ => Lane.tuneGuardAbort_inside_tuning) ht
  · exact laneWise_of_exec rfl (hR.eachLane _ _ fun _ => Lane.traceTrigger_inside_tuning src) ht
  · exact laneWise_of_exec rfl (hR.eachLane _ _ fun _ => Lane.traceComplete_inside_tuning) ht

/-- Settles O54: each row keeps all that lies outside its unit. -/
theorem peripheralFrame : Obligations.PeripheralFrame := by
  unfold Obligations.PeripheralFrame
  intro s t c i ht
  refine ⟨fun j band freq phase port m kind hc => ?_, fun j b e f cyc col st tec recN hc => ?_, fun port a us noise hc => ?_,
    fun src hc => ?_⟩
  · obtain ⟨honly, hlanes⟩ := exec_within_pacer hc ht
    exact ⟨honly, congrArg (fun x : Lane => { besideEvents (s.lane i) x with pacer := (s.lane i).pacer }) (LaneUnit.rest_eq _ (hlanes i)),
      LaneUnit.keepsPoints _ (hlanes i) (by simp [LaneUnit.pacer])⟩
  · obtain ⟨honly, hlanes⟩ := exec_within_bus hc ht
    have hrest := LaneUnit.rest_eq _ (hlanes i)
    refine ⟨honly, congrArg (fun x : Lane × (Nat → CanBus) => { besideEvents (s.lane i) x.1 with can := (s.lane i).can }) hrest,
      fun d hd => ?_, LaneUnit.keepsPoints _ (hlanes i) (by simp [LaneUnit.bus])⟩
    simpa only [LaneUnit.bus, if_neg hd] using congrFun (congrArg Prod.snd hrest) d
  · obtain ⟨honly, hlanes⟩ := exec_within_mast hc ht
    exact ⟨honly, congrArg (fun x : Lane => { besideEvents (s.lane i) x with mast := (s.lane i).mast }) (LaneUnit.rest_eq _ (hlanes i)),
      LaneUnit.keepsPoints _ (hlanes i) (by simp [LaneUnit.mast])⟩
  · obtain ⟨honly, hlanes⟩ := exec_within_tuning hc ht
    exact ⟨honly, congrArg (fun x : Lane => { besideEvents (s.lane i) x with tune := (s.lane i).tune, trace := (s.lane i).trace })
      (LaneUnit.rest_eq _ (hlanes i)), LaneUnit.keepsPoints _ (hlanes i) (by simp [LaneUnit.tuning])⟩

/-! ### The Pacer's state and references -/

section PacerState

variable (l : Lane)

@[simp] theorem Lane.pcState_pacerTo (st : Int) : (l.pacerTo st).pcState = st := by
  unfold Lane.pacerTo
  split
  · assumption
  · simp [Lane.pcState]

theorem Lane.p_pacerTo (st : Int) {a : Nat} (ha : a ≠ Pc.pacerState) : (l.pacerTo st).p a = l.p a := by
  unfold Lane.pacerTo
  split <;> simp [ha]

/-- Two lanes whose references qualify alike, and of which both or neither run their laps. -/
structure Lane.SameRefs (l m : Lane) : Prop where
  refin : m.pacer.refinOk = l.pacer.refinOk
  synci : m.pacer.synciOk = l.pacer.synciOk
  laps : m.pacer.laps = l.pacer.laps
  present : m.present = l.present

theorem LaneRel.sameRefs : LaneRel (fun _ => Lane.SameRefs) :=
  ⟨fun h => by rw [h.eq]; exact ⟨rfl, rfl, rfl, rfl⟩,
   fun h h' => ⟨h'.refin.trans h.refin, h'.synci.trans h.synci, h'.laps.trans h.laps, h'.present.trans h.present⟩⟩

theorem Lane.SameRefs.lapping {l m : Lane} (h : l.SameRefs m) : m.lapping = l.lapping := by
  simp [Lane.lapping, h.laps, h.present]

@[simp] theorem Lane.sameRefs_refl : l.SameRefs l := LaneRel.sameRefs.refl .A l

@[simp] theorem Lane.sameRefs_pacerTo (st : Int) : l.SameRefs (l.pacerTo st) := by
  unfold Lane.pacerTo
  split
  · exact l.sameRefs_refl
  · constructor <;> simp

theorem Lane.sameRefs_steered (steer : Bool) : l.SameRefs (l.steered steer) := by
  unfold Lane.steered Lane.pacerCheck
  dsimp only
  split_ifs <;> simp

theorem Lane.sameRefs_followPacer (h : Lane) : l.SameRefs (l.followPacer h) := by
  unfold Lane.followPacer
  split
  · exact l.sameRefs_refl
  · have hto := l.sameRefs_pacerTo h.pcState
    exact ⟨hto.refin, hto.synci, hto.laps, hto.present⟩

theorem Lane.pcState_followPacer {h : Lane} (hh : h.pcState ≠ pcSearch) : (l.followPacer h).pcState = h.pcState := by
  have hlast : ∀ (m : Lane) (f p : Int) (g : PacerSt → PacerSt),
      (((m.setp Pc.freqOffset f).setp Pc.phaseError p).pac g).pcState = m.pcState := by
    intro m f p g
    simp [Lane.pcState, show Pc.pacerState ≠ Pc.phaseError by decide, show Pc.pacerState ≠ Pc.freqOffset by decide]
  rw [Lane.followPacer, if_neg hh, hlast, Lane.pcState_pacerTo]

/-- A source that is lost takes a lane that steers by it into `HOLDOVER` (R101). -/
theorem Lane.steered_of_lost (hst : l.pcState = pcTrack) (hsrc : l.c Pc.pacerSource ≠ 0) (hlost : l.sourceOk = false) :
    l.steered true = l.pacerTo pcHoldover := by
  simp [Lane.steered, Lane.pacerCheck, hst, hsrc, hlost]

theorem Lane.lapping_pacerTo (st : Int) : (l.pacerTo st).lapping = l.lapping := (l.sameRefs_pacerTo st).lapping

theorem Lane.lapping_refinLost_beside : (l.refinLost false).lapping = l.lapping := by
  unfold Lane.refinLost Lane.steered
  split <;> rfl

/-- REFIN lost where the lane tracks it (R96, R101). -/
theorem Lane.refinLost_of_track (hok : l.pacer.refinOk = true) (hsrc : l.c Pc.pacerSource = 1) (hst : l.pcState = pcTrack) :
    l.refinLost true = ((l.pac (fun x => { x with refinOk := false })).inc Pc.refinLosses).pacerTo pcHoldover := by
  have hstate : ((l.pac (fun x => { x with refinOk := false })).inc Pc.refinLosses).pcState = pcTrack := by
    simpa [Lane.pcState, show Pc.pacerState ≠ Pc.refinLosses by decide] using hst
  rw [Lane.refinLost, hok, if_neg (by decide)]
  exact Lane.steered_of_lost _ hstate (by simp [hsrc]) (by simp [Lane.sourceOk, hsrc])

/-- SYNCI lost where the lane tracks it (R97, R101). -/
theorem Lane.synciLost_of_track (hok : l.pacer.synciOk = true) (hsrc : l.c Pc.pacerSource = 2) (hst : l.pcState = pcTrack) :
    l.synciLost true = ((l.pac (fun x => { x with synciOk := false })).inc Pc.synciLosses).pacerTo pcHoldover := by
  have hstate : ((l.pac (fun x => { x with synciOk := false })).inc Pc.synciLosses).pcState = pcTrack := by
    simpa [Lane.pcState, show Pc.pacerState ≠ Pc.synciLosses by decide] using hst
  rw [Lane.synciLost, hok, if_neg (by decide)]
  exact Lane.steered_of_lost _ hstate (by simp [hsrc]) (by simp [Lane.sourceOk, hsrc])

/-- A source of frequency or phase alone is reached (R101). -/
theorem Lane.acquireComplete_of_acquire (freq phase : Int) (hst : l.pcState = pcAcquire) (hok : l.sourceOk = true)
    (hsrc : l.c Pc.pacerSource ≠ 3) :
    l.acquireComplete true freq phase = ((l.setp Pc.freqOffset freq).setp Pc.phaseError phase).pacerTo pcTrack := by
  simp [Lane.acquireComplete, hst, hok, hsrc]

theorem Lane.holdoverExpiry_of_due (hst : l.pcState = pcHoldover) (hdue : l.pacer.enteredLap + 2000000 ≤ l.lap) :
    l.holdoverExpiry true = l.pacerTo pcReturn := by
  simp [Lane.holdoverExpiry, hst, hdue]

theorem Lane.returnComplete_of_return (hst : l.pcState = pcReturn) :
    l.returnComplete true = (l.setp Pc.freqOffset 0).pacerTo pcFree := by
  simp [Lane.returnComplete, hst]

/-- The offset of a marker beside lap 0 (R106). -/
theorem Lane.markerMisaligned_offset (hlaps : l.pacer.laps = true) (hlap : l.lapIn ≠ 0) :
    l.markerMisaligned.p Pc.epochMisaligned = if l.lapIn < 100 then (l.lapIn : Int) else (l.lapIn : Int) - 200 := by
  simp [Lane.markerMisaligned, hlaps, hlap]

theorem Lane.bandLock_of_stopped (band : Nat) (hlaps : l.pacer.laps = false) (hfast : l.power.fastOn = true) :
    (l.bandLock band).pacer.locked = true ∧ (l.bandLock band).p Pc.band = (band % 16 : Nat) := by
  simp [Lane.bandLock, hlaps, hfast, Lane.p_pacerTo, show Pc.band ≠ Pc.pacerState by decide]

end PacerState

/-! ### What a row of the Pacer leaves of its lane -/

section PacerRow

variable (s : State) (i : LaneId)

@[simp] theorem State.lane_alsoFire (old : State) : (s.alsoFire i old).lane i = s.lane i := by
  simp [State.alsoFire, State.lane_onLane]

/-- Following the holder reaches a lane beside it whose laps run. -/
theorem State.lane_pacerFollow : s.pacerFollow.lane i
    = if s.holder = some i.other ∧ (s.lane i).lapping = true then (s.lane i).followPacer (s.lane i.other) else s.lane i := by
  unfold State.pacerFollow
  split
  · next h hh =>
    rw [hh, State.lane_onLane]
    cases i <;> cases h <;> simp [LaneId.other]
  · next hh => simp [hh]

/-- The row itself, before the lanes follow. -/
theorem State.lane_powered_self (hp : (s.lane i).present = true) (hfast : (s.lane i).power.fastOn = true) (f : Lane → Lane) :
    (s.powered i f).lane i = f (s.lane i) ∧ (s.powered i f).lane i.other = s.lane i.other
    ∧ (s.powered i f).arbiter = s.arbiter := by
  refine ⟨by simp [State.lane_powered, hp, hfast], by simp [State.lane_powered], ?_⟩
  unfold State.powered State.onLane
  split
  · cases i <;> rfl
  · rfl

variable {s i}

/-- A lane that steers by its own references takes the row's step and nothing else. -/
theorem State.lane_pacerRow_of_steers {f : Bool → Lane → Lane} (hp : (s.lane i).present = true)
    (hfast : (s.lane i).power.fastOn = true) (hst : s.steers i = true)
    (hf : (f true (s.lane i)).lapping = (s.lane i).lapping) : (s.pacerRow i f).lane i = f true (s.lane i) := by
  obtain ⟨hlane, -, harb⟩ := s.lane_powered_self i hp hfast (f (s.steers i))
  rw [hst] at hlane harb
  unfold State.pacerRow
  rw [hst]
  dsimp only
  split
  · next hsome =>
    obtain ⟨h, hh⟩ := Option.isSome_iff_exists.mp hsome
    have hstays : ¬ ((s.powered i (f true)).holder = some i.other ∧ ((s.powered i (f true)).lane i).lapping = true) := by
      rintro ⟨hother, hlaps⟩
      have hgrant := (State.grant_of_holder _ _ hother).symm.trans ((congrArg Arbiter.grant harb).trans (s.grant_of_holder _ hh))
      obtain rfl := Option.some.inj hgrant
      rw [hlane, hf] at hlaps
      simp [State.steers, hh, hlaps] at hst
    rw [State.lane_pacerFollow, if_neg hstays, hlane]
  · rw [State.lane_alsoFire, hlane]

/-- A lane beside the holder follows the holder's Pacer after the row's step (R109). -/
theorem State.lane_pacerRow_of_beside {f : Bool → Lane → Lane} (hp : (s.lane i).present = true)
    (hfast : (s.lane i).power.fastOn = true) (hh : s.holder = some i.other) (hlaps : (s.lane i).lapping = true)
    (hf : (f false (s.lane i)).lapping = (s.lane i).lapping) :
    (s.pacerRow i f).lane i = (f false (s.lane i)).followPacer (s.lane i.other) := by
  have hst : s.steers i = false := by simp [State.steers, hh, hlaps]
  obtain ⟨hlane, hother, harb⟩ := s.lane_powered_self i hp hfast (f false)
  have hholder : (s.powered i (f false)).holder = some i.other := by
    have hactive := hh
    simp only [State.holder, s.grant_of_holder _ hh] at hactive
    simpa only [State.holder, harb, s.grant_of_holder _ hh, hother] using hactive
  simp [State.pacerRow, hst, hh, State.lane_pacerFollow, hholder, hlane, hf, hlaps, hother]

/-- What follows the row's step keeps what following the holder keeps. -/
theorem State.sameRefs_pacerRow (f : Bool → Lane → Lane) (hp : (s.lane i).present = true)
    (hfast : (s.lane i).power.fastOn = true) : (f (s.steers i) (s.lane i)).SameRefs ((s.pacerRow i f).lane i) := by
  rw [← (s.lane_powered_self i hp hfast (f (s.steers i))).1]
  exact (LaneRel.sameRefs.pacerRow_after (fun _ => Lane.sameRefs_followPacer) s i f).2 i

end PacerRow

/-! ### The start of a lane's laps -/

/-- The lap number is the same, and both lanes run their laps or neither does. -/
def Lane.SameLaps (l m : Lane) : Prop := m.lap = l.lap ∧ m.pacer.laps = l.pacer.laps

theorem LaneRel.sameLaps : LaneRel (fun _ => Lane.SameLaps) :=
  ⟨fun h => by rw [h.eq]; exact ⟨rfl, rfl⟩, fun ⟨h1, h2⟩ ⟨h1', h2'⟩ => ⟨h1'.trans h1, h2'.trans h2⟩⟩

/-- The lane's laps run, and it is at lap `n`. -/
def Lane.Started (n : Nat) (l : Lane) : Prop := l.pacer.laps = true ∧ l.lap = n

theorem Lane.started_ite {n : Nat} {c : Prop} [Decidable c] {l m : Lane} (hl : l.Started n) (hm : m.Started n) :
    (if c then l else m).Started n := by
  split <;> assumption

theorem Lane.Started.of_sameLaps {n : Nat} {l m : Lane} (h : l.Started n) (hm : l.SameLaps m) : m.Started n :=
  ⟨hm.2.trans h.1, hm.1.trans h.2⟩

section LapsStart

variable (l : Lane)

theorem Lane.foldl_laps {α : Type} (xs : List α) (f : Lane → α → Lane) (h : ∀ l x, (f l x).pacer.laps = l.pacer.laps) (l : Lane) :
    (xs.foldl f l).pacer.laps = l.pacer.laps := by
  induction xs generalizing l with
  | nil => rfl
  | cons x xs ih => exact (ih _).trans (h l x)

@[simp] theorem Lane.forN_laps (n : Nat) (f : Nat → Lane → Lane) (h : ∀ k l, (f k l).pacer.laps = l.pacer.laps) :
    (l.forN n f).pacer.laps = l.pacer.laps :=
  Lane.foldl_laps _ _ (fun l k => h k l) l

@[simp] theorem Lane.forL_laps {α : Type} (xs : List α) (f : α → Lane → Lane) (h : ∀ x l, (f x l).pacer.laps = l.pacer.laps) :
    (l.forL xs f).pacer.laps = l.pacer.laps :=
  Lane.foldl_laps _ _ (fun l x => h x l) l

@[simp] theorem PacerSt.ite_laps (c : Prop) [Decidable c] (a b : PacerSt) : (if c then a else b).laps = if c then a.laps else b.laps :=
  apply_ite PacerSt.laps c a b

@[simp] theorem Lane.linksUp_laps : l.linksUp.pacer.laps = l.pacer.laps := by
  simp [Lane.linksUp, Lane.linkEnable, Lane.linkTo]

@[simp] theorem Lane.acqLost_laps : l.acqLost.pacer.laps = l.pacer.laps := rfl

@[simp] theorem Lane.showState_laps : l.showState.pacer.laps = l.pacer.laps := rfl

@[simp] theorem Lane.showOutputs_laps (driven pulsed tripped : Nat → Bool) (n : Nat) :
    (l.showOutputs driven pulsed tripped n).pacer.laps = l.pacer.laps := by
  simp [Lane.showOutputs, Lane.outputsFell]

@[simp] theorem Lane.telegramsFrom_laps (ms : List Nat) : (l.telegramsFrom ms).pacer.laps = l.pacer.laps := by
  simp [Lane.telegramsFrom]

@[simp] theorem Lane.pacerTo_laps (st : Int) : (l.pacerTo st).pacer.laps = l.pacer.laps := (l.sameRefs_pacerTo st).laps

end LapsStart

section Started

variable (s : State) (i : LaneId)

theorem State.laneTo_sameLaps (st : LaneState) (ph : Phase) : s.LaneWise (fun _ => Lane.SameLaps) (s.laneTo i st ph) := by
  have hR := LaneRel.sameLaps
  unfold State.laneTo
  extract_lets old up s1 s2
  have h1 : s.LaneWise (fun _ => Lane.SameLaps) s1 := hR.onLane _ _ _ fun l => by
    constructor <;> (dsimp only; split_ifs <;> simp)
  have h2 : s.LaneWise (fun _ => Lane.SameLaps) s2 := by
    simp only [s2]
    split
    · exact h1
    · exact hR.state_trans h1 (hR.state_trans (hR.alsoFire ..) (hR.fireBoth ..))
  clear_value s2
  have h3 : ∀ r, s.LaneWise (fun _ => Lane.SameLaps)
      ((s2.onLane i (fun _ => true) (fun _ _ l => l.lnk (fun x => { x with fwAnswer := none }))).answerBoth r (Reply.ok [])) :=
    fun r => hR.state_trans h2 (hR.state_trans (hR.onLane _ _ _ fun _ => ⟨rfl, rfl⟩) (hR.answerBoth ..))
  split
  · split
    · split
      · exact hR.state_trans (h3 _) (hR.fireBoth ..)
      · exact h3 _
    · exact h2
  · exact h2

theorem State.lane_loadBaton (j : LaneId) : (s.loadBaton i).lane j = s.lane j := by
  unfold State.loadBaton
  dsimp only
  split <;> rfl

theorem State.bootedLane_sameLaps (j : LaneId) : (s.lane j).SameLaps ((s.bootedLane i).lane j) := by
  have hR := LaneRel.sameLaps
  unfold State.bootedLane
  extract_lets l s1 waits
  have h1 : s.LaneWise (fun _ => Lane.SameLaps) s1 := hR.onLane _ _ _ fun _ => ⟨rfl, rfl⟩
  split
  · exact hR.refl j _
  · split
    · split
      · exact h1.2 j
      · exact (hR.state_trans h1 (State.laneTo_sameLaps ..)).2 j
    · split
      · have hload : (if l.power.power = 5 then s1 else s1.loadBaton i).lane j = s1.lane j := by
          split
          · rfl
          · exact s1.lane_loadBaton i j
        have hwant := (hR.onLane (s := if l.power.power = 5 then s1 else s1.loadBaton i) i (fun _ => true)
          (fun s _ l => l.lnk (fun x => { x with want := true, wantLap := s.lapNow })) fun _ => ⟨rfl, rfl⟩).2 j
        rw [hload] at hwant
        exact hR.trans (i := j) (h1.2 j) hwant
      · exact h1.2 j

theorem State.ringShown_sameLaps : s.LaneWise (fun _ => Lane.SameLaps) (s.ringShown i) := by
  unfold State.ringShown
  split
  · exact LaneRel.sameLaps.onLane _ _ _ fun _ => ⟨rfl, rfl⟩
  · exact LaneRel.sameLaps.state_refl s

theorem State.drive_sameLaps : s.LaneWise (fun _ => Lane.SameLaps) s.drive :=
  LaneRel.drive s fun _ l driven pulsed tripped n => ⟨by simp, by simp⟩

/-- What an operation gives of any lane holds of the lane it reaches. -/
theorem State.onLane_self {s : State} {i : LaneId} {p : Lane → Bool} {f : LaneFn} {Q : Lane → Prop} (hp : p (s.lane i) = true)
    (h : ∀ l, Q (f s i l)) : Q ((s.onLane i p f).lane i) := by
  rw [State.lane_onLane, if_pos ⟨rfl, hp⟩]
  exact h _

/-- With no lane beside whose laps run, a locked lane starts at the next epoch of its always-on counter (R107, R108). -/
theorem State.lapsStart_alone (hp : (s.lane i).present = true) (hfast : (s.lane i).power.fastOn = true)
    (hlaps : (s.lane i).pacer.laps = false) (hlock : (s.lane i).pacer.locked = true) (hpark : (s.lane i).link.parked = false)
    (hcart : (s.lane i).link.mismatchCart = false) (hother : (s.lane i.other).lapping = false) :
    ((s.lapsStart i).lane i).Started (200 * ((s.lane i).pacer.aoEpoch + 1)) := by
  unfold State.lapsStart
  extract_lets l o src own st n freq phase cap s1
  rw [if_neg (by simp [l, hp, hfast, hlaps, hlock, hpark, hcart])]
  have hn : n = 200 * ((s.lane i).pacer.aoEpoch + 1) := by simp [n, o, hother, l]
  have hstart : (s1.lane i).Started n := by
    refine State.onLane_self (Q := Lane.Started n) rfl fun l => ?_
    extract_lets host0 l0 l1 l2 l3 l4 l5
    have h1 : l1.lap = n := by
      simp only [l1]
      split
      · rfl
      · simp [l0]
    have h2 : l2.Started n := ⟨rfl, h1⟩
    have h3 : l3.Started n := Lane.started_ite (l := l2.setp Pc.ptpState 1) h2 h2
    have h4 : l4.Started n := by
      simp only [l4]
      rw [if_neg (by simp [o, hother])]
      refine h3.of_sameLaps ⟨?_, ?_⟩
      · exact (Lane.forN_still _ _ (fun k l => by split <;> exact ⟨rfl, rfl, rfl⟩) l3).2.1
      · exact Lane.forN_laps _ _ _ fun k l => by split <;> rfl
    have h5 : Lane.Started n { l5 with safe := { l5.safe with startLap := n }, met := { l5.met with follows := false } } := h4
    exact h5.of_sameLaps ⟨by simp, by simp⟩
  obtain ⟨hlap, hrun⟩ := (s1.alsoFire i s).bootedLane_sameLaps i i
  rw [State.lane_alsoFire] at hlap hrun
  exact hn ▸ hstart.of_sameLaps ⟨hlap, hrun⟩

end Started

/-- Settles O29, row by row: the row's step on its lane, which then stands alone or follows the holder. -/
theorem pacerRows : Obligations.PacerRows := by
  unfold Obligations.PacerRows
  intro s i hp hfast
  have hfreq : Pc.freqOffset ≠ Pc.pacerState := by decide
  have hphase : Pc.phaseError ≠ Pc.pacerState := by decide
  refine ⟨?_, ?_, fun hh hlaps hsearch => ?_, fun hst hok hsrc htrack => ?_, fun hst hok hsrc htrack => ?_,
    fun freq ph hst hacq hok hsrc => ?_, fun hst hhold hdue => ?_, fun hst hret => ?_, fun hlaps hlap => ?_, fun band hlaps => ?_,
    fun hlaps hlock hpark hcart hother => ?_⟩
  · refine does_of_next rfl ?_
    rw [(State.sameRefs_pacerRow Lane.refinQualified hp hfast).refin]
    exact (Lane.sameRefs_steered _ _).refin
  · refine does_of_next rfl ?_
    rw [(State.sameRefs_pacerRow Lane.synciQualified hp hfast).synci]
    exact (Lane.sameRefs_steered _ _).synci
  · refine does_of_next rfl ?_
    rw [State.lane_pacerRow_of_beside hp hfast hh hlaps (Lane.lapping_refinLost_beside _), Lane.pcState_followPacer _ hsearch]
  · refine does_of_next rfl ?_
    have hlost := (s.lane i).refinLost_of_track hok hsrc htrack
    rw [State.lane_pacerRow_of_steers hp hfast hst (by rw [hlost, Lane.lapping_pacerTo]; rfl), hlost]
    exact ⟨Lane.pcState_pacerTo _ _, (Lane.sameRefs_pacerTo _ _).refin, by
      rw [Lane.p_pacerTo _ _ (by decide), Lane.p_inc, if_pos rfl]; rfl⟩
  · refine does_of_next rfl ?_
    have hlost := (s.lane i).synciLost_of_track hok hsrc htrack
    rw [State.lane_pacerRow_of_steers hp hfast hst (by rw [hlost, Lane.lapping_pacerTo]; rfl), hlost]
    exact ⟨Lane.pcState_pacerTo _ _, (Lane.sameRefs_pacerTo _ _).synci, by
      rw [Lane.p_pacerTo _ _ (by decide), Lane.p_inc, if_pos rfl]; rfl⟩
  · refine does_of_next rfl ?_
    have hreached := (s.lane i).acquireComplete_of_acquire freq ph hacq hok hsrc
    rw [State.lane_pacerRow_of_steers hp hfast hst (by rw [hreached, Lane.lapping_pacerTo]; rfl), hreached]
    simp [Lane.p_pacerTo, hfreq, hphase, show Pc.freqOffset ≠ Pc.phaseError by decide]
  · refine does_of_next rfl ?_
    have hexpired := (s.lane i).holdoverExpiry_of_due hhold hdue
    rw [State.lane_pacerRow_of_steers hp hfast hst (by rw [hexpired, Lane.lapping_pacerTo]), hexpired, Lane.pcState_pacerTo]
  · refine does_of_next rfl ?_
    have hreturned := (s.lane i).returnComplete_of_return hret
    rw [State.lane_pacerRow_of_steers hp hfast hst (by rw [hreturned, Lane.lapping_pacerTo]; rfl), hreturned]
    simp [Lane.p_pacerTo, hfreq]
  · refine does_of_next rfl ?_
    rw [State.lane_alsoFire, (s.lane_powered_self i hp hfast _).1, Lane.markerMisaligned_offset _ hlaps hlap]
  · refine does_of_next rfl ?_
    rw [(s.lane_powered_self i hp hfast _).1]
    exact Lane.bandLock_of_stopped _ band hlaps hfast
  · refine does_of_next rfl ?_
    have hstart := s.lapsStart_alone i hp hfast hlaps hlock hpark hcart hother
    exact (hstart.of_sameLaps ((State.ringShown_sameLaps _ i).2 i)).of_sameLaps ((State.drive_sameLaps _).2 i)

/-! ### Team time -/

section TeamTime

variable (l : Lane)

theorem Lane.ptpTo_state (st : Int) : (l.ptpTo st).p Pc.ptpState = st := by
  unfold Lane.ptpTo
  split
  · assumption
  · simp

@[simp] theorem Lane.ptpTo_pacer (st : Int) : (l.ptpTo st).pacer = l.pacer := by
  unfold Lane.ptpTo
  split <;> simp

/-- The first better clock announced becomes the master, and is followed (R110). -/
theorem Lane.ptpMessage_of_announce (port prio clock : Nat) (hon : l.p Pc.ptpState ≠ 0) (hbest : l.pacer.best = none)
    (hbetter : betterMaster prio clock (l.cn Pc.ptpPriority1) l.serial = true) :
    l.ptpMessage port (.announce (l.cn Pc.ptpDomain) prio clock)
      = (l.pac (fun x => { x with best := some (prio, clock, port), bestLap := l.lap })).ptpTo 2 := by
  simp [Lane.ptpMessage, hon, hbest, hbetter]

/-- A peer's delay belongs to its port (R110). -/
theorem Lane.ptpMessage_pdelay (port : Nat) (d : Int) (hon : l.p Pc.ptpState ≠ 0) :
    UMap.get (fun _ => 0) (l.ptpMessage port (.pdelay d)).pacer.peerDelays port = d := by
  simp [Lane.ptpMessage, hon]

/-- The offset that a Sync of the master shows (R110). -/
theorem Lane.ptpMessage_of_sync (port prio clock : Nat) (timeNs : Int) (hon : l.p Pc.ptpState ≠ 0)
    (hbest : l.pacer.best = some (prio, clock, port)) (hfollow : l.ptpFollows = true) :
    (l.ptpMessage port (.sync (l.cn Pc.ptpDomain) clock timeNs)).p Pc.ptpOffset
      = l.pacer.teamTime - (timeNs + UMap.get (fun _ => 0) l.pacer.peerDelays port) := by
  have hcorrect : ∀ (m : Lane) (t : Int), (m.correctTime t).p Pc.ptpOffset = m.p Pc.ptpOffset := by
    intro m t
    unfold Lane.correctTime
    dsimp only
    split <;> simp
  simp [Lane.ptpMessage, hon, hbest, hfollow, hcorrect]

theorem Lane.ptpOwn_announceSeq : l.ptpOwn.pacer.announceSeq = l.pacer.announceSeq := by
  unfold Lane.ptpOwn
  split
  · split
    · rfl
    · simp
  · simp

end TeamTime

theorem State.lane_teamed_of_active (s : State) (i : LaneId) (f : Lane → Lane) (hteam : s.chassis.variant.team = true)
    (ha : (s.lane i).active = true) : (s.teamed f).lane i = f (s.lane i) := by
  rw [State.teamed, if_pos hteam, State.lane_both, if_pos ha]

/-- Settles O30, message by message. -/
theorem teamTime : Obligations.TeamTime := by
  unfold Obligations.TeamTime
  intro s i ha
  refine ⟨fun hteam hon => ⟨fun port prio clock hbest hbetter => ?_, fun port d => ?_, fun port prio clock timeNs hbest hfollow => ?_,
    ?_, ?_, ?_⟩, fun v hown => ?_, fun v hfollow => ?_⟩
  · refine does_of_next rfl ?_
    rw [s.lane_teamed_of_active i _ hteam ha, (s.lane i).ptpMessage_of_announce port prio clock hon hbest hbetter, Lane.ptpTo_pacer]
    exact ⟨rfl, Lane.ptpTo_state _ 2⟩
  · refine does_of_next rfl ?_
    rw [s.lane_teamed_of_active i _ hteam ha, Lane.ptpMessage_pdelay _ port d hon]
  · refine does_of_next rfl ?_
    rw [s.lane_teamed_of_active i _ hteam ha, Lane.ptpMessage_of_sync _ port prio clock timeNs hon hbest hfollow]
  · refine does_of_next rfl ?_
    rw [s.lane_teamed_of_active i _ hteam ha]
    simp [Lane.ptpSend, hon, Lane.ptpOwn_announceSeq]
  · refine does_of_next rfl ?_
    rw [s.lane_teamed_of_active i _ hteam ha]
    simp [Lane.ptpSend, hon]
  · refine does_of_next rfl ?_
    rw [s.lane_teamed_of_active i _ hteam ha]
    simp [Lane.ptpSend, hon]
  · refine does_of_next rfl ?_
    rw [State.lane_both, if_pos ha]
    simp [Lane.todSet, hown]
  · refine does_of_next rfl ?_
    rw [State.lane_both, if_pos ha]
    simp [Lane.todSet, hfollow]

end Sys2Proof.Machine
end

section
/-!
05_stage_link.md: the frame of metering and pools.
-/

namespace Sys2Proof.Machine

open Sys2Proof

/-! ### The frame of metering and pools -/

/-- Lane A in a tariff 0x10000, with the last sample of a block of AC point 0 taken and the 159 before it closed. -/
def State.tariffBeyond : State :=
  { State.reset with a := { Lane.reset .A with
      power := { aoOn := true }
      cfg := [(Ac.pointEnable 0, 1)]
      pts := [(Cal.tariffNow, 0x10000)]
      met := { ac := [(0, { n := 1, part := 159, buf := [{ v := [10 ^ 12], i := [10 ^ 12], q := [] }] })] } } }

/-- Refutes O56: nothing bounds the tariff in force, whose register the energy of a block is credited to. In tariff 0x10000, which no
calendar gives, the register of AC point 0 is addressed where domain 7 begins, and `FIXED_BLOCK_END` advances a point there. -/
theorem not_meterAndPoolFrame : ¬ Obligations.MeterAndPoolFrame := by
  unfold Obligations.MeterAndPoolFrame
  rintro ⟨hmeter, -⟩
  obtain ⟨-, -, hpoints⟩ := (hmeter State.tariffBeyond _ (.fixedBlockEnd .A 0) .A .A 0 0 0 0 0 rfl).1 (by simp)
  have hkept := hpoints (regAddr 0 0 0x10000) (by decide)
  exact absurd hkept (by decide +kernel)

end Sys2Proof.Machine
end

section
/-!
05_stage_link.md: link states, and the blocks that a hub sends.
-/

namespace Sys2Proof.Machine

open Sys2Proof

/-! ### Link states -/

/-- Points of one hub that are not the same. -/
@[simp] theorem Hub.point_ne (h : Nat) :
    Hub.linkState h ≠ Hub.linkFault h ∧ Hub.linkState h ≠ Hub.retrains h ∧ Hub.linkState h ≠ Hub.delayPs h
    ∧ Hub.linkState h ≠ Hub.codeErrors h ∧ Hub.linkFault h ≠ Hub.linkState h ∧ Hub.linkFault h ≠ Hub.retrains h
    ∧ Hub.retrains h ≠ Hub.linkState h ∧ Hub.delayPs h ≠ Hub.linkState h ∧ Hub.delayPs h ≠ Hub.linkFault h
    ∧ Hub.delayPs h ≠ Hub.retrains h ∧ Hub.skewPs h ≠ Hub.linkState h ∧ Hub.skewPs h ≠ Hub.linkFault h
    ∧ Hub.skewPs h ≠ Hub.retrains h ∧ Hub.skewPs h ≠ Hub.codeErrors h ∧ Hub.skewPs h ≠ Hub.crcErrors h ∧ Hub.crcErrors h ≠ Hub.codeErrors h
    ∧ Hub.lockout h ≠ Hub.codeErrors h ∧ Hub.hubHeldLaps h ≠ Hub.codeErrors h ∧ Hub.hubHeldLaps h ≠ Hub.lockout h
    ∧ Hub.lockout h ≠ Hub.hubHeldLaps h ∧ Hub.lockout h ≠ Hub.dualClaim h ∧ Hub.blind h ≠ Hub.blindEvents h
    ∧ Hub.blindEvents h ≠ Hub.blind h ∧ Hub.iFs h ≠ Hub.vFs h ∧ Hub.iFs h ≠ Hub.phasesFitted h ∧ Hub.vFs h ≠ Hub.iFs h
    ∧ Hub.vFs h ≠ Hub.phasesFitted h := by
  simp [Hub.linkState, Hub.linkFault, Hub.retrains, Hub.delayPs, Hub.codeErrors, Hub.skewPs, Hub.crcErrors, Hub.lockout,
    Hub.hubHeldLaps, Hub.dualClaim, Hub.blind, Hub.blindEvents, Hub.iFs, Hub.vFs, Hub.phasesFitted]

section LinkStates

variable (l : Lane) (h : Nat)

/-- A link that enters another state shows it, with the lap of entry, and counts an exit from `READY` (R129). -/
theorem Lane.p_linkTo {st : Int} (hst : l.p (Hub.linkState h) ≠ st) (a : Nat) : (l.linkTo h st).p a
    = if a = Hub.linkState h then st
      else if a = Hub.retrains h ∧ l.p (Hub.linkState h) = lkReady then l.p a + 1 else l.p a := by
  unfold Lane.linkTo
  extract_lets old l1 x ui
  rw [if_neg hst]
  simp only [Lane.fire_read, Lane.setHub_read, Lane.p_setp]
  congr 1
  by_cases hready : old = lkReady
  · simp only [l1, if_pos hready, Lane.p_inc]
    by_cases ha : a = Hub.retrains h <;> simp [ha, show l.p (Hub.linkState h) = lkReady from hready]
  · simp only [l1, if_neg hready, show ¬ l.p (Hub.linkState h) = lkReady from hready, and_false, if_false]

/-- It notes the lap of entry, and the delay is unknown from `OFF`, `DARK` and `RANGE` on (R122). -/
theorem Lane.hub_linkTo_self {st : Int} (hst : l.p (Hub.linkState h) ≠ st) :
    ((l.linkTo h st).hub h).enteredLap = l.lap
    ∧ ((l.linkTo h st).hub h).delayUi = if st = lkOff ∨ st = lkDark ∨ st = lkRange then 0xFFFF else (l.hub h).delayUi := by
  unfold Lane.linkTo
  extract_lets old l1 x ui
  rw [if_neg hst]
  have hx : x = l.hub h := by
    simp only [x, l1]
    split <;> simp
  simp [ui, hx]

theorem Lane.p_linkFault (cause : Int) (hst : l.p (Hub.linkState h) ≠ lkFault) :
    (l.linkFault h cause).p (Hub.linkState h) = lkFault ∧ (l.linkFault h cause).p (Hub.linkFault h) = cause := by
  have hto := (l.setp (Hub.linkFault h) cause).p_linkTo h (st := lkFault) (by simpa using hst)
  simp [Lane.linkFault, hto]

theorem Lane.linkStep_of_source {src dst : Int} (hsrc : l.p (Hub.linkState h) = src) : l.linkStep h src dst = l.linkTo h dst := by
  simp [Lane.linkStep, hsrc]

/-- A time within the limit gives the delay, and the link goes on to `CONFIG` (R130). -/
theorem Lane.rangeDone_of_near {d n : Nat} (beside : Bool) (hst : l.p (Hub.linkState h) = lkRange)
    (hn : n = if beside then 1 else 2) (hd : d ≤ 650000 * n) :
    (l.rangeDone h d beside).p (Hub.linkState h) = lkConfig ∧ (l.rangeDone h d beside).p (Hub.delayPs h) = (d / n : Nat)
    ∧ ((l.rangeDone h d beside).hub h).delayUi = (d * 16 + 3125 * n) / (6250 * n) := by
  obtain ⟨x, hx, hnear⟩ : ∃ x : HubSt, x.delayUi = (d * 16 + 3125 * n) / (6250 * n)
      ∧ l.rangeDone h d beside = ((l.setp (Hub.delayPs h) (d / n : Nat)).setHub h x).linkTo h lkConfig := by
    refine ⟨{ l.hub h with delayUi := (d * 16 + 3125 * n) / (6250 * n) }, rfl, ?_⟩
    simp [Lane.rangeDone, hst, ← hn, Nat.not_lt.mpr hd]
  have hne : ((l.setp (Hub.delayPs h) (d / n : Nat)).setHub h x).p (Hub.linkState h) ≠ lkConfig := by
    simp [hst]; decide
  have hknown : ¬ (lkConfig = lkOff ∨ lkConfig = lkDark ∨ lkConfig = lkRange) := by decide
  rw [hnear, (Lane.hub_linkTo_self _ h hne).2, if_neg hknown]
  simp only [Lane.p_linkTo _ h hne]
  simp [hx]

/-- A time beyond the limit is the fault `too_long` (R130). -/
theorem Lane.rangeDone_of_far {d n : Nat} (beside : Bool) (hst : l.p (Hub.linkState h) = lkRange)
    (hn : n = if beside then 1 else 2) (hd : 650000 * n < d) :
    (l.rangeDone h d beside).p (Hub.linkState h) = lkFault ∧ (l.rangeDone h d beside).p (Hub.linkFault h) = 1 := by
  have hfar : l.rangeDone h d beside = (l.setp (Hub.delayPs h) (d / n : Nat)).linkFault h 1 := by
    simp [Lane.rangeDone, hst, ← hn, hd]
  rw [hfar]
  exact Lane.p_linkFault _ h 1 (by simp [hst]; decide)

theorem Lane.trainingTimeout_of_late {st : Int} {limit : Nat}
    (hlimit : (st, limit) ∈ [(lkAlign, 20), (lkRange, 40), (lkConfig, 400)]) (hst : l.p (Hub.linkState h) = st)
    (hlate : (l.hub h).enteredLap + limit < l.lap) : l.trainingTimeout h = l.linkFault h 3 := by
  have hwaited : limit < l.lap - (l.hub h).enteredLap := by omega
  simp only [List.mem_cons, Prod.mk.injEq, List.not_mem_nil, or_false] at hlimit
  obtain ⟨rfl, rfl⟩ | ⟨rfl, rfl⟩ | ⟨rfl, rfl⟩ := hlimit
  · simp [Lane.trainingTimeout, hst, hwaited]
  · simp [Lane.trainingTimeout, hst, hwaited, show lkRange ≠ lkAlign by decide]
  · simp [Lane.trainingTimeout, hst, hwaited, show lkConfig ≠ lkAlign by decide, show lkConfig ≠ lkRange by decide]

theorem Lane.faultRetry_of_due (hst : l.p (Hub.linkState h) = lkFault) (hdue : (l.hub h).enteredLap + 20000 ≤ l.lap) :
    (l.faultRetry h).p (Hub.linkState h) = lkDark ∧ (l.faultRetry h).p (Hub.linkFault h) = 0 := by
  have hretry : l.faultRetry h = (l.setp (Hub.linkFault h) 0).linkTo h lkDark := by
    rw [Lane.faultRetry, if_pos ⟨hst, by omega⟩]
  have hto := (l.setp (Hub.linkFault h) 0).p_linkTo h (st := lkDark) (by simp [hst]; decide)
  simp [hretry, hto]

end LinkStates

/-! ### What the row of a served hub does to its lane -/

section Served

variable {s : State} {i : LaneId} {h : Nat} (hs : HubServed i h s) (f : Lane → Lane)

include hs

theorem State.lane_linkRow : (s.linkRow i h f).lane i = f (s.lane i) := by
  rw [State.linkRow, State.lane_alsoFire, s.lane_atHub i i h f hs, if_pos rfl]

theorem State.lane_factRow : (s.factRow i h f).lane i = f (s.lane i) := by
  have hother : i ≠ i.other := i.ne_other
  simp [State.factRow, State.alsoTell, State.lane_onLane, s.lane_atHub i i h f hs]

theorem State.lane_atHub_self : (s.atHub i h f).lane i = f (s.lane i) := by
  rw [s.lane_atHub i i h f hs, if_pos rfl]

/-- A step of the link, out of the state that it starts from (R129). -/
theorem State.linkRow_linkStep {src dst : Int} (hsrc : linkOf s i h = src) (hne : src ≠ dst) :
    linkOf (s.linkRow i h (fun l => l.linkStep h src dst)) i h = dst
    ∧ (((s.linkRow i h (fun l => l.linkStep h src dst)).lane i).hub h).enteredLap = (s.lane i).lap
    ∧ ((s.linkRow i h (fun l => l.linkStep h src dst)).lane i).p (Hub.retrains h)
      = if src = lkReady then (s.lane i).p (Hub.retrains h) + 1 else (s.lane i).p (Hub.retrains h) := by
  subst hsrc
  rw [linkOf, State.lane_linkRow hs, Lane.linkStep_of_source _ h rfl]
  simp [Lane.p_linkTo _ h hne, Lane.hub_linkTo_self _ h hne]

end Served

/-- Settles O1, row by row: each is a step of the link in its lane. -/
theorem linkTraining : Obligations.LinkTraining := by
  unfold Obligations.LinkTraining
  refine ⟨fun s i h hs => ⟨fun hst => ?_, fun hst => ?_, fun d n hst hn => ⟨fun hd => ?_, fun hd => ?_⟩, fun hst => ?_⟩,
    fun s i h hs => ⟨fun hst => ?_, fun hst => ?_, fun st limit hlimit hst hlate => ?_, fun hst hdue => ?_⟩⟩
  · obtain ⟨hto, hlap, -⟩ := State.linkRow_linkStep hs (dst := lkAlign) hst (by decide)
    exact does_of_next rfl ⟨hto, hlap⟩
  · obtain ⟨hto, hlap, -⟩ := State.linkRow_linkStep hs (dst := lkRange) hst (by decide)
    exact does_of_next rfl ⟨hto, hlap⟩
  · refine does_of_next rfl ?_
    rw [linkOf, State.lane_linkRow hs]
    exact Lane.rangeDone_of_near _ h _ hst (by simpa using hn) hd
  · refine does_of_next rfl ?_
    rw [linkOf, State.lane_linkRow hs]
    exact Lane.rangeDone_of_far _ h _ hst (by simpa using hn) hd
  · obtain ⟨hto, -, hcount⟩ := State.linkRow_linkStep hs (dst := lkReady) hst (by decide)
    exact does_of_next rfl ⟨hto, hcount.trans (if_neg (by decide))⟩
  · obtain ⟨hto, -, hcount⟩ := State.linkRow_linkStep hs (dst := lkAlign) hst (by decide)
    exact does_of_next rfl ⟨hto, hcount.trans (if_pos rfl)⟩
  · obtain ⟨hto, -, hcount⟩ := State.linkRow_linkStep hs (dst := lkAlign) hst (by decide)
    exact does_of_next rfl ⟨hto, hcount.trans (if_pos rfl)⟩
  · refine does_of_next rfl ?_
    rw [linkOf, State.lane_linkRow hs, Lane.trainingTimeout_of_late _ h hlimit hst hlate]
    refine Lane.p_linkFault _ h 3 ?_
    rw [show (s.lane i).p (Hub.linkState h) = st from hst]
    simp only [List.mem_cons, Prod.mk.injEq, List.not_mem_nil, or_false] at hlimit
    obtain ⟨rfl, -⟩ | ⟨rfl, -⟩ | ⟨rfl, -⟩ := hlimit <;> decide
  · refine does_of_next rfl ?_
    rw [linkOf, State.lane_linkRow hs]
    exact Lane.faultRetry_of_due _ h hst hdue

/-! ### What the phases behind a hub hold -/

/-- The records of phases and packs, the points of the phases of `P`, and the points of packs (R195, R196). -/
def LaneUnit.plant (P : Nat → Bool) : LaneUnit Lane where
  rest l := { l with pts := [], stat := [], host := {}, phases := [], packs := [] }
  own a := decide (0x20000 ≤ a ∧ a < 0x30000) || (decide (0x10000 ≤ a ∧ a < 0x20000) && P ((a - 0x10000) / 128))
  rest_besideEvents _ _ := rfl

/-- The same for all phases. -/
abbrev LaneUnit.allPhases : LaneUnit Lane := LaneUnit.plant (fun _ => true)

section Plant

variable {P : Nat → Bool} {p : Nat} (hp : p < 512) (hP : P p = true) (l : Lane)

include hp hP in
theorem LaneUnit.plant_own_of_phase {d : Nat} (hd : d < 128) :
    (LaneUnit.plant P).own (0x10000 + d + 128 * p) = true := by
  have hunit : (0x10000 + d + 128 * p - 0x10000) / 128 = p := by omega
  simp only [LaneUnit.plant, hunit, hP, Bool.and_true, Bool.or_eq_true, decide_eq_true_eq]
  omega

include hp hP in
theorem LaneUnit.plant_own_phase :
    (LaneUnit.plant P).own (Ph.memberState p) = true ∧ (LaneUnit.plant P).own (Ph.weight p) = true
    ∧ (LaneUnit.plant P).own (Ph.removalCause p) = true ∧ (LaneUnit.plant P).own (Ph.removals p) = true
    ∧ (LaneUnit.plant P).own (Ph.armState p) = true ∧ (LaneUnit.plant P).own (Ph.trips p) = true
    ∧ (LaneUnit.plant P).own (Ph.falseStarts p) = true ∧ (LaneUnit.plant P).own (Ph.matrixState p) = true
    ∧ (LaneUnit.plant P).own (Ph.iMeas p) = true ∧ (LaneUnit.plant P).own (Ph.vOut p) = true
    ∧ (LaneUnit.plant P).own (Ph.vDc p) = true := by
  have hown : ∀ d < 128, (LaneUnit.plant P).own (0x10000 + d + 128 * p) = true := fun d => LaneUnit.plant_own_of_phase hp hP
  exact ⟨hown 0x14 (by decide), hown 0x15 (by decide), hown 0x19 (by decide), hown 0x1A (by decide), hown 0x44 (by decide),
    hown 0x45 (by decide), hown 0x46 (by decide), hown 0x49 (by decide), hown 0 (by decide), hown 1 (by decide), hown 2 (by decide)⟩

theorem LaneUnit.plant_own_pack {k : Nat} (hk : k < 64) :
    (LaneUnit.plant P).own (Pk.removals k) = true ∧ (LaneUnit.plant P).own (Pk.capacityA k) = true
    ∧ (LaneUnit.plant P).own (Pk.overloadA k) = true := by
  simp only [LaneUnit.plant, Pk.removals, Pk.capacityA, Pk.overloadA, Bool.or_eq_true, decide_eq_true_eq]
  omega

theorem packOf_lt {m : UMap Int} {p k : Nat} (h : packOf m p = some k) : k < 64 := by
  unfold packOf at h
  dsimp only at h
  split at h
  · next hk =>
    obtain rfl := Option.some.inj h
    omega
  · cases h

@[simp] theorem Lane.setPhase_outside_plant (q : Nat) (x : PhaseSt) :
    (LaneUnit.plant P).outside (l.setPhase q x) = (LaneUnit.plant P).outside l := rfl

@[simp] theorem Lane.disarm_outside_plant (q : Nat) : (LaneUnit.plant P).outside (l.disarm q) = (LaneUnit.plant P).outside l := by
  unfold Lane.disarm
  dsimp only
  split <;> simp

@[simp] theorem Lane.cutArm_outside_plant (q : Nat) : (LaneUnit.plant P).outside (l.cutArm q) = (LaneUnit.plant P).outside l := by
  unfold Lane.cutArm
  dsimp only
  split <;> simp

@[simp] theorem Lane.countTrip_outside_plant (q : Nat) : (LaneUnit.plant P).outside (l.countTrip q) = (LaneUnit.plant P).outside l := by
  simp [Lane.countTrip]

theorem Lane.recapacity_outside_plant {k : Nat} (hk : k < 64) :
    (LaneUnit.plant P).outside (l.recapacity k) = (LaneUnit.plant P).outside l := by
  simp [Lane.recapacity, LaneUnit.plant_own_pack hk]

include hp hP

theorem Lane.removePhase_inside_plant (cause : Int) : (LaneUnit.plant P).Inside (Lane.removePhase cause p) := by
  intro l
  have hown := LaneUnit.plant_own_phase hp hP
  unfold Lane.removePhase
  extract_lets y l1 x l2
  have h2 : (LaneUnit.plant P).outside l2 = (LaneUnit.plant P).outside l := by simp [l2, l1, hown]
  split
  · split <;> simp [hown]
  · split
    · exact h2
    · next k hk =>
      have hk64 := packOf_lt hk
      simp [Lane.recapacity_outside_plant _ hk64, LaneUnit.plant_own_pack hk64, h2]

theorem Lane.falseStart_inside_plant (cause : Int) : (LaneUnit.plant P).Inside (Lane.falseStart p cause) := by
  intro l
  have hown := LaneUnit.plant_own_phase hp hP
  unfold Lane.falseStart
  dsimp only
  split <;> simp [hown]

end Plant

theorem LaneUnit.outside_ite {κ : Type} {u : LaneUnit κ} {c : Prop} [Decidable c] {l m n : Lane} (hm : u.outside m = u.outside l)
    (hn : u.outside n = u.outside l) : u.outside (if c then m else n) = u.outside l := by
  split <;> assumption

/-- Steps that each stay inside the unit stay inside it together. -/
theorem LaneUnit.outside_forL {κ α : Type} (u : LaneUnit κ) (xs : List α) {f : α → Lane → Lane} (hf : ∀ x ∈ xs, u.Inside (f x))
    (l : Lane) : u.outside (l.forL xs f) = u.outside l :=
  List.foldlRecOn (motive := fun m => u.outside m = u.outside l) xs _ rfl fun m hm x hx => (hf x hx m).trans hm

theorem LaneUnit.outside_forN {κ : Type} (u : LaneUnit κ) (n : Nat) {f : Nat → Lane → Lane} (hf : ∀ i < n, u.Inside (f i))
    (l : Lane) : u.outside (l.forN n f) = u.outside l :=
  u.outside_forL (List.range n) (fun i hi => hf i (List.mem_range.mp hi)) l

/-! ### What a hub shows of itself -/

/-- The point is one of hub `h` (R150). -/
def IsHubPoint (h a : Nat) : Prop := 0x91000 + 64 * h ≤ a ∧ a < 0x91040 + 64 * h

@[simp] theorem isHubPoint_own (h : Nat) :
    IsHubPoint h (Hub.linkState h) ∧ IsHubPoint h (Hub.skewPs h) ∧ IsHubPoint h (Hub.codeErrors h) ∧ IsHubPoint h (Hub.lockout h)
    ∧ IsHubPoint h (Hub.hubHeldLaps h) ∧ IsHubPoint h (Hub.cfgAck h) ∧ IsHubPoint h (Hub.blind h) ∧ IsHubPoint h (Hub.blindEvents h)
    ∧ IsHubPoint h (Hub.iFs h) ∧ IsHubPoint h (Hub.vFs h) ∧ IsHubPoint h (Hub.phasesFitted h) := by
  unfold IsHubPoint Hub.linkState Hub.skewPs Hub.codeErrors Hub.lockout Hub.hubHeldLaps Hub.cfgAck Hub.blind Hub.blindEvents Hub.iFs
    Hub.vFs Hub.phasesFitted
  omega

/-- Hub `h`'s record and its points but those of `as` are as before. -/
structure Lane.KeepsHub (h : Nat) (as : List Nat) (l m : Lane) : Prop where
  hub : m.hub h = l.hub h
  points : ∀ a, IsHubPoint h a → a ∉ as → m.p a = l.p a

section KeepsHub

variable {h : Nat} {as : List Nat}

theorem Lane.KeepsHub.refl (l : Lane) : l.KeepsHub h as l := ⟨rfl, fun _ _ _ => rfl⟩

theorem Lane.KeepsHub.trans {l m n : Lane} (hlm : l.KeepsHub h as m) (hmn : m.KeepsHub h as n) : l.KeepsHub h as n :=
  ⟨hmn.hub.trans hlm.hub, fun a hown ha => (hmn.points a hown ha).trans (hlm.points a hown ha)⟩

theorem Lane.keepsHub_of_plant {P : Nat → Bool} {l m : Lane} (hm : (LaneUnit.plant P).outside m = (LaneUnit.plant P).outside l) :
    l.KeepsHub h as m := by
  have hrest := LaneUnit.rest_eq _ hm
  have hhubs : m.hubs = l.hubs := (congrArg Lane.hubs hrest :)
  refine ⟨by simp only [Lane.hub, hhubs], fun a ⟨hlow, _⟩ _ => ?_⟩
  refine LaneUnit.keepsPoints _ hm (P := fun a => a < 0x30000) (fun b hb => ?_) a (by omega)
  simp only [LaneUnit.plant, Bool.or_eq_true, Bool.and_eq_true, decide_eq_true_eq] at hb
  omega

theorem Lane.keepsHub_fireIf (l : Lane) (b : Bool) (n unit : Nat) (detail : List Int) : l.KeepsHub h as (l.fireIf b n unit detail) :=
  ⟨by simp, fun _ _ _ => by simp⟩

theorem Lane.keepsHub_fire (l : Lane) (n unit : Nat) (detail : List Int) : l.KeepsHub h as (l.fire n unit detail) :=
  ⟨by simp, fun _ _ _ => by simp⟩

theorem Lane.keepsHub_setp (l : Lane) {a : Nat} (v : Int) (ha : a ∈ as ∨ ¬ IsHubPoint h a) :
    l.KeepsHub h as (l.setp a v) := by
  refine ⟨by simp, fun b hown hb => ?_⟩
  rw [Lane.p_setp, if_neg]
  rintro rfl
  exact ha.elim hb fun hout => hout hown

theorem Lane.keepsHub_inc (l : Lane) {a : Nat} (ha : a ∈ as ∨ ¬ IsHubPoint h a) :
    l.KeepsHub h as (l.inc a) := l.keepsHub_setp _ ha

theorem Lane.keepsHub_ite {c : Prop} [Decidable c] {l m n : Lane} (hm : l.KeepsHub h as m) (hn : l.KeepsHub h as n) :
    l.KeepsHub h as (if c then m else n) := by
  split <;> assumption

theorem Lane.keepsHub_takeLockout (l : Lane) (ha : Hub.lockout h ∈ as) : l.KeepsHub h as (l.takeLockout h) := by
  unfold Lane.takeLockout
  exact Lane.keepsHub_ite ((l.keepsHub_setp _ (.inl ha)).trans (Lane.keepsHub_fire ..)) (.refl l)

/-- A phase of hub `h` is one of the 512. -/
theorem hubPhase_lt {h i : Nat} (hh : h < 32) (hi : i < 16) : 16 * h + i < 512 := by omega

theorem Lane.keepsHub_lockPhases (l : Lane) (hh : h < 32) : l.KeepsHub h as (l.forN 16 (Lane.lockPhase h)) := by
  refine Lane.keepsHub_of_plant (LaneUnit.outside_forN LaneUnit.allPhases 16 (fun i hi l => ?_) l)
  have hp := hubPhase_lt hh hi
  obtain ⟨-, -, -, -, harm, -⟩ := LaneUnit.plant_own_phase hp (P := fun _ => true) rfl
  unfold Lane.lockPhase
  dsimp only
  rw [LaneUnit.outside_setp _ _ _ harm]
  exact LaneUnit.outside_ite ((Lane.cutArm_outside_plant ..).trans (Lane.removePhase_inside_plant hp rfl 3 l)) rfl

theorem Lane.keepsHub_appliedZero (l : Lane) (held : Bool) : l.KeepsHub h as (l.appliedZero held h) := by
  unfold Lane.appliedZero
  refine Lane.keepsHub_ite (.refl l) (Lane.keepsHub_of_plant (P := fun _ => true) (LaneUnit.outside_forN _ 16 (fun i _ l => ?_) l))
  dsimp only
  split <;> simp

theorem Lane.keepsHub_statusPhases (l : Lane) (hh : h < 32) (b : StatusBlock) (old : HubSt) :
    l.KeepsHub h as (l.forN 16 (Lane.statusPhase h b old)) := by
  refine Lane.keepsHub_of_plant (LaneUnit.outside_forN LaneUnit.allPhases 16 (fun i hi l => ?_) l)
  have hp := hubPhase_lt hh hi
  have hown := LaneUnit.plant_own_phase hp (P := fun _ => true) rfl
  unfold Lane.statusPhase
  extract_lets p newTrip gates newRej fault newOver l1 l2 l3 cause0 cause l4 clear l5
  have h1 : LaneUnit.allPhases.outside l1 = LaneUnit.allPhases.outside l :=
    LaneUnit.outside_ite (by simp [p, LaneUnit.allPhases, hown]) rfl
  have h2 : LaneUnit.allPhases.outside l2 = LaneUnit.allPhases.outside l :=
    LaneUnit.outside_ite ((Lane.falseStart_inside_plant hp rfl 2 l1).trans h1) h1
  have h3 : LaneUnit.allPhases.outside l3 = LaneUnit.allPhases.outside l :=
    LaneUnit.outside_ite ((Lane.falseStart_inside_plant hp rfl 3 l2).trans h2) h2
  have h4 : LaneUnit.allPhases.outside l4 = LaneUnit.allPhases.outside l :=
    LaneUnit.outside_ite h3 ((Lane.removePhase_inside_plant hp rfl cause l3).trans h3)
  have h5 : LaneUnit.allPhases.outside l5 = LaneUnit.allPhases.outside l :=
    LaneUnit.outside_ite ((Lane.cutArm_outside_plant ..).trans h4) h4
  rw [← h5]
  simp [p, LaneUnit.allPhases, hown]

end KeepsHub

/-! ### The uplink header (R127, R131, R132, R137) -/

section Header

variable (l : Lane) (h : Nat)

/-- A comparison of arrival writes no points but the delay and the skew. -/
theorem Lane.p_arrival (u : UplinkHeader) {a : Nat} (hdelay : a ≠ Hub.delayPs h) (hskew : a ≠ Hub.skewPs h) :
    (l.arrival h u).p a = l.p a := by
  unfold Lane.arrival
  dsimp only
  split_ifs <;> simp [hdelay, hskew]

/-- An arrival whose marker is found shows its skew and moves the delay (R131). -/
theorem Lane.arrival_of_aligned {u : UplinkHeader} (hst : l.p (Hub.linkState h) = lkReady) (hal : u.alignOk = true) :
    (l.arrival h u).p (Hub.skewPs h) = u.arrivalPs - (delayOf (l.hub h).delayUi : Nat)
    ∧ ((l.arrival h u).hub h).delayUi = stepDelay (l.hub h).delayUi (u.arrivalPs - (delayOf (l.hub h).delayUi : Nat)) := by
  unfold Lane.arrival
  rw [if_neg (by simp [hst, hal])]
  dsimp only
  split_ifs <;> simp

theorem Lane.arrival_of_unaligned {u : UplinkHeader} (hal : u.alignOk = false) : l.arrival h u = l := by
  unfold Lane.arrival
  rw [if_pos (.inr hal)]

theorem Lane.p_takeLockout (hheader : (l.hub h).headerOk = true) (hstatus : (l.hub h).statusOk = true) :
    (l.takeLockout h).p (Hub.lockout h) = b01 (l.hub h).lockHdr := by
  unfold Lane.takeLockout
  extract_lets x v
  by_cases hv : l.p (Hub.lockout h) = v
  · simp [hv, v, x]
  · simp [hv, v, x, hheader, hstatus]

/-- The marks that a header whose CRC holds leaves on the hub's record (R137). -/
def Lane.headed (h : Nat) (u : UplinkHeader) (l : Lane) : Lane :=
  l.setHub h { l.hub h with
    headerOk := true, heldLap := decide (bitsAt u.obeyed 1 0 = 0), crcBad := false, lockHdr := bitAt u.hubFlags 0 }

@[simp] theorem Lane.headed_hub (u : UplinkHeader) :
    ((l.headed h u).hub h).headerOk = true ∧ ((l.headed h u).hub h).statusOk = (l.hub h).statusOk
    ∧ ((l.headed h u).hub h).delayUi = (l.hub h).delayUi ∧ ((l.headed h u).hub h).lockHdr = bitAt u.hubFlags 0
    ∧ ∀ a, (l.headed h u).p a = l.p a := by
  simp [Lane.headed]

/-- What a header whose CRC holds does to the phases, once it is marked: the lockout that it reports, and the laps of `arm` 0. -/
def Lane.headerPhases (h : Nat) (held : Bool) (l : Lane) : Lane :=
  (if (l.hub h).statusOk then (l.takeLockout h).forN 16 (Lane.lockPhase h) else l).appliedZero held h

variable {l h}

theorem Lane.keepsHub_headerPhases (hh : h < 32) (held : Bool) {as : List Nat} (ha : Hub.lockout h ∈ as) :
    l.KeepsHub h as (l.headerPhases h held) := by
  unfold Lane.headerPhases
  refine (Lane.keepsHub_ite ?_ (.refl l)).trans (Lane.keepsHub_appliedZero _ held)
  exact (l.keepsHub_takeLockout ha).trans (Lane.keepsHub_lockPhases _ hh)

theorem Lane.headerPhases_lockout (hh : h < 32) (held : Bool) (hheader : (l.hub h).headerOk = true) :
    (l.headerPhases h held).p (Hub.lockout h) = if (l.hub h).statusOk = true then b01 (l.hub h).lockHdr else l.p (Hub.lockout h) := by
  unfold Lane.headerPhases
  rw [(Lane.keepsHub_appliedZero (as := []) _ held).points _ (by simp) (by simp)]
  split
  · next hstatus =>
    rw [(Lane.keepsHub_lockPhases (as := []) _ hh).points _ (by simp) (by simp), l.p_takeLockout h hheader hstatus]
  · rfl

/-- What every header does: its invalid code groups count, and its arrival is compared with the delay (R131). -/
def Lane.arrived (h : Nat) (u : UplinkHeader) (l : Lane) : Lane := (l.addp (Hub.codeErrors h) u.codeErrors).arrival h u

theorem Lane.arrived_kept (u : UplinkHeader) : ((l.arrived h u).hub h).statusOk = (l.hub h).statusOk
    ∧ (l.arrived h u).p (Hub.linkState h) = l.p (Hub.linkState h) ∧ (l.arrived h u).p (Hub.lockout h) = l.p (Hub.lockout h)
    ∧ (l.arrived h u).p (Hub.hubHeldLaps h) = l.p (Hub.hubHeldLaps h) ∧ (l.arrived h u).p (Hub.crcErrors h) = l.p (Hub.crcErrors h)
    ∧ (l.arrived h u).p (Hub.codeErrors h) = l.p (Hub.codeErrors h) + u.codeErrors := by
  have hpoints : ∀ a ∈ [Hub.linkState h, Hub.lockout h, Hub.hubHeldLaps h, Hub.crcErrors h, Hub.codeErrors h],
      (l.arrived h u).p a = if a = Hub.codeErrors h then l.p a + u.codeErrors else l.p a := by
    intro a ha
    have hne : a ≠ Hub.delayPs h ∧ a ≠ Hub.skewPs h := by
      simp only [List.mem_cons, List.not_mem_nil, or_false] at ha
      unfold Hub.linkState Hub.lockout Hub.hubHeldLaps Hub.crcErrors Hub.codeErrors Hub.delayPs Hub.skewPs at *
      omega
    rw [Lane.arrived, Lane.p_arrival _ h u hne.1 hne.2, Lane.p_addp]
    split
    · next ha => rw [ha]
    · rfl
  have hstatus : ((l.arrived h u).hub h).statusOk = (l.hub h).statusOk := by
    unfold Lane.arrived Lane.arrival
    dsimp only
    split_ifs <;> simp
  simp only [List.forall_mem_cons] at hpoints
  obtain ⟨hlink, hlock, hheld, hcrc, hcode, -⟩ := hpoints
  rw [hlink, hlock, hheld, hcrc, hcode]
  simp [hstatus]

/-- A header whose CRC fails is counted and is missing (R137). -/
theorem Lane.uplinkHeader_of_bad (me : LaneId) {u : UplinkHeader} (hst : l.p (Hub.linkState h) ≠ lkOff) (hcrc : u.crcOk = false) :
    l.uplinkHeader me h u
      = ((l.arrived h u).inc (Hub.crcErrors h)).setHub h { (l.arrived h u).hub h with headerOk := false, crcBad := true } := by
  simp [Lane.uplinkHeader, Lane.arrived, hst, hcrc]

/-- One whose CRC holds is marked and does its work on the phases, then what a hub that has held its lap reports is counted, and a wrong
port is a fault (R127, R132, R355). -/
theorem Lane.uplinkHeader_of_good (me : LaneId) {u : UplinkHeader} (hst : l.p (Hub.linkState h) ≠ lkOff) (hcrc : u.crcOk = true) :
    ∃ n m : Lane, n = ((l.arrived h u).headed h u).headerPhases h (decide (bitsAt u.obeyed 1 0 = 0))
      ∧ n.KeepsHub h [Hub.hubHeldLaps h, Hub.dualClaim h] m ∧ (bitsAt u.obeyed 1 0 ≠ 0 → m = n)
      ∧ l.uplinkHeader me h u
        = if u.portA ≠ 0xFF ∧ u.portA ≠ h ∨ u.portB ≠ 0xFF ∧ u.portB ≠ h then m.linkFault h 2 else m := by
  generalize hres : l.uplinkHeader me h u = r
  unfold Lane.uplinkHeader at hres
  rw [if_neg hst] at hres
  extract_lets l0 x held both mine reject l2 l3 l4 l5 old laps k counted l6 crossed at hres
  have h3 : l3 = (l0.headed h u).headerPhases h held := by
    simp [l3, Lane.headerPhases, Lane.headed, l2, x, held]
  have h5 : l3.KeepsHub h [Hub.hubHeldLaps h, Hub.dualClaim h] l5 :=
    Lane.KeepsHub.trans (Lane.keepsHub_ite (l3.keepsHub_inc (by simp)) (.refl _))
      (Lane.keepsHub_ite (l4.keepsHub_inc (by simp)) (.refl _))
  have h6 : l5.KeepsHub h [Hub.hubHeldLaps h, Hub.dualClaim h] l6 := by
    have hcounted : l5.KeepsHub h [Hub.hubHeldLaps h, Hub.dualClaim h] counted := ⟨rfl, fun _ _ _ => rfl⟩
    have hout : ¬ IsHubPoint h Hp.batonRejects := by
      unfold IsHubPoint Hp.batonRejects
      omega
    exact Lane.keepsHub_ite (Lane.keepsHub_ite hcounted (hcounted.trans (Lane.keepsHub_inc _ (.inr hout)))) (.refl _)
  refine ⟨l3, l6, h3, h5.trans h6, fun hheld => ?_, ?_⟩
  · simp [l6, l5, l4, reject, held, hheld]
  · rw [← hres, if_neg (by simp [hcrc])]
    simp only [crossed, Bool.or_eq_true, decide_eq_true_eq]

end Header

/-- Where the CRC holds, what the hub shows before the port check. -/
theorem Lane.uplinkHeader_shown {l : Lane} {h : Nat} (me : LaneId) {u : UplinkHeader} (hh : h < 32)
    (hst : l.p (Hub.linkState h) = lkReady) (hcrc : u.crcOk = true) :
    ∃ m : Lane, (m.hub h).headerOk = true ∧ (m.hub h).delayUi = ((l.arrived h u).hub h).delayUi
      ∧ m.p (Hub.linkState h) = lkReady ∧ m.p (Hub.skewPs h) = (l.arrived h u).p (Hub.skewPs h)
      ∧ m.p (Hub.codeErrors h) = l.p (Hub.codeErrors h) + u.codeErrors
      ∧ m.p (Hub.lockout h) = (if (l.hub h).statusOk = true then b01 (bitAt u.hubFlags 0) else l.p (Hub.lockout h))
      ∧ (bitsAt u.obeyed 1 0 ≠ 0 → m.p (Hub.hubHeldLaps h) = l.p (Hub.hubHeldLaps h))
      ∧ l.uplinkHeader me h u
        = if u.portA ≠ 0xFF ∧ u.portA ≠ h ∨ u.portB ≠ 0xFF ∧ u.portB ≠ h then m.linkFault h 2 else m := by
  obtain ⟨n, m, hn, hnm, hsame, hrow⟩ := Lane.uplinkHeader_of_good me (u := u) (by rw [hst]; decide) hcrc
  obtain ⟨hstatus, hlink, hlock, hheld, -, hcode⟩ := l.arrived_kept (h := h) u
  obtain ⟨hheader, hmark, hdelay, hflag, hp⟩ := (l.arrived h u).headed_hub h u
  have hphases : ((l.arrived h u).headed h u).KeepsHub h [Hub.lockout h] n :=
    hn ▸ Lane.keepsHub_headerPhases hh _ (List.mem_singleton_self _)
  have hlockout := Lane.headerPhases_lockout hh (decide (bitsAt u.obeyed 1 0 = 0)) hheader
  rw [← hn, hmark, hstatus, hflag, hp, hlock] at hlockout
  have hkept : ∀ a ∈ [Hub.linkState h, Hub.skewPs h, Hub.codeErrors h], m.p a = (l.arrived h u).p a := by
    intro a ha
    have hin : IsHubPoint h a ∧ a ∉ [Hub.hubHeldLaps h, Hub.dualClaim h] ∧ a ∉ [Hub.lockout h] := by
      simp only [List.mem_cons, List.not_mem_nil, or_false] at ha ⊢
      unfold Hub.linkState Hub.skewPs Hub.codeErrors at ha
      unfold IsHubPoint Hub.hubHeldLaps Hub.dualClaim Hub.lockout
      omega
    obtain ⟨hown, hcounts, hlock⟩ := hin
    rw [hnm.points a hown hcounts, hphases.points a hown hlock, hp]
  simp only [List.forall_mem_cons] at hkept
  obtain ⟨hlink', hskew', hcode', -⟩ := hkept
  refine ⟨m, ?_, ?_, ?_, hskew', hcode'.trans hcode, ?_, fun hobeyed => ?_, hrow⟩
  · rw [hnm.hub, hphases.hub, hheader]
  · rw [hnm.hub, hphases.hub, hdelay]
  · rw [hlink', hlink, hst]
  · rw [hnm.points _ (by simp) (by simp), hlockout]
  · rw [hsame hobeyed, hphases.points _ (by simp) (by simp), hp, hheld]

/-- What an arrival shows stands through the rest of the row. -/
theorem Lane.uplinkHeader_arrival {l : Lane} {h : Nat} (me : LaneId) (u : UplinkHeader) (hh : h < 32)
    (hst : l.p (Hub.linkState h) = lkReady) :
    (l.uplinkHeader me h u).p (Hub.skewPs h) = (l.arrived h u).p (Hub.skewPs h)
    ∧ ((l.uplinkHeader me h u).hub h).delayUi = ((l.arrived h u).hub h).delayUi := by
  cases hcrc : u.crcOk with
  | false =>
    rw [Lane.uplinkHeader_of_bad me (by rw [hst]; decide) hcrc]
    simp
  | true =>
    obtain ⟨m, -, hdelay, hlink, hskew, -, -, -, hrow⟩ := Lane.uplinkHeader_shown me hh hst hcrc
    rw [hrow]
    split
    · have hne : (m.setp (Hub.linkFault h) 2).p (Hub.linkState h) ≠ lkFault := by
        simp [hlink]; decide
      have hknown : ¬ (lkFault = lkOff ∨ lkFault = lkDark ∨ lkFault = lkRange) := by decide
      rw [Lane.linkFault, (Lane.hub_linkTo_self _ h hne).2, if_neg hknown, Lane.p_linkTo _ h hne]
      simp [hskew, hdelay]
    · exact ⟨hskew, hdelay⟩

/-- Every hub of a variant is one of the 32. -/
theorem hubServed_lt {i : LaneId} {h : Nat} {s : State} (hs : HubServed i h s) : h < 32 := by
  have hports : s.chassis.variant.ports ≤ 32 := by cases s.chassis.variant <;> decide
  exact Nat.lt_of_lt_of_le hs.1 hports

/-- Settles O3, from what the row shows before its port check, and from the arrival, which the rest of the row leaves. -/
theorem uplinkHeaderRow : Obligations.UplinkHeaderRow := by
  unfold Obligations.UplinkHeaderRow
  intro s i h u hs hready
  change (s.lane i).p (Hub.linkState h) = lkReady at hready
  have hh := hubServed_lt hs
  have hlane := State.lane_factRow hs (fun l => l.uplinkHeader i h u)
  obtain ⟨hskew, hdelay⟩ := Lane.uplinkHeader_arrival i u hh hready
  refine ⟨fun hcrc hA hB hobeyed => does_of_next rfl ?_, fun hcrc hport => does_of_next rfl ?_, fun hcrc => does_of_next rfl ?_,
    fun hal => does_of_next rfl ?_, fun hal => does_of_next rfl ?_⟩
  all_goals rw [hlane]
  · obtain ⟨m, hheader, -, hlink, -, hcode, hlock, hheld, hrow⟩ := Lane.uplinkHeader_shown i hh hready hcrc
    rw [linkOf, hlane, hrow, if_neg (by omega)]
    exact ⟨hheader, hlink, hlock, hheld hobeyed, hcode⟩
  · obtain ⟨m, -, -, hlink, -, -, -, -, hrow⟩ := Lane.uplinkHeader_shown i hh hready hcrc
    rw [linkOf, hlane, hrow, if_pos hport]
    exact m.p_linkFault h 2 (by rw [hlink]; decide)
  · obtain ⟨-, -, -, -, hcount, -⟩ := (s.lane i).arrived_kept (h := h) u
    rw [Lane.uplinkHeader_of_bad i (by rw [hready]; decide) hcrc]
    simp [hcount]
  · obtain ⟨hskew', hdelay'⟩ := Lane.arrival_of_aligned ((s.lane i).addp (Hub.codeErrors h) u.codeErrors) h (u := u)
      (by simpa using hready) hal
    rw [hskew, hdelay, Lane.arrived, hskew', hdelay']
    simp
  · rw [hskew, hdelay, Lane.arrived, Lane.arrival_of_unaligned _ _ hal]
    simp

/-! ### The status block (R127, R137) -/

/-- A valid block replaces the hub's bits before its phases are looked at, which leave them. -/
theorem Lane.statusBlock_of_valid {l : Lane} {h : Nat} {b : StatusBlock} (hh : h < 32) (hon : l.p (Hub.linkState h) ≠ lkOff)
    (hcrc : b.crcOk = true) (htime : b.onTime = true) (hcode : b.codeErrors = 0) :
    ((l.statusBlock h b).hub h).statusOk = true ∧ ((l.statusBlock h b).hub h).tripped = b.tripped
    ∧ ((l.statusBlock h b).hub h).armed = b.armed ∧ ((l.statusBlock h b).hub h).contactor = b.contactor
    ∧ ((l.statusBlock h b).hub h).cmdLoss = b.cmdLoss ∧ (l.statusBlock h b).p (Hub.cfgAck h) = b.cfgAck := by
  generalize hres : l.statusBlock h b = r
  unfold Lane.statusBlock at hres
  rw [if_neg hon] at hres
  extract_lets l0 old l1 l2 l3 l4 at hres
  rw [if_neg (by simp [hcrc]), if_neg (by simp [htime, hcode])] at hres
  have hkept : l2.KeepsHub h [Hub.hubErrors h, Hub.lockout h] r := by
    have h3 : l2.KeepsHub h [Hub.hubErrors h, Hub.lockout h] l3 :=
      (Lane.keepsHub_ite (l2.keepsHub_inc (by simp)) (.refl _)).trans (Lane.keepsHub_takeLockout _ (by simp))
    exact hres ▸ (h3.trans (l3.keepsHub_statusPhases hh b old)).trans (l4.keepsHub_fireIf ..)
  rw [hkept.hub, hkept.points _ (by simp) (by simp [Hub.cfgAck, Hub.hubErrors, Hub.lockout])]
  simp [l2, l1]

/-- Settles O4: one lemma for the valid block; one whose CRC fails is counted and reaches no bit of the hub. -/
theorem statusBlockRow : Obligations.StatusBlockRow := by
  unfold Obligations.StatusBlockRow
  intro s i h b hs hon
  change (s.lane i).p (Hub.linkState h) ≠ lkOff at hon
  have hlane := State.lane_factRow hs (fun l => l.statusBlock h b)
  refine ⟨fun hcrc htime hcode => does_of_next rfl ?_, fun hcrc => does_of_next rfl ?_⟩
  · rw [hlane]
    exact Lane.statusBlock_of_valid (hubServed_lt hs) hon hcrc htime hcode
  · rw [hlane]
    simp [Lane.statusBlock, hon, hcrc]

/-! ### Measurements (R128, R138, R140) -/

/-- Of numbered steps, only step `j` reaches what `v` shows: it finds it as it was, and leaves it as it is at the end. -/
theorem Lane.forN_only {α : Type} (v : Lane → α) {n j : Nat} {f : Nat → Lane → Lane} (hj : j < n)
    (hother : ∀ i < n, i ≠ j → ∀ l, v (f i l) = v l) (l : Lane) : ∃ m, v m = v l ∧ v (l.forN n f) = v (f j m) := by
  obtain ⟨before, after, hrange⟩ := List.append_of_mem (List.mem_range.mpr hj)
  have hj' : j ∉ before ++ after := (List.nodup_cons.mp (List.nodup_middle.mp (hrange ▸ List.nodup_range))).1
  have hlt : ∀ i ∈ before ++ j :: after, i < n := fun i hi => List.mem_range.mp (hrange ▸ hi)
  have hkeep : ∀ xs : List Nat, (∀ i ∈ xs, i < n ∧ i ≠ j) → ∀ l, v (xs.foldl (fun l i => f i l) l) = v l := fun xs hxs l =>
    List.foldlRecOn (motive := fun m => v m = v l) xs _ rfl fun m hm i hi => (hother i (hxs i hi).1 (hxs i hi).2 m).trans hm
  refine ⟨before.foldl (fun l i => f i l) l, hkeep before (fun i hi => ⟨hlt i (by simp [hi]), ?_⟩) l, ?_⟩
  · rintro rfl
    simp [hi] at hj'
  · rw [Lane.forN, hrange, List.foldl_append, List.foldl_cons]
    refine hkeep after (fun i hi => ⟨hlt i (by simp [hi]), ?_⟩) _
    rintro rfl
    simp [hi] at hj'

/-- The points that a sample of phase `p` shows. -/
def Lane.sampleOf (l : Lane) (p : Nat) : Int × Int × Int := (l.p (Ph.iMeas p), l.p (Ph.vOut p), l.p (Ph.vDc p))

theorem Lane.sampleOf_samplePhase (l : Lane) (h i p : Nat) (f : FastBlock) : (l.samplePhase h f i).sampleOf p
    = if p = 16 * h + i then (f.i.getD i 0 * 2 ^ 16, f.vOut.getD i 0 * 2 ^ 16, (f.vDc.getD i 0 : Int) * 2 ^ 15) else l.sampleOf p := by
  have hne : ∀ q r, Ph.iMeas q ≠ Ph.vOut r ∧ Ph.iMeas q ≠ Ph.vDc r ∧ Ph.vOut q ≠ Ph.vDc r := by
    intro q r
    unfold Ph.iMeas Ph.vOut Ph.vDc
    omega
  have heq : ∀ q, (Ph.iMeas p = Ph.iMeas q ↔ p = q) ∧ (Ph.vOut p = Ph.vOut q ↔ p = q) ∧ (Ph.vDc p = Ph.vDc q ↔ p = q) := by
    intro q
    unfold Ph.iMeas Ph.vOut Ph.vDc
    omega
  have hne' : ∀ q r, Ph.vOut q ≠ Ph.iMeas r ∧ Ph.vDc q ≠ Ph.iMeas r ∧ Ph.vDc q ≠ Ph.vOut r :=
    fun q r => ⟨(hne r q).1.symm, (hne r q).2.1.symm, (hne r q).2.2.symm⟩
  unfold Lane.samplePhase Lane.sampleOf
  by_cases hp : p = 16 * h + i <;> simp [hne, hne', heq, hp]

/-- An accepted fast block gives every phase of the hub its sample (R128). -/
theorem Lane.fastBlock_of_good {l : Lane} {h : Nat} {f : FastBlock} (hh : h < 32) (hon : l.p (Hub.linkState h) ≠ lkOff)
    (hcrc : f.crcOk = true) (htime : f.onTime = true) (hcode : f.codeErrors = 0) (hlap : f.lapLo = l.lap % 256) :
    ((l.fastBlock h f).hub h).fastOk = true ∧ ∀ j < 16, (l.fastBlock h f).sampleOf (16 * h + j)
      = (f.i.getD j 0 * 2 ^ 16, f.vOut.getD j 0 * 2 ^ 16, (f.vDc.getD j 0 : Int) * 2 ^ 15) := by
  generalize hres : l.fastBlock h f = r
  unfold Lane.fastBlock at hres
  rw [if_neg hon] at hres
  extract_lets l0 x l1 at hres
  rw [if_pos (by simp [hcrc, htime, hcode, hlap])] at hres
  refine ⟨?_, fun j hj => ?_⟩
  · have hkept : ∀ l : Lane, l.KeepsHub h [] (l.forN 16 (Lane.samplePhase h f)) := by
      refine fun l => Lane.keepsHub_of_plant (LaneUnit.outside_forN LaneUnit.allPhases 16 (fun i hi l => ?_) l)
      simp [Lane.samplePhase, LaneUnit.plant_own_phase (hubPhase_lt hh hi)]
    rw [← hres, (hkept _).hub]
    simp
  · obtain ⟨m, -, hm⟩ := Lane.forN_only (fun l => l.sampleOf (16 * h + j)) hj (f := Lane.samplePhase h f)
      (fun i _ hi l => (Lane.sampleOf_samplePhase ..).trans (if_neg (by omega))) (l1.setHub h { l1.hub h with fastOk := true })
    rw [← hres, hm, Lane.sampleOf_samplePhase, if_pos rfl]

/-- A late block, or one of another lap, counts as missing (R137). -/
theorem Lane.fastBlock_of_missing {l : Lane} {h : Nat} {f : FastBlock} (hon : l.p (Hub.linkState h) ≠ lkOff)
    (hbad : f.onTime = false ∨ f.lapLo ≠ l.lap % 256) :
    ((l.fastBlock h f).hub h).fastOk = false ∧ ∀ j, (l.fastBlock h f).p (Ph.iMeas j) = l.p (Ph.iMeas j) := by
  have hne : ∀ j, Ph.iMeas j ≠ Hub.codeErrors h ∧ Ph.iMeas j ≠ Hub.crcErrors h := by
    intro j
    unfold Ph.iMeas Hub.codeErrors Hub.crcErrors
    omega
  unfold Lane.fastBlock
  rw [if_neg hon]
  dsimp only
  rw [if_neg (by rcases hbad with h1 | h1 <;> simp [h1])]
  refine ⟨by simp, fun j => ?_⟩
  split <;> simp [hne]

/-- A valid thermal block gives every phase of the hub its junction temperature (R140). -/
theorem Lane.thermalBlock_of_good {l : Lane} {h : Nat} (temps : List Int) (hon : l.p (Hub.linkState h) ≠ lkOff) :
    ((l.thermalBlock h true 0 temps).hub h).thermMiss = 0
    ∧ ∀ j < 16, (l.thermalBlock h true 0 temps).p (Ph.tJunction (16 * h + j)) = temps.getD j 0 * 125 / 2
      ∧ (l.thermalBlock h true 0 temps).st (Ph.tJunction (16 * h + j)) = 0 := by
  generalize hres : l.thermalBlock h true 0 temps = r
  unfold Lane.thermalBlock at hres
  extract_lets l1 at hres
  rw [if_neg hon, if_neg (by decide), if_neg (by decide)] at hres
  refine ⟨?_, fun j hj => ?_⟩
  · rw [← hres]
    refine List.foldlRecOn (motive := fun m : Lane => (m.hub h).thermMiss = 0) _ _ (by simp) fun m hm _ _ => by simpa using hm
  · obtain ⟨m, -, hm⟩ := Lane.forN_only (fun l => (l.p (Ph.tJunction (16 * h + j)), l.st (Ph.tJunction (16 * h + j)))) hj
      (f := fun i l => l.setps (Ph.tJunction (16 * h + i)) (temps.getD i 0 * 125 / 2) 0)
      (fun i _ hi l => by
        have hne : Ph.tJunction (16 * h + j) ≠ Ph.tJunction (16 * h + i) := by unfold Ph.tJunction; omega
        simp [hne]) (l1.setHub h { l1.hub h with thermMiss := 0 })
    have hread := hres ▸ hm
    simpa using hread

theorem Lane.junctionTimeout_of_due {l : Lane} {h : Nat} (hmiss : 200 ≤ (l.hub h).thermMiss) :
    ∀ j < 16, (l.junctionTimeout h).st (Ph.tJunction (16 * h + j)) = 2 := by
  intro j hj
  obtain ⟨m, -, hm⟩ := Lane.forN_only (fun l => l.st (Ph.tJunction (16 * h + j))) hj
    (f := fun i l => l.setst (Ph.tJunction (16 * h + i)) 2)
    (fun i _ hi l => by
      have hne : Ph.tJunction (16 * h + j) ≠ Ph.tJunction (16 * h + i) := by unfold Ph.tJunction; omega
      simp [hne]) l
  rw [Lane.junctionTimeout, if_pos hmiss, hm]
  simp

/-! ### A hub blinded and its mark cleared (R138, R192) -/

/-- The points that a removal shows. -/
def Lane.removalOf (l : Lane) (p : Nat) : Int × Int := (l.p (Ph.memberState p), l.p (Ph.removalCause p))

/-- A step that reaches other phases only leaves what a removal of phase `p` would show. -/
theorem Lane.removalOf_of_plant {l m : Lane} {p : Nat} (hp : p < 512)
    (hm : (LaneUnit.plant (fun q => decide (q ≠ p))).outside m = (LaneUnit.plant (fun q => decide (q ≠ p))).outside l) :
    m.removalOf p = l.removalOf p := by
  have hkept : ∀ d < 128, m.p (0x10000 + d + 128 * p) = l.p (0x10000 + d + 128 * p) := by
    intro d hd
    refine LaneUnit.keepsPoints _ hm (P := fun a => a ≠ 0x10000 + d + 128 * p) ?_ _ (by simp)
    rintro _ hown rfl
    have hunit : (0x10000 + d + 128 * p - 0x10000) / 128 = p := by omega
    simp only [LaneUnit.plant, hunit, ne_eq, not_true_eq_false, decide_false, Bool.and_false, Bool.or_false, decide_eq_true_eq] at hown
    omega
  exact congrArg₂ Prod.mk (hkept 0x14 (by decide)) (hkept 0x19 (by decide))

/-- A switching phase that is removed shows it, with the cause (R192). -/
theorem Lane.removalOf_removePhase {l : Lane} {p : Nat} (cause : Int) (hsw : l.switching p = true) :
    (l.removePhase cause p).removalOf p = (msLost, cause) := by
  have hne : Ph.removalCause p ≠ Ph.removals p ∧ Ph.memberState p ≠ Ph.removals p ∧ Ph.memberState p ≠ Ph.removalCause p
      ∧ Ph.memberState p ≠ Ph.weight p := by
    simp [Ph.removalCause, Ph.removals, Ph.memberState, Ph.weight]
  have hpk : ∀ k, Ph.memberState p ≠ Pk.removals k ∧ Ph.memberState p ≠ Pk.capacityA k ∧ Ph.memberState p ≠ Pk.overloadA k
      ∧ Ph.removalCause p ≠ Pk.removals k ∧ Ph.removalCause p ≠ Pk.capacityA k ∧ Ph.removalCause p ≠ Pk.overloadA k := by
    intro k
    unfold Ph.memberState Ph.removalCause Pk.removals Pk.capacityA Pk.overloadA
    omega
  unfold Lane.removePhase
  extract_lets y l1 x l2
  have h2 : l2.removalOf p = (msLost, cause) := by simp [l2, l1, Lane.removalOf, hne]
  rw [if_neg (by simp [hsw])]
  split
  · exact h2
  · rw [← h2]
    simp [Lane.removalOf, Lane.recapacity, hpk]

@[simp] theorem Lane.p_cutArm (l : Lane) (p a : Nat) : (l.cutArm p).p a = l.p a := by
  unfold Lane.cutArm Lane.disarm
  dsimp only
  split_ifs <;> simp

/-- What blinding a hub does to one phase of it (R138, R192). -/
def Lane.blindPhase (h i : Nat) (l : Lane) : Lane :=
  let p := 16 * h + i
  let a := (l.removePhase 4 p).cutArm p
  (a.setPhase p { a.phase p with testLaps := 0 }).setp (Ph.armState p) (a.armState p)

theorem Lane.blindPhase_inside_plant {P : Nat → Bool} {h i : Nat} (hp : 16 * h + i < 512) (hP : P (16 * h + i) = true) :
    (LaneUnit.plant P).Inside (Lane.blindPhase h i) := by
  intro l
  unfold Lane.blindPhase
  simp [LaneUnit.plant_own_phase hp hP, Lane.removePhase_inside_plant hp hP 4 l]

theorem Lane.hubBlind_of_due {l : Lane} {h : Nat} (hh : h < 32)
    (hmiss : 2 ≤ (l.hub h).missRun ∨ (1 ≤ (l.hub h).missRun ∧ (l.hub h).complete = false)) (hblind : l.p (Hub.blind h) = 0) :
    (l.hubBlind h).p (Hub.blind h) = 1 ∧ (l.hubBlind h).p (Hub.blindEvents h) = l.p (Hub.blindEvents h) + 1
    ∧ ∀ j < 16, l.switching (16 * h + j) = true → (l.hubBlind h).removalOf (16 * h + j) = (msLost, 4) := by
  generalize hres : l.hubBlind h = r
  unfold Lane.hubBlind at hres
  rw [if_pos ⟨hmiss, hblind⟩] at hres
  extract_lets x l1 l2 at hres
  have h2 : l2 = l1.forN 16 (Lane.blindPhase h) := rfl
  have hkept : l1.KeepsHub h [] r := by
    refine hres ▸ Lane.KeepsHub.trans ?_ (l2.keepsHub_fire ..)
    exact h2 ▸ Lane.keepsHub_of_plant (LaneUnit.outside_forN LaneUnit.allPhases 16
      (fun i hi => Lane.blindPhase_inside_plant (hubPhase_lt hh hi) rfl) l1)
  refine ⟨?_, ?_, fun j hj hsw => ?_⟩
  · rw [hkept.points _ (by simp) (by simp)]
    simp [l1]
  · rw [hkept.points _ (by simp) (by simp)]
    simp [l1]
  · obtain ⟨m, hm, hlast⟩ := Lane.forN_only (fun l => l.removalOf (16 * h + j)) hj (f := Lane.blindPhase h)
      (fun i hi hne l => Lane.removalOf_of_plant (hubPhase_lt hh hj)
        (Lane.blindPhase_inside_plant (hubPhase_lt hh hi) (by simp [hne]) l)) l1
    have hswm : m.switching (16 * h + j) = true := by
      have hstate : m.p (Ph.memberState (16 * h + j)) = l.p (Ph.memberState (16 * h + j)) := by
        have hpoint : Ph.memberState (16 * h + j) ≠ Hub.blind h ∧ Ph.memberState (16 * h + j) ≠ Hub.blindEvents h := by
          unfold Ph.memberState Hub.blind Hub.blindEvents
          omega
        rw [show m.p (Ph.memberState (16 * h + j)) = l1.p (Ph.memberState (16 * h + j)) from congrArg Prod.fst hm]
        simp [l1, hpoint]
      simpa only [Lane.switching, hstate] using hsw
    have hpoints : ∀ p, Ph.memberState p ≠ Ph.armState p ∧ Ph.removalCause p ≠ Ph.armState p := by
      simp [Ph.memberState, Ph.removalCause, Ph.armState]
    have hend : r.removalOf (16 * h + j) = l2.removalOf (16 * h + j) := by
      simp [← hres, Lane.removalOf]
    rw [hend, h2, hlast, ← Lane.removalOf_removePhase 4 hswm]
    simp [Lane.blindPhase, Lane.removalOf, hpoints]

theorem Lane.blindClear_of_due {l : Lane} {h : Nat} (hblind : l.p (Hub.blind h) = 1) (hgood : 64 ≤ (l.hub h).goodRun) (hh : h < 32) :
    (l.blindClear h).p (Hub.blind h) = 0 := by
  unfold Lane.blindClear
  rw [if_pos ⟨hblind, hgood⟩]
  dsimp only
  have hkept : ∀ l : Lane, l.KeepsHub h [] (l.forN 16 (fun i l => l.setp (Ph.armState (16 * h + i)) (l.armState (16 * h + i)))) :=
    fun l => Lane.keepsHub_of_plant (LaneUnit.outside_forN LaneUnit.allPhases 16 (fun i hi l => by
      simp [LaneUnit.plant_own_phase (hubPhase_lt hh hi)]) l)
  rw [(hkept _).points _ (by simp) (by simp)]
  simp

/-! ### Identity records (R529) -/

/-- A record that a lane uses shows in the hub's points and marks the hub as known; the record that the lane keeps stays. -/
theorem Lane.identity_shown {l : Lane} {h : Nat} (iFs vFs fitted : Nat) (hh : h < 32) :
    ((l.identity h iFs vFs fitted).hub h).idKnown = true ∧ ((l.identity h iFs vFs fitted).hub h).ownRec = (l.hub h).ownRec
    ∧ (l.identity h iFs vFs fitted).p (Hub.iFs h) = iFs
    ∧ (l.identity h iFs vFs fitted).p (Hub.vFs h) = vFs
    ∧ (l.identity h iFs vFs fitted).p (Hub.phasesFitted h) = (fitted % 65536 : Nat) := by
  generalize hres : l.identity h iFs vFs fitted = r
  unfold Lane.identity at hres
  extract_lets l1 x l2 affected at hres
  have hkept : l2.KeepsHub h [] r := by
    refine hres ▸ Lane.KeepsHub.trans ?_ (Lane.keepsHub_fire ..)
    refine Lane.keepsHub_of_plant (LaneUnit.outside_forL LaneUnit.allPhases affected (fun p hp => ?_) l2)
    have hphase : p / 16 = h := of_decide_eq_true (Bool.and_eq_true_iff.mp (List.mem_filter.mp hp).2).1
    exact Lane.removePhase_inside_plant (by omega) rfl 10
  rw [hkept.hub, hkept.points _ (by simp) (by simp),
    hkept.points _ (by simp) (by simp),
    hkept.points _ (by simp) (by simp)]
  simp [l2, l1, x]

/-- A record kept touches no other record and no point. -/
theorem Lane.keepRecord_kept (l : Lane) (h iFs vFs fitted : Nat) : ((l.keepRecord h iFs vFs fitted).hub h).ownRec = some (iFs, vFs, fitted)
    ∧ (∀ a, (l.keepRecord h iFs vFs fitted).p a = l.p a) ∧ (l.keepRecord h iFs vFs fitted).active = l.active
    ∧ (l.keepRecord h iFs vFs fitted).linksRun = l.linksRun := by
  simp [Lane.keepRecord]

theorem State.active_of_holder {s : State} {i : LaneId} (h : s.holder = some i) : (s.lane i).active = true := by
  have hgrant := s.grant_of_holder i h
  by_contra hstill
  simp [State.holder, hgrant, hstill] at h

section Identity

variable {s : State} {i : LaneId} {h : Nat} (hs : HubServed i h s) (iFs vFs fitted : Nat)

include hs

/-- Beside a holder the receiving lane keeps the record and no lane uses it. -/
theorem State.lane_hubIdentity_beside (hh : s.holder = some i.other) :
    (s.hubIdentity i h iFs vFs fitted).lane i = (s.lane i).keepRecord h iFs vFs fitted := by
  have hrun : ¬ (s.chassis.variant.ports ≤ h ∨ (s.lane i).linksRun = false) := by simp [hs.1, hs.2]
  unfold State.hubIdentity
  dsimp only
  rw [if_neg hrun, hh]
  dsimp only
  rw [if_neg i.other_ne, State.lane_atHub_self hs]

/-- Elsewhere the lanes that use the record are the holder's and its computing partner, or the receiving lane alone. -/
theorem State.lane_hubIdentity_used (hh : s.holder ≠ some i.other) {j : LaneId}
    (hj : j = i ∨ (s.holder = some i ∧ (s.lane j).active = true)) :
    ∃ l : Lane, (s.hubIdentity i h iFs vFs fitted).lane j = l.identity h iFs vFs fitted
      ∧ (j = i → (l.hub h).ownRec = some (iFs, vFs, fitted)) := by
  have hrun : ¬ (s.chassis.variant.ports ≤ h ∨ (s.lane i).linksRun = false) := by simp [hs.1, hs.2]
  obtain ⟨hown, -, hactive, hlinks⟩ := (s.lane i).keepRecord_kept h iFs vFs fitted
  generalize hs1 : s.atHub i h (fun l => l.keepRecord h iFs vFs fitted) = s1
  have hlane : ∀ k, s1.lane k = if k = i then (s.lane i).keepRecord h iFs vFs fitted else s.lane k :=
    fun k => hs1 ▸ s.lane_atHub i k h _ hs
  have hvariant : s1.chassis.variant = s.chassis.variant := hs1 ▸ congrArg Core.variant (s.atHub_core i h _)
  have hpart : j = i → ((s1.lane j).hub h).ownRec = some (iFs, vFs, fitted) := fun e => by rw [hlane, if_pos e, hown]
  unfold State.hubIdentity
  dsimp only
  rw [if_neg hrun, hs1]
  cases hholder : s.holder with
  | none =>
    obtain rfl : j = i := hj.resolve_right fun ⟨hg, _⟩ => by simp [hg] at hholder
    have hserved : HubServed j h s1 := ⟨hvariant ▸ hs.1, by rw [hlane, if_pos rfl, hlinks, hs.2]⟩
    exact ⟨s1.lane j, State.lane_atHub_self hserved _, hpart⟩
  | some g =>
    obtain rfl : g = i := by
      cases g <;> cases i <;> simp_all [LaneId.other]
    have hcomputes : (s1.lane j).active = true := by
      rw [hlane]
      split
      · rw [hactive, State.active_of_holder hholder]
      · next hne => exact (hj.resolve_left hne).2
    refine ⟨s1.lane j, ?_, hpart⟩
    dsimp only
    rw [if_pos rfl, State.lane_both, if_pos hcomputes]

end Identity

/-- Settles O5, block by block, then the blind mark and the identity record. -/
theorem measurementBlocks : Obligations.MeasurementBlocks := by
  unfold Obligations.MeasurementBlocks
  refine ⟨fun s i h hs hon => ?_, fun s i h hs => ?_⟩
  · have hlane := State.lane_atHub_self hs
    refine ⟨fun f hcrc htime hcode hlap => does_of_next rfl ?_, fun f hbad => does_of_next rfl ?_, fun temps => does_of_next rfl ?_,
      fun hmiss => does_of_next rfl ?_⟩
    · obtain ⟨hok, hsamples⟩ := Lane.fastBlock_of_good (hubServed_lt hs) hon hcrc htime hcode hlap
      rw [hlane]
      refine ⟨hok, fun j hj => ?_⟩
      simpa only [Lane.sampleOf, Prod.mk.injEq] using hsamples j hj
    · rw [hlane]
      exact Lane.fastBlock_of_missing hon hbad
    · rw [hlane]
      exact Lane.thermalBlock_of_good temps hon
    · rw [hlane]
      exact Lane.junctionTimeout_of_due hmiss
  · have hh := hubServed_lt hs
    refine ⟨fun hmiss hblind => does_of_next rfl ?_, fun hblind hgood => does_of_next rfl ?_, fun iFs vFs fitted =>
      ⟨fun hholder => does_of_next rfl ?_, fun hholder => does_of_next rfl ?_⟩⟩
    · obtain ⟨hmark, hcount, hremoved⟩ := Lane.hubBlind_of_due hh hmiss hblind
      rw [State.lane_linkRow hs]
      refine ⟨hmark, hcount, fun j hj hsw => ?_⟩
      simpa only [Lane.removalOf, Prod.mk.injEq] using hremoved j hj hsw
    · rw [State.lane_atHub_self hs]
      exact Lane.blindClear_of_due hblind hgood hh
    · obtain ⟨l, hi, hown⟩ := State.lane_hubIdentity_used hs iFs vFs fitted hholder (.inl rfl)
      obtain ⟨hknown, hrec, -⟩ := l.identity_shown iFs vFs fitted hh
      refine ⟨by rw [hi, hrec, hown rfl], by rw [hi, hknown], fun j hj => ?_⟩
      obtain ⟨m, hm, -⟩ := State.lane_hubIdentity_used hs iFs vFs fitted hholder hj
      obtain ⟨-, -, hpoints⟩ := m.identity_shown iFs vFs fitted hh
      rw [hm]
      exact hpoints
    · obtain ⟨hown, hp, -⟩ := (s.lane i).keepRecord_kept h iFs vFs fitted
      rw [State.lane_hubIdentity_beside hs iFs vFs fitted hholder]
      exact ⟨hown, hp _⟩

end Sys2Proof.Machine
end

section
/-!
05_stage_link.md: the moves of a phase.
-/

namespace Sys2Proof.Machine

open Sys2Proof

/-! ### The moves of a phase (R146 to R148, R182, R190, R191) -/

section Moves

variable (l : Lane) (p : Nat)

/-- Marking slots for initialisation reaches slots alone. -/
theorem Lane.initPhaseSlots_kept : ∃ ss, l.initPhaseSlots p = { l with slots := ss } := by
  unfold Lane.initPhaseSlots Lane.forL
  refine List.foldlRecOn (motive := fun m : Lane => ∃ ss, m = { l with slots := ss }) _ _ ⟨l.slots, rfl⟩ ?_
  rintro _ ⟨ss, rfl⟩ t -
  exact ⟨_, rfl⟩

@[simp] theorem Lane.initPhaseSlots_read (a : Nat) :
    (l.initPhaseSlots p).p a = l.p a ∧ (l.initPhaseSlots p).phase a = l.phase a ∧ (l.initPhaseSlots p).cfg = l.cfg
    ∧ (l.initPhaseSlots p).lap = l.lap := by
  obtain ⟨ss, hss⟩ := l.initPhaseSlots_kept p
  rw [hss]
  exact ⟨rfl, rfl, rfl, rfl⟩

/-- A phase whose duty is due in the lap of its evaluation joins at once (R28, R190). -/
theorem Lane.joinStart_of_early (hearly : earlyDuty l.cfg p = true) :
    (l.joinStart p).p (Ph.memberState p) = msJoining ∧ (l.joinStart p).p (Ph.weight p) = 0 ∧ ((l.joinStart p).phase p).arm = true := by
  have hne : Ph.memberState p ≠ Ph.weight p := by simp [Ph.memberState, Ph.weight]
  simp [Lane.joinStart, hearly, Lane.joinPhase, PhaseSt.armed, hne]

/-- One whose duty is due a lap later is prepared, and joins in that lap (R28, R190). -/
theorem Lane.joinStart_of_late (hlate : earlyDuty l.cfg p = false) :
    (l.joinStart p).p (Ph.memberState p) = l.p (Ph.memberState p) ∧ ((l.joinStart p).phase p).prep = some l.lap
    ∧ ((l.joinStart p).phase p).arm = (l.phase p).arm := by
  simp [Lane.joinStart, hlate]

/-- A phase whose re-arm condition is met parks, and joins from there where it may (R146, R190). -/
theorem Lane.rearmDelay_of_met (hst : l.p (Ph.memberState p) = msLost) (hmet : l.rearmMet p = true)
    (hon : l.c (Ph.phaseEnable p) = 1) : (l.rearmDelay p).p (Ph.memberState p)
      = if l.joinReady p = true ∧ earlyDuty l.cfg p = true then msJoining else msParked := by
  unfold Lane.rearmDelay
  rw [if_pos ⟨hst, hmet, hon⟩]
  extract_lets x l1
  have hcfg : l1.cfg = l.cfg := by simp [l1]
  have hparked : l1.p (Ph.memberState p) = msParked := by simp [l1]
  cases hready : l.joinReady p with
  | false => simpa using hparked
  | true =>
    cases hduty : earlyDuty l.cfg p with
    | false => simpa [hparked] using (l1.joinStart_of_late p (hcfg ▸ hduty)).1
    | true => simpa using (l1.joinStart_of_early p (hcfg ▸ hduty)).1

theorem Lane.testGateWrite_of_both {v : Nat} (hboth : bitsAt v 1 0 = 3) :
    (l.testGateWrite p v).p (Ph.falseStarts p) = l.p (Ph.falseStarts p) + 1 := by
  simp [Lane.testGateWrite, hboth, Lane.falseStart]

theorem Lane.testGateWrite_of_off {v : Nat} (hboth : bitsAt v 1 0 ≠ 3) (hoff : l.c (Hub.testMode (p / 16)) ≠ 1) :
    l.testGateWrite p v = l := by
  have hrefused : l.testGateStatus p v ≠ st_OK := by
    rw [Lane.testGateStatus, if_neg hboth, if_pos hoff]
    decide
  rw [Lane.testGateWrite, if_neg hboth, if_neg hrefused]

theorem Lane.testGateWrite_of_on {v : Nat} (hboth : bitsAt v 1 0 ≠ 3) (hon : l.c (Hub.testMode (p / 16)) = 1)
    (hlow : 1 ≤ bitsAt v 15 8) (hhigh : bitsAt v 15 8 ≤ 200) :
    ((l.testGateWrite p v).phase p).testSwitch = bitsAt v 1 0 ∧ ((l.testGateWrite p v).phase p).testLaps = bitsAt v 15 8 := by
  have hok : l.testGateStatus p v = st_OK := by
    rw [Lane.testGateStatus, if_neg hboth, if_neg (not_not.mpr hon), if_neg (by omega)]
  rw [Lane.testGateWrite, if_neg hboth, if_pos hok]
  simp

end Moves

/-- The row of a fitted phase reaches every lane that computes. -/
theorem State.lane_atPhase {s : State} {i : LaneId} {p : Nat} (hp : p < s.chassis.variant.phases) (ha : (s.lane i).active = true)
    (f : Lane → Lane) : (s.atPhase p f).lane i = f (s.lane i) := by
  rw [State.atPhase, if_pos hp, State.lane_both, if_pos ha]

/-- Settles O6, move by move. -/
theorem phaseMoves : Obligations.PhaseMoves := by
  unfold Obligations.PhaseMoves
  intro s i p hp ha
  have hlane := State.lane_atPhase hp ha
  refine ⟨fun hst hfull => does_of_next rfl ?_, fun hst hzero => does_of_next rfl ?_, fun hst hready hprep =>
    ⟨fun hearly => does_of_next rfl ?_, fun hlate => does_of_next rfl ?_⟩, fun hst hmet => ⟨fun hon => does_of_next rfl ?_,
    fun hoff => does_of_next rfl ?_⟩, does_of_next rfl ?_, fun v hon hboth hlow hhigh => does_of_next rfl ?_,
    fun v hoff hboth => does_of_next rfl ?_, fun v hboth => does_of_next rfl ?_⟩
  all_goals rw [hlane]
  · simp [Lane.joinComplete, hst, hfull]
  · simp [Lane.leaveComplete, hst, hzero]
  · rw [Lane.phaseJoin, if_pos ⟨hst, hready, hprep⟩]
    exact Lane.joinStart_of_early _ p hearly
  · rw [Lane.phaseJoin, if_pos ⟨hst, hready, hprep⟩, ← hst]
    exact Lane.joinStart_of_late _ p hlate
  · exact Lane.rearmDelay_of_met _ p hst hmet hon
  · rw [Lane.rearmDelay, if_neg fun h => hoff h.2.2, hst]
  · simp [Lane.rearmWrite]
  · exact Lane.testGateWrite_of_on _ p hboth hon hlow hhigh
  · exact Lane.testGateWrite_of_off _ p hboth hoff
  · exact Lane.testGateWrite_of_both _ p hboth

end Sys2Proof.Machine
end

section
/-!
07_packs.md: the moves of a pack into `RUN` and into `IDLE`.
-/

namespace Sys2Proof.Machine

open Sys2Proof

/-! ### What a pack's moves set of one phase (R181, R187, R188) -/

/-- What a move of the pack sets of one phase: the points that show its membership, and its record. -/
structure Membership where
  state : Int
  weight : Int
  cause : Int
  record : PhaseSt

/-- The membership of phase `p`. -/
def Lane.membership (l : Lane) (p : Nat) : Membership :=
  ⟨l.p (Ph.memberState p), l.p (Ph.weight p), l.p (Ph.removalCause p), l.phase p⟩

/-- In a running pack at full weight, and armed (R187 step 3). -/
def Membership.Started (m : Membership) : Prop := m.state = msActive ∧ m.weight = 65536 ∧ m.record.arm = true

/-- Removed because its selector has not confirmed (R187 step 1). -/
def Membership.Unconfirmed (m : Membership) : Prop := m.state = msLost ∧ m.cause = 9

/-- Sent `OFF`, disarmed at weight 0 (R188). -/
def Membership.Off (m : Membership) : Prop :=
  m.weight = 0 ∧ ¬ ((m.state = msJoining ∨ m.state = msActive) ∨ m.state = msLeaving) ∧ m.record.arm = false

theorem packPhases_lt {m : UMap Int} {k p : Nat} (h : p ∈ packPhases m k) : p < 512 := by
  simp only [packPhases, cfgUnits, List.mem_map, List.mem_filter, List.mem_filterMap] at h
  obtain ⟨⟨_, v⟩, ⟨⟨e, -, he⟩, -⟩, rfl⟩ := h
  split at he
  · next hunit =>
    cases he
    exact hunit.2.2
  · cases he

theorem Lane.mem_packPhases_of_start {l : Lane} {k p : Nat} (h : p ∈ l.startPhases k) : p ∈ packPhases l.cfg k :=
  (List.mem_filter.mp h).1

/-- The pack's points lie above those of every phase (R195, R196). -/
theorem packPoint_ge (k : Nat) : 0x20000 ≤ Pk.packState k ∧ 0x20000 ≤ Pk.target k ∧ 0x20000 ≤ Pk.capacityA k
    ∧ 0x20000 ≤ Pk.overloadA k ∧ 0x20000 ≤ Pk.startFails k ∧ 0x20000 ≤ Pk.removals k := by
  unfold Pk.packState Pk.target Pk.capacityA Pk.overloadA Pk.startFails Pk.removals
  omega

section OnePhase

variable (l : Lane) (p : Nat)

theorem Lane.membership_setp {p : Nat} (hp : p < 512) {a : Nat} (ha : 0x20000 ≤ a) (v : Int) :
    (l.setp a v).membership p = l.membership p := by
  have hne : Ph.memberState p ≠ a ∧ Ph.weight p ≠ a ∧ Ph.removalCause p ≠ a := by
    unfold Ph.memberState Ph.weight Ph.removalCause
    omega
  simp [Lane.membership, hne]

theorem Lane.membership_recapacity {p : Nat} (hp : p < 512) (k : Nat) : (l.recapacity k).membership p = l.membership p := by
  obtain ⟨-, -, hcap, hover, -⟩ := packPoint_ge k
  exact (Lane.membership_setp _ hp hover _).trans (Lane.membership_setp _ hp hcap _)

theorem Lane.p_recapacity {k a : Nat} (hcap : a ≠ Pk.capacityA k) (hover : a ≠ Pk.overloadA k) :
    (l.recapacity k).p a = l.p a := by
  simp [Lane.recapacity, hcap, hover]

/-- The membership points of one phase are distinct, and none is a point of another phase. -/
theorem membershipPoint_ne :
    (Ph.memberState p ≠ Ph.weight p ∧ Ph.memberState p ≠ Ph.removalCause p ∧ Ph.weight p ≠ Ph.memberState p
      ∧ Ph.memberState p ≠ Ph.removals p ∧ Ph.removalCause p ≠ Ph.removals p)
    ∧ ∀ q, p ≠ q → ∀ a ∈ [Ph.memberState q, Ph.weight q, Ph.removalCause q, Ph.removals q],
      Ph.memberState p ≠ a ∧ Ph.weight p ≠ a ∧ Ph.removalCause p ≠ a := by
  simp only [Ph.memberState, Ph.weight, Ph.removalCause, Ph.removals, List.forall_mem_cons]
  refine ⟨by omega, fun q hq => ?_⟩
  simp only [List.not_mem_nil, false_implies, implies_true, and_true]
  omega

theorem Lane.membership_startPhase : ((l.startPhase p).membership p).Started := by
  obtain ⟨⟨hstate, -⟩, -⟩ := membershipPoint_ne p
  simp [Lane.startPhase, Lane.membership, Membership.Started, PhaseSt.armed, hstate.symm]

theorem Lane.membership_startPhase_other {q : Nat} (hq : p ≠ q) : (l.startPhase q).membership p = l.membership p := by
  have hne := (membershipPoint_ne p).2 q hq
  simp only [List.forall_mem_cons] at hne
  simp [Lane.startPhase, Lane.membership, hq, hne]

/-- What sending a pack `OFF` does to one phase (R188). -/
def Lane.phaseOff (p : Nat) (l : Lane) : Lane :=
  let l1 := (l.disarm p).setp (Ph.weight p) 0
  if l1.switching p then l1.setp (Ph.memberState p) msParked else l1

theorem Lane.p_disarm (q a : Nat) : (l.disarm q).p a = l.p a := by
  unfold Lane.disarm
  dsimp only
  split <;> simp

theorem Lane.phase_disarm_arm : ((l.disarm p).phase p).arm = false := by
  unfold Lane.disarm
  dsimp only
  split
  · simp
  · next h => simpa using h

theorem Lane.membership_phaseOff : ((l.phaseOff p).membership p).Off := by
  obtain ⟨⟨-, -, hweight, -⟩, -⟩ := membershipPoint_ne p
  unfold Lane.phaseOff
  extract_lets l1
  have harm : (l1.phase p).arm = false := by simpa [l1] using l.phase_disarm_arm p
  have hzero : l1.p (Ph.weight p) = 0 := by simp [l1]
  split
  · simp [Lane.membership, Membership.Off, harm, hzero, hweight]
    decide
  · next hsw =>
    refine ⟨hzero, ?_, harm⟩
    simpa [Lane.membership, Lane.switching] using hsw

theorem Lane.membership_phaseOff_other {q : Nat} (hq : p ≠ q) : (l.phaseOff q).membership p = l.membership p := by
  have hne := (membershipPoint_ne p).2 q hq
  simp only [List.forall_mem_cons] at hne
  have hrecord : (l.disarm q).phase p = l.phase p := by
    unfold Lane.disarm
    dsimp only
    split <;> simp [hq]
  unfold Lane.phaseOff
  dsimp only
  split <;> simp [Lane.membership, hne, Lane.p_disarm, hrecord]

theorem Lane.p_phaseOff {q a : Nat} (hq : q < 512) (ha : 0x20000 ≤ a) : (l.phaseOff q).p a = l.p a := by
  have hne : a ≠ Ph.weight q ∧ a ≠ Ph.memberState q := by
    unfold Ph.weight Ph.memberState
    omega
  unfold Lane.phaseOff
  dsimp only
  split <;> simp [hne, Lane.p_disarm]

theorem Lane.membership_loseUnconfirmed {p : Nat} (hp : p < 512) : ((l.loseUnconfirmed p).membership p).Unconfirmed := by
  obtain ⟨⟨-, hcause, -, hcount, hcount'⟩, -⟩ := membershipPoint_ne p
  unfold Lane.loseUnconfirmed
  extract_lets l1 x l2
  have h2 : (l2.membership p).Unconfirmed := by
    simp [l2, x, l1, Lane.membership, Membership.Unconfirmed, hcause, hcount, hcount']
  split
  · exact h2
  · next k _ =>
    obtain ⟨-, -, -, -, -, hrem⟩ := packPoint_ge k
    exact (Lane.membership_setp l2 hp hrem _).symm ▸ h2

theorem Lane.membership_loseUnconfirmed_other {p q : Nat} (hp : p < 512) (hq : p ≠ q) :
    (l.loseUnconfirmed q).membership p = l.membership p := by
  have hne := (membershipPoint_ne p).2 q hq
  simp only [List.forall_mem_cons] at hne
  unfold Lane.loseUnconfirmed
  extract_lets l1 x l2
  have h2 : l2.membership p = l.membership p := by simp [l2, x, l1, Lane.membership, hne, hq]
  split
  · exact h2
  · next k _ =>
    obtain ⟨-, -, -, -, -, hrem⟩ := packPoint_ge k
    exact (Lane.membership_setp l2 hp hrem _).trans h2

theorem Lane.loseUnconfirmed_inside_plant (hp : p < 512) : LaneUnit.allPhases.Inside (Lane.loseUnconfirmed p) := by
  intro l
  have hown := LaneUnit.plant_own_phase hp (P := fun _ => true) rfl
  unfold Lane.loseUnconfirmed
  extract_lets l1 x l2
  have h2 : LaneUnit.allPhases.outside l2 = LaneUnit.allPhases.outside l := by simp [l2, x, l1, hown]
  split
  · exact h2
  · next k hk => simp [LaneUnit.plant_own_pack (packOf_lt hk), h2]

end OnePhase

/-! ### The same step on several phases -/

section Several

variable {f : Nat → Lane → Lane} {ps : List Nat} {p : Nat}
  (hother : ∀ q, p ≠ q → ∀ l : Lane, (f q l).membership p = l.membership p)

include hother

theorem Lane.membership_forL_of_notMem (hp : p ∉ ps) (l : Lane) : (l.forL ps f).membership p = l.membership p :=
  List.foldlRecOn (motive := fun m => Lane.membership m p = l.membership p) ps _ rfl fun m hm q hq =>
    (hother q (fun h => hp (h ▸ hq)) m).trans hm

/-- What the step gives the phase stays, whether or not the list names the phase again. -/
theorem Lane.membership_forL_of_mem {Q : Membership → Prop} (hself : ∀ l : Lane, Q ((f p l).membership p)) (hp : p ∈ ps) (l : Lane) :
    Q ((l.forL ps f).membership p) := by
  obtain ⟨before, after, rfl⟩ := List.append_of_mem hp
  rw [Lane.forL, List.foldl_append, List.foldl_cons]
  refine List.foldlRecOn (motive := fun m => Q (Lane.membership m p)) after _ (hself _) fun m hm q _ => ?_
  by_cases hq : p = q
  · exact hq ▸ hself m
  · exact (hother q hq m).symm ▸ hm

end Several

/-! ### The pack in `IDLE` (R187, R188) -/

section Off

variable (l : Lane) (k : Nat)

theorem Lane.packOff_idle : (l.packOff k).p (Pk.packState k) = pkIdle := by
  have hne : Pk.packState k ≠ Pk.capacityA k ∧ Pk.packState k ≠ Pk.overloadA k ∧ Pk.packState k ≠ Pk.target k := by
    simp [Pk.packState, Pk.capacityA, Pk.overloadA, Pk.target]
  simp [Lane.packOff, Lane.p_recapacity, hne]

theorem Lane.packOff_startFails : (l.packOff k).p (Pk.startFails k) = l.p (Pk.startFails k) := by
  have hne : Pk.startFails k ≠ Pk.capacityA k ∧ Pk.startFails k ≠ Pk.overloadA k ∧ Pk.startFails k ≠ Pk.target k
      ∧ Pk.startFails k ≠ Pk.packState k := by
    simp [Pk.startFails, Pk.packState, Pk.capacityA, Pk.overloadA, Pk.target]
  obtain ⟨-, -, -, -, hfails, -⟩ := packPoint_ge k
  have hphases : (l.forL (packPhases l.cfg k) Lane.phaseOff).p (Pk.startFails k) = l.p (Pk.startFails k) :=
    List.foldlRecOn (motive := fun m => Lane.p m (Pk.startFails k) = l.p (Pk.startFails k)) _ _ rfl fun m hm q hq =>
      (m.p_phaseOff (packPhases_lt hq) hfails).trans hm
  rw [Lane.packOff, Lane.p_recapacity _ hne.1 hne.2.1]
  simp only [Lane.setPack_read, Lane.p_setp, hne, if_false]
  exact hphases

/-- Every phase of a pack in `IDLE` is off. -/
theorem Lane.packOff_membership {p : Nat} (hp : p ∈ packPhases l.cfg k) : ((l.packOff k).membership p).Off := by
  obtain ⟨hstate, htarget, -⟩ := packPoint_ge k
  have hlt := packPhases_lt hp
  unfold Lane.packOff
  dsimp only
  rw [Lane.membership_recapacity _ hlt]
  change (Lane.membership ((Lane.setp _ _ _).setp _ _) p).Off
  rw [Lane.membership_setp _ hlt htarget, Lane.membership_setp _ hlt hstate]
  exact Lane.membership_forL_of_mem (f := Lane.phaseOff) (fun q hq m => m.membership_phaseOff_other p hq)
    (fun m => m.membership_phaseOff p) hp l

theorem Lane.packStartFail_counted : (l.packStartFail k).p (Pk.packState k) = pkIdle
    ∧ (l.packStartFail k).p (Pk.startFails k) = l.p (Pk.startFails k) + 1 := by
  have hne : Pk.packState k ≠ Pk.startFails k := by simp [Pk.packState, Pk.startFails]
  simp [Lane.packStartFail, hne, Lane.packOff_idle, Lane.packOff_startFails]

end Off

/-! ### The pack in `RUN` (R187) -/

section Run

variable (l : Lane) (k : Nat)

/-- The phases that a start takes in: those waited for that have confirmed and may be armed. -/
def Lane.startable : List Nat := (l.startPhases k).filter (fun p => l.selectorConfirmed p && l.startAllowed p)

theorem Lane.packEnterRun_of_few (hfew : (l.startable k).length < l.fewest k) : l.packEnterRun k = l.packStartFail k :=
  if_pos hfew

theorem Lane.packEnterRun_running (hfew : l.fewest k ≤ (l.startable k).length) :
    (l.packEnterRun k).p (Pk.packState k) = pkRun ∧ (l.packEnterRun k).p (Pk.target k) = 0 := by
  have hne : Pk.packState k ≠ Pk.capacityA k ∧ Pk.packState k ≠ Pk.overloadA k ∧ Pk.packState k ≠ Pk.target k
      ∧ Pk.target k ≠ Pk.capacityA k ∧ Pk.target k ≠ Pk.overloadA k := by
    simp [Pk.packState, Pk.capacityA, Pk.overloadA, Pk.target]
  have hrun : ¬ (l.startable k).length < l.fewest k := by omega
  rw [Lane.startable] at hrun
  simp [Lane.packEnterRun, hrun, Lane.p_recapacity, hne]

/-- Entering `RUN` gives the phases what their own start gives them. -/
theorem Lane.packEnterRun_membership (hfew : l.fewest k ≤ (l.startable k).length) {p : Nat} (hp : p < 512) :
    (l.packEnterRun k).membership p = (l.forL (l.startable k) Lane.startPhase).membership p := by
  obtain ⟨hstate, htarget, -⟩ := packPoint_ge k
  have hrun : ¬ (l.startable k).length < l.fewest k := by omega
  rw [Lane.packEnterRun, ← Lane.startable, if_neg hrun, Lane.membership_recapacity _ hp]
  exact (Lane.membership_setp _ hp htarget _).trans (Lane.membership_setp _ hp hstate _)

theorem Lane.packEnterRun_started (hfew : l.fewest k ≤ (l.startable k).length) {p : Nat} (hp : p ∈ l.startable k) :
    ((l.packEnterRun k).membership p).Started := by
  rw [l.packEnterRun_membership k hfew (packPhases_lt (Lane.mem_packPhases_of_start (List.mem_filter.mp hp).1))]
  exact Lane.membership_forL_of_mem (fun q hq m => m.membership_startPhase_other p hq) (fun m => m.membership_startPhase p) hp l

theorem Lane.packEnterRun_other (hfew : l.fewest k ≤ (l.startable k).length) {p : Nat} (hlt : p < 512) (hp : p ∉ l.startable k) :
    (l.packEnterRun k).membership p = l.membership p := by
  rw [l.packEnterRun_membership k hfew hlt]
  exact Lane.membership_forL_of_notMem (fun q hq m => m.membership_startPhase_other p hq) hp l

/-- Once all have confirmed, a start takes in those that may be armed. -/
theorem Lane.startable_of_confirmed (hall : (l.startPhases k).all (fun p => l.selectorConfirmed p && !(l.phase p).frozen) = true) :
    l.startable k = (l.startPhases k).filter l.startAllowed := by
  refine List.filter_congr fun p hp => ?_
  have hconfirmed := (Bool.and_eq_true_iff.mp (List.all_eq_true.mp hall p hp)).1
  rw [hconfirmed, Bool.true_and]

end Run

/-! ### The time limit of a start (R187 step 1) -/

section Timeout

/-- Lanes that differ only in what phases and packs hold judge a phase alike at a start, where its own record is the same. -/
theorem Lane.start_congr {l m : Lane} {p : Nat} (hplant : LaneUnit.allPhases.outside m = LaneUnit.allPhases.outside l) :
    m.selectorConfirmed p = l.selectorConfirmed p ∧ m.fitted p = l.fitted p ∧ m.c (Ph.phaseEnable p) = l.c (Ph.phaseEnable p)
    ∧ m.scaleBad p = l.scaleBad p ∧ (m.phase p = l.phase p → m.startAllowed p = l.startAllowed p) := by
  have hrest := LaneUnit.rest_eq _ hplant
  have hcfg : m.cfg = l.cfg := (congrArg Lane.cfg hrest :)
  have hepoch : m.epoch = l.epoch := (congrArg Lane.epoch hrest :)
  have hkept : ∀ h, l.KeepsHub h [] m := fun h => Lane.keepsHub_of_plant hplant
  have hhub : ∀ h, m.hub h = l.hub h := fun h => (hkept h).hub
  have hpoints : ∀ h, m.p (Hub.iFs h) = l.p (Hub.iFs h) ∧ m.p (Hub.vFs h) = l.p (Hub.vFs h) ∧ m.p (Hub.blind h) = l.p (Hub.blind h)
      ∧ m.p (Hub.linkState h) = l.p (Hub.linkState h) ∧ m.p (Hub.phasesFitted h) = l.p (Hub.phasesFitted h) := by
    intro h
    refine ⟨?_, ?_, ?_, ?_, ?_⟩
    all_goals exact (hkept h).points _ (by simp) (by simp)
  have hc : ∀ a, m.c a = l.c a := fun a => congrArg (cfgAt · a) hcfg
  have hcn : ∀ a, m.cn a = l.cn a := fun a => congrArg Int.toNat (hc a)
  refine ⟨?_, ?_, hc _, ?_, fun hphase => ?_⟩
  · simp only [Lane.selectorConfirmed, Lane.contactorOf, hcfg, hhub]
  · simp only [Lane.fitted, Lane.pn, hpoints]
  · simp only [Lane.scaleBad, Lane.fitted, Lane.pn, hpoints, hcfg, hhub, hc]
  · have htrips : m.tripsInWindow p = l.tripsInWindow p := by simp only [Lane.tripsInWindow, hphase, hcn, hepoch]
    have hlimit : m.withinLimit p = l.withinLimit p := by simp only [Lane.withinLimit, hphase, hcn, htrips]
    have hlatch : m.latchMet p = l.latchMet p := by simp only [Lane.latchMet, hphase, hhub, hc, hlimit]
    simp only [Lane.startAllowed, hlatch, hphase, hhub, hpoints, hcn]

variable (l : Lane) (k : Nat)

/-- The phases waited for that have not reported their position. -/
def Lane.unconfirmed : List Nat := (l.startPhases k).filter (fun p => !l.selectorConfirmed p)

/-- The lane without them. -/
def Lane.withoutUnconfirmed : Lane := l.forL (l.unconfirmed k) Lane.loseUnconfirmed

theorem Lane.withoutUnconfirmed_plant :
    LaneUnit.allPhases.outside (l.withoutUnconfirmed k) = LaneUnit.allPhases.outside l :=
  LaneUnit.outside_forL _ _ (fun p hp =>
    Lane.loseUnconfirmed_inside_plant p (packPhases_lt (Lane.mem_packPhases_of_start (List.mem_filter.mp hp).1))) l

theorem Lane.withoutUnconfirmed_cfg : (l.withoutUnconfirmed k).cfg = l.cfg :=
  (congrArg Lane.cfg (LaneUnit.rest_eq _ (l.withoutUnconfirmed_plant k)) :)

theorem Lane.withoutUnconfirmed_lost {p : Nat} (hp : p ∈ l.unconfirmed k) : ((l.withoutUnconfirmed k).membership p).Unconfirmed := by
  have hlt := packPhases_lt (Lane.mem_packPhases_of_start (List.mem_filter.mp hp).1)
  exact Lane.membership_forL_of_mem (fun q hq m => m.membership_loseUnconfirmed_other hlt hq)
    (fun m => m.membership_loseUnconfirmed hlt) hp l

theorem Lane.withoutUnconfirmed_fewest : (l.withoutUnconfirmed k).fewest k = l.fewest k := by
  simp only [Lane.fewest, Lane.cn, Lane.c, Lane.nCfg, Lane.withoutUnconfirmed_cfg]

/-- The removal of phases that have not confirmed leaves those that a start takes in. -/
theorem Lane.startable_withoutUnconfirmed : (l.withoutUnconfirmed k).startable k = l.startable k := by
  unfold Lane.startable Lane.startPhases
  rw [List.filter_filter, List.filter_filter, Lane.withoutUnconfirmed_cfg]
  refine List.filter_congr fun p hp => ?_
  obtain ⟨hconfirmed, hfitted, henable, hscale, hallowed⟩ := Lane.start_congr (p := p) (l.withoutUnconfirmed_plant k)
  rw [hconfirmed, hfitted, henable, hscale]
  by_cases hun : p ∈ l.unconfirmed k
  · have hnot : l.selectorConfirmed p = false := by simpa using (List.mem_filter.mp hun).2
    simp only [hnot, Bool.false_and]
  · have hsame : (l.withoutUnconfirmed k).membership p = l.membership p :=
      Lane.membership_forL_of_notMem (fun q hq m => m.membership_loseUnconfirmed_other (packPhases_lt hp) hq) hun l
    have hstate : (l.withoutUnconfirmed k).p (Ph.memberState p) = l.p (Ph.memberState p) := congrArg Membership.state hsame
    rw [hallowed (congrArg Membership.record hsame), hstate]

theorem Lane.packMatrixTimeout_of_due (hst : l.p (Pk.packState k) = pkClosing)
    (hdue : (l.pack k).reqLap + l.cn (Pk.matrixTimeoutMs k) * 200 ≤ l.lap) :
    l.packMatrixTimeout k = (l.withoutUnconfirmed k).packEnterRun k :=
  if_pos ⟨hst, by omega⟩

/-- A phase that has not confirmed stays removed as the pack enters `RUN`. -/
theorem Lane.packMatrixTimeout_lost (hfew : l.fewest k ≤ (l.startable k).length) {p : Nat} (hp : p ∈ l.unconfirmed k) :
    (((l.withoutUnconfirmed k).packEnterRun k).membership p).Unconfirmed := by
  obtain ⟨hwaited, hnot⟩ := List.mem_filter.mp hp
  have hout : p ∉ (l.withoutUnconfirmed k).startable k := by
    rw [Lane.startable_withoutUnconfirmed]
    intro h
    have hconfirmed := (Bool.and_eq_true_iff.mp (List.mem_filter.mp h).2).1
    simp [hconfirmed] at hnot
  rw [Lane.packEnterRun_other _ _ (by rwa [Lane.withoutUnconfirmed_fewest, Lane.startable_withoutUnconfirmed])
    (packPhases_lt (Lane.mem_packPhases_of_start hwaited)) hout]
  exact l.withoutUnconfirmed_lost k hp

end Timeout

/-! ### The rows of a pack -/

/-- What shows the outputs leaves the records of phases and every point below domain 7. -/
theorem State.lane_drive_plant (s : State) (i : LaneId) :
    (s.drive.lane i).phases = (s.lane i).phases ∧ ∀ a < 0x70000, (s.drive.lane i).p a = (s.lane i).p a := by
  refine (LaneRel.drive (R := fun _ l m => m.phases = l.phases ∧ ∀ a < 0x70000, m.p a = l.p a) s
    fun _ l driven pulsed tripped n => ?_).2 i
  have hfell : ∀ (o : Nat) (l : Lane) (v : Int), ((l.outputsFell driven tripped o).setp (Saf.outState o) v).phases = l.phases
      ∧ ∀ a < 0x70000, ((l.outputsFell driven tripped o).setp (Saf.outState o) v).p a = l.p a := by
    intro o l v
    have hne : ∀ a < 0x70000, a ≠ Saf.outState o ∧ a ≠ Saf.backupDischarges o := by
      unfold Saf.outState Saf.backupDischarges
      omega
    unfold Lane.outputsFell
    dsimp only
    refine ⟨?_, fun a ha => ?_⟩
    · split_ifs <;> simp
    · rw [Lane.p_setp, if_neg (hne a ha).1]
      split_ifs <;> simp [hne a ha]
  have hsafe : ∀ a < 0x70000, a ≠ SafM.safeOutState := by
    unfold SafM.safeOutState
    omega
  unfold Lane.showOutputs Lane.forN
  simp only [Lane.safeBang_read, Lane.safeBang_frame]
  refine List.foldlRecOn (motive := fun m : Lane => m.phases = l.phases ∧ ∀ a < 0x70000, m.p a = l.p a) _ _
    ⟨by simp, fun a ha => by simp [hsafe a ha]⟩ fun m hm o _ => ?_
  exact ⟨(hfell o m _).1.trans hm.1, fun a ha => ((hfell o m _).2 a ha).trans (hm.2 a ha)⟩

section Rows

variable {s : State} {i : LaneId} {k : Nat} (hk : k < s.chassis.variant.packs)

include hk

/-- The row of a pack of the variant reaches every lane that computes. -/
theorem State.lane_atPack (ha : (s.lane i).active = true) (f : Lane → Lane) : (s.atPack k f).lane i = f (s.lane i) := by
  rw [State.atPack, if_pos hk, State.lane_both, if_pos ha]

theorem packPoint_lt : Pk.packState k < 0x70000 ∧ Pk.target k < 0x70000 := by
  have hpacks : s.chassis.variant.packs ≤ 64 := by cases s.chassis.variant <;> decide
  unfold Pk.packState Pk.target
  omega

/-- A row that shows the outputs as well leaves what it does to the pack. -/
theorem State.lane_atPack_drive (ha : (s.lane i).active = true) (f : Lane → Lane) :
    ((s.atPack k f).drive.lane i).p (Pk.packState k) = (f (s.lane i)).p (Pk.packState k)
    ∧ ((s.atPack k f).drive.lane i).p (Pk.target k) = (f (s.lane i)).p (Pk.target k)
    ∧ ∀ p < 512, ((s.atPack k f).drive.lane i).membership p = (f (s.lane i)).membership p := by
  obtain ⟨hphases, hpoints⟩ := (s.atPack k f).lane_drive_plant i
  obtain ⟨hstate, htarget⟩ := packPoint_lt hk
  rw [State.lane_atPack hk ha] at hphases hpoints
  refine ⟨hpoints _ hstate, hpoints _ htarget, fun p hp => ?_⟩
  have hlt : Ph.memberState p < 0x70000 ∧ Ph.weight p < 0x70000 ∧ Ph.removalCause p < 0x70000 := by
    unfold Ph.memberState Ph.weight Ph.removalCause
    omega
  simp only [Lane.membership, Lane.phase, hphases, hpoints _ hlt.1, hpoints _ hlt.2.1, hpoints _ hlt.2.2]

end Rows

/-- A phase that is off does not switch (R181). -/
theorem Lane.switching_of_off {l : Lane} {p : Nat} (h : (l.membership p).Off) : l.switching p = false := by
  obtain ⟨-, hstate, -⟩ := h
  simpa [Lane.switching, Lane.membership] using hstate

/-- Settles O7: a confirmed start, one at its time limit, and a completed stop. -/
theorem packMoves : Obligations.PackMoves := by
  unfold Obligations.PackMoves
  intro s i k hk ha
  refine ⟨fun hst hall => ⟨fun hfew => does_of_next rfl ?_, fun hfew => does_of_next rfl ?_⟩,
    fun hst hdue hfew => does_of_next rfl ?_, fun hst hdue => does_of_next rfl ?_⟩
  · rw [State.lane_atPack hk ha, Lane.packRunStart, if_pos ⟨hst, hall⟩]
    rw [← Lane.startable_of_confirmed _ _ hall] at hfew
    obtain ⟨hrun, htarget⟩ := (s.lane i).packEnterRun_running k hfew
    refine ⟨hrun, htarget, fun p hp hallowed => (s.lane i).packEnterRun_started k hfew ?_⟩
    rw [Lane.startable_of_confirmed _ _ hall]
    exact List.mem_filter.mpr ⟨hp, hallowed⟩
  · rw [State.lane_atPack hk ha, Lane.packRunStart, if_pos ⟨hst, hall⟩]
    rw [← Lane.startable_of_confirmed _ _ hall] at hfew
    rw [Lane.packEnterRun_of_few _ _ hfew]
    exact (s.lane i).packStartFail_counted k
  · obtain ⟨hstate, htarget, hphases⟩ := State.lane_atPack_drive hk ha (Lane.packMatrixTimeout k)
    rw [Lane.packMatrixTimeout_of_due _ _ hst hdue] at hstate htarget hphases
    obtain ⟨hrun, hzero⟩ := ((s.lane i).withoutUnconfirmed k).packEnterRun_running k
      (by rwa [Lane.withoutUnconfirmed_fewest, Lane.startable_withoutUnconfirmed])
    refine ⟨hstate.trans hrun, htarget.trans hzero, fun p hp hnot => ?_⟩
    have hlost := (s.lane i).packMatrixTimeout_lost k hfew (List.mem_filter.mpr ⟨hp, by simp [hnot]⟩)
    rwa [← hphases p (packPhases_lt (Lane.mem_packPhases_of_start hp))] at hlost
  · obtain ⟨hstate, -, hphases⟩ := State.lane_atPack_drive hk ha (Lane.packStopComplete k)
    rw [Lane.packStopComplete, if_pos ⟨hst, hdue.imp_right fun h => by omega⟩] at hstate hphases
    refine ⟨hstate.trans ((s.lane i).packOff_idle k), fun p hp => ?_⟩
    have hoff := (s.lane i).packOff_membership k hp
    rw [← hphases p (packPhases_lt hp)] at hoff
    have hstill := Lane.switching_of_off hoff
    obtain ⟨hweight, -, harm⟩ := hoff
    exact ⟨hweight, hstill, harm⟩

end Sys2Proof.Machine
end

section
/-!
08_power_allocation.md: the allocation round, and the exchange with the relay team.
-/

namespace Sys2Proof.Machine

open Sys2Proof

/-! ### The results of a round (R206, R208) -/

/-- The lane shows a node's allocation, cap and want (R200). -/
def Lane.ShowsNode (l : Lane) (x : Nat) (n : NodeOut) : Prop :=
  l.p (Pool.allocW x) = n.alloc ∧ l.p (Pool.capW x) = n.cap ∧ l.p (Pool.wantW x) = n.want

section Round

variable (l : Lane) (x : Nat) (n : NodeOut)

/-- A node's results are written to points of its own, numbered 0x20 to 0x2D. -/
theorem Lane.writeNode_p_other {a : Nat} (ha : a < 0x40020 + 256 * x ∨ 0x4002D + 256 * x < a) : (l.writeNode x n).p a = l.p a := by
  have hne : ∀ d ≤ 13, a ≠ 0x40020 + d + 256 * x := fun d hd => by omega
  have hpoints : a ≠ Pool.capW x ∧ a ≠ Pool.wantW x ∧ a ≠ Pool.demandW x ∧ a ≠ Pool.allocW x ∧ a ≠ Pool.meterW x ∧ a ≠ Pool.bgW x
      ∧ a ≠ Pool.meterState x ∧ a ≠ Pool.binding x ∧ a ≠ Pool.vAllocMv x ∧ a ≠ Pool.allocA x ∧ a ≠ Pool.setA x
      ∧ a ≠ Pool.limitedRounds x ∧ a ≠ Pool.fallbackRounds x ∧ a ≠ Pool.depth x :=
    ⟨hne 0 (by decide), hne 1 (by decide), hne 2 (by decide), hne 3 (by decide), hne 4 (by decide), hne 5 (by decide), hne 6 (by decide),
      hne 7 (by decide), hne 8 (by decide), hne 9 (by decide), hne 10 (by decide), hne 11 (by decide), hne 12 (by decide),
      hne 13 (by decide)⟩
  unfold Lane.writeNode
  dsimp only
  split_ifs <;> simp [hpoints]

theorem Lane.showsNode_writeNode : (l.writeNode x n).ShowsNode x n := by
  unfold Lane.ShowsNode Lane.writeNode
  dsimp only
  split_ifs <;> simp [Pool.allocW, Pool.capW, Pool.wantW, Pool.demandW, Pool.meterW, Pool.bgW, Pool.meterState, Pool.binding,
    Pool.vAllocMv, Pool.allocA, Pool.setA, Pool.limitedRounds, Pool.fallbackRounds, Pool.depth]

/-- A node's results leave those of every other node. -/
theorem Lane.showsNode_writeNode_other {y : Nat} {r : NodeOut} (hxy : x ≠ y) (h : l.ShowsNode y r) : (l.writeNode x n).ShowsNode y r := by
  unfold Lane.ShowsNode at h ⊢
  rwa [l.writeNode_p_other, l.writeNode_p_other, l.writeNode_p_other]
  all_goals simp only [Pool.allocW, Pool.capW, Pool.wantW]; omega

@[simp] theorem Lane.writeNode_alloc : (l.writeNode x n).alloc = l.alloc := by
  unfold Lane.writeNode
  dsimp only
  split_ifs <;> simp

/-- Pack currents and targets are the round's own record. -/
theorem Lane.packShares_kept : (l.packShares x n).pts = l.pts ∧ (l.packShares x n).alloc.doneEpoch = l.alloc.doneEpoch := by
  unfold Lane.packShares Lane.forL
  split_ifs
  · exact ⟨rfl, rfl⟩
  · exact List.foldlRecOn (motive := fun m : Lane => m.pts = l.pts ∧ m.alloc.doneEpoch = l.alloc.doneEpoch) _ _ ⟨rfl, rfl⟩
      fun _ hm _ _ => hm

/-- What a round puts into its lane for node `x` (R206). -/
def Lane.nodeResult (res : UMap NodeOut) (x : Nat) (l : Lane) : Lane := (l.writeNode x (nodeOut res x)).packShares x (nodeOut res x)

theorem Lane.nodeResult_doneEpoch (res : UMap NodeOut) : (l.nodeResult res x).alloc.doneEpoch = l.alloc.doneEpoch :=
  (Lane.packShares_kept ..).2.trans (congrArg AllocSt.doneEpoch (l.writeNode_alloc x _))

theorem Lane.showsNode_nodeResult (res : UMap NodeOut) {y : Nat} {r : NodeOut} :
    (l.nodeResult res x).ShowsNode y r ↔ (l.writeNode x (nodeOut res x)).ShowsNode y r := by
  simp only [Lane.ShowsNode, Lane.p, Lane.nodeResult, Lane.packShares_kept]

variable (res : UMap NodeOut) (xs : List Nat)

theorem Lane.forL_nodeResult_doneEpoch : (l.forL xs (Lane.nodeResult res)).alloc.doneEpoch = l.alloc.doneEpoch :=
  List.foldlRecOn (motive := fun m : Lane => m.alloc.doneEpoch = l.alloc.doneEpoch) xs _ rfl
    fun m hm x _ => (m.nodeResult_doneEpoch x res).trans hm

/-- Every node of the round shows its own results at the end, also one named twice. -/
theorem Lane.forL_nodeResult_shows {x : Nat} (hx : x ∈ xs) : (l.forL xs (Lane.nodeResult res)).ShowsNode x (nodeOut res x) := by
  obtain ⟨before, after, rfl⟩ := List.append_of_mem hx
  rw [Lane.forL, List.foldl_append, List.foldl_cons]
  have hown : ∀ m : Lane, (m.nodeResult res x).ShowsNode x (nodeOut res x) := fun m =>
    (m.showsNode_nodeResult x res).mpr (m.showsNode_writeNode x _)
  refine List.foldlRecOn (motive := fun m => Lane.ShowsNode m x (nodeOut res x)) after _ (hown _) fun m hm y _ => ?_
  by_cases hy : y = x
  · exact hy ▸ hown m
  · exact (m.showsNode_nodeResult y res).mpr (m.showsNode_writeNode_other y _ hy hm)

/-- A round in laps 8 to 140 of an epoch without one is the epoch's (R206, R208). -/
theorem Lane.allocRound_results (h8 : 8 ≤ l.lapIn) (h140 : l.lapIn ≤ 140) (hnone : l.alloc.doneEpoch ≠ some l.epoch) :
    l.allocRound.alloc.doneEpoch = some l.epoch ∧ l.allocRound.p Al.allocEndLap = l.lapIn
    ∧ ∀ x ∈ usedNodes l.cfg, l.allocRound.ShowsNode x (nodeOut l.roundNodes x) := by
  have hdue : ¬ (l.lapIn < 8 ∨ 140 < l.lapIn ∨ l.alloc.doneEpoch = some l.epoch) := by
    rintro (h | h | h)
    · omega
    · omega
    · exact hnone h
  unfold Lane.allocRound
  rw [if_neg hdue]
  extract_lets res up leaves began l0 l1
  have hl1 : l1 = Lane.forL (usedNodes l.cfg) (Lane.nodeResult res) l0 := rfl
  refine ⟨?_, by simp [Al.allocEndLap, Al.allocEndLapMax], fun x hx => ?_⟩
  · simp only [Lane.setp_frame, hl1, Lane.forL_nodeResult_doneEpoch]
    rfl
  · have hends : ∀ d ≤ 3, 0x40020 + d + 256 * x ≠ Al.allocEndLap ∧ 0x40020 + d + 256 * x ≠ Al.allocEndLapMax := by
      unfold Al.allocEndLap Al.allocEndLapMax
      omega
    have hshown := Lane.forL_nodeResult_shows l0 res _ hx
    rw [← hl1] at hshown
    simpa [Lane.ShowsNode, Pool.allocW, Pool.capW, Pool.wantW, hends 0, hends 1, hends 3] using hshown

/-- A round that has not ended by lap 140 is counted (R35). -/
theorem Lane.allocOverrun_counted (me : LaneId) (h140 : 140 ≤ l.lapIn) (hnone : l.alloc.doneEpoch ≠ some l.epoch) :
    (l.allocOverrun me).p Al.allocOverruns = l.p Al.allocOverruns + 1 ∧ (l.allocOverrun me).packs = l.packs := by
  rw [Lane.allocOverrun, if_pos ⟨h140, hnone⟩]
  simp [Lane.fire_read]

end Round

/-! ### The comparison of the round's digests (R208, R366) -/

@[simp] theorem Lane.mark_allocRun (l : Lane) (bit : Nat) :
    (l.mark bit).link.allocRun = l.link.allocRun ∧ (l.mark bit).link.linkRound = l.link.linkRound := ⟨rfl, rfl⟩

section Digest

variable {s : State} {i : LaneId} (ha : (s.lane i).active = true) (hh : s.holder = some i.other)
  (hst : (s.lane i).link.state = .standby) (hl : (s.lane i).lapIn = 140)
  (hown : (s.lane i).alloc.doneEpoch = some (s.lane i).epoch)
  (hother : (s.lane i.other).alloc.doneEpoch = some (s.lane i.other).epoch)

include ha hh hst hl hown hother

theorem State.allocExchange_of_equal (heq : (s.lane i).allocDigest = (s.lane i.other).allocDigest) :
    s.allocExchange = s.onLane i (fun _ => true) (fun _ _ l => l.lnk (fun x => { x with
        allocRun := 0, linkRound := !x.linkHubs.isEmpty })) := by
  simp [State.allocExchange, hh, ha, hst, hl, hown, hother, heq, LaneState.inStep]

/-- The first difference that no link error explains. -/
theorem State.allocExchange_of_differ (hne : (s.lane i).allocDigest ≠ (s.lane i.other).allocDigest)
    (hrun : (s.lane i).link.allocRun = 0) (hlink : (s.lane i).link.linkRound = false)
    (hrx : rxDiffers (s.lane i.other) (s.lane i) = false) :
    (s.allocExchange.lane i).link.allocRun = 1
    ∧ (s.allocExchange.lane i).p Al.allocDigestMismatch = (s.lane i).p Al.allocDigestMismatch + 1 := by
  generalize ht : s.allocExchange = t
  unfold State.allocExchange at ht
  rw [hh] at ht
  dsimp -zeta only at ht
  rw [LaneId.other_other] at ht
  extract_lets beside l m s1 at ht
  have hcounted : (s1.lane i).link.allocRun = 1
      ∧ (s1.lane i).p Al.allocDigestMismatch = (s.lane i).p Al.allocDigestMismatch + 1 := by
    simp [s1, beside, m, State.lane_onLane, hrun, hlink, hrx]
  have hcompared : ¬ (!(l.active && (l.link.state.inStep || decide (l.link.phase = .shadow))) || decide (l.lapIn ≠ 140)
      || decide (l.alloc.doneEpoch ≠ some l.epoch) || decide (m.alloc.doneEpoch ≠ some m.epoch)) = true := by
    simp [l, m, beside, ha, hst, LaneState.inStep, hl, hown, hother]
  have hfirst : ¬ (2 ≤ (s1.lane beside).link.allocRun ∧ s.mixed = false) := by
    rw [show beside = i from rfl, hcounted.1]
    omega
  rw [if_neg hcompared, if_neg hne, if_neg hfirst] at ht
  exact ht ▸ hcounted

end Digest

/-! ### The load of the targets (R211) -/

/-- The records of the packs are as before. -/
def Lane.SamePacks (l m : Lane) : Prop := m.packs = l.packs

theorem Lane.SamePacks.pack {l m : Lane} (h : l.SamePacks m) (k : Nat) : m.pack k = l.pack k :=
  congrArg (fun ps => UMap.get (fun _ => ({} : PackSt)) ps k) h

theorem LaneRel.samePacks : LaneRel (fun _ => Lane.SamePacks) :=
  ⟨fun h => (congrArg Lane.packs h.eq :), fun h h' => h'.trans h⟩

section Targets

variable (l : Lane)

/-- What sends frames to the team leaves the packs. -/
theorem Lane.teamKey_packs (k : Nat) : (l.teamKey k).1.packs = l.packs := by
  unfold Lane.teamKey Lane.askKey Lane.keyDelivery Lane.deriveKey Lane.keyPoints Lane.setSlotKey
  dsimp only
  repeat' split
  all_goals simp

theorem Lane.samePacks_teamSend (k kind net dest : Nat) (body : List Field) : l.SamePacks (l.teamSend k kind net dest body) := by
  have hkey := l.teamKey_packs k
  unfold Lane.teamSend
  dsimp only
  split_ifs <;> exact hkey

theorem Lane.samePacks_roundFrames : l.SamePacks l.roundFrames := by
  have hR := LaneRel.samePacks
  unfold Lane.roundFrames
  split
  · rfl
  · refine hR.forL .A _ _ (fun k m => ?_) l
    extract_lets round
    split
    · split
      · exact m.samePacks_teamSend ..
      · rfl
    · exact hR.forL .A _ _ (fun x m => m.samePacks_teamSend ..) m

/-- At lap 150 every pack takes the round's target (R211). -/
theorem Lane.targetLoad_target (hl : l.lapIn = 150) (hdone : l.alloc.doneEpoch = some l.epoch) {k : Nat} (hk : k < 64) :
    (l.targetLoad.pack k).allocTarget = UMap.get (fun _ => 0) l.alloc.packTargets k := by
  have hR := LaneRel.samePacks
  unfold Lane.targetLoad
  rw [if_neg (by simp [hl, hdone])]
  extract_lets l1 leaves named l2 offered l3
  have hl1 : (l1.pack k).allocTarget = UMap.get (fun _ => 0) l.alloc.packTargets k := by
    obtain ⟨m, hm, hlast⟩ := Lane.forN_only (fun l => ((l.pack k).allocTarget, l.alloc)) hk
      (f := fun k l => l.setPack k { l.pack k with allocTarget := UMap.get (fun _ => 0) l.alloc.packTargets k })
      (fun j _ hj m => by simp [hj.symm]) l
    have halloc : m.alloc = l.alloc := congrArg Prod.snd hm
    simpa [halloc] using congrArg Prod.fst hlast
  have h12 : l1.SamePacks l2 := hR.forL .A _ _ (fun _ m => by simp [Lane.SamePacks]) l1
  have h23 : l2.SamePacks l3 := rfl
  refine (congrArg PackSt.allocTarget (Lane.SamePacks.pack (l := l1) ?_ k)).trans hl1
  exact (hR.forL .A _ _ (fun _ m => by simp [Lane.SamePacks]) l3 : l3.SamePacks _).trans (h23.trans h12)

theorem Lane.samePacks_showOutputs (driven pulsed tripped : Nat → Bool) (n : Nat) :
    l.SamePacks (l.showOutputs driven pulsed tripped n) := by
  unfold Lane.showOutputs Lane.forN
  refine List.foldlRecOn (motive := l.SamePacks) _ _ rfl fun m hm o _ => ?_
  refine Eq.trans ?_ hm
  unfold Lane.outputsFell
  dsimp only
  split_ifs <;> simp

end Targets

/-- Settles O8: the round, its overrun, the standby's comparison of digests, and the load of the targets. -/
theorem allocationRows : Obligations.AllocationRows := by
  unfold Obligations.AllocationRows
  intro s i ha
  refine ⟨fun h8 h140 hnone => does_of_next rfl ?_, fun h140 hnone => does_of_next rfl ?_, fun hh hst hl hown hother =>
    ⟨fun heq => does_of_next rfl ?_, fun hne hrun hlink hrx => does_of_next rfl ?_⟩, fun hl hdone => does_of_next rfl ?_⟩
  · rw [State.lane_both, if_pos ha]
    exact (s.lane i).allocRound_results h8 h140 hnone
  · have hlane : (s.one i (fun l => l.allocOverrun i)).lane i = (s.lane i).allocOverrun i := by simp [State.lane_one, ha]
    have hrings := fun fired n detail => (LaneRel.ringsOnly.mirror (s.one i (fun l => l.allocOverrun i)) i fired n detail).2 i
    rw [hlane] at hrings
    obtain ⟨hcount, hpacks⟩ := (s.lane i).allocOverrun_counted i h140 hnone
    exact ⟨((hrings ..).p _).trans hcount, (LaneRel.samePacks.rings (i := i) (hrings ..)).trans hpacks⟩
  · simp [State.lane_drive_link, State.allocExchange_of_equal ha hh hst hl hown hother heq, State.lane_onLane]
  · rw [State.lane_drive_link, State.lane_drive_p _ _ _ (by decide)]
    exact State.allocExchange_of_differ ha hh hst hl hown hother hne hrun hlink hrx
  · intro k hk
    have hdrive := (LaneRel.drive (R := fun _ => Lane.SamePacks) (s.both (fun l => l.targetLoad.roundFrames))
      fun _ l driven pulsed tripped n => l.samePacks_showOutputs driven pulsed tripped n).2 i
    rw [hdrive.pack, State.lane_both, if_pos ha, (Lane.samePacks_roundFrames _).pack]
    exact (s.lane i).targetLoad_target hl hdone hk

/-! ### The exchange with the relay team (R215, R216) -/

/-- Lane A at the deadline of a round, with node 0 the top under the team's anchor: 19 allocations in succession are missing, its hold is
the default of 20 rounds, and the cap of the last allocation still stands. -/
def State.twentiethMissing : State :=
  State.heldByA 4 (fun l => ({ l with cfg := [(Pool.kind 0, 1), (Pool.parent 0, 0xFFFFFFFE)] } : Lane).setPool 0
    { missing := 19, teamCap := some 50000 })

/-- Refutes O9: the statement gives the anchor's cap up in the round that makes `team_hold_rounds` of them missing (R215), but the deadline
still bridges that round and gives the cap up in the one after it, as R216 has it for a member's report. -/
theorem not_poolInputs : ¬ Obligations.PoolInputs := by
  unfold Obligations.PoolInputs
  intro h
  obtain ⟨-, -, -, hdeadline⟩ := h State.twentiethMissing .A (by decide +kernel)
  obtain ⟨-, hmissing⟩ := hdeadline 0 rfl rfl (by decide +kernel) (by decide +kernel)
  obtain ⟨-, -, -, hgiven⟩ := of_does (hmissing (by decide +kernel)) rfl
  have hlast : (State.twentiethMissing.lane .A).cn (Pool.teamHoldRounds 0) ≤ ((State.twentiethMissing.lane .A).pool 0).missing + 1 := by
    decide +kernel
  rw [if_pos hlast, State.lane_teamed_of_active _ _ _ rfl (by decide +kernel)] at hgiven
  have hkept : ((State.twentiethMissing.lane .A).teamDeadline.pool 0).teamCap = some 50000 := by decide +kernel
  exact absurd (hkept.symm.trans hgiven) (by decide)

end Sys2Proof.Machine
end

section
/-!
09_cable_cooling.md: the expiry of degraded cooling beside the team's.
-/

namespace Sys2Proof.Machine

open Sys2Proof

/-- Lane A, whose degraded cooling of outlet 0 has run for 60 s while its session stands in `AUTH` and function 1 holds after the team's
degraded time has expired (R334). -/
def State.expiringAfterTeam : State :=
  State.heldByA 0 (fun l => (((l.setp (Out.sessionStep 0) ssAuth).setp (Out.coolState 0) csDegraded).setp
    (Out.degradedElapsedMs 0) 60000).setp (SafM.fnStateMod 1) fnTripped)

/-- The expiry records `cool_expired` and so stops the session, whose end in `UNLATCH` records `safety_stop` as well (R249, R334). -/
theorem degradedExpiry_counts_both :
    ((State.expiringAfterTeam.outletEvent 0 (fun l => l.degradedExpiry 0)).lane .A).p (Out.faults 0)
      = (State.expiringAfterTeam.lane .A).p (Out.faults 0) + 2 := by
  decide +kernel

/-- Refutes O10: the expiry is said to add one fault to the outlet's count, but where function 1 holds after the team's expiry the session
that it stops is held with a second fault, which counts too (R334). -/
theorem not_cooling : ¬ Obligations.Cooling := by
  unfold Obligations.Cooling
  intro h
  obtain ⟨hevents, -⟩ := h
  obtain ⟨-, -, -, hexpiry, -⟩ := hevents State.expiringAfterTeam .A 0 (by decide) (by decide +kernel)
  obtain ⟨-, -, hone⟩ := of_does (hexpiry (by decide +kernel) (by decide +kernel)) rfl
  have heq := degradedExpiry_counts_both.symm.trans hone
  omega

end Sys2Proof.Machine
end

section
/-!
10_outlet_sessions.md: what the statements on vehicle sessions leave out. A connection that is to be dropped carries no request (R386),
a plug cycle may be taken while a session connects (R250), and a session may keep parameters in which its outlet is disabled (R59).
-/

namespace Sys2Proof.Machine

open Sys2Proof

/-! ### A session whose keys are orphaned (R386) -/

/-- While the response before the drop is on its way, no request is taken from the vehicle: the lane is left as it is. -/
theorem Lane.request_of_dropDue {l : Lane} {o : Nat} (h : (l.out o).dropDue = true) (msg : Nat) (g expected : Bool) (f : Lane → Lane) :
    l.request o msg g expected f = l := by
  simp [Lane.request, h]

theorem Lane.cableCheck_of_dropDue {l : Lane} {o : Nat} (h : (l.out o).dropDue = true) (g : Bool) : l.cableCheck o g = l := by
  unfold Lane.cableCheck
  exact Lane.request_of_dropDue h _ _ _ _

/-- Only what is done to the lanes that compute counts of an input that reaches both (R20, R23). -/
theorem State.bothBut_congr {s : State} {missed : Option LaneId} {f f' : Lane → Lane}
    (h : ∀ i, (s.lane i).active = true → f (s.lane i) = f' (s.lane i)) : s.bothBut missed f = s.bothBut missed f' := by
  have hlane : ∀ i, (s.bothBut missed f).lane i = (s.bothBut missed f').lane i := by
    intro i
    rw [State.bothBut, State.bothBut, State.lane_eachLane, State.lane_eachLane]
    by_cases ha : (s.lane i).active = true
    · simp [ha, h i ha]
    · simp [ha]
  have hA : (s.bothBut missed f).a = (s.bothBut missed f').a := hlane .A
  have hB : (s.bothBut missed f).b = (s.bothBut missed f').b := hlane .B
  exact congrArg₂ (fun a b : Lane => { s with a := a, b := b }) hA hB

/-- A request that no computing lane takes, as its connection is to be dropped, does no more than a frame without content. -/
theorem State.message_of_dropDue {s : State} {o : Heard Nat} {f : Bool → Lane → Lane}
    (hdrop : ∀ i, (s.lane i).active = true → ((s.lane i).out o.body).dropDue = true)
    (hf : ∀ g l, (l.out o.body).dropDue = true → f g l = l) : s.message o f = s.message o (fun _ l => l) := by
  unfold State.message State.messageBut State.atOutletBut
  dsimp only
  rw [State.bothBut_congr (f' := fun l => l.setp Pw.clockGate (setBit (l.pn Pw.clockGate) (o.body % 4) false : Nat))
    fun i ha => hf _ _ (by simpa using hdrop i ha)]

/-- Lane A, whose session on outlet 0 has lost its keys in step `st` and closes once the response on its way has gone. -/
def State.dropPending (st : Int) : State :=
  State.heldByA 1000 (fun l => (l.setp (Out.sessionStep 0) st).setOut 0 { tls := { up := true }, resSent := false, dropDue := true })

theorem State.dropPending_dropDue (st : Int) (i : LaneId) (ha : ((State.dropPending st).lane i).active = true) :
    (((State.dropPending st).lane i).out 0).dropDue = true := by
  cases i with
  | A => simp [State.dropPending, State.heldByA, State.lane]
  | B => cases ha

/-- A frame without content leaves the step and the response of the session. -/
theorem State.dropPending_message :
    ∀ st ∈ [ssLink, ssParam, ssCharge], InStep (State.dropPending st) .A 0 st
      ∧ (((State.dropPending st).message ⟨none, 0⟩ (fun _ l => l)).lane .A).ss 0 = st
      ∧ responseOf ((State.dropPending st).message ⟨none, 0⟩ (fun _ l => l)) .A 0 = {} := by
  decide +kernel

/-- What a command that is a request of the vehicle is said to do would hold after a frame without content. -/
theorem State.of_does_dropPending {c : Instr} {st : Int} {P : State → Prop} {f : Bool → Lane → Lane}
    (h : Does c (State.dropPending st) P) (hc : exec c (State.dropPending st) = .next ((State.dropPending st).message ⟨none, 0⟩ f))
    (hf : ∀ g l, (l.out 0).dropDue = true → f g l = l) : P ((State.dropPending st).message ⟨none, 0⟩ (fun _ l => l)) := by
  have hmessage := State.message_of_dropDue (o := ⟨none, 0⟩) (State.dropPending_dropDue st) hf
  exact hmessage ▸ of_does h hc

/-- Refutes O14: in `CHARGE` a cable check is neither refused nor ends the session while it waits to be dropped for its orphaned keys (R386),
which no premise excludes. -/
theorem not_sessionSequence : ¬ Obligations.SessionSequence := by
  unfold Obligations.SessionSequence
  intro h
  obtain ⟨hin, hstep, -⟩ := State.dropPending_message ssCharge (by decide)
  obtain ⟨-, hramp, -⟩ := State.of_does_dropPending
    (h (State.dropPending ssCharge) .A none 0 0 0 (.dcCableCheckReq ⟨none, 0⟩) (by decide) hin (by simp)) rfl
    fun g _ hd => Lane.cableCheck_of_dropDue hd g
  exact absurd (hstep.symm.trans hramp) (by decide)

/-- Refutes O11: the offer of the application protocol in `LINK` is not answered while the session waits to be dropped for its orphaned
keys (R386). -/
theorem not_sessionLink : ¬ Obligations.SessionLink := by
  unfold Obligations.SessionLink
  intro h
  obtain ⟨hin, -, hresponse⟩ := State.dropPending_message ssLink (by decide)
  obtain ⟨houtlet, hactive, -⟩ := id hin
  obtain ⟨-, -, -, hprotocol, -⟩ := h (State.dropPending ssLink) .A 0 houtlet hactive
  obtain ⟨haccepted, -⟩ := hprotocol none [⟨20, 1⟩] (by decide) hin
  obtain ⟨hanswer, -⟩ := State.of_does_dropPending (haccepted (by decide)) rfl fun _ _ hd => Lane.request_of_dropDue hd _ _ _ _
  exact absurd (congrArg SegRes.msg (hresponse.symm.trans hanswer)) (by decide)

/-- Refutes O12: a session setup in `LINK` does not enter `AUTH` while the session waits to be dropped for its orphaned keys (R386). -/
theorem not_sessionParameters : ¬ Obligations.SessionParameters := by
  unfold Obligations.SessionParameters
  intro h
  obtain ⟨hin, hstep, -⟩ := State.dropPending_message ssLink (by decide)
  obtain ⟨hsetup, -⟩ := h (State.dropPending ssLink) .A none 0 (by decide)
  obtain ⟨-, hauth, -⟩ := State.of_does_dropPending (hsetup 1 1 hin) rfl fun _ _ hd => Lane.request_of_dropDue hd _ _ _ _
  exact absurd (hstep.symm.trans hauth) (by decide)

/-- Refutes O13: a cable check in `PARAM` does not lead to `CONNECT` while the session waits to be dropped for its orphaned keys (R386). -/
theorem not_sessionPower : ¬ Obligations.SessionPower := by
  unfold Obligations.SessionPower
  intro h
  obtain ⟨hin, hstep, -⟩ := State.dropPending_message ssParam (by decide)
  obtain ⟨hcheck, -⟩ := h (State.dropPending ssParam) .A none 0 (by decide)
  obtain ⟨-, hconnect⟩ := State.of_does_dropPending (hcheck (.inl hin)) rfl fun g _ hd => Lane.cableCheck_of_dropDue hd g
  exact absurd (hstep.symm.trans hconnect) (by decide)

/-! ### A plug cycle in `CONNECT` (R240, R250) -/

/-- Lane A, whose session on outlet 0 has had its packs asked for in `CONNECT` and whose pack 0 has come back to `IDLE`, with the
identification line inserted after 1 s of being open. -/
def State.packFellBack : State :=
  State.heldByA 1000 (fun l => ((({ l with cfg := [(Pk.outlet 0, 0)] }.setp (Out.sessionStep 0) ssConnect).setp (Out.proxState 0) 1).setp
    (Out.contactorState 0) 1).setOut 0 { ctrCmd := true, packsAsked := true, openFor := some (msLaps 1000) })

/-- The plug cycle lets the session advance, which finds the pack: its `pack_start_fail` is held for a plug cycle to come (R249). -/
theorem holds_plugCycle_packFellBack :
    bitAt ((((State.packFellBack.keptBoth (fun l => l.plugKept 0)).outletEvent 0 (fun l => l.plugCycle 0)).lane .A).out 0).holds 1 = true := by
  decide +kernel

/-- Refutes O15: a plug cycle is said to leave no hold that a plug cycle ends, but in `CONNECT` the session goes on and may fail there, which
sets that hold (R249, R250). -/
theorem not_sessionEvents : ¬ Obligations.SessionEvents := by
  unfold Obligations.SessionEvents
  intro h
  obtain ⟨-, -, -, -, -, -, -, -, -, -, -, -, hcycle, -⟩ := h State.packFellBack .A 0 (by decide) (by decide +kernel)
  obtain ⟨-, hmet⟩ := of_does (hcycle (msLaps 1000) (by decide +kernel) (by decide +kernel) le_rfl) rfl
  exact absurd (holds_plugCycle_packFellBack.symm.trans hmet) (by decide)

/-! ### Commands on a session that keeps its parameters (R59, R252) -/

/-- `SESSION_STOP` reads the enable of the outlet as its session does. -/
theorem Lane.cmdSessionStop_of_disabled (l : Lane) {r : Request} {outlets : Nat} (hlen : r.len = 1) (ho : r.at_ 0 1 < outlets)
    (hoff : l.sc (r.at_ 0 1) (Out.outletEnable (r.at_ 0 1)) = 0) :
    l.cmdSessionStop outlets r = (l, Reply.just st_OUTLET_DISABLED) := by
  simp [Lane.cmdSessionStop, Lane.outletCmd, hlen, ho, hoff]

/-- `SESSION_STOP` of outlet 0. -/
def Request.stopOfOutlet : Request := { ring := 0, seq := 1, hostTag := 2, command := 0x101, lane := 0, path := 0, body := [0] }

/-- Refutes O44: the outlet's enable is premised of the bank in force, but `SESSION_STOP` reads it in the parameters that the session keeps
(R59), and leaves a session in `CHARGE` where they have it off. -/
theorem not_sessionAndKeyCommands : ¬ Obligations.SessionAndKeyCommands := by
  unfold Obligations.SessionAndKeyCommands
  intro h
  obtain ⟨houtlet, -⟩ := h State.keptDisabled .A Request.stopOfOutlet rfl
  obtain ⟨-, hstop, -⟩ := houtlet 0 rfl (by decide) (by decide +kernel)
  have hadmitted : Admitted State.keptDisabled .A 0x0101 Request.stopOfOutlet := by decide +kernel
  have hcharge : (State.keptDisabled.lane .A).ss 0 = ssCharge := by decide +kernel
  obtain ⟨-, hramp, -⟩ := of_does (hstop hadmitted rfl hcharge) rfl
  have hrun := State.lane_run_now (doSessionStop Request.stopOfOutlet) hadmitted rfl rfl rfl
    (Lane.cmdSessionStop_of_disabled _ rfl (by decide) (by decide +kernel)) rfl
  obtain ⟨-, hdrive⟩ := State.lane_drive_plant (State.keptDisabled.run 0x0101 Request.stopOfOutlet (doSessionStop Request.stopOfOutlet)) .A
  rw [Lane.ss, hdrive _ (by decide), hrun, (Lane.answer_read ..).1] at hramp
  exact absurd (hcharge.symm.trans hramp) (by decide)

end Sys2Proof.Machine
end

section
/-!
11_metrology.md: pulse inputs and pulse outputs.
-/

namespace Sys2Proof.Machine

open Sys2Proof

/-! ### What sampling the lines leaves (R446, R447) -/

/-- The records and points of acquisition (R454). -/
def LaneUnit.acquisition : LaneUnit Lane where
  rest l := { l with pts := [], stat := [], host := {}, acq := {} }
  own a := decide (0x90700 ≤ a ∧ a < 0x90800)
  rest_besideEvents _ _ := rfl

section Acquisition

variable (l : Lane)

@[simp] theorem LaneUnit.acquisition_own :
    LaneUnit.acquisition.own Ta.acqTrigIgnored = true ∧ LaneUnit.acquisition.own Ta.acqOverflowEntries = true := by
  decide

@[simp] theorem Lane.acq_outside_acquisition (x : AcqSt) :
    LaneUnit.acquisition.outside { l with acq := x } = LaneUnit.acquisition.outside l := rfl

@[simp] theorem Lane.setAcqChan_outside_acquisition (c : Nat) (x : AcqChan) :
    LaneUnit.acquisition.outside (l.setAcqChan c x) = LaneUnit.acquisition.outside l := rfl

@[simp] theorem Lane.setRecord_outside_acquisition (r : AcqRecord) :
    LaneUnit.acquisition.outside (l.setRecord r) = LaneUnit.acquisition.outside l := rfl

@[simp] theorem Lane.acqMet_outside_acquisition (k : Nat) (time : Int) :
    LaneUnit.acquisition.outside (l.acqMet k time) = LaneUnit.acquisition.outside l := by
  unfold Lane.acqMet
  repeat' split
  all_goals simp

@[simp] theorem Lane.acqCompare_outside_acquisition (c : Nat) (value time : Int) :
    LaneUnit.acquisition.outside (l.acqCompare c value time) = LaneUnit.acquisition.outside l := by
  unfold Lane.acqCompare
  dsimp only
  rw [Lane.setAcqChan_outside_acquisition]
  split
  · rfl
  · exact LaneUnit.outside_forN _ 4 (fun k _ l => LaneUnit.outside_ite (l.acqMet_outside_acquisition k time) rfl) l

@[simp] theorem Lane.acqStore_outside_acquisition (c : Nat) (value : Int) (status flags : Nat) (tag : AcqTag) :
    LaneUnit.acquisition.outside (l.acqStore c value status flags tag) = LaneUnit.acquisition.outside l := by
  unfold Lane.acqStore
  dsimp only
  split
  · rfl
  · next r _ => exact LaneUnit.outside_ite rfl (LaneUnit.outside_ite (by simp) rfl)

theorem Lane.acqSample_inside_acquisition (c : Nat) (value : Int) (status : Nat) (tag : AcqTag) :
    LaneUnit.acquisition.Inside (Lane.acqSample c value status tag) := by
  intro l
  unfold Lane.acqSample
  exact LaneUnit.outside_ite (by simp) (by simp)

theorem Lane.acqLines_inside_acquisition (line : Nat → Bool) : LaneUnit.acquisition.Inside (Lane.acqLines line) := by
  intro l
  unfold Lane.acqLines
  refine LaneUnit.outside_ite rfl (LaneUnit.outside_forL _ _ (fun c _ l => ?_) l)
  exact LaneUnit.outside_ite (Lane.acqSample_inside_acquisition c _ _ _ l) rfl

/-- Sampling the lines leaves the metrology and every point below those of acquisition. -/
theorem State.lane_lines_kept (s : State) (i : LaneId) :
    (s.lines.lane i).met = (s.lane i).met ∧ ∀ a < 0x90700, (s.lines.lane i).p a = (s.lane i).p a := by
  have hlines : s.LaneWise (fun _ l m => LaneUnit.acquisition.outside m = LaneUnit.acquisition.outside l) s.lines :=
    LaneRel.outside LaneUnit.acquisition |>.eachLane _ _ fun i l => Lane.acqLines_inside_acquisition (s.line i) l
  have hout := hlines.2 i
  refine ⟨(congrArg Lane.met (LaneUnit.rest_eq _ hout) :), fun a ha => ?_⟩
  refine LaneUnit.keepsPoints _ hout (P := fun b => 0x90700 ≤ b) (fun b hb => ?_) a (by omega)
  simp only [LaneUnit.acquisition, decide_eq_true_eq] at hb
  exact hb.1

end Acquisition

/-! ### The records of pulse inputs and outputs -/

section PulseRecords

variable (l : Lane)

@[simp] theorem Lane.s0_setS0 (n : Nat) (x : S0St) (k : Nat) : (l.setS0 n x).s0 k = if k = n then x else l.s0 k := by
  simp [Lane.s0, Lane.setS0]

@[simp] theorem Lane.po_setPo (u : Nat) (x : PoSt) (k : Nat) : (l.setPo u x).po k = if k = u then x else l.po k := by
  simp [Lane.po, Lane.setPo]

@[simp] theorem Lane.p_setS0 (n : Nat) (x : S0St) (a : Nat) : (l.setS0 n x).p a = l.p a := rfl

@[simp] theorem Lane.p_setPo (u : Nat) (x : PoSt) (a : Nat) : (l.setPo u x).p a = l.p a := rfl

@[simp] theorem Lane.s0_setp (a : Nat) (v : Int) (k : Nat) : (l.setp a v).s0 k = l.s0 k := rfl

@[simp] theorem Lane.s0_inc (a : Nat) (k : Nat) : (l.inc a).s0 k = l.s0 k := rfl

@[simp] theorem Lane.po_setp (a : Nat) (v : Int) (k : Nat) : (l.setp a v).po k = l.po k := rfl

@[simp] theorem Lane.po_inc (a : Nat) (k : Nat) : (l.inc a).po k = l.po k := rfl

/-- The points of a pulse input are five. -/
@[simp] theorem S0.point_ne (n : Nat) :
    S0.s0Count n ≠ S0.s0State n ∧ S0.s0Count n ≠ S0.s0Fault n ∧ S0.s0Count n ≠ S0.s0Glitches n ∧ S0.s0State n ≠ S0.s0Count n
    ∧ S0.s0State n ≠ S0.s0Fault n ∧ S0.s0State n ≠ S0.s0Glitches n ∧ S0.s0Fault n ≠ S0.s0Faults n
    ∧ S0.s0Fault n ≠ S0.s0State n ∧ S0.s0Fault n ≠ S0.s0Glitches n ∧ S0.s0Glitches n ≠ S0.s0State n ∧ S0.s0Glitches n ≠ S0.s0Fault n := by
  unfold S0.s0Count S0.s0State S0.s0Fault S0.s0Faults S0.s0Glitches
  omega

end PulseRecords

/-! ### One pulse input, one pulse output -/

section Pulses

variable {l : Lane} {n : Nat} (hon : l.c (S0.s0Enable n) = 1)

include hon in
theorem Lane.s0Pulse_of_long {ms : Nat} (hlong : l.cn (S0.s0MinOnMs n) ≤ ms) (hnew : (l.s0 n).counted = false) :
    (l.s0Pulse n ms).p (S0.s0Count n) = l.p (S0.s0Count n) + 1 ∧ (l.s0Pulse n ms).p (S0.s0State n) = 1
    ∧ ((l.s0Pulse n ms).s0 n).counted = true := by
  simp [Lane.s0Pulse, hon, hnew, hlong]

include hon in
theorem Lane.s0Pulse_of_counted (ms : Nat) (hold : (l.s0 n).counted = true) :
    (l.s0Pulse n ms).p (S0.s0Count n) = l.p (S0.s0Count n) := by
  simp [Lane.s0Pulse, hon, hold]

theorem Lane.s0Fault_shown (code : Int) : (l.s0Fault n code).p (S0.s0Fault n) = code := by
  unfold Lane.s0Fault
  split
  · assumption
  · simp

include hon in
theorem Lane.s0Stuck_of_late {ms : Nat} (hlate : l.cn (S0.s0MaxOnMs n) < ms) (hstate : (l.s0 n).onMs ≠ none) :
    (l.s0Stuck n ms).p (S0.s0Fault n) = 1 := by
  unfold Lane.s0Stuck
  rw [if_pos ⟨hon, hlate, hstate⟩]
  exact Lane.s0Fault_shown 1

include hon in
theorem Lane.s0Off_of_short (hstate : (l.s0 n).onMs ≠ none) (hnew : (l.s0 n).counted = false) :
    (l.s0Off n).p (S0.s0Glitches n) = l.p (S0.s0Glitches n) + 1 ∧ (l.s0Off n).p (S0.s0State n) = 0
    ∧ (l.s0Off n).p (S0.s0Count n) = l.p (S0.s0Count n) := by
  have hshort : ((l.s0 n).onMs.isSome && !(l.s0 n).counted) = true := by simp [Option.isSome_iff_ne_none, hstate, hnew]
  unfold Lane.s0Off
  rw [if_neg (not_not.mpr hon)]
  dsimp only
  rw [if_pos hshort]
  split <;> simp

include hon in
theorem Lane.s0Disagree_of_differ {other : Lane} (hdiffer : l.p (S0.s0Count n) ≠ other.p (S0.s0Count n)) :
    (l.s0Disagree other n).p (S0.s0Fault n) = 2 := by
  unfold Lane.s0Disagree
  rw [if_pos ⟨hon, hdiffer⟩]
  exact Lane.s0Fault_shown 2

variable {u : Nat} (hpause : (l.po u).width ≤ l.met.tick - (l.po u).since)

include hpause in
theorem Lane.pulseTick_of_due (hlow : (l.po u).level = false) (hdue : 0 < l.p (Po.poBacklog u)) :
    ((l.pulseTick u).po u).level = true ∧ (l.pulseTick u).p (Po.poBacklog u) = l.p (Po.poBacklog u) - 1 := by
  have hne : Po.poBacklog u ≠ Po.poWidthUs u := by
    unfold Po.poBacklog Po.poWidthUs
    omega
  simp [Lane.pulseTick, hlow, hpause, hdue, hne]

include hpause in
theorem Lane.pulseEnd_of_due (hhigh : (l.po u).level = true) :
    ((l.pulseEnd u).po u).level = false ∧ (l.pulseEnd u).p (Po.poEmitted u) = l.p (Po.poEmitted u) + 1 := by
  simp [Lane.pulseEnd, hhigh, hpause]

end Pulses

/-- The baton holder drives the pulse outputs (R278). -/
theorem State.lane_pulseLane_of_holder {s : State} {i : LaneId} (hh : s.holder = some i) (f : Lane → Lane) :
    (s.pulseLane f).lane i = f (s.lane i) := by
  simp [State.pulseLane, State.keeperLane, hh, State.lane_onLane]

theorem State.lane_kept_self {s : State} {i : LaneId} (ha : (s.lane i).alwaysOn = true) (f : Lane → Lane) :
    (s.kept i f).lane i = f (s.lane i) := by
  rw [State.lane_kept, if_pos ⟨rfl, ha⟩]

/-- What a row on the records and points of metering shows once the lines are sampled. -/
theorem State.lane_lines_s0 (s : State) (i : LaneId) (n : Nat) : (s.lines.lane i).s0 n = (s.lane i).s0 n := by
  rw [Lane.s0, (s.lane_lines_kept i).1, Lane.s0]

theorem State.lane_lines_po (s : State) (i : LaneId) (u : Nat) : (s.lines.lane i).po u = (s.lane i).po u := by
  rw [Lane.po, (s.lane_lines_kept i).1, Lane.po]

/-- The points of pulse inputs and outputs lie below those of acquisition (R283). -/
theorem pulsePoint_lt {n u : Nat} (hn : n < 16) (hu : u < 4) :
    S0.s0Count n < 0x90700 ∧ S0.s0State n < 0x90700 ∧ S0.s0Glitches n < 0x90700
    ∧ Po.poBacklog u < 0x90700 ∧ Po.poEmitted u < 0x90700 := by
  unfold S0.s0Count S0.s0State S0.s0Glitches Po.poBacklog Po.poEmitted
  omega

/-- Settles O19, row by row; where the lines are sampled after a row, what it shows stands. -/
theorem pulseRows : Obligations.PulseRows := by
  unfold Obligations.PulseRows
  intro s i n hn ha hon
  have hrow : ∀ f : Lane → Lane, (if n < 16 then s.kept i f else s).lane i = f (s.lane i) := fun f => by
    rw [if_pos hn, State.lane_kept_self ha]
  obtain ⟨hcount, hstate, hglitches, -, -⟩ := pulsePoint_lt hn (u := 0) (by decide)
  refine ⟨fun ms hlong hnew => ?_, fun ms hold => ?_, fun ms hlate hst => ?_, fun hst hnew => ?_, fun hact hdiffer => ?_,
    fun u hu _ hh => ⟨fun hlow hpause hdue => ?_, fun hhigh hpause => ?_⟩⟩ <;> refine does_of_next rfl ?_
  · rw [(State.lane_lines_kept ..).2 _ hcount, (State.lane_lines_kept ..).2 _ hstate, State.lane_lines_s0, hrow]
    exact Lane.s0Pulse_of_long hon hlong hnew
  · rw [(State.lane_lines_kept ..).2 _ hcount, hrow]
    exact Lane.s0Pulse_of_counted hon ms hold
  · rw [hrow]
    exact Lane.s0Stuck_of_late hon hlate hst
  · rw [(State.lane_lines_kept ..).2 _ hglitches, (State.lane_lines_kept ..).2 _ hstate, (State.lane_lines_kept ..).2 _ hcount, hrow]
    exact Lane.s0Off_of_short hon hst hnew
  · rw [if_pos hn, State.lane_eachLane, if_pos hact]
    exact Lane.s0Disagree_of_differ hon hdiffer
  · obtain ⟨-, -, -, hbacklog, -⟩ := pulsePoint_lt hn hu
    rw [(State.lane_lines_kept ..).2 _ hbacklog, State.lane_lines_po, if_pos hu, State.lane_pulseLane_of_holder hh]
    exact Lane.pulseTick_of_due hpause hlow hdue
  · obtain ⟨-, -, -, -, hemitted⟩ := pulsePoint_lt hn hu
    rw [(State.lane_lines_kept ..).2 _ hemitted, State.lane_lines_po, if_pos hu, State.lane_pulseLane_of_holder hh]
    exact Lane.pulseEnd_of_due hpause hhigh

end Sys2Proof.Machine
end

section
/-!
11_metrology.md: metering beside the holder.
-/

namespace Sys2Proof.Machine

open Sys2Proof

/-! ### Steps in a run -/

/-- What every step leaves, the run leaves. -/
theorem Lane.forL_kept {α β : Type} (v : Lane → α) (xs : List β) {f : β → Lane → Lane} (hf : ∀ x l, v (f x l) = v l) (l : Lane) :
    v (l.forL xs f) = v l :=
  List.foldlRecOn (motive := fun m => v m = v l) xs _ rfl fun m hm x _ => (hf x m).trans hm

theorem Lane.forN_kept {α : Type} (v : Lane → α) (n : Nat) {f : Nat → Lane → Lane} (hf : ∀ i l, v (f i l) = v l) (l : Lane) :
    v (l.forN n f) = v l :=
  Lane.forL_kept v (List.range n) hf l

/-- Of the steps of a list without repeats, only that of `x` reaches what `v` shows. -/
theorem Lane.forL_only {α β : Type} (v : Lane → α) {xs : List β} {x : β} {f : β → Lane → Lane} (hnodup : xs.Nodup) (hx : x ∈ xs)
    (hother : ∀ y, y ≠ x → ∀ l, v (f y l) = v l) (l : Lane) : ∃ m, v m = v l ∧ v (l.forL xs f) = v (f x m) := by
  obtain ⟨before, after, rfl⟩ := List.append_of_mem hx
  have hkeep : ∀ ys : List β, x ∉ ys → ∀ l, v (ys.foldl (fun l y => f y l) l) = v l := fun ys hys l =>
    List.foldlRecOn (motive := fun m => v m = v l) ys _ rfl fun m hm y hy =>
      (hother y (fun h => hys (h ▸ hy)) m).trans hm
  have hnot : x ∉ before ++ after := (List.nodup_cons.mp (List.nodup_middle.mp hnodup)).1
  rw [List.mem_append, not_or] at hnot
  refine ⟨before.foldl (fun l y => f y l) l, hkeep before hnot.1 l, ?_⟩
  rw [Lane.forL, List.foldl_append, List.foldl_cons]
  exact hkeep after hnot.2 _

/-! ### The lane beside the holder -/

section Beside

variable {s : State} {i : LaneId} (ha : (s.lane i).active = true) (hh : s.holder = some i.other)

include ha hh in
theorem State.lane_beside_self (f : Lane → Lane → Lane) : (s.beside f).lane i = f (s.lane i) (s.lane i.other) := by
  simp [State.beside, hh, State.lane_onLane, ha]

include hh in
theorem State.lane_beside_holder (f : Lane → Lane → Lane) : (s.beside f).lane i.other = s.lane i.other := by
  simp [State.beside, hh, State.lane_onLane]

include hh in
/-- A row on the lane beside the holder leaves the grant and the holder's lane, and so the holder. -/
theorem State.holder_beside (f : Lane → Lane → Lane) : (s.beside f).holder = some i.other := by
  have hany : LaneRel (fun _ _ _ => True) := ⟨fun _ => trivial, fun _ _ => trivial⟩
  have hgrant : (s.beside f).arbiter.grant = some i.other :=
    (congrArg Arbiter.grant (hany.besideHolder s fun _ _ _ => trivial).arbiter).trans (s.grant_of_holder _ hh)
  rw [State.holder, hgrant]
  exact if_pos ((congrArg Lane.active (State.lane_beside_holder hh f)).trans (State.active_of_holder hh))

end Beside

/-! ### What the holder's lane sends (R258, R259) -/

theorem Lane.takeControl_ctl {l : Lane} (hlap : l.lapIn = 2) (src : Lane) : (l.takeControl src).alloc.ctl = src.met.own := by
  unfold Lane.takeControl Lane.s0Kept
  rw [if_pos hlap]
  exact Lane.forL_kept (fun l => l.alloc.ctl) _ (fun x l => by simp) _

theorem Lane.followClock_legal {l h : Lane} (hsteps : h.met.clockSteps = []) : (l.followClock h).met.legal = h.met.legal := by
  simp [Lane.followClock, hsteps]

/-- What supervision shows of outlet `o`: its cable voltage and its current (R259). -/
def Lane.supervision (l : Lane) (o : Nat) : Int × Int := (l.p (Out.vCableMv o), l.p (Out.iOutletMa o))

theorem Lane.supervision_supervise (l src : Lane) (k o : Nat) :
    (l.supervise k src).supervision o = if o = k then (src.dcMv o, src.dcMa o) else l.supervision o := by
  have hne : Out.vCableMv o ≠ Out.iOutletMa k ∧ Out.iOutletMa o ≠ Out.vCableMv k := by
    unfold Out.vCableMv Out.iOutletMa
    omega
  have heq : (Out.vCableMv o = Out.vCableMv k ↔ o = k) ∧ (Out.iOutletMa o = Out.iOutletMa k ↔ o = k) := by
    unfold Out.vCableMv Out.iOutletMa
    omega
  unfold Lane.supervise Lane.supervision
  by_cases ho : o = k
  · subst ho
    simp [hne]
  · simp [hne, heq, ho]

/-- Mirroring a pulse output leaves the legal clock and what supervision shows (R278). -/
theorem Lane.mirrorPulse_kept (l h : Lane) (u : Nat) :
    (l.mirrorPulse h u).met.legal = l.met.legal ∧ ∀ o, (l.mirrorPulse h u).supervision o = l.supervision o := by
  have hne : ∀ o, (Out.vCableMv o ≠ Po.poBacklog u ∧ Out.vCableMv o ≠ Po.poDue u ∧ Out.vCableMv o ≠ Po.poEmitted u
      ∧ Out.vCableMv o ≠ Po.poWidthUs u) ∧ Out.iOutletMa o ≠ Po.poBacklog u ∧ Out.iOutletMa o ≠ Po.poDue u
      ∧ Out.iOutletMa o ≠ Po.poEmitted u ∧ Out.iOutletMa o ≠ Po.poWidthUs u := by
    intro o
    unfold Out.vCableMv Out.iOutletMa Po.poBacklog Po.poDue Po.poEmitted Po.poWidthUs
    omega
  exact ⟨rfl, fun o => by simp [Lane.mirrorPulse, Lane.supervision, hne]⟩

theorem Lane.holderSample_legal (l h : Lane) (outlets : Nat) : (l.holderSample h outlets).met.legal = l.met.legal := by
  unfold Lane.holderSample
  extract_lets l1 l2
  have h1 : l1.met.legal = l.met.legal := Lane.forN_kept (fun l => l.met.legal) outlets (fun o l => by simp [Lane.supervise]) l
  have h2 : l2.met.legal = l1.met.legal := Lane.forN_kept (fun l => l.met.legal) 4 (fun u l => (l.mirrorPulse_kept h u).1) l1
  exact h2.trans h1

/-- The holder's samples reach the supervision of every outlet of the variant (R259). -/
theorem Lane.holderSample_supervision (l h : Lane) {outlets o : Nat} (ho : o < outlets) :
    (l.holderSample h outlets).supervision o = (h.dcMv o, h.dcMa o) := by
  obtain ⟨m, -, hm⟩ := Lane.forN_only (fun l => l.supervision o) ho (f := fun o l => l.supervise o h)
    (fun k _ hk l => (l.supervision_supervise h k o).trans (if_neg hk.symm)) l
  unfold Lane.holderSample
  extract_lets l1 l2
  have h1 : l1.supervision o = (h.dcMv o, h.dcMa o) := hm.trans ((m.supervision_supervise h o o).trans (if_pos rfl))
  have h2 : l2.supervision o = l1.supervision o :=
    Lane.forN_kept (fun l => l.supervision o) 4 (fun u l => (l.mirrorPulse_kept h u).2 o) l1
  clear_value l2
  exact (show (l2.met! _).supervision o = l2.supervision o from rfl).trans (h2.trans h1)

/-! ### The deviation of the lanes' energies (R272) -/

/-- What the comparison of the lanes' energies at point `m` reads and shows. -/
def Lane.deviation (l : Lane) (m : Nat) : UMap Int × MetSt × Int × Int := (l.cfg, l.met, l.p (devPpmAt m), l.p (devEventsAt m))

/-- The comparison at one metering point. -/
def Lane.comparePoint (l holder : Lane) (m : Nat) : Lane :=
  if !(l.metEnabled m) then l
  else
    let l1 := l.setp (devPpmAt m) (laneDevPpm l.met.secE holder.met.secE m)
    if l.devLarge holder.met.secE m then (l1.inc (devEventsAt m)).mark 7 else l1

theorem Lane.meterCompare_eq (l holder : Lane) :
    l.meterCompare holder = (l.forN 40 (fun m l => l.comparePoint holder m)).met! (fun x => { x with secE := [] }) := rfl

theorem devPoint_ne {m k : Nat} (hm : m < 40) (hk : k < 40) :
    devPpmAt m ≠ devEventsAt k ∧ devEventsAt m ≠ devPpmAt k ∧ (devPpmAt m = devPpmAt k ↔ m = k)
    ∧ (devEventsAt m = devEventsAt k ↔ m = k) := by
  unfold devPpmAt devEventsAt Ac.laneDevPpm Ac.laneDevEvents Dc.laneDevPpm Dc.laneDevEvents
  split_ifs <;> omega

theorem Lane.deviation_comparePoint_other (l holder : Lane) {m k : Nat} (hm : m < 40) (hk : k < 40) (hne : k ≠ m) :
    (l.comparePoint holder k).deviation m = l.deviation m := by
  have hpoints := devPoint_ne hm hk
  unfold Lane.comparePoint Lane.deviation
  dsimp only
  split_ifs <;> simp [hpoints, hne.symm]

theorem Lane.comparePoint_shown {holder l : Lane} {m : Nat} (hm : m < 40) (hon : l.metEnabled m = true) :
    (l.comparePoint holder m).p (devPpmAt m) = laneDevPpm l.met.secE holder.met.secE m
    ∧ (l.comparePoint holder m).p (devEventsAt m)
      = l.p (devEventsAt m) + (if l.devLarge holder.met.secE m = true then 1 else 0) := by
  have hpoints := devPoint_ne hm hm
  unfold Lane.comparePoint
  rw [hon, if_neg (by decide)]
  dsimp only
  split <;> simp [hpoints]

theorem Lane.meterCompare_shown {l holder : Lane} {m : Nat} (hm : m < 40) (hon : l.metEnabled m = true) :
    (l.meterCompare holder).p (devPpmAt m) = laneDevPpm l.met.secE holder.met.secE m
    ∧ (l.meterCompare holder).p (devEventsAt m)
      = l.p (devEventsAt m) + (if l.devLarge holder.met.secE m = true then 1 else 0) := by
  obtain ⟨k, hk, hend⟩ := Lane.forN_only (fun l => l.deviation m) hm (f := fun m l => l.comparePoint holder m)
    (fun j hj hne l => l.deviation_comparePoint_other holder hm hj hne) l
  simp only [Lane.deviation, Prod.mk.injEq] at hk hend
  obtain ⟨hcfg, hmet, -, hevents⟩ := hk
  obtain ⟨-, -, hppm', hevents'⟩ := hend
  have hranges : k.ranges m = l.ranges m := by simp only [Lane.ranges, Lane.c, hcfg]
  have hlarge : k.devLarge holder.met.secE m = l.devLarge holder.met.secE m := by
    simp only [Lane.devLarge, hranges, hmet]
  have honk : k.metEnabled m = true := by
    rw [← hon]
    unfold Lane.metEnabled Lane.c
    rw [hcfg]
  obtain ⟨hppm, hcount⟩ := Lane.comparePoint_shown (holder := holder) hm honk
  rw [hmet] at hppm
  rw [hlarge, hevents] at hcount
  rw [Lane.meterCompare_eq]
  simp only [Lane.metBang_read]
  exact ⟨hppm'.trans hppm, hevents'.trans hcount⟩

/-! ### Signed records (R309) -/

theorem Lane.mem_takeRecord {l holder : Lane} {n : Nat} {r : SignedRec}
    (hr : holder.met.records.find? (fun r => decide (r.no = n)) = some r) (hown : ∃ e ∈ l.met.records, e.no = n)
    (hgen : r.gen = l.p (Out.sessionGen r.outlet)) : r ∈ (l.takeRecord holder n).met.records := by
  obtain ⟨e, he, hno⟩ := hown
  unfold Lane.takeRecord
  rw [hr]
  dsimp only
  rw [if_neg (not_not.mpr hgen)]
  exact List.mem_map.mpr ⟨e, he, if_pos hno⟩

/-! ### Interval records (R306) -/

/-- The registers of metering and billing: points from domain 6 on. -/
def LaneUnit.registers : LaneUnit Lane where
  rest l := { l with pts := [], stat := [], host := {} }
  own a := decide (0x60000 ≤ a)
  rest_besideEvents _ _ := rfl

theorem LaneUnit.registers_own {a : Nat} (ha : 0x60000 ≤ a) : LaneUnit.registers.own a = true := decide_eq_true ha

theorem regPoint_le (m q t : Nat) : 0x60000 ≤ regAddr m q t ∧ 0x60000 ≤ cregAddr m q t ∧ 0x60000 ≤ wrapsAddr m q t := by
  unfold regAddr cregAddr wrapsAddr RegA.reg RegA.creg RegA.wraps RegD.reg RegD.creg RegD.wraps
  split_ifs <;> omega

theorem Lane.addReg_inside_registers (m q t : Nat) (n : Int) : LaneUnit.registers.Inside (Lane.addReg m q t n) := by
  intro l
  obtain ⟨hreg, hcreg, hwraps⟩ := regPoint_le m q t
  simp [Lane.addReg, LaneUnit.registers_own, hreg, hcreg, hwraps]

/-- The holder's record `r` of metering point `m` taken in place of the lane's own, with the registers behind it. -/
def Lane.takeInterval (l holder : Lane) (m : Nat) (r : IntervalRec) : Lane :=
  let hb := (holder.openI m).base
  let mine := (l.openI m).base
  let moved := fun (q t : Nat) => UMap.get (fun _ => 0) hb (regAddr m q t) - UMap.get (fun _ => 0) mine (regAddr m q t)
  let l1 := (quantities m).foldl (fun (l : Lane) q => (List.range 9).foldl (fun (l : Lane) t =>
    if moved q t = 0 then l else l.addReg m q t (moved q t)) l) l
  let l2 := (l1.setOpenI m { l1.openI m with base := hb }).setp
    (if m < 8 then RegA.adoptDevMwh m else RegD.adoptDevMwh (m - 8)) (moved 0 8)
  let l3 := (l2.met! (fun x => { x with
    profile := r :: x.profile.filter (fun e => !(decide (e.point = m) && decide (e.seq = r.seq))) })).setp
    (seqAddr m) r.seq
  if m < 8 then l3
  else l3.met! (fun x => { x with sessions := x.sessions.map (fun e =>
    if e.1 = m - 8 then (e.1, e.2.move (moved 0 8) (moved 1 8) ((List.range 8).map (moved 0))) else e) })

/-- The adoption at one metering point. -/
def Lane.adoptPoint (l holder : Lane) (m : Nat) : Lane :=
  match (holder.lastRecord m).filter (fun r => (l.lastRecord m).any (fun e => decide (e.endMs = r.endMs))) with
  | none => l
  | some r => if 8 ≤ m ∧ r.gen ≠ l.pn (Out.sessionGen (m - 8)) then l.inc (Sd.staleDiscards 3) else l.takeInterval holder m r

theorem Lane.adopt_of_copied {l : Lane} (hcopied : l.met.copied = true) (holder : Lane) :
    l.adopt holder = l.forL l.metPoints (fun m l => l.adoptPoint holder m) := by
  unfold Lane.adopt
  rw [hcopied]
  rfl

/-- Taking an interval puts the record in place of the lane's own of that number and leaves every point below the registers. -/
theorem Lane.takeInterval_kept (l holder : Lane) (m : Nat) (r : IntervalRec) :
    (l.takeInterval holder m r).met.profile
      = r :: l.met.profile.filter (fun e => !(decide (e.point = m) && decide (e.seq = r.seq)))
    ∧ ∀ a < 0x60000, (l.takeInterval holder m r).p a = l.p a := by
  unfold Lane.takeInterval
  extract_lets hb mine moved l1 own l2 l3
  have h1 : LaneUnit.registers.outside l1 = LaneUnit.registers.outside l :=
    LaneUnit.outside_forL _ (quantities m) (f := fun q l => l.forL (List.range 9) fun t l =>
      if moved q t = 0 then l else l.addReg m q t (moved q t))
      (fun q _ l => LaneUnit.outside_forL _ _
        (fun t _ l => LaneUnit.outside_ite rfl (Lane.addReg_inside_registers m q t _ l)) l) l
  have hmet : l1.met = l.met := (congrArg Lane.met (LaneUnit.rest_eq _ h1) :)
  have hpoints : ∀ a < 0x60000, l1.p a = l.p a := fun a ha =>
    LaneUnit.keepsPoints _ h1 (P := fun b => 0x60000 ≤ b) (fun b hb => of_decide_eq_true hb) a (by omega)
  have hdev : 0x60000 ≤ (if m < 8 then RegA.adoptDevMwh m else RegD.adoptDevMwh (m - 8)) := by
    unfold RegA.adoptDevMwh RegD.adoptDevMwh
    split <;> omega
  have hseq : 0x60000 ≤ seqAddr m := by
    unfold seqAddr RegA.profileSeq RegD.profileSeq
    split <;> omega
  have h3 : l3.met.profile = r :: l.met.profile.filter (fun e => !(decide (e.point = m) && decide (e.seq = r.seq)))
      ∧ ∀ a < 0x60000, l3.p a = l.p a := by
    refine ⟨by simp [l3, l2, Lane.setOpenI, hmet], fun a ha => ?_⟩
    rw [← hpoints a ha]
    simp [l3, l2, Lane.setOpenI, (ha.trans_le hdev).ne, (ha.trans_le hseq).ne]
  split
  · exact h3
  · exact ⟨h3.1, fun a ha => h3.2 a ha⟩

/-- The lane's records of metering point `m`, and the session-to-lane generation that its adoption reads (R60). -/
def Lane.adopting (l : Lane) (m : Nat) : List IntervalRec × Int :=
  (l.met.profile.filter (fun r => decide (r.point = m)), l.p (Out.sessionGen (m - 8)))

theorem sessionGen_lt {m : Nat} (hm : m < 40) : Out.sessionGen (m - 8) < 0x60000 := by
  unfold Out.sessionGen
  omega

theorem Lane.lastRecord_point {l : Lane} {m : Nat} {r : IntervalRec} (h : l.lastRecord m = some r) : r.point = m :=
  of_decide_eq_true (List.find?_some (p := fun r : IntervalRec => decide (r.point = m)) h)

theorem Lane.adopting_adoptPoint_other (l holder : Lane) {m k : Nat} (hm : m < 40) (hne : k ≠ m) :
    (l.adoptPoint holder k).adopting m = l.adopting m := by
  unfold Lane.adoptPoint
  split
  · rfl
  · next r hr =>
    obtain ⟨hlast, -⟩ := Option.filter_eq_some_iff.mp hr
    have hk := Lane.lastRecord_point hlast
    split
    · have hstale : Out.sessionGen (m - 8) ≠ Sd.staleDiscards 3 := by
        unfold Out.sessionGen Sd.staleDiscards
        omega
      simp [Lane.adopting, hstale]
    · obtain ⟨hprofile, hpoints⟩ := l.takeInterval_kept holder k r
      have hrecords : ∀ e : IntervalRec, e.point = m → (!(decide (e.point = k) && decide (e.seq = r.seq))) = true := by
        intro e he
        simp [he, hne.symm]
      simp only [Lane.adopting, hprofile, hpoints _ (sessionGen_lt hm)]
      rw [List.filter_cons_of_neg (by simp [hk, hne]), List.filter_filter]
      congr 1
      exact List.filter_congr fun e _ => by by_cases he : e.point = m <;> simp [he, hne.symm]

theorem Lane.mem_adoptPoint {l holder : Lane} {m : Nat} {r : IntervalRec} (hr : holder.lastRecord m = some r)
    (hown : ∃ e, l.lastRecord m = some e ∧ e.endMs = r.endMs) (hgen : m < 8 ∨ r.gen = l.pn (Out.sessionGen (m - 8))) :
    r ∈ ((l.adoptPoint holder m).adopting m).1 := by
  obtain ⟨e, he, hend⟩ := hown
  have htaken : (holder.lastRecord m).filter (fun r => (l.lastRecord m).any (fun e => decide (e.endMs = r.endMs))) = some r := by
    simp [hr, he, hend]
  have hfresh : ¬ (8 ≤ m ∧ r.gen ≠ l.pn (Out.sessionGen (m - 8))) := fun ⟨hdc, hne⟩ => hgen.elim (by omega) hne
  unfold Lane.adoptPoint
  rw [htaken]
  dsimp only
  rw [if_neg hfresh, Lane.adopting, (l.takeInterval_kept holder m r).1]
  exact List.mem_filter.mpr ⟨List.mem_cons_self, decide_eq_true (Lane.lastRecord_point hr)⟩

theorem Lane.lastRecord_eq_head (l : Lane) (m : Nat) : l.lastRecord m = (l.adopting m).1.head? :=
  (List.head?_filter ..).symm

theorem Lane.mem_adopt {l holder : Lane} {m : Nat} {r : IntervalRec} (hcopied : l.met.copied = true) (hm : m ∈ l.metPoints)
    (hr : holder.lastRecord m = some r) (hgen : m < 8 ∨ r.gen = l.pn (Out.sessionGen (m - 8)))
    (hown : ∃ e, l.lastRecord m = some e ∧ e.endMs = r.endMs) : r ∈ (l.adopt holder).met.profile := by
  have hlt : m < 40 := List.mem_range.mp (List.mem_of_mem_filter hm)
  obtain ⟨k, hk, hend⟩ := Lane.forL_only (fun l => l.adopting m) (List.nodup_range.filter _) hm (f := fun m l => l.adoptPoint holder m)
    (fun j hne l => l.adopting_adoptPoint_other holder hlt hne) l
  have hrecord : k.lastRecord m = l.lastRecord m := by rw [Lane.lastRecord_eq_head, Lane.lastRecord_eq_head, hk]
  have hgenk : k.p (Out.sessionGen (m - 8)) = l.p (Out.sessionGen (m - 8)) := congrArg Prod.snd hk
  have hmem : r ∈ ((k.adoptPoint holder m).adopting m).1 :=
    Lane.mem_adoptPoint hr (hrecord ▸ hown) (by rwa [Lane.pn, hgenk])
  rw [Lane.adopt_of_copied hcopied]
  exact List.mem_of_mem_filter (hend ▸ hmem)

/-- Settles O17, row by row. -/
theorem meterBesideHolder : Obligations.MeterBesideHolder := by
  unfold Obligations.MeterBesideHolder
  intro s i ha hh
  refine ⟨fun hlap => ?_, fun hsteps => ?_, ?_, fun n r hr hown hgen => ?_, fun m r hcopied hm hr hgen hown => ?_⟩ <;>
    refine does_of_next rfl ?_
  · rw [State.lane_eachLane, if_pos ha, hh]
    exact Lane.takeControl_ctl hlap _
  · rw [State.lane_beside_self ha hh, Lane.holderSample_legal, Lane.followClock_legal hsteps]
    exact ⟨rfl, fun o ho => Prod.mk.inj (Lane.holderSample_supervision _ _ ho)⟩
  · rw [State.holderOnly, State.holder_beside hh]
    dsimp only
    simp only [State.lane_onLane, State.lane_beside_self ha hh, LaneId.ne_other, false_and, if_false, true_and, if_true]
    exact ⟨rfl, rfl, fun m hm hon => Lane.meterCompare_shown hm hon⟩
  · rw [State.lane_beside_self ha hh]
    exact Lane.mem_takeRecord hr hown hgen
  · rw [State.lane_beside_self ha hh]
    exact Lane.mem_adopt hcopied hm hr hgen hown

end Sys2Proof.Machine
end

section
/-!
11_metrology.md: what the statements on metering samples and on the checks of the metrology processor leave out, each shown by a state.
-/

namespace Sys2Proof.Machine

open Sys2Proof

/-- The lane whose cartridge event a tamper record of cause 6 reports leaves it to the other lane (R313). -/
theorem tamperCounter_ownCartridge :
    ((State.reset.tamperRow (.tamper 6 0 0 0 [])).lane .A).p Cal.tamperCounter = (State.reset.lane .A).p Cal.tamperCounter := by
  decide +kernel

/-- Refutes O18: a tamper record that is due is said to be counted in every lane whose always-on domain runs, but the event of a lane's own
cartridge (cause 6) is written by the lane that remains, and not by that lane itself (R313). -/
theorem not_meterChecks : ¬ Obligations.MeterChecks := by
  unfold Obligations.MeterChecks
  intro h
  obtain ⟨-, -, -, htamper⟩ := h State.reset .A (by decide)
  obtain ⟨hcounted, -⟩ := htamper 6 0 0 0 [] (by decide) (by decide +kernel)
  obtain ⟨hone, -⟩ := of_does (hcounted (.inl rfl)) rfl
  exact absurd (tamperCounter_ownCartridge.symm.trans hone) (by decide)

/-- A clock step that adds nothing, asked for in the lap before. -/
def ClockStep.ofNothing : ClockStep := ⟨0, 0, true⟩

/-- Lane A in a tariff 0x4405, which no calendar gives, with DC point 0 in use and an adjustment of its legal clock waiting. -/
def State.adjustedBeyond : State :=
  State.heldByA 1 (fun l => ({ l with cfg := [(Dc.pointEnable 0, 1)] }.setp Cal.tariffNow 0x4405).met!
    (fun x => { x with clockSteps := [ClockStep.ofNothing] }))

/-- A sample of DC point 0 at the full voltage and current of its range. -/
def MeterSample.fullRange : MeterSample := ⟨[], [(0, [⟨10 ^ 9, false⟩, ⟨10 ^ 9, false⟩])], 0⟩

/-- The register of DC point 0 in that tariff is addressed where the adjustments are counted, so the sample's 34 milli-units count there. -/
theorem adjWithin_adjustedBeyond :
    (((State.adjustedBeyond.kept .A (fun l => l.clockDue.meteringSample (State.adjustedBeyond.lane .B)
      (l.sampled MeterSample.fullRange))).sampleTaken .A).lane .A).p Cal.adjWithin = 35 := by
  decide +kernel

/-- Refutes O16: nothing bounds the tariff in force, to whose register a sample's energy is credited. -/
theorem not_meterSamples : ¬ Obligations.MeterSamples := by
  unfold Obligations.MeterSamples
  intro h
  obtain ⟨-, hstep, -⟩ := h State.adjustedBeyond .A (by decide +kernel)
  obtain ⟨-, -, -, hadjusted, -⟩ := of_does (hstep MeterSample.fullRange 0 0 true (by decide +kernel) (by decide +kernel)) rfl
  obtain ⟨hone, -⟩ := hadjusted rfl
  exact absurd (adjWithin_adjustedBeyond.symm.trans hone) (by decide +kernel)

end Sys2Proof.Machine
end

section
/-!
14_lanes_and_baton.md: the arbiter, its evaluation, and the baton number.
-/

namespace Sys2Proof.Machine

open Sys2Proof

section ArbiterKept

/-! ### Operations that leave the arbiter

The arbiter's record is written by an evaluation (R353), by the load of a number at a cold start (R355) and by the count of a lap. One
law for each operation that is none of these. -/


/-- A run of operations that each leave the arbiter leaves it. -/
@[simp] theorem State.foldl_arbiter {α : Type} (xs : List α) (f : State → α → State) (h : ∀ s x, (f s x).arbiter = s.arbiter) (s : State) :
    (xs.foldl f s).arbiter = s.arbiter := by
  induction xs generalizing s with
  | nil => rfl
  | cons x t ih => rw [List.foldl_cons, ih, h]

variable (s : State)

@[simp] theorem State.ite_arbiter (c : Prop) [Decidable c] (x y : State) :
    (if c then x else y).arbiter = if c then x.arbiter else y.arbiter :=
  apply_ite State.arbiter c x y

@[simp] theorem State.setLane_arbiter (i : LaneId) (l : Lane) : (s.setLane i l).arbiter = s.arbiter := by
  unfold State.setLane
  split <;> simp

@[simp] theorem State.onLane_arbiter (i : LaneId) (p : Lane → Bool) (f : LaneFn) : (s.onLane i p f).arbiter = s.arbiter := by
  simp [State.onLane]

@[simp] theorem State.eachLane_arbiter (p : Lane → Bool) (f : LaneFn) : (s.eachLane p f).arbiter = s.arbiter := rfl

@[simp] theorem State.fireBoth_arbiter (n unit : Nat) (detail : List Int) : (s.fireBoth n unit detail).arbiter = s.arbiter := rfl

@[simp] theorem State.alsoFire_arbiter (i : LaneId) (old : State) :
    (State.alsoFire s i old).arbiter = s.arbiter := by simp [State.alsoFire]

@[simp] theorem State.alsoTell_arbiter (i : LaneId) (old : State) :
    (State.alsoTell s i old).arbiter = s.arbiter := by simp [State.alsoTell]

@[simp] theorem State.pacerFollow_arbiter : (State.pacerFollow s).arbiter = s.arbiter := by
  unfold State.pacerFollow
  split <;> simp

@[simp] theorem State.answerBoth_arbiter (r : Request) (rep : Reply) : (s.answerBoth r rep).arbiter = s.arbiter := rfl

@[simp] theorem State.laneTo_arbiter (i : LaneId) (st : LaneState) (ph : Phase) : (s.laneTo i st ph).arbiter = s.arbiter := by
  unfold State.laneTo
  dsimp only
  repeat' split
  all_goals simp

@[simp] theorem State.laneCleared_arbiter (i : LaneId) (fault : Bool) : (State.laneCleared i fault s).arbiter = s.arbiter := by
  simp [State.laneCleared]

@[simp] theorem State.laneReset_arbiter (i : LaneId) (fault : Bool) :
    (s.laneReset i fault).arbiter = s.arbiter := by simp [State.laneReset]

@[simp] theorem State.fastOff_arbiter (i : LaneId) (fault : Bool) : (s.fastOff i fault).arbiter = s.arbiter := by simp [State.fastOff]

@[simp] theorem State.park_arbiter (i : LaneId) : (s.park i).arbiter = s.arbiter := by simp [State.park]

@[simp] theorem State.leaveStep_arbiter (i : LaneId) : (s.leaveStep i).arbiter = s.arbiter := by simp [State.leaveStep]

@[simp] theorem State.diagnose_arbiter (i : LaneId) (cause : Nat) : (s.diagnose i cause).arbiter = s.arbiter := by simp [State.diagnose]

@[simp] theorem State.lapDiagnosis_arbiter : (s.lapDiagnosis).arbiter = s.arbiter := rfl

@[simp] theorem State.health_arbiter : (s.health).arbiter = s.arbiter := by
  unfold State.health
  dsimp only
  repeat' split
  all_goals simp only [State.foldl_arbiter _ _ (fun _ _ => State.fireBoth_arbiter ..), State.onLane_arbiter]

@[simp] theorem State.grantLines_arbiter : (s.grantLines).arbiter = s.arbiter := rfl

@[simp] theorem State.loseGrant_arbiter (i : LaneId) : (s.loseGrant i).arbiter = s.arbiter := by
  unfold State.loseGrant
  dsimp only
  repeat' split
  all_goals simp

@[simp] theorem State.fwStep_arbiter (i : LaneId) (k : Nat) : (s.fwStep i k).arbiter = s.arbiter := rfl

@[simp] theorem State.gainGrant_arbiter (i : LaneId) (old : Option LaneId) (oldNo : Nat) :
    (s.gainGrant i old oldNo).arbiter = s.arbiter := by
  unfold State.gainGrant
  dsimp only
  repeat' split
  all_goals simp

@[simp] theorem State.joinBooted_arbiter : (s.joinBooted).arbiter = s.arbiter := by
  unfold State.joinBooted
  dsimp only
  repeat' split
  all_goals simp

@[simp] theorem State.watchdogMiss_arbiter (i : LaneId) : (s.watchdogMiss i).arbiter = s.arbiter := by simp [State.watchdogMiss]

@[simp] theorem State.laneInput_arbiter (i : LaneId) (x : LapInput) : (State.laneInput i x s).arbiter = s.arbiter := by
  simp [State.laneInput]

@[simp] theorem State.alignComplete_arbiter (i : LaneId) : (s.alignComplete i).arbiter = s.arbiter := by simp [State.alignComplete]

@[simp] theorem State.copyComplete_arbiter (i : LaneId) : (s.copyComplete i).arbiter = s.arbiter := by simp [State.copyComplete]

@[simp] theorem State.catchupComplete_arbiter (i : LaneId) : (s.catchupComplete i).arbiter = s.arbiter := by simp [State.catchupComplete]

@[simp] theorem State.shadowComplete_arbiter (i : LaneId) : (s.shadowComplete i).arbiter = s.arbiter := by simp [State.shadowComplete]

@[simp] theorem State.phaseTimeout_arbiter (i : LaneId) : (s.phaseTimeout i).arbiter = s.arbiter := by
  unfold State.phaseTimeout
  dsimp only
  repeat' split
  all_goals simp

@[simp] theorem State.compareFault_arbiter (i : LaneId) : (s.compareFault i).arbiter = s.arbiter := by simp [State.compareFault]

@[simp] theorem State.crcReceive_arbiter : (s.crcReceive).arbiter = s.arbiter := by
  unfold State.crcReceive
  split
  · rfl
  · dsimp only
    repeat' split
    all_goals simp [State.foldl_arbiter _ _ (fun _ _ => State.fireBoth_arbiter ..)]

@[simp] theorem State.linkTimeout_arbiter : (s.linkTimeout).arbiter = s.arbiter := by
  unfold State.linkTimeout
  split <;> simp

@[simp] theorem State.allocExchange_arbiter : (s.allocExchange).arbiter = s.arbiter := by
  unfold State.allocExchange
  split <;> simp

@[simp] theorem State.digestRound_arbiter (differs : Bool) (run : LinkSt → Nat) (set : Nat → LinkSt → LinkSt) :
    (State.digestRound differs run set s).arbiter = s.arbiter := by
  unfold State.digestRound
  split <;> simp

@[simp] theorem State.laneInserted_arbiter (i : LaneId) (fresh mismatch : Bool) (serial : Nat) :
    (s.laneInserted i fresh mismatch serial).arbiter = s.arbiter := by
  simp [State.laneInserted]

@[simp] theorem State.laneRemoved_arbiter (i : LaneId) : (s.laneRemoved i).arbiter = s.arbiter := by simp [State.laneRemoved]

@[simp] theorem State.ejectOpen_arbiter (i : LaneId) : (s.ejectOpen i).arbiter = s.arbiter := by simp [State.ejectOpen]

@[simp] theorem State.powBoth_arbiter (f : Lane → PowerSt → PowerSt) : (s.powBoth f).arbiter = s.arbiter := rfl

@[simp] theorem State.cancelSleep_arbiter : (s.cancelSleep).arbiter = s.arbiter := by
  unfold State.cancelSleep
  dsimp only
  repeat' split
  all_goals simp

@[simp] theorem State.sleepPrecheck_arbiter : (s.sleepPrecheck).arbiter = s.arbiter := by
  unfold State.sleepPrecheck
  dsimp only
  repeat' split
  all_goals simp

@[simp] theorem State.sleepPoint_arbiter : (s.sleepPoint).arbiter = s.arbiter := by
  unfold State.sleepPoint
  repeat' split
  all_goals simp

@[simp] theorem State.sleepWantDrop_arbiter : (s.sleepWantDrop).arbiter = s.arbiter := rfl

@[simp] theorem State.startWake_arbiter (source : Nat) : (s.startWake source).arbiter = s.arbiter := rfl

@[simp] theorem State.asleepEntry_arbiter (sealIt : Lane → Lane) : (s.asleepEntry sealIt).arbiter = s.arbiter := by
  unfold State.asleepEntry
  dsimp only
  repeat' split
  all_goals simp

@[simp] theorem State.wake_arbiter (source : Nat) : (s.wake source).arbiter = s.arbiter := by
  unfold State.wake
  dsimp only
  repeat' split
  all_goals simp

@[simp] theorem State.timetableDue_arbiter (id : Nat) : (s.timetableDue id).arbiter = s.arbiter := by
  unfold State.timetableDue
  dsimp only
  repeat' split
  all_goals simp

@[simp] theorem State.autoSleep_arbiter : (s.autoSleep).arbiter = s.arbiter := by
  unfold State.autoSleep
  split <;> simp

@[simp] theorem State.noteRun_arbiter : (State.noteRun s).arbiter = s.arbiter := rfl

@[simp] theorem State.powerEpoch_arbiter : (s.powerEpoch).arbiter = s.arbiter := rfl

@[simp] theorem State.drawSeq_arbiter (i : LaneId) : (State.drawSeq i s).arbiter = s.arbiter := by simp [State.drawSeq]

@[simp] theorem State.supplyGood_arbiter (i : LaneId) : (s.supplyGood i).arbiter = s.arbiter := by simp [State.supplyGood]

@[simp] theorem State.supplyLoss_arbiter (i : LaneId) : (s.supplyLoss i).arbiter = s.arbiter := by simp [State.supplyLoss]

@[simp] theorem State.criticalRestart_arbiter (i : LaneId) : (s.criticalRestart i).arbiter = s.arbiter := by simp [State.criticalRestart]

@[simp] theorem State.restartAnswer_arbiter : (s.restartAnswer).arbiter = s.arbiter := by
  unfold State.restartAnswer
  dsimp only
  repeat' split
  all_goals simp

@[simp] theorem State.commitExchange_arbiter : (s.commitExchange).arbiter = s.arbiter := by
  unfold State.commitExchange
  split <;> simp

@[simp] theorem State.authFailure_arbiter (i : LaneId) (port : Nat) : (s.authFailure i port).arbiter = s.arbiter := by
  simp [State.authFailure]

@[simp] theorem State.keyAsked_arbiter (i : LaneId) (d : Datagram) :
    (State.keyAsked i d s).arbiter = s.arbiter := by simp [State.keyAsked]

@[simp] theorem State.datagram_arbiter (i : LaneId) (d : Datagram) : (s.datagram i d).arbiter = s.arbiter := by simp [State.datagram]

@[simp] theorem State.forwarded_arbiter (i : LaneId) : (s.forwarded i).arbiter = s.arbiter := by
  unfold State.forwarded
  split <;> simp

@[simp] theorem State.requestTake_arbiter : (s.requestTake).arbiter = s.arbiter := by
  unfold State.requestTake
  split <;> simp

@[simp] theorem State.takeNotice_arbiter : (s.takeNotice).arbiter = s.arbiter := by
  unfold State.takeNotice
  split <;> simp

@[simp] theorem State.noticeTimeout_arbiter : (s.noticeTimeout).arbiter = s.arbiter := by
  unfold State.noticeTimeout
  split <;> simp

@[simp] theorem State.resetComplete_arbiter (code unit : Nat) : (s.resetComplete code unit).arbiter = s.arbiter := rfl

@[simp] theorem State.lines_arbiter : (s.lines).arbiter = s.arbiter := rfl

@[simp] theorem State.epochEnd_arbiter : (s.epochEnd).arbiter = s.arbiter := rfl

@[simp] theorem State.readableImages_arbiter : (State.readableImages s).arbiter = s.arbiter := rfl

@[simp] theorem State.datagramCounters_arbiter : (State.datagramCounters s).arbiter = s.arbiter := by
  unfold State.datagramCounters
  split <;> simp

@[simp] theorem State.linkInputs_arbiter : (State.linkInputs s).arbiter = s.arbiter := by simp [State.linkInputs]

@[simp] theorem State.commitRound_arbiter : (State.commitRound s).arbiter = s.arbiter := by simp [State.commitRound]

@[simp] theorem State.epochBoundary_arbiter : (s.epochBoundary).arbiter = s.arbiter := by simp [State.epochBoundary]

@[simp] theorem State.imageSeal_arbiter : (s.imageSeal).arbiter = s.arbiter := rfl

@[simp] theorem State.both_arbiter (f : Lane → Lane) : (s.both f).arbiter = s.arbiter := rfl

@[simp] theorem State.bothBut_arbiter (missed : Option LaneId) (f : Lane → Lane) : (State.bothBut missed f s).arbiter = s.arbiter := rfl

@[simp] theorem State.one_arbiter (i : LaneId) (f : Lane → Lane) : (s.one i f).arbiter = s.arbiter := by simp [State.one]

@[simp] theorem State.powered_arbiter (i : LaneId) (f : Lane → Lane) : (s.powered i f).arbiter = s.arbiter := by simp [State.powered]

@[simp] theorem State.kept_arbiter (i : LaneId) (f : Lane → Lane) : (s.kept i f).arbiter = s.arbiter := by simp [State.kept]

@[simp] theorem State.keptBoth_arbiter (f : Lane → Lane) : (s.keptBoth f).arbiter = s.arbiter := rfl

@[simp] theorem State.beside_arbiter (f : Lane → Lane → Lane) : (s.beside f).arbiter = s.arbiter := by
  unfold State.beside
  split <;> simp

@[simp] theorem State.holderOnly_arbiter (f : Lane → Lane) : (s.holderOnly f).arbiter = s.arbiter := by
  unfold State.holderOnly
  split <;> simp

@[simp] theorem State.atOutlet_arbiter (o : Nat) (f : Lane → Lane) : (s.atOutlet o f).arbiter = s.arbiter := by simp [State.atOutlet]

@[simp] theorem State.atPack_arbiter (k : Nat) (f : Lane → Lane) : (s.atPack k f).arbiter = s.arbiter := by simp [State.atPack]

@[simp] theorem State.atPhase_arbiter (p : Nat) (f : Lane → Lane) : (s.atPhase p f).arbiter = s.arbiter := by simp [State.atPhase]

@[simp] theorem State.atHub_arbiter (i : LaneId) (h : Nat) (f : Lane → Lane) :
    (s.atHub i h f).arbiter = s.arbiter := by simp [State.atHub]

@[simp] theorem State.atAc_arbiter (i : LaneId) (n : Nat) (f : Lane → Lane) : (s.atAc i n f).arbiter = s.arbiter := by simp [State.atAc]

@[simp] theorem State.atPoint_arbiter (i : LaneId) (m : Nat) (f : Lane → Lane) : (s.atPoint i m f).arbiter = s.arbiter := by
  simp [State.atPoint]

@[simp] theorem State.below_arbiter (n u : Nat) (f : Lane → Lane) : (s.below n u f).arbiter = s.arbiter := by simp [State.below]

@[simp] theorem State.teamed_arbiter (f : Lane → Lane) : (s.teamed f).arbiter = s.arbiter := by simp [State.teamed]

@[simp] theorem State.mirror_arbiter (i : LaneId) (fired : Bool) (n : Nat) (detail : List Int) :
    (s.mirror i fired n detail).arbiter = s.arbiter := by
  simp [State.mirror]

@[simp] theorem State.pacerRow_arbiter (i : LaneId) (f : Bool → Lane → Lane) : (State.pacerRow i f s).arbiter = s.arbiter := by
  simp [State.pacerRow]

@[simp] theorem State.sessionCompare_arbiter (o : Nat) : (s.sessionCompare o).arbiter = s.arbiter := by simp [State.sessionCompare]

@[simp] theorem State.outletEvent_arbiter (o : Nat) (f : Lane → Lane) : (s.outletEvent o f).arbiter = s.arbiter := by
  simp [State.outletEvent]

@[simp] theorem State.atOutletBut_arbiter (o : Nat) (missed : Option LaneId) (f : Lane → Lane) :
    (State.atOutletBut o missed f s).arbiter = s.arbiter := by
  simp [State.atOutletBut]

@[simp] theorem State.messageBut_arbiter (o : Nat) (missed : Option LaneId) (f : Bool → Lane → Lane) :
    (State.messageBut o missed f s).arbiter = s.arbiter := by
  simp [State.messageBut]

@[simp] theorem State.message_arbiter (o : Heard Nat) (f : Bool → Lane → Lane) : (s.message o f).arbiter = s.arbiter := by
  simp [State.message]

@[simp] theorem State.fireBeside_arbiter (old : State) : (State.fireBeside s old).arbiter = s.arbiter := by
  unfold State.fireBeside
  split <;> simp

@[simp] theorem State.mastStep_arbiter (t : Nat) (f : Lane → Lane) : (s.mastStep t f).arbiter = s.arbiter := by simp [State.mastStep]

@[simp] theorem State.mastBoth_arbiter (t : Nat) (d f : Lane → Lane) : (State.mastBoth t d f s).arbiter = s.arbiter := by
  simp [State.mastBoth]

@[simp] theorem State.canDone_arbiter (b : Nat) (e : CanEnd) : (State.canDone b e s).arbiter = s.arbiter := by
  unfold State.canDone
  repeat' split
  all_goals simp

@[simp] theorem State.busRow_arbiter (i : LaneId) (b : Nat) (f : Lane → Lane) : (State.busRow i b f s).arbiter = s.arbiter := by
  simp [State.busRow]

@[simp] theorem State.sampleTaken_arbiter (i : LaneId) : (State.sampleTaken i s).arbiter = s.arbiter := by simp [State.sampleTaken]

@[simp] theorem State.ringShown_arbiter (i : LaneId) : (s.ringShown i).arbiter = s.arbiter := by simp [State.ringShown]

@[simp] theorem State.bypass_arbiter (net : Nat) (cue : BypassCue) : (s.bypass net cue).arbiter = s.arbiter := by simp [State.bypass]

@[simp] theorem State.trigEdge_arbiter (k : Nat) (rising : Bool) : (s.trigEdge k rising).arbiter = s.arbiter := by simp [State.trigEdge]

@[simp] theorem State.busWake_arbiter (b : Nat) (frame : Option CanFrame) : (s.busWake b frame).arbiter = s.arbiter := by
  simp [State.busWake]

@[simp] theorem State.pulseLane_arbiter (f : Lane → Lane) : (s.pulseLane f).arbiter = s.arbiter := by
  unfold State.pulseLane
  split <;> simp

@[simp] theorem State.proxBand_arbiter (o band : Nat) : (s.proxBand o band).arbiter = s.arbiter := by simp [State.proxBand]

@[simp] theorem State.tamperRow_arbiter (x : Latch) : (s.tamperRow x).arbiter = s.arbiter := by simp [State.tamperRow]

@[simp] theorem State.testPulseEnd_arbiter (x : Nat) (readBack : Bool) : (State.testPulseEnd x readBack s).arbiter = s.arbiter := by
  simp [State.testPulseEnd]

@[simp] theorem State.loopDrop_arbiter : (s.loopDrop).arbiter = s.arbiter := by simp [State.loopDrop]

@[simp] theorem State.houseRound_arbiter (i : LaneId) (h : Housekeeping) : (s.houseRound i h).arbiter = s.arbiter := by
  simp [State.houseRound]

@[simp] theorem State.dramOutcome_arbiter (i : LaneId) (corrected : Bool) (device line : Nat) :
    (s.dramOutcome i corrected device line).arbiter = s.arbiter := by
  simp [State.dramOutcome]

@[simp] theorem State.supplyMirror_arbiter (i : LaneId) (old : State) : (s.supplyMirror i old).arbiter = s.arbiter := by
  simp [State.supplyMirror]

@[simp] theorem namedLane_arbiter (r : Request) (f : LaneId → StateCmd) (hf : ∀ i s, (f i s).1.arbiter = s.arbiter) :
    (namedLane r f s).1.arbiter = s.arbiter := by
  unfold namedLane
  dsimp only
  repeat' split
  all_goals simp [hf]

@[simp] theorem cmdLaneStatus_arbiter (r : Request) : (cmdLaneStatus r s).1.arbiter = s.arbiter := by
  unfold cmdLaneStatus
  split <;> simp

@[simp] theorem cmdHandover_arbiter (r : Request) : (cmdHandover r s).1.arbiter = s.arbiter := by
  unfold cmdHandover
  refine namedLane_arbiter s r _ (fun i s => ?_)
  dsimp only
  repeat' split
  all_goals simp

@[simp] theorem cmdFwLoad_arbiter (r : Request) : (cmdFwLoad r s).1.arbiter = s.arbiter := by
  unfold cmdFwLoad
  refine namedLane_arbiter s r _ (fun i s => ?_)
  dsimp only
  repeat' split
  all_goals simp

@[simp] theorem cmdFwVerify_arbiter (r : Request) : (cmdFwVerify r s).1.arbiter = s.arbiter := by
  unfold cmdFwVerify
  refine namedLane_arbiter s r _ (fun i s => ?_)
  dsimp only
  repeat' split
  all_goals simp

@[simp] theorem cmdFwActivate_arbiter (r : Request) : (cmdFwActivate r s).1.arbiter = s.arbiter := by
  unfold cmdFwActivate
  refine namedLane_arbiter s r _ (fun i s => ?_)
  extract_lets kind b l o v s1 s2
  have h : s2.arbiter = s.arbiter := by simp only [s2, s1]; split <;> simp
  clear_value kind b l o v s1 s2
  repeat' split
  all_goals simp [h]

@[simp] theorem cmdLanePark_arbiter (r : Request) : (cmdLanePark r s).1.arbiter = s.arbiter := by
  unfold cmdLanePark
  refine namedLane_arbiter s r _ (fun i s => ?_)
  repeat' split
  all_goals simp

@[simp] theorem cmdLaneUnpark_arbiter (r : Request) : (cmdLaneUnpark r s).1.arbiter = s.arbiter := by
  unfold cmdLaneUnpark
  refine namedLane_arbiter s r _ (fun i s => ?_)
  dsimp only
  repeat' split
  all_goals simp

@[simp] theorem cmdLaneEligible_arbiter (r : Request) : (cmdLaneEligible r s).1.arbiter = s.arbiter := by
  unfold cmdLaneEligible
  split <;> simp

@[simp] theorem State.moduleRestart_arbiter : (State.moduleRestart s).arbiter = s.arbiter := by simp [State.moduleRestart]

@[simp] theorem cmdSleepEnter_arbiter (r : Request) : (cmdSleepEnter r s).1.arbiter = s.arbiter := by
  unfold cmdSleepEnter
  repeat' split
  all_goals simp

@[simp] theorem cmdPowerStatus_arbiter (r : Request) : (cmdPowerStatus r s).1.arbiter = s.arbiter := by
  unfold cmdPowerStatus
  split <;> simp

@[simp] theorem cmdModuleRestart_arbiter (r : Request) : (cmdModuleRestart r s).1.arbiter = s.arbiter := by
  unfold cmdModuleRestart
  dsimp only
  repeat' split
  all_goals simp

@[simp] theorem onLanes_arbiter (r : Request) (f : Lane → Lane × Option Reply) : (onLanes r f s).1.arbiter = s.arbiter := by
  unfold onLanes
  dsimp only
  repeat' split
  all_goals simp

@[simp] theorem onLanesNow_arbiter (r : Request) (f : Lane → Lane × Reply) : (onLanesNow r f s).1.arbiter = s.arbiter := by
  simp [onLanesNow]

@[simp] theorem State.run_arbiter (code : Nat) (r : Request) (f : StateCmd) (hf : ∀ s, (f s).1.arbiter = s.arbiter) :
    (State.run code r f s).arbiter = s.arbiter := by
  unfold State.run
  split
  · simp
  · extract_lets l named lacks x
    have h := hf (if cancelsSleep code then s.cancelSleep else s)
    have h2 : (if cancelsSleep code then s.cancelSleep else s).arbiter = s.arbiter := by split <;> simp
    have hx : x.1.arbiter = s.arbiter := h.trans h2
    clear_value x
    repeat' split
    all_goals simp [hx]

@[simp] theorem cmdCaps_arbiter (r : Request) : (cmdCaps r s).1.arbiter = s.arbiter := by
  unfold cmdCaps
  split <;> simp

@[simp] theorem cmdReset_arbiter (r : Request) : (cmdReset r s).1.arbiter = s.arbiter := by
  unfold cmdReset
  extract_lets code unit u i l o busy armed refused go
  clear_value u l o busy armed refused go
  repeat' split
  all_goals simp

@[simp] theorem cmdClockSet_arbiter (r : Request) : (cmdClockSet r s).1.arbiter = s.arbiter := by
  unfold cmdClockSet
  dsimp only
  repeat' split
  all_goals simp

theorem commandOf_arbiter (code : Nat) (r : Request) (f : StateCmd) (h : commandOf code r = some f) : (f s).1.arbiter = s.arbiter := by
  unfold commandOf at h
  split at h <;> cases h <;> simp [doNop, doCaps, doRingSet, doRingResync, doRingStatus, doSnapshot, doReadStaged, doHistory, doStage,
    doCommit, doDiscard, doCommitList, doSubscribe, doUnsubscribe, doEventMap, doEventMapRead, doResetFunction, doSessionAuthorize,
    doSessionStop, doOutletBlock, doOutletClear, doSessionInfo, doSessionRestart, doKeyMsgLoad, doKeyMsgApply, doKeyInfo, doKeyList,
    doKeyCounterRead, doLaneStatus, doBatonHandover, doFwLoad, doFwVerify, doFwActivate, doLanePark, doLaneUnpark, doLaneEligible,
    doTeamStatus, doTeamMembers, doTeamTrigger, doTuneStart, doTuneStop, doTuneResult, doTraceArm, doTraceRead, doAcqArm, doAcqDisarm,
    doAcqTrigger, doAcqList, doAcqRead, doAcqDelete, doPeriodRead, doProfileRead, doLogRead, doRecordRead, doClockRead, doClockSet,
    doTamperAck, doPubkeyRead, doSleepEnter, doTtWrite, doTtRead, doTtClear, doPowerStatus, doModuleRestart, doCanTxWrite, doCanRxRead,
    doCanSleep, doCanWake, doCanRecover, doMastWrite, doMastRead, doMastMapRead]

/-- A request that a lane carries out leaves the arbiter, whichever command it is. -/
theorem State.run_commandOf_arbiter {code : Nat} {r : Request} {f : StateCmd} (h : commandOf code r = some f) :
    (State.run code r f s).arbiter = s.arbiter :=
  State.run_arbiter s _ _ _ (fun s => commandOf_arbiter s _ _ _ h)

@[simp] theorem State.execute_arbiter (r : Request) : (State.execute r s).arbiter = s.arbiter := by
  unfold State.execute
  split
  · next f h => exact s.run_commandOf_arbiter h
  · exact State.run_arbiter s _ _ _ (fun s => rfl)

@[simp] theorem State.executeTaken_arbiter : (State.executeTaken s).arbiter = s.arbiter := by
  unfold State.executeTaken
  split <;> simp

@[simp] theorem State.safetySample_arbiter (i : LaneId) (c1 c2 : SafetyInputs) : (State.safetySample i c1 c2 s).arbiter = s.arbiter := by
  simp [State.safetySample, State.foldl_arbiter _ _ (fun (s : State) (x : Nat) => State.both_arbiter s (Lane.outputFault x))]

@[simp] theorem State.linkRow_arbiter (i : LaneId) (h : Nat) (f : Lane → Lane) : (s.linkRow i h f).arbiter = s.arbiter := by
  simp [State.linkRow]

@[simp] theorem State.factRow_arbiter (i : LaneId) (h : Nat) (f : Lane → Lane) : (s.factRow i h f).arbiter = s.arbiter := by
  simp [State.factRow]

@[simp] theorem State.hubIdentity_arbiter (i : LaneId) (h iFs vFs fitted : Nat) :
    (s.hubIdentity i h iFs vFs fitted).arbiter = s.arbiter := by
  unfold State.hubIdentity
  cases s.holder <;> simp

@[simp] theorem State.countLap_baton : s.countLap.arbiter.baton = s.arbiter.baton := rfl

@[simp] theorem State.lapStart_baton (inp : LaneId → LapInput) : (s.lapStart inp).arbiter.baton = s.arbiter.baton := by
  simp [State.lapStart]

end ArbiterKept

/-! ### The baton number (R353, R355) -/

/-- The baton number of `t` is that of `s`, or a later one of 32 bits that came while no lane was granted the baton (R355). -/
def BatonOnward (s t : State) : Prop :=
  t.arbiter.baton = s.arbiter.baton
  ∨ s.arbiter.grant = none ∧ t.arbiter.baton < 2 ^ 32 ∧ batonLater t.arbiter.baton s.arbiter.baton = true

theorem BatonOnward.of_arbiter {s s' t : State} (h : s'.arbiter = s.arbiter) (ht : BatonOnward s' t) : BatonOnward s t := by
  unfold BatonOnward at *
  rwa [h] at ht

theorem BatonOnward.of_eq {s t : State} (h : t.arbiter.baton = s.arbiter.baton) : BatonOnward s t := .inl h

theorem BatonOnward.of_arbiter_eq {s t t' : State} (h : BatonOnward s t) (ht : t'.arbiter = t.arbiter) : BatonOnward s t' := by
  unfold BatonOnward at *
  rwa [ht]

theorem BatonOnward.drive {s t : State} (h : BatonOnward s t) : BatonOnward s t.drive := h.of_arbiter_eq t.drive_arbiter

theorem State.loadBaton_onward (i : LaneId) (s : State) : BatonOnward s (s.loadBaton i) := by
  unfold State.loadBaton
  dsimp only
  split
  · next h =>
    simp only [Bool.and_eq_true, Option.isNone_iff_eq_none] at h
    exact .inr ⟨h.1, Nat.mod_lt _ (by decide), h.2⟩
  · exact .of_eq rfl

theorem State.bootedLane_onward (i : LaneId) (s : State) : BatonOnward s (s.bootedLane i) := by
  unfold State.bootedLane
  dsimp only
  split
  · exact .of_eq rfl
  · split
    · exact .of_eq (by split <;> simp)
    · split
      · split
        · exact .of_eq (by simp)
        · have h := State.loadBaton_onward i (s.onLane i (fun l => decide (l.p Mp.mpState = 2)) (fun _ _ l => l.setp Mp.mpState 0))
          unfold BatonOnward at *
          simpa using h
      · exact .of_eq (by simp)

theorem State.bootComplete_onward (i : LaneId) (s : State) : BatonOnward s (s.bootComplete i) := by
  unfold State.bootComplete
  dsimp only
  split
  · exact .of_eq rfl
  · exact (State.bootedLane_onward i _).of_arbiter (by simp)

theorem State.lapsStart_onward (i : LaneId) (s : State) : BatonOnward s (s.lapsStart i) := by
  unfold State.lapsStart
  dsimp only
  split
  · exact .of_eq rfl
  · exact (State.bootedLane_onward i _).of_arbiter (by simp)

theorem State.keeperTimeout_onward (s : State) : BatonOnward s s.keeperTimeout := by
  unfold State.keeperTimeout
  extract_lets go
  have hgo : ∀ i t, go i s = some t → BatonOnward s t := by
    intro i t h
    simp only [go] at h
    split at h
    · cases h
      exact (State.bootedLane_onward _ _).of_arbiter (by simp)
    · cases h
  split
  · next t h => exact hgo _ _ h
  · cases h : go .B s with
    | none => exact .of_eq rfl
    | some t => exact hgo _ _ h

/-- The arbiter's number stands at an evaluation, or advances by one in 32 bits (R353). -/
theorem State.grantNext_baton (s : State) (n : Nat) :
    (s.grantNext n).baton = s.arbiter.baton ∨ (s.grantNext n).baton = (s.arbiter.baton + 1) % 2 ^ 32 := by
  unfold State.grantNext
  dsimp only
  repeat' split
  all_goals simp

/-- The lanes' laps run and none has been evaluated in this one: what an evaluation needs to do anything (R353). -/
def State.evaluates (s : State) : Prop := (s.a.lapping || s.b.lapping) = true ∧ s.arbiter.evaluated ≠ some s.lapNow

theorem State.evaluates_of_lane {s : State} {i : LaneId} (hl : (s.lane i).lapping = true) (he : s.arbiter.evaluated ≠ some s.lapNow) :
    s.evaluates :=
  ⟨by cases i <;> simp_all [State.lane], he⟩

theorem State.grantEvaluation_idle (s : State) (h : ¬ s.evaluates) : s.grantEvaluation = s := by
  unfold State.grantEvaluation
  rw [if_pos]
  simpa [State.evaluates, imp_iff_not_or] using h

theorem State.grantEvaluation_arbiter (s : State) (h : s.evaluates) :
    s.grantEvaluation.arbiter = { s.grantNext s.lapNow with evaluated := some s.lapNow } := by
  obtain ⟨hlap, he⟩ := h
  unfold State.grantEvaluation
  dsimp only
  rw [if_neg (by rw [hlap]; simp [he])]
  split
  · simp
  · cases s.arbiter.grant <;> cases (s.grantNext s.lapNow).grant <;> simp

/-- What the row of an evaluation leaves in the arbiter. -/
theorem exec_grantEvaluation_arbiter {s t : State} (h : exec .grantEvaluation s = .next t) :
    ¬ s.evaluates ∧ t.arbiter = s.arbiter ∨ s.evaluates ∧ t.arbiter = { s.grantNext s.lapNow with evaluated := some s.lapNow } := by
  cases h
  rw [State.lines_arbiter, State.drive_arbiter]
  by_cases h : s.evaluates
  · exact .inr ⟨h, s.grantEvaluation_arbiter h⟩
  · exact .inl ⟨h, by rw [s.grantEvaluation_idle h]⟩

theorem does_grantEvaluation {s : State} {P : State → Prop} (h : s.evaluates)
    (hP : ∀ t : State, t.arbiter = { s.grantNext s.lapNow with evaluated := some s.lapNow } → P t) : Does .grantEvaluation s P :=
  does_of_next rfl (hP _ (by rw [State.lines_arbiter, State.drive_arbiter, s.grantEvaluation_arbiter h]))

theorem batonLater_succ (b : Nat) (h : b < 2 ^ 32) : batonLater ((b + 1) % 2 ^ 32) b = true := by
  simp only [batonLater, decide_eq_true_eq]
  omega

/-- Every command but the evaluation carries the baton number onward: a request of a host and every other row leave the arbiter's
number, but for the three rows that can boot a lane without a holder (R355). -/
theorem exec_onward (c : Instr) (s t : State) (hc : c ≠ .grantEvaluation) (h : exec c s = .next t) : BatonOnward s t := by
  cases c
  case grantEvaluation => exact absurd rfl hc
  case bootComplete i => cases h; exact (State.bootComplete_onward i s).drive
  case lapsStart i => cases h; exact ((State.lapsStart_onward i s).of_arbiter_eq (State.ringShown_arbiter ..)).drive
  case keeperTimeout => cases h; exact (State.keeperTimeout_onward s).drive
  case nop r | caps r | ringSet r | ringResync r | ringStatus r | snapshot r | readStaged r | history r | stage r | commit r | discard r
    | commitList r | subscribe r | unsubscribe r | eventMap r | eventMapRead r | resetFunction r | sessionAuthorize r | sessionStop r
    | outletBlock r | outletClear r | sessionInfo r | sessionRestart r | keyMsgLoad r | keyMsgApply r | keyInfo r | keyList r |
    keyCounterRead r | laneStatus r | batonHandover r | fwLoad r | fwVerify r | fwActivate r | lanePark r | laneUnpark r |
    laneEligible r | teamStatus r | teamMembers r | teamTrigger r | tuneStart r | tuneStop r | tuneResult r | traceArm r | traceRead r
    | acqArm r | acqDisarm r | acqTrigger r | acqList r | acqRead r | acqDelete r | periodRead r | profileRead r | logRead r |
    recordRead r | clockRead r | clockSet r | tamperAck r | pubkeyRead r | sleepEnter r | ttWrite r | ttRead r | ttClear r |
    powerStatus r | moduleRestart r | canTxWrite r | canRxRead r | canSleep r | canWake r | canRecover r | mastWrite r | mastRead r |
    mastMapRead r =>
    cases h
    exact .of_eq (congrArg Arbiter.baton (s.run_commandOf_arbiter rfl))
  all_goals (cases h; exact .of_eq (by simp))

/-- Settles O58: the three rows that load a number do so without a holder, and an evaluation counts on by one. -/
theorem batonNumber : Obligations.BatonNumber := by
  unfold Obligations.BatonNumber
  have hexec : ∀ (c : Instr) (s t : State), s.arbiter.baton < 2 ^ 32 → exec c s = .next t →
      t.arbiter.baton = s.arbiter.baton ∨ t.arbiter.baton < 2 ^ 32 ∧ batonLater t.arbiter.baton s.arbiter.baton = true
        ∧ (c = .grantEvaluation ∨ s.arbiter.grant = none) := by
    intro c s t hlt h
    by_cases hc : c = .grantEvaluation
    · subst hc
      obtain ⟨-, h⟩ | ⟨-, h⟩ := exec_grantEvaluation_arbiter h
      · exact .inl (by rw [h])
      · obtain hb | hb := s.grantNext_baton s.lapNow
        · exact .inl (by rw [h]; exact hb)
        · refine .inr ?_
          rw [h, hb]
          exact ⟨Nat.mod_lt _ (by decide), batonLater_succ _ hlt, .inl rfl⟩
    · obtain h | ⟨hnone, hlt, hlater⟩ := exec_onward c s t hc h
      · exact .inl h
      · exact .inr ⟨hlt, hlater, .inr hnone⟩
  refine ⟨fun s t hlt h => ?_, fun c s t hlt h hne => ?_⟩
  · unfold step at h
    split at h
    · cases h; exact hlt
    · next c cs _ =>
      obtain h | ⟨h, -⟩ := hexec c { s with pending := cs } t hlt h
      · exact h ▸ hlt
      · exact h
  · obtain h | ⟨-, hlater, hwhen⟩ := hexec c s t hlt h
    · exact absurd h hne
    · exact ⟨hlater, hwhen⟩

/-- A holder that is present, wants the baton and is live keeps it (R353). -/
def Lane.keepsGrant (l : Lane) (n : Nat) : Bool := l.present && l.link.want && l.liveWithin n 2

theorem State.grantNext_of_holder {s : State} {h : LaneId} (n : Nat) (hg : s.arbiter.grant = some h) :
    s.grantNext n = if (s.lane h).keepsGrant n then s.arbiter
      else if (s.lane h.other).qualifies n then { s.arbiter with grant := some h.other, baton := (s.arbiter.baton + 1) % 2 ^ 32 }
      else { s.arbiter with grant := none } := by
  unfold State.grantNext Lane.keepsGrant
  simp only [hg]
  rfl

theorem Lane.keepsGrant_eq_false_iff (l : Lane) (n : Nat) :
    l.keepsGrant n = false ↔ l.present = false ∨ l.link.want = false ∨ l.liveWithin n 2 = false := by
  cases hp : l.present <;> cases hw : l.link.want <;> simp [Lane.keepsGrant, hp, hw]

/-- The lane that the first grant goes to: it qualifies, and the other does not or asked later; lane A of two that asked at once. -/
theorem State.grantNext_of_none {s : State} {h : LaneId} (n : Nat) (hg : s.arbiter.grant = none) (hq : (s.lane h).qualifies n = true)
    (hfirst : (s.lane h.other).qualifies n = true → (s.lane h).link.wantLap < (s.lane h.other).link.wantLap
      ∨ (h = .A ∧ (s.lane h).link.wantLap = (s.lane h.other).link.wantLap)) :
    s.grantNext n = { s.arbiter with grant := some h, baton := (s.arbiter.baton + 1) % 2 ^ 32 } := by
  unfold State.grantNext
  cases h with
  | A =>
    cases ho : s.b.qualifies n with
    | false => simp_all [State.lane, LaneId.other]
    | true =>
      have hle : ¬ s.b.link.wantLap < s.a.link.wantLap := by
        have := hfirst ho
        simp only [State.lane, LaneId.other] at this
        omega
      simp_all [State.lane, LaneId.other]
  | B =>
    cases ho : s.a.qualifies n with
    | false => simp_all [State.lane, LaneId.other]
    | true =>
      have hlt : s.b.link.wantLap < s.a.link.wantLap := by
        simpa [State.lane, LaneId.other] using hfirst ho
      simp_all [State.lane, LaneId.other]

/-- Settles O59: no other command moves the grant, and an evaluation leaves it with a lane that keeps it. -/
theorem batonStays : Obligations.BatonStays := by
  unfold Obligations.BatonStays
  intro c s t h ht hg hlost
  by_cases hc : c = .grantEvaluation
  · subst hc
    refine ⟨rfl, (Lane.keepsGrant_eq_false_iff ..).mp (Bool.eq_false_iff.mpr fun hkeep => hlost ?_)⟩
    obtain ⟨-, ha⟩ | ⟨-, ha⟩ := exec_grantEvaluation_arbiter ht
    · rw [ha, hg]
    · rw [ha, State.grantNext_of_holder _ hg, if_pos hkeep]
      exact hg
  · obtain ⟨u, hu, -, -, -, -, -, -, hgrant⟩ := nothingElseMoves c s
    obtain rfl := Host.Outcome.next.inj (hu.symm.trans ht)
    exact absurd ((hgrant hc).1.trans hg) hlost

/-- Settles O27, by the rows of the arbiter's table. -/
theorem grant : Obligations.Grant := by
  unfold Obligations.Grant
  refine ⟨fun s h hl he hg hq hfirst => ?_, fun s he => ?_, fun s h hl he hg => ⟨fun hp hw hlive => ?_, fun hgone hq => ?_, fun hgone hq => ?_⟩⟩
  · refine does_grantEvaluation (State.evaluates_of_lane hl he) fun t ht => ?_
    rw [ht, State.grantNext_of_none _ hg hq hfirst]
    exact ⟨rfl, rfl⟩
  · refine does_of_next rfl ?_
    rw [State.lines_arbiter, State.drive_arbiter, s.grantEvaluation_idle fun h => h.2 he]
  all_goals
    refine does_grantEvaluation (State.evaluates_of_lane hl he) fun t ht => ?_
    rw [ht, State.grantNext_of_holder _ hg]
  · rw [if_pos (by simp [Lane.keepsGrant, hp, hw, hlive])]
    exact ⟨hg, rfl⟩
  · rw [(Lane.keepsGrant_eq_false_iff ..).mpr hgone, hq]
    exact ⟨rfl, rfl⟩
  · rw [(Lane.keepsGrant_eq_false_iff ..).mpr hgone, hq]
    exact ⟨rfl, rfl⟩

end Sys2Proof.Machine
end

section
/-!
13_functional_safety.md: what lies beside the safety layer of a lane, its outputs, and its rows.
-/

namespace Sys2Proof.Machine

open Sys2Proof

/-! ### What a lane holds beside its safety layer (R349, R350) -/

/-- Everything but the record of the safety layer and the points of domain 7 other than those of `P`. -/
def LaneUnit.aside (P : Nat → Bool) : LaneUnit SafeSt where
  rest l := l.safe
  own a := decide (a < 0x70000 ∨ 0x80000 ≤ a) || P a
  rest_besideEvents _ _ := rfl

section Aside

variable {P : Nat → Bool} (l : Lane)

theorem LaneUnit.aside_setp {a : Nat} (v : Int) (ha : a < 0x70000 ∨ 0x80000 ≤ a) : (aside P).outside (l.setp a v) = (aside P).outside l :=
  (aside P).outside_setp l v (by simp [aside, ha])

theorem LaneUnit.aside_inc {a : Nat} (ha : a < 0x70000 ∨ 0x80000 ≤ a) : (aside P).outside (l.inc a) = (aside P).outside l :=
  (aside P).outside_inc l (by simp [aside, ha])

@[simp] theorem Lane.setOut_aside (o : Nat) (x : OutletSt) :
    (LaneUnit.aside P).outside (l.setOut o x) = (LaneUnit.aside P).outside l := rfl

@[simp] theorem Lane.setPhase_aside (p : Nat) (x : PhaseSt) :
    (LaneUnit.aside P).outside (l.setPhase p x) = (LaneUnit.aside P).outside l := rfl

@[simp] theorem Lane.setPack_aside (k : Nat) (x : PackSt) :
    (LaneUnit.aside P).outside (l.setPack k x) = (LaneUnit.aside P).outside l := rfl

@[simp] theorem Lane.metBang_aside (f : MetSt → MetSt) : (LaneUnit.aside P).outside (l.met! f) = (LaneUnit.aside P).outside l := rfl

@[simp] theorem Lane.disarm_aside (p : Nat) : (LaneUnit.aside P).outside (l.disarm p) = (LaneUnit.aside P).outside l := by
  unfold Lane.disarm
  dsimp only
  split <;> rfl

theorem outletPacks_lt {m : UMap Int} {o k : Nat} (h : k ∈ outletPacks m o) : k < 64 := by
  simp only [outletPacks, cfgUnits, List.mem_map, List.mem_filter, List.mem_filterMap] at h
  obtain ⟨e, ⟨⟨w, -, hw⟩, -⟩, rfl⟩ := h
  split at hw
  · next hrange =>
    obtain rfl := Option.some.inj hw
    exact hrange.2.2
  · cases hw

theorem usedPacks_lt {m : UMap Int} {k : Nat} (h : k ∈ usedPacks m) : k < 64 :=
  List.mem_range.mp (List.mem_filter.mp h).1

section Packs

variable {k : Nat} (hk : k < 64)

include hk

theorem Lane.packOff_aside : (LaneUnit.aside P).outside (l.packOff k) = (LaneUnit.aside P).outside l := by
  have hphases : ∀ p ∈ packPhases l.cfg k, (LaneUnit.aside P).Inside (fun l =>
      let l1 := (l.disarm p).setp (Ph.weight p) 0
      if l1.switching p then l1.setp (Ph.memberState p) msParked else l1) := by
    intro p hp l
    have hp := packPhases_lt hp
    dsimp only
    split <;> simp (disch := omega) [LaneUnit.aside_setp, Ph.weight, Ph.memberState]
  unfold Lane.packOff Lane.recapacity
  simp (disch := omega) [LaneUnit.aside_setp, Pk.packState, Pk.target, Pk.capacityA, Pk.overloadA]
  exact LaneUnit.outside_forL _ _ hphases l

theorem Lane.packStop_aside : (LaneUnit.aside P).outside (l.packStop k) = (LaneUnit.aside P).outside l := by
  unfold Lane.packStop
  split
  · exact l.packOff_aside hk
  · split
    · simp (disch := omega) [LaneUnit.aside_setp, Pk.packState]
    · rfl

theorem Lane.packStart_aside : (LaneUnit.aside P).outside (l.packStart k) = (LaneUnit.aside P).outside l := by
  unfold Lane.packStart
  split
  · simp (disch := omega) [LaneUnit.aside_setp, Pk.packState]
  · rfl

end Packs

theorem Lane.packsStopped_aside (o : Nat) (m : UMap Int) :
    (LaneUnit.aside P).outside (l.forL (outletPacks m o) Lane.packStop) = (LaneUnit.aside P).outside l :=
  LaneUnit.outside_forL _ _ (fun _ hk l => l.packStop_aside (outletPacks_lt hk)) l

@[simp] theorem Lane.outletOff_aside (o : Nat) : (LaneUnit.aside P).outside (l.outletOff o) = (LaneUnit.aside P).outside l :=
  LaneUnit.outside_forL _ _ (fun _ hk l => l.packOff_aside (outletPacks_lt hk)) l

/-! ### Keys and records that a session uses -/

@[simp] theorem Lane.keyPoints_aside : (LaneUnit.aside P).outside l.keyPoints = (LaneUnit.aside P).outside l := by
  simp (disch := omega) [Lane.keyPoints, LaneUnit.aside_setp, Key.storeSerialOk, Key.slotsValid, Key.slotsOrphaned]

@[simp] theorem Lane.eraseKey_aside (t : Nat) : (LaneUnit.aside P).outside (l.eraseKey t) = (LaneUnit.aside P).outside l := by
  unfold Lane.eraseKey
  split
  · rfl
  · exact Lane.keyPoints_aside _

@[simp] theorem Lane.askKey_aside (e t op : Nat) : (LaneUnit.aside P).outside (l.askKey e t op).1 = (LaneUnit.aside P).outside l := by
  unfold Lane.askKey Lane.keyDelivery
  dsimp only
  split
  · rfl
  · split
    · split <;> rfl
    · simp (disch := omega) [LaneUnit.aside_setp, LaneUnit.aside_inc, Key.engineRefusals, Key.lastRefusal]

@[simp] theorem Lane.sessionOpen_aside (o : Nat) : (LaneUnit.aside P).outside (l.sessionOpen o) = (LaneUnit.aside P).outside l := by
  unfold Lane.sessionOpen
  split <;> rfl

@[simp] theorem Lane.sessionClose_aside (o : Nat) : (LaneUnit.aside P).outside (l.sessionClose o) = (LaneUnit.aside P).outside l := by
  unfold Lane.sessionClose
  repeat' split
  all_goals rfl

@[simp] theorem Lane.signRecord_aside (o : Nat) : (LaneUnit.aside P).outside (l.signRecord o) = (LaneUnit.aside P).outside l := by
  unfold Lane.signRecord
  split
  · rfl
  · simp (disch := omega) [LaneUnit.aside_setp, Cal.recordsSigned]

/-! ### The session of an outlet -/

@[simp] theorem Lane.outEvent_aside (o : Nat) : (LaneUnit.aside P).outside (l.outEvent o) = (LaneUnit.aside P).outside l := by
  simp [Lane.outEvent]

@[simp] theorem Lane.rampStart_aside (o : Nat) : (LaneUnit.aside P).outside (l.rampStart o) = (LaneUnit.aside P).outside l := rfl

@[simp] theorem Lane.openContactors_aside (o : Nat) :
    (LaneUnit.aside P).outside (l.openContactors o) = (LaneUnit.aside P).outside l := rfl

@[simp] theorem Lane.openIfSafe_aside (o : Nat) : (LaneUnit.aside P).outside (l.openIfSafe o) = (LaneUnit.aside P).outside l := by
  unfold Lane.openIfSafe
  split <;> simp

@[simp] theorem Lane.unlatch_aside (o : Nat) : (LaneUnit.aside P).outside (l.unlatch o) = (LaneUnit.aside P).outside l := by
  unfold Lane.unlatch
  split <;> simp

section Outlet

variable {o : Nat} (ho : o < 32)

include ho

theorem Lane.recordFault_aside (code : Nat) : (LaneUnit.aside P).outside (l.recordFault o code) = (LaneUnit.aside P).outside l := by
  unfold Lane.recordFault
  dsimp only
  split <;> simp (disch := omega) [LaneUnit.aside_setp, LaneUnit.aside_inc, Out.faults, Out.faultCode, Out.blocked]

theorem Lane.reblock_aside : (LaneUnit.aside P).outside (l.reblock o) = (LaneUnit.aside P).outside l := by
  unfold Lane.reblock
  dsimp only
  split <;> simp (disch := omega) [LaneUnit.aside_setp, Out.blocked]

theorem Lane.holdMet_aside (n : Nat) : (LaneUnit.aside P).outside (l.holdMet o n) = (LaneUnit.aside P).outside l :=
  (Lane.reblock_aside _ ho).trans rfl

theorem Lane.sessionStart_aside : (LaneUnit.aside P).outside (l.sessionStart o) = (LaneUnit.aside P).outside l := by
  simp (disch := omega) [Lane.sessionStart, LaneUnit.aside_setp, LaneUnit.aside_inc, Out.faultCode, Out.evVTargetMv, Out.evITargetA,
    Out.evIMaxA, Out.evPMaxW, Out.evVMaxMv, Out.blocked, Out.sessions]

theorem Lane.stepAction_aside (st : Int) : (LaneUnit.aside P).outside (l.stepAction o st) = (LaneUnit.aside P).outside l := by
  unfold Lane.stepAction
  dsimp only
  split_ifs
  · exact l.sessionStart_aside ho
  · rfl
  · rfl
  · rfl
  · rfl
  · exact (Lane.packsStopped_aside _ o _).trans rfl
  · rw [Lane.recordFault_aside _ ho]
    simp
  · simp
  · rfl

theorem Lane.enterStep_aside (st : Int) : (LaneUnit.aside P).outside (l.enterStep o st) = (LaneUnit.aside P).outside l := by
  unfold Lane.enterStep
  split
  · rfl
  · rw [Lane.outEvent_aside, Lane.stepAction_aside _ ho]
    simp (disch := omega) [LaneUnit.aside_setp, Out.sessionStep]

theorem Lane.stopSession_aside : (LaneUnit.aside P).outside (l.stopSession o) = (LaneUnit.aside P).outside l := by
  have hstop : ∀ (l : Lane) (q : Nat → Bool), (LaneUnit.aside P).outside (l.forL ((outletPacks l.cfg o).filter q) Lane.packStop)
      = (LaneUnit.aside P).outside l := fun l q =>
    LaneUnit.outside_forL _ _ (fun _ hk l => l.packStop_aside (outletPacks_lt (List.mem_of_mem_filter hk))) l
  unfold Lane.stopSession
  dsimp only
  split_ifs
  · exact Lane.enterStep_aside _ ho _
  · rw [Lane.enterStep_aside _ ho, hstop]
  · rw [Lane.enterStep_aside _ ho, Lane.openIfSafe_aside, Lane.packsStopped_aside, Lane.setOut_aside, hstop]
  · rfl

theorem Lane.outletFault_aside (code : Nat) : (LaneUnit.aside P).outside (l.outletFault o code) = (LaneUnit.aside P).outside l := by
  unfold Lane.outletFault
  rw [Lane.stopSession_aside _ ho, Lane.recordFault_aside _ ho]

theorem Lane.tripSession_aside (code : Nat) : (LaneUnit.aside P).outside (l.tripSession o code) = (LaneUnit.aside P).outside l := by
  unfold Lane.tripSession
  dsimp only
  split_ifs <;> simp [Lane.enterStep_aside _ ho, Lane.recordFault_aside _ ho]

theorem Lane.tripOutlet_aside (code : Nat) (own : Bool) :
    (LaneUnit.aside P).outside (l.tripOutlet o code own) = (LaneUnit.aside P).outside l := by
  unfold Lane.tripOutlet
  dsimp only
  split_ifs <;> simp [Lane.tripSession_aside _ ho, Lane.recordFault_aside _ ho]

theorem Lane.discharged_aside : (LaneUnit.aside P).outside (l.discharged o) = (LaneUnit.aside P).outside l := by
  unfold Lane.discharged
  split
  · split
    · simp (disch := omega) [LaneUnit.aside_setp, Out.dischargeMs]
    · rfl
  · rfl

theorem Lane.advance_aside : (LaneUnit.aside P).outside (l.advance o) = (LaneUnit.aside P).outside l := by
  have hstart : ∀ (l : Lane) (m : UMap Int),
      (LaneUnit.aside P).outside (l.forL (outletPacks m o) Lane.packStart) = (LaneUnit.aside P).outside l :=
    fun l m => LaneUnit.outside_forL _ _ (fun _ hk l => l.packStart_aside (outletPacks_lt hk)) l
  unfold Lane.advance
  dsimp only
  split_ifs <;> simp [Lane.enterStep_aside _ ho, hstart, Lane.outletFault_aside _ ho]

end Outlet

end Aside

/-! ### A function that trips (R322, R327, R351) -/

/-- A safety function: one of the module's three, or one of an outlet's seven (R350). -/
def SafetyFn (n : Nat) : Prop := n < 3 ∨ 16 ≤ n ∧ n < 16 + 8 * 32 ∧ n % 8 < 7

theorem fnAddr_eq_iff {n m : Nat} (hn : SafetyFn n) (hm : SafetyFn m) : fnAddr n = fnAddr m ↔ n = m := by
  unfold SafetyFn at hn hm
  unfold fnAddr SafM.fnStateMod Saf.fnState
  split <;> split <;> omega

theorem safetyFn_outFn {o k : Nat} (ho : o < 32) (hk : k < 7) : SafetyFn (outFn o k) := by
  unfold SafetyFn outFn
  omega

/-- The points that count trips and keep their causes (R350). -/
def tripPoint (a : Nat) : Bool :=
  decide (a = SafM.modTripCause) || decide (a < 0x78000 ∧ (a % 1024 = 0x17 ∨ a % 1024 = 0x18))

theorem tripPoint_fnAddr {n : Nat} (hn : SafetyFn n) : tripPoint (fnAddr n) = false ∧ 0x70000 ≤ fnAddr n ∧ fnAddr n < 0x80000 := by
  unfold SafetyFn at hn
  unfold tripPoint SafM.modTripCause fnAddr SafM.fnStateMod Saf.fnState
  simp only [Bool.or_eq_false_iff, decide_eq_false_iff_not]
  split <;> omega

section Trip

variable (l : Lane) {outlets n : Nat} (cause : Nat) (ch1 ch2 : Bool)

/-- The latches of a function that trips, in one channel or both (R322). -/
def SafeSt.latch (n : Nat) (ch1 ch2 : Bool) (s : SafeSt) : SafeSt :=
  { s with
    trip1 := if ch1 && !s.trip1.contains n then s.trip1 ++ [n] else s.trip1
    trip2 := if ch2 && !s.trip2.contains n then s.trip2 ++ [n] else s.trip2
    demand := if s.demand.contains n then s.demand else s.demand ++ [n] }

/-- Beside its latches, its state and its causes, a trip reaches what lies beside the safety layer. -/
theorem Lane.tripFn_aside (ho : outlets ≤ 32) (hn : SafetyFn n) :
    (LaneUnit.aside tripPoint).outside (l.tripFn outlets n cause ch1 ch2)
      = (LaneUnit.aside tripPoint).outside ((l.safe! (SafeSt.latch n ch1 ch2)).setp (fnAddr n) fnTripped) := by
  have hpoint : ∀ {a : Nat} (l : Lane) (v : Int), tripPoint a = true →
      (LaneUnit.aside tripPoint).outside (l.setp a v) = (LaneUnit.aside tripPoint).outside l := fun l v ha =>
    LaneUnit.outside_setp _ l v (by simp [LaneUnit.aside, ha])
  have houts : ∀ l : Lane, (LaneUnit.aside tripPoint).outside (l.forN outlets (fun o l => l.tripOutlet o 18 false))
      = (LaneUnit.aside tripPoint).outside l := fun l =>
    LaneUnit.outside_forN _ _ (fun o h l => l.tripOutlet_aside (by omega) 18 false) l
  have hpacks : ∀ l : Lane, (LaneUnit.aside tripPoint).outside (l.forL (usedPacks l.cfg) Lane.packOff)
      = (LaneUnit.aside tripPoint).outside l := fun l =>
    LaneUnit.outside_forL _ _ (fun k h l => l.packOff_aside (usedPacks_lt h)) l
  unfold Lane.tripFn
  dsimp only
  split_ifs with hwas hmod h1
  · rfl
  · rw [hpoint _ _ (by simp [tripPoint]), LaneUnit.outside_fire]
    rfl
  · rw [hpacks, houts, hpoint _ _ (by simp [tripPoint]), LaneUnit.outside_fire]
    rfl
  · unfold SafetyFn at hn
    have hcause : tripPoint (Saf.tripCause ((n - 16) / 8)) = true := by simp [tripPoint, Saf.tripCause]; omega
    have htrips : tripPoint (Saf.trips ((n - 16) / 8)) = true := by simp [tripPoint, Saf.trips]; omega
    rw [Lane.tripOutlet_aside _ (by omega), Lane.inc, Lane.addp, hpoint _ _ htrips, hpoint _ _ hcause, LaneUnit.outside_fire]
    rfl

theorem Lane.tripFn_safe (ho : outlets ≤ 32) (hn : SafetyFn n) :
    (l.tripFn outlets n cause ch1 ch2).safe = l.safe.latch n ch1 ch2 :=
  LaneUnit.rest_eq _ (l.tripFn_aside cause ch1 ch2 ho hn)

/-- Of the points of domain 7 a trip writes its function's state, and causes and counts. -/
theorem Lane.tripFn_p {a : Nat} (ho : outlets ≤ 32) (hn : SafetyFn n) (hlow : 0x70000 ≤ a) (hhigh : a < 0x80000)
    (ha : tripPoint a = false) : (l.tripFn outlets n cause ch1 ch2).p a = if a = fnAddr n then fnTripped else l.p a := by
  have h := congrFun (congrArg Prod.snd (l.tripFn_aside cause ch1 ch2 ho hn)) a
  have hown : (LaneUnit.aside tripPoint).own a = false := by simp [LaneUnit.aside, ha]; omega
  simp only [LaneUnit.outside, hown] at h
  simpa using h

theorem Lane.tripFn_tripped (ho : outlets ≤ 32) (hn : SafetyFn n) : Tripped (l.tripFn outlets n cause true true) n := by
  obtain ⟨hpoint, hlow, hhigh⟩ := tripPoint_fnAddr hn
  refine ⟨by rw [l.tripFn_p cause _ _ ho hn hlow hhigh hpoint, if_pos rfl], ?_, ?_⟩
  all_goals
    rw [l.tripFn_safe cause _ _ ho hn]
    simp only [SafeSt.latch, Bool.true_and]
    split
    · simp
    · next h => simpa using h

end Trip

/-! ### The outputs of a lane (R323, R324) -/

/-- The points of the outputs, and the records that they bring up to date. -/
def LaneUnit.outputs : LaneUnit Lane where
  rest l := { l with pts := [], stat := [], host := {}, outs := [], safe := { l.safe with outsOn := [] } }
  own a := decide (a = SafM.safeOutState ∨ 0x70000 ≤ a ∧ a < 0x78000 ∧ (a % 1024 = 0x19 ∨ a % 1024 = 0x1C))
  rest_besideEvents _ _ := rfl

theorem Lane.showOutputs_outputs (l : Lane) (driven pulsed tripped : Nat → Bool) {n : Nat} (hn : n ≤ 32) :
    LaneUnit.outputs.outside (l.showOutputs driven pulsed tripped n) = LaneUnit.outputs.outside l := by
  have hfell : ∀ o < n, ∀ l : Lane, LaneUnit.outputs.outside (l.outputsFell driven tripped o) = LaneUnit.outputs.outside l := by
    intro o ho l
    have hout : ∀ (l : Lane) (x : OutletSt), LaneUnit.outputs.outside (l.setOut o x) = LaneUnit.outputs.outside l := fun _ _ => rfl
    have hcount : ∀ l : Lane, LaneUnit.outputs.outside (l.inc (Saf.backupDischarges o)) = LaneUnit.outputs.outside l := fun l =>
      LaneUnit.outside_inc _ l (by simp [LaneUnit.outputs, Saf.backupDischarges]; omega)
    unfold Lane.outputsFell
    dsimp only
    split_ifs <;> simp only [hout, hcount]
  have hshow : ∀ o < n, LaneUnit.outputs.own (Saf.outState o) = true := by
    intro o ho
    simp [LaneUnit.outputs, Saf.outState]
    omega
  unfold Lane.showOutputs
  dsimp only
  refine Eq.trans (LaneUnit.outside_forN _ _ (fun o ho l => (LaneUnit.outside_setp _ _ _ (hshow o ho)).trans (hfell o ho l)) _) ?_
  exact LaneUnit.outside_setp _ _ _ (by simp [LaneUnit.outputs])

theorem Variant.outlets_le (v : Variant) : v.outlets ≤ 32 := by cases v <;> decide

/-- What is shown of the outputs leaves the rest of each lane. -/
theorem State.lane_drive_outputs (s : State) (i : LaneId) :
    LaneUnit.outputs.outside (s.drive.lane i) = LaneUnit.outputs.outside (s.lane i) := by
  cases i <;> exact Lane.showOutputs_outputs _ _ _ _ s.chassis.variant.outlets_le


section Rows

variable (s : State) (i : LaneId)

/-- A point that the outputs do not show is as it was. -/
theorem State.lane_drive_p_other {a : Nat} (ha : LaneUnit.outputs.own a = false) : (s.drive.lane i).p a = (s.lane i).p a := by
  have h := congrFun (congrArg Prod.snd (s.lane_drive_outputs i)) a
  simpa [LaneUnit.outside, ha] using h

theorem State.lane_drive_fn {n : Nat} (hn : SafetyFn n) : (s.drive.lane i).p (fnAddr n) = (s.lane i).p (fnAddr n) := by
  refine s.lane_drive_p_other i ?_
  unfold SafetyFn at hn
  refine decide_eq_false ?_
  unfold SafM.safeOutState fnAddr SafM.fnStateMod Saf.fnState
  split <;> omega

/-- Of the safety record, showing the outputs writes which of them are on. -/
theorem State.lane_drive_safe : (s.drive.lane i).safe = { (s.lane i).safe with outsOn := (s.drive.lane i).safe.outsOn } := by
  have h : { (s.drive.lane i).safe with outsOn := [] } = { (s.lane i).safe with outsOn := [] } :=
    congrArg Lane.safe (LaneUnit.rest_eq _ (s.lane_drive_outputs i))
  exact congrArg (fun x : SafeSt => { x with outsOn := (s.drive.lane i).safe.outsOn }) h

theorem State.tripped_drive {n : Nat} (hn : SafetyFn n) : Tripped (s.drive.lane i) n ↔ Tripped (s.lane i) n := by
  rw [Tripped, Tripped, s.lane_drive_fn i hn, s.lane_drive_safe i]

end Rows

theorem safetyFn_mod {n : Nat} (hn : n < 3) : SafetyFn n := .inl hn

/-- What lies beside the safety layer has no part in a function's state and latches. -/
theorem Lane.fn_of_aside {l m : Lane} {n : Nat}
    (h : (LaneUnit.aside (fun _ => false)).outside m = (LaneUnit.aside (fun _ => false)).outside l) (hn : SafetyFn n) :
    m.p (fnAddr n) = l.p (fnAddr n) ∧ m.safe = l.safe := by
  obtain ⟨-, hlow, hhigh⟩ := tripPoint_fnAddr hn
  exact ⟨LaneUnit.keepsPoints _ h (P := fun a => a < 0x70000 ∨ 0x80000 ≤ a) (fun a ha => by simpa [LaneUnit.aside] using ha) _ (by omega),
    LaneUnit.rest_eq _ h⟩

theorem Lane.tripped_of_aside {l m : Lane} {n : Nat}
    (h : (LaneUnit.aside (fun _ => false)).outside m = (LaneUnit.aside (fun _ => false)).outside l) (hn : SafetyFn n) (ht : Tripped l n) :
    Tripped m n := by
  obtain ⟨hp, hsafe⟩ := Lane.fn_of_aside h hn
  rwa [Tripped, hp, hsafe]

/-! ### Safety telegrams (R334, R342, R344) -/

section Telegrams

variable (l : Lane)

/-- A telegram of a configured member of this team that is neither old nor late is held (R342). -/
theorem Lane.takeTelegram_held (net : Nat) (tg : Telegram) (hteam : (tg.teamId : Int) = l.c SafM.teamId)
    (hmember : l.safetyMembers.contains tg.sender = true) (hcrc : tg.crcOk = true) (hnew : (l.tgSender tg.sender).seq = none)
    (hsent : tg.sendTime ≤ l.pacer.teamTime) (hlate : l.pacer.teamTime ≤ tg.sendTime + 3000000) :
    (l.takeTelegram net tg).safe.held = l.safe.held ++ [⟨net, l.lap, tg⟩]
    ∧ (l.takeTelegram net tg).p SafM.tgRejected = l.p SafM.tgRejected := by
  unfold Lane.takeTelegram
  dsimp only
  rw [if_neg]
  · exact ⟨rfl, rfl⟩
  · rintro (h | h | h | h | h | h)
    · exact h hteam
    · exact absurd (hmember.symm.trans h) (by decide)
    · simp [hcrc] at h
    · simp [hnew] at h
    · omega
    · omega

theorem Lane.takeTelegram_rejected (net : Nat) (tg : Telegram) (hcrc : tg.crcOk = false) :
    l.takeTelegram net tg = l.inc SafM.tgRejected := by
  unfold Lane.takeTelegram
  rw [if_pos (.inr (.inr (.inl hcrc)))]

/-- A net that alone has been silent for 13 ms degrades a healthy function 1 (R334, R344). -/
theorem Lane.netLost_of_healthy (hsafety : l.c SafM.teamSafety = 1) (hsilent : l.safe.net1Lap + msLaps 13 ≤ l.lap)
    (hother : l.lap < l.safe.net2Lap + msLaps 13) (hfn : l.p (SafM.fnStateMod 1) = fnHealthy) :
    (l.netLost 1).pn SafM.netState = setBit (l.pn SafM.netState) 0 false ∧ (l.netLost 1).p (SafM.fnStateMod 1) = fnDegraded := by
  have h13 : msLaps 13 = 2600 := rfl
  unfold Lane.netLost
  dsimp only
  rw [if_pos ⟨hsafety, .inl rfl, by simp only [if_true]; omega, by simp only [if_true]; omega⟩]
  have hne : SafM.netState ≠ SafM.fnStateMod 1 := by decide
  rw [if_pos (.inl (by simpa [hne.symm] using hfn))]
  simp [Lane.pn, hne]

/-- Nets that agree are restored, the second of them with both delivering (R344). -/
theorem Lane.netRestored_of_degraded (hagree : l.netsAgree = true) (hstate : l.pn SafM.netState = 2)
    (hfn : l.p (SafM.fnStateMod 1) = fnDegraded) :
    (l.netRestored 1).p SafM.netState = 3 ∧ (l.netRestored 1).p (SafM.fnStateMod 1) = fnHealthy := by
  have hne : SafM.fnStateMod 1 ≠ SafM.netState := by decide
  have hbit : setBit 2 (1 - 1) true = 3 := by decide
  unfold Lane.netRestored
  rw [if_pos ⟨.inl rfl, hagree⟩]
  simp only [hstate, hbit]
  simp [hne, hne.symm, hfn]

theorem Lane.netsAgree_of_members {l : Lane} (hsafety : l.c SafM.teamSafety = 1) (hmembers : l.safetyMembers ≠ [])
    (hagree : ∀ m ∈ l.safetyMembers, ∃ t0 ∈ (l.tgSender m).agree, t0 + msLaps 10000 ≤ l.lap) : l.netsAgree = true := by
  simp only [Lane.netsAgree, hsafety, Bool.and_eq_true, decide_true, true_and, List.all_eq_true]
  refine ⟨by simpa using hmembers, fun m hm => ?_⟩
  obtain ⟨t0, h0, ht⟩ := hagree m hm
  rw [Option.mem_def.mp h0]
  exact decide_eq_true (by omega)

theorem Lane.teamElapsedReset_of_both {t0 : Nat} (hboth : l.safe.bothLap = some t0) (ht : t0 + msLaps 300000 ≤ l.lap) :
    l.teamElapsedReset = l.setp SafM.teamElapsedMs 0 := by
  unfold Lane.teamElapsedReset
  rw [hboth]
  exact if_pos (by omega)

/-- The degraded time of 300 s trips function 1; the stops and the faults of the sessions lie beside the safety layer (R334). -/
theorem Lane.teamExpiry_tripped {outlets : Nat} (ho : outlets ≤ 32) (hfn : l.p (SafM.fnStateMod 1) = fnDegraded)
    (ht : 300000 ≤ l.p SafM.teamElapsedMs) : Tripped (l.teamExpiry outlets) 1 := by
  have hrecord : ∀ l : Lane, (LaneUnit.aside (fun _ => false)).outside
      (l.forN outlets (fun o l => if l.ss o = ssUnlatch then l.recordFault o 18 else l)) = (LaneUnit.aside (fun _ => false)).outside l :=
    fun l => LaneUnit.outside_forN _ _ (fun o h l => LaneUnit.outside_ite (l.recordFault_aside (by omega) 18) rfl) l
  unfold Lane.teamExpiry
  rw [if_pos ⟨hfn, ht⟩]
  have htrip := Lane.tripFn_tripped ((l.fire 90 1 []).forN outlets Lane.stopSession) 17 ho (safetyFn_mod (n := 1) (by decide))
  exact Lane.tripped_of_aside (hrecord _) (safetyFn_mod (by decide)) htrip

end Telegrams

/-- Settles O24, row by row. -/
theorem telegramRows : Obligations.TelegramRows := by
  unfold Obligations.TelegramRows
  intro s i hteam hact
  refine ⟨fun net tg hid hmember hcrc hnew hsent hlate => ?_, fun net tg hcrc => ?_, fun hsafety hnet hsilent hother hfn => ?_,
    fun hsafety hmembers hagree hstate hfn => ?_, fun hfn ht => ?_, fun t0 hboth ht => ?_⟩
  all_goals refine does_of_next rfl ?_
  · rw [State.lane_teamed_of_active s i _ hteam hact]
    exact Lane.takeTelegram_held _ net tg hid hmember hcrc hnew hsent hlate
  · rw [State.lane_teamed_of_active s i _ hteam hact, Lane.takeTelegram_rejected _ net tg hcrc]
    exact ⟨rfl, by simp⟩
  · obtain ⟨hst, hdeg⟩ := Lane.netLost_of_healthy _ hsafety hsilent hother hfn
    rw [State.lane_teamed_of_active s i _ hteam hact]
    exact ⟨by rw [hst, bitAt_setBit], hdeg⟩
  · rw [State.lane_teamed_of_active s i _ hteam hact]
    refine Lane.netRestored_of_degraded _ (Lane.netsAgree_of_members hsafety hmembers hagree) hstate hfn
  · rw [State.tripped_drive _ _ (safetyFn_mod (by decide)), State.lane_teamed_of_active s i _ hteam hact]
    exact Lane.teamExpiry_tripped _ s.chassis.variant.outlets_le hfn ht
  · rw [State.lane_teamed_of_active s i _ hteam hact, Lane.teamElapsedReset_of_both _ hboth ht]
    simp

/-! ### An accepted reset (R327 to R329) -/

section Reset

variable (l : Lane)

/-- What an accepted edge does to one function (R328). -/
def Lane.resetFn (n : Nat) (l : Lane) : Lane :=
  if l.p (fnAddr n) = fnResettable then
    ((l.safe! (fun s => { s with trip1 := s.trip1.filter (fun k => k != n)
                                 trip2 := s.trip2.filter (fun k => k != n) })).setp (fnAddr n) (l.fnRest n)).fire 91 n []
  else if l.p (fnAddr n) = fnTripped then l.inc SafM.resetRefused
  else l

/-- The functions of the module and of its outlets, in the order of a reset. -/
def safetyFns (outlets : Nat) : List Nat := [0, 1, 2] ++ (List.range outlets).flatMap (fun o => (List.range 7).map (outFn o))

theorem mem_safetyFns {outlets n : Nat} : n ∈ safetyFns outlets ↔ n < 3 ∨ 16 ≤ n ∧ n < 16 + 8 * outlets ∧ n % 8 < 7 := by
  simp only [safetyFns, List.mem_append, List.mem_flatMap, List.mem_map, List.mem_range, outFn, List.mem_cons, List.not_mem_nil, or_false]
  constructor
  · rintro ((rfl | rfl | rfl) | ⟨o, ho, k, hk, rfl⟩) <;> omega
  · rintro (h | h)
    · left; omega
    · exact .inr ⟨(n - 16) / 8, by omega, n % 8, by omega, by omega⟩

theorem safetyFn_of_mem {outlets n : Nat} (ho : outlets ≤ 32) (h : n ∈ safetyFns outlets) : SafetyFn n := by
  rw [mem_safetyFns] at h
  unfold SafetyFn
  omega

theorem fnAddr_ne_resetRefused {n : Nat} (hn : SafetyFn n) : fnAddr n ≠ SafM.resetRefused := by
  unfold SafetyFn at hn
  unfold fnAddr SafM.fnStateMod Saf.fnState SafM.resetRefused
  split <;> omega

/-- A reset of function `m` writes that function's state at most, and a count. -/
theorem Lane.resetFn_p {m a : Nat} (ha : a ≠ SafM.resetRefused) : (l.resetFn m).p a
    = if a = fnAddr m ∧ l.p (fnAddr m) = fnResettable then l.fnRest m else l.p a := by
  unfold Lane.resetFn
  by_cases hm : l.p (fnAddr m) = fnResettable
  · rw [if_pos hm, (Lane.ringsOnly_fire _ 91 m []).p, Lane.p_setp]
    simp [hm]
  · simp only [hm, and_false, if_false]
    split <;> simp [ha]

theorem Lane.resetFn_trips (m : Nat) :
    (∀ n, n ∈ (l.resetFn m).safe.trip1 → n ∈ l.safe.trip1 ∧ ¬ (n = m ∧ l.p (fnAddr m) = fnResettable))
    ∧ (∀ n, n ∈ (l.resetFn m).safe.trip2 → n ∈ l.safe.trip2 ∧ ¬ (n = m ∧ l.p (fnAddr m) = fnResettable)) := by
  unfold Lane.resetFn
  by_cases hm : l.p (fnAddr m) = fnResettable
  · have hsafe : ∀ l : Lane, (l.fire 91 m []).safe = l.safe := fun l => by rw [(l.ringsOnly_fire 91 m []).eq]
    rw [if_pos hm, hsafe]
    simp only [Lane.setp, List.mem_filter, Lane.safe!, bne_iff_ne]
    exact ⟨fun n h => ⟨h.1, fun he => h.2 he.1⟩, fun n h => ⟨h.1, fun he => h.2 he.1⟩⟩
  · rw [if_neg hm]
    split <;> simp [hm]

theorem fnRest_not_resettable (n : Nat) : l.fnRest n ≠ fnResettable := by
  unfold Lane.fnRest
  dsimp only
  split_ifs <;> decide

theorem Lane.fnRest_resetFn (n : Nat) {m : Nat} (hn : SafetyFn n) (hm : SafetyFn m) : (l.resetFn m).fnRest n = l.fnRest n := by
  have hcool : 16 ≤ n → (l.resetFn m).p (Out.coolState ((n - 16) / 8)) = l.p (Out.coolState ((n - 16) / 8)) := by
    intro h16
    obtain ⟨-, hlow, -⟩ := tripPoint_fnAddr hm
    unfold SafetyFn at hn
    have hlt : Out.coolState ((n - 16) / 8) < 0x70000 := by unfold Out.coolState; omega
    have href : SafM.resetRefused = 0x7801A := rfl
    rw [l.resetFn_p (by omega), if_neg (by omega)]
  unfold Lane.fnRest
  split
  · next h => rw [hcool h.1]
  · rfl

/-- Function `n` has been reset. -/
def Lane.WasReset (l : Lane) (n : Nat) (rest : Int) : Prop := l.p (fnAddr n) = rest ∧ n ∉ l.safe.trip1 ∧ n ∉ l.safe.trip2

theorem Lane.wasReset_resetFn {n m : Nat} {rest : Int} (hn : SafetyFn n) (hrest : rest ≠ fnResettable)
    (h : l.WasReset n rest) : (l.resetFn m).WasReset n rest := by
  obtain ⟨hp, h1, h2⟩ := h
  refine ⟨?_, fun h => h1 ((l.resetFn_trips m).1 n h).1, fun h => h2 ((l.resetFn_trips m).2 n h).1⟩
  rw [l.resetFn_p (fnAddr_ne_resetRefused hn), if_neg, hp]
  rintro ⟨ha, hres⟩
  rw [← ha] at hres
  exact hrest (hp.symm.trans hres)

/-- A function that is `RESETTABLE` is reset by its own reset, and stays so until then. -/
theorem Lane.resettable_resetFn {n m : Nat} (hn : SafetyFn n) (hm : SafetyFn m) (h : l.p (fnAddr n) = fnResettable) :
    if m = n then (l.resetFn m).WasReset n (l.fnRest n) else (l.resetFn m).p (fnAddr n) = fnResettable := by
  split
  · next he =>
    subst he
    refine ⟨by rw [l.resetFn_p (fnAddr_ne_resetRefused hn), if_pos ⟨rfl, h⟩], ?_, ?_⟩
    · exact fun hmem => ((l.resetFn_trips m).1 m hmem).2 ⟨rfl, h⟩
    · exact fun hmem => ((l.resetFn_trips m).2 m hmem).2 ⟨rfl, h⟩
  · next hne =>
    rw [l.resetFn_p (fnAddr_ne_resetRefused hn), if_neg, h]
    rw [fnAddr_eq_iff hn hm]
    exact fun he => hne he.1.symm

/-- A run of resets that comes to a `RESETTABLE` function resets it. -/
theorem Lane.wasReset_forL {n : Nat} {ms : List Nat} (hms : ∀ m ∈ ms, SafetyFn m) (hn : SafetyFn n) :
    ∀ l : Lane, l.p (fnAddr n) = fnResettable → n ∈ ms → (l.forL ms Lane.resetFn).WasReset n (l.fnRest n) := by
  induction ms with
  | nil => simp
  | cons m ms ih =>
    intro l hl hmem
    have hm := hms m (List.mem_cons_self ..)
    have hstep := l.resettable_resetFn hn hm hl
    split at hstep
    · refine List.foldlRecOn (motive := fun l' : Lane => l'.WasReset n (l.fnRest n)) ms _ hstep fun l' hl' k _ => ?_
      exact l'.wasReset_resetFn hn (fnRest_not_resettable l n) hl'
    · next hne =>
      have hrest := ih (fun k hk => hms k (List.mem_cons_of_mem _ hk)) (l.resetFn m) hstep ((List.mem_cons.mp hmem).resolve_left (Ne.symm hne))
      rwa [l.fnRest_resetFn n hn hm] at hrest

theorem Lane.tripped_forL {n : Nat} (ms : List Nat) (hn : SafetyFn n) (l : Lane) (h : l.p (fnAddr n) = fnTripped) :
    (l.forL ms Lane.resetFn).p (fnAddr n) = fnTripped := by
  refine List.foldlRecOn (motive := fun l' : Lane => l'.p (fnAddr n) = fnTripped) ms _ h fun l' hl' m _ => ?_
  rw [l'.resetFn_p (fnAddr_ne_resetRefused hn), if_neg, hl']
  rintro ⟨ha, hres⟩
  rw [← ha, hl'] at hres
  exact absurd hres (by decide)

/-- The lane as an edge of its own RESET that is accepted leaves it, up to the sessions that it lets go on. -/
def Lane.resetDone (outlets : Nat) (l : Lane) : Lane :=
  (((if l.c SafM.resetScope = 1 then l.safe! (fun s => { s with resetCount := (s.resetCount + 1) % 65536 }) else l).inc
    SafM.resetAccepts).safe! (fun s => { s with startupHold := false, resetHeld := false })).forL (safetyFns outlets) Lane.resetFn

theorem Lane.ownReset_aside {outlets : Nat} (ho : outlets ≤ 32) : (LaneUnit.aside (fun _ => false)).outside (l.ownReset outlets)
    = (LaneUnit.aside (fun _ => false)).outside (l.resetDone outlets) :=
  LaneUnit.outside_forN _ _ (fun o h l =>
    LaneUnit.outside_ite ((Lane.advance_aside _ (by omega)).trans (l.holdMet_aside (by omega) 3)) rfl) _

end Reset

theorem Lane.resetDone_start (l : Lane) {n : Nat} (hn : SafetyFn n) :
    ∃ m : Lane, (∀ outlets, l.resetDone outlets = m.forL (safetyFns outlets) Lane.resetFn) ∧ m.p (fnAddr n) = l.p (fnAddr n)
      ∧ m.fnRest n = l.fnRest n := by
  have hne : fnAddr n ≠ SafM.resetAccepts := by
    unfold SafetyFn at hn
    unfold fnAddr SafM.fnStateMod Saf.fnState SafM.resetAccepts
    split <;> omega
  refine ⟨_, fun _ => rfl, by split <;> simp [hne], ?_⟩
  unfold Lane.fnRest
  unfold SafetyFn at hn
  split
  · have hcool : Out.coolState ((n - 16) / 8) ≠ SafM.resetAccepts := by unfold Out.coolState SafM.resetAccepts; omega
    split <;> simp [hcool]
  · rfl

section OwnReset

variable (l : Lane) {outlets n : Nat} (ho : outlets ≤ 32) (hmem : n ∈ safetyFns outlets)

include ho hmem

theorem Lane.ownReset_wasReset (hp : l.p (fnAddr n) = fnResettable) : (l.ownReset outlets).WasReset n (l.fnRest n) := by
  have hall : ∀ m ∈ safetyFns outlets, SafetyFn m := fun m hm => safetyFn_of_mem ho hm
  obtain ⟨hfn, hsafe⟩ := Lane.fn_of_aside (l.ownReset_aside ho) (hall n hmem)
  obtain ⟨m, hdone, hstart, hrest⟩ := l.resetDone_start (hall n hmem)
  rw [Lane.WasReset, hfn, hsafe, hdone, ← hrest]
  exact Lane.wasReset_forL hall (hall n hmem) m (hstart.trans hp) hmem

theorem Lane.ownReset_tripped (hp : l.p (fnAddr n) = fnTripped) : (l.ownReset outlets).p (fnAddr n) = fnTripped := by
  have hall : ∀ m ∈ safetyFns outlets, SafetyFn m := fun m hm => safetyFn_of_mem ho hm
  obtain ⟨hfn, -⟩ := Lane.fn_of_aside (l.ownReset_aside ho) (hall n hmem)
  obtain ⟨m, hdone, hstart, -⟩ := l.resetDone_start (hall n hmem)
  rw [hfn, hdone]
  exact Lane.tripped_forL _ (hall n hmem) m (hstart.trans hp)

end OwnReset

theorem Lane.resetEdge_of_granted (l : Lane) (outlets : Nat) {openMs closedMs : Nat} (ho : 200 ≤ openMs) (hc : 50 ≤ closedMs) :
    l.resetEdge true outlets openMs closedMs = l.ownReset outlets := by
  unfold Lane.resetEdge
  rw [if_neg (by omega)]
  rfl

theorem Lane.resetEdge_of_none (l : Lane) (outlets : Nat) {openMs closedMs : Nat} (ho : 200 ≤ openMs) (hc : 50 ≤ closedMs) :
    l.resetEdge false outlets openMs closedMs = l.safe! (fun s => { s with resetHeld := true }) := by
  unfold Lane.resetEdge
  rw [if_neg (by omega)]
  rfl

theorem Lane.resetEdge_of_short (l : Lane) (granted : Bool) (outlets : Nat) {openMs closedMs : Nat} (h : openMs < 200 ∨ closedMs < 50) :
    l.resetEdge granted outlets openMs closedMs = l := if_pos h

/-- Settles O22. -/
theorem resetEdge : Obligations.ResetEdge := by
  unfold Obligations.ResetEdge
  intro s i n openMs closedMs hon hvalid
  have ho := s.chassis.variant.outlets_le
  have hmem := mem_safetyFns.mpr hvalid
  have hn := safetyFn_of_mem ho hmem
  refine ⟨fun hopen hclosed => ⟨fun hg hp => ?_, fun hg hp => ?_, fun hg => ?_⟩, fun hshort => ?_⟩
  all_goals
    refine does_of_next rfl ?_
    simp only [State.lane_drive_fn _ i hn]
    rw [State.lane_kept_self hon]
  · rw [State.lane_drive_safe, State.lane_kept_self hon, Option.isSome_iff_ne_none.mpr hg, Lane.resetEdge_of_granted _ _ hopen hclosed]
    exact Lane.ownReset_wasReset _ ho hmem hp
  · rw [Option.isSome_iff_ne_none.mpr hg, Lane.resetEdge_of_granted _ _ hopen hclosed]
    exact Lane.ownReset_tripped _ ho hmem hp
  · rw [State.lane_drive_safe, State.lane_kept_self hon, hg, Option.isSome_none, Lane.resetEdge_of_none _ _ hopen hclosed]
    exact ⟨rfl, rfl⟩
  · rw [State.lane_drive_safe, State.lane_kept_self hon, Lane.resetEdge_of_short _ _ _ hshort]
    exact ⟨rfl, rfl, rfl, rfl⟩

/-! ### What a wake and the telegrams leave of the safety layer -/

section Woken

variable {P : Nat → Bool} (l : Lane)

@[simp] theorem Lane.deriveKey_aside (t parent engines value : Nat) :
    (LaneUnit.aside P).outside (l.deriveKey t parent engines value) = (LaneUnit.aside P).outside l :=
  Lane.keyPoints_aside _

@[simp] theorem Lane.teamSend_aside (k kind net dest : Nat) (body : List Field) :
    (LaneUnit.aside P).outside (l.teamSend k kind net dest body) = (LaneUnit.aside P).outside l := by
  have hkey : (LaneUnit.aside P).outside (l.teamKey k).1 = (LaneUnit.aside P).outside l := by
    unfold Lane.teamKey
    dsimp only
    split_ifs <;> simp
  unfold Lane.teamSend
  dsimp only
  split_ifs <;> exact hkey

@[simp] theorem Lane.telegramFrames_aside : (LaneUnit.aside P).outside l.telegramFrames = (LaneUnit.aside P).outside l := by
  unfold Lane.telegramFrames
  split <;> simp

@[simp] theorem Lane.asleepReads_aside : (LaneUnit.aside P).outside l.asleepReads = (LaneUnit.aside P).outside l :=
  LaneUnit.outside_forL _ _ (fun (w : WaitingRead) _ l => LaneUnit.outside_of_ringsOnly _ (l.ringsOnly_answer w.req _)) _

theorem Lane.coolRestore_aside (nowMs : Nat) (valid : Bool) {outlets : Nat} (ho : outlets ≤ 32) :
    (LaneUnit.aside P).outside (l.coolRestore nowMs valid outlets) = (LaneUnit.aside P).outside l := by
  have hforecast : ∀ o < 32, (LaneUnit.aside P).Inside (Lane.clearForecast o) := fun o ho l =>
    LaneUnit.outside_forN _ 4 (fun k hk l => LaneUnit.aside_setp l _ (by unfold Out.fc; omega)) _
  refine LaneUnit.outside_forN _ _ (fun o h l => ?_) l
  rw [hforecast o (by omega)]
  split <;> rfl

@[simp] theorem Lane.mastStarts_aside (v : Variant) : (LaneUnit.aside P).outside (l.mastStarts v) = (LaneUnit.aside P).outside l := by
  have hstart : ∀ (t : Nat) (l : Lane), (LaneUnit.aside P).outside (l.mastStart t) = (LaneUnit.aside P).outside l := fun t l =>
    LaneUnit.aside_setp l _ (by unfold Mast.mapNow; omega)
  unfold Lane.mastStarts
  split
  · exact (hstart 1 _).trans (hstart 0 l)
  · rfl

@[simp] theorem Lane.showAcq_aside : (LaneUnit.aside P).outside l.showAcq = (LaneUnit.aside P).outside l := by
  simp (disch := omega) [Lane.showAcq, LaneUnit.aside_setp, Ta.acqState, Ta.acqFreeMib]

theorem Lane.canRefresh_aside (b : Nat) : (LaneUnit.aside P).outside (l.canRefresh b) = (LaneUnit.aside P).outside l := by
  have hstate : ∀ (l : Lane) (v : Int), (LaneUnit.aside P).outside (l.setp (Can.canState b) v) = (LaneUnit.aside P).outside l :=
    fun l v => LaneUnit.aside_setp l v (by unfold Can.canState; omega)
  have hclear : (LaneUnit.aside P).outside (l.canClear b) = (LaneUnit.aside P).outside l := rfl
  unfold Lane.canRefresh
  dsimp only
  split_ifs <;> simp only [hstate, hclear]

theorem Lane.busUp_aside (b : Nat) : (LaneUnit.aside P).outside (l.busUp b) = (LaneUnit.aside P).outside l := by
  unfold Lane.busUp Lane.canWake
  split_ifs
  · rw [Lane.canEvent, LaneUnit.outside_fire, Lane.canRefresh_aside]
    rfl
  · rfl
  · rfl

end Woken

/-- A wake source leaves the safety layer of both lanes. -/
theorem State.wake_aside (s : State) (source : Nat) (P : Nat → Bool) :
    s.LaneWise (fun _ l m => (LaneUnit.aside P).outside m = (LaneUnit.aside P).outside l) (s.wake source) := by
  have hR := LaneRel.outside (LaneUnit.aside P)
  have hcancel : s.LaneWise (fun _ l m => (LaneUnit.aside P).outside m = (LaneUnit.aside P).outside l) s.cancelSleep := by
    have hgo : ∀ req : Option Request, s.LaneWise (fun _ l m => (LaneUnit.aside P).outside m = (LaneUnit.aside P).outside l)
        (let s1 := s.powBoth (fun l x => { x with sleep := none, readySince := some l.epoch })
         match req with
         | some r => s1.answerBoth r (Reply.just 0x0702)
         | none => s1) := by
      rintro (_ | r)
      · exact hR.eachLane _ _ fun _ _ => rfl
      · exact hR.state_trans (hR.eachLane _ _ fun _ _ => rfl) (hR.answerBoth ..)
    unfold State.cancelSleep
    dsimp only
    split
    · split
      · exact hR.state_refl s
      · exact hgo _
    · split
      · exact hR.state_refl s
      · exact hgo _
    · exact hR.state_refl s
  unfold State.wake
  dsimp only
  split_ifs
  · exact hR.state_refl s
  · unfold State.startWake
    refine hR.eachLane _ _ fun i l => ?_
    refine (LaneUnit.outside_forN _ 4 (fun b _ l => l.busUp_aside b) _).trans ?_
    rw [Lane.showAcq_aside, Lane.mastStarts_aside, LaneUnit.aside_setp _ _ (by decide), Lane.coolRestore_aside _ _ _ s.chassis.variant.outlets_le,
      Lane.asleepReads_aside]
    rfl
  · exact hR.eachLane _ _ fun _ _ => rfl
  · split
    · exact hR.state_refl s
    · split
      · exact hR.eachLane _ _ fun _ _ => rfl
      · exact hcancel

/-! ### One safety cycle (R321, R326) -/

/-- What the evaluation of the functions reads of the record and leaves: the contacts, the filters, and the comparison of the channels. -/
def SafeSt.watch (x : SafeSt) : Contacts × Contacts × Bool × Nat × Bool × Nat :=
  (x.con1, x.con2, x.filled, x.startLap, x.chanFault, x.diffRun)

section Cycle

variable {outlets : Nat} (ho : outlets ≤ 32) (l : Lane)

theorem Lane.watch_resetFn (n : Nat) : (l.resetFn n).safe.watch = l.safe.watch := by
  have hsafe : ∀ l : Lane, (l.fire 91 n []).safe = l.safe := fun l => by rw [(l.ringsOnly_fire 91 n []).eq]
  unfold Lane.resetFn
  split_ifs
  · rw [hsafe]
    rfl
  · rfl
  · rfl

include ho

theorem Lane.watch_tripFn {n : Nat} (hn : SafetyFn n) (cause : Nat) (ch1 ch2 : Bool) :
    (l.tripFn outlets n cause ch1 ch2).safe.watch = l.safe.watch := by
  rw [l.tripFn_safe cause ch1 ch2 ho hn]
  rfl

theorem Lane.watch_acceptReset : (l.acceptReset outlets).safe.watch = l.safe.watch := by
  have hdone : (LaneUnit.aside (fun _ => false)).outside (l.acceptReset outlets)
      = (LaneUnit.aside (fun _ => false)).outside (((l.inc SafM.resetAccepts).safe! (fun s => { s with
        startupHold := false, resetHeld := false })).forL (safetyFns outlets) Lane.resetFn) :=
    LaneUnit.outside_forN _ _ (fun o h l =>
      LaneUnit.outside_ite ((Lane.advance_aside _ (by omega)).trans (l.holdMet_aside (by omega) 3)) rfl) _
  have hsafe : (l.acceptReset outlets).safe = _ := LaneUnit.rest_eq _ hdone
  rw [hsafe]
  exact List.foldlRecOn (motive := fun m : Lane => m.safe.watch = l.safe.watch) _ _ rfl fun m hm n _ => (m.watch_resetFn n).trans hm

theorem Lane.watch_acceptTg (t : Telegram) : (l.acceptTg outlets t).safe.watch = l.safe.watch := by
  unfold Lane.acceptTg
  extract_lets x y l1 l2
  have h2 : l2.safe.watch = l.safe.watch := by
    simp only [l2]
    split
    · exact Lane.watch_tripFn ho l1 (safetyFn_mod (by decide)) 5 true true
    · rfl
  split
  · exact (Lane.watch_acceptReset ho l2).trans h2
  · exact h2

theorem Lane.watch_compareTg (c : TgCopy) : (l.compareTg outlets c).safe.watch = l.safe.watch := by
  have hagreed : ∀ (l : Lane) (m : Nat) (ok : Bool), (l.agreed m ok).safe.watch = l.safe.watch := fun _ _ _ => rfl
  have hfire : ∀ (l : Lane) (n unit : Nat) (detail : List Int), (l.fire n unit detail).safe = l.safe := fun l n unit detail => by
    rw [(l.ringsOnly_fire n unit detail).eq]
  unfold Lane.compareTg
  extract_lets drop
  split
  · rfl
  · split
    · split
      · exact (hagreed _ _ _).trans (Lane.watch_acceptTg ho _ _)
      · rw [hagreed, hfire]
        rfl
    · split
      · split
        · exact Lane.watch_acceptTg ho _ _
        · rfl
      · rfl

theorem Lane.watch_evalFn {n : Nat} (hn : SafetyFn n) (known : Bool) (c1 c2 : Option Nat) :
    (l.evalFn outlets n known c1 c2).safe.watch = l.safe.watch := by
  unfold Lane.evalFn
  split
  · dsimp only
    split_ifs <;> rfl
  · exact l.watch_tripFn ho hn _ _ _

/-- The evaluation of another function leaves a tripped one tripped. -/
theorem Lane.tripped_evalFn {n m : Nat} (hn : SafetyFn n) (hm : SafetyFn m) (hne : n ≠ m) (known : Bool) (c1 c2 : Option Nat)
    (h : Tripped l n) : Tripped (l.evalFn outlets m known c1 c2) n := by
  obtain ⟨hpoint, hlow, hhigh⟩ := tripPoint_fnAddr hn
  have haddr : fnAddr n ≠ fnAddr m := fun he => hne ((fnAddr_eq_iff hn hm).mp he)
  obtain ⟨hp, h1, h2⟩ := h
  unfold Lane.evalFn
  split
  · dsimp only
    split_ifs <;> exact ⟨by simpa [haddr] using hp, h1, h2⟩
  · refine ⟨by rw [l.tripFn_p _ _ _ ho hm hlow hhigh hpoint, if_neg haddr, hp], ?_, ?_⟩
    all_goals
      rw [l.tripFn_safe _ _ _ ho hm]
      simp only [SafeSt.latch]
      split
    · exact List.mem_append_left _ h1
    · exact h1
    · exact List.mem_append_left _ h2
    · exact h2

end Cycle

section Cycle

variable {outlets : Nat} (ho : outlets ≤ 32) (l : Lane) (c : SafetyInputs)

/-- The lane as its cycle begins: the contacts sampled, the telegrams sent and compared. -/
def Lane.cycleTelegrams (outlets : Nat) (c : SafetyInputs) (l : Lane) : Lane :=
  let l0 := l.safe! (fun s =>
    let s1 := s.contacts c c
    { s1 with
      con1 := s1.con1.loop c.loopPulse l.lap, con2 := s1.con2.loop c.loopPulse l.lap
      imdOk := (List.range outlets).filter (fun o => !(c.imdOpen.contains o || c.imdWire.contains o
        || c.imdOpen.contains o || c.imdWire.contains o)) })
  (l0.safe.held).foldl (fun l c => Lane.compareTg outlets c l) l0.sendTelegram

/-- The functions of outlet `o` evaluated on both channels' inputs. -/
def Lane.cycleOutlet (outlets : Nat) (c : SafetyInputs) (o : Nat) (l : Lane) : Lane :=
  let hot := (l.pinReadings c o).foldl (fun a t => match a with | none => some t | some v => some (max v t)) (none : Option Int)
  let deg := UMap.get (fun _ => 0) l.safe.degLap o
  let since := if l.p (Out.coolState o) = csDegraded then (if deg = 0 then l.lap + 1 else deg) else 0
  let a := ((l.setp (Saf.ovLimitMv o) (l.ovLimit o)).setp (Saf.tPinHard o) (hot.getD (l.p (Saf.tPinHard o)))).safe! (fun s =>
    { s with degLap := UMap.put (fun _ => 0) s.degLap o since })
  (a.forN 7 (fun k l =>
    if k = 5 ∧ l.fnHeld (outFn o 5) = false ∧ (l.outletDemand c o 5).isNone = true then l
    else l.evalFn outlets (outFn o k) (l.fnKnown k) (l.outletDemand c o k) (l.outletDemand c o k))).discharged o

/-- A cycle in which function 0 demands in both channels. -/
theorem Lane.safetyCycle_eq : ∃ st loop, l.safetyCycle outlets c c =
    let l2 := ((l.cycleTelegrams outlets c).setp SafM.safeInState st).setp SafM.loopState loop
    let l4 := ((l2.evalFn outlets 0 l2.filtersKnown (l2.estopDemand l2.safe.con1 c) (l2.estopDemand l2.safe.con2 c)).evalFn outlets 2 true
      (supplyDemand c) (supplyDemand c)).forN outlets (Lane.cycleOutlet outlets c)
    let same := l4.safe.trip1.all l4.safe.trip2.contains && l4.safe.trip2.all l4.safe.trip1.contains
    l4.safe! (fun s =>
      let n := if same then 0 else s.diffRun + 1
      { s with diffRun := n, chanFault := s.chanFault || decide (2 ≤ n), ovHit := [], ampHit := [] }) :=
  ⟨_, _, rfl⟩

include ho

/-- The telegrams leave the filters, the comparison of the channels, and the lap. -/
theorem Lane.cycleTelegrams_watch :
    (l.cycleTelegrams outlets c).safe.watch.2.2 = l.safe.watch.2.2 ∧ (l.cycleTelegrams outlets c).lap = l.lap := by
  unfold Lane.cycleTelegrams
  refine List.foldlRecOn (motive := fun m : Lane => m.safe.watch.2.2 = l.safe.watch.2.2 ∧ m.lap = l.lap) _ _ ?_ fun m hm t _ => ?_
  · unfold Lane.sendTelegram
    split <;> exact ⟨rfl, rfl⟩
  · exact ⟨(congrArg (fun w => w.2.2) (m.watch_compareTg ho t)).trans hm.1, (Lane.compareTg_still ..).2.1.trans hm.2⟩

theorem Lane.cycleOutlet_watch {o : Nat} (h : o < 32) : (l.cycleOutlet outlets c o).safe.watch = l.safe.watch := by
  unfold Lane.cycleOutlet
  dsimp only
  have hsafe : ∀ l : Lane, (l.discharged o).safe = l.safe := fun l =>
    (LaneUnit.rest_eq (LaneUnit.aside (fun _ => false)) (l.discharged_aside h) :)
  rw [hsafe]
  refine List.foldlRecOn (motive := fun m : Lane => m.safe.watch = l.safe.watch) _ _ rfl fun m hm k hk => ?_
  dsimp only
  split
  · exact hm
  · exact (m.watch_evalFn ho (safetyFn_outFn h (List.mem_range.mp hk)) _ _ _).trans hm

/-- The functions of an outlet leave the emergency stop tripped. -/
theorem Lane.tripped_cycleOutlet {o : Nat} (h : o < 32) (ht : Tripped l 0) : Tripped (l.cycleOutlet outlets c o) 0 := by
  have h0 : SafetyFn 0 := safetyFn_mod (by decide)
  unfold Lane.cycleOutlet
  dsimp only
  refine Lane.tripped_of_aside (Lane.discharged_aside _ h) h0 ?_
  refine List.foldlRecOn (motive := fun m : Lane => Tripped m 0) _ _ ?_ fun m hm k hk => ?_
  · obtain ⟨hp, h1, h2⟩ := ht
    have hov : fnAddr 0 ≠ Saf.ovLimitMv o := by unfold Saf.ovLimitMv; change 0x78012 ≠ _; omega
    have hpin : fnAddr 0 ≠ Saf.tPinHard o := by unfold Saf.tPinHard; change 0x78012 ≠ _; omega
    exact ⟨by simpa [hov, hpin] using hp, h1, h2⟩
  · dsimp only
    split
    · exact hm
    · have hk := List.mem_range.mp hk
      exact m.tripped_evalFn ho h0 (safetyFn_outFn h hk) (by unfold outFn; omega) _ _ _ hm

/-- An emergency stop contact open in both channels' samples trips function 0 in the cycle, and the channels do not disagree twice
(R321, R326). -/
theorem Lane.safetyCycle_estop (hopen : c.estop1 = false) (hknown : l.filtersKnown = true) (hfault : l.safe.chanFault = false)
    (hrun : l.safe.diffRun = 0) :
    Tripped (l.safetyCycle outlets c c) 0 ∧ (l.safetyCycle outlets c c).safe.chanFault = false := by
  have h0 : SafetyFn 0 := safetyFn_mod (by decide)
  have h2 : SafetyFn 2 := safetyFn_mod (by decide)
  obtain ⟨st, loop, hcycle⟩ := l.safetyCycle_eq (outlets := outlets) c
  obtain ⟨hw, hlap⟩ := l.cycleTelegrams_watch ho c
  rw [hcycle]
  extract_lets l2 l4 same
  have hw2 : l2.safe.watch.2.2 = l.safe.watch.2.2 := hw
  have hlap2 : l2.lap = l.lap := hlap
  simp only [SafeSt.watch, Prod.mk.injEq] at hw2
  obtain ⟨hfilled, hstart, hfault2, hrun2⟩ := hw2
  have hknown2 : l2.filtersKnown = true := by
    simpa only [Lane.filtersKnown, Lane.inputsKnown, hfilled, hstart, hlap2] using hknown
  have hdemand : ∀ x : Contacts, l2.estopDemand x c = some 1 := by
    intro x
    simp [Lane.estopDemand, hknown2, Contacts.demand, Contacts.open1, hopen]
  have hl4 : Tripped l4 0 ∧ l4.safe.watch = l2.safe.watch := by
    refine List.foldlRecOn (motive := fun m : Lane => Tripped m 0 ∧ m.safe.watch = l2.safe.watch) _ _ ?_ fun m hm o h => ?_
    · rw [hdemand, hdemand]
      refine ⟨Lane.tripped_evalFn ho _ h0 h2 (by decide) _ _ _ ?_, ?_⟩
      · exact l2.tripFn_tripped 1 ho h0
      · rw [Lane.watch_evalFn ho _ h2, Lane.watch_evalFn ho _ h0]
    · have h := List.mem_range.mp h
      exact ⟨m.tripped_cycleOutlet ho c (by omega) hm.1, (m.cycleOutlet_watch ho c (by omega)).trans hm.2⟩
  obtain ⟨ht, hw4⟩ := hl4
  refine ⟨ht, ?_⟩
  simp only [SafeSt.watch, Prod.mk.injEq] at hw4
  obtain ⟨-, -, -, -, hf, hd⟩ := hw4
  simp only [Lane.safe!, hf, hd, hfault2, hrun2, hfault, hrun]
  split <;> rfl

end Cycle

/-! ### The rows of the emergency stop -/

section EmergencyRows

variable (s : State) (i : LaneId)

/-- Sampling the lines leaves all of a lane but its acquisition. -/
theorem State.lane_lines_acquisition :
    LaneUnit.acquisition.outside (s.lines.lane i) = LaneUnit.acquisition.outside (s.lane i) :=
  (LaneRel.outside LaneUnit.acquisition |>.eachLane _ _ fun i l => Lane.acqLines_inside_acquisition (s.line i) l).2 i

theorem State.tripped_lines {n : Nat} (hn : SafetyFn n) : Tripped (s.lines.lane i) n ↔ Tripped (s.lane i) n := by
  obtain ⟨-, -, hhigh⟩ := tripPoint_fnAddr hn
  have hsafe : (s.lines.lane i).safe = (s.lane i).safe :=
    (congrArg Lane.safe (LaneUnit.rest_eq _ (s.lane_lines_acquisition i)) :)
  rw [Tripped, Tripped, (s.lane_lines_kept i).2 _ (by omega), hsafe]

/-- Read-back faults count and leave the rest of a lane (R338). -/
theorem State.newFaults_pointsOnly (xs : List Nat) :
    s.LaneWise (fun _ => Lane.PointsOnly [SafM.tpFaults]) (xs.foldl (fun s x => s.both (Lane.outputFault x)) s) :=
  (LaneRel.pointsOnly _).foldl _ _ (fun _ x => (LaneRel.pointsOnly _).eachLane _ _ fun j l =>
    (LaneRel.pointsOnly _).trans (i := j) (l.pointsOnly_setp _ (List.mem_singleton_self _)) ((Lane.ringsOnly_fire _ 92 x _).pointsOnly _)) s

/-- The emergency stop in one lane's cycle (R326). -/
theorem State.tripped_safetySample {c : SafetyInputs} (hact : (s.lane i).active = true) (hknown : (s.lane i).filtersKnown = true)
    (hfault : (s.lane i).safe.chanFault = false) (hrun : (s.lane i).safe.diffRun = 0) (hopen : c.estop1 = false) :
    Tripped ((s.safetySample i c c).lane i) 0 := by
  have h0 : SafetyFn 0 := safetyFn_mod (by decide)
  unfold State.safetySample
  dsimp only
  rw [if_pos hact, State.tripped_lines _ _ h0, State.tripped_drive _ _ h0]
  generalize hs0 : (s.newFaults c c).foldl (fun s x => s.both (Lane.outputFault x)) s = s0
  have hkept : besideEvents (s.lane i) (s0.lane i) = s.lane i := by
    rw [← hs0]
    exact ((s.newFaults_pointsOnly _).2 i).1
  have hact0 : (s0.lane i).active = true := by rw [← hact, ← congrArg Lane.active hkept]; rfl
  have hknown0 : (s0.lane i).filtersKnown = true := by rw [← hknown, ← congrArg Lane.filtersKnown hkept]; rfl
  have hsafe0 : (s0.lane i).safe = (s.lane i).safe := (congrArg Lane.safe hkept :)
  obtain ⟨htrip, hchan⟩ := (s0.lane i).safetyCycle_estop (outlets := s.chassis.variant.outlets) s.chassis.variant.outlets_le c hopen hknown0
    (by rw [hsafe0, hfault]) (by rw [hsafe0, hrun])
  generalize hs1 : s0.one i (fun l => if s.chassis.variant.team then ((l.safetyCycle s.chassis.variant.outlets c c).takeLines c).telegramFrames
    else (l.safetyCycle s.chassis.variant.outlets c c).takeLines c) = s1
  have hs2 : ∀ (x : Chassis) (b : Prop) [Decidable b], ((if b then { s1 with chassis := x } else s1).lane i) = s1.lane i := by
    intro x b _
    split
    · cases i <;> rfl
    · rfl
  have hframes : ∀ l : Lane, (LaneUnit.aside (fun _ => false)).outside
      (if s.chassis.variant.team then (l.takeLines c).telegramFrames else l.takeLines c)
        = (LaneUnit.aside (fun _ => false)).outside (l.takeLines c) := fun l => LaneUnit.outside_ite (Lane.telegramFrames_aside _) rfl
  have hlane : Tripped (s1.lane i) 0 ∧ (s1.lane i).safe.chanFault = false := by
    rw [← hs1, State.lane_one, if_pos ⟨rfl, hact0⟩]
    refine ⟨Lane.tripped_of_aside (hframes _) h0 htrip, ?_⟩
    have hsafe : _ = ((((s0.lane i).safetyCycle s.chassis.variant.outlets c c).takeLines c)).safe := LaneUnit.rest_eq _ (hframes _)
    exact (congrArg SafeSt.chanFault hsafe).trans hchan
  obtain ⟨htrip1, hchan1⟩ := hlane
  simp only [hs2, hchan1, Bool.false_eq_true, if_false]
  split
  · exact Lane.tripped_of_aside ((State.wake_aside _ 6 _).2 i) h0 (by rw [hs2]; exact htrip1)
  · rw [hs2]
    exact htrip1

/-- Without its pulses a channel demands the emergency stop (R340). -/
theorem Lane.pulseLost_iff (l : Lane) (x : Contacts) : l.pulseLost x = true ↔ max x.pulseLap l.safe.startLap + msLaps 1100 ≤ l.lap := by
  have hpos : msLaps 1100 = 220000 := rfl
  simp only [Lane.pulseLost, decide_eq_true_eq]
  omega

theorem SafeSt.mem_latch (x : SafeSt) (n : Nat) {ch1 ch2 : Bool} :
    (ch1 = true → n ∈ (x.latch n ch1 ch2).trip1) ∧ (ch2 = true → n ∈ (x.latch n ch1 ch2).trip2) := by
  constructor
  all_goals
    rintro rfl
    simp only [SafeSt.latch, Bool.true_and]
    split
    · simp
    · next h => simpa using h

/-- A channel without pulses raises function 0, each by itself (R340). -/
theorem Lane.loopTimeout_of_lost (l : Lane) {outlets : Nat} (ho : outlets ≤ 32) (hmode : l.c SafM.loopMode = 1)
    (h : l.pulseLost l.safe.con1 = true ∨ l.pulseLost l.safe.con2 = true) :
    (l.loopTimeout outlets).p (fnAddr 0) = fnTripped ∧ (l.loopTimeout outlets).p SafM.loopState = 3
    ∧ (l.pulseLost l.safe.con1 = true → 0 ∈ (l.loopTimeout outlets).safe.trip1)
    ∧ (l.pulseLost l.safe.con2 = true → 0 ∈ (l.loopTimeout outlets).safe.trip2) := by
  have h0 : SafetyFn 0 := safetyFn_mod (by decide)
  unfold Lane.loopTimeout
  dsimp only
  rw [if_pos ⟨hmode, by simpa using h⟩, Lane.tripFn_safe _ _ _ _ ho h0, Lane.tripFn_p _ _ _ _ ho h0 (by decide) (by decide) (by decide),
    Lane.tripFn_p _ _ _ _ ho h0 (by decide) (by decide) (by decide), if_pos rfl, if_neg (by decide)]
  exact ⟨rfl, by simp, SafeSt.mem_latch _ 0⟩

theorem Lane.loopTimeout_of_seen (l : Lane) (outlets : Nat) (h1 : l.pulseLost l.safe.con1 = false) (h2 : l.pulseLost l.safe.con2 = false) :
    l.loopTimeout outlets = l := by
  simp [Lane.loopTimeout, h1, h2]

/-- A dropped line gates the drivers, and is seen dropped (R340). -/
theorem State.loopDrop_gates (s : State) (i : LaneId) (hact : (s.lane i).active = true) (hmode : (s.lane i).c SafM.loopMode = 1) :
    s.loopDrop.chassis.loopGate = true ∧ (s.loopDrop.lane i).safe.loopIn = false := by
  have hlines : ∀ s : State, (s.lines.lane i).safe = (s.lane i).safe ∧ s.lines.chassis = s.chassis := fun s =>
    ⟨(congrArg Lane.safe (LaneUnit.rest_eq _ (s.lane_lines_acquisition i)) :), rfl⟩
  have hon : (s.a.active && decide (s.a.c SafM.loopMode = 1) || s.b.active && decide (s.b.c SafM.loopMode = 1)) = true := by
    cases i <;> simp_all [State.lane]
  unfold State.loopDrop
  dsimp only
  rw [if_pos hon, (hlines _).1, (hlines _).2, State.lane_drive_safe]
  refine ⟨rfl, ?_⟩
  have hboth : ((s.both (fun l => l.safe! (fun x => { x with loopIn := false }))).lane i).safe.loopIn = false := by
    rw [State.lane_both, if_pos hact]
    rfl
  cases i <;> exact hboth

end EmergencyRows

/-- A row of one computing lane, and the outputs after it, as the safety layer shows them. -/
theorem State.lane_one_drive (s : State) (i : LaneId) {f : Lane → Lane} (hact : (s.lane i).active = true) :
    ((s.one i f).drive.lane i).p (fnAddr 0) = (f (s.lane i)).p (fnAddr 0)
    ∧ ((s.one i f).drive.lane i).p SafM.loopState = (f (s.lane i)).p SafM.loopState
    ∧ ((s.one i f).drive.lane i).safe = { (f (s.lane i)).safe with outsOn := ((s.one i f).drive.lane i).safe.outsOn } := by
  refine ⟨?_, ?_, ?_⟩
  · rw [State.lane_drive_fn _ i (safetyFn_mod (by decide)), State.lane_one, if_pos ⟨rfl, hact⟩]
  · rw [State.lane_drive_p_other _ i (by decide), State.lane_one, if_pos ⟨rfl, hact⟩]
  · rw [State.lane_drive_safe, State.lane_one, if_pos ⟨rfl, hact⟩]

/-- Settles O21, row by row. -/
theorem emergencyStop : Obligations.EmergencyStop := by
  unfold Obligations.EmergencyStop
  have h0 : SafetyFn 0 := safetyFn_mod (by decide)
  intro s i
  have ho := s.chassis.variant.outlets_le
  refine ⟨fun c hact _ hknown hfault hrun hopen => ?_, fun n hon hn hother => ?_, fun m hteam hact hsafety hmember hlate _ => ?_,
    fun n1 n2 hn1 hn2 hact hmode => ⟨fun h1 h2 => ?_, fun h => ?_, fun h1 h2 => ?_⟩, fun hact hmode => ?_⟩
  all_goals refine does_of_next rfl ?_
  · exact s.tripped_safetySample i hact hknown hfault hrun hopen
  · rw [State.tripped_drive _ _ hn, State.lane_kept_self hon]
    unfold Lane.takeTrip
    rw [if_pos (by simp [hother])]
    exact Lane.tripFn_tripped _ _ ho hn
  · rw [State.tripped_drive _ _ h0, State.lane_drive_p_other _ _ (by decide), State.lane_teamed_of_active s i _ hteam hact]
    unfold Lane.telegramTimeout
    rw [if_pos ⟨hsafety, hmember, by omega⟩]
    refine ⟨Lane.tripFn_tripped _ _ ho h0, ?_⟩
    rw [Lane.tripFn_p _ _ _ _ ho h0 (by decide) (by decide) (by decide), if_neg (by decide)]
    simp
  · obtain ⟨hfn, hpt, hsafe⟩ := s.lane_one_drive i (f := fun l => l.loopTimeout s.chassis.variant.outlets) hact
    obtain ⟨hp, hloop, ht1, ht2⟩ := (s.lane i).loopTimeout_of_lost ho hmode (.inl ((Lane.pulseLost_iff ..).mpr (hn1 ▸ h1)))
    rw [Tripped, hfn, hpt, hsafe]
    exact ⟨⟨hp, ht1 ((Lane.pulseLost_iff ..).mpr (hn1 ▸ h1)), ht2 ((Lane.pulseLost_iff ..).mpr (hn2 ▸ h2))⟩, hloop⟩
  · obtain ⟨hfn, hpt, hsafe⟩ := s.lane_one_drive i (f := fun l => l.loopTimeout s.chassis.variant.outlets) hact
    obtain ⟨hp, hloop, ht1, ht2⟩ := (s.lane i).loopTimeout_of_lost ho hmode
      (h.imp (fun h => (Lane.pulseLost_iff ..).mpr (hn1 ▸ h)) fun h => (Lane.pulseLost_iff ..).mpr (hn2 ▸ h))
    rw [hfn, hpt, hsafe]
    exact ⟨hp, hloop, fun h => ht1 ((Lane.pulseLost_iff ..).mpr (hn1 ▸ h)), fun h => ht2 ((Lane.pulseLost_iff ..).mpr (hn2 ▸ h))⟩
  · obtain ⟨hfn, hpt, hsafe⟩ := s.lane_one_drive i (f := fun l => l.loopTimeout s.chassis.variant.outlets) hact
    rw [hpt, hsafe, Lane.loopTimeout_of_seen _ _ (Bool.eq_false_iff.mpr fun h => by rw [Lane.pulseLost_iff] at h; omega)
      (Bool.eq_false_iff.mpr fun h => by rw [Lane.pulseLost_iff] at h; omega)]
    exact ⟨rfl, rfl, rfl⟩
  · exact s.loopDrop_gates i hact hmode

/-! ### The check of a backup discharge (R346, R347) -/

/-- Lane A holds the baton; the backup discharge of outlet 0 has been off since lap 0 over a cable of more than 60 V, and its output, which the lane
has shown on until now, goes off in this lap. -/
def State.dischargeFalls : State :=
  State.heldByA 500000 (fun l => { l.setOut 0 { l.out 0 with bdisOff := some 0, vOwn := 60001 } with safe := { outsOn := [5] } })

/-- The check ends the supervision, and the output that goes off in the same row starts it anew. -/
theorem bdisOff_dischargeFalls :
    ((((State.dischargeFalls.outletEvent 0 (fun l => l.backupCheck 0))).lane .A).out 0).bdisOff = some 500000 := by
  decide +kernel

/-- Refutes O23: an output that goes off in the row of the check starts a backup discharge anew (R346). -/
theorem not_protectionPulses : ¬ Obligations.ProtectionPulses := by
  unfold Obligations.ProtectionPulses
  intro h
  obtain ⟨-, hbackup, -⟩ := h.2 State.dischargeFalls .A 0 (by decide +kernel) (by decide +kernel)
  have hnone := of_does (hbackup 0 (by decide +kernel) (by decide +kernel) (by decide +kernel)) rfl
  exact absurd (bdisOff_dischargeFalls.symm.trans hnone) (by simp)

end Sys2Proof.Machine
end

section
/-!
12_billing_registers.md: intervals, billing periods, tariff and the legal display.
-/

namespace Sys2Proof.Machine

open Sys2Proof

/-! ### Points of the registers (R289, R318) -/

/-- `profile_seq` of a metering point is no demand, and no other point's `profile_seq`. -/
theorem seqAddr_ne_demand {m : Nat} (hm : m < 40) (k t : Nat) (ht : t < 8) :
    seqAddr m ≠ maxDemAddr k t ∧ seqAddr m ≠ maxTimeAddr k t ∧ seqAddr m ≠ demLastAddr k ∧ (seqAddr m = seqAddr k ↔ m = k) := by
  unfold seqAddr maxDemAddr maxTimeAddr demLastAddr RegA.profileSeq RegD.profileSeq RegA.maxDemW RegD.maxDemW
    RegA.maxDemTime RegD.maxDemTime RegA.demLastW RegD.demLastW
  split_ifs <;> omega

/-- The running number of billing periods is no point of a metering point that is fitted. -/
theorem periodNo_ne {m : Nat} (hm : m < 40) (t : Nat) (ht : t < 8) :
    Cal.periodNo ≠ maxDemAddr m t ∧ Cal.periodNo ≠ maxTimeAddr m t ∧ Cal.periodNo ≠ demLastAddr m ∧ Cal.periodNo ≠ seqAddr m := by
  unfold Cal.periodNo seqAddr maxDemAddr maxTimeAddr demLastAddr RegA.profileSeq RegD.profileSeq RegA.maxDemW RegD.maxDemW
    RegA.maxDemTime RegD.maxDemTime RegA.demLastW RegD.demLastW
  split_ifs <;> omega

/-- What every step on an element of the list leaves, the run leaves. -/
theorem Lane.forL_keptOn {α β : Type} (v : Lane → α) (xs : List β) {f : β → Lane → Lane} (hf : ∀ x ∈ xs, ∀ l, v (f x l) = v l)
    (l : Lane) : v (l.forL xs f) = v l :=
  List.foldlRecOn (motive := fun m => v m = v l) xs _ rfl fun m hm x hx => (hf x hx m).trans hm

theorem Lane.mem_metPoints {l : Lane} {m : Nat} (h : m ∈ l.metPoints) : m < 40 :=
  List.mem_range.mp (List.mem_filter.mp h).1

theorem Lane.metPoints_nodup (l : Lane) : l.metPoints.Nodup := List.Nodup.filter _ List.nodup_range

/-! ### The close of an interval (R290, R291) -/

/-- The demands of a closing interval leave the metering record, and every point that holds no demand. -/
theorem Lane.demands_kept (l : Lane) (m : Nat) (x : OpenInterval) (endMs : Int) {a : Nat}
    (hmax : ∀ t < 8, a ≠ maxDemAddr m t ∧ a ≠ maxTimeAddr m t) (hlast : a ≠ demLastAddr m) :
    (l.demands m x endMs).met = l.met ∧ (l.demands m x endMs).p a = l.p a := by
  have hrun : ∀ d : Nat → Lane → Int, ∀ l : Lane,
      (fun l : Lane => (l.met, l.p a)) (l.forN 8 fun t l =>
        if l.p (maxDemAddr m t) < d t l then (l.setp (maxDemAddr m t) (d t l)).setp (maxTimeAddr m t) endMs else l) = (l.met, l.p a) := by
    intro d l
    refine List.foldlRecOn (motive := fun n : Lane => (n.met, n.p a) = (l.met, l.p a)) (List.range 8) _ rfl fun n hn t ht => ?_
    obtain ⟨hdem, htime⟩ := hmax t (List.mem_range.mp ht)
    dsimp only
    split
    · simpa [Lane.p_setp, hdem, htime] using hn
    · exact hn
  unfold Lane.demands
  simpa [Lane.p_setp, hlast] using hrun _ l

/-- What a closing reads and writes of metering point `m`, of the records of the interval that ends at `endMs`. -/
def Lane.closing (endMs : Int) (m : Nat) (l : Lane) : Int × List IntervalRec :=
  (l.p (seqAddr m), l.met.profile.filter (fun r => decide (r.point = m ∧ r.endMs = endMs)))

theorem Lane.mem_of_mem_closing {l : Lane} {endMs : Int} {m : Nat} {r : IntervalRec} (h : r ∈ (l.closing endMs m).2) : r ∈ l.met.profile :=
  (List.mem_filter.mp h).1

section Closing

variable (l : Lane) (endMs : Int) (fl : Nat) (start : Int) (len : Option Int)

/-- Closing a point counts its record on and puts it before those that it keeps, and leaves the number of billing periods. -/
theorem Lane.closePoint_kept (m : Nat) : ∃ r : IntervalRec, r.point = m ∧ r.endMs = endMs ∧ r.seq = l.pn (seqAddr m) + 1
    ∧ (l.closePoint endMs fl start len m).met.profile
      = r :: l.met.profile.filter (fun e => decide (endMs - e.endMs ≤ 400 * dayMs))
    ∧ ∀ a, (∀ t < 8, a ≠ maxDemAddr m t ∧ a ≠ maxTimeAddr m t) → a ≠ demLastAddr m → a ≠ seqAddr m →
      (l.closePoint endMs fl start len m).p a = l.p a := by
  have hkept := fun {a : Nat} => l.demands_kept m (l.openI m) endMs (a := a)
  unfold Lane.closePoint
  extract_lets x n r keep l1 l2
  refine ⟨r, rfl, rfl, rfl, ?_, fun a hmax hlast hseq => ?_⟩
  · have hmet : (l.demands m x endMs).met = l.met := (hkept (a := 0) (fun t _ => by
      unfold maxDemAddr maxTimeAddr RegA.maxDemW RegD.maxDemW RegA.maxDemTime RegD.maxDemTime
      split_ifs <;> omega) (by unfold demLastAddr RegA.demLastW RegD.demLastW; split_ifs <;> omega)).1
    simp [l2, l1, Lane.setOpenI, hmet, keep]
  · simp [l2, l1, Lane.setOpenI, Lane.p_setp, hseq, (hkept hmax hlast).2, x]

/-- Closing a point reaches no other point's records of that interval. -/
theorem Lane.closing_closePoint_other {m k : Nat} (hm : m < 40) (hne : k ≠ m) :
    (l.closePoint endMs fl start len k).closing endMs m = l.closing endMs m := by
  obtain ⟨r, hpoint, -, -, hprofile, hkept⟩ := l.closePoint_kept endMs fl start len k
  have hpoints := fun t ht => seqAddr_ne_demand hm k t ht
  have hday : (0 : Int) ≤ 400 * dayMs := by decide
  refine Prod.ext (hkept _ (fun t ht => ⟨(hpoints t ht).1, (hpoints t ht).2.1⟩) (hpoints 0 (by decide)).2.2.1
    fun h => hne ((hpoints 0 (by decide)).2.2.2.mp h).symm) ?_
  simp only [Lane.closing, hprofile, List.filter_cons, hpoint, hne, false_and, decide_false, Bool.false_eq_true, if_false,
    List.filter_filter]
  refine List.filter_congr fun e _ => ?_
  by_cases he : e.endMs = endMs <;> simp [he, hday]

/-- The points and the metering record but for the running intervals and cycles. -/
def Lane.closedRecord (l : Lane) : (Nat → Int) × MetSt := (l.p, { l.met with ac := [], openI := [] })

variable {l} in
theorem Lane.p_of_closedRecord {k : Lane} (h : k.closedRecord = l.closedRecord) : k.p = l.p := congrArg Prod.fst h

variable {l} in
theorem Lane.closing_of_closedRecord {k : Lane} (h : k.closedRecord = l.closedRecord) (m : Nat) :
    k.closing endMs m = l.closing endMs m := by
  have hprofile : k.met.profile = l.met.profile := congrArg (fun x : (Nat → Int) × MetSt => x.2.profile) h
  simp only [Lane.closing, Lane.p_of_closedRecord h, hprofile]

theorem Lane.setAc_closedRecord (m : Nat) (x : AcSt) : (l.setAc m x).closedRecord = l.closedRecord := rfl

theorem Lane.setOpenI_closedRecord (m : Nat) (x : OpenInterval) : (l.setOpenI m x).closedRecord = l.closedRecord := rfl

theorem Lane.cutCycles_closedRecord (f : Nat → CycleCut → CycleCut) : (l.cutCycles f).closedRecord = l.closedRecord := by
  unfold Lane.cutCycles
  refine Lane.forN_kept Lane.closedRecord 8 (fun m l => ?_) l
  dsimp only
  repeat' split
  all_goals simp only [Lane.setAc_closedRecord]

theorem Lane.cutCycles_p (f : Nat → CycleCut → CycleCut) : (l.cutCycles f).p = l.p :=
  Lane.p_of_closedRecord (l.cutCycles_closedRecord f)

theorem Lane.flagAll_closedRecord (bit : Nat) : (l.flagAll bit).closedRecord = l.closedRecord :=
  Lane.forL_kept Lane.closedRecord _ (fun m l => l.setOpenI_closedRecord m _) l

theorem Lane.idlePoints_closedRecord (ms : List Nat) : (l.forL ms (Lane.idlePoint fl start len)).closedRecord = l.closedRecord :=
  Lane.forL_kept Lane.closedRecord ms (f := Lane.idlePoint fl start len) (fun m l => l.setOpenI_closedRecord m _) l

theorem Lane.idlePoints_p (ms : List Nat) : (l.forL ms (Lane.idlePoint fl start len)).p = l.p :=
  Lane.p_of_closedRecord (l.idlePoints_closedRecord fl start len ms)

theorem Lane.cutCycles_closing (f : Nat → CycleCut → CycleCut) (m : Nat) : (l.cutCycles f).closing endMs m = l.closing endMs m :=
  Lane.closing_of_closedRecord endMs (l.cutCycles_closedRecord f) m

theorem Lane.idlePoints_closing (endMs : Int) (ms : List Nat) (m : Nat) :
    (l.forL ms (Lane.idlePoint fl start len)).closing endMs m = l.closing endMs m :=
  Lane.closing_of_closedRecord endMs (l.idlePoints_closedRecord fl start len ms) m

variable {l}

/-- Closing the intervals leaves a record of each point in use. -/
theorem Lane.closePoints_record {m : Nat} (hm : m ∈ l.metPoints) :
    ∃ r ∈ (l.closePoints endMs fl start len).met.profile, r.point = m ∧ r.seq = l.pn (seqAddr m) + 1 ∧ r.endMs = endMs := by
  have hfits := Lane.mem_metPoints hm
  obtain ⟨k, hk, hclosed⟩ := Lane.forL_only (Lane.closing endMs m) l.metPoints_nodup hm
    (f := Lane.closePoint endMs fl start len) (fun j hj l => l.closing_closePoint_other endMs fl start len hfits hj) l
  obtain ⟨r, hpoint, hend, hseq, hprofile, -⟩ := k.closePoint_kept endMs fl start len m
  have hrecord : r ∈ ((k.closePoint endMs fl start len m).closing endMs m).2 := by simp [Lane.closing, hprofile, hpoint, hend]
  have hrest : (l.closePoints endMs fl start len).closing endMs m = (k.closePoint endMs fl start len m).closing endMs m := by
    unfold Lane.closePoints
    dsimp only
    rw [Lane.cutCycles_closing, Lane.idlePoints_closing, hclosed]
  have hbefore : k.pn (seqAddr m) = l.pn (seqAddr m) := congrArg Int.toNat (congrArg Prod.fst hk)
  rw [← hrest] at hrecord
  exact ⟨r, Lane.mem_of_mem_closing hrecord, hpoint, hseq.trans (by rw [hbefore]), hend⟩

/-- Closing the intervals leaves the number of billing periods. -/
theorem Lane.closePoints_periodNo : (l.closePoints endMs fl start len).p Cal.periodNo = l.p Cal.periodNo := by
  have hclose : (l.forL l.metPoints (Lane.closePoint endMs fl start len)).p Cal.periodNo = l.p Cal.periodNo := by
    refine Lane.forL_keptOn (fun l => l.p Cal.periodNo) _ (fun m hm n => ?_) l
    have hpoints := fun t ht => periodNo_ne (Lane.mem_metPoints hm) t ht
    obtain ⟨r, -, -, -, -, hkept⟩ := n.closePoint_kept endMs fl start len m
    exact hkept _ (fun t ht => ⟨(hpoints t ht).1, (hpoints t ht).2.1⟩) (hpoints 0 (by decide)).2.2.1
      (hpoints 0 (by decide)).2.2.2
  unfold Lane.closePoints
  dsimp only
  rw [Lane.cutCycles_p, Lane.idlePoints_p, hclose]

end Closing

section Boundary

variable {l : Lane}

/-- A boundary applied moves on to the next one, and leaves a record of each point in use. -/
theorem Lane.applyBoundary_closed (fl : Nat) :
    (l.applyBoundary true fl).met.lastBoundary = l.met.nextBoundary
    ∧ (l.applyBoundary true fl).met.nextBoundary = l.boundaryAfter l.met.nextBoundary
    ∧ ∀ m ∈ l.metPoints, ∃ r ∈ (l.applyBoundary true fl).met.profile, r.point = m ∧ r.seq = l.pn (seqAddr m) + 1
      ∧ r.endMs = l.toUtc l.met.nextBoundary := by
  unfold Lane.applyBoundary
  extract_lets b nb short endMs split l1
  have hsplit : split.closedRecord = l.closedRecord := by
    unfold split
    split_ifs
    · exact l.flagAll_closedRecord 1
    · rfl
  have hcfg : split.cfg = l.cfg := by
    unfold split
    split_ifs <;> simp
  have hpoints : split.metPoints = l.metPoints := by
    unfold Lane.metPoints Lane.metEnabled Lane.c
    rw [hcfg]
  have hp : split.p = l.p := Lane.p_of_closedRecord hsplit
  refine ⟨by simp [b], by simp [nb, b], fun m hm => ?_⟩
  obtain ⟨r, hr, hpoint, hseq, hend⟩ :=
    Lane.closePoints_record endMs (fl ||| short) b (some (l.c Cal.intervalMin * 60000)) (hpoints ▸ hm)
  have hpn : split.pn (seqAddr m) = l.pn (seqAddr m) := congrArg Int.toNat (congrFun hp _)
  refine ⟨r, ?_, hpoint, hseq.trans (by rw [hpn]), hend⟩
  have hprofile : l1.met.profile = (split.closePoints endMs (fl ||| short) b (some (l.c Cal.intervalMin * 60000))).met.profile := by
    simp only [l1, if_true, Lane.fire_frame, Lane.met_metBang]
  clear_value l1
  rw [← hprofile] at hr
  exact hr

theorem Lane.applyBoundary_periodNo (wr : Bool) (fl : Nat) : (l.applyBoundary wr fl).p Cal.periodNo = l.p Cal.periodNo := by
  unfold Lane.applyBoundary
  extract_lets b nb short endMs split l1
  have hsplit : split.closedRecord = l.closedRecord := by
    unfold split
    split_ifs
    · exact l.flagAll_closedRecord 1
    · rfl
  have h1 : l1.p Cal.periodNo = l.p Cal.periodNo := by
    unfold l1
    split_ifs
    · have hp : split.p Cal.periodNo = l.p Cal.periodNo := congrFun (Lane.p_of_closedRecord hsplit) Cal.periodNo
      simpa [Lane.closePoints_periodNo] using hp
    · rfl
  simpa [Lane.p_setp, Cal.periodNo, Cal.intervalEndMs] using h1

theorem Lane.intervalClose_of_due (hloss : l.met.lossTicks = none) (hdue : l.met.nextBoundary ≤ l.localMs) :
    l.intervalClose = l.applyBoundary true 0 := by
  simp [Lane.intervalClose, hloss, hdue]

/-! ### Billing periods and the tariff (R293, R295) -/

theorem Lane.clearDemand_met : l.clearDemand.met = l.met := by
  unfold Lane.clearDemand
  refine Lane.forN_kept Lane.met 40 (fun m l => ?_) l
  refine Lane.forN_kept Lane.met 8 (fun t l => ?_) l
  rfl

theorem Lane.applyBilling_closed (b : Int) :
    (l.applyBilling b).met.lastPeriod = b ∧ (l.applyBilling b).p Cal.periodNo = (l.pn Cal.periodNo + 1 : Nat)
    ∧ (l.applyBilling b).met.periods.head?.map PeriodRec.no = some (l.pn Cal.periodNo) := by
  unfold Lane.applyBilling
  extract_lets r l1
  simp [Lane.clearDemand_met, Lane.p_setp, l1, r]

theorem Lane.billingClose_of_due (hloss : l.met.lossTicks = none) (hdue : nextBilling l.cfg l.met.lastPeriod ≤ l.localMs) :
    ∃ k : Lane, k.p Cal.periodNo = l.p Cal.periodNo ∧ l.billingClose = k.applyBilling (nextBilling l.cfg l.met.lastPeriod) := by
  unfold Lane.billingClose
  rw [if_neg (by simp [hloss, hdue])]
  dsimp only
  split_ifs with hfirst
  · exact ⟨_, by rw [Lane.intervalClose_of_due hloss (hfirst.trans hdue), Lane.applyBoundary_periodNo], rfl⟩
  · exact ⟨l, rfl, rfl⟩

theorem Lane.evalTariff_of_change {t : Int} (hnew : tariffAt l.cfg (l.eveTariff (t / dayMs)) t ≠ l.tariff) :
    (l.evalTariff t).p Cal.tariffNow = tariffAt l.cfg (l.eveTariff (t / dayMs)) t := by
  unfold Lane.evalTariff
  extract_lets old day eve new known l0 l1
  rw [if_neg hnew, (Lane.fire_read ..).1]
  refine (Lane.forN_kept (fun l => l.p Cal.tariffNow) 40 (fun m l => ?_) l1).trans (by simp [l1, new, eve, day])
  dsimp only
  split_ifs
  · exact congrFun (Lane.p_of_closedRecord (l.setOpenI_closedRecord m _)) _
  · rfl

theorem Lane.tariffEvaluation_of_onTime (hloss : l.met.lossTicks = none) (hclose : l.localMs < l.met.nextBoundary)
    (hbill : l.localMs < nextBilling l.cfg l.met.lastPeriod) : l.tariffEvaluation = l.evalTariff l.localMs := by
  simp [Lane.tariffEvaluation, hloss, Int.not_le.mpr hclose, Int.not_le.mpr hbill]

/-- While the supply is lost the accumulators are frozen (R302). -/
theorem Lane.closes_of_loss (hloss : l.met.lossTicks.isSome = true) :
    l.intervalClose = l ∧ l.billingClose = l ∧ l.tariffEvaluation = l := by
  obtain ⟨ticks, hticks⟩ := Option.isSome_iff_exists.mp hloss
  simp [Lane.intervalClose, Lane.billingClose, Lane.tariffEvaluation, hticks]

theorem Lane.displayScroll_of_due (hdue : l.met.displayLap + 200000 * l.cn Cal.scrollDwellS ≤ l.proxClock) :
    l.displayScroll.met.displayLap = l.proxClock
    ∧ l.displayScroll.met.display = if 32 ≤ l.met.display + 1 ∨ bitsAt (l.cn (Cal.scroll (l.met.display + 1))) 31 24 = 0 then 0
      else l.met.display + 1 := by
  unfold Lane.displayScroll
  rw [if_neg (Nat.not_lt.mpr hdue)]
  exact ⟨rfl, by rw [ite_or]; rfl⟩

end Boundary

theorem State.lane_keptBoth_self {s : State} {i : LaneId} (ha : (s.lane i).alwaysOn = true) (f : Lane → Lane) :
    (s.keptBoth f).lane i = f (s.lane i) := by
  rw [State.lane_keptBoth, if_pos ha]

/-- Settles O20, row by row. -/
theorem billingRows : Obligations.BillingRows := by
  unfold Obligations.BillingRows
  intro s i ha
  refine ⟨fun hloss hdue => does_of_next rfl ?_, fun hloss hdue => does_of_next rfl ?_,
    fun new hnew hloss hclose hbill hchange => does_of_next rfl ?_, fun hloss => ?_, fun hdue => does_of_next rfl ?_⟩
  · rw [State.lane_keptBoth_self ha, Lane.intervalClose_of_due hloss hdue]
    exact Lane.applyBoundary_closed 0
  · obtain ⟨k, hk, hclose⟩ := Lane.billingClose_of_due hloss hdue
    rw [State.lane_keptBoth_self ha, hclose, Lane.pn, ← hk]
    exact Lane.applyBilling_closed _
  · subst hnew
    rw [State.lane_keptBoth_self ha, Lane.tariffEvaluation_of_onTime hloss hclose hbill]
    exact Lane.evalTariff_of_change hchange
  · obtain ⟨hinterval, hbilling, htariff⟩ := Lane.closes_of_loss hloss
    exact ⟨does_of_next rfl (by rw [State.lane_keptBoth_self ha, hinterval]),
      does_of_next rfl (by rw [State.lane_keptBoth_self ha, hbilling]),
      does_of_next rfl (by rw [State.lane_keptBoth_self ha, htariff])⟩
  · rw [State.lane_keptBoth_self ha]
    exact Lane.displayScroll_of_due hdue

/-- Settles O57: whole kWh are counted modulo `10 ^ 10`. -/
theorem legalDisplay : Obligations.LegalDisplay := by
  unfold Obligations.LegalDisplay
  intro reg hreg
  unfold displayRegister
  refine ⟨by norm_num, by omega, by omega, ?_⟩
  split <;> omega

end Sys2Proof.Machine
end

section
/-!
A step of the machine runs the command at the front of the queue.
-/

namespace Sys2Proof.Machine

open Sys2Proof

/-- Settles O50. -/
theorem stepRunsFront : Obligations.StepRunsFront := by
  unfold Obligations.StepRunsFront
  intro c rest s
  rfl
end Sys2Proof.Machine
end

section
/-!
14_lanes_and_baton.md: the life of a cartridge.
-/

namespace Sys2Proof.Machine

open Sys2Proof

/-! ### What putting a lane into a state reaches (R356, R364) -/

/-- A lane's state and phase, the marks of its links, and what they take with them. -/
def LaneUnit.placement : LaneUnit Lane where
  rest l := { l with
    pts := [], stat := [], host := {}, hubs := [], acq := {}
    link := { l.link with state := .absent, phase := .none, phaseLap := 0, fwAnswer := none }
    met := { l.met with copied := false, lastHolderTick := none } }
  own a := decide (a = Hp.laneState ∨ a = Hp.resyncPhase ∨ a = Hp.resyncProgress ∨ a = Hp.inStepSince
    ∨ 0x90700 ≤ a ∧ a < 0x90800 ∨ 0x91000 ≤ a ∧ a < 0x92000)
  rest_besideEvents _ _ := rfl

section Placement

variable (l : Lane)

theorem LaneUnit.placement_own_hub {h : Nat} (hh : h < 32) : LaneUnit.placement.own (Hub.linkState h) = true
    ∧ LaneUnit.placement.own (Hub.linkFault h) = true ∧ LaneUnit.placement.own (Hub.retrains h) = true := by
  unfold LaneUnit.placement Hub.linkState Hub.linkFault Hub.retrains
  simp only [decide_eq_true_eq]
  omega

theorem Lane.setHub_placement (h : Nat) (x : HubSt) : LaneUnit.placement.outside (l.setHub h x) = LaneUnit.placement.outside l := rfl

theorem Lane.linkTo_placement {h : Nat} (hh : h < 32) (st : Int) :
    LaneUnit.placement.outside (l.linkTo h st) = LaneUnit.placement.outside l := by
  obtain ⟨hstate, -, hretrains⟩ := LaneUnit.placement_own_hub hh
  unfold Lane.linkTo
  extract_lets old l1 x ui
  have h1 : LaneUnit.placement.outside l1 = LaneUnit.placement.outside l :=
    LaneUnit.outside_ite (LaneUnit.outside_inc _ l hretrains) rfl
  split_ifs
  · rfl
  all_goals rw [LaneUnit.outside_fire, Lane.setHub_placement, LaneUnit.outside_setp _ _ _ hstate, h1]

theorem Lane.linksUp_placement : LaneUnit.placement.outside l.linksUp = LaneUnit.placement.outside l := by
  refine LaneUnit.outside_ite (LaneUnit.outside_forN _ 32 (fun h hh l => ?_) l) rfl
  obtain ⟨-, hfault, -⟩ := LaneUnit.placement_own_hub hh
  unfold Lane.linkEnable
  extract_lets st l1
  split_ifs
  · exact l.linkTo_placement hh lkDark
  · rfl
  · rfl
  · rw [Lane.setHub_placement, Lane.linkTo_placement _ hh, LaneUnit.outside_setp _ _ _ hfault]

theorem Lane.showState_placement : LaneUnit.placement.outside l.showState = LaneUnit.placement.outside l := by
  unfold Lane.showState
  rw [LaneUnit.outside_setp _ _ _ (by decide), LaneUnit.outside_setp _ _ _ (by decide)]

theorem Lane.showAcq_placement : LaneUnit.placement.outside l.showAcq = LaneUnit.placement.outside l := by
  unfold Lane.showAcq
  rw [LaneUnit.outside_setp _ _ _ (by decide), LaneUnit.outside_setp _ _ _ (by decide)]

end Placement

section States

variable (s : State) (i : LaneId)

/-- A lane put into a state keeps everything beside its place; the other lane takes the event and the answer. -/
theorem State.laneTo_placement (st : LaneState) (ph : Phase) :
    s.LaneWise (fun _ l m => LaneUnit.placement.outside m = LaneUnit.placement.outside l) (s.laneTo i st ph) := by
  have hR := LaneRel.outside LaneUnit.placement
  unfold State.laneTo
  extract_lets old up s1 s2
  have h1 : s.LaneWise (fun _ l m => LaneUnit.placement.outside m = LaneUnit.placement.outside l) s1 := hR.onLane _ _ _ fun l => by
    extract_lets l0 l1 l2 l3
    have hplace : LaneUnit.placement.outside l0 = LaneUnit.placement.outside l := by
      unfold l0
      split_ifs <;> rfl
    have hstate : LaneUnit.placement.outside l2 = LaneUnit.placement.outside l := by
      unfold l2 l1
      rw [LaneUnit.outside_setp _ _ _ (by decide), Lane.showState_placement]
      exact hplace
    have hlinks : LaneUnit.placement.outside l3 = LaneUnit.placement.outside l := by
      unfold l3
      refine LaneUnit.outside_ite ?_ (l2.linksUp_placement.trans hstate)
      exact (Lane.showAcq_placement _).trans (l2.linksUp_placement.trans hstate)
    exact LaneUnit.outside_ite ((LaneUnit.outside_setp _ _ _ (by decide)).trans hlinks) hlinks
  have h2 : s.LaneWise (fun _ l m => LaneUnit.placement.outside m = LaneUnit.placement.outside l) s2 := by
    simp only [s2]
    split
    · exact h1
    · exact hR.state_trans h1 (hR.state_trans (hR.alsoFire ..) (hR.fireBoth ..))
  clear_value s2
  have h3 : ∀ r, s.LaneWise (fun _ l m => LaneUnit.placement.outside m = LaneUnit.placement.outside l)
      ((s2.onLane i (fun _ => true) (fun _ _ l => l.lnk (fun x => { x with fwAnswer := none }))).answerBoth r (Reply.ok [])) :=
    fun r => hR.state_trans h2 (hR.state_trans (hR.onLane _ _ _ fun _ => rfl) (hR.answerBoth ..))
  split
  · split
    · split
      · exact hR.state_trans (h3 _) (hR.fireBoth ..)
      · exact h3 _
    · exact h2
  · exact h2

/-- All of a lane that is not its place stays when it, or the other, is put into a state. -/
theorem State.laneTo_rest (st : LaneState) (ph : Phase) (j : LaneId) :
    LaneUnit.placement.rest ((s.laneTo i st ph).lane j) = LaneUnit.placement.rest (s.lane j) :=
  LaneUnit.rest_eq _ ((s.laneTo_placement i st ph).2 j)

theorem State.laneTo_p (st : LaneState) (ph : Phase) (j : LaneId) {a : Nat} (ha : LaneUnit.placement.own a = false) :
    ((s.laneTo i st ph).lane j).p a = (s.lane j).p a := by
  have h := congrFun (congrArg Prod.snd ((s.laneTo_placement i st ph).2 j)) a
  simpa [LaneUnit.outside, ha] using h

theorem Lane.linksDown_laps (l : Lane) : l.linksDown.pacer.laps = l.pacer.laps := by
  simp [Lane.linksDown]

theorem Lane.showAcq_laps (l : Lane) : l.showAcq.pacer.laps = l.pacer.laps := rfl

/-- A lane cleared for its reset or its removal raises no want. -/
theorem State.laneCleared_want (fault : Bool) : ((s.laneCleared i fault).lane i).link.want = false := by
  unfold State.laneCleared
  dsimp only
  split <;> simp [State.lane_onLane]

/-- A lane cleared for its reset or its removal runs no laps (R98). -/
theorem State.laneCleared_laps (fault : Bool) : ((s.laneCleared i fault).lane i).pacer.laps = false := by
  have hend : ∀ l : Lane, (((((l.pacerTo pcSearch).linksDown.setp Ta.traceState 0).setp Ta.tuneState 0).setp Hp.healthFlags 0).showAcq).pacer.laps
      = l.pacer.laps := fun l => by
    simp [Lane.showAcq_laps, Lane.linksDown_laps]
  unfold State.laneCleared
  extract_lets s0 s1
  have h1 : (s1.lane i).pacer.laps = false := by
    simp only [s1]
    refine State.onLane_self (Q := fun l => l.pacer.laps = false) rfl fun l => ?_
    rw [hend]
  clear_value s1
  split
  · exact h1
  · simpa [State.lane_onLane] using h1

/-- A point of the cartridge that putting it into a lane shows stays while the metrology and the key store start. -/
def LaneUnit.start : LaneUnit Lane where
  rest l := { l with pts := [], stat := [], host := {}, met := {} }
  own a := decide (a < 0x60000)
  rest_besideEvents _ _ := rfl

theorem LaneUnit.start_own {a : Nat} (ha : a < 0x60000) : LaneUnit.start.own a = true := decide_eq_true ha

theorem Lane.meterPowerUp_start (l : Lane) : LaneUnit.start.outside l.meterPowerUp = LaneUnit.start.outside l := by
  have hgain : ∀ m < 40, ∀ c < (if m < 8 then 6 else 2), ∀ l : Lane,
      LaneUnit.start.outside (l.gainShown m c false) = LaneUnit.start.outside l := by
    intro m hm c hc l
    unfold Lane.gainShown
    rw [if_pos (by rfl)]
    split_ifs at hc ⊢
    · exact LaneUnit.outside_setp _ l _ (LaneUnit.start_own (by unfold Ac.gainState; omega))
    · exact LaneUnit.outside_setp _ l _ (LaneUnit.start_own (by unfold Dc.gainState; omega))
  unfold Lane.meterPowerUp
  refine LaneUnit.outside_forN _ 40 (fun m hm l => ?_) _
  extract_lets l1
  have h1 : LaneUnit.start.outside l1 = LaneUnit.start.outside l :=
    LaneUnit.outside_forN _ _ (fun c hc l => hgain m hm c hc l) l
  exact LaneUnit.outside_ite ((show LaneUnit.start.outside (l1.evalComp m) = LaneUnit.start.outside l1 from rfl).trans h1) h1

theorem Lane.checkSerial_serial (l : Lane) : l.checkSerial.p Hp.cartridgeSerial = l.p Hp.cartridgeSerial := by
  have hkeys : ∀ l : Lane, l.keyPoints.p Hp.cartridgeSerial = l.p Hp.cartridgeSerial := fun l => by
    simp [Lane.keyPoints, Lane.p_setp, Hp.cartridgeSerial, Key.storeSerialOk, Key.slotsValid, Key.slotsOrphaned]
  unfold Lane.checkSerial
  dsimp only
  split_ifs
  · exact hkeys l
  · exact hkeys { l with keys := _ }

/-- The cartridge shows the serial number that it was inserted with. -/
theorem Lane.insertedSerial (l : Lane) (serial lo hi cap : Int) :
    (((((l.setp Hp.cartridgeSerial serial).setp D0.serialLo lo).setp D0.serialHi hi).setp D0.capability cap).checkSerial.meterPowerUp).p
      Hp.cartridgeSerial = serial := by
  have hstart : ∀ l : Lane, l.meterPowerUp.p Hp.cartridgeSerial = l.p Hp.cartridgeSerial := fun l =>
    LaneUnit.keepsPoints _ l.meterPowerUp_start (P := fun a => a < 0x60000) (fun a ha => of_decide_eq_true ha) _ (by decide)
  rw [hstart, Lane.checkSerial_serial]
  simp [Lane.p_setp, Hp.cartridgeSerial, D0.serialLo, D0.serialHi, D0.capability]

/-! ### The rows of a cartridge -/

theorem State.laneInserted_shown (fresh small : Bool) (serial : Nat) (habsent : (s.lane i).link.state = .absent) :
    ((s.laneInserted i fresh small serial).lane i).link.state = .reset ∧ ((s.laneInserted i fresh small serial).lane i).link.phase = .boot
    ∧ ((s.laneInserted i fresh small serial).lane i).p Hp.cartridgeSerial = serial := by
  unfold State.laneInserted
  rw [if_neg (by simp [Lane.present, habsent])]
  extract_lets s1
  obtain ⟨hstate, hphase, -⟩ := s1.laneTo_link i .reset .boot
  refine ⟨hstate, hphase, (s1.laneTo_p i _ _ i (by decide)).trans ?_⟩
  simp only [s1]
  exact State.onLane_self (Q := fun l => l.p Hp.cartridgeSerial = serial) rfl fun l => Lane.insertedSerial ..

theorem State.laneRemoved_self (hpresent : (s.lane i).link.state ≠ .absent) :
    ((s.laneRemoved i).lane i).link.state = .absent ∧ ((s.laneRemoved i).lane i).link.want = false
    ∧ ((s.laneRemoved i).lane i).pacer.laps = false := by
  unfold State.laneRemoved
  rw [if_neg (by simp [Lane.present, hpresent])]
  extract_lets s1
  refine ⟨(State.laneTo_link ..).1, ?_, ?_⟩
  · rw [show ∀ l : Lane, l.link.want = (LaneUnit.placement.rest l).link.want from fun _ => rfl, State.laneTo_rest]
    simpa [State.lane_onLane, s1, LaneUnit.placement, Lane.refsOff, Lane.pac] using s.laneCleared_want i false
  · rw [((State.laneTo_sameLaps _ i .absent .none).2 i).2]
    simpa [State.lane_onLane, s1, Lane.refsOff, Lane.pac] using s.laneCleared_laps i false

theorem State.park_link : ((s.park i).lane i).link.state = .reset ∧ ((s.park i).lane i).link.parked = true := by
  unfold State.park
  simp [State.lane_onLane, State.laneReset_link]

theorem State.ejectOpen_of_standby (hstandby : (s.lane i).link.state = .standby) :
    ((s.ejectOpen i).lane i).link.state = .reset ∧ ((s.ejectOpen i).lane i).link.parked = true := by
  unfold State.ejectOpen
  simp [hstandby, State.park_link]

theorem State.ejectOpen_of_holder (hholder : (s.lane i).link.state = .holder) :
    ((s.ejectOpen i).lane i).link.state = .holder ∧ ((s.ejectOpen i).lane i).link.ejectOpen = true := by
  unfold State.ejectOpen
  simp [hholder, State.lane_onLane]

/-! ### Boot and resynchronisation -/

/-- Firing a lane's events in the other lane leaves the arbiter and all of the lanes but their rings. -/
theorem State.alsoFire_kept (old : State) (j : LaneId) : ((s.alsoFire i old).lane j).link = (s.lane j).link
    ∧ ((s.alsoFire i old).lane j).pacer = (s.lane j).pacer ∧ ((s.alsoFire i old).lane j).power = (s.lane j).power
    ∧ (s.alsoFire i old).arbiter = s.arbiter := by
  have hfire := LaneRel.ringsOnly.alsoFire (s := s) i old
  have hlane := (hfire.2 j).eq
  refine ⟨?_, ?_, ?_, hfire.arbiter⟩ <;> rw [hlane]

/-- A lane in reset that has booted beside a holder aligns; with no lane granted the baton it asks for it (R355, R357). -/
theorem State.bootedLane_link (hreset : (s.lane i).link.state = .reset) (hboot : (s.lane i).link.booted = true)
    (hpark : (s.lane i).link.parked = false) (hcart : (s.lane i).link.mismatchCart = false) :
    (s.arbiter.grant = some i.other → ((s.bootedLane i).lane i).link.state = .resync ∧ ((s.bootedLane i).lane i).link.phase = .align)
    ∧ (s.arbiter.grant = none → (s.lane i).pacer.laps = true → (s.lane i).power.power ≠ 5 → (s.lane i).link.want = false →
      ((s.bootedLane i).lane i).link.want = true ∧ ((s.bootedLane i).lane i).link.wantLap = s.lapNow
      ∧ ((s.bootedLane i).lane i).link.booted = (s.lane i).link.booted) := by
  unfold State.bootedLane
  rw [if_neg (by simp [hreset, hboot, hpark, hcart])]
  extract_lets s1 waits s2
  have hlink : (s1.lane i).link = (s.lane i).link := by
    simp only [s1, State.lane_onLane]
    split <;> rfl
  have harbiter : s1.arbiter = s.arbiter := by
    simp [s1]
  rw [harbiter]
  refine ⟨fun hgrant => ?_, fun hgrant hlaps hpower hwant => ?_⟩
  · rw [hgrant]
    dsimp only
    rw [if_neg i.other_ne]
    obtain ⟨hstate, hphase, -⟩ := s1.laneTo_link i .resync .align
    exact ⟨hstate, hphase⟩
  · rw [hgrant]
    simp only [s2, waits, hlaps, hpower, hwant, decide_false, Bool.false_and, Bool.not_false, Bool.and_self, if_true, if_false]
    have hload : (s1.loadBaton i).lapNow = s.lapNow := by
      unfold State.loadBaton State.lapNow
      dsimp only
      split <;> simp [harbiter]
    simp [State.lane_onLane, State.lane_loadBaton, hlink, hload]

theorem State.bootComplete_link (hreset : (s.lane i).link.state = .reset) (hfast : (s.lane i).power.fastOn = true)
    (hpark : (s.lane i).link.parked = false) (hcart : (s.lane i).link.mismatchCart = false) (hshut : (s.lane i).therm.shut = false) :
    (s.arbiter.grant = some i.other →
      ((s.bootComplete i).lane i).link.state = .resync ∧ ((s.bootComplete i).lane i).link.phase = .align)
    ∧ (s.arbiter.grant = none → (s.lane i).pacer.laps = true → (s.lane i).power.power ≠ 5 → (s.lane i).link.want = false →
      ((s.bootComplete i).lane i).link.want = true ∧ ((s.bootComplete i).lane i).link.wantLap = s.lapNow
      ∧ ((s.bootComplete i).lane i).link.booted = true) := by
  unfold State.bootComplete
  rw [if_neg (by simp [hreset, hfast, hpark, hcart, hshut])]
  generalize hs1 : s.onLane i (fun _ => true) (fun _ _ l => (l.lnk (fun x => { x with booted := true, faultReset := false })).linksUp) = s1
  have hlane : s1.lane i = ((s.lane i).lnk (fun x => { x with booted := true, faultReset := false })).linksUp := by
    simp [← hs1, State.lane_onLane]
  have hlink : (s1.lane i).link = { (s.lane i).link with booted := true, faultReset := false } := by
    rw [hlane, Lane.linksUp_link]
    rfl
  have hlaps : (s1.lane i).pacer.laps = (s.lane i).pacer.laps := by
    rw [hlane, Lane.linksUp_laps]
    rfl
  have hpower : (s1.lane i).power = (s.lane i).power := by
    rw [hlane]
    exact (congrArg Lane.power (LaneUnit.rest_eq _ (Lane.linksUp_placement _)) :)
  have harbiter : s1.arbiter = s.arbiter := by simp [← hs1]
  obtain ⟨hlink', hpacer', hpower', harbiter'⟩ := s1.alsoFire_kept i s i
  obtain ⟨hbeside, halone⟩ := (s1.alsoFire i s).bootedLane_link i (by simp [hlink, hreset]) (by simp [hlink])
    (by simp [hlink, hpark]) (by simp [hlink, hcart])
  rw [harbiter', harbiter] at hbeside halone
  refine ⟨hbeside, fun hgrant hrun hmode hwant => ?_⟩
  obtain ⟨hwants, hlap, hbooted⟩ := halone hgrant (by rw [hpacer', hlaps, hrun]) (by rwa [hpower', hpower]) (by simp [hlink, hwant])
  exact ⟨hwants, hlap.trans (by simp [State.lapNow, harbiter]), hbooted.trans (by rw [hlink', hlink])⟩

theorem State.alignComplete_link (hgrant : s.arbiter.grant = some i.other) (hphase : (s.lane i).link.phase = .align)
    (hlaps : (s.lane i).pacer.laps = true) (hready : (s.lane i).hubsReady = true) :
    ((s.alignComplete i).lane i).link.state = .resync ∧ ((s.alignComplete i).lane i).link.phase = .copy := by
  unfold State.alignComplete
  rw [if_pos ⟨hphase, hlaps, hgrant, hready⟩]
  generalize hs1 : s.onLane i (fun _ => true) (fun s i l => l.joinLaps (s.lane i.other)) = s1
  obtain ⟨hstate, hcopy, -⟩ := s1.laneTo_link i .resync .copy
  have hfollow : ∀ l h : Lane, (l.followPacer h).link = l.link := fun l h => by
    unfold Lane.followPacer
    split
    · rfl
    · exact l.pacerTo_link h.pcState
  have hlink : ((s1.laneTo i .resync .copy).pacerFollow.lane i).link = ((s1.laneTo i .resync .copy).lane i).link := by
    rw [State.lane_pacerFollow]
    split
    · exact hfollow _ _
    · rfl
  simp [State.lane_onLane, hlink, hstate, hcopy]

theorem Lane.copyFrom_cfg (l h : Lane) : (l.copyFrom h).cfg = h.cfg := by
  simp [Lane.copyFrom]

theorem State.copyComplete_self (hgrant : s.arbiter.grant = some i.other) (hphase : (s.lane i).link.phase = .copy) :
    ((s.copyComplete i).lane i).link.phase = .catchup ∧ ((s.copyComplete i).lane i).cfg = (s.lane i.other).cfg := by
  unfold State.copyComplete
  rw [if_pos ⟨hphase, hgrant⟩]
  generalize hs1 : s.onLane i (fun _ => true) (fun s _ l => l.copyFrom (s.lane i.other)) = s1
  have hcfg : (s1.lane i).cfg = (s.lane i.other).cfg := by
    simp [← hs1, State.lane_onLane, Lane.copyFrom_cfg]
  have hrest : ((s1.laneTo i .resync .catchup).lane i).cfg = (s1.lane i).cfg :=
    (congrArg Lane.cfg (s1.laneTo_rest i .resync .catchup i) :)
  simp [State.lane_onLane, (s1.laneTo_link i .resync .catchup).2.1, hrest, hcfg]

theorem State.catchupComplete_link (hgrant : s.arbiter.grant = some i.other) (hphase : (s.lane i).link.phase = .catchup)
    (hequal : imagesEqual (s.lane i).imgs (s.lane i.other).imgs = true) :
    ((s.catchupComplete i).lane i).link.phase = .shadow ∧ ((s.catchupComplete i).lane i).link.shadowClean = 0 := by
  unfold State.catchupComplete
  rw [if_pos ⟨hphase, hgrant, hequal⟩]
  generalize hs1 : s.onLane i (fun _ => true) (fun _ _ l => l.lnk (fun x => { x with shadowClean := 0 })) = s1
  refine ⟨(s1.laneTo_link i .resync .shadow).2.1, ?_⟩
  refine Eq.trans (congrArg (fun l : Lane => l.link.shadowClean) (s1.laneTo_rest i .resync .shadow i) :) ?_
  simp [← hs1, State.lane_onLane, LaneUnit.placement]

theorem State.shadowComplete_link (hphase : (s.lane i).link.phase = .shadow) (hclean : 1000 ≤ (s.lane i).link.shadowClean) :
    ((s.shadowComplete i).lane i).link.state = .standby ∧ ((s.shadowComplete i).lane i).link.phase = .none := by
  unfold State.shadowComplete
  rw [if_pos ⟨hphase, hclean⟩]
  generalize s.onLane i (fun _ => true) _ = s1
  obtain ⟨hstate, hnone, -⟩ := s1.laneTo_link i .standby .none
  rw [State.lane_onLane, if_pos ⟨rfl, rfl⟩]
  split
  · exact ⟨hstate, hnone⟩
  · exact ⟨hstate, hnone⟩

theorem State.phaseTimeout_of_copy (hphase : (s.lane i).link.phase = .copy) (hlate : (s.lane i).link.phaseLap + 60 * 200000 ≤ (s.lane i).lap) :
    ((s.phaseTimeout i).lane i).link.phase = .align
    ∧ ((s.phaseTimeout i).lane i).p Hp.resyncRestarts = (s.lane i).p Hp.resyncRestarts + 1 := by
  unfold State.phaseTimeout
  simp only [hphase, phaseLimit]
  rw [if_neg (by omega)]
  generalize hs1 : s.onLane i (fun _ => true)
    (fun _ _ l => (l.lnk (fun x => { x with shadowClean := 0 })).inc Hp.resyncRestarts) = s1
  have hfire := LaneRel.ringsOnly.fireBoth (s := s1.laneTo i .resync .align) 83 i.num [2]
  refine ⟨by rw [hfire.link i, (s1.laneTo_link i .resync .align).2.1], ?_⟩
  rw [(hfire.2 i).p, s1.laneTo_p i .resync .align i (by decide), ← hs1]
  simp [State.lane_onLane]

end States

/-- Settles O25, row by row. -/
theorem laneLife : Obligations.LaneLife := by
  unfold Obligations.LaneLife
  intro s i
  refine ⟨fun fresh mismatch serial habsent => does_of_next rfl ?_,
    fun hreset hfast hpark hcart hshut => ?_,
    fun hgrant => ⟨fun hphase hlaps _ hready => does_of_next rfl (s.alignComplete_link i hgrant hphase hlaps hready),
      fun hphase => does_of_next rfl (s.copyComplete_self i hgrant hphase),
      fun hphase hequal => does_of_next rfl (s.catchupComplete_link i hgrant hphase hequal)⟩,
    fun hphase hclean => does_of_next rfl (s.shadowComplete_link i hphase hclean),
    fun hphase _ hlate => does_of_next rfl (s.phaseTimeout_of_copy i hphase hlate),
    fun hpresent => does_of_next rfl ?_, fun hstandby => does_of_next rfl ?_, fun hholder => does_of_next rfl ?_⟩
  · rw [State.lane_drive_link, State.lane_drive_p_other _ _ (by decide)]
    exact s.laneInserted_shown i fresh mismatch serial habsent
  · obtain ⟨hbeside, halone⟩ := s.bootComplete_link i hreset hfast hpark hcart hshut
    exact ⟨fun hgrant => does_of_next rfl (hbeside hgrant),
      fun hgrant hlaps hmode hwant => does_of_next rfl (halone hgrant hlaps hmode hwant)⟩
  · rw [State.lane_drive_link, ((State.drive_sameLaps _).2 i).2]
    exact s.laneRemoved_self i hpresent
  · rw [State.lane_drive_link]
    exact s.ejectOpen_of_standby i hstandby
  · rw [State.lane_drive_link]
    exact s.ejectOpen_of_holder i hholder

end Sys2Proof.Machine
end

section
/-!
19_power_states_and_reset.md: the supply of a lane.
-/

namespace Sys2Proof.Machine

open Sys2Proof

/-! ### What metering leaves of the legal clock (R290 to R301) -/

/-- The legal clock and the mark of a loss of supply (R296, R302). -/
def Lane.clock (l : Lane) : Nat × Option Nat := (l.met.legal, l.met.lossTicks)

section Clock

variable (l : Lane)

theorem Lane.clock_of_met {l m : Lane} (h : m.met = l.met) : m.clock = l.clock := by
  simp [Lane.clock, h]

theorem Lane.metBang_clock {f : MetSt → MetSt} (hf : ∀ m, (f m).legal = m.legal ∧ (f m).lossTicks = m.lossTicks) :
    (l.met! f).clock = l.clock := Prod.ext (hf l.met).1 (hf l.met).2

theorem Lane.setp_clock (a : Nat) (v : Int) : (l.setp a v).clock = l.clock := rfl

theorem Lane.inc_clock (a : Nat) : (l.inc a).clock = l.clock := rfl

theorem Lane.setOpenI_clock (m : Nat) (x : OpenInterval) : (l.setOpenI m x).clock = l.clock := rfl

theorem Lane.fire_clock (n u : Nat) (d : List Int) : (l.fire n u d).clock = l.clock := Lane.clock_of_met (by simp)

theorem Lane.logEntry_clock (kind : Nat) (detail : List Int) : (l.logEntry kind detail).clock = l.clock := rfl

theorem Lane.setTamper_clock (cause point : Nat) (x : TamperSt) : (l.setTamper cause point x).clock = l.clock := rfl

theorem Lane.flagAll_clock (bit : Nat) : (l.flagAll bit).clock = l.clock :=
  Lane.forL_kept Lane.clock _ (fun m l => l.setOpenI_clock m _) l

theorem Lane.cutCycles_clock (f : Nat → CycleCut → CycleCut) : (l.cutCycles f).clock = l.clock := by
  unfold Lane.cutCycles
  refine Lane.forN_kept Lane.clock 8 (fun m l => ?_) l
  dsimp only
  repeat' split
  all_goals rfl

theorem Lane.closePoint_clock (endMs : Int) (fl : Nat) (start : Int) (len : Option Int) (m : Nat) :
    (l.closePoint endMs fl start len m).clock = l.clock := by
  have hmet := (l.demands_kept m (l.openI m) endMs (a := 0) (fun t _ => by
    unfold maxDemAddr maxTimeAddr RegA.maxDemW RegD.maxDemW RegA.maxDemTime RegD.maxDemTime
    split_ifs <;> omega) (by unfold demLastAddr RegA.demLastW RegD.demLastW; split_ifs <;> omega)).1
  unfold Lane.closePoint
  dsimp only
  exact Lane.clock_of_met (m := l.demands m (l.openI m) endMs) hmet

theorem Lane.closePoints_clock (endMs : Int) (fl : Nat) (start : Int) (len : Option Int) :
    (l.closePoints endMs fl start len).clock = l.clock := by
  unfold Lane.closePoints
  dsimp only
  rw [Lane.cutCycles_clock]
  refine (Lane.forL_kept Lane.clock _ (f := Lane.idlePoint fl start len) (fun m l => l.setOpenI_clock m _) _).trans ?_
  exact Lane.forL_kept Lane.clock _ (fun m l => l.closePoint_clock endMs fl start len m) l

theorem Lane.applyBoundary_clock (wr : Bool) (fl : Nat) : (l.applyBoundary wr fl).clock = l.clock := by
  unfold Lane.applyBoundary
  extract_lets b nb short endMs split l1
  have hsplit : split.clock = l.clock := by
    unfold split
    split_ifs
    · exact l.flagAll_clock 1
    · rfl
  have h1 : l1.clock = l.clock := by
    unfold l1
    split_ifs
    · rw [Lane.fire_clock, Lane.metBang_clock, Lane.closePoints_clock, hsplit]
      exact fun _ => ⟨rfl, rfl⟩
    · rfl
  rw [Lane.setp_clock, Lane.metBang_clock, h1]
  exact fun _ => ⟨rfl, rfl⟩

theorem Lane.applyBilling_clock (b : Int) : (l.applyBilling b).clock = l.clock := by
  unfold Lane.applyBilling
  extract_lets r l1
  rw [Lane.fire_clock, Lane.setp_clock, Lane.clock_of_met l1.clearDemand_met]
  unfold l1
  rw [Lane.metBang_clock, Lane.cutCycles_clock]
  exact fun _ => ⟨rfl, rfl⟩

theorem Lane.evalTariff_clock (t : Int) : (l.evalTariff t).clock = l.clock := by
  unfold Lane.evalTariff
  extract_lets old day eve new known l0 l1
  have h0 : l0.clock = l.clock := l.metBang_clock fun _ => ⟨rfl, rfl⟩
  have h1 : l1.clock = l.clock := by
    unfold l1
    rw [Lane.setp_clock, Lane.cutCycles_clock, h0]
  split_ifs
  · exact h0
  · rw [Lane.fire_clock]
    refine (Lane.forN_kept Lane.clock 40 (fun m l => ?_) l1).trans h1
    split_ifs <;> rfl

/-- Everything that falls due leaves the clock by which it does (R301). -/
theorem Lane.applyDue_clock (upTo : Int) (fl n recs : Nat) : (l.applyDue upTo fl n recs).clock = l.clock := by
  induction n generalizing recs l with
  | zero => rfl
  | succ n ih =>
    unfold Lane.applyDue
    dsimp only
    split_ifs
    · rfl
    · exact (ih _ _).trans (l.applyBoundary_clock _ _)
    · exact (ih _ _).trans (l.applyBilling_clock _)
    · exact (ih _ _).trans (l.evalTariff_clock _)

end Clock

/-! ### What a lane's reset leaves (R356, R473) -/

/-- The supply, metrology and thermal records of a lane. -/
def Lane.domains (l : Lane) : MetSt × PowerSt × ThermSt := (l.met, l.power, l.therm)

theorem LaneRel.domains : LaneRel (fun _ l m => m.domains = l.domains ∧ m.link = l.link) :=
  ⟨fun h => by rw [h.eq]; exact ⟨rfl, rfl⟩, fun h h' => ⟨h'.1.trans h.1, h'.2.trans h.2⟩⟩

section Domains

variable (l : Lane)

theorem Lane.fire_domains (n u : Nat) (d : List Int) : (l.fire n u d).domains = l.domains := by
  simp [Lane.domains]

theorem Lane.tuneAbort_domains (cause : Int) : (l.tuneAbort cause).domains = l.domains ∧ (l.tuneAbort cause).link = l.link := by
  have h := LaneUnit.rest_eq _ (Lane.tuneAbort_inside_tuning cause l)
  exact ⟨(congrArg Lane.domains h :), (congrArg Lane.link h :)⟩

theorem Lane.linksDown_domains : l.linksDown.domains = l.domains := by
  unfold Lane.linksDown
  extract_lets l1 known
  have h1 : l1.domains = l.domains := by
    simp only [l1]
    exact Lane.forN_kept Lane.domains 32 (fun h l => by split_ifs <;> rfl) l
  clear_value known l1
  exact h1

theorem Lane.pacerTo_domains (st : Int) : (l.pacerTo st).domains = l.domains := by
  unfold Lane.pacerTo
  split
  · rfl
  · exact Lane.fire_domains _ _ _ _

theorem Lane.setp_domains (a : Nat) (v : Int) : (l.setp a v).domains = l.domains := rfl

theorem Lane.showAcq_domains : l.showAcq.domains = l.domains := rfl

end Domains

section Reset

variable (s : State) (i : LaneId) (fault : Bool)

theorem State.laneCleared_domains : ((s.laneCleared i fault).lane i).domains
    = ((s.lane i).met, { (s.lane i).power with sleep := none }, (s.lane i).therm) := by
  unfold State.laneCleared
  extract_lets s0 s1
  have h0 : (s0.lane i).domains = (s.lane i).domains := by
    simp only [s0, State.lane_eachLane]
    split
    · exact ((s.lane i).tuneAbort_domains 5).1
    · rfl
  have h1 : (s1.lane i).domains = ((s0.lane i).met, { (s0.lane i).power with sleep := none }, (s0.lane i).therm) := by
    simp only [s1]
    rw [State.lane_onLane, if_pos ⟨rfl, rfl⟩, Lane.showAcq_domains, Lane.setp_domains, Lane.setp_domains, Lane.setp_domains,
      Lane.linksDown_domains, Lane.pacerTo_domains]
    rfl
  simp only [Lane.domains, Prod.mk.injEq] at h0
  obtain ⟨hmet, hpower, htherm⟩ := h0
  rw [hmet, hpower, htherm] at h1
  clear_value s1
  split
  · exact h1
  · simpa [State.lane_onLane] using h1

/-- Of the other lane a reset ends the measurement (R443), and no more than that reaches its records. -/
theorem State.laneCleared_other : ((s.laneCleared i fault).lane i.other).domains = (s.lane i.other).domains
    ∧ ((s.laneCleared i fault).lane i.other).link = (s.lane i.other).link := by
  unfold State.laneCleared
  extract_lets s0 s1
  have h0 : (s0.lane i.other).domains = (s.lane i.other).domains ∧ (s0.lane i.other).link = (s.lane i.other).link := by
    simp only [s0, State.lane_eachLane]
    split
    · exact (s.lane i.other).tuneAbort_domains 5
    · exact ⟨rfl, rfl⟩
  have h1 : s1.lane i.other = s0.lane i.other := by
    simp only [s1]
    rw [State.lane_onLane, if_neg (by simp)]
  clear_value s1
  rw [← h1] at h0
  split
  · exact h0
  · rw [State.lane_onLane]
    split
    · exact ⟨(Lane.fire_domains _ _ _ _).trans h0.1, by simpa using h0.2⟩
    · exact h0

theorem State.laneReset_lossTicks : ((s.laneReset i fault).lane i).met.lossTicks = (s.lane i).met.lossTicks := by
  refine Eq.trans (congrArg (fun l : Lane => l.met.lossTicks) ((s.laneCleared i fault).laneTo_rest i .reset .boot i) :) ?_
  exact (congrArg (fun d : MetSt × PowerSt × ThermSt => d.1.lossTicks) (s.laneCleared_domains i fault) :)

theorem State.laneReset_want : ((s.laneReset i fault).lane i).link.want = false := by
  refine Eq.trans (congrArg (fun l : Lane => l.link.want) ((s.laneCleared i fault).laneTo_rest i .reset .boot i) :) ?_
  exact s.laneCleared_want i fault

theorem State.laneReset_other : ((s.laneReset i fault).lane i.other).domains = (s.lane i.other).domains
    ∧ ((s.laneReset i fault).lane i.other).link = (s.lane i.other).link := by
  have hrings := ((s.laneCleared i fault).laneTo_beside i .reset .boot).2 i.other i.other_ne
  obtain ⟨hdomains, hlink⟩ := s.laneCleared_other i fault
  obtain ⟨hdomains', hlink'⟩ := LaneRel.domains.rings (i := i) hrings
  exact ⟨hdomains'.trans hdomains, hlink'.trans hlink⟩

end Reset

/-! ### The loss of supply (R302) -/

theorem Lane.meterLoss_ticks {l : Lane} (hrun : l.met.lossTicks = none) : l.meterLoss.met.lossTicks = some l.met.legal := by
  unfold Lane.meterLoss
  rw [if_neg (by simp [hrun])]
  extract_lets due l1 c l2
  have hlegal : l1.met.legal = l.met.legal :=
    congrArg Prod.fst ((Lane.logEntry_clock _ 7 []).trans (l.applyDue_clock ..))
  have h2 : l2.met.lossTicks = some l.met.legal := by
    simp only [l2, Lane.met_metBang, hlegal]
  exact (congrArg Prod.snd (l2.fire_clock ..)).trans h2

/-- A lane that loses its supply gives up or powers down, and its mark of the loss stands (R360, R457). -/
theorem State.diagnose_supply_lossTicks (s : State) (i : LaneId) :
    ((s.diagnose i 3).lane i).met.lossTicks = (s.lane i).met.lossTicks := by
  have hoff : ((s.fastOff i false).lane i).met.lossTicks = (s.lane i).met.lossTicks := by
    unfold State.fastOff
    rw [State.lane_onLane, if_pos ⟨rfl, rfl⟩]
    exact s.laneReset_lossTicks i false
  unfold State.diagnose
  simp only [Nat.reduceEqDiff, or_false, or_self, if_true, if_false]
  split_ifs
  · rfl
  · simp [State.lane_onLane]
  · exact hoff

theorem State.supplyLoss_ticks {s : State} {i : LaneId} (hon : (s.lane i).alwaysOn = true) (hrun : (s.lane i).met.lossTicks = none) :
    ((s.supplyLoss i).lane i).met.lossTicks = some (s.lane i).met.legal := by
  unfold State.supplyLoss
  rw [if_neg (by simp [hon])]
  extract_lets meters s0 s1
  have h0 : s0.lane i = s.lane i := by
    simp [s0, State.lane_onLane]
  have h1 : (s1.lane i).met.lossTicks = some (s.lane i).met.legal := by
    simp only [s1, State.lane_onLane, h0]
    exact Lane.meterLoss_ticks hrun
  clear_value s1
  split
  · rw [State.lane_onLane, if_pos ⟨rfl, rfl⟩]
    exact h1
  · rw [s1.diagnose_supply_lossTicks i, h1]

/-- The other lane's events and the outputs come after it. -/
theorem State.supplyMirror_met (s : State) (i : LaneId) (old : State) : ((s.supplyMirror i old).lane i).met = (s.lane i).met := by
  unfold State.supplyMirror
  extract_lets l o
  have hmirror : ∀ (s : State) (b : Bool) (n : Nat) (d : List Int), (s.mirror i b n d).lane i = s.lane i := fun s b n d => by
    unfold State.mirror State.one
    split <;> simp [State.lane_onLane]
  refine Eq.trans (congrArg Lane.met (LaneUnit.rest_eq _ (State.lane_drive_outputs _ i)) :) ?_
  rw [hmirror, hmirror]
  rfl

/-! ### The return of supply (R303) -/

section Replay

variable (l : Lane)

theorem Lane.sealChange_clock (opened : Bool) : (l.sealChange opened).clock = l.clock := by
  unfold Lane.sealChange
  extract_lets v l1 l2 l3
  have h2 : l2.clock = l.clock := rfl
  have h3 : l3.clock = l.clock := by
    unfold l3
    split
    · exact (l2.flagAll_clock 32).trans h2
    · exact h2
  split
  · rfl
  · rw [Lane.fire_clock, h3]

theorem Lane.tamperRecord_clock (cause point clearMs : Nat) (values : List Int) :
    (l.tamperRecord cause point clearMs values).clock = l.clock := by
  have hwrite : (l.writeTamper cause point values).clock = l.clock := by
    unfold Lane.writeTamper
    extract_lets n x l1 l2
    have h2 : l2.clock = l.clock := by
      simp only [l2, l1]
      rw [Lane.inc_clock, Lane.metBang_clock, Lane.setp_clock, Lane.logEntry_clock, Lane.setTamper_clock]
      exact fun _ => ⟨rfl, rfl⟩
    rw [Lane.fire_clock, Lane.fire_clock, Lane.flagAll_clock, Lane.showBlock, Lane.setp_clock, h2]
  unfold Lane.tamperRecord
  split
  · rfl
  · split
    · split_ifs
      · rfl
      · rfl
      · exact hwrite
    · exact hwrite

theorem Lane.setLegal_clock (t : Nat) : (l.met! (fun x => { x with legal := t })).clock = (t, l.clock.2) := rfl

theorem Lane.replay_clock (t0 : Nat) (x : Latch) : (l.replay t0 l.met.legal x).clock = l.clock := by
  unfold Lane.replay
  extract_lets at_
  match x with
  | Latch.seal opened => exact l.sealChange_clock opened
  | Latch.tamper cause point clearMs downMs values =>
    simp only [at_]
    rw [Lane.setLegal_clock, Lane.tamperRecord_clock, Lane.setLegal_clock]
    rfl

theorem Lane.replayAll_clock (t0 : Nat) : (l.replayAll t0).clock = l.clock := by
  unfold Lane.replayAll
  extract_lets xs
  refine (Lane.forL_kept Lane.clock _ (f := fun x l => l.replay t0 l.met.legal x) (fun x l => l.replay_clock t0 x) _).trans ?_
  exact l.metBang_clock fun _ => ⟨rfl, rfl⟩

/-- Supply that comes back within the hold-up sets the clock on by the time lost (R302). -/
theorem Lane.powerBack_clock {t0 : Nat} (hloss : l.met.lossTicks = some t0) (ms : Nat) (clockOk ok0 ok1 : Bool) :
    (l.powerBack ms clockOk ok0 ok1 true).clock = (t0 + ms * 8, none) := by
  unfold Lane.powerBack Lane.meterRestore
  simp only [hloss, Option.isNone_some, Bool.false_eq_true, if_false, if_true]
  generalize hback : (l.met! fun x => { x with lossTicks := none, legal := t0 + ms * 8 }) = l0
  have h0 : l0.clock = (t0 + ms * 8, none) := by rw [← hback]; rfl
  have hgap : ((l0.replayAll t0).forL l.metPoints
      (fun m l => l.addp (if m < 8 then RegA.gapMs m else RegD.gapMs (m - 8)) ms)).clock = l0.clock :=
    (Lane.forL_kept Lane.clock l.metPoints (f := fun m l => l.addp (if m < 8 then RegA.gapMs m else RegD.gapMs (m - 8)) ms)
      (fun m l => l.setp_clock _ _) _).trans (l0.replayAll_clock t0)
  split_ifs
  · exact hgap.trans h0
  · exact ((Lane.flagAll_clock _ 8).trans hgap).trans h0

end Replay

/-! ### Good supply, and a backup store that is exhausted -/

section Start

variable (l : Lane)

theorem Lane.coolRestore_power (nowMs : Nat) (valid : Bool) (outlets : Nat) : (l.coolRestore nowMs valid outlets).power = l.power := by
  have hclear : ∀ (l : Lane) o, (l.clearForecast o).power = l.power := fun l o =>
    Lane.forN_kept Lane.power 4 (fun k l => rfl) _
  unfold Lane.coolRestore
  refine Lane.forN_kept Lane.power outlets (fun o l => ?_) l
  dsimp only
  rw [hclear]
  split <;> rfl

theorem Lane.mastStarts_power (v : Variant) : (l.mastStarts v).power = l.power := by
  unfold Lane.mastStarts
  split <;> rfl

/-- A cold start leaves its mark on the power record, and the rest of that record (R470). -/
theorem Lane.coldStart_power (v : Variant) : (l.coldStart v).power = { l.power with
    fastOn := true, power := pwStart, sleep := none, keeper := false, coldStartMs := l.legalMs, timing := true
    latched := none, restart := none } := by
  have hkeys : ∀ l : Lane, l.keyPoints.power = l.power := fun _ => rfl
  have hacq : ∀ l : Lane, l.showAcq.power = l.power := fun _ => rfl
  unfold Lane.coldStart
  dsimp only
  rw [hacq, Lane.mastStarts_power, hkeys]
  simp only [Lane.setp_frame, Lane.coolRestore_power]
  rfl

end Start

/-- Drawing the start of a lane's telegrams reaches no more than the safety record. -/
theorem State.drawSeq_kept (s : State) (i j : LaneId) :
    (s.drawSeq i).lane j = { s.lane j with safe := ((s.drawSeq i).lane j).safe } := by
  unfold State.drawSeq
  have hlane : ({ s with free := s.free + 1 } : State).lane j = s.lane j := by cases j <;> rfl
  rw [State.lane_onLane]
  split
  · next h => rw [← h.1, hlane]; rfl
  · rw [hlane]

theorem State.supplyGood_power {s : State} {i : LaneId} (hp : (s.lane i).present = true) (hoff : (s.lane i).power.fastOn = false)
    (hshut : (s.lane i).therm.shut = false) (hmode : (s.lane i).power.power ≠ pwAsleep) :
    ((s.supplyGood i).lane i).power.fastOn = true ∧ ((s.supplyGood i).lane i).power.aoOn = true
    ∧ ((s.supplyGood i).lane i).power.power = pwStart := by
  unfold State.supplyGood
  simp only [hp, hoff, hshut, hmode, Bool.not_true, Bool.or_self, decide_false, Bool.false_and, Bool.false_eq_true, if_false]
  rw [State.drawSeq_kept]
  simp [State.lane_onLane, Lane.coldStart_power]

/-- Settles O32, row by row. -/
theorem supplyRows : Obligations.SupplyRows := by
  unfold Obligations.SupplyRows
  intro s i
  refine ⟨fun hon hrun => does_of_next rfl ?_, fun t0 ms clockOk ok0 ok1 hon hloss => does_of_next rfl ?_,
    fun hp hoff hshut hmode => does_of_next rfl (State.supplyGood_power hp hoff hshut hmode),
    fun t0 hp hloss => does_of_next rfl ?_⟩
  · rw [State.supplyMirror_met]
    exact State.supplyLoss_ticks hon hrun
  · have hp : (s.lane i).present = true := by
      simp only [Lane.alwaysOn, Bool.and_eq_true] at hon
      exact hon.2
    have hclock := (s.lane i).powerBack_clock hloss ms clockOk ok0 ok1
    rw [State.supplyMirror_met, State.lane_onLane, if_pos ⟨rfl, hp⟩]
    exact ⟨congrArg Prod.snd hclock, congrArg Prod.fst hclock⟩
  · rw [State.lane_onLane, if_pos ⟨rfl, hp⟩, Lane.backupGone, if_neg (by simp [hloss])]
    exact ⟨rfl, rfl, by simp⟩

end Sys2Proof.Machine
end

section
/-!
19_power_states_and_reset.md: going to sleep, and a module restart.
-/

namespace Sys2Proof.Machine

open Sys2Proof

/-! ### What showing the outputs leaves -/

theorem State.lane_drive_power (s : State) (i : LaneId) : (s.drive.lane i).power = (s.lane i).power :=
  (congrArg Lane.power (LaneUnit.rest_eq _ (s.lane_drive_outputs i)) :)

theorem State.lane_drive_pacer (s : State) (i : LaneId) : (s.drive.lane i).pacer = (s.lane i).pacer :=
  (congrArg Lane.pacer (LaneUnit.rest_eq _ (s.lane_drive_outputs i)) :)

theorem State.lane_lines_power (s : State) (i : LaneId) : (s.lines.lane i).power = (s.lane i).power :=
  (congrArg Lane.power (LaneUnit.rest_eq _ (s.lane_lines_acquisition i)) :)

section Records

variable (l : Lane)

theorem Lane.showBypass_records (net : Nat) (closed : Bool) :
    (l.showBypass net closed).power = l.power ∧ (l.showBypass net closed).link = l.link := by
  unfold Lane.showBypass
  dsimp only
  split <;> simp

theorem Lane.present_of_active {l : Lane} (h : l.active = true) : l.present = true := by
  unfold Lane.active at h
  unfold Lane.present
  cases hs : l.link.state <;> simp_all

theorem Lane.coolSave_power (ms n : Nat) : (l.coolSave ms n).power = l.power := by
  unfold Lane.coolSave
  refine Lane.forN_kept Lane.power n (fun o l => ?_) l
  split <;> rfl

end Records

section Sleep

variable {s : State} {i : LaneId} {p : SleepPrep}

/-! ### The preconditions (R462) -/

theorem State.sleepPrecheck_ok (hh : s.holder = some i) (hp : (s.lane i).power.sleep = some p) (hnew : p.checked = false)
    (hepoch : (s.lane i).epoch + 1 = p.epoch) (hlap : (s.lane i).lapIn = 160) (hok : s.sleepCause (s.lane i) = 0) :
    (s.sleepPrecheck.lane i).power.sleep = some { p with checked := true } := by
  have hpresent := Lane.present_of_active (State.active_of_holder hh)
  unfold State.sleepPrecheck
  simp only [hh, hp, hnew, hepoch, hlap, hok]
  simp [State.powBoth, State.lane_eachLane, hpresent, hp]

theorem State.sleepPrecheck_refused (hh : s.holder = some i) (hp : (s.lane i).power.sleep = some p) (hnew : p.checked = false)
    (hepoch : (s.lane i).epoch + 1 = p.epoch) (hlap : (s.lane i).lapIn = 160) (hcause : s.sleepCause (s.lane i) ≠ 0) :
    (s.sleepPrecheck.lane i).power.sleep = none
    ∧ (s.sleepPrecheck.lane i).p Pw.sleepRefusals = (s.lane i).p Pw.sleepRefusals + 1 := by
  have hactive := State.active_of_holder hh
  have hanswer : ∀ (s : State) (r : Request) (rep : Reply), ((s.answerBoth r rep).lane i).power = (s.lane i).power
      ∧ ((s.answerBoth r rep).lane i).p = (s.lane i).p := fun s r rep => by
    have h := (LaneRel.ringsOnly.answerBoth s r rep).2 i
    rw [h.eq]
    exact ⟨rfl, rfl⟩
  unfold State.sleepPrecheck
  simp only [hh, hp, hnew, hepoch, hlap, hcause, if_false]
  rw [if_neg (by simp)]
  split
  · rw [(hanswer ..).1, (hanswer ..).2]
    simp [State.lane_eachLane, hactive]
  · simp [State.lane_eachLane, hactive]

/-! ### The point of the entry (R463) -/

theorem State.sleepPoint_committed (hh : s.holder = some i) (hp : (s.lane i).power.sleep = some p) (hchecked : p.checked = true)
    (hnew : p.committed = false) (hepoch : (s.lane i).epoch = p.epoch) (hlap : (s.lane i).lapIn = 4) :
    (s.sleepPoint.lane i).power.sleep = some { p with committed := true } ∧ s.sleepPoint.chassis.bypass1 = true
    ∧ s.sleepPoint.chassis.bypass2 = true := by
  have hactive := State.active_of_holder hh
  have hanswer : ∀ (s : State) (r : Request) (rep : Reply), ((s.answerBoth r rep).lane i).power = (s.lane i).power
      ∧ (s.answerBoth r rep).chassis = s.chassis := fun s r rep => by
    have h := LaneRel.ringsOnly.answerBoth s r rep
    rw [(h.2 i).eq]
    exact ⟨rfl, h.1 ▸ rfl⟩
  unfold State.sleepPoint
  simp -zeta only [hh, hp]
  rw [if_neg (by simp [hchecked, hnew, hepoch, hlap])]
  extract_lets n s1 c s2
  have hlane : s2.lane i = s1.lane i := by cases i <;> rfl
  have h2 : (s2.lane i).power.sleep = some { p with committed := true } := by
    rw [hlane]
    simp only [s1, State.lane_eachLane, hactive, if_true]
    rw [(Lane.showBypass_records ..).1, (Lane.showBypass_records ..).1, Lane.coolSave_power]
    simp [Lane.discardStaged, Lane.saveCounters, hp]
  clear_value s1
  split
  · rw [(hanswer ..).1, (hanswer ..).2]
    exact ⟨h2, rfl, rfl⟩
  · exact ⟨h2, rfl, rfl⟩

theorem State.sleepWantDrop_self (ha : (s.lane i).active = true) (hp : (s.lane i).power.sleep = some p) (hcommitted : p.committed = true)
    (hepoch : (s.lane i).epoch = p.epoch) (hlap : (s.lane i).lapIn = 190) :
    (s.sleepWantDrop.lane i).link.want = false ∧ (s.sleepWantDrop.lane i).power.keeper = decide (s.arbiter.grant = some i) := by
  unfold State.sleepWantDrop
  rw [State.lane_eachLane, if_pos ha]
  simp [hp, hcommitted, hepoch, hlap]

/-! ### The end of the entry -/

theorem Lane.fallAsleep_power (l : Lane) : l.fallAsleep.power.power = pwAsleep ∧ l.fallAsleep.power.fastOn = false
    ∧ l.fallAsleep.pacer.laps = false := by
  unfold Lane.fallAsleep
  extract_lets l1 l2 l3 slots f k l4
  have h4 : l4.power.power = pwAsleep ∧ l4.power.fastOn = false := ⟨rfl, rfl⟩
  clear_value l4
  have hpower := congrArg (fun d : MetSt × PowerSt × ThermSt => d.2.1) (Lane.linksDown_domains
    ((l4.refsOff.pac (fun x => { x with laps := false, locked := false, aoEpoch := l.epoch })).pacerTo pcSearch))
  have hpower' := congrArg (fun d : MetSt × PowerSt × ThermSt => d.2.1) (Lane.pacerTo_domains
    (l4.refsOff.pac (fun x => { x with laps := false, locked := false, aoEpoch := l.epoch })) pcSearch)
  have hall := hpower.trans hpower'
  simp only [Lane.domains] at hall
  rw [hall, Lane.linksDown_laps, Lane.pacerTo_laps]
  exact ⟨h4.1, h4.2, rfl⟩

/-- A lane put into state 1 where it is present, at the end of the entry (R356). -/
theorem State.laneTo_asleep (s : State) (j k : LaneId) (b : Bool) :
    ((if b then s.laneTo j .reset .none else s).lane k).power = (s.lane k).power
    ∧ ((if b then s.laneTo j .reset .none else s).lane k).pacer = (s.lane k).pacer := by
  split
  · exact ⟨(congrArg Lane.power (s.laneTo_rest j .reset .none k) :), (congrArg Lane.pacer (s.laneTo_rest j .reset .none k) :)⟩
  · exact ⟨rfl, rfl⟩

theorem State.asleepEntry_asleep (sealIt : Lane → Lane) (ha : (s.lane i).active = true) (hp : (s.lane i).power.sleep = some p)
    (hcommitted : p.committed = true) (hepoch : (s.lane i).epoch = p.epoch) (hlap : (s.lane i).lapIn = 199)
    (hwakeA : s.a.power.latched = none) (hwakeB : s.b.power.latched = none) :
    ((s.asleepEntry sealIt).lane i).power.power = pwAsleep ∧ ((s.asleepEntry sealIt).lane i).power.fastOn = false
    ∧ ((s.asleepEntry sealIt).lane i).pacer.laps = false := by
  unfold State.asleepEntry
  extract_lets due note s1 go s2
  have hdue : (!(due s.a && s.a.active) && !(due s.b && s.b.active)) = false := by
    have hself : due (s.lane i) = true := by simp [due, hp, hcommitted, hepoch, hlap]
    cases i
    · simp [show due s.a = true from hself, show s.a.active = true from ha]
    · simp [show due s.b = true from hself, show s.b.active = true from ha]
  rw [if_neg (by rw [hdue]; decide)]
  simp only [hwakeA, hwakeB]
  have hnote : ∀ (j : LaneId) (s : State), ((note j s).lane i).active = (s.lane i).active := fun j s => by
    simp only [note]
    split
    · rw [((LaneRel.ringsOnly.fireBoth ..).2 i).eq]
      rfl
    · rfl
  have h1 := Lane.fallAsleep_power (sealIt ((note .B (note .A s)).lane i))
  have hs1 : s1.lane i = (sealIt ((note .B (note .A s)).lane i)).fallAsleep := by
    simp only [s1, State.lane_eachLane, hnote, ha, if_true]
  rw [← hs1] at h1
  clear_value s1
  have hgo : ∀ (j : LaneId) (s : State), ((go j s).lane i).power = (s.lane i).power ∧ ((go j s).lane i).pacer = (s.lane i).pacer :=
    fun j s => s.laneTo_asleep j i (s.lane j).present
  simp only [s2, (hgo .B _).1, (hgo .B _).2, (hgo .A _).1, (hgo .A _).2]
  exact h1

/-! ### A sleep that the controller starts (R465) -/

theorem State.autoSleep_prepared {e : Nat} (hh : s.holder = some i) (hon : (s.lane i).c Pw.autoSleep = 1)
    (hready : (s.lane i).power.power = pwReady) (hnone : (s.lane i).power.sleep = none) (hsince : (s.lane i).power.readySince = some e)
    (hidle : e + 1000 * (s.lane i).cn Pw.sleepIdleS ≤ (s.lane i).epoch) (htt : (s.lane i).ttWithin ((s.lane i).cn Pw.sleepMinS) = false) :
    (s.autoSleep.lane i).power.sleep.map SleepPrep.epoch = some ((s.lane i).epoch + 2) := by
  unfold State.autoSleep
  simp only [hh, hsince]
  rw [if_pos ⟨hon, hready, hnone, decide_eq_true hidle, htt⟩, State.lane_eachLane, if_pos (State.active_of_holder hh)]
  simp

end Sleep

/-! ### A module restart (R472, R473) -/

section Restart

variable (s : State) (i : LaneId)

/-- A lane taken through a module restart: reset, and started as at a cold start. -/
def State.restartLane (i : LaneId) (s : State) : State :=
  if (s.lane i).present && !(s.lane i).link.parked && (s.lane i).power.fastOn then
    ((s.laneReset i false).onLane i (fun _ => true) (fun s _ l =>
      (l.coldStart s.chassis.variant).pow (fun x => { x with restart := none, restartAnswered := false }))).drawSeq i
  else s

/-- What a restart says of a lane that it has taken. -/
structure Lane.Restarted (l : Lane) : Prop where
  state : l.link.state = .reset
  want : l.link.want = false
  done : l.power.restart = none
  fast : l.power.fastOn = true

theorem Lane.Restarted.of_records {l m : Lane} (h : l.Restarted) (hlink : m.link = l.link) (hpower : m.power = l.power) : m.Restarted :=
  ⟨by rw [hlink, h.state], by rw [hlink, h.want], by rw [hpower, h.done], by rw [hpower, h.fast]⟩

theorem Lane.coldStart_link (l : Lane) (v : Variant) : (l.coldStart v).link = l.link := by
  have hclear : ∀ (l : Lane) o, (l.clearForecast o).link = l.link := fun l o =>
    Lane.forN_kept Lane.link 4 (fun k l => rfl) _
  have hcool : ∀ (l : Lane) ms valid n, (l.coolRestore ms valid n).link = l.link := fun l ms valid n => by
    refine Lane.forN_kept Lane.link n (fun o l => ?_) l
    dsimp only
    rw [hclear]
    split <;> rfl
  have hmast : ∀ l : Lane, (l.mastStarts v).link = l.link := fun l => by
    unfold Lane.mastStarts
    split <;> rfl
  have hkeys : ∀ l : Lane, l.keyPoints.link = l.link := fun _ => rfl
  have hacq : ∀ l : Lane, l.showAcq.link = l.link := fun _ => rfl
  unfold Lane.coldStart
  dsimp only
  rw [hacq, hmast, hkeys]
  simp only [Lane.setp_frame, hcool]
  rfl

theorem State.restartLane_self (hp : (s.lane i).present = true) (hpark : (s.lane i).link.parked = false)
    (hfast : (s.lane i).power.fastOn = true) : ((s.restartLane i).lane i).Restarted := by
  unfold State.restartLane
  rw [if_pos (by simp [hp, hpark, hfast]), State.drawSeq_kept, State.lane_onLane, if_pos ⟨rfl, rfl⟩]
  refine ⟨?_, ?_, rfl, ?_⟩
  · exact (congrArg LinkSt.state (Lane.coldStart_link _ _)).trans (s.laneReset_link i false).1
  · exact (congrArg LinkSt.want (Lane.coldStart_link _ _)).trans (s.laneReset_want i false)
  · exact (congrArg PowerSt.fastOn (Lane.coldStart_power _ _) :)

theorem State.restartLane_other : ((s.restartLane i).lane i.other).link = (s.lane i.other).link
    ∧ ((s.restartLane i).lane i.other).power = (s.lane i.other).power := by
  unfold State.restartLane
  split
  · rw [State.drawSeq_kept, State.lane_onLane, if_neg (by simp)]
    obtain ⟨hdomains, hlink⟩ := s.laneReset_other i false
    exact ⟨hlink, (congrArg (fun d : MetSt × PowerSt × ThermSt => d.2.1) hdomains :)⟩
  · exact ⟨rfl, rfl⟩

theorem State.restartLane_both (hp : (s.lane i).present = true) (hpark : (s.lane i).link.parked = false)
    (hfast : (s.lane i).power.fastOn = true) : (((s.restartLane .A).restartLane .B).lane i).Restarted := by
  cases i with
  | A =>
    obtain ⟨hlink, hpower⟩ := (s.restartLane .A).restartLane_other .B
    exact (s.restartLane_self .A hp hpark hfast).of_records hlink hpower
  | B =>
    have hlink : ((s.restartLane .A).lane .B).link = (s.lane .B).link := (s.restartLane_other .A).1
    have hpower : ((s.restartLane .A).lane .B).power = (s.lane .B).power := (s.restartLane_other .A).2
    refine (s.restartLane .A).restartLane_self .B ?_ ?_ ?_
    · rw [Lane.present, hlink]
      exact hp
    · rw [hlink]
      exact hpark
    · rw [hpower]
      exact hfast

theorem State.moduleRestart_self {r : Request} (ha : (s.lane i).active = true) (hr : (s.lane i).power.restart = some ((s.lane i).epoch, r))
    (hlap : (s.lane i).lapIn = 199) (hpark : (s.lane i).link.parked = false) (hfast : (s.lane i).power.fastOn = true) :
    (s.moduleRestart.lane i).Restarted := by
  unfold State.moduleRestart
  extract_lets due go s1 c s2
  have hdue : (!due s.a && !due s.b) = false := by
    have hself : due (s.lane i) = true := by simp [due, hr, ha, hlap]
    cases i
    · simp [show due s.a = true from hself]
    · simp [show due s.b = true from hself]
  rw [if_neg (by rw [hdue]; decide)]
  have h1 : (s1.lane i).Restarted := s.restartLane_both i (Lane.present_of_active ha) hpark hfast
  clear_value s1
  have h2 : (s2.lane i).Restarted := by cases i <;> exact h1
  rw [State.lane_eachLane]
  split
  · exact h2.of_records (((Lane.showBypass_records ..).2).trans (Lane.showBypass_records ..).2)
      (((Lane.showBypass_records ..).1).trans (Lane.showBypass_records ..).1)
  · exact h2

end Restart

/-- Settles O33, row by row. -/
theorem sleepRows : Obligations.SleepRows := by
  unfold Obligations.SleepRows
  intro s i ha
  refine ⟨fun p hh hp => ⟨fun hnew hepoch hlap => ⟨fun hok => does_of_next rfl (State.sleepPrecheck_ok hh hp hnew hepoch hlap hok),
      fun hcause => does_of_next rfl (State.sleepPrecheck_refused hh hp hnew hepoch hlap hcause)⟩,
      fun hchecked hnew hepoch hlap => does_of_next rfl ?_⟩,
    fun p hp hcommitted hepoch => ⟨fun hlap => does_of_next rfl (State.sleepWantDrop_self ha hp hcommitted hepoch hlap),
      fun hlap hwakeA hwakeB => does_of_next rfl ?_⟩,
    fun e hh hon hready hnone hsince hidle htt => does_of_next rfl (State.autoSleep_prepared hh hon hready hnone hsince hidle htt),
    fun r hr hlap hpark hfast => does_of_next rfl ?_⟩
  · rw [State.lane_lines_power, State.lane_drive_power]
    exact State.sleepPoint_committed hh hp hchecked hnew hepoch hlap
  · rw [State.lane_drive_power, State.lane_drive_pacer]
    exact State.asleepEntry_asleep _ ha hp hcommitted hepoch hlap hwakeA hwakeB
  · obtain ⟨hstate, hwant, hdone, hfast'⟩ := (s.moduleRestart_self i ha hr hlap hpark hfast).of_records
      (s.moduleRestart.lane_drive_link i) (s.moduleRestart.lane_drive_power i)
    exact ⟨hstate, hwant, hdone, hfast'⟩

end Sys2Proof.Machine
end

section
/-!
20_thermal_and_memory_health.md: housekeeping of a lane.
-/

namespace Sys2Proof.Machine

open Sys2Proof

/-! ### What the points of supply and health keep through a lane's reset (R454, R477, R490) -/

/-- All points but those of the supply, and of thermal and memory health. -/
def LaneUnit.health : LaneUnit Unit where
  rest _ := ()
  own a := decide (a < 0x90A00 ∨ 0x90C00 ≤ a)
  rest_besideEvents _ _ := rfl

section Health

variable (l : Lane)

theorem LaneUnit.health_setp {a : Nat} (v : Int) (ha : a < 0x90A00 ∨ 0x90C00 ≤ a) : health.outside (l.setp a v) = health.outside l :=
  health.outside_setp l v (decide_eq_true ha)

theorem LaneUnit.p_of_health {l m : Lane} (h : health.outside m = health.outside l) {a : Nat} (ha : 0x90A00 ≤ a ∧ a < 0x90C00) :
    m.p a = l.p a :=
  LaneUnit.keepsPoints _ h (P := fun a => a < 0x90A00 ∨ 0x90C00 ≤ a) (fun _ ha => of_decide_eq_true ha) a (by omega)

theorem LaneUnit.health_of_keeps {l m : Lane} (h : ∀ a, 0x90A00 ≤ a → a < 0x90C00 → m.p a = l.p a) : health.outside m = health.outside l := by
  refine Prod.ext rfl (funext fun a => ?_)
  simp only [LaneUnit.outside, LaneUnit.health, decide_eq_true_eq]
  split
  · rfl
  · exact h a (by omega) (by omega)

theorem Lane.tuneAbort_health (cause : Int) : LaneUnit.health.outside (l.tuneAbort cause) = LaneUnit.health.outside l :=
  LaneUnit.health_of_keeps fun a ha hb => LaneUnit.keepsPoints _ (Lane.tuneAbort_inside_tuning cause l)
    (P := fun a => a < 0x90800) (fun a ha => (of_decide_eq_true ha).2) a (by omega)

theorem Lane.pacerTo_health (st : Int) : LaneUnit.health.outside (l.pacerTo st) = LaneUnit.health.outside l := by
  unfold Lane.pacerTo
  split
  · rfl
  · exact (LaneUnit.outside_fire ..).trans (LaneUnit.health_setp l st (by decide))

theorem Lane.linksDown_health : LaneUnit.health.outside l.linksDown = LaneUnit.health.outside l := by
  unfold Lane.linksDown
  extract_lets l1 known
  have h1 : LaneUnit.health.outside l1 = LaneUnit.health.outside l := by
    simp only [l1]
    refine LaneUnit.outside_forN _ 32 (fun h hh l => ?_) l
    split_ifs
    · rfl
    · simp (disch := omega) [LaneUnit.health_setp, Hub.linkState, Hub.linkFault, Hub.blind]
  clear_value known l1
  exact h1

theorem Lane.showAcq_health : LaneUnit.health.outside l.showAcq = LaneUnit.health.outside l := by
  simp (disch := omega) [Lane.showAcq, LaneUnit.health_setp, Ta.acqState, Ta.acqFreeMib]

end Health

section Diagnosis

variable (s : State) (i : LaneId)

theorem State.laneReset_health (fault : Bool) :
    LaneUnit.health.outside ((s.laneReset i fault).lane i) = LaneUnit.health.outside (s.lane i) := by
  have hcleared : LaneUnit.health.outside ((s.laneCleared i fault).lane i) = LaneUnit.health.outside (s.lane i) := by
    unfold State.laneCleared
    extract_lets s0 s1
    have h0 : LaneUnit.health.outside (s0.lane i) = LaneUnit.health.outside (s.lane i) := by
      simp only [s0, State.lane_eachLane]
      split
      · exact (s.lane i).tuneAbort_health 5
      · rfl
    have h1 : LaneUnit.health.outside (s1.lane i) = LaneUnit.health.outside (s0.lane i) := by
      simp only [s1]
      rw [State.lane_onLane, if_pos ⟨rfl, rfl⟩, Lane.showAcq_health, LaneUnit.health_setp _ _ (by decide),
        LaneUnit.health_setp _ _ (by decide), LaneUnit.health_setp _ _ (by decide), Lane.linksDown_health, Lane.pacerTo_health]
      rfl
    clear_value s1
    split
    · exact h1.trans h0
    · simpa [State.lane_onLane] using h1.trans h0
  refine Eq.trans ?_ hcleared
  exact LaneUnit.health_of_keeps fun a ha hb =>
    State.laneTo_p _ i .reset .boot i (decide_eq_false (by unfold Hp.laneState Hp.resyncPhase Hp.resyncProgress Hp.inStepSince; omega))

theorem State.diagnose_health (cause : Nat) (hc : cause = 5 ∨ cause = 6) :
    LaneUnit.health.outside ((s.diagnose i cause).lane i) = LaneUnit.health.outside (s.lane i) := by
  have hoff : LaneUnit.health.outside ((s.fastOff i true).lane i) = LaneUnit.health.outside (s.lane i) := by
    unfold State.fastOff
    rw [State.lane_onLane, if_pos ⟨rfl, rfl⟩]
    exact s.laneReset_health i true
  unfold State.diagnose
  obtain rfl | rfl := hc
  all_goals
    simp only [Nat.reduceEqDiff, or_false, or_true, or_self, if_true, if_false]
    split_ifs
  · rfl
  · simp [State.lane_onLane]; rfl
  · exact s.laneReset_health i true
  · rfl
  · simp [State.lane_onLane]; rfl
  · exact hoff

/-- Of a lane's points of supply and health, showing the outputs writes none. -/
theorem State.lane_drive_health : LaneUnit.health.outside (s.drive.lane i) = LaneUnit.health.outside (s.lane i) :=
  LaneUnit.health_of_keeps fun a ha _ => s.lane_drive_p i a (by omega)

end Diagnosis

/-! ### The housekeeping round (R479 to R483) -/

/-- What a round shows: the supply, the hold-up, the highest temperature and the band. -/
def Lane.roundShown (l : Lane) : Int × Int × Int × Int := (l.p Pw.pwrInMv, l.p Pw.holdupMs, l.p Th.tMax, l.p Th.tBand)

section Round

variable (l : Lane)

theorem Lane.setp_roundShown {a : Nat} (v : Int) (h : a ≠ Pw.pwrInMv ∧ a ≠ Pw.holdupMs ∧ a ≠ Th.tMax ∧ a ≠ Th.tBand) :
    (l.setp a v).roundShown = l.roundShown := by
  obtain ⟨hpwr, hholdup, hmax, hband⟩ := h
  simp [Lane.roundShown, Lane.p_setp, hpwr.symm, hholdup.symm, hmax.symm, hband.symm]

theorem Lane.therm_roundShown (f : ThermSt → ThermSt) : (l.therm! f).roundShown = l.roundShown := rfl

theorem Lane.writeRecord_roundShown (bytes : List Nat) : (l.writeRecord bytes).roundShown = l.roundShown := by
  unfold Lane.writeRecord
  refine Lane.forN_kept Lane.roundShown 8 (fun k l => ?_) l
  exact l.setp_roundShown _ (by unfold Th.thermalRecord Pw.pwrInMv Pw.holdupMs Th.tMax Th.tBand; omega)

theorem Lane.railsAndFans_roundShown (h : Housekeeping) : (l.railsAndFans h).roundShown = l.roundShown := by
  unfold Lane.railsAndFans
  extract_lets t rails fans bits l1
  have h1 : l1.roundShown = l.roundShown := Lane.setp_roundShown _ _ (by decide)
  refine Eq.trans ?_ h1
  refine Lane.forN_kept Lane.roundShown 4 (f := fun k l => l.setp (Th.fanRpm k) (h.fanRpm.getD k 0 : Nat)) (fun k l => ?_) l1
  exact l.setp_roundShown _ (by unfold Th.fanRpm Pw.pwrInMv Pw.holdupMs Th.tMax Th.tBand; omega)

theorem Lane.memCheck_p (fails : Bool) (a : Nat) : (l.memCheck fails).p a = l.p a := by
  unfold Lane.memCheck
  extract_lets keep l1 past new l2
  split
  · rfl
  · exact Lane.forL_kept (fun l => l.p a) new (f := fun k l => l.fire 87 _ [(k : Int)]) (fun k l => by simp) _

theorem Lane.memCheck_roundShown (fails : Bool) : (l.memCheck fails).roundShown = l.roundShown := by
  simp only [Lane.roundShown, Lane.memCheck_p]

theorem Lane.acqPause_roundShown (pause : Bool) : (l.acqPause pause).roundShown = l.roundShown := by
  have hmark : ∀ (l : Lane) n t, (l.acqMarker n t).roundShown = l.roundShown := fun l n t => by
    unfold Lane.acqMarker
    split <;> rfl
  unfold Lane.acqPause
  split
  · rfl
  · exact hmark l _ _

theorem Lane.showSensor_kept (failed : Bool) (k : Nat) (v : Option Int) :
    (l.showSensor failed k v).therm = l.therm ∧ (k < 14 → (l.showSensor failed k v).p Th.tBand = l.p Th.tBand) := by
  have hne : Th.tBand ≠ Th.tSensor k := by unfold Th.tBand Th.tSensor; omega
  unfold Lane.showSensor
  split
  · simp [hne]
  · split
    · simp [hne]
    · simp

/-- One sensor's part of a round. -/
def Lane.sensorRound (h : Housekeeping) (a : Lane × Bool) (k : Nat) : Lane × Bool :=
  let r := a.1.therm.sensor (sensorBad h.sensors k) k
  ((a.1.therm! (fun _ => r.1)).showSensor (r.1.failed.contains k) k (h.sensors.getD k none), a.2 || r.2)

theorem Lane.roundSensors_eq (h : Housekeeping) : l.roundSensors h = (List.range 14).foldl (Lane.sensorRound h) (l, false) := rfl

/-- What a sensor's part of a round makes of the thermal record follows from that record; it shows no band. -/
theorem Lane.sensorRound_kept (h : Housekeeping) (a : Lane × Bool) (k : Nat) :
    (Lane.sensorRound h a k).1.therm = (a.1.therm.sensor (sensorBad h.sensors k) k).1
    ∧ (k < 14 → (Lane.sensorRound h a k).1.p Th.tBand = a.1.p Th.tBand) := by
  unfold Lane.sensorRound
  refine ⟨(Lane.showSensor_kept ..).1, fun hk => ?_⟩
  exact (Lane.showSensor_kept _ _ k _).2 hk

theorem Lane.sensorRounds_therm (h : Housekeeping) (ks : List Nat) {a b : Lane × Bool} (hab : b.1.therm = a.1.therm) :
    (ks.foldl (Lane.sensorRound h) b).1.therm = (ks.foldl (Lane.sensorRound h) a).1.therm := by
  induction ks generalizing a b with
  | nil => exact hab
  | cons k ks ih => exact ih (by rw [(Lane.sensorRound_kept ..).1, (Lane.sensorRound_kept ..).1, hab])

theorem Lane.roundSensors_therm (h : Housekeeping) {l m : Lane} (htherm : m.therm = l.therm) :
    (m.roundSensors h).1.therm = (l.roundSensors h).1.therm := by
  rw [Lane.roundSensors_eq, Lane.roundSensors_eq]
  exact Lane.sensorRounds_therm h _ htherm

theorem Lane.roundSensors_band (h : Housekeeping) : (l.roundSensors h).1.p Th.tBand = l.p Th.tBand := by
  rw [Lane.roundSensors_eq]
  exact List.foldlRecOn (motive := fun a : Lane × Bool => a.1.p Th.tBand = l.p Th.tBand) (List.range 14) _ rfl
    fun a ha k hk => ((Lane.sensorRound_kept h a k).2 (List.mem_range.mp hk)).trans ha

theorem Lane.roundMax_of_therm (h : Housekeeping) {l m : Lane} (htherm : m.therm = l.therm) : m.roundMax h = l.roundMax h := by
  simp only [Lane.roundMax, htherm]

/-- The band that follows from a round's readings. -/
def Lane.roundBand (l : Lane) (h : Housekeeping) : Nat :=
  ((l.roundSensors h).1.therm.band (l.pn Th.tBand) ((l.roundSensors h).1.roundMax h)).2

theorem Lane.readings_roundShown (tm failed pwr holdup : Int) :
    ((((l.setp Th.tMax tm).setp Th.tFailed failed).setp Pw.pwrInMv pwr).setp Pw.holdupMs holdup).roundShown
      = (pwr, holdup, tm, l.p Th.tBand) := by
  simp [Lane.roundShown, Pw.pwrInMv, Pw.holdupMs, Th.tMax, Th.tBand, Th.tFailed]

theorem Lane.bandStep_roundShown (band : Int) (unit : Nat) (detail : List Int) :
    (((l.setp Th.tBand band).inc Th.bandChanges).fire 86 unit detail).roundShown
      = (l.roundShown.1, l.roundShown.2.1, l.roundShown.2.2.1, band) := by
  simp [Lane.roundShown, Pw.pwrInMv, Pw.holdupMs, Th.tMax, Th.tBand, Th.bandChanges]

theorem Lane.housekeeping_roundShown (h : Housekeeping) :
    (l.housekeeping h).roundShown = ((h.pwrMv : Int), (h.holdupMs : Int), milliC ((l.roundSensors h).1.roundMax h),
      if l.roundBand h = l.pn Th.tBand then l.p Th.tBand else (l.roundBand h : Int)) := by
  have hpn : (l.roundSensors h).1.pn Th.tBand = l.pn Th.tBand := congrArg Int.toNat (l.roundSensors_band h)
  unfold Lane.housekeeping Lane.roundBand
  rw [← hpn, ← l.roundSensors_band h]
  extract_lets r l1 tm before b t l2 l3 l4 l5 l6 l7 l8 l9 l10
  have h2 : l2.roundShown = ((h.pwrMv : Int), (h.holdupMs : Int), milliC tm, l1.p Th.tBand) := by
    unfold l2
    rw [Lane.readings_roundShown, (Lane.thermBang_read ..).1]
  have h4 : l4.roundShown = l3.roundShown := by
    unfold l4
    split
    · rfl
    · rw [Lane.therm_roundShown, Lane.addp, Lane.setp_roundShown _ _ (by decide)]
  have h5 : l5.roundShown = l2.roundShown := by
    unfold l5
    rw [Lane.therm_roundShown, Lane.memCheck_roundShown, h4]
    exact l2.railsAndFans_roundShown h
  have h6 : l6.roundShown = l2.roundShown := by
    unfold l6
    split
    · exact (l5.writeRecord_roundShown _).trans h5
    · exact h5
  rw [h2] at h6
  split
  · exact h6
  · have h7 : l7.roundShown = ((h.pwrMv : Int), (h.holdupMs : Int), milliC tm, (b.2 : Int)) := by
      unfold l7
      rw [Lane.bandStep_roundShown, h6]
    have h8 : l8.roundShown = l7.roundShown := by
      unfold l8
      split_ifs
      · exact l7.writeRecord_roundShown _
      · exact l7.writeRecord_roundShown _
      · rfl
    have h10 : l10.roundShown = l7.roundShown := by
      unfold l10 l9
      rw [Lane.acqPause_roundShown, Lane.therm_roundShown, Lane.setp_roundShown _ _ (by decide), h8]
    have hend : (if b.2 = 3 then l10.enterCritical else l10).roundShown = l7.roundShown := by
      split
      · rw [Lane.enterCritical, Lane.therm_roundShown, Lane.inc, Lane.addp, Lane.setp_roundShown _ _ (by decide), h10]
      · exact h10
    rw [hend, h7]

/-- The passing of the time between two rounds, where no laps count it, leaves the thermal record and the band. -/
theorem Lane.roundPassed_kept : l.roundPassed.therm = l.therm ∧ l.roundPassed.p Th.tBand = l.p Th.tBand := by
  have hpower : ((l.powerFor 50).therm, (l.powerFor 50).p Th.tBand) = (l.therm, l.p Th.tBand) := by
    unfold Lane.powerFor
    split
    · simp [Lane.p_setp, Th.tBand, Hp.opHours]
      rfl
    · rfl
  have hscan : ∀ l : Lane, (l.tamperScan.therm, l.tamperScan.p Th.tBand) = (l.therm, l.p Th.tBand) := fun l => by
    have hset : ∀ (l : Lane) c o x, (l.setTamper c o x).therm = l.therm ∧ (l.setTamper c o x).p Th.tBand = l.p Th.tBand := fun _ _ _ _ =>
      ⟨rfl, rfl⟩
    unfold Lane.tamperScan
    extract_lets l1
    have h1 : (l1.therm, l1.p Th.tBand) = (l.therm, l.p Th.tBand) := by
      simp only [l1]
      refine Lane.forN_kept (fun l => (l.therm, l.p Th.tBand)) 32 (fun o l => ?_) l
      split
      · simp only [hset]
      · rfl
    refine Eq.trans ?_ h1
    refine Lane.forN_kept (fun l => (l.therm, l.p Th.tBand)) 8 (fun o l => ?_) l1
    split
    · simp only [hset]
    · rfl
  have hall := (hscan (l.powerFor 50)).trans hpower
  simpa [Lane.roundPassed] using hall

/-! ### Fans, memory and the scrubber (R479, R487, R488) -/

variable {l}

theorem Lane.fanFault_of_slow {fan : Nat} (hslow : fanRounds ≤ UMap.get (fun _ => 0) l.therm.fans fan)
    (hnew : l.therm.fanFaults.contains fan = false) :
    fan ∈ (l.fanFault fan).therm.fanFaults ∧ (l.fanFault fan).therm.fanLevel = 1000 := by
  unfold Lane.fanFault
  rw [if_pos ⟨hslow, hnew⟩]
  exact ⟨List.mem_append_right _ (List.mem_singleton_self fan), rfl⟩

theorem Lane.memCheck_devLines (fails : Bool) : (l.memCheck fails).therm.devLines = l.therm.devLines := by
  unfold Lane.memCheck
  extract_lets keep l1 past new l2
  split
  · simp only [l2, l1]
    dsimp only [Lane.therm!]
    repeat' split
    all_goals rfl
  · exact Lane.forL_kept (fun l => l.therm.devLines) new (f := fun k l => l.fire 87 _ [(k : Int)]) (fun k l => by simp) _

/-- A correction is counted, and its line kept with the device (R487). -/
theorem Lane.outerCorrect_counted (d line : Nat) :
    (l.outerCorrect d line).p Th.dramOuterCe = l.p Th.dramOuterCe + 1
    ∧ line ∈ UMap.get (fun _ => []) (l.outerCorrect d line).therm.devLines d := by
  unfold Lane.outerCorrect
  extract_lets old lines l1 fails l2
  have hline : line ∈ lines := by
    unfold lines
    split
    · next h => simpa using h
    · exact List.mem_cons_self
  have h1 : l1.p Th.dramOuterCe = l.p Th.dramOuterCe + 1 ∧ l1.therm.devLines = UMap.put (fun _ => []) l.therm.devLines d lines := by
    have hne : Th.dramOuterCe ≠ Th.devCe d := by unfold Th.dramOuterCe Th.devCe; omega
    refine ⟨?_, rfl⟩
    simp only [l1]
    rw [(Lane.thermBang_read ..).1]
    simp [hne]
  have h2 : l2.p Th.dramOuterCe = l1.p Th.dramOuterCe ∧ l2.therm.devLines = l1.therm.devLines := by
    unfold l2
    split
    · simp [Lane.p_setp, Th.dramOuterCe, Th.devFailed]
    · exact ⟨rfl, rfl⟩
  rw [Lane.memCheck_p, Lane.memCheck_devLines, h2.1, h2.2, h1.1, h1.2, UMap.get_put, if_pos rfl]
  exact ⟨rfl, hline⟩

theorem Lane.uncorrectable_kept (line : Nat) :
    (l.uncorrectable line).p Th.dramUe = l.p Th.dramUe + 1 ∧ (l.uncorrectable line).p Th.ueLastLine = line := by
  simp [Lane.uncorrectable, Lane.p_setp, Th.dramUe, Th.ueLastLine]

theorem Lane.scrubNext_line (hawake : l.power.power ≠ 4) : l.scrubNext.therm.scrubLine
    = if dramLines ≤ l.therm.scrubLine + 1 then 0 else l.therm.scrubLine + 1 := by
  unfold Lane.scrubNext
  rw [if_neg hawake]
  dsimp only
  split
  · rfl
  · rfl

end Round

section Rows

variable {s : State} {i : LaneId}

/-- The points of a lane's health after the outputs are shown, and the events of its row in the other lane. -/
theorem State.alsoFire_health (s : State) (i j : LaneId) (old : State) :
    LaneUnit.health.outside ((s.alsoFire i old).lane j) = LaneUnit.health.outside (s.lane j) :=
  (LaneRel.outside LaneUnit.health |>.alsoFire s i old).2 j

theorem State.houseRound_shown (hp : (s.lane i).present = true) (hfast : (s.lane i).power.fastOn = true) (h : Housekeeping) :
    ((s.houseRound i h).lane i).roundShown = ((h.pwrMv : Int), (h.holdupMs : Int), milliC (((s.lane i).roundSensors h).1.roundMax h),
      if (s.lane i).roundBand h = (s.lane i).pn Th.tBand then (s.lane i).p Th.tBand else ((s.lane i).roundBand h : Int)) := by
  have hend : ∀ l m : Lane, LaneUnit.health.outside m = LaneUnit.health.outside l → m.roundShown = l.roundShown := fun l m hm => by
    simp only [Lane.roundShown]
    rw [LaneUnit.p_of_health hm (by decide), LaneUnit.p_of_health hm (by decide), LaneUnit.p_of_health hm (by decide),
      LaneUnit.p_of_health hm (by decide)]
  unfold State.houseRound
  extract_lets l rest s1 s2
  have h1 : (s1.lane i).roundShown = ((h.pwrMv : Int), (h.holdupMs : Int), milliC (((s.lane i).roundSensors h).1.roundMax h),
      if (s.lane i).roundBand h = (s.lane i).pn Th.tBand then (s.lane i).p Th.tBand else ((s.lane i).roundBand h : Int)) := by
    simp only [s1]
    rw [(State.lane_powered_self _ _ hp hfast _).1, Lane.housekeeping_roundShown]
    split
    · obtain ⟨htherm, hband⟩ := (s.lane i).roundPassed_kept
      have hsensors := Lane.roundSensors_therm h htherm
      have hpn : (s.lane i).roundPassed.pn Th.tBand = (s.lane i).pn Th.tBand := congrArg Int.toNat hband
      have hnext : (s.lane i).roundPassed.roundBand h = (s.lane i).roundBand h := by
        simp only [Lane.roundBand, hsensors, Lane.roundMax_of_therm h hsensors, hpn]
      rw [Lane.roundMax_of_therm h hsensors, hnext, hpn, hband]
    · rfl
  rw [← h1]
  refine hend _ _ ?_
  rw [State.lane_drive_health]
  split
  · rw [State.diagnose_health _ _ _ (.inr rfl)]
    exact State.alsoFire_health ..
  · exact State.alsoFire_health ..

theorem State.houseRound_points (hp : (s.lane i).present = true) (hfast : (s.lane i).power.fastOn = true) (h : Housekeeping) :
    ((s.houseRound i h).lane i).p Pw.pwrInMv = h.pwrMv ∧ ((s.houseRound i h).lane i).p Pw.holdupMs = h.holdupMs
    ∧ ((s.houseRound i h).lane i).p Th.tMax = milliC (((s.lane i).roundSensors h).1.roundMax h)
    ∧ ((s.houseRound i h).lane i).pn Th.tBand = (s.lane i).roundBand h := by
  have hshown := State.houseRound_shown hp hfast h
  simp only [Lane.roundShown, Prod.mk.injEq] at hshown
  obtain ⟨hpwr, hholdup, hmax, hband⟩ := hshown
  refine ⟨hpwr, hholdup, hmax, ?_⟩
  rw [Lane.pn, hband]
  split
  · next hsame => exact hsame.symm
  · exact Int.toNat_natCast _

theorem State.dramOutcome_corrected (hp : (s.lane i).present = true) (hfast : (s.lane i).power.fastOn = true) (d line : Nat) :
    ((s.dramOutcome i true d line).lane i).p Th.dramOuterCe = (s.lane i).p Th.dramOuterCe + 1
    ∧ line ∈ UMap.get (fun _ => []) ((s.dramOutcome i true d line).lane i).therm.devLines d := by
  unfold State.dramOutcome
  simp only [hp, hfast, Bool.and_self, Bool.not_true, Bool.false_eq_true, if_false, if_true]
  have hfire := (LaneRel.ringsOnly.alsoFire (s := s.powered i (fun l => l.outerCorrect d line)) i s).2 i
  have htherm : (((s.powered i (fun l => l.outerCorrect d line)).alsoFire i s).lane i).therm
      = ((s.powered i (fun l => l.outerCorrect d line)).lane i).therm := by rw [hfire.eq]
  rw [hfire.p, htherm, (State.lane_powered_self _ _ hp hfast _).1]
  exact Lane.outerCorrect_counted d line

theorem State.dramOutcome_uncorrected (hp : (s.lane i).present = true) (hfast : (s.lane i).power.fastOn = true) (d line : Nat) :
    ((s.dramOutcome i false d line).lane i).p Th.dramUe = (s.lane i).p Th.dramUe + 1
    ∧ ((s.dramOutcome i false d line).lane i).p Th.ueLastLine = line := by
  unfold State.dramOutcome
  simp only [hp, hfast, Bool.and_self, Bool.not_true, Bool.false_eq_true, if_false]
  have hkept := (State.lane_drive_health ((s.powered i (fun l => l.uncorrectable line)).diagnose i 5) i).trans
    (State.diagnose_health _ i 5 (.inl rfl))
  rw [LaneUnit.p_of_health hkept (by decide), LaneUnit.p_of_health hkept (by decide), (State.lane_powered_self _ _ hp hfast _).1]
  exact Lane.uncorrectable_kept line

/-! ### The start after a critical shutdown (R484) -/

theorem Lane.coldStart_therm (l : Lane) (v : Variant) : (l.coldStart v).therm = l.therm := by
  have hclear : ∀ (l : Lane) o, (l.clearForecast o).therm = l.therm := fun l o =>
    Lane.forN_kept Lane.therm 4 (fun k l => rfl) _
  have hcool : ∀ (l : Lane) ms valid n, (l.coolRestore ms valid n).therm = l.therm := fun l ms valid n => by
    refine Lane.forN_kept Lane.therm n (fun o l => ?_) l
    dsimp only
    rw [hclear]
    split <;> rfl
  have hmast : ∀ l : Lane, (l.mastStarts v).therm = l.therm := fun l => by
    unfold Lane.mastStarts
    split <;> rfl
  have hkeys : ∀ l : Lane, l.keyPoints.therm = l.therm := fun _ => rfl
  have hacq : ∀ l : Lane, l.showAcq.therm = l.therm := fun _ => rfl
  unfold Lane.coldStart
  dsimp only
  rw [hacq, hmast, hkeys]
  simp only [Lane.setp_frame, hcool]
  rfl

theorem State.criticalRestart_started (hmay : (s.lane i).mayRestart = true) :
    ((s.criticalRestart i).lane i).therm.shut = false ∧ ((s.criticalRestart i).lane i).power.fastOn = true := by
  unfold State.criticalRestart
  rw [if_pos hmay, State.drawSeq_kept, State.lane_onLane, if_pos ⟨rfl, rfl⟩]
  refine ⟨?_, ?_⟩
  · exact congrArg ThermSt.shut (Lane.coldStart_therm ..)
  · exact congrArg PowerSt.fastOn (Lane.coldStart_power ..)

end Rows

/-- Settles O35, row by row. -/
theorem healthRows : Obligations.HealthRows := by
  unfold Obligations.HealthRows
  intro s i
  refine ⟨fun hp hfast => ⟨fun h tm htm => does_of_next rfl ?_, fun fan hfan hslow hnew => does_of_next rfl ?_,
      fun d line => does_of_next rfl (State.dramOutcome_corrected hp hfast d line),
      fun d line => does_of_next rfl (State.dramOutcome_uncorrected hp hfast d line), fun hawake => does_of_next rfl ?_⟩,
    fun hon hshut xs => does_of_next rfl ?_, fun hmay => does_of_next rfl (State.criticalRestart_started hmay)⟩
  · rw [htm]
    exact State.houseRound_points hp hfast h
  · rw [if_pos hfan, (State.lane_powered_self _ _ hp hfast _).1]
    exact Lane.fanFault_of_slow hslow hnew
  · rw [(State.lane_powered_self _ _ hp hfast _).1]
    exact Lane.scrubNext_line hawake
  · rw [State.lane_kept_self hon, Lane.asleepThermal]
    simp only [hshut, if_true]
    rfl

end Sys2Proof.Machine
end

section
/-!
The commit point of a key update (R384, R385): the refutation of `Obligations.KeyRows`.
-/

namespace Sys2Proof.Machine
open Sys2Proof

/-- A trial store in which the message has replaced family parent 1: the session key of team level 0, derived from its last version, is orphaned. -/
def replacedParent : UMap KeySlot :=
  [(0, { state := 1 }), (1, { state := 1, ver := 1 }), (800, { state := 1, parent := 1 })]

/-- The message under application: it passed its checks in lap 0. -/
def KeyApply.replacingParent : KeyApply where
  lap := 0
  req := { ring := 0, seq := 0, hostTag := 0, command := 0, lane := 0, path := 0, body := [] }
  status := st_OK
  index := 0xFFFF
  trial := replacedParent
  counter := 1
  touched := [1]

/-- Lane A holds the baton and stands two laps after `KEY_MSG_APPLY`. -/
def State.atCommitPoint : State :=
  State.heldByA 2 fun l => { l with keys.apply := some KeyApply.replacingParent }

/-- Lane A with the outcome of the message, before the outputs are driven. -/
def State.committed : State :=
  State.atCommitPoint.eachLane Lane.active (fun s i l => (l.keyCommit (s.inStepBeside i)).signOwed)

/-- With its partner in reset no lane leaves step at the commit point. -/
theorem keyCommitPoint_atCommitPoint : execKeyCommitPoint State.atCommitPoint = .next State.committed.drive := by
  have hapart : ∀ i, State.atCommitPoint.inStepBeside i = false := fun i => by cases i <;> decide +kernel
  unfold execKeyCommitPoint State.committed
  simp [hapart]

/-- The session key of team level 0 is erased at the commit point; the trial store holds it. -/
theorem slots_committed : (slotOf (State.committed.drive.lane .A).keys.slots 800).state = 0 := by
  decide +kernel

/-- Refutes O28: at the commit point the team session keys that the update orphans are erased (R385), so the store is not the trial store. -/
theorem not_keyRows : ¬ Obligations.KeyRows := by
  unfold Obligations.KeyRows
  intro h
  obtain ⟨-, -, -, -, hcommit, -⟩ := h State.atCommitPoint .A rfl
  obtain ⟨hok, -⟩ := hcommit KeyApply.replacingParent rfl (by decide +kernel)
  obtain ⟨-, hslots, -⟩ := of_does (hok (by decide +kernel)) keyCommitPoint_atCommitPoint
  have herased := slots_committed
  rw [hslots] at herased
  exact absurd herased (by decide)

end Sys2Proof.Machine
end

section
/-!
17_equipment_bus_and_mast_link.md, 18_tuning_and_acquisition.md: what the statements on alerts, trigger conditions and host triggers leave
out, each shown by a state.
-/

namespace Sys2Proof.Machine
open Sys2Proof

/-! ### An alert of the mast link (R434) -/

/-- An alert of node 1 that lane A decodes and lane B does not. -/
def MastResponse.alertForA : MastResponse where
  header := [0, 1, 0x60]
  payload := []
  laneA := { headErrors := 0, headErasures := 0, errors := 0, erasures := 0, crc := 0, corrected := [] }
  laneB := { headErrors := 9, headErasures := 0, errors := 0, erasures := 0, crc := 0, corrected := [] }

/-- The controller is `ASLEEP`, with node 1 on MAST 1 and wake source 4 on; the always-on domain of lane A is without supply. -/
def State.asleepAtB : State :=
  let lane := fun (i : LaneId) (on : Bool) =>
    { Lane.reset i with cfg := [(Pw.wakeMask, 8), (Mast.mastNode 0, 2 ^ 31)], power := { power := pwAsleep, aoOn := on }, link.state := .reset }
  { a := lane .A false, b := lane .B true, chassis.variant := .D }

/-- Refutes O38: the alert is decoded in lane A, whose always-on domain does not run (R460), so no lane wakes. -/
theorem not_mastRows : ¬ Obligations.MastRows := by
  unfold Obligations.MastRows
  intro h
  have halert := h.2 State.asleepAtB .A 0 .alertForA (by decide +kernel) (by decide +kernel) (by decide +kernel) (by decide +kernel)
    (by decide +kernel) (by decide +kernel) (by decide +kernel) (by decide +kernel)
  obtain ⟨hwaking, -⟩ := of_does halert rfl
  exact absurd hwaking (by decide +kernel)

/-! ### Triggers of the acquisition engine (R450, R451) -/

/-- A record in `READY`. -/
def AcqRecord.ready : AcqRecord where
  no := 0
  state := 2
  armId := 1
  preMs := 0
  postMs := 1
  mib := 16
  armLap := 0

/-- Lane A holds the baton and its engine pauses, with a condition that was met. -/
def State.pausedReady : State :=
  State.heldByA 1000 fun l => { l with acq := { records := [.ready], paused := true, met := some (0, 0) } }

/-- Refutes O40: a trigger during a pause is ignored and counted (R451), and no premise says that the engine does not pause. -/
theorem not_acquisitionRows : ¬ Obligations.AcquisitionRows := by
  unfold Obligations.AcquisitionRows
  intro h
  obtain ⟨hrecord, -⟩ := h State.pausedReady .A (by decide +kernel)
  obtain ⟨-, hcondition, -⟩ := hrecord .ready (by decide +kernel)
  obtain ⟨q, harmed, hstate, -⟩ := of_does (hcondition (0, 0) rfl (by decide +kernel)) rfl
  have hstays : (((State.pausedReady.both Lane.acqCondition).lane .A).armed.map AcqRecord.state) = some 2 := by decide +kernel
  rw [harmed] at hstays
  simp [hstate] at hstays

/-- Lane A holds the baton with a record in `READY`, for which condition 1 was met at time 0. -/
def State.metReady : State :=
  State.heldByA 1000 fun l => { l with acq := { records := [.ready], met := some (0, 0) } }

/-- `ACQ_TRIGGER`. -/
def Request.acqTriggers : Request := { ring := 0, seq := 1, hostTag := 2, command := 0x522, lane := 0, path := 0, body := [] }

/-- Refutes O46: the earliest trigger decides (R450), so a record that waits for a condition met before is triggered by that, not by the host. -/
theorem not_toolCommands : ¬ Obligations.ToolCommands := by
  unfold Obligations.ToolCommands
  intro h
  obtain ⟨-, -, -, -, hrecord, -⟩ := h State.metReady .A .acqTriggers rfl
  obtain ⟨-, htrigger⟩ := hrecord .ready (by decide +kernel)
  obtain ⟨⟨x, harmed, -, hsource⟩, -⟩ := of_does (htrigger (by decide +kernel) (by decide +kernel) (by decide +kernel) (by decide +kernel)) rfl
  have hcondition : ((State.metReady.run 0x0522 .acqTriggers (doAcqTrigger .acqTriggers)).lane .A).armed.map AcqRecord.trigSource = some 1 := by
    decide +kernel
  rw [harmed] at hcondition
  simp [hsource] at hcondition

end Sys2Proof.Machine
end

section
/-!
18_tuning_and_acquisition.md: tuning and the trace engine.
-/

namespace Sys2Proof.Machine
open Sys2Proof

section Tuning

variable {l : Lane} {p : TunePlan}

/-- R438. -/
theorem Lane.tuneStart_of_due (hp : l.tune.plan = some p) (hidle : l.tune.running = false) (hepoch : l.epoch = p.startEpoch) (hlap : l.lapIn = 0) :
    l.tuneStart.tune.running = true ∧ l.tuneStart.p Ta.tuneRuns = l.p Ta.tuneRuns + 1 ∧ l.tuneStart.p Ta.tuneSlot = p.slot := by
  simp [Lane.tuneStart, hp, hidle, hepoch, hlap, Ta.tuneRuns, Ta.tuneState, Ta.tuneSlot, Ta.tuneProgress, Ta.tuneGuardDevA]
  rfl

/-- R443. -/
theorem Lane.tuneComplete_of_done {e : Nat} (hp : l.tune.plan = some p) (he : p.doneEpoch = some e)
    (hdue : e + 1 < l.epoch ∨ (e + 1 = l.epoch ∧ 4 ≤ l.lapIn)) :
    l.tuneComplete.p Ta.tuneState = 3 ∧ l.tuneComplete.tune.plan = none ∧ l.tuneComplete.tune.running = false
    ∧ l.tuneComplete.tune.haveResult = decide (p.kind ≠ 3) := by
  have hlate : ¬ (l.epoch < e + 1 ∨ (l.epoch = e + 1 ∧ l.lapIn < 4)) := by omega
  simp only [Lane.tuneComplete, hp, he]
  rw [if_neg hlate]
  simp [Ta.tuneState, Ta.tuneCause, Ta.tuneProgress]

/-- R443. -/
theorem Lane.tuneAbort_of_plan {cause : Int} (hp : l.tune.plan = some p) :
    (l.tuneAbort cause).p Ta.tuneState = (if cause = 7 then 5 else 4) ∧ (l.tuneAbort cause).p Ta.tuneCause = cause
    ∧ (l.tuneAbort cause).tune.plan = none ∧ (l.tuneAbort cause).tune.running = false := by
  unfold Lane.tuneAbort
  rw [hp]
  dsimp only
  split <;> simp [Ta.tuneState, Ta.tuneCause, Ta.tuneAborts]

/-- R445. -/
theorem Lane.traceTrigger_of_filled {src : Nat} (harmed : l.p Ta.traceState = 1) (hsrc : l.trace.source = src)
    (hfull : l.trace.armLap + l.trace.pre ≤ l.lap) :
    (l.traceTrigger src).p Ta.traceState = 2 ∧ (l.traceTrigger src).trace.trigLap = some l.lap := by
  rw [Lane.traceTrigger, if_neg (by simp [harmed, hsrc]), if_neg (by omega)]
  simp [Ta.traceState, Ta.traceTrigLap]

/-- R445. -/
theorem Lane.traceTrigger_of_filling {src : Nat} (harmed : l.p Ta.traceState = 1) (hsrc : l.trace.source = src)
    (hfull : l.lap < l.trace.armLap + l.trace.pre) : l.traceTrigger src = l.inc Ta.traceTrigIgnored := by
  rw [Lane.traceTrigger, if_neg (by simp [harmed, hsrc]), if_pos hfull]

end Tuning

/-- Settles O39: each row is the same operation in every lane that computes. -/
theorem tuneRows : Obligations.TuneRows := by
  intro s i ha
  refine ⟨fun p hp => ⟨fun hidle hepoch hlap => does_of_next rfl ?_, fun e he hdue => does_of_next rfl ?_, fun hrun hdev => does_of_next rfl ?_⟩,
    fun src harmed hsrc => ⟨fun hfull => does_of_next rfl ?_, fun hfull => does_of_next rfl ?_⟩, fun g hst htrig hlate => does_of_next rfl ?_⟩
  all_goals rw [State.lane_both, if_pos ha]
  · exact Lane.tuneStart_of_due hp hidle hepoch hlap
  · exact Lane.tuneComplete_of_done hp he hdue
  · obtain ⟨hstate, hcause, hplan, -⟩ := Lane.tuneAbort_of_plan (cause := 1) hp
    have habort : (s.lane i).tuneGuardAbort = (s.lane i).tuneAbort 1 := by simp [Lane.tuneGuardAbort, hp, hrun, hdev]
    rw [habort]
    exact ⟨hstate, hcause, hplan⟩
  · exact Lane.traceTrigger_of_filled harmed hsrc hfull
  · rw [Lane.traceTrigger_of_filling harmed hsrc hfull]
    exact ⟨by rw [Lane.p_inc, if_neg (by decide), harmed], by simp⟩
  · simp [Lane.traceComplete, hst, htrig, hlate]

end Sys2Proof.Machine
end

section
/-!
17_equipment_bus_and_mast_link.md: the equipment buses.
-/

namespace Sys2Proof.Machine
open Sys2Proof

/-! ### A request that starts (R420, R422) -/

theorem mem_of_firstByPriority {m : UMap Int} {b : Nat} {xs : List CanReq} {r : CanReq} (h : firstByPriority m b xs = some r) : r ∈ xs := by
  induction xs generalizing r with
  | nil => cases h
  | cons x xs ih =>
    unfold firstByPriority at h
    split at h
    · exact Option.some.inj h ▸ List.mem_cons_self
    · next s hs =>
      split at h
      · exact Option.some.inj h ▸ List.mem_cons_of_mem _ (ih hs)
      · exact Option.some.inj h ▸ List.mem_cons_self

/-- The bus once its request `r` has started: the back buffer is the front buffer, but for a frame that a grant change cut off (R416, R420). -/
def CanBus.started (m : UMap Int) (b : Nat) (r : CanReq) (x : CanBus) : CanBus :=
  let front := (x.txObj r.obj).back.getD (x.txObj r.obj).front
  { x with
    pending := x.pending.filter (fun q => q != r)
    flight := some { r with payload := txBytes m b r.obj (if r.cell || r.again then r.payload else front) }
    tx := if r.again then x.tx else UMap.put (fun _ => {}) x.tx r.obj { front := front, back := none } }

section Start

variable (b : Nat) (l : Lane)

/-- Either no request starts, or one that may does. -/
theorem Lane.canStart_cases : l.canStart b = l ∨ (l.link.granted = true ∧ (l.bus b).flight = none
    ∧ ∃ r ∈ (l.bus b).startable, l.canStart b = l.setBus b ((l.bus b).started l.cfg b r)) := by
  unfold Lane.canStart
  dsimp only
  split
  · exact .inl rfl
  · next hfree =>
    simp only [not_or, Bool.not_eq_false, Option.isSome_iff_ne_none, ne_eq, not_not] at hfree
    split
    · exact .inl rfl
    · next r hr => exact .inr ⟨hfree.1, hfree.2.1, r, mem_of_firstByPriority hr, rfl⟩

/-- A start changes the requests and the transmit objects of the bus alone. -/
theorem Lane.canStart_kept : (l.canStart b).link = l.link ∧ (∀ a, (l.canStart b).p a = l.p a)
    ∧ ((l.canStart b).bus b).arrived = (l.bus b).arrived ∧ ((l.canStart b).bus b).busy = (l.bus b).busy
    ∧ ((l.canStart b).bus b).column = (l.bus b).column ∧ ((l.canStart b).bus b).cell = (l.bus b).cell := by
  obtain h | ⟨-, -, r, -, h⟩ := l.canStart_cases b <;> simp [h, CanBus.started]

theorem Lane.canNext_kept (busy : Bool) : (∀ a, (l.canNext b busy).p a = l.p a)
    ∧ ((l.canNext b busy).bus b).arrived = (l.bus b).arrived ∧ ((l.canNext b busy).bus b).busy = busy := by
  obtain ⟨-, hp, harrived, hbusy, -⟩ := (l.setBus b { l.bus b with busy := busy }).canStart_kept b
  exact ⟨fun a => (hp a).trans (by simp), harrived.trans (by simp), hbusy.trans (by simp)⟩

/-- Without the grant nothing starts, so the frame under way stays as it is (R23). -/
theorem Lane.canNext_flight_of_dark (busy : Bool) (h : l.link.granted = false) : ((l.canNext b busy).bus b).flight = (l.bus b).flight := by
  unfold Lane.canNext
  obtain hs | ⟨hg, -⟩ := (l.setBus b { l.bus b with busy := busy }).canStart_cases b
  · rw [hs]; simp
  · simp [h] at hg

end Start

/-! ### Frames of other nodes (R417, R418) -/

section Receive

variable {b : Nat} {l : Lane} {f : CanFrame}

theorem Lane.canReceive_of_remote (h : f.remote = true) : l.canReceive b f = l := by
  simp [Lane.canReceive, h]

/-- A bus that is neither off, asleep nor in bus-off. -/
theorem Lane.canReceive_of_awake (hstate : l.p (Can.canState b) ∈ [canActive, canPassive, canListen]) (hremote : f.remote = false) :
    l.canReceive b f = match rxObject l.cfg b f with
      | none => (l.inc (Can.rxFrames b)).inc (Can.unmatched b)
      | some n => (l.inc (Can.rxFrames b)).setBus b { (l.bus b) with arrived := (l.bus b).arrived ++
          [(n, { data := f.data, fdf := f.fdf, brs := f.brs, tag := l.pacer.teamTime, placed := true })] } := by
  have hawake : ¬ (l.p (Can.canState b) = canOff ∨ l.p (Can.canState b) = canBusOff ∨ l.p (Can.canState b) = canAsleep ∨ f.remote = true) := by
    simp only [List.mem_cons, List.not_mem_nil, or_false] at hstate
    rcases hstate with h | h | h <;> simp [h, hremote, canActive, canPassive, canListen, canOff, canBusOff, canAsleep]
  rw [Lane.canReceive]
  simp only []
  rw [if_neg hawake]
  rfl

end Receive

/-! ### Columns of the schedule (R422) -/

section Column

variable (b : Nat) (l : Lane)

/-- A withdrawal leaves of the bus all but its pending requests, of which the event-triggered ones stay. -/
theorem Lane.canWithdraw_bus : (l.canWithdraw b).bus b = { l.bus b with pending := (l.bus b).pending.filter (fun r => !r.cell) } := by
  unfold Lane.canWithdraw
  dsimp only
  split
  · next h =>
    have hnone : (l.bus b).pending.filter (fun r => !r.cell) = (l.bus b).pending := by
      rw [List.filter_eq_self]
      intro r hr
      rw [List.isEmpty_iff, List.filter_eq_nil_iff] at h
      simpa using h r hr
    rw [hnone]
  · simp

theorem Lane.canWithdraw_ttMissed : (l.canWithdraw b).p (Can.ttMissed b)
    = l.p (Can.ttMissed b) + (((l.bus b).pending.filter CanReq.cell).length : Nat) := by
  unfold Lane.canWithdraw
  dsimp only
  split
  · next h => rw [List.isEmpty_iff.mp h]; simp
  · simp

theorem Lane.canWithdraw_p {a : Nat} (h : a ≠ Can.ttMissed b) : (l.canWithdraw b).p a = l.p a := by
  unfold Lane.canWithdraw
  dsimp only
  split
  · rfl
  · simp [h]

/-- The bus whose column `k` has opened over cell `v`; the requests of the column before are withdrawn. -/
def CanBus.opened (k v : Nat) (busy : Bool) (x : CanBus) : CanBus :=
  { x with busy := busy, pending := x.pending.filter (fun r => !r.cell), column := some k, cell := v }

/-- The request of the column's cell. -/
def CanBus.cellRequest (v : Nat) (x : CanBus) : CanReq := { obj := v, cell := true, payload := (x.txObj v).front }

/-- The lane before a request of the column may start. -/
def Lane.columnBegun (busy : Bool) : Lane :=
  (if (l.bus b).busy = busy then l else l.setBus b { l.bus b with busy := busy }).canWithdraw b

theorem Lane.columnBegun_kept (busy : Bool) : (l.columnBegun b busy).cfg = l.cfg
    ∧ (l.columnBegun b busy).bus b = { l.bus b with busy := busy, pending := (l.bus b).pending.filter (fun r => !r.cell) }
    ∧ (l.columnBegun b busy).p (Can.canState b) = l.p (Can.canState b) := by
  have hne : Can.canState b ≠ Can.ttMissed b := by unfold Can.canState Can.ttMissed; omega
  unfold Lane.columnBegun
  rw [Lane.canWithdraw_bus, Lane.canWithdraw_p b _ hne]
  split
  · next h => exact ⟨by simp, by rw [← h], rfl⟩
  · simp

variable {b l} {k : Nat} (busy : Bool)

theorem Lane.canColumnOpen_of_due (hcol : (l.bus b).col b k ≠ 0xFFFFFFFF) (hk : k < 32) :
    l.canColumnOpen b (l.canCycle b) ⟨k, busy⟩ =
      let v := (l.bus b).sched b (l.canCycle b) k
      let y := (l.bus b).opened k v busy
      let m := l.columnBegun b busy
      if v < 64 then
        if txEnabled l.cfg b v = false ∨ l.p (Can.canState b) = canOff ∨ l.p (Can.canState b) = canAsleep then m.setBus b y
        else if y.off then (m.setBus b y).dueInBusOff b
        else (m.setBus b { y with pending := y.pending ++ [y.cellRequest v] }).canStart b
      else (m.setBus b y).canStart b := by
  obtain ⟨-, hbus, -⟩ := l.columnBegun_kept b busy
  unfold Lane.columnBegun at hbus
  unfold Lane.canColumnOpen Lane.columnBegun
  dsimp only
  generalize hl0 : (if (l.bus b).busy = busy then l else l.setBus b { l.bus b with busy := busy }) = l0 at hbus ⊢
  have h0 : l0.cfg = l.cfg ∧ l0.lap = l.lap ∧ l0.bus b = { l.bus b with busy := busy } ∧ l0.p (Can.canState b) = l.p (Can.canState b) := by
    rw [← hl0]
    split
    · next h => exact ⟨rfl, rfl, by rw [← h], rfl⟩
    · simp
  obtain ⟨hcfg, hlap, hbus0, hstate⟩ := h0
  have hcycle : l0.canCycle b = l.canCycle b := by simp [Lane.canCycle, hlap, hbus0]
  have hcol0 : (l0.bus b).col b k = (l.bus b).col b k := by simp [CanBus.col, hbus0]
  rw [hcycle, hcol0, if_neg (by omega), hbus, hcfg, hstate]
  rfl

/-- What opens is the column of the cycle, and the request of an enabled cell waits or is under way (R422). -/
theorem Lane.canColumnOpen_bus (hcol : (l.bus b).col b k ≠ 0xFFFFFFFF) (hk : k < 32) :
    let v := (l.bus b).sched b (l.canCycle b) k
    let x := (l.canColumnOpen b (l.canCycle b) ⟨k, busy⟩).bus b
    x.column = some k ∧ x.busy = busy ∧ x.cell = v
    ∧ (v < 64 → txEnabled l.cfg b v = true → l.p (Can.canState b) ∈ [canActive, canPassive] → (l.bus b).off = false →
      ∃ q, (x.flight = some q ∨ q ∈ x.pending) ∧ q.cell = true ∧ q.obj = v) := by
  rw [Lane.canColumnOpen_of_due busy hcol hk]
  dsimp only
  generalize l.columnBegun b busy = m
  generalize (l.bus b).sched b (l.canCycle b) k = v
  split_ifs with hv hidle hoff
  · refine ⟨by simp [CanBus.opened], by simp [CanBus.opened], by simp [CanBus.opened], fun _ hen hst _ => ?_⟩
    simp only [List.mem_cons, List.not_mem_nil, or_false] at hst
    rcases hst with h | h <;> simp [h, hen, canActive, canPassive, canOff, canAsleep] at hidle
  · refine ⟨?_, ?_, ?_, fun _ _ _ h => absurd (h.symm.trans hoff) Bool.false_ne_true⟩ <;>
      simp only [Lane.dueInBusOff] <;> split <;> simp [CanBus.opened]
  · generalize hy : ({ (l.bus b).opened k v busy with pending := ((l.bus b).opened k v busy).pending ++ [((l.bus b).opened k v busy).cellRequest v] } : CanBus) = y
    have hshape : y.column = some k ∧ y.busy = busy ∧ y.cell = v
        ∧ y.pending = (l.bus b).pending.filter (fun r => !r.cell) ++ [((l.bus b).opened k v busy).cellRequest v] := by
      rw [← hy]; exact ⟨rfl, rfl, rfl, rfl⟩
    obtain ⟨hcolumn, hbusy, hcell, hpending⟩ := hshape
    obtain ⟨-, -, -, hb, hc, hce⟩ := (m.setBus b y).canStart_kept b
    simp only [Lane.bus_setBus, if_pos] at hb hc hce
    refine ⟨hc.trans hcolumn, hb.trans hbusy, hce.trans hcell, fun _ _ _ _ => ?_⟩
    obtain h | ⟨-, -, r, hr, h⟩ := (m.setBus b y).canStart_cases b
    · exact ⟨((l.bus b).opened k v busy).cellRequest v, .inr (by simp [h, hpending]), rfl, rfl⟩
    · obtain ⟨bytes, hflight⟩ : ∃ bytes, (y.started (m.setBus b y).cfg b r).flight = some { r with payload := bytes } := ⟨_, rfl⟩
      have hstart : r.cell = true ∧ r.obj = v := by
        have hne : v ≠ 0xFE := by omega
        simp [CanBus.startable, hcolumn, hcell, hne] at hr
        exact hr.2
      refine ⟨{ r with payload := bytes }, .inl ?_, hstart⟩
      rw [h, Lane.bus_setBus, if_pos rfl, Lane.bus_setBus, if_pos rfl, hflight]
  · obtain ⟨-, -, -, hb, hc, hce⟩ := (m.setBus b ((l.bus b).opened k v busy)).canStart_kept b
    simp only [Lane.bus_setBus, if_pos] at hb hc hce
    exact ⟨hc, hb, hce, fun h => absurd h hv⟩

end Column

/-- A column that closes leaves no scheduled request, and counts those that had not started (R422). -/
theorem Lane.canColumnClose_eq (b : Nat) (l : Lane) : ((l.canColumnClose b).bus b).column = none
    ∧ (∀ r ∈ ((l.canColumnClose b).bus b).pending, r.cell = false)
    ∧ (l.canColumnClose b).p (Can.ttMissed b) = l.p (Can.ttMissed b) + (((l.bus b).pending.filter CanReq.cell).length : Nat) := by
  unfold Lane.canColumnClose
  dsimp only
  rw [Lane.bus_setBus, if_pos rfl, (Lane.setBus_read ..).1, Lane.canWithdraw_ttMissed, Lane.canWithdraw_bus]
  exact ⟨rfl, by simp, rfl⟩

/-! ### The end of a frame (R416, R422) -/

section Sent

variable {b : Nat} {l : Lane}

theorem Lane.canSent_counts (busy : Bool) : (l.canSent b busy).p (Can.txFrames b) = l.p (Can.txFrames b) + 1
    ∧ ((l.canSent b busy).bus b).busy = busy := by
  obtain ⟨hp, -, hbusy⟩ := ((l.setBus b { l.bus b with flight := none }).inc (Can.txFrames b)).canNext_kept b busy
  exact ⟨(hp _).trans (by simp), hbusy⟩

theorem Lane.canHeard_txFrames (busy : Bool) (r : CanReq) : (l.canHeard b busy r).p (Can.txFrames b) = l.p (Can.txFrames b) := by
  unfold Lane.canHeard
  refine ((Lane.canNext_kept b _ busy).1 _).trans ?_
  split
  · split <;> simp
  · simp

/-- A lane without the grant has nothing under way once it has heard its frame. -/
theorem Lane.canHeard_flight {r : CanReq} (busy : Bool) (hflight : (l.bus b).flight = some r) (hdark : l.link.granted = false) :
    ((l.canHeard b busy r).bus b).flight = none := by
  unfold Lane.canHeard
  simp only [hflight, decide_true, Bool.and_self, if_true, and_self]
  rw [Lane.canNext_flight_of_dark b _ busy (by simpa using hdark)]
  simp

end Sent

section Done

variable {s : State} {b : Nat} {e : CanEnd} {h : LaneId} {q : CanReq}

/-- The holder's frame ends, and the other lane hears it or has missed it. -/
theorem State.canDone_of_flight (hb : b < 4) (hh : s.holder = some h) (hrun : (s.lane h).inReset 2 b = false)
    (hq : ((s.lane h).bus b).flight = some q) :
    s.canDone b e = (s.onLane h Lane.active (fun _ _ l => l.canSent b e.busy)).onLane h.other Lane.active
      (fun _ _ l => l.onBus b (if e.missed = some h.other then Lane.canNext b e.busy else Lane.canHeard b e.busy q)) := by
  have hgo : ¬ (decide (4 ≤ b) || !(s.lane h).active || (s.lane h).inReset 2 b) = true := by
    simp [hrun, State.active_of_holder hh, hb]
  unfold State.canDone
  simp only [hh]
  rw [if_neg hgo]
  simp only [hq]

end Done

/-! ### Error states (R424) -/

section Error

variable {b : Nat} {l : Lane}

theorem Lane.canError_counters {st : Int} {tec recN : Nat} (h : l.p (Can.canState b) ∈ [canActive, canPassive, canBusOff]) :
    (l.canError b st tec recN).p (Can.canState b) = st ∧ (l.canError b st tec recN).p (Can.tec b) = tec
    ∧ (l.canError b st tec recN).p (Can.rec b) = recN := by
  have hnormal : l.p (Can.canState b) = canActive ∨ l.p (Can.canState b) = canPassive ∨ l.p (Can.canState b) = canBusOff := by
    simpa using h
  unfold Lane.canError Lane.canEvent
  dsimp only
  rw [decide_eq_true hnormal, if_neg (by decide)]
  split_ifs <;> simp [Can.canState, Can.tec, Can.rec, Can.ttMissed, Can.busOffs]

theorem Lane.canRejoin_counters (hoff : l.p (Can.canState b) = canBusOff) (hask : l.c (Can.boffAuto b) = 1 ∨ (l.bus b).recovering = true) :
    (l.canRejoin b).p (Can.canState b) = canActive ∧ (l.canRejoin b).p (Can.tec b) = 0 ∧ (l.canRejoin b).p (Can.rec b) = 0 := by
  unfold Lane.canRejoin Lane.canEvent
  rw [if_pos ⟨hoff, hask⟩]
  simp [Can.canState, Can.tec, Can.rec]

end Error

/-- What the standby follows of a bus, and the events that it raises, leave the points. -/
theorem LaneRel.samePoints : LaneRel (fun _ l m => ∀ a, m.p a = l.p a) := ⟨fun h a => h.p a, fun h h' a => (h' a).trans (h a)⟩

theorem State.busRow_p {s : State} {i : LaneId} (ha : (s.lane i).active = true) (b : Nat) (f : Lane → Lane) (a : Nat) :
    ((s.busRow i b f).lane i).p a = (f (s.lane i)).p a := by
  have hfollow : (s.one i f).LaneWise (fun _ l m => ∀ a, m.p a = l.p a) ((s.one i f).beside (fun l h => l.canFollow b h)) :=
    LaneRel.samePoints.besideHolder _ fun _ l h a => by simp [Lane.canFollow]
  have hevents := LaneRel.samePoints.alsoFire ((s.one i f).beside (fun l h => l.canFollow b h)) i s
  unfold State.busRow
  rw [hevents.2 i a, hfollow.2 i a, State.lane_one, if_pos ⟨rfl, ha⟩]

/-! ### Waking a bus (R425) -/

/-- The link and the Pacer of a lane, which say whether it computes. -/
def Lane.course (l : Lane) : LinkSt × PacerSt := (l.link, l.pacer)

theorem Lane.active_of_course {l m : Lane} (h : m.course = l.course) : m.active = l.active := by
  obtain ⟨hlink, hpacer⟩ := Prod.ext_iff.mp h
  rw [Lane.active, Lane.active, show m.link = l.link from hlink, show m.pacer = l.pacer from hpacer]

section Wake

variable (b : Nat) (l : Lane)

theorem Lane.canRefresh_asleep : ((l.canRefresh b).bus b).asleep = (l.bus b).asleep := by
  unfold Lane.canRefresh
  dsimp only
  split_ifs <;> simp [Lane.canClear]

theorem Lane.canWake_awake : ((l.canWake b).bus b).asleep = false := by
  unfold Lane.canWake Lane.canEvent
  split
  · rw [(Lane.fire_read ..).2.2.2.2.2.2.2.2.2.2.2.2, Lane.canRefresh_asleep]
    simp
  · next h => simpa using h

theorem Lane.canRefresh_course : (l.canRefresh b).course = l.course := by
  unfold Lane.canRefresh
  dsimp only
  split_ifs <;> rfl

theorem Lane.canWake_course : (l.canWake b).course = l.course := by
  have hfire : ∀ (l : Lane) n u d, (l.fire n u d).course = l.course := fun l n u d => by simp [Lane.course]
  unfold Lane.canWake
  split
  · exact (hfire ..).trans (Lane.canRefresh_course b _)
  · rfl

theorem Lane.busUp_course : (l.busUp b).course = l.course := by
  unfold Lane.busUp
  split
  · exact l.canWake_course b
  · rfl

theorem Lane.coolRestore_course (nowMs : Nat) (valid : Bool) (outlets : Nat) : (l.coolRestore nowMs valid outlets).course = l.course := by
  have hclear : ∀ (l : Lane) o, (l.clearForecast o).course = l.course := fun l o => Lane.forN_kept Lane.course 4 (fun k l => rfl) _
  unfold Lane.coolRestore
  refine Lane.forN_kept Lane.course outlets (fun o l => ?_) l
  dsimp only
  rw [hclear]
  split <;> rfl

theorem Lane.mastStarts_course (v : Variant) : (l.mastStarts v).course = l.course := by
  unfold Lane.mastStarts
  split <;> rfl

theorem Lane.asleepReads_course : l.asleepReads.course = l.course :=
  Lane.forL_kept Lane.course _ (f := fun (w : WaitingRead) l => l.answer w.req (Reply.just st_EPOCH_ASLEEP)) (fun _ _ => rfl) _

end Wake

theorem LaneRel.course : LaneRel (fun _ l m => m.course = l.course) := ⟨fun h => by rw [h.eq]; rfl, fun h h' => h'.trans h⟩

/-- The end of a sleep entry reaches the power records and the rings alone (R464). -/
theorem LaneRel.cancelSleep {R : LaneId → Lane → Lane → Prop} (hR : LaneRel R)
    (hpow : ∀ i l (f : PowerSt → PowerSt), R i l (l.pow f)) (s : State) :
    s.LaneWise R s.cancelSleep := by
  have hgo : ∀ req : Option Request, s.LaneWise R
      (let s1 := s.powBoth (fun l x => { x with sleep := none, readySince := some l.epoch })
       match req with
       | some r => s1.answerBoth r (Reply.just 0x0702)
       | none => s1) := by
    rintro (_ | r)
    · exact hR.eachLane _ _ fun i l => hpow i l _
    · exact hR.state_trans (hR.eachLane _ _ fun i l => hpow i l _) (hR.answerBoth ..)
  unfold State.cancelSleep
  dsimp only
  split
  · split
    · exact hR.state_refl s
    · exact hgo _
  · split
    · exact hR.state_refl s
    · exact hgo _
  · exact hR.state_refl s

theorem State.startWake_course (s : State) (source : Nat) : s.LaneWise (fun _ l m => m.course = l.course) (s.startWake source) := by
  have hacq : ∀ l : Lane, l.showAcq.course = l.course := fun _ => rfl
  have hset : ∀ (l : Lane) a v, (l.setp a v).course = l.course := fun _ _ _ => rfl
  unfold State.startWake
  refine LaneRel.course.eachLane _ _ fun i l => ?_
  refine (Lane.forN_kept Lane.course 4 (fun b l => l.busUp_course b) _).trans ?_
  rw [hacq, Lane.mastStarts_course, hset, Lane.coolRestore_course, Lane.asleepReads_course]
  rfl

/-- A wake source leaves which lanes compute. -/
theorem State.wake_course (s : State) (source : Nat) : s.LaneWise (fun _ l m => m.course = l.course) (s.wake source) := by
  unfold State.wake
  dsimp only
  split_ifs
  · exact LaneRel.course.state_refl s
  · exact s.startWake_course source
  · exact LaneRel.course.eachLane _ _ fun _ _ => rfl
  · split
    · exact LaneRel.course.state_refl s
    · split
      · exact LaneRel.course.eachLane _ _ fun _ _ => rfl
      · exact LaneRel.course.cancelSleep (fun _ _ _ => rfl) s

theorem Lane.canWakes_of_asleep {l m : Lane} {b : Nat} {frame : Option CanFrame} (hcfg : m.cfg = l.cfg) (hwakes : l.canWakes b frame = true)
    (hasleep : (m.bus b).asleep = true) : m.canWakes b frame = true := by
  have hc : ∀ a, m.c a = l.c a := fun a => by rw [Lane.c, Lane.c, hcfg]
  have hcn : ∀ a, m.cn a = l.cn a := fun a => by rw [Lane.cn, Lane.cn, hc]
  unfold Lane.canWakes at hwakes ⊢
  simp only [hc, hcn, hasleep]
  rw [Bool.and_eq_true] at hwakes
  exact hwakes.2

/-- The pattern wakes its bus, whatever it ends of a sleep entry. -/
theorem State.busWake_awake {s : State} {i : LaneId} {b : Nat} {frame : Option CanFrame} (ha : (s.lane i).active = true) (hb : b < 4)
    (hrun : s.asleep = false) (hwakes : (s.lane i).canWakes b frame = true) : (((s.busWake b frame).lane i).bus b).asleep = false := by
  have hended : ∀ c : Bool, ((if c = true then s.wake 1 else s).lane i).active = true
      ∧ ((if c = true then s.wake 1 else s).lane i).cfg = (s.lane i).cfg := by
    rintro (_ | _)
    · exact ⟨ha, rfl⟩
    · exact ⟨(Lane.active_of_course ((s.wake_course 1).2 i)).trans ha, by cases i <;> simp [State.lane]⟩
  have hlast : ∀ m : Lane, m.cfg = (s.lane i).cfg → ((if m.canWakes b frame then m.canWake b else m).bus b).asleep = false := by
    intro m hcfg
    split
    · exact m.canWake_awake b
    · next hquiet => exact Bool.eq_false_iff.mpr fun hasleep => hquiet (Lane.canWakes_of_asleep hcfg hwakes hasleep)
  unfold State.busWake
  rw [if_neg (by omega)]
  dsimp only
  rw [if_neg (by simp [hrun]), State.lane_both, if_pos (hended _).1]
  exact hlast _ (hended _).2

/-- Settles O37: what a bus takes of frames, columns, its own frames and its errors, by the cases of each row. -/
theorem busRows : Obligations.BusRows := by
  intro s i b hb ha
  have hboth : ∀ f : Lane → Lane, (s.below 4 b f).lane i = f (s.lane i) := fun f => by
    rw [State.below, if_pos hb, State.lane_both, if_pos ha]
  have hbus : ∀ {f : Lane → Lane}, (s.lane i).inReset 2 b = false → (s.lane i).onBus b f = f (s.lane i) := fun h => by
    rw [Lane.onBus, if_neg (by simp [h])]
  refine ⟨fun f hrun hremote hstate e => ⟨fun hheard => ⟨fun hnone => does_of_next rfl ?_, fun n hn => does_of_next rfl ?_⟩,
      fun hmissed => does_of_next rfl ?_⟩, fun f e hremote => does_of_next rfl ?_, ?_, fun hreset => does_of_next rfl ?_,
    fun hrun => does_of_next rfl ?_, ?_, ?_, ?_, fun frame hawake hwakes => does_of_next rfl (State.busWake_awake ha hb hawake hwakes)⟩
  · rw [hboth, hbus hrun, if_neg hheard, Lane.canReceive_of_awake hstate hremote, hnone]
    obtain ⟨hp, harrived, hbusy⟩ := (((s.lane i).inc (Can.rxFrames b)).inc (Can.unmatched b)).canNext_kept b e.busy
    rw [hp, hp, harrived]
    exact ⟨by simp [Can.rxFrames, Can.unmatched], by simp [Can.rxFrames, Can.unmatched], by simp, hbusy⟩
  · rw [hboth, hbus hrun, if_neg hheard, Lane.canReceive_of_awake hstate hremote, hn]
    obtain ⟨hp, harrived, -⟩ := (((s.lane i).inc (Can.rxFrames b)).setBus b { (s.lane i).bus b with arrived := ((s.lane i).bus b).arrived ++
      [(n, { data := f.data, fdf := f.fdf, brs := f.brs, tag := (s.lane i).pacer.teamTime, placed := true })] }).canNext_kept b e.busy
    rw [hp, harrived]
    exact ⟨by simp, by simp⟩
  · obtain ⟨hp, harrived, hbusy⟩ := (s.lane i).canNext_kept b e.busy
    rw [hboth, hbus hrun, if_pos hmissed]
    exact ⟨hp _, harrived, hbusy⟩
  · obtain ⟨hp, harrived, -⟩ := (s.lane i).canNext_kept b e.busy
    rw [hboth, Lane.onBus]
    split
    · exact ⟨rfl, rfl⟩
    · rw [Lane.canReceive_of_remote hremote, ite_self]
      exact ⟨hp _, harrived⟩
  · rintro c k busy hrun hcol rfl hk
    refine does_of_next rfl ?_
    rw [hboth, hbus hrun]
    exact Lane.canColumnOpen_bus busy hcol hk
  · rw [hboth, Lane.onBus, if_pos hreset]
  · rw [hboth, hbus hrun]
    exact Lane.canColumnClose_eq b _
  · refine fun e q hrun => ⟨fun hh hq => does_of_next rfl ?_, fun hh hrun' hq hq' hdark => does_of_next rfl ?_, fun hh => ?_⟩
    · rw [State.canDone_of_flight hb hh hrun hq, State.lane_onLane, if_neg (by simp), State.lane_onLane, if_pos ⟨rfl, ha⟩]
      exact Lane.canSent_counts e.busy
    · have hdriver : (s.onLane i.other Lane.active (fun _ _ l => l.canSent b e.busy)).lane i = s.lane i := by
        rw [State.lane_onLane, if_neg (by simp)]
      rw [State.canDone_of_flight hb hh hrun' hq, LaneId.other_other, State.lane_onLane, hdriver, if_pos ⟨rfl, ha⟩, hbus hrun]
      split
      · exact ⟨(Lane.canNext_kept b _ _).1 _, (Lane.canNext_flight_of_dark b _ _ hdark).trans hq'⟩
      · exact ⟨Lane.canHeard_txFrames _ _, Lane.canHeard_flight _ hq' hdark⟩
    · have hidle : s.canDone b e = s := by rw [State.canDone, hh]
      exact congrArg _ hidle
  · refine fun st tec recN hstate => does_of_next rfl ?_
    rw [if_pos hb, State.busRow_p ha, State.busRow_p ha, State.busRow_p ha]
    exact Lane.canError_counters hstate
  · refine fun hoff hask => does_of_next rfl ?_
    rw [if_pos hb, State.busRow_p ha, State.busRow_p ha, State.busRow_p ha]
    exact Lane.canRejoin_counters hoff hask

end Sys2Proof.Machine
end

section
/-!
17_equipment_bus_and_mast_link.md, 19_power_states_and_reset.md: the host's commands on power, the equipment buses and the mast.
-/

namespace Sys2Proof.Machine
open Sys2Proof

section Run

variable {s t : State} {i : LaneId} {r : Request} {code : Nat} {f : StateCmd}

/-- Of an admitted request only the command's own effect is left to run, and its answer, which may come later (R75, R79, R83). -/
theorem State.run_of_named {rep : Option Reply} (h : Admitted s i code r)
    (hr : r.lane = 0 ∨ ∃ j : LaneId, r.lane = j.num + 1 ∧ (s.lane j).present = true)
    (hf : f (if cancelsSleep code then s.cancelSleep else s) = (t, rep)) : s.run code r f = rep.elim t (fun rep => t.answerBoth r rep) := by
  obtain ⟨href, hwalk, hzeros, hright⟩ := h
  have hlane : ¬ 2 < r.lane ∧ ¬ (r.lane ≠ 0 ∧ (s.lane (if r.lane = 2 then .B else .A)).present = false) := by
    obtain hr | ⟨j, hr, hp⟩ := hr
    · simp [hr]
    · cases j <;> simp [hr, LaneId.num] at hp ⊢ <;> simp [hp]
  unfold State.run
  simp only [href, hwalk, hf, hzeros, if_neg hlane.1, if_neg hlane.2]
  cases hb : rightOf code r with
  | none => cases rep <;> simp
  | some b => cases rep <;> simp [hright b hb]

/-- A command of both lanes that is answered later. -/
theorem State.run_of_wait (h : Admitted s i code r) (hr : r.lane = 0) (hc : cancelsSleep code = false) (hf : f s = (t, none)) :
    s.run code r f = t :=
  State.run_of_named h (.inl hr) (by rw [hc]; exact hf)

end Run

section Power

variable {l : Lane} {r : Request}

/-- Entries that are all deletions or lie in range, and fit (R467, R476). -/
theorem Lane.cmdTtWrite_eq {n : Nat} (hn : r.at_ 0 1 = n) (h1 : 1 ≤ n) (h13 : n ≤ 13) (hlen : r.len = 8 + 16 * n)
    (hrange : ∀ e ∈ ttEntriesOf r, e.arrivalMs = 0 ∨ (l.legalMs < (e.arrivalMs : Int)
        ∧ (e.arrivalMs : Int) ≤ l.legalMs + 400 * 86400000 ∧ e.leadS ≤ 3600))
    (hfits : ((ttEntriesOf r).foldl ttPut l.power.tt).length ≤ 64) :
    l.cmdTtWrite r = ((l.pow (fun x => { x with tt := (ttEntriesOf r).foldl ttPut l.power.tt })).ttShow, Reply.ok []) := by
  unfold Lane.cmdTtWrite
  dsimp only
  rw [if_neg (by omega), if_neg ?_, if_neg (by omega)]
  simp only [List.any_eq_true, not_exists, not_and]
  intro e he
  rcases hrange e he with h | h
  · simp [h]
  · simp; omega

theorem Lane.ttShow_entries (l : Lane) : l.ttShow.power = l.power ∧ l.ttShow.p Pw.ttEntries = l.power.tt.length := by
  simp [Lane.ttShow, Pw.ttEntries, Pw.ttNextDueMs]

end Power

/-! ### Transmit objects (R420) -/

section Transmit

variable {b n : Nat} {l : Lane} {data : List Nat}

/-- What an object sends next: its back buffer, or where that has been taken its front buffer (R420). -/
def CanBus.due (x : CanBus) (n : Nat) : List Nat := (x.txObj n).back.getD (x.txObj n).front

theorem CanBus.due_started (m : UMap Int) (r : CanReq) (x : CanBus) : (x.started m b r).due n = x.due n := by
  unfold CanBus.due CanBus.started CanBus.txObj
  dsimp only
  split
  · rfl
  · rw [UMap.get_put]
    split
    · next h => rw [h]; rfl
    · rfl

theorem Lane.canStart_due (l : Lane) : ((l.canStart b).bus b).due n = (l.bus b).due n := by
  obtain h | ⟨-, -, r, -, h⟩ := l.canStart_cases b
  · rw [h]
  · rw [h, Lane.bus_setBus, if_pos rfl, CanBus.due_started]

/-- The data written waits in the back buffer of a scheduled object, and is what an object sends next (R420). -/
theorem Lane.canWrite_due : (txTimed l.cfg b n = true → (((l.canWrite b n data).bus b).txObj n).back = some data)
    ∧ ((l.canWrite b n data).bus b).due n = data := by
  have hnew : ∀ pending, ({ l.bus b with
      tx := UMap.put (fun _ => {}) (l.bus b).tx n { (l.bus b).txObj n with back := some data }, pending := pending } : CanBus).due n = data := by
    intro pending
    simp [CanBus.due, CanBus.txObj]
  unfold Lane.canWrite
  dsimp only
  split
  · rw [Lane.bus_setBus, if_pos rfl]
    exact ⟨fun _ => by simp [CanBus.txObj], hnew _⟩
  · next htimed =>
    refine ⟨fun h => absurd h htimed, ?_⟩
    split
    · unfold Lane.dueInBusOff
      split <;> simpa using hnew _
    · rw [Lane.canStart_due, Lane.bus_setBus, if_pos rfl]
      exact hnew _

theorem Lane.canWrite_course : (l.canWrite b n data).course = l.course := by
  have hstart : ∀ l : Lane, (l.canStart b).course = l.course := fun l => by
    obtain h | ⟨-, -, r, -, h⟩ := l.canStart_cases b <;> rw [h]
    rfl
  unfold Lane.canWrite Lane.dueInBusOff
  dsimp only
  split_ifs
  · rfl
  · rfl
  · rfl
  · exact hstart _
  · exact hstart _

end Transmit

/-! ### The commands on a bus (R436) -/

section BusCommands

variable {b n : Nat} {l : Lane} {r : Request}

theorem Lane.cmdCanTx_eq (hb : r.at_ 0 1 = b) (hb3 : b ≤ 3) (hon : l.c (Can.canEnable b) ≠ 0) (hawake : (l.bus b).asleep = false)
    (hn : r.at_ 1 1 = n) (hn63 : n ≤ 63) (hlen : r.len = 4 + r.at_ 2 1) (hen : txEnabled l.cfg b n = true)
    (hdata : r.at_ 2 1 ∈ canLengths (bitAt (l.cn (Can.txCfg b n)) 29)) : l.cmdCanTx r = (l.canWrite b n (r.body.drop 4), Reply.ok []) := by
  subst hb hn
  unfold Lane.cmdCanTx
  dsimp only
  rw [if_neg (by omega), if_neg (by omega), if_neg (by simp [hon, hen]), if_neg (by simp [hawake]), if_neg (by simpa using hdata)]

theorem Lane.cmdCanRx_eq (hb : r.at_ 0 1 = b) (hb3 : b ≤ 3) (hon : l.c (Can.canEnable b) ≠ 0) (hawake : (l.bus b).asleep = false)
    (hlen : r.len = 2) (hn : r.at_ 1 1 = n) (hn63 : n ≤ 63) (hen : bitAt (l.cn (Can.rxCfg b n)) 31 = true) :
    l.cmdCanRx r = ((l.canRead b n).1, Reply.ok (l.canRead b n).2) := by
  subst hb hn
  unfold Lane.cmdCanRx
  dsimp only
  rw [if_neg (by omega), if_neg (by omega), if_neg (by simp [hon, hen]), if_neg (by simp [hawake])]

/-- A read holds its object to the end of the lap (R419). -/
theorem Lane.mem_reading_canRead : n ∈ ((l.canRead b n).1.bus b).reading := by
  unfold Lane.canRead
  dsimp only
  rw [Lane.bus_setBus, if_pos rfl]
  dsimp only
  split
  · next h => simpa using h
  · simp

theorem Lane.busCmd_eq {f : Nat → Lane → Lane × Reply} (hb : r.at_ 0 1 = b) (hb3 : b ≤ 3) (hon : l.c (Can.canEnable b) ≠ 0) (hlen : r.len = 1) :
    l.busCmd r f = f b l := by
  subst hb
  unfold Lane.busCmd
  dsimp only
  rw [if_neg (by omega), if_neg (by omega), if_neg hon]

/-- A bus put to sleep by the host drops its requests (R425). -/
theorem Lane.canSleep_asleep (hon : l.c (Can.canEnable b) ≠ 0) : ((l.canSleep b).bus b).asleep = true ∧ ((l.canSleep b).bus b).pending = []
    ∧ (l.canSleep b).p (Can.canState b) = canAsleep := by
  unfold Lane.canSleep Lane.canRefresh Lane.canClear
  dsimp only
  rw [if_neg (by simpa using hon), if_pos (by simp)]
  simp

theorem Lane.canSleep_course : (l.canSleep b).course = l.course := Lane.canRefresh_course b _

theorem Lane.cmdMastWrite_eq (hlen : r.len = 2 + r.at_ 1 1) (h48 : r.at_ 1 1 ≤ 48) (hn : r.at_ 0 1 = n) (h1 : 1 ≤ n) (h16 : n ≤ 16)
    (hon : nodeOn l.cfg n = true) (hroom : (l.mastNodeSt n).queue.length < 4) :
    l.cmdMastWrite true r = (l.setMastNode n { l.mastNodeSt n with queue := (l.mastNodeSt n).queue ++ [r.body.drop 2] }, Reply.ok []) := by
  subst hn
  unfold Lane.cmdMastWrite
  dsimp only
  rw [if_neg (by decide), if_neg (by omega), if_neg (by omega), if_neg (by simp [hon]), if_neg (by omega)]

end BusCommands

/-- Settles O47: each command is admitted, does what it asks of the lanes, and is answered at once or later. -/
theorem powerAndBusCommands : Obligations.PowerAndBusCommands := by
  intro s i r hr
  refine ⟨fun h hlen hsa hsb => does_of_next rfl ?_, fun n h hn h1 h13 hlen hrange hfits => does_of_next rfl ?_,
    fun h hlen => does_of_next rfl ?_, fun hh h hlen hfree hallowed => does_of_next rfl ?_,
    fun b hb hb3 hon => ⟨fun hawake => ⟨fun n h hn hn63 hlen hen hdata => does_of_next rfl ?_, fun n h hlen hn hn63 hen => does_of_next rfl ?_,
      fun h hlen => does_of_next rfl ?_, fun h hlen hauto hoff => does_of_next rfl ?_⟩, fun h hlen => does_of_next rfl ?_⟩,
    fun n h hmast hlen h48 hn h1 h16 hon hroom => does_of_next rfl ?_⟩
  · have hcmd : doSleepEnter r s = (s.eachLane Lane.active (fun _ _ l =>
        (l.pow (fun x => { x with sleep := some { epoch := l.epoch + 2, req := some r } })).setp Pw.powerState pwPrep), none) := by
      simp [doSleepEnter, cmdSleepEnter, hlen, hsa, hsb]
    rw [State.run_of_wait h hr rfl hcmd, State.lane_drive_power, State.lane_drive_p _ _ _ (by decide), State.lane_eachLane,
      if_pos (State.active_of_refLane h.1)]
    exact ⟨rfl, by simp⟩
  · rw [State.lane_run_now (doTtWrite r) h hr rfl rfl (Lane.cmdTtWrite_eq hn h1 h13 hlen hrange hfits) rfl]
    obtain ⟨hpower, hentries⟩ := ((s.lane i).pow (fun x => { x with tt := (ttEntriesOf r).foldl ttPut (s.lane i).power.tt })).ttShow_entries
    simp only [Lane.answer_frame, Lane.answer_read, hpower, hentries]
    exact ⟨rfl, trivial⟩
  · have hcmd : (s.lane i).cmdTtClear r = (((s.lane i).pow (fun x => { x with tt := [] })).ttShow, Reply.ok []) := by
      simp [Lane.cmdTtClear, hlen]
    rw [State.lane_run_now (doTtClear r) h hr rfl rfl hcmd rfl]
    obtain ⟨hpower, hentries⟩ := ((s.lane i).pow (fun x => { x with tt := [] })).ttShow_entries
    simp only [Lane.answer_frame, Lane.answer_read, hpower, hentries]
    exact ⟨rfl, rfl, Lane.answered_answer ..⟩
  · have hgranted : (if s.arbiter.grant = some .B then s.b else s.a) = s.lane i := by
      rw [State.grant_of_holder s i hh]
      cases i <;> rfl
    have hcmd : doModuleRestart r s
        = (s.powBoth (fun _ x => { x with restart := some ((s.lane i).epoch + 1, r), restartAnswered := false }), none) := by
      simp [doModuleRestart, cmdModuleRestart, hgranted, hlen, hfree, hallowed]
    rw [State.run_of_wait h hr rfl hcmd, State.lane_drive_power, State.powBoth, State.lane_eachLane,
      if_pos (Lane.present_of_active (State.active_of_holder hh))]
    rfl
  · rw [State.lane_run_now (doCanTxWrite r) h hr rfl rfl (Lane.cmdCanTx_eq hb hb3 hon hawake hn hn63 hlen hen hdata)
      (Lane.active_of_course Lane.canWrite_course)]
    exact ⟨Lane.answered_answer .., Lane.canWrite_due⟩
  · rw [State.lane_run_now (doCanRxRead r) h hr rfl rfl (Lane.cmdCanRx_eq hb hb3 hon hawake hlen hn hn63 hen) rfl]
    exact ⟨Lane.mem_reading_canRead, Lane.answered_answer ..⟩
  · have hcmd : (s.lane i).cmdCanSleep r = ((s.lane i).canSleep b, Reply.ok []) := by
      rw [Lane.cmdCanSleep, Lane.busCmd_eq hb hb3 hon hlen, if_neg (by simp [hawake])]
    rw [State.lane_run_now (doCanSleep r) h hr rfl rfl hcmd (Lane.active_of_course Lane.canSleep_course)]
    obtain ⟨hasleep, hnone, hstate⟩ := Lane.canSleep_asleep hon
    exact ⟨hasleep, hnone, hstate, Lane.answered_answer ..⟩
  · have hcmd : (s.lane i).cmdCanRecover r = ((s.lane i).setBus b { (s.lane i).bus b with recovering := true }, Reply.ok []) := by
      rw [Lane.cmdCanRecover, Lane.busCmd_eq hb hb3 hon hlen, if_neg (by simp [hawake]), if_neg (by simp [hauto, hoff])]
    rw [State.lane_run_now (doCanRecover r) h hr rfl rfl hcmd rfl]
    exact ⟨by simp, Lane.answered_answer ..⟩
  · have hcmd : (s.lane i).cmdCanWake r = ((s.lane i).canWake b, Reply.ok []) := by
      rw [Lane.cmdCanWake, Lane.busCmd_eq hb hb3 hon hlen]
    rw [State.lane_run_now (doCanWake r) h hr rfl rfl hcmd (Lane.active_of_course (Lane.canWake_course b _))]
    exact ⟨Lane.canWake_awake b _, Lane.answered_answer ..⟩
  · have hcmd := Lane.cmdMastWrite_eq hlen h48 hn h1 h16 hon hroom
    rw [State.lane_run_now (doMastWrite r) h hr rfl (by rw [doMastWrite, hmast]) hcmd rfl]
    exact ⟨by simp [Lane.mastNodeSt, Lane.setMastNode], Lane.answered_answer ..⟩

end Sys2Proof.Machine
end

section
/-!
16_relay_teams.md: levels, keys and frames of a relay team.
-/

namespace Sys2Proof.Machine
open Sys2Proof

/-! ### Levels and members (R393) -/

section Levels

variable (l : Lane)

@[simp] theorem Lane.lvl_setLvl (k : Nat) (x : TeamLevel) (j : Nat) : (l.setLvl k x).lvl j = if j = k then x else l.lvl j := by
  simp [Lane.lvl, Lane.setLvl]

theorem Lane.lvl_of_team {l m : Lane} (h : m.team = l.team) (k : Nat) : m.lvl k = l.lvl k := by rw [Lane.lvl, Lane.lvl, h]

@[simp] theorem Lane.teamMember_setTeamMember (k m : Nat) (x : TeamMember) (j n : Nat) :
    (l.setTeamMember k m x).teamMember j n = if j = k ∧ n = m then x else l.teamMember j n := by
  unfold Lane.teamMember Lane.setTeamMember
  rw [Lane.lvl_setLvl]
  by_cases hj : j = k
  · subst hj
    by_cases hn : n = m <;> simp [hn]
  · simp [hj]

/-- Of its level a member's record is the record alone. -/
theorem Lane.lvl_setTeamMember (k m : Nat) (x : TeamMember) (j : Nat) :
    (l.setTeamMember k m x).lvl j = { l.lvl j with members := ((l.setTeamMember k m x).lvl j).members } := by
  unfold Lane.setTeamMember
  rw [Lane.lvl_setLvl]
  split
  · next h => rw [h]
  · rfl

end Levels

/-! ### What team traffic reaches -/

/-- The records and points of keys, team, safety telegrams, acquisition and trace (R391, R413, R454). -/
def LaneUnit.teamwork : LaneUnit Lane where
  rest l := { l with pts := [], stat := [], host := {}, keys := {}, team := {}, safe := {}, acq := {}, trace := {} }
  own a := decide (0x90500 ≤ a ∧ a < 0x90800)
  rest_besideEvents _ _ := rfl

/-- The records and points of the key store. -/
def LaneUnit.keyStore : LaneUnit Lane where
  rest l := { l with pts := [], stat := [], host := {}, keys := {} }
  own a := decide (0x90500 ≤ a ∧ a < 0x90600)
  rest_besideEvents _ _ := rfl

section Keys

variable (l : Lane)

theorem LaneUnit.keyStore_setp {a : Nat} (v : Int) (ha : 0x90500 ≤ a ∧ a < 0x90600) : keyStore.outside (l.setp a v) = keyStore.outside l :=
  keyStore.outside_setp l v (decide_eq_true ha)

theorem LaneUnit.keyStore_p {l m : Lane} (h : keyStore.outside m = keyStore.outside l) {a : Nat} (ha : a < 0x90500 ∨ 0x90600 ≤ a) :
    m.p a = l.p a :=
  LaneUnit.keepsPoints _ h (P := fun a => 0x90500 ≤ a ∧ a < 0x90600) (fun _ ha => of_decide_eq_true ha) a (by omega)

theorem Lane.keyPoints_keyStore : LaneUnit.keyStore.outside l.keyPoints = LaneUnit.keyStore.outside l := by
  unfold Lane.keyPoints
  rw [LaneUnit.keyStore_setp _ _ (by decide), LaneUnit.keyStore_setp _ _ (by decide), LaneUnit.keyStore_setp _ _ (by decide)]

theorem Lane.eraseKey_keyStore (k : Nat) : LaneUnit.keyStore.outside (l.eraseKey k) = LaneUnit.keyStore.outside l := by
  unfold Lane.eraseKey
  split
  · rfl
  · exact Lane.keyPoints_keyStore _

theorem Lane.askKey_keyStore (e k op : Nat) : LaneUnit.keyStore.outside (l.askKey e k op).1 = LaneUnit.keyStore.outside l := by
  unfold Lane.askKey Lane.keyDelivery
  dsimp only
  split
  · rfl
  · split
    · split <;> rfl
    · rw [LaneUnit.keyStore_setp _ _ (by decide)]
      exact LaneUnit.keyStore_setp l _ (by decide)

theorem Lane.teamKey_keyStore (k : Nat) : LaneUnit.keyStore.outside (l.teamKey k).1 = LaneUnit.keyStore.outside l := by
  unfold Lane.teamKey
  dsimp only
  split_ifs
  · exact l.askKey_keyStore ..
  · exact (Lane.keyPoints_keyStore _).trans (l.askKey_keyStore ..)
  · exact l.askKey_keyStore ..

theorem Lane.team_of_keyStore {l m : Lane} (h : LaneUnit.keyStore.outside m = LaneUnit.keyStore.outside l) : m.team = l.team :=
  (congrArg Lane.team (LaneUnit.rest_eq _ h) :)

theorem LaneUnit.teamwork_of_keyStore {l m : Lane} (h : keyStore.outside m = keyStore.outside l) : teamwork.outside m = teamwork.outside l := by
  refine Prod.ext ?_ (funext fun a => ?_)
  · exact (congrArg (fun l : Lane => { l with team := {}, safe := {}, acq := {}, trace := {} }) (LaneUnit.rest_eq _ h) :)
  · simp only [LaneUnit.outside, LaneUnit.teamwork, decide_eq_true_eq]
    split
    · rfl
    · exact LaneUnit.keyStore_p h (by omega)

end Keys

/-! ### Frames that are sent (R396, R400) -/

/-- The two copies of a frame of level `k`, one in each direction. -/
def Lane.teamFrames (k kind net dest : Nat) (body : List Field) (l : Lane) : List SentFrame :=
  let f : SentFrame := {
    level := k, kind := kind, dir := 0, lap := l.lap, seq := (l.lvl k).seq + 1, net := net, dest := dest, epoch := l.teamEpoch k
    keyGen := (l.lvl k).keyGen, body := body }
  [f, { f with dir := 1 }]

/-- The team record with frames of level `k` built, and sent where the lane drives the transmitters. -/
def TeamSt.sending (k : Nat) (fs : List SentFrame) (driven : Bool) (x : TeamSt) : TeamSt :=
  { x with
    levels := UMap.put (fun _ => {}) x.levels k
      { UMap.get (fun _ => {}) x.levels k with seq := (UMap.get (fun _ => ({} : TeamLevel)) x.levels k).seq + 1 }
    built := (fs ++ x.built).take 64
    sent := if driven then (fs ++ x.sent).take 64 else x.sent }

section Send

variable (l : Lane) (k kind net dest : Nat) (body : List Field)

/-- Without a usable key a frame asks for one, and nothing is sent (R386). -/
theorem Lane.teamSend_of_refused (h : (l.teamKey k).2 = false) : l.teamSend k kind net dest body = (l.teamKey k).1 := by
  simp [Lane.teamSend, h]

theorem Lane.teamSend_of_key (h : (l.teamKey k).2 = true) : l.teamSend k kind net dest body
    = { (l.teamKey k).1 with
        team := (l.teamKey k).1.team.sending k ((l.teamKey k).1.teamFrames k kind net dest body) (l.teamKey k).1.link.grant } := by
  unfold Lane.teamSend
  generalize l.teamKey k = a at h ⊢
  obtain ⟨m, ok⟩ := a
  have hok : ok = true := h
  subst hok
  cases hg : m.link.grant <;> simp [Lane.setLvl, TeamSt.sending, Lane.teamFrames, Lane.lvl, Lane.teamEpoch, Lane.p, Lane.epoch, hg]

theorem TeamSt.lvl_sending (k : Nat) (fs : List SentFrame) (driven : Bool) (x : TeamSt) (j : Nat) :
    UMap.get (fun _ => {}) (x.sending k fs driven).levels j
      = { UMap.get (fun _ => {}) x.levels j with
          seq := (UMap.get (fun _ => ({} : TeamLevel)) x.levels j).seq + if j = k then 1 else 0 } := by
  unfold TeamSt.sending
  rw [UMap.get_put]
  split
  · next h => rw [h]
  · rfl

/-- Of its levels a frame that is sent moves the number `seq` alone. -/
theorem Lane.lvl_teamSend (j : Nat) :
    (l.teamSend k kind net dest body).lvl j = { l.lvl j with seq := ((l.teamSend k kind net dest body).lvl j).seq } := by
  have hteam := Lane.team_of_keyStore (l.teamKey_keyStore k)
  cases h : (l.teamKey k).2 with
  | false => rw [Lane.teamSend_of_refused l k kind net dest body h, Lane.lvl_of_team hteam]
  | true =>
    have hlvl : (l.teamSend k kind net dest body).lvl j
        = { l.lvl j with seq := (l.lvl j).seq + if j = k then 1 else 0 } := by
      rw [Lane.teamSend_of_key l k kind net dest body h, Lane.lvl, TeamSt.lvl_sending, hteam]
      rfl
    rw [hlvl]

end Send

/-! ### Triggers stay in the team's, the acquisition's and the trace's records (R410, R449) -/

section Triggers

variable (l : Lane)

theorem LaneUnit.teamwork_setp {a : Nat} (v : Int) (ha : 0x90500 ≤ a ∧ a < 0x90800) : teamwork.outside (l.setp a v) = teamwork.outside l :=
  teamwork.outside_setp l v (decide_eq_true ha)

theorem Lane.showAcq_teamwork : LaneUnit.teamwork.outside l.showAcq = LaneUnit.teamwork.outside l := by
  unfold Lane.showAcq
  rw [LaneUnit.teamwork_setp _ _ (by decide), LaneUnit.teamwork_setp _ _ (by decide)]

theorem Lane.teamSend_teamwork (k kind net dest : Nat) (body : List Field) :
    LaneUnit.teamwork.outside (l.teamSend k kind net dest body) = LaneUnit.teamwork.outside l := by
  have hkey := LaneUnit.teamwork_of_keyStore (l.teamKey_keyStore k)
  cases h : (l.teamKey k).2 with
  | false => rwa [Lane.teamSend_of_refused l k kind net dest body h]
  | true => rw [Lane.teamSend_of_key l k kind net dest body h, ← hkey]; rfl

theorem Lane.sendTrigger_teamwork (ks : List Nat) (id : Nat) (tag : Int) (path : Lane → Nat → Nat) :
    LaneUnit.teamwork.outside (l.sendTrigger ks id tag path) = LaneUnit.teamwork.outside l :=
  LaneUnit.outside_forL _ _ (fun _ _ l => l.teamSend_teamwork ..) l

theorem Lane.noteTrigger_teamwork (id : Nat) (tag : Int) (path : Nat) :
    LaneUnit.teamwork.outside (l.noteTrigger id tag path) = LaneUnit.teamwork.outside l := by
  unfold Lane.noteTrigger
  refine LaneUnit.outside_forL _ _ (fun k _ l => ?_) l
  rfl

theorem Lane.acqMarker_teamwork (flags : Nat) (time : Int) :
    LaneUnit.teamwork.outside (l.acqMarker flags time) = LaneUnit.teamwork.outside l := by
  unfold Lane.acqMarker
  split <;> rfl

theorem Lane.traceTrigger_teamwork (source : Nat) : LaneUnit.teamwork.outside (l.traceTrigger source) = LaneUnit.teamwork.outside l := by
  unfold Lane.traceTrigger
  refine LaneUnit.outside_ite rfl (LaneUnit.outside_ite (LaneUnit.teamwork_setp _ _ (by decide)) ?_)
  rw [LaneUnit.teamwork_setp _ _ (by decide), LaneUnit.teamwork_setp _ _ (by decide)]
  rfl

theorem Lane.trigOut_teamwork (event : Int) : LaneUnit.teamwork.outside (l.trigOut event) = LaneUnit.teamwork.outside l := by
  unfold Lane.trigOut
  dsimp only
  split_ifs <;> rfl

theorem Lane.acqAccept_teamwork (source : Nat) (time : Int) :
    LaneUnit.teamwork.outside (l.acqAccept source time) = LaneUnit.teamwork.outside l := by
  have haccepted : ∀ (source : Nat) (time : Int) (r : AcqRecord),
      LaneUnit.teamwork.outside ((((((({ l with acq := { l.acq with met := none } }).setRecord r).acqMarker
      4 time).showAcq.fire 110 source [(source : Int)]).traceTrigger 2).trigOut 1)) = LaneUnit.teamwork.outside l := fun source time r => by
    rw [Lane.trigOut_teamwork, Lane.traceTrigger_teamwork, LaneUnit.outside_fire, Lane.showAcq_teamwork, Lane.acqMarker_teamwork]
    rfl
  unfold Lane.acqAccept
  dsimp only
  split
  · rfl
  · refine LaneUnit.outside_ite (LaneUnit.teamwork_setp _ _ (by decide)) (LaneUnit.outside_ite rfl ?_)
    split
    · refine LaneUnit.outside_ite (haccepted ..) ?_
      rw [Lane.sendTrigger_teamwork, Lane.noteTrigger_teamwork]
      exact haccepted ..
    · exact haccepted ..

theorem Lane.relayTrigger_teamwork (k id path : Nat) (tag : Int) :
    LaneUnit.teamwork.outside (l.relayTrigger k id path tag) = LaneUnit.teamwork.outside l :=
  l.sendTrigger_teamwork ..

theorem Lane.teamTrigger_teamwork (k id path : Nat) (tag : Int) :
    LaneUnit.teamwork.outside (l.teamTrigger k id path tag) = LaneUnit.teamwork.outside l := by
  unfold Lane.teamTrigger
  dsimp only
  split
  · rfl
  · refine LaneUnit.outside_ite rfl (LaneUnit.outside_ite ?_ ?_)
    · rw [Lane.relayTrigger_teamwork]
      exact LaneUnit.teamwork_setp _ _ (by decide)
    · split
      · rw [Lane.relayTrigger_teamwork]
        exact LaneUnit.outside_ite ((Lane.acqAccept_teamwork ..).trans (l.noteTrigger_teamwork ..)) (l.noteTrigger_teamwork ..)
      · refine LaneUnit.outside_ite ?_ (LaneUnit.teamwork_setp _ _ (by decide))
        split
        · refine LaneUnit.outside_ite rfl ?_
          rw [Lane.relayTrigger_teamwork, Lane.acqMarker_teamwork]
          exact l.noteTrigger_teamwork ..
        · rw [Lane.relayTrigger_teamwork, Lane.noteTrigger_teamwork]

/-- Team traffic leaves a lane computing. -/
theorem Lane.active_of_teamwork {l m : Lane} (h : LaneUnit.teamwork.outside m = LaneUnit.teamwork.outside l) : m.active = l.active :=
  (congrArg Lane.active (LaneUnit.rest_eq _ h) :)

end Triggers

end Sys2Proof.Machine
end

section
/-!
14_lanes_and_baton.md, 16_relay_teams.md: the host's commands on lanes and the team.
-/

namespace Sys2Proof.Machine
open Sys2Proof

/-! ### A sleep entry that a command ends (R464) -/

/-- Of the lane nothing differs but the power record and the rings. -/
def Lane.SleepOnly (l m : Lane) : Prop := m = { l with host := m.host, power := m.power }

theorem LaneRel.sleepOnly : LaneRel (fun _ => Lane.SleepOnly) where
  rings h := by rw [Lane.SleepOnly, h.eq]
  trans h h' := by rw [Lane.SleepOnly, h', h]

section Cancel

variable (s : State) (j : LaneId)

theorem State.cancelSleep_lane :
    s.cancelSleep.lane j = { s.lane j with host := (s.cancelSleep.lane j).host, power := (s.cancelSleep.lane j).power } :=
  (LaneRel.sleepOnly.cancelSleep (fun _ _ _ => rfl) s).2 j

theorem State.cancelSleep_link : (s.cancelSleep.lane j).link = (s.lane j).link := by rw [s.cancelSleep_lane j]

theorem State.cancelSleep_active : (s.cancelSleep.lane j).active = (s.lane j).active := by rw [s.cancelSleep_lane j]; rfl

theorem State.cancelSleep_present : (s.cancelSleep.lane j).present = (s.lane j).present := by rw [s.cancelSleep_lane j]; rfl

theorem State.cancelSleep_p (a : Nat) : (s.cancelSleep.lane j).p a = (s.lane j).p a := by rw [s.cancelSleep_lane j]; rfl

theorem State.cancelSleep_team : (s.cancelSleep.lane j).team = (s.lane j).team := by rw [s.cancelSleep_lane j]

theorem State.cancelSleep_cfg : (s.cancelSleep.lane j).cfg = (s.lane j).cfg := by rw [s.cancelSleep_lane j]

theorem State.cancelSleep_lvl (k : Nat) : (s.cancelSleep.lane j).lvl k = (s.lane j).lvl k := Lane.lvl_of_team (s.cancelSleep_team j) k

theorem State.cancelSleep_teamEpoch (k : Nat) :
    (s.cancelSleep.lane j).teamEpoch k = (s.lane j).teamEpoch k := by rw [s.cancelSleep_lane j]; rfl

theorem State.cancelSleep_variant : s.cancelSleep.chassis.variant = s.chassis.variant := by
  rw [(LaneRel.sleepOnly.cancelSleep (fun _ _ _ => rfl) s).1]

theorem State.cancelSleep_eligible : s.cancelSleep.eligible j = s.eligible j := by
  unfold State.eligible State.liveNow State.lapNow fwShare
  simp only [State.cancelSleep_link, State.cancelSleep_active, State.cancelSleep_p, State.cancelSleep_arbiter]

end Cancel

/-! ### Commands that name a lane (R371) -/

section Named

variable {s t : State} {i j : LaneId} {r : Request} {f : LaneId → StateCmd}

theorem namedLane_eq (hr : r.lane = j.num + 1) (hp : (s.lane j).present = true) : namedLane r f s = f j s := by
  unfold namedLane
  cases j <;> simp [hr, LaneId.num] at hp ⊢ <;> simp [hp]

end Named

/-! ### What of a lane a command's answer leaves -/

section Answered

variable (s : State) (i : LaneId)

/-- Showing the outputs reaches no ring. -/
theorem State.lane_drive_host : (s.drive.lane i).host = (s.lane i).host := by
  have hfell : ∀ (driven tripped : Nat → Bool) o (l : Lane), (l.outputsFell driven tripped o).host = l.host := fun driven tripped o l => by
    simp [Lane.outputsFell]
  have hshow : ∀ (driven pulsed tripped : Nat → Bool) n (l : Lane), (l.showOutputs driven pulsed tripped n).host = l.host :=
    fun driven pulsed tripped n l => by
      change (Lane.forN n _ (l.setp _ _)).host = l.host
      refine Lane.forN_kept Lane.host n (fun o l => ?_) (l.setp _ _)
      exact hfell driven tripped o l
  cases i <;> exact hshow ..

theorem State.answered_drive {r : Request} {rep : Reply} (h : Answered (s.lane i) r rep) : Answered (s.drive.lane i) r rep := by
  unfold Answered Lane.ring at h ⊢
  rwa [State.lane_drive_host]

theorem State.answered_answerBoth {r : Request} (rep : Reply) (ha : (s.lane i).active = true) : Answered ((s.answerBoth r rep).lane i) r rep := by
  rw [State.answerBoth, State.lane_eachLane, if_pos ha]
  exact Lane.answered_answer ..

/-- An answer and the events of a firmware step leave the link record. -/
theorem State.answerBoth_link (r : Request) (rep : Reply) : ((s.answerBoth r rep).lane i).link = (s.lane i).link :=
  ((LaneRel.ringsOnly.answerBoth s r rep).2 i).link

/-- An answer, where there is one, leaves the levels of the team. -/
theorem State.lvl_of_answer (r : Request) (rep : Option Reply) (k : Nat) :
    ((rep.elim s (fun rep => s.answerBoth r rep)).lane i).lvl k = (s.lane i).lvl k := by
  cases rep with
  | none => rfl
  | some rep =>
    have heq := ((LaneRel.ringsOnly.answerBoth s r rep).2 i).eq
    exact Lane.lvl_of_team (congrArg Lane.team heq :) k

theorem State.fwStep_ringsOnly (j : LaneId) (k : Nat) : (s.lane i).RingsOnly ((s.fwStep j k).lane i) :=
  (LaneRel.ringsOnly.fireBoth s 123 j.num [Config.eventCause (20 + k)]).2 i

theorem State.fwStep_link (j : LaneId) (k : Nat) : ((s.fwStep j k).lane i).link = (s.lane i).link := (s.fwStep_ringsOnly i j k).link

theorem State.fwStep_active (j : LaneId) (k : Nat) : ((s.fwStep j k).lane i).active = (s.lane i).active := by
  rw [(s.fwStep_ringsOnly i j k).eq]; rfl

end Answered

/-! ### Handover (R371) -/

/-- A holder that is asked for the baton has a give-up latched (R359, R360 cause 14). -/
theorem State.diagnose_handover {s : State} {h : LaneId} (hh : (s.lane h).link.state = .holder) :
    s.diagnose h 14 = s.onLane h (fun _ => true) (fun _ _ l => l.lnk (fun x => { x with giveUp := some (stronger x.giveUp 14) })) := by
  unfold State.diagnose
  simp [hh]

theorem doBatonHandover_eq {s : State} {j : LaneId} {r : Request} (hr : r.lane = j.num + 1) (hp : (s.lane j).present = true) (hlen : r.len = 0)
    (hgrant : s.arbiter.grant = some j.other) (hel : s.eligible j = true) :
    doBatonHandover r s = ((s.eachLane Lane.active (fun _ _ l => l.lnk (fun x => { x with handover := some r }))).diagnose j.other 14, none) := by
  unfold doBatonHandover cmdHandover
  rw [namedLane_eq hr hp]
  dsimp only
  rw [if_neg (by simp [hlen]), if_neg (by simp [hgrant]), if_neg (by simp [hel])]

/-! ### Images (R369, R371) -/

section Images

@[simp] theorem LinkSt.bank_setBank (kind b : Nat) (v : Bank) (x : LinkSt) : (x.setBank kind b v).bank kind b = v := by
  unfold LinkSt.setBank LinkSt.bank
  split <;> simp

theorem Lane.setBank_active (kind b : Nat) (v : Bank) (l : Lane) : (l.lnk (LinkSt.setBank kind b v)).active = l.active := by
  have hplace : ((l.link.setBank kind b v).halted, (l.link.setBank kind b v).state) = (l.link.halted, l.link.state) := by
    unfold LinkSt.setBank
    split <;> rfl
  obtain ⟨hhalted, hstate⟩ := Prod.ext_iff.mp hplace
  change (l.pacer.laps && (l.link.setBank kind b v).halted.isNone && (match (l.link.setBank kind b v).state with
    | .absent => false | .reset => false | _ => true)) = l.active
  rw [show (l.link.setBank kind b v).halted = l.link.halted from hhalted, show (l.link.setBank kind b v).state = l.link.state from hstate]
  rfl

variable {s : State} {j : LaneId} {r : Request} {kind b : Nat}

theorem doFwLoad_eq {ofs n : Nat} (hr : r.lane = j.num + 1) (hp : (s.lane j).present = true) (hkind : r.at_ 0 1 = kind) (hb : r.at_ 1 1 = b)
    (hofs : r.at_ 4 4 = ofs) (hn : r.at_ 8 2 = n) (h1 : 1 ≤ n) (h208 : n ≤ 208) (hlen : r.len = 16 + n) (hk : kind ≤ 1) (hb1 : b ≤ 1)
    (hidle : (s.lane j).runningBank kind ≠ b)
    (hend : ofs + n ≤ 2147483648) (horder : ofs = 0 ∨ ofs = ((s.lane j).link.bank kind b).data.length) :
    doFwLoad r s = ((s.onLane j (fun _ => true) (fun _ _ l => l.lnk (LinkSt.setBank kind b
      { data := (if ofs = 0 then [] else ((s.lane j).link.bank kind b).data) ++ r.body.drop 16 }))).fwStep j 0, some (Reply.ok [])) := by
  subst hkind hb hofs hn
  have hnext : r.at_ 4 4 = (if r.at_ 4 4 = 0 then [] else ((s.lane j).link.bank (r.at_ 0 1) (r.at_ 1 1)).data).length := by
    split
    · simpa
    · omega
  unfold doFwLoad cmdFwLoad
  rw [namedLane_eq hr hp]
  dsimp only
  rw [if_neg (by omega), if_neg (by omega), if_neg hidle, if_neg (by rw [← hnext]; omega)]

/-- The keys that the roles of image updates name (R378). -/
def Lane.updateKeys (l : Lane) : List Nat :=
  ((List.range 4).filter (fun k => decide (l.c (Key.roleUpdate k) ≠ 0xFFFFFFFF))).map (fun k => l.role (Key.roleUpdate k))

/-- The verifier's result entered in its bank, after it has asked for the keys (R378, R379). -/
def State.imageChecked (kind b : Nat) (v : Bank) (j : LaneId) (s : State) : State :=
  (s.onLane j (fun _ => true) (fun _ _ l =>
    (l.forL (s.lane j).updateKeys (fun k l => l.keyDelivery engVerify k 2)).lnk (LinkSt.setBank kind b v))).fwStep j 1

theorem Lane.keyDelivery_course (e k op : Nat) (l : Lane) : (l.keyDelivery e k op).course = l.course := by
  unfold Lane.keyDelivery
  dsimp only
  repeat' split
  all_goals rfl

theorem State.imageChecked_bank (v : Bank) : (((s.imageChecked kind b v j).lane j).link.bank kind b) = v := by
  rw [State.imageChecked, State.fwStep_link, State.lane_onLane, if_pos ⟨rfl, rfl⟩]
  exact LinkSt.bank_setBank kind b v _

theorem State.imageChecked_active (v : Bank) (i : LaneId) : ((s.imageChecked kind b v j).lane i).active = (s.lane i).active := by
  have hask : ∀ l : Lane, (l.forL (s.lane j).updateKeys (fun k l => l.keyDelivery engVerify k 2)).active = l.active := fun l =>
    Lane.active_of_course (Lane.forL_kept Lane.course _ (fun k l => l.keyDelivery_course engVerify k 2) l)
  rw [State.imageChecked, State.fwStep_active, State.lane_onLane]
  split
  · next h => rw [Lane.setBank_active, hask, h.1]
  · rfl

/-- Without the verifier's consent the image is bad (R369). -/
theorem doFwVerify_bad (hr : r.lane = j.num + 1) (hp : (s.lane j).present = true) (hlen : r.len = 8) (hkind : r.at_ 0 1 = kind)
    (hb : r.at_ 1 1 = b) (hk : kind ≤ 1) (hb1 : b ≤ 1) (hno : r.verdict = false) :
    doFwVerify r s = (s.imageChecked kind b { (s.lane j).link.bank kind b with verified := false } j, some (Reply.just st_IMAGE_BAD)) := by
  subst hkind hb
  unfold doFwVerify cmdFwVerify
  rw [namedLane_eq hr hp]
  dsimp only
  rw [if_neg (by omega), if_neg (by omega), if_pos (by simp [hno])]
  rfl

/-- With a key of the family and the length that was loaded, the verifier's consent makes the image good (R369, R379). -/
theorem doFwVerify_good {k : Nat} (hr : r.lane = j.num + 1) (hp : (s.lane j).present = true) (hlen : r.len = 8) (hkind : r.at_ 0 1 = kind)
    (hb : r.at_ 1 1 = b) (hk : kind ≤ 1) (hb1 : b ≤ 1) (hyes : r.verdict = true) (hk4 : k < 4)
    (hkey : (s.lane j).deliveryStatus engVerify ((s.lane j).role (Key.roleUpdate k)) 2 = st_OK)
    (hsize : ((s.lane j).link.bank kind b).data.length = r.at_ 4 4) :
    ∃ v rep, v.verified = true ∧ doFwVerify r s = (s.imageChecked kind b v j, some rep) := by
  subst hkind hb
  have hrole : (s.lane j).c (Key.roleUpdate k) ≠ 0xFFFFFFFF := by
    intro hnone
    have hzero : (s.lane j).role (Key.roleUpdate k) = 0 := by simp [Lane.role, hnone]
    rw [hzero] at hkey
    simp [Lane.deliveryStatus, st_KEY_NONE, st_OK] at hkey
  have hany : (s.lane j).updateKeys.any (fun k => decide ((s.lane j).deliveryStatus engVerify k 2 = st_OK)) = true := by
    rw [List.any_eq_true]
    refine ⟨_, List.mem_map.mpr ⟨k, ?_, rfl⟩, decide_eq_true hkey⟩
    exact List.mem_filter.mpr ⟨List.mem_range.mpr hk4, decide_eq_true hrole⟩
  unfold Lane.updateKeys at hany
  unfold doFwVerify cmdFwVerify
  rw [namedLane_eq hr hp]
  dsimp only
  rw [if_neg (by omega), if_neg (by omega), if_neg (by rw [hyes, hany, decide_eq_true hsize]; decide)]
  exact ⟨_, _, rfl, rfl⟩

end Images

/-! ### A lane reset for its image (R369, R371) -/

/-- All points but the number of the running bank. -/
def LaneUnit.runningBank : LaneUnit Unit where
  rest _ := ()
  own a := decide (a ≠ Hp.fwBank)
  rest_besideEvents _ _ := rfl

section Activate

variable (l : Lane)

theorem LaneUnit.runningBank_setp {a : Nat} (v : Int) (ha : a ≠ Hp.fwBank) : runningBank.outside (l.setp a v) = runningBank.outside l :=
  runningBank.outside_setp l v (decide_eq_true ha)

theorem LaneUnit.fwBank_of_runningBank {l m : Lane} (h : runningBank.outside m = runningBank.outside l) : m.p Hp.fwBank = l.p Hp.fwBank :=
  LaneUnit.keepsPoints _ h (P := fun a => a ≠ Hp.fwBank) (fun _ ha => of_decide_eq_true ha) _ (by simp)

theorem Lane.pacerTo_runningBank (st : Int) : LaneUnit.runningBank.outside (l.pacerTo st) = LaneUnit.runningBank.outside l := by
  unfold Lane.pacerTo
  split
  · rfl
  · exact (LaneUnit.outside_fire ..).trans (LaneUnit.runningBank_setp l st (by decide))

theorem Lane.linksDown_runningBank : LaneUnit.runningBank.outside l.linksDown = LaneUnit.runningBank.outside l := by
  unfold Lane.linksDown
  extract_lets l1 known
  have h1 : LaneUnit.runningBank.outside l1 = LaneUnit.runningBank.outside l := by
    simp only [l1]
    refine LaneUnit.outside_forN _ 32 (fun h hh l => ?_) l
    have hne : Hub.linkState h ≠ Hp.fwBank ∧ Hub.linkFault h ≠ Hp.fwBank ∧ Hub.blind h ≠ Hp.fwBank := by
      unfold Hub.linkState Hub.linkFault Hub.blind Hp.fwBank
      omega
    split_ifs
    · rfl
    · simp [LaneUnit.runningBank_setp, hne]
  clear_value known l1
  exact h1

variable (s : State) (i : LaneId) (fault : Bool)

/-- A lane that is cleared keeps the number of its bank and the request that waits for its start. -/
theorem State.laneCleared_image : ((s.laneCleared i fault).lane i).p Hp.fwBank = (s.lane i).p Hp.fwBank
    ∧ ((s.laneCleared i fault).lane i).link.fwAnswer = (s.lane i).link.fwAnswer := by
  unfold State.laneCleared
  extract_lets s0 s1
  have h0 : (s0.lane i).p Hp.fwBank = (s.lane i).p Hp.fwBank ∧ (s0.lane i).link = (s.lane i).link := by
    simp only [s0, State.lane_eachLane]
    split
    · exact ⟨LaneUnit.keepsPoints _ (Lane.tuneAbort_inside_tuning 5 (s.lane i)) (P := fun a => 0x90700 ≤ a ∧ a < 0x90800)
        (fun a ha => of_decide_eq_true ha) _ (by decide), ((s.lane i).tuneAbort_domains 5).2⟩
    · exact ⟨rfl, rfl⟩
  have h1 : (s1.lane i).p Hp.fwBank = (s0.lane i).p Hp.fwBank ∧ (s1.lane i).link.fwAnswer = (s0.lane i).link.fwAnswer := by
    simp only [s1]
    rw [State.lane_onLane, if_pos ⟨rfl, rfl⟩]
    refine ⟨LaneUnit.fwBank_of_runningBank ?_, ?_⟩
    · simp only [Lane.showAcq]
      rw [LaneUnit.runningBank_setp _ _ (by decide), LaneUnit.runningBank_setp _ _ (by decide), LaneUnit.runningBank_setp _ _ (by decide),
        LaneUnit.runningBank_setp _ _ (by decide), LaneUnit.runningBank_setp _ _ (by decide), Lane.linksDown_runningBank,
        Lane.pacerTo_runningBank]
      rfl
    · rw [Lane.showAcq_link]
      simp
  have hboth : (s1.lane i).p Hp.fwBank = (s.lane i).p Hp.fwBank ∧ (s1.lane i).link.fwAnswer = (s.lane i).link.fwAnswer :=
    ⟨h1.1.trans h0.1, h1.2.trans (congrArg _ h0.2)⟩
  clear_value s1
  split
  · exact hboth
  · simpa [State.lane_onLane] using hboth

theorem LaneRel.fwAnswer : LaneRel (fun _ l m => m.link.fwAnswer = l.link.fwAnswer) := ⟨fun h => by rw [h.link], fun h h' => h'.trans h⟩

/-- The request that waits for a lane's start is answered at its entry to state 2 alone. -/
theorem State.laneTo_fwAnswer {st : LaneState} (hst : st ≠ .resync) (ph : Phase) :
    s.LaneWise (fun _ l m => m.link.fwAnswer = l.link.fwAnswer) (s.laneTo i st ph) := by
  have hR := LaneRel.fwAnswer
  unfold State.laneTo
  extract_lets old up s1 s2
  have h1 : s.LaneWise (fun _ l m => m.link.fwAnswer = l.link.fwAnswer) s1 := hR.onLane _ _ _ fun l => by
    extract_lets l0 l1 l2 l3
    have hl0 : l0.link = l.link := by
      unfold l0
      split_ifs <;> rfl
    have hl2 : l2.link.fwAnswer = l.link.fwAnswer := by
      unfold l2 l1
      rw [(Lane.setp_frame ..).2.2.2.2.2.2.2.2.1, Lane.showState_link, Lane.link_lnk, hl0]
    have hl3 : l3.link = l2.link := by
      unfold l3
      rw [if_neg (by simp [hst]), Lane.linksUp_link]
    split_ifs
    · exact (congrArg LinkSt.fwAnswer hl3).trans hl2
    · exact (congrArg LinkSt.fwAnswer hl3).trans hl2
  have h2 : s.LaneWise (fun _ l m => m.link.fwAnswer = l.link.fwAnswer) s2 := by
    simp only [s2]
    split
    · exact h1
    · exact hR.state_trans h1 (hR.state_trans (hR.alsoFire ..) (hR.fireBoth ..))
  clear_value s2
  split
  · rw [if_neg (by simp [hst])]
    exact h2
  · exact h2

theorem State.laneReset_image : ((s.laneReset i fault).lane i).p Hp.fwBank = (s.lane i).p Hp.fwBank
    ∧ ((s.laneReset i fault).lane i).link.fwAnswer = (s.lane i).link.fwAnswer := by
  obtain ⟨hbank, hanswer⟩ := s.laneCleared_image i fault
  exact ⟨((s.laneCleared i fault).laneTo_p i .reset .boot i (by decide)).trans hbank,
    (((s.laneCleared i fault).laneTo_fwAnswer i (by decide) .boot).2 i).trans hanswer⟩

end Activate

section Commands

variable {s : State} {j : LaneId} {r : Request}

/-- A lane with a main image and the request that waits for its start. -/
def Lane.imageEntered (r : Request) (b : Nat) (v : Bank) (l : Lane) : Lane :=
  ((((l.lnk (fun x => { x with fwAnswer := some r })).setp Hp.fwBank b).setp Hp.fwCompat v.compat).setp Hp.fwCompatMin v.compatMin).setp (D0.fwId 0) v.id

theorem doFwActivate_eq {b : Nat} (hr : r.lane = j.num + 1) (hp : (s.lane j).present = true) (hlen : r.len = 2) (hkind : r.at_ 0 1 = 0)
    (hb : r.at_ 1 1 = b) (hb1 : b ≤ 1) (hgrant : s.arbiter.grant = some j.other) (hstandby : (s.lane j).link.state = .standby)
    (hgood : ((s.lane j).link.bank 0 b).verified = true) (hmin : (s.lane j.other).p Hp.fwCompatMin ≤ (((s.lane j).link.bank 0 b).compat : Int))
    (hmax : (((s.lane j).link.bank 0 b).compatMin : Int) ≤ (s.lane j.other).p Hp.fwCompat) :
    doFwActivate r s =
      (((s.onLane j (fun _ => true) (fun _ _ l => l.imageEntered r b ((s.lane j).link.bank 0 b))).laneReset j false).fwStep j 2, none) := by
  subst hb
  unfold doFwActivate cmdFwActivate
  rw [namedLane_eq hr hp]
  dsimp only
  rw [hkind, if_neg (by omega), if_neg (by omega), if_neg (by simp [hgrant]), if_neg (by simp [hgrant]), if_neg (by simp [hstandby]),
    if_neg (by simp), if_neg (by simp [hgood]), if_neg (by simp [hmin, hmax])]
  rfl

/-- The lane's new bank shows, and its reset leaves the request to its start (R371). -/
theorem State.imageEntered_reset (b : Nat) (v : Bank) :
    let t := ((s.onLane j (fun _ => true) (fun _ _ l => l.imageEntered r b v)).laneReset j false).fwStep j 2
    (t.lane j).link.state = .reset ∧ (t.lane j).p Hp.fwBank = b ∧ (t.lane j).link.fwAnswer = some r := by
  dsimp only
  have hentered : (s.onLane j (fun _ => true) (fun _ _ l => l.imageEntered r b v)).lane j = (s.lane j).imageEntered r b v := by
    rw [State.lane_onLane, if_pos ⟨rfl, rfl⟩]
  obtain ⟨hbank, hanswer⟩ := (s.onLane j (fun _ => true) (fun _ _ l => l.imageEntered r b v)).laneReset_image j false
  rw [hentered] at hbank hanswer
  rw [State.fwStep_link, (State.fwStep_ringsOnly ..).p, (State.laneReset_link ..).1, hbank, hanswer]
  refine ⟨rfl, ?_, rfl⟩
  simp [Lane.imageEntered, Hp.fwBank, Hp.fwCompat, Hp.fwCompatMin, D0.fwId]

theorem doLanePark_eq (hr : r.lane = j.num + 1) (hp : (s.lane j).present = true) (hlen : r.len = 0) (hgrant : s.arbiter.grant ≠ some j) :
    doLanePark r s = ((s.park j).fwStep j 3, some (Reply.ok [])) := by
  unfold doLanePark cmdLanePark
  rw [namedLane_eq hr hp]
  rw [if_neg (by simp [hlen]), if_neg hgrant]

theorem doLaneEligible_eq (hr : r.lane = j.num + 1) (hp : (s.lane j).present = true) (hlen : r.len = 0) :
    doLaneEligible r s = (((s.onLane j (fun _ => true) (fun _ _ l => l.lnk (fun x => { x with cmpPersist := false, tvPersist := false }))).leaveStep
      j).fwStep j 5, some (Reply.ok [])) := by
  unfold doLaneEligible cmdLaneEligible
  rw [namedLane_eq hr hp]
  dsimp only
  rw [if_neg (by simp [hlen])]

/-- A lane that leaves step keeps its marks of persistence. -/
theorem State.leaveStep_marks (s : State) (i : LaneId) : ((s.leaveStep i).lane i).link.cmpPersist = (s.lane i).link.cmpPersist
    ∧ ((s.leaveStep i).lane i).link.tvPersist = (s.lane i).link.tvPersist := by
  have hmarks : ∀ {l m : Lane}, LaneUnit.placement.rest m = LaneUnit.placement.rest l →
      m.link.cmpPersist = l.link.cmpPersist ∧ m.link.tvPersist = l.link.tvPersist := fun h =>
    ⟨(congrArg (fun l : Lane => l.link.cmpPersist) h :), (congrArg (fun l : Lane => l.link.tvPersist) h :)⟩
  unfold State.leaveStep
  split_ifs
  · refine ⟨(hmarks (State.laneTo_rest ..)).1.trans ?_, (hmarks (State.laneTo_rest ..)).2.trans ?_⟩ <;> simp [State.lane_onLane]
  · simp [State.lane_onLane]
  · exact ⟨rfl, rfl⟩

/-- An unparked lane, with its fast domain started cold where it was off (R371, R484). -/
def Lane.unparked (v : Variant) (l : Lane) : Lane :=
  let l1 := (l.lnk (fun x => { x with parked := false })).therm! (fun t => { t with shut := false, coolS := 0 })
  if l.power.fastOn then l1 else l1.coldStart v

/-- The controller with the lane unparked. -/
def State.unparked (j : LaneId) (s : State) : State :=
  let s1 := s.onLane j (fun _ => true) (fun s _ l => l.unparked s.chassis.variant)
  if (s.lane j).power.fastOn then s1 else s1.drawSeq j

theorem doLaneUnpark_eq (hr : r.lane = j.num + 1) (hp : (s.lane j).present = true) (hlen : r.len = 0) (hparked : (s.lane j).link.parked = true) :
    doLaneUnpark r s = ((s.unparked j).fwStep j 4, some (Reply.ok [])) := by
  unfold doLaneUnpark cmdLaneUnpark
  rw [namedLane_eq hr hp]
  dsimp only
  rw [if_neg (by simp [hlen]), if_neg (by simp [hparked])]
  rfl

theorem Lane.coldStart_course (v : Variant) (l : Lane) : (l.coldStart v).course = l.course := by
  have hacq : ∀ l : Lane, l.showAcq.course = l.course := fun _ => rfl
  have hkeys : ∀ l : Lane, l.keyPoints.course = l.course := fun _ => rfl
  have hset : ∀ (l : Lane) a v, (l.setp a v).course = l.course := fun _ _ _ => rfl
  unfold Lane.coldStart
  dsimp only
  rw [hacq, Lane.mastStarts_course, hkeys, hset, hset, Lane.coolRestore_course]
  rfl

theorem Lane.unparked_kept (v : Variant) (l : Lane) :
    (l.unparked v).link = { l.link with parked := false } ∧ (l.unparked v).pacer = l.pacer := by
  unfold Lane.unparked
  dsimp only
  split
  · exact ⟨rfl, rfl⟩
  · obtain ⟨hlink, hpacer⟩ := Prod.ext_iff.mp (Lane.coldStart_course v
      ((l.lnk (fun x => { x with parked := false })).therm! (fun t => { t with shut := false, coolS := 0 })))
    exact ⟨hlink, hpacer⟩

theorem Lane.unparked_active (v : Variant) (l : Lane) : (l.unparked v).active = l.active := by
  obtain ⟨hlink, hpacer⟩ := l.unparked_kept v
  unfold Lane.active
  rw [hlink, hpacer]

theorem State.unparked_lane (s : State) (i j : LaneId) :
    ((s.unparked j).lane i).link = (if i = j then { (s.lane j).link with parked := false } else (s.lane i).link)
    ∧ ((s.unparked j).lane i).active = (s.lane i).active := by
  have hdraw : ∀ s : State, ((s.drawSeq j).lane i).link = (s.lane i).link ∧ ((s.drawSeq j).lane i).active = (s.lane i).active := fun s => by
    rw [s.drawSeq_kept j i]
    exact ⟨rfl, rfl⟩
  have hlane : ((s.onLane j (fun _ => true) (fun s _ l => l.unparked s.chassis.variant)).lane i).link
        = (if i = j then { (s.lane j).link with parked := false } else (s.lane i).link)
      ∧ ((s.onLane j (fun _ => true) (fun s _ l => l.unparked s.chassis.variant)).lane i).active = (s.lane i).active := by
    rw [State.lane_onLane]
    by_cases h : i = j
    · subst h
      simp [Lane.unparked_kept, Lane.unparked_active]
    · simp [h]
  unfold State.unparked
  dsimp only
  split
  · exact hlane
  · exact ⟨(hdraw _).1.trans hlane.1, (hdraw _).2.trans hlane.2⟩

end Commands

/-! ### Commands of the team (R404, R412) -/

section Team

variable {s : State} {i : LaneId} {r : Request} {l : Lane} {k : Nat}

/-- A command of both lanes runs on every lane that computes, whoever's reply counts (R75). -/
theorem lane_onLanes (f : Lane → Lane × Option Reply) (hr : r.lane = 0) (ha : (s.lane i).active = true) :
    (onLanes r f s).1.lane i = (f (s.lane i)).1 := by
  unfold onLanes
  cases i
  · have : s.a.active = true := ha
    simp [hr, this, State.lane]
  · have : s.b.active = true := ha
    simp [hr, this, State.lane]

/-- A change that the anchor may ask for is held, and told the members (R404). -/
theorem Lane.cmdTeamMembers_eq {mask : Nat} (hlen : r.len = 16) (hk : r.at_ 0 1 = k) (hmask : r.at_ 1 1 = mask) (hk7 : k ≤ 7)
    (hused : lvlUsed l.cfg k = true) (hanchor : lvlMember l.cfg k = 0) (hodd : mask % 2 = 1) (hsoon : l.teamEpoch k + 20 ≤ (r.at_ 8 8 : Int))
    (hlate : (r.at_ 8 8 : Int) ≤ l.teamEpoch k + 60000) (hnone : (l.lvl k).change = none) :
    (l.cmdTeamMembers true r).1 = (l.setLvl k { l.lvl k with
        change := some { mask := mask, keyGen := (l.lvl k).keyGen + 1, epoch := r.at_ 8 8, req := some r } }).teamSend k 9 1 toAll
      [(1, (mask : Int)), (2, ((l.lvl k).keyGen + 1 : Nat)), (8, (r.at_ 8 8 : Int))] := by
  subst hk hmask
  unfold Lane.cmdTeamMembers
  dsimp only
  rw [if_neg (by decide), if_neg (by omega), if_neg (by simp [hused]; omega), if_neg (by omega), if_neg (by omega), if_neg (by omega),
    if_neg (by simp [hnone])]

variable {a : TeamArm} (hlen : r.len = 8) (hk : r.at_ 0 1 = k) (hk7 : k ≤ 7) (hused : lvlUsed l.cfg k = true)
  (harm : (l.lvl k).arm = some a) (hid : a.id = r.at_ 4 4)

include hlen hk hk7 hused harm hid

/-- A trigger asks the team link engine for its key, and is sent where that gives it (R386, R412). -/
theorem Lane.cmdTeamTrigger_of_armed (harmed : a.armed = true) : l.cmdTeamTrigger true r =
    if (l.teamKey k).2 = false then ((l.teamKey k).1, Reply.just st_UNREACHABLE)
    else ((l.sendTrigger [k] a.id l.pacer.teamTime (fun l k => l.pathAt k)).teamTrigger k a.id (l.pathAt k) l.pacer.teamTime, Reply.ok []) := by
  subst hk
  unfold Lane.cmdTeamTrigger
  dsimp only
  rw [if_neg (by decide), if_neg (by omega), if_neg (by simp [hused]; omega), harm]
  simp [hid, harmed]

omit hid in
theorem Lane.cmdTeamTrigger_of_unarmed (hnot : a.armed = false) : l.cmdTeamTrigger true r = (l, Reply.just st_NOT_ARMED) := by
  subst hk
  unfold Lane.cmdTeamTrigger
  dsimp only
  rw [if_neg (by decide), if_neg (by omega), if_neg (by simp [hused]; omega), harm]
  simp [hnot]

end Team

/-! ### The obligation -/

section Runs

variable {s t : State} {i j : LaneId} {r : Request} {code : Nat} {f : StateCmd}

theorem State.run_of_named_answer {rep : Reply} (h : Admitted s i code r) (hr : r.lane = j.num + 1) (hp : (s.lane j).present = true)
    (hc : cancelsSleep code = false) (hf : f s = (t, some rep)) : s.run code r f = t.answerBoth r rep :=
  State.run_of_named h (.inr ⟨j, hr, hp⟩) (by rw [hc]; exact hf)

theorem State.run_of_named_awake {rep : Option Reply} (h : Admitted s i code r) (hr : r.lane = j.num + 1) (hp : (s.lane j).present = true)
    (hc : cancelsSleep code = true) (hf : f s.cancelSleep = (t, rep)) : s.run code r f = rep.elim t (fun rep => t.answerBoth r rep) :=
  State.run_of_named h (.inr ⟨j, hr, hp⟩) (by rw [hc]; exact hf)

end Runs

section Clauses

variable {s : State} {i j : LaneId} {r : Request} (hr : r.lane = j.num + 1) (hp : (s.lane j).present = true)

include hr hp

theorem exec_batonHandover (h : Admitted s i 0x0301 r) (hlen : r.len = 0) (hgrant : s.arbiter.grant = some j.other)
    (hholder : (s.lane j.other).link.state = .holder) (hel : s.eligible j = true) :
    let t := (s.run 0x0301 r (doBatonHandover r)).drive
    (t.lane i).link.handover = some r ∧ (t.lane j.other).link.giveUp.isSome = true := by
  have hactive : (s.cancelSleep.lane i).active = true := (s.cancelSleep_active i).trans (State.active_of_refLane h.1)
  have hcommand := doBatonHandover_eq (s := s.cancelSleep) hr ((s.cancelSleep_present j).trans hp) hlen
    (by rw [State.cancelSleep_arbiter]; exact hgrant) (by rw [State.cancelSleep_eligible]; exact hel)
  dsimp only
  rw [State.lane_drive_link, State.lane_drive_link, State.run_of_named_awake h hr hp rfl hcommand]
  generalize hs1 : s.cancelSleep.eachLane Lane.active (fun _ _ l => l.lnk (fun x => { x with handover := some r })) = s1
  have hi : (s1.lane i).link.handover = some r := by
    rw [← hs1, State.lane_eachLane, if_pos hactive]
    rfl
  have hstate : (s1.lane j.other).link.state = .holder := by
    rw [← hs1, State.lane_eachLane, ← hholder, ← s.cancelSleep_link]
    split <;> rfl
  rw [State.diagnose_handover hstate]
  refine ⟨?_, ?_⟩
  · simp only [Option.elim, State.lane_onLane]
    split
    · next hother => rwa [Lane.link_lnk, ← hother.1]
    · exact hi
  · simp [State.lane_onLane]

theorem exec_fwActivate {b : Nat} (h : Admitted s i 0x0304 r) (hlen : r.len = 2) (hkind : r.at_ 0 1 = 0) (hb : r.at_ 1 1 = b) (hb1 : b ≤ 1)
    (hgrant : s.arbiter.grant = some j.other) (hstandby : (s.lane j).link.state = .standby)
    (hgood : ((s.lane j).link.bank 0 b).verified = true) (hmin : (s.lane j.other).p Hp.fwCompatMin ≤ (((s.lane j).link.bank 0 b).compat : Int))
    (hmax : (((s.lane j).link.bank 0 b).compatMin : Int) ≤ (s.lane j.other).p Hp.fwCompat) :
    let t := (s.run 0x0304 r (doFwActivate r)).drive
    (t.lane j).link.state = .reset ∧ (t.lane j).p Hp.fwBank = b ∧ (t.lane j).link.fwAnswer = some r := by
  have hcommand := doFwActivate_eq (s := s.cancelSleep) hr ((s.cancelSleep_present j).trans hp) hlen hkind hb hb1
    (by rw [State.cancelSleep_arbiter]; exact hgrant) (by rw [State.cancelSleep_link]; exact hstandby)
    (by rw [State.cancelSleep_link]; exact hgood) (by rw [State.cancelSleep_link, State.cancelSleep_p]; exact hmin)
    (by rw [State.cancelSleep_link, State.cancelSleep_p]; exact hmax)
  dsimp only
  rw [State.lane_drive_link, State.lane_drive_p _ _ _ (by decide), State.run_of_named_awake h hr hp rfl hcommand]
  exact State.imageEntered_reset ..

theorem exec_lanePark (h : Admitted s i 0x0305 r) (hlen : r.len = 0) (hgrant : s.arbiter.grant ≠ some j) :
    let t := (s.run 0x0305 r (doLanePark r)).drive
    (t.lane j).link.parked = true ∧ (t.lane j).link.state = .reset := by
  have hcommand := doLanePark_eq (s := s.cancelSleep) hr ((s.cancelSleep_present j).trans hp) hlen
    (by rw [State.cancelSleep_arbiter]; exact hgrant)
  dsimp only
  rw [State.lane_drive_link, State.run_of_named_awake h hr hp rfl hcommand, Option.elim, State.answerBoth_link, State.fwStep_link]
  exact (State.park_link ..).symm

theorem exec_laneUnpark (h : Admitted s i 0x0306 r) (hlen : r.len = 0) (hparked : (s.lane j).link.parked = true) :
    let t := (s.run 0x0306 r (doLaneUnpark r)).drive
    (t.lane j).link.parked = false ∧ Answered (t.lane i) r (Reply.ok []) := by
  dsimp only
  rw [State.run_of_named_answer h hr hp rfl (doLaneUnpark_eq hr hp hlen hparked)]
  refine ⟨?_, State.answered_drive _ _ (State.answered_answerBoth _ _ _ ?_)⟩
  · rw [State.lane_drive_link, State.answerBoth_link, State.fwStep_link, (s.unparked_lane j j).1, if_pos rfl]
  · rw [State.fwStep_active, (s.unparked_lane i j).2]
    exact State.active_of_refLane h.1

theorem exec_laneEligible (h : Admitted s i 0x0307 r) (hlen : r.len = 0) :
    let t := (s.run 0x0307 r (doLaneEligible r)).drive
    (t.lane j).link.cmpPersist = false ∧ (t.lane j).link.tvPersist = false := by
  dsimp only
  rw [State.lane_drive_link, State.run_of_named_answer h hr hp rfl (doLaneEligible_eq hr hp hlen), State.answerBoth_link, State.fwStep_link]
  obtain ⟨hcmp, htv⟩ := State.leaveStep_marks (s.onLane j (fun _ => true)
    (fun _ _ l => l.lnk (fun x => { x with cmpPersist := false, tvPersist := false }))) j
  rw [hcmp, htv, State.lane_onLane, if_pos ⟨rfl, rfl⟩]
  exact ⟨rfl, rfl⟩

end Clauses

/-- Settles O45, command by command; a command that ends a sleep entry runs on a state that differs from the first in the power record and
the rings alone. -/
theorem laneCommands : Obligations.LaneCommands := by
  unfold Obligations.LaneCommands
  intro s i r
  refine ⟨fun j hr hp => ⟨?handover, ?load, ?verify, ?activate, ?park, ?unpark, ?eligible⟩, ?members, ?trigger⟩
  case handover =>
    intro h hlen hgrant hholder hel
    exact does_of_next rfl (exec_batonHandover hr hp h hlen hgrant hholder hel)
  case load =>
    intro kind b ofs n h hkind hb hofs hn h1 h208 hlen hk hb1 hidle hend horder
    refine does_of_next rfl ?_
    rw [State.run_of_named_answer h hr hp rfl (doFwLoad_eq hr hp hkind hb hofs hn h1 h208 hlen hk hb1 hidle hend horder),
      State.answerBoth_link, State.fwStep_link, State.lane_onLane, if_pos ⟨rfl, rfl⟩, Lane.link_lnk, LinkSt.bank_setBank]
    exact ⟨rfl, rfl⟩
  case verify =>
    intro kind b h hlen hkind hb hk hb1
    have hactive := State.active_of_refLane h.1
    refine ⟨fun hno => does_of_next rfl ?_, fun k hyes hk4 hkey hsize => does_of_next rfl ?_⟩
    · rw [State.run_of_named_answer h hr hp rfl (doFwVerify_bad hr hp hlen hkind hb hk hb1 hno)]
      refine ⟨?_, State.answered_answerBoth _ _ _ ?_⟩
      · rw [State.answerBoth_link, State.imageChecked_bank]
      · rwa [State.imageChecked_active]
    · obtain ⟨v, rep, hv, hcommand⟩ := doFwVerify_good hr hp hlen hkind hb hk hb1 hyes hk4 hkey hsize
      rw [State.run_of_named_answer h hr hp rfl hcommand, State.answerBoth_link, State.imageChecked_bank]
      exact hv
  case activate =>
    intro b h hlen hkind hb hb1 hgrant hstandby hgood hmin hmax
    exact does_of_next rfl (exec_fwActivate hr hp h hlen hkind hb hb1 hgrant hstandby hgood hmin hmax)
  case park =>
    intro h hlen hgrant
    exact does_of_next rfl (exec_lanePark hr hp h hlen hgrant)
  case unpark =>
    intro h hlen hparked
    exact does_of_next rfl (exec_laneUnpark hr hp h hlen hparked)
  case eligible =>
    intro h hlen
    exact does_of_next rfl (exec_laneEligible hr hp h hlen)
  case members =>
    intro k mask hteam hr h hlen hk hmask hk7 hused hanchor hodd hsoon hlate hnone
    refine does_of_next rfl ?_
    rw [← s.cancelSleep_cfg] at hused hanchor
    rw [← s.cancelSleep_teamEpoch] at hsoon hlate
    rw [← s.cancelSleep_lvl] at hnone ⊢
    have hactive : (s.cancelSleep.lane i).active = true := (s.cancelSleep_active i).trans (State.active_of_refLane h.1)
    have hlane := lane_onLanes (s := s.cancelSleep) (Lane.cmdTeamMembers s.cancelSleep.chassis.variant.team r) hr hactive
    rw [s.cancelSleep_variant, hteam, Lane.cmdTeamMembers_eq hlen hk hmask hk7 hused hanchor hodd hsoon hlate hnone] at hlane
    obtain ⟨t, rep, hcommand⟩ : ∃ t rep, doTeamMembers r s.cancelSleep = (t, rep) := ⟨_, _, rfl⟩
    have ht := congrArg (fun x => x.1.lane i) hcommand
    rw [doTeamMembers, s.cancelSleep_variant, hteam] at ht
    replace ht := ht.symm.trans hlane
    rw [State.run_of_named h (.inl hr) (t := t) (rep := rep) hcommand, State.lvl_of_answer]
    rw [show (t.lane i).lvl k = _ from congrArg (fun l => l.lvl k) ht, Lane.lvl_teamSend, Lane.lvl_setLvl, if_pos rfl]
    exact ⟨rfl, rfl⟩
  case trigger =>
    intro k a hteam hr h hlen hk hk7 hused harm hid
    have htrigger : doTeamTrigger r s = onLanesNow r (Lane.cmdTeamTrigger true r) s := by rw [doTeamTrigger, hteam]
    refine ⟨fun harmed hkey => does_of_next rfl ?_, fun harmed hkey => does_of_next rfl ?_, fun hnot => does_of_next rfl ?_⟩
    · have hcommand := Lane.cmdTeamTrigger_of_armed hlen hk hk7 hused harm hid harmed
      rw [if_neg (by simp [hkey])] at hcommand
      rw [State.lane_run_now (doTeamTrigger r) h hr rfl htrigger hcommand
        (Lane.active_of_teamwork ((Lane.teamTrigger_teamwork ..).trans (Lane.sendTrigger_teamwork ..)))]
      exact Lane.answered_answer ..
    · have hcommand := Lane.cmdTeamTrigger_of_armed hlen hk hk7 hused harm hid harmed
      rw [if_pos hkey] at hcommand
      rw [State.lane_run_now (doTeamTrigger r) h hr rfl htrigger hcommand
        (Lane.active_of_teamwork (LaneUnit.teamwork_of_keyStore (Lane.teamKey_keyStore ..)))]
      exact Lane.answered_answer ..
    · exact State.lane_run_now (doTeamTrigger r) h hr rfl htrigger (Lane.cmdTeamTrigger_of_unarmed hlen hk hk7 hused harm hnot) rfl

end Sys2Proof.Machine
end

section
/-!
16_relay_teams.md: the rows of a relay team.
-/

namespace Sys2Proof.Machine
open Sys2Proof

/-! ### A row of a relay team -/

theorem State.lane_teamed {s : State} {i : LaneId} (f : Lane → Lane) (hteam : s.chassis.variant.team = true) (ha : (s.lane i).active = true) :
    (s.teamed f).lane i = f (s.lane i) := by
  rw [State.teamed, if_pos hteam, State.lane_both, if_pos ha]

/-! ### Frames that pass (R396, R400) -/

section Pass

variable (l : Lane) (f : TeamFrame) (k : Nat)

/-- A frame with one hop less goes on where the lane drives the transmitters; nothing else of the lane differs (R396). -/
theorem Lane.passFrame_of_driven (hg : l.link.grant = true) :
    (l.passFrame f).team.forwarded.head? = some (f.teamId, f.sender, f.net, f.dir, f.seq, f.ttl - 1) := by
  simp [Lane.passFrame, hg]

theorem Lane.passFrame_of_dark (hg : l.link.grant = false) : l.passFrame f = l := by
  simp [Lane.passFrame, hg]

theorem Lane.passFrame_kept : l.passFrame f = { l with team := { l.team with forwarded := (l.passFrame f).team.forwarded } } := by
  unfold Lane.passFrame
  split <;> rfl

theorem Lane.teamKey_ok : (l.teamKey k).2 = if l.teamKeyHeld k then (l.askKey engTeam (teamSlot k) 3).2
    else (l.askKey engTeam (l.role Key.roleTeam) 4).2 := by
  unfold Lane.teamKey
  dsimp only
  split_ifs with _ h
  · rfl
  · exact h.symm
  · rfl

theorem Lane.passFrame_teamKey : ((l.passFrame f).teamKey k).2 = (l.teamKey k).2 := by
  rw [Lane.passFrame_kept, Lane.teamKey_ok, Lane.teamKey_ok]
  rfl

/-- A passing frame's lane once the team link engine has been asked for its key (R386). -/
def Lane.passedFrame (l : Lane) : Lane := ((l.passFrame f).teamKey k).1

theorem Lane.passedFrame_team : (l.passedFrame f k).team = (l.passFrame f).team := Lane.team_of_keyStore (Lane.teamKey_keyStore ..)

theorem Lane.passedFrame_lvl : (l.passedFrame f k).lvl k = l.lvl k := by
  rw [Lane.lvl_of_team (l.passedFrame_team f k), Lane.passFrame_kept]
  rfl

theorem Lane.passedFrame_p {a : Nat} (ha : 0x90600 ≤ a) : (l.passedFrame f k).p a = l.p a := by
  refine (LaneUnit.keyStore_p (Lane.teamKey_keyStore ..) (.inr ha)).trans ?_
  rw [Lane.passFrame_kept]
  rfl

variable {l f k} {act : Nat → TeamFrame → Lane → Lane}

theorem Lane.teamFrame_of_unknown (hlevel : levelOf l.cfg f.teamId = none) :
    l.teamFrame act f = if f.ttl ≤ 1 then l.inc Team.teamTtlDrops else l.passFrame f := by
  unfold Lane.teamFrame
  rw [hlevel]

theorem Lane.teamFrame_of_own (hlevel : levelOf l.cfg f.teamId = some k) (hown : l.isOwn k f = true) : l.teamFrame act f = l.ownFrame k f := by
  unfold Lane.teamFrame
  rw [hlevel]
  exact if_pos hown

variable (hlevel : levelOf l.cfg f.teamId = some k) (hother : l.isOwn k f = false) (httl : 1 < f.ttl)

include hlevel hother httl

theorem Lane.teamFrame_of_badTag (htag : f.tagOk = false) : l.teamFrame act f = (l.passedFrame f k).inc Team.teamAuthFail := by
  unfold Lane.teamFrame
  rw [hlevel]
  dsimp only
  rw [hother, htag, if_neg (by simp), if_neg (by omega), if_pos (by simp)]
  rfl

variable (htag : f.tagOk = true) (hkey : (l.teamKey k).2 = true)

include htag hkey

theorem Lane.teamFrame_of_heard (hheard : (f.sender, f.net, f.seq) ∈ (l.lvl k).heard) :
    l.teamFrame act f = (l.passedFrame f k).inc Team.teamDup := by
  unfold Lane.teamFrame
  rw [hlevel]
  dsimp only
  rw [hother, htag, Lane.passFrame_teamKey, hkey, if_neg (by simp), if_neg (by omega), if_neg (by simp)]
  exact if_pos (List.contains_iff_mem.mpr ((l.passedFrame_lvl f k).symm ▸ hheard))

/-- A frame noted as heard. -/
def Lane.hearing (f : TeamFrame) (k : Nat) (l : Lane) : Lane :=
  l.setLvl k { l.lvl k with heard := (f.sender, f.net, f.seq) :: (l.lvl k).heard }

theorem Lane.teamFrame_of_new (hnew : (f.sender, f.net, f.seq) ∉ (l.lvl k).heard) (haddressed : l.addressed k f = true) :
    l.teamFrame act f = act k f ((l.passedFrame f k).hearing f k) := by
  have hnot : ((l.passedFrame f k).lvl k).heard.contains (f.sender, f.net, f.seq) = false := by
    rw [l.passedFrame_lvl f k]
    simpa using hnew
  have hcfg : (l.passedFrame f k).cfg = l.cfg :=
    (congrArg Lane.cfg (LaneUnit.rest_eq _ (Lane.teamKey_keyStore (l.passFrame f) k)) :).trans (by rw [Lane.passFrame_kept]; rfl)
  have hto : ((l.passedFrame f k).hearing f k).addressed k f = true := by
    change bitAt f.dest (lvlMember (l.passedFrame f k).cfg k) = true
    rw [hcfg]
    exact haddressed
  unfold Lane.teamFrame
  rw [hlevel]
  dsimp only
  rw [hother, htag, Lane.passFrame_teamKey, hkey, if_neg (by simp), if_neg (by omega), if_neg (by simp)]
  exact (if_neg (by rw [Lane.passedFrame] at hnot; simpa using hnot)).trans (if_pos hto)

end Pass

/-! ### Own frames (R397) -/

section Own

variable {l : Lane} {f : TeamFrame} {k : Nat}

theorem Lane.ownFrame_of_return (hb : f.beaconOf l.epoch = true) :
    (k, f.net, f.dir) ∈ (l.ownFrame k f).team.returns ∧ (l.ownFrame k f).team.forwarded = l.team.forwarded := by
  unfold Lane.ownFrame
  rw [if_neg (by simp [hb])]
  refine ⟨?_, rfl⟩
  change _ ∈ (if _ then _ else _)
  split
  · next h => exact List.contains_iff_mem.mp h
  · simp

theorem Lane.ownFrame_of_other (hb : f.beaconOf l.epoch = false) : l.ownFrame k f = l := by
  unfold Lane.ownFrame
  rw [if_pos hb]

end Own

/-! ### Whole and broken nets (R397) -/

/-- Whether the beacons of all levels have come back on a net in both directions. -/
def Lane.allBack (net : Nat) (l : Lane) : Bool :=
  (usedLevels l.cfg).all (fun k => l.team.returns.contains (k, net, 0) && l.team.returns.contains (k, net, 1))

/-- A net's run of good epochs after its check. -/
def runAfter (back : Bool) (run : Nat) : Nat := if back then run + 1 else 0

/-- Whether a net counts as whole after its check: a missing return breaks it, 16 good epochs restore it. -/
def wholeAfter (back whole : Bool) (run : Nat) : Bool := back && (whole || decide (16 ≤ run + 1))

section Nets

variable (l : Lane)

theorem Lane.allBack_iff (net : Nat) :
    l.allBack net = true ↔ ∀ k ∈ usedLevels l.cfg, (k, net, 0) ∈ l.team.returns ∧ (k, net, 1) ∈ l.team.returns := by
  simp [Lane.allBack]

theorem Lane.ringWhole_team (net : Nat) (whole : Bool) :
    (l.ringWhole net whole).team = if net = 1 then { l.team with whole1 := whole } else { l.team with whole2 := whole } := by
  unfold Lane.ringWhole
  simp

/-- The team record with a net's run and whether it counts as whole. -/
def TeamSt.setNet (net run : Nat) (whole : Bool) (x : TeamSt) : TeamSt :=
  if net = 1 then { x with run1 := run, whole1 := whole } else { x with run2 := run, whole2 := whole }

theorem Lane.checkNet_team (net : Nat) : (l.checkNet net).team =
    l.team.setNet net (runAfter (l.allBack net) (if net = 1 then l.team.run1 else l.team.run2))
      (wholeAfter (l.allBack net) (if net = 1 then l.team.whole1 else l.team.whole2) (if net = 1 then l.team.run1 else l.team.run2)) := by
  unfold Lane.checkNet
  extract_lets all whole run team l1
  have hall : all = l.allBack net := rfl
  have hrun : run = runAfter all (if net = 1 then l.team.run1 else l.team.run2) := rfl
  have hl1 : l1.team = if net = 1 then { l.team with run1 := run } else { l.team with run2 := run } := rfl
  have hset : ∀ w : Bool, (l1.ringWhole net w).team = l.team.setNet net run w := fun w => by
    rw [Lane.ringWhole_team, hl1, TeamSt.setNet]
    split <;> rfl
  have hkept : l1.team = l.team.setNet net run whole := by
    rw [hl1, TeamSt.setNet]
    simp only [whole]
    split <;> rfl
  have hwhole : (if net = 1 then l.team.whole1 else l.team.whole2) = whole := rfl
  rw [← hall, ← hrun, hwhole]
  clear_value l1 run all whole
  cases all with
  | false => cases whole <;> simp [hset, hkept, wholeAfter]
  | true =>
    rw [runAfter, if_pos rfl] at hrun
    rw [wholeAfter, ← hrun]
    by_cases h16 : 16 ≤ run <;> cases whole <;> simp [hset, hkept, h16]

/-- Each net's check stands by itself (R397). -/
theorem Lane.beaconCheck_shown (hlap : l.lapIn = 60) (hsent : l.team.beaconEpoch = some l.epoch) :
    (l.beaconCheck).team = { l.team with
      run1 := runAfter (l.allBack 1) l.team.run1, whole1 := wholeAfter (l.allBack 1) l.team.whole1 l.team.run1
      run2 := runAfter (l.allBack 2) l.team.run2, whole2 := wholeAfter (l.allBack 2) l.team.whole2 l.team.run2 } := by
  have hback : (l.checkNet 1).allBack 2 = l.allBack 2 := by
    unfold Lane.allBack
    rw [(Lane.checkNet_still ..).2.2, Lane.checkNet_team]
    rfl
  rw [Lane.beaconCheck, if_pos ⟨hlap, hsent⟩, Lane.checkNet_team, hback, Lane.checkNet_team]
  rfl

end Nets

end Sys2Proof.Machine
end

section
/-!
16_relay_teams.md: membership of a relay team.
-/

namespace Sys2Proof.Machine
open Sys2Proof

/-! ### What membership leaves of the team record -/

/-- The team record without its levels. -/
def TeamSt.sansLevels (x : TeamSt) : TeamSt := { x with levels := [] }

/-- A level without its members. -/
def TeamLevel.sansMembers (x : TeamLevel) : TeamLevel := { x with members := [] }

/-- Of every member whether its beacon has come in, and its serial. -/
def Lane.heardOf (l : Lane) (k m : Nat) : Bool × Nat := ((l.teamMember k m).seen, (l.teamMember k m).serial)

/-- What a member that enters the mask leaves of the team record. -/
def Lane.roster (l : Lane) : TeamSt × (Nat → TeamLevel) × (Nat → Nat → Bool × Nat) :=
  (l.team.sansLevels, (fun j => (l.lvl j).sansMembers), l.heardOf)

section Masks

variable (l : Lane) (k mask keyGen : Nat)

theorem Lane.teamMember_of_team {l m : Lane} (h : m.team = l.team) (k n : Nat) : m.teamMember k n = l.teamMember k n := by
  rw [Lane.teamMember, Lane.teamMember, Lane.lvl_of_team h]

theorem Lane.setTeamMember_kept (m : Nat) (x : TeamMember) : (l.setTeamMember k m x).team.sansLevels = l.team.sansLevels
    ∧ ∀ j, ((l.setTeamMember k m x).lvl j).sansMembers = (l.lvl j).sansMembers :=
  ⟨rfl, fun j => by rw [Lane.lvl_setTeamMember]; rfl⟩

/-- The members that enter a mask begin anew (R403). -/
def Lane.entering (k mask old : Nat) (l : Lane) : Lane :=
  l.forN 8 (fun m l => if bitAt mask m && !bitAt old m then l.setTeamMember k m { l.teamMember k m with run := 0, miss := 0 } else l)

theorem Lane.entering_roster (old : Nat) : (l.entering k mask old).roster = l.roster := by
  refine Lane.forN_kept Lane.roster 8 (fun m l => ?_) l
  split
  · obtain ⟨hteam, hlevels⟩ := l.setTeamMember_kept k m { l.teamMember k m with run := 0, miss := 0 }
    have hheard : (l.setTeamMember k m { l.teamMember k m with run := 0, miss := 0 }).heardOf = l.heardOf := by
      funext j n
      rw [Lane.heardOf, Lane.teamMember_setTeamMember]
      split
      · next h => rw [h.1, h.2]; rfl
      · rfl
    simp only [Lane.roster, hteam, hlevels, hheard]
  · rfl

theorem Lane.telegramsFrom_team (ms : List Nat) : (l.telegramsFrom ms).team = l.team := by
  unfold Lane.telegramsFrom
  refine Lane.forL_kept Lane.team ms (fun m l => ?_) l
  rfl

theorem Lane.newMask_team : (l.newMask k mask keyGen).team
    = ((l.entering k mask (l.lvl k).mask).setLvl k { (l.entering k mask (l.lvl k).mask).lvl k with mask := mask, keyGen := keyGen }).team := by
  unfold Lane.newMask
  extract_lets old l1 x l2 fresh l3
  have h3 : l3.team = l2.team := by
    simp only [l3]
    split
    · exact Lane.telegramsFrom_team ..
    · rfl
  split
  · exact h3
  · exact (Lane.team_of_keyStore (Lane.eraseKey_keyStore ..)).trans h3

/-- A new mask acts on its level's mask and `key_gen` alone, and leaves what was heard of the members (R404). -/
theorem Lane.newMask_shown : (l.newMask k mask keyGen).team.sansLevels = l.team.sansLevels
    ∧ ((l.newMask k mask keyGen).lvl k).sansMembers = { (l.lvl k).sansMembers with mask := mask, keyGen := keyGen }
    ∧ (l.newMask k mask keyGen).heardOf = l.heardOf := by
  have hroster := l.entering_roster k mask (l.lvl k).mask
  have hnew := l.newMask_team k mask keyGen
  generalize l.entering k mask (l.lvl k).mask = m at hroster hnew
  simp only [Lane.roster, Prod.mk.injEq] at hroster
  obtain ⟨hteam, hlevels, hheard⟩ := hroster
  refine ⟨(congrArg TeamSt.sansLevels hnew).trans hteam, ?_, ?_⟩
  · rw [Lane.lvl_of_team hnew, Lane.lvl_setLvl, if_pos rfl, ← congrFun hlevels k]
    rfl
  · rw [← hheard]
    funext j n
    rw [Lane.heardOf, Lane.teamMember_of_team hnew, Lane.heardOf]
    unfold Lane.teamMember
    rw [Lane.lvl_setLvl]
    split
    · next h => rw [h]
    · rfl

end Masks

/-! ### Beacons of members (R403, R405, R408) -/

section Beacons

variable (l : Lane) (k m serial mask keyGen : Nat) (teamEpoch : Int)

theorem Lane.setOffset_kept :
    (l.setOffset k teamEpoch).team.sansLevels = l.team.sansLevels ∧ (l.setOffset k teamEpoch).heardOf = l.heardOf := by
  unfold Lane.setOffset
  split
  · exact ⟨rfl, rfl⟩
  · refine Prod.ext_iff.mp (Lane.forL_kept (fun l : Lane => (l.team.sansLevels, l.heardOf)) _ (fun j l => ?_) l)
    refine Prod.ext rfl (funext fun i => funext fun n => ?_)
    simp only [Lane.heardOf, Lane.teamMember, Lane.lvl_setLvl]
    split
    · next h => rw [h]
    · rfl

/-- A beacon that is taken notes its sender and its serial, and sends nothing on (R403). -/
theorem Lane.takeBeacon_shown : (l.takeBeacon k m serial mask keyGen teamEpoch).team.sansLevels = l.team.sansLevels
    ∧ (l.takeBeacon k m serial mask keyGen teamEpoch).heardOf k m = (true, serial) := by
  unfold Lane.takeBeacon
  extract_lets x clash l1 l2 l3
  have h1 : l1.team.sansLevels = l.team.sansLevels ∧ l1.heardOf k m = (true, serial) := by
    refine ⟨rfl, ?_⟩
    simp only [l1, Lane.heardOf]
    rw [Lane.teamMember_setTeamMember, if_pos ⟨rfl, rfl⟩]
  have h2 : l2.team = l1.team := by
    simp only [l2]
    split
    · simp
    · rfl
  have h3 : l3.team.sansLevels = l.team.sansLevels ∧ l3.heardOf k m = (true, serial) := by
    obtain ⟨hteam, hheard⟩ := l2.setOffset_kept k teamEpoch
    refine ⟨hteam.trans ((congrArg TeamSt.sansLevels h2).trans h1.1), ?_⟩
    simp only [l3]
    rw [hheard, ← h1.2, Lane.heardOf, Lane.heardOf, Lane.teamMember_of_team h2]
  clear_value l3
  split
  · obtain ⟨hteam, -, hheard⟩ := l3.newMask_shown k mask keyGen
    exact ⟨hteam.trans h3.1, by rw [hheard]; exact h3.2⟩
  · exact h3

end Beacons

/-! ### A change of members (R404) -/

section Change

variable {l : Lane} {k : Nat} {c : TeamChange}

theorem Lane.changeApply_eq (hc : (l.lvl k).change = some c) (hdue : c.epoch ≤ l.teamEpoch k) :
    l.changeApply k = c.req.elim ((l.setLvl k { l.lvl k with change := none }).newMask k c.mask c.keyGen) (fun r =>
      ((l.setLvl k { l.lvl k with change := none }).newMask k c.mask c.keyGen).answer r
        { status := if c.acked (l.lvl k).mask then st_OK else st_TEAM_PARTIAL, epoch := c.epoch.toNat }) := by
  unfold Lane.changeApply
  rw [hc]
  dsimp only
  rw [if_neg (by omega)]
  cases c.req <;> rfl

theorem Lane.changeApply_shown (hc : (l.lvl k).change = some c) (hdue : c.epoch ≤ l.teamEpoch k) :
    ((l.changeApply k).lvl k).mask = c.mask ∧ ((l.changeApply k).lvl k).keyGen = c.keyGen ∧ ((l.changeApply k).lvl k).change = none := by
  obtain ⟨-, hlevel, -⟩ := (l.setLvl k { l.lvl k with change := none }).newMask_shown k c.mask c.keyGen
  rw [Lane.lvl_setLvl, if_pos rfl] at hlevel
  rw [Lane.changeApply_eq hc hdue]
  generalize (l.setLvl k { l.lvl k with change := none }).newMask k c.mask c.keyGen = m at hlevel ⊢
  have hshown : (m.lvl k).mask = c.mask ∧ (m.lvl k).keyGen = c.keyGen ∧ (m.lvl k).change = none :=
    ⟨(congrArg TeamLevel.mask hlevel :), (congrArg TeamLevel.keyGen hlevel :), (congrArg TeamLevel.change hlevel :)⟩
  cases c.req with
  | none => exact hshown
  | some r =>
    rw [Option.elim, Lane.lvl_of_team (l := m)]
    · exact hshown
    · simp

end Change

end Sys2Proof.Machine
end

section
/-!
16_relay_teams.md: the states of a team's members.
-/

namespace Sys2Proof.Machine
open Sys2Proof

/-! ### Two bits of a word -/

theorem bitsAt_pair (w m : Nat) : bitsAt w (2 * m + 1) (2 * m) = w / 4 ^ m % 4 := by
  have htwo : 2 * m + 1 + 1 - 2 * m = 2 := by omega
  rw [bitsAt, htwo, Nat.pow_mul]
  rfl

/-- A pair of bits replaced in a word: it reads as written, and no other pair changes. -/
theorem pair_replaced (w m v n : Nat) (hv : v < 4) :
    (w - w / 4 ^ m % 4 * 4 ^ m + v * 4 ^ m) / 4 ^ n % 4 = if n = m then v else w / 4 ^ n % 4 := by
  obtain ⟨q, d, r, hd, hr, rfl⟩ : ∃ q d r, d < 4 ∧ r < 4 ^ m ∧ w = 4 ^ m * (4 * q + d) + r :=
    ⟨w / 4 ^ m / 4, w / 4 ^ m % 4, w % 4 ^ m, Nat.mod_lt _ (by decide), Nat.mod_lt _ (by positivity), by
      rw [Nat.div_add_mod, Nat.div_add_mod]⟩
  have hpos : 0 < 4 ^ m := by positivity
  have hread : ∀ x, (4 ^ m * x + r) / 4 ^ m = x := fun x => by
    rw [Nat.mul_add_div hpos, Nat.div_eq_of_lt hr, Nat.add_zero]
  have hnew : 4 ^ m * (4 * q + d) + r - (4 ^ m * (4 * q + d) + r) / 4 ^ m % 4 * 4 ^ m + v * 4 ^ m = 4 ^ m * (4 * q + v) + r := by
    rw [hread, show (4 * q + d) % 4 = d by omega]
    have h1 : 4 ^ m * (4 * q + d) = 4 ^ m * (4 * q) + d * 4 ^ m := by ring
    have h2 : 4 ^ m * (4 * q + v) = 4 ^ m * (4 * q) + v * 4 ^ m := by ring
    omega
  rw [hnew]
  split
  · next h =>
    rw [h, hread]
    omega
  · next h =>
    obtain hlow | hhigh := Nat.lt_or_gt_of_ne h
    · obtain ⟨e, rfl⟩ : ∃ e, m = n + 1 + e := ⟨m - n - 1, by omega⟩
      have hsplit : ∀ x, (4 ^ (n + 1 + e) * x + r) / 4 ^ n % 4 = r / 4 ^ n % 4 := fun x => by
        rw [show 4 ^ (n + 1 + e) * x = 4 ^ n * (4 * (4 ^ e * x)) by ring, Nat.mul_add_div (by positivity), Nat.mul_add_mod]
      rw [hsplit, hsplit]
    · obtain ⟨e, rfl⟩ : ∃ e, n = m + 1 + e := ⟨n - m - 1, by omega⟩
      have hsplit : ∀ d < 4, (4 ^ m * (4 * q + d) + r) / 4 ^ (m + 1 + e) = q / 4 ^ e := fun d hd => by
        rw [show 4 ^ (m + 1 + e) = 4 ^ m * 4 * 4 ^ e by ring, ← Nat.div_div_eq_div_mul, ← Nat.div_div_eq_div_mul, hread,
          show (4 * q + d) / 4 = q by omega]
      rw [hsplit v hv, hsplit d hd]

/-! ### One member at lap 20 (R403) -/

/-- A member's record after an epoch with or without its beacon. -/
def TeamMember.counted (x : TeamMember) : TeamMember :=
  { x with seen := false, conflict := x.clash, clash := false, run := if x.seen then x.run + 1 else 0, miss := if x.seen then 0 else x.miss + 1 }

/-- What the update of member `m` at level `k` reads and shows. -/
def Lane.memberView (k m : Nat) (l : Lane) : TeamMember × Nat × Nat × Nat := (l.teamMember k m, l.memberState k m, (l.lvl k).mask, (l.lvl k).keyGen)

/-- The state that an epoch gives a member. -/
def countedState (m : Nat) (x : TeamMember × Nat × Nat × Nat) : Nat :=
  nextState (bitAt x.2.2.1 m) (x.1.counted.conflict || (decide (0 < x.1.counted.run) && decide (x.1.counted.gen < x.2.2.2))) x.2.1
    x.1.counted.run x.1.counted.miss

section Member

variable (l : Lane) (k m : Nat)

theorem Lane.memberState_lt : l.memberState k m < 4 := by
  rw [Lane.memberState, bitsAt_pair]
  exact Nat.mod_lt _ (by decide)

theorem countedState_lt : countedState m (l.memberView k m) < 4 := by
  have hold : (l.memberView k m).2.1 < 4 := l.memberState_lt k m
  unfold countedState nextState
  split_ifs
  all_goals omega

theorem Lane.memberUpdate_team : (l.memberUpdate k m).team = (l.setTeamMember k m (l.teamMember k m).counted).team := by
  unfold Lane.memberUpdate
  extract_lets x y old st l1 w l2
  have h2 : l2.team = l1.team := by simp [l2]
  split
  · rfl
  · split
    · exact h2
    · exact h2

theorem Lane.memberUpdate_p {a : Nat} (ha : a ≠ Team.memberStates k) : (l.memberUpdate k m).p a = l.p a := by
  unfold Lane.memberUpdate
  extract_lets x y old st l1 w l2
  have h2 : l2.p a = l.p a := by
    simp only [l2]
    rw [(Lane.ringsOnly_fire ..).p, Lane.p_setp, if_neg ha]
    rfl
  split
  · rfl
  · split
    · exact h2
    · exact h2

/-- The word of a level's member states after one member's update. -/
theorem Lane.memberUpdate_word : (l.memberUpdate k m).pn (Team.memberStates k) = l.pn (Team.memberStates k)
    - l.memberState k m * 4 ^ m + countedState m (l.memberView k m) * 4 ^ m := by
  have hword : l.memberState k m * 4 ^ m ≤ l.pn (Team.memberStates k) := by
    rw [Lane.memberState, bitsAt_pair]
    exact (Nat.mul_le_mul_right _ (Nat.mod_le ..)).trans (Nat.div_mul_le_self ..)
  unfold Lane.memberUpdate
  extract_lets x y old st l1 w l2
  have hst : st = countedState m (l.memberView k m) := rfl
  have h2 : l2.pn (Team.memberStates k) = w - old * 4 ^ m + st * 4 ^ m := by
    simp only [l2]
    rw [Lane.pn, (Lane.ringsOnly_fire ..).p, Lane.p_setp, if_pos rfl, Int.toNat_natCast]
  rw [← hst]
  split
  · next h =>
    rw [h]
    exact (Nat.sub_add_cancel hword).symm
  · split
    · exact h2
    · exact h2

theorem Lane.memberState_memberUpdate (n : Nat) :
    (l.memberUpdate k m).memberState k n = if n = m then countedState m (l.memberView k m) else l.memberState k n := by
  have hpair := pair_replaced (l.pn (Team.memberStates k)) m _ n (countedState_lt l k m)
  rw [Lane.memberState, bitsAt_pair, Lane.memberUpdate_word]
  unfold Lane.memberState
  rw [bitsAt_pair, bitsAt_pair, hpair]

theorem memberStates_inj {j k : Nat} (h : Team.memberStates j = Team.memberStates k) : j = k := by
  unfold Team.memberStates at h
  omega

/-- An update of another member, or at another level, leaves what a member's update reads and shows. -/
theorem Lane.memberView_memberUpdate_other {j n : Nat} (h : ¬ (j = k ∧ n = m)) :
    (l.memberUpdate k m).memberView j n = l.memberView j n := by
  have hlvl : (l.memberUpdate k m).lvl j = (l.setTeamMember k m (l.teamMember k m).counted).lvl j := Lane.lvl_of_team (l.memberUpdate_team k m) j
  have hmember : (l.memberUpdate k m).teamMember j n = l.teamMember j n := by
    rw [Lane.teamMember_of_team (l.memberUpdate_team k m), Lane.teamMember_setTeamMember, if_neg h]
  have hstate : (l.memberUpdate k m).memberState j n = l.memberState j n := by
    by_cases hj : j = k
    · subst hj
      rw [Lane.memberState_memberUpdate, if_neg (fun hn => h ⟨rfl, hn⟩)]
    · unfold Lane.memberState Lane.pn
      rw [Lane.memberUpdate_p _ _ _ (fun he => hj (memberStates_inj he))]
  unfold Lane.memberView
  rw [hmember, hstate, hlvl, Lane.lvl_setTeamMember]

theorem Lane.memberView_memberUpdate_self : (l.memberUpdate k m).memberView k m
    = ((l.teamMember k m).counted, countedState m (l.memberView k m), (l.lvl k).mask, (l.lvl k).keyGen) := by
  have hlvl : (l.memberUpdate k m).lvl k = (l.setTeamMember k m (l.teamMember k m).counted).lvl k := Lane.lvl_of_team (l.memberUpdate_team k m) k
  rw [Lane.memberView, Lane.memberState_memberUpdate, if_pos rfl, Lane.teamMember_of_team (l.memberUpdate_team k m),
    Lane.teamMember_setTeamMember, if_pos ⟨rfl, rfl⟩, hlvl, Lane.lvl_setTeamMember]

theorem Lane.memberView_showMask (j n : Nat) : (l.showMask k).memberView j n = l.memberView j n := by
  have hne : Team.memberStates j ≠ Team.teamMembers k := by
    unfold Team.memberStates Team.teamMembers
    omega
  have hword : (l.showMask k).pn (Team.memberStates j) = l.pn (Team.memberStates j) := by
    rw [Lane.pn, Lane.showMask, Lane.p_setp, if_neg hne]
    rfl
  have hstate : (l.showMask k).memberState j n = l.memberState j n := by rw [Lane.memberState, hword]; rfl
  rw [Lane.memberView, hstate]
  rfl

end Member

/-! ### All members at lap 20 -/

section Members

variable (l : Lane) {k m : Nat}

theorem usedLevels_nodup (c : UMap Int) : (usedLevels c).Nodup := List.nodup_range.filter _

/-- At lap 20 every member of a used level is counted once (R403). -/
theorem Lane.memberStates_shown (hlap : l.lapIn = 20) (hk : k ∈ usedLevels l.cfg) (hm : m < 8) : l.memberStates.memberView k m
    = ((l.teamMember k m).counted, countedState m (l.memberView k m), (l.lvl k).mask, (l.lvl k).keyGen) := by
  unfold Lane.memberStates
  rw [if_neg (by simp [hlap])]
  obtain ⟨before, hbefore, hlevel⟩ := Lane.forL_only (fun l => l.memberView k m) (usedLevels_nodup l.cfg) hk
    (f := fun k l => (l.forN 8 (Lane.memberUpdate k)).showMask k) (fun j hj l => by
      rw [Lane.memberView_showMask]
      exact Lane.forN_kept (fun l => l.memberView k m) 8 (fun n l => l.memberView_memberUpdate_other j n (fun h => hj h.1.symm)) l) l
  obtain ⟨at_, hat, hmember⟩ := Lane.forN_only (fun l => l.memberView k m) hm (f := Lane.memberUpdate k)
    (fun n _ hn l => l.memberView_memberUpdate_other k n (fun h => hn h.2.symm)) before
  rw [hlevel, Lane.memberView_showMask, hmember, Lane.memberView_memberUpdate_self]
  have hview := hat.trans hbefore
  rw [hview]
  simp only [Lane.memberView, Prod.mk.injEq] at hview
  obtain ⟨hrec, -, hmask, hgen⟩ := hview
  rw [hrec, hmask, hgen]

end Members

end Sys2Proof.Machine
end

section
/-!
16_relay_teams.md: the beacons of an epoch.
-/

namespace Sys2Proof.Machine
open Sys2Proof

/-! ### Frames under a key that stands (R386, R402) -/

/-- Whether a level's session key stands and the team link engine gets it. -/
def Lane.teamReady (k : Nat) (l : Lane) : Prop := l.teamKeyHeld k = true ∧ (l.askKey engTeam (teamSlot k) 3).2 = true

/-- The lane without its team record and without the copies that the engines hold of its keys (R378). -/
def Lane.besideCopies (l : Lane) : Lane := { l with team := {}, keys := { l.keys with copies := [] } }

section Ready

variable {l m : Lane} {k : Nat}

/-- Neither the team record nor the engines' copies bear on a level's key. -/
theorem Lane.teamReady_of_besideCopies (h : m.besideCopies = l.besideCopies) (hready : l.teamReady k) : m.teamReady k := by
  obtain ⟨hheld, hask⟩ := hready
  exact ⟨(congrArg (Lane.teamKeyHeld k) h :).trans hheld, (congrArg (fun l => (l.askKey engTeam (teamSlot k) 3).2) h :).trans hask⟩

theorem Lane.teamEpoch_of_besideCopies (h : m.besideCopies = l.besideCopies) (k : Nat) : m.teamEpoch k = l.teamEpoch k :=
  (congrArg (fun l => Lane.teamEpoch l k) h :)

/-- A key that the engine gets leaves nothing but its copy. -/
theorem Lane.askKey_besideCopies {e slot op : Nat} (h : (l.askKey e slot op).2 = true) :
    (l.askKey e slot op).1.besideCopies = l.besideCopies := by
  unfold Lane.askKey Lane.keyDelivery at *
  dsimp only at *
  cases hserving : l.serving e with
  | none => rfl
  | some x =>
    rw [hserving] at h
    dsimp only
    rw [if_pos (of_decide_eq_true h)]
    split <;> rfl

theorem Lane.teamKey_of_ready (h : l.teamReady k) :
    (l.teamKey k).2 = true ∧ (l.teamKey k).1.besideCopies = l.besideCopies ∧ (l.teamKey k).1.team = l.team := by
  obtain ⟨hheld, hask⟩ := h
  have hkey : l.teamKey k = l.askKey engTeam (teamSlot k) 3 := if_pos hheld
  rw [hkey]
  exact ⟨hask, Lane.askKey_besideCopies hask, Lane.team_of_keyStore (Lane.askKey_keyStore ..)⟩

variable (kind net dest : Nat) (body : List Field)

/-- A frame under a key that stands is built, and sent where the lane drives the transmitters. -/
theorem Lane.teamSend_of_ready (h : l.teamReady k) : (l.teamSend k kind net dest body).besideCopies = l.besideCopies
    ∧ (l.teamSend k kind net dest body).team = l.team.sending k (l.teamFrames k kind net dest body) l.link.grant := by
  obtain ⟨hok, hbeside, hteam⟩ := Lane.teamKey_of_ready h
  have hframes : (l.teamKey k).1.teamFrames k kind net dest body = l.teamFrames k kind net dest body := by
    unfold Lane.teamFrames
    rw [Lane.lvl_of_team hteam, Lane.teamEpoch_of_besideCopies hbeside, show (l.teamKey k).1.lap = l.lap from (congrArg Lane.lap hbeside :)]
  rw [Lane.teamSend_of_key l k kind net dest body hok, hframes, hteam, show (l.teamKey k).1.link = l.link from (congrArg Lane.link hbeside :)]
  exact ⟨hbeside, rfl⟩

end Ready

/-! ### The beacons of one level (R401) -/

/-- The beacons of a level on both nets, and this controller counted as heard where they go out. -/
def Lane.beaconLevel (stA stB : Nat) (driven : Bool) (k : Nat) (l : Lane) : Lane :=
  let m := lvlMember l.cfg k
  let l2 := (l.teamSend k 1 1 toAll (l.beaconBody k stA stB)).teamSend k 1 2 toAll (l.beaconBody k stA stB)
  if driven && l2.teamKeyHeld k then
    l2.setTeamMember k m { l2.teamMember k m with seen := true, serial := l2.serial, gen := (l2.lvl k).keyGen }
  else l2

/-- The beacons of level `k` and this epoch are among the last `n` frames that were sent, one on each net. -/
def Lane.beaconsIn (k n : Nat) (l : Lane) : Prop :=
  ∀ net, net ∈ [1, 2] → ∃ f ∈ l.team.sent.take n, f.level = k ∧ f.kind = 1 ∧ f.net = net ∧ f.epoch = l.teamEpoch k

/-- Two frames that are sent leave those sent before among the last. -/
theorem mem_take_sent {α : Type} {x : α} {n : Nat} {xs fs : List α} (hx : x ∈ xs.take n) (hfs : fs.length = 2) (hn : n + 2 ≤ 64) :
    x ∈ ((fs ++ xs).take 64).take (n + 2) := by
  rw [List.take_take, Nat.min_eq_left hn, List.take_append, hfs, List.take_of_length_le (by omega), Nat.add_sub_cancel]
  exact List.mem_append_right _ hx

theorem mem_take_new {α : Type} {x : α} {xs fs : List α} {n : Nat} (hx : x ∈ fs) (hfs : fs.length = 2) (h2 : 2 ≤ n) (hn : n ≤ 64) :
    x ∈ ((fs ++ xs).take 64).take n := by
  rw [List.take_take, Nat.min_eq_left hn, List.take_append, hfs, List.take_of_length_le (by omega)]
  exact List.mem_append_left _ hx

section Level

variable {l : Lane} {k : Nat} (stA stB : Nat) (driven : Bool)

theorem Lane.beaconLevel_of_ready (h : l.teamReady k) : (l.beaconLevel stA stB driven k).besideCopies = l.besideCopies
    ∧ (∀ j, ((l.beaconLevel stA stB driven k).lvl j).seq = (l.lvl j).seq + if j = k then 2 else 0)
    ∧ (l.link.grant = true → ∃ fs gs : List SentFrame, fs.length = 2 ∧ gs.length = 2
        ∧ (l.beaconLevel stA stB driven k).team.sent = (gs ++ (fs ++ l.team.sent).take 64).take 64
        ∧ (∃ f ∈ fs, f.level = k ∧ f.kind = 1 ∧ f.net = 1 ∧ f.epoch = l.teamEpoch k)
        ∧ ∃ g ∈ gs, g.level = k ∧ g.kind = 1 ∧ g.net = 2 ∧ g.epoch = l.teamEpoch k) := by
  obtain ⟨hbeside1, hteam1⟩ := Lane.teamSend_of_ready 1 1 toAll (l.beaconBody k stA stB) h
  generalize hl1 : l.teamSend k 1 1 toAll (l.beaconBody k stA stB) = l1 at hbeside1 hteam1
  obtain ⟨hbeside2, hteam2⟩ := Lane.teamSend_of_ready 1 2 toAll (l.beaconBody k stA stB) (Lane.teamReady_of_besideCopies hbeside1 h)
  generalize hl2 : l1.teamSend k 1 2 toAll (l.beaconBody k stA stB) = l2 at hbeside2 hteam2
  have hseq : ∀ j, (l2.lvl j).seq = (l.lvl j).seq + if j = k then 2 else 0 := fun j => by
    unfold Lane.lvl
    rw [hteam2, TeamSt.lvl_sending, hteam1, TeamSt.lvl_sending]
    dsimp only
    split <;> omega
  have hsent : l.link.grant = true → l2.team.sent
      = (l1.teamFrames k 1 2 toAll (l.beaconBody k stA stB)
        ++ (l.teamFrames k 1 1 toAll (l.beaconBody k stA stB) ++ l.team.sent).take 64).take 64 := fun hg => by
    rw [hteam2, hteam1, show l1.link = l.link from (congrArg Lane.link hbeside1 :), hg]
    rfl
  have hframes : (∃ f ∈ l.teamFrames k 1 1 toAll (l.beaconBody k stA stB), f.level = k ∧ f.kind = 1 ∧ f.net = 1 ∧ f.epoch = l.teamEpoch k)
      ∧ ∃ g ∈ l1.teamFrames k 1 2 toAll (l.beaconBody k stA stB), g.level = k ∧ g.kind = 1 ∧ g.net = 2 ∧ g.epoch = l.teamEpoch k :=
    ⟨⟨_, List.mem_cons_self, rfl, rfl, rfl, rfl⟩, ⟨_, List.mem_cons_self, rfl, rfl, rfl, Lane.teamEpoch_of_besideCopies hbeside1 k⟩⟩
  have hl2' : l2.besideCopies = l.besideCopies ∧ (∀ j, (l2.lvl j).seq = (l.lvl j).seq + if j = k then 2 else 0)
    ∧ (l.link.grant = true → ∃ fs gs : List SentFrame, fs.length = 2 ∧ gs.length = 2 ∧ l2.team.sent = (gs ++ (fs ++ l.team.sent).take 64).take 64
        ∧ (∃ f ∈ fs, f.level = k ∧ f.kind = 1 ∧ f.net = 1 ∧ f.epoch = l.teamEpoch k)
        ∧ ∃ g ∈ gs, g.level = k ∧ g.kind = 1 ∧ g.net = 2 ∧ g.epoch = l.teamEpoch k) :=
    ⟨hbeside2.trans hbeside1, hseq, fun hg => ⟨_, _, rfl, rfl, hsent hg, hframes⟩⟩
  unfold Lane.beaconLevel
  dsimp only
  rw [hl1, hl2]
  clear hteam2 hbeside2 hteam1 hbeside1 hsent hframes hseq
  split
  · obtain ⟨hbeside, hseq, hsent⟩ := hl2'
    refine ⟨hbeside, fun j => ?_, hsent⟩
    rw [Lane.lvl_setTeamMember]
    exact hseq j
  · exact hl2'

theorem Lane.beaconsIn_self (h : l.teamReady k) (hg : l.link.grant = true) : (l.beaconLevel stA stB driven k).beaconsIn k 4 := by
  obtain ⟨hbeside, -, hsent⟩ := Lane.beaconLevel_of_ready stA stB driven h
  obtain ⟨fs, gs, hfs, hgs, hsent, hone, htwo⟩ := hsent hg
  intro net hnet
  rw [hsent, Lane.teamEpoch_of_besideCopies hbeside]
  obtain rfl | rfl := List.mem_pair.mp hnet
  · obtain ⟨f, hf, hf'⟩ := hone
    exact ⟨f, mem_take_sent (n := 2) (mem_take_new hf hfs (by decide) (by decide)) hgs (by decide), hf'⟩
  · obtain ⟨g, hg, hg'⟩ := htwo
    exact ⟨g, mem_take_new hg hgs (by decide) (by decide), hg'⟩

theorem Lane.beaconsIn_other {j n : Nat} (h : l.teamReady j) (hg : l.link.grant = true) (hn : n + 4 ≤ 64) (hin : l.beaconsIn k n) :
    (l.beaconLevel stA stB driven j).beaconsIn k (n + 4) := by
  obtain ⟨hbeside, -, hsent⟩ := Lane.beaconLevel_of_ready stA stB driven h
  obtain ⟨fs, gs, hfs, hgs, hsent, -, -⟩ := hsent hg
  intro net hnet
  obtain ⟨f, hf, hf'⟩ := hin net hnet
  rw [hsent, Lane.teamEpoch_of_besideCopies hbeside]
  exact ⟨f, mem_take_sent (n := n + 2) (mem_take_sent hf hfs (by omega)) hgs hn, hf'⟩

end Level

/-! ### The beacons of all levels -/

section Levels

variable (stA stB : Nat) (driven : Bool)

/-- The lane with the beacons of the levels `ks` sent. -/
def Lane.beaconLevels (ks : List Nat) (l : Lane) : Lane := l.forL ks (Lane.beaconLevel stA stB driven)

theorem Lane.beaconLevels_cons (j : Nat) (ks : List Nat) (l : Lane) :
    l.beaconLevels stA stB driven (j :: ks) = (l.beaconLevel stA stB driven j).beaconLevels stA stB driven ks := rfl

theorem Lane.beaconLevels_besideCopies (ks : List Nat) {l : Lane} (h : ∀ j ∈ ks, l.teamReady j) :
    (l.beaconLevels stA stB driven ks).besideCopies = l.besideCopies := by
  induction ks generalizing l with
  | nil => rfl
  | cons j ks ih =>
    obtain ⟨hj, hks⟩ := List.forall_mem_cons.mp h
    obtain ⟨hbeside, -, -⟩ := Lane.beaconLevel_of_ready stA stB driven hj
    exact (ih (fun x hx => Lane.teamReady_of_besideCopies hbeside (hks x hx))).trans hbeside

theorem Lane.beaconLevels_seq (k : Nat) (ks : List Nat) {l : Lane} (h : ∀ j ∈ ks, l.teamReady j) :
    ((l.beaconLevels stA stB driven ks).lvl k).seq = (l.lvl k).seq + 2 * ks.count k := by
  induction ks generalizing l with
  | nil => rfl
  | cons j ks ih =>
    obtain ⟨hj, hks⟩ := List.forall_mem_cons.mp h
    obtain ⟨hbeside, hseq, -⟩ := Lane.beaconLevel_of_ready stA stB driven hj
    rw [Lane.beaconLevels_cons, ih (fun x hx => Lane.teamReady_of_besideCopies hbeside (hks x hx)), hseq, List.count_cons]
    by_cases hk : k = j
    · simp [hk]; omega
    · simp [hk, Ne.symm hk]

theorem Lane.beaconLevels_keep {k n : Nat} (ks : List Nat) {l : Lane} (h : ∀ j ∈ ks, l.teamReady j) (hg : l.link.grant = true)
    (hn : n + 4 * ks.length ≤ 64) (hin : l.beaconsIn k n) : (l.beaconLevels stA stB driven ks).beaconsIn k (n + 4 * ks.length) := by
  induction ks generalizing l n with
  | nil => exact hin
  | cons j ks ih =>
    obtain ⟨hj, hks⟩ := List.forall_mem_cons.mp h
    rw [List.length_cons] at hn ⊢
    obtain ⟨hbeside, -, -⟩ := Lane.beaconLevel_of_ready stA stB driven hj
    have hgrant : (l.beaconLevel stA stB driven j).link.grant = true := (congrArg (fun l : Lane => l.link.grant) hbeside :).trans hg
    have hlast := ih (fun x hx => Lane.teamReady_of_besideCopies hbeside (hks x hx)) hgrant (by omega)
      (Lane.beaconsIn_other stA stB driven hj hg (by omega) hin)
    rwa [show n + 4 * (ks.length + 1) = n + 4 + 4 * ks.length by ring]

theorem Lane.beaconLevels_sent {k : Nat} (ks : List Nat) {l : Lane} (h : ∀ j ∈ ks, l.teamReady j) (hg : l.link.grant = true)
    (hlen : 4 * ks.length ≤ 64) (hk : k ∈ ks) : ∃ n, (l.beaconLevels stA stB driven ks).beaconsIn k n := by
  induction ks generalizing l with
  | nil => cases hk
  | cons j ks ih =>
    obtain ⟨hj, hks⟩ := List.forall_mem_cons.mp h
    rw [List.length_cons] at hlen
    obtain ⟨hbeside, -, -⟩ := Lane.beaconLevel_of_ready stA stB driven hj
    have hgrant : (l.beaconLevel stA stB driven j).link.grant = true := (congrArg (fun l : Lane => l.link.grant) hbeside :).trans hg
    have hready : ∀ x ∈ ks, (l.beaconLevel stA stB driven j).teamReady x := fun x hx => Lane.teamReady_of_besideCopies hbeside (hks x hx)
    obtain rfl | hk := List.mem_cons.mp hk
    · exact ⟨_, Lane.beaconLevels_keep stA stB driven ks hready hgrant (by omega) (Lane.beaconsIn_self stA stB driven hj hg)⟩
    · exact ih hready hgrant (by omega) hk

/-! ### The row -/

variable {l : Lane} (hlap : l.lapIn = 10) (hused : usedLevels l.cfg ≠ [])

include hlap hused

theorem Lane.beaconSend_eq : l.beaconSend stA stB driven =
    { l.beaconLevels stA stB driven (usedLevels l.cfg) with
      team := { (l.beaconLevels stA stB driven (usedLevels l.cfg)).team with
        returns := []
        beaconEpoch := if driven && (usedLevels (l.beaconLevels stA stB driven (usedLevels l.cfg)).cfg).all
            (l.beaconLevels stA stB driven (usedLevels l.cfg)).teamKeyHeld
          then some (l.beaconLevels stA stB driven (usedLevels l.cfg)).epoch else none } } := by
  unfold Lane.beaconSend
  rw [if_neg (by simp [hlap, hused])]
  rfl

theorem Lane.beaconSend_returns : (l.beaconSend stA stB driven).team.returns = [] := by rw [Lane.beaconSend_eq stA stB driven hlap hused]

/-- With every level's key the beacons of the epoch go out on both nets (R401). -/
theorem Lane.beaconSend_shown {k : Nat} (hk : k ∈ usedLevels l.cfg) (hg : l.link.grant = true) (h : ∀ j ∈ usedLevels l.cfg, l.teamReady j) :
    ((l.beaconSend stA stB driven).lvl k).seq = (l.lvl k).seq + 2
    ∧ (l.beaconSend stA stB driven).team.beaconEpoch = (if driven = true then some l.epoch else none)
    ∧ ∀ net, net ∈ [1, 2] → ∃ f ∈ (l.beaconSend stA stB driven).team.sent, f.level = k ∧ f.kind = 1 ∧ f.net = net
        ∧ f.epoch = l.teamEpoch k := by
  have hlen : (usedLevels l.cfg).length ≤ 8 := (List.length_filter_le ..).trans (by decide)
  have hbeside := Lane.beaconLevels_besideCopies stA stB driven _ h
  have hseq := Lane.beaconLevels_seq stA stB driven k _ h
  obtain ⟨n, hin⟩ := Lane.beaconLevels_sent stA stB driven _ h hg (by omega) hk
  rw [List.count_eq_one_of_mem (usedLevels_nodup _) hk] at hseq
  rw [Lane.beaconSend_eq stA stB driven hlap hused]
  generalize l.beaconLevels stA stB driven (usedLevels l.cfg) = m at hbeside hseq hin
  have hall : (usedLevels m.cfg).all m.teamKeyHeld = true := by
    rw [show m.cfg = l.cfg from (congrArg Lane.cfg hbeside :)]
    exact List.all_eq_true.mpr fun j hj => (Lane.teamReady_of_besideCopies hbeside (h j hj)).1
  refine ⟨hseq, ?_, fun net hnet => ?_⟩
  · rw [hall, Bool.and_true, show m.epoch = l.epoch from (congrArg Lane.epoch hbeside :)]
  · obtain ⟨f, hf, hlevel, hkind, hnet', hepoch⟩ := hin net hnet
    exact ⟨f, List.mem_of_mem_take hf, hlevel, hkind, hnet', hepoch.trans (Lane.teamEpoch_of_besideCopies hbeside k)⟩

end Levels

end Sys2Proof.Machine
end

section
/-!
16_relay_teams.md: team arms, and the rows of a relay team.
-/

namespace Sys2Proof.Machine
open Sys2Proof

/-! ### The record of an arm (R410, R449) -/

/-- Of a record what its arming fixes. -/
def AcqRecord.armedAs (r : AcqRecord) : Nat × Option Nat × Nat := (r.armId, r.level, r.armLap)

/-- An armed record stands, and every armed record was armed as `x` says. -/
def Lane.armedOnly (x : Nat × Option Nat × Nat) (l : Lane) : Prop :=
  (∃ r ∈ l.acq.records, 1 ≤ r.state ∧ r.state ≤ 3) ∧ ∀ r ∈ l.acq.records, 1 ≤ r.state ∧ r.state ≤ 3 → r.armedAs = x

section Records

variable {l : Lane} {x : Nat × Option Nat × Nat}

theorem AcqRecord.put_kept (e : AcqEntry) (r : AcqRecord) :
    (r.put e).armedAs = r.armedAs ∧ (r.put e).state = r.state ∧ (r.put e).no = r.no := by
  unfold AcqRecord.put
  dsimp only
  split_ifs <;> exact ⟨rfl, rfl, rfl⟩

/-- An entry put into an armed record leaves its arming. -/
theorem Lane.armedOnly_put (h : l.armedOnly x) {r : AcqRecord} (hr : l.armed = some r) (e : AcqEntry) :
    (l.setRecord (r.put e)).armedOnly x := by
  obtain ⟨-, hall⟩ := h
  have hmem : r ∈ l.acq.records := List.mem_of_find?_eq_some hr
  have hstate : 1 ≤ r.state ∧ r.state ≤ 3 := of_decide_eq_true (List.find?_some hr :)
  obtain ⟨harmed, hkept, hno⟩ := r.put_kept e
  refine ⟨⟨r.put e, List.mem_map.mpr ⟨r, hmem, if_pos hno.symm⟩, by rw [hkept]; exact hstate⟩, fun q hq hq' => ?_⟩
  obtain ⟨y, hy, rfl⟩ := List.mem_map.mp hq
  by_cases hsame : y.no = (r.put e).no
  · rw [if_pos hsame]
    exact harmed.trans (hall r hmem hstate)
  · rw [if_neg hsame] at hq' ⊢
    exact hall y hy hq'

theorem Lane.armedOnly_acqStore (h : l.armedOnly x) (c : Nat) (value : Int) (status flags : Nat) (tag : AcqTag) :
    (l.acqStore c value status flags tag).armedOnly x := by
  unfold Lane.acqStore
  split
  · exact h
  · next r hr =>
    dsimp only
    split
    · exact h
    · split
      · exact h
      · exact Lane.armedOnly_put h hr _

theorem Lane.armedOnly_acqInitial (h : l.armedOnly x) (line : Nat → Bool) (read : Nat → Int × Nat) (c : Nat) :
    (l.acqInitial line read c).armedOnly x :=
  Lane.armedOnly_acqStore (l := l.setAcqChan c _) h ..

/-- A record that is opened while none is armed is the armed one, with every channel's present value in it (R447, R449). -/
theorem Lane.armedOnly_acqOpen (hreset : l.inReset 4 0 = false) (hnone : l.armed = none) (line : Nat → Bool) (read : Nat → Int × Nat)
    (armId preMs postMs mib : Nat) (level : Option Nat) :
    (l.acqOpen line read armId preMs postMs mib level).armedOnly (armId, level, l.lap) := by
  unfold Lane.acqOpen
  extract_lets r acq l1
  rw [if_neg (by simp [hreset])]
  have h1 : l1.armedOnly (armId, level, l.lap) := by
    refine ⟨⟨r, List.mem_append_right _ List.mem_cons_self, by simp [r]⟩, fun q hq hstate => ?_⟩
    obtain hq | hq := List.mem_append.mp hq
    · exact absurd (decide_eq_true hstate) (List.find?_eq_none.mp hnone q hq)
    · rw [List.mem_singleton.mp hq]
      rfl
  clear_value l1
  exact List.foldlRecOn (motive := Lane.armedOnly _) _ _ h1 fun _ h c _ => Lane.armedOnly_acqInitial h line read c

theorem Lane.exists_of_armedOnly (h : l.armedOnly x) : ∃ q ∈ l.acq.records, q.armId = x.1 ∧ q.level = x.2.1 ∧ q.armLap = x.2.2 := by
  obtain ⟨⟨q, hq, hstate⟩, hall⟩ := h
  have has := hall q hq hstate
  exact ⟨q, hq, congrArg Prod.fst has, congrArg (fun y => y.2.1) has, congrArg (fun y => y.2.2) has⟩

theorem Lane.acqOpen_team (line : Nat → Bool) (read : Nat → Int × Nat) (armId preMs postMs mib : Nat) (level : Option Nat) :
    (l.acqOpen line read armId preMs postMs mib level).team = l.team := by
  have hinitial : ∀ c (l : Lane), (l.acqInitial line read c).team = l.team := fun c l =>
    (congrArg Lane.team (LaneUnit.rest_eq _ (Lane.acqStore_outside_acquisition ..)) :)
  unfold Lane.acqOpen
  dsimp only
  split
  · rfl
  · exact Lane.forL_kept Lane.team _ hinitial _

variable {k : Nat} {a : TeamArm}

/-- At its epoch a member's arm takes effect, and opens a record where none is armed (R410). -/
theorem Lane.teamArmApply_shown (line : Nat → Bool) (read : Nat → Int × Nat) (harm : (l.lvl k).arm = some a) (hnot : a.armed = false)
    (hdue : a.epoch ≤ l.teamEpoch k) (hmember : l.memberState k (lvlMember l.cfg k) = 2) (hreset : l.inReset 4 0 = false)
    (hnone : l.armed = none) (hroom : l.acq.records.length < 16) (hfree : a.mib ≤ l.pn Ta.acqFreeMib) :
    ((l.teamArmApply line read k).lvl k).arm = some { a with armed := true }
    ∧ ∃ q ∈ (l.teamArmApply line read k).acq.records, q.armId = a.id ∧ q.level = some k ∧ q.armLap = l.lap := by
  have happly : l.teamArmApply line read k = (l.setLvl k { l.lvl k with arm := some { a with armed := true } }).acqOpen line read a.id
      a.preMs a.postMs a.mib (some k) := by
    unfold Lane.teamArmApply
    dsimp only
    rw [harm]
    dsimp only
    rw [if_neg (by simp [hnot, hmember]; omega), if_neg (by simp [hnone]), if_neg (by simp [hnone]; omega)]
  rw [happly]
  refine ⟨?_, Lane.exists_of_armedOnly (Lane.armedOnly_acqOpen (l := l.setLvl k _) hreset hnone ..)⟩
  rw [Lane.lvl_of_team (Lane.acqOpen_team ..), Lane.lvl_setLvl, if_pos rfl]

end Records

/-! ### The state that an epoch gives a member (R403 to R405) -/

section Counted

variable {m mask gen old : Nat} {x : TeamMember}

theorem countedState_of_outside (hout : bitAt mask m = false) : countedState m (x, old, mask, gen) = 0 := by
  simp [countedState, nextState, hout]

variable (hin : bitAt mask m = true)

include hin

theorem countedState_of_held (hheld : x.clash = true ∨ x.seen = true ∧ x.gen < gen) : countedState m (x, old, mask, gen) = 1 := by
  obtain hclash | ⟨hseen, hgen⟩ := hheld
  · simp [countedState, nextState, hin, TeamMember.counted, hclash]
  · simp [countedState, nextState, hin, TeamMember.counted, hseen, hgen]

variable (hclash : x.clash = false) (hgen : gen ≤ x.gen)

include hclash hgen

theorem countedState_of_run (hrun : 10 ≤ x.counted.run) : countedState m (x, old, mask, gen) = 2 := by
  have hheld : x.counted.conflict = false ∧ ¬ x.counted.gen < gen := ⟨hclash, Nat.not_lt.mpr hgen⟩
  simp [countedState, nextState, hin, hheld, hrun]

theorem countedState_of_miss (hmiss : 10 ≤ x.counted.miss) : countedState m (x, old, mask, gen) = 3 := by
  have hheld : x.counted.conflict = false ∧ ¬ x.counted.gen < gen := ⟨hclash, Nat.not_lt.mpr hgen⟩
  have hrun : x.counted.run = 0 := by
    cases hseen : x.seen
    · simp [TeamMember.counted, hseen]
    · simp [TeamMember.counted, hseen] at hmiss
  simp [countedState, nextState, hin, hheld, hrun, hmiss]

end Counted

/-! ### The obligation -/

/-- Settles O36, row by row: each row acts on the lane as the lemma on its operation says. -/
theorem teamRows : Obligations.TeamRows := by
  unfold Obligations.TeamRows
  intro s i ha hteam
  have hframe : ∀ f, (s.teamed (fun l => l.teamFrame (Lane.frameAct s.chassis.variant) f)).lane i
      = (s.lane i).teamFrame (Lane.frameAct s.chassis.variant) f := fun f => State.lane_teamed _ hteam ha
  refine ⟨?unknown, ?passing, ?own, ?returns, ?beacons, ?nets, ?members, ?change, ?arm⟩
  case unknown =>
    intro f hlevel
    refine ⟨fun httl => does_of_next rfl ?_, fun httl hg => does_of_next rfl ?_, fun httl hg => does_of_next rfl ?_⟩
    · rw [hframe, Lane.teamFrame_of_unknown hlevel, if_pos httl]
      simp
    · rw [hframe, Lane.teamFrame_of_unknown hlevel, if_neg (by omega)]
      exact Lane.passFrame_of_driven _ f hg
    · rw [hframe, Lane.teamFrame_of_unknown hlevel, if_neg (by omega), Lane.passFrame_of_dark _ f hg]
  case passing =>
    intro f k hlevel hother httl
    refine ⟨fun htag => does_of_next rfl ?_, fun htag hkey hheard => does_of_next rfl ?_,
      fun htag hkey hnew hto serial epoch st ps mask gen hbeacon => does_of_next rfl ?_⟩
    · rw [hframe, Lane.teamFrame_of_badTag hlevel hother httl htag]
      refine ⟨?_, fun hg => ?_⟩
      · rw [Lane.p_inc, if_pos rfl, Lane.passedFrame_p _ _ _ (by decide)]
      · rw [show ((s.lane i).passedFrame f k |>.inc Team.teamAuthFail).team = _ from Lane.passedFrame_team ..]
        exact Lane.passFrame_of_driven _ f hg
    · rw [hframe, Lane.teamFrame_of_heard hlevel hother httl htag hkey hheard, Lane.p_inc, if_pos rfl, Lane.passedFrame_p _ _ _ (by decide)]
    · rw [hframe, Lane.teamFrame_of_new hlevel hother httl htag hkey hnew hto]
      have hact : ∀ l : Lane, l.frameAct s.chassis.variant k f = l.takeBeacon k f.sender serial mask gen f.teamEpoch := fun l => by
        simp only [Lane.frameAct, Lane.actOnFrame, Lane.actOn, hbeacon]
      obtain ⟨hkept, hseen⟩ := (((s.lane i).passedFrame f k).hearing f k).takeBeacon_shown k f.sender serial mask gen f.teamEpoch
      rw [hact]
      refine ⟨congrArg Prod.fst hseen, congrArg Prod.snd hseen, fun hg => ?_⟩
      have hforwarded := (congrArg TeamSt.forwarded hkept :).trans (show ((s.lane i).passedFrame f k).team.forwarded = _ by
        rw [Lane.passedFrame_team])
      exact (congrArg List.head? hforwarded :).trans (Lane.passFrame_of_driven _ f hg)
  case own =>
    intro f k hlevel hown
    refine ⟨fun hback => does_of_next rfl ?_, fun hback => does_of_next rfl ?_⟩
    · rw [hframe, Lane.teamFrame_of_own hlevel hown]
      exact Lane.ownFrame_of_return hback
    · rw [hframe, Lane.teamFrame_of_own hlevel hown, Lane.ownFrame_of_other hback]
  case returns =>
    intro hlap hused
    refine does_of_next rfl ?_
    rw [if_pos hteam, State.lane_eachLane, if_pos ha]
    exact Lane.beaconSend_returns _ _ _ hlap hused
  case beacons =>
    intro k hlap hk hg hready
    refine does_of_next rfl ?_
    rw [if_pos hteam, State.lane_eachLane, if_pos ha]
    exact Lane.beaconSend_shown _ _ _ hlap (List.ne_nil_of_mem hk) hk hg hready
  case nets =>
    intro back1 back2 hback1 hback2 hlap hsent
    refine does_of_next rfl ?_
    rw [State.lane_teamed _ hteam ha, Lane.beaconCheck_shown _ hlap hsent]
    rw [← Lane.allBack_iff, Bool.coe_iff_coe] at hback1 hback2
    rw [← hback1, ← hback2]
    cases back1 <;> cases back2 <;> simp [runAfter, wholeAfter]
  case members =>
    intro k m hlap hk hm
    refine does_of_next rfl ?_
    rw [State.lane_teamed _ hteam ha]
    obtain ⟨hrecord, hstate, -, -⟩ := by simpa only [Lane.memberView, Prod.mk.injEq] using (s.lane i).memberStates_shown hlap hk hm
    rw [hrecord, hstate]
    refine ⟨rfl, rfl, rfl, rfl, countedState_of_outside, countedState_of_held, fun hin hclash hgen => ⟨countedState_of_run hin hclash hgen,
      countedState_of_miss hin hclash hgen⟩⟩
  case change =>
    intro k c hk hc hdue
    refine does_of_next rfl ?_
    rw [State.lane_teamed _ hteam ha, if_pos hk]
    obtain ⟨hmask, hgen, hchange⟩ := Lane.changeApply_shown hc hdue
    refine ⟨hmask, hgen, hchange, fun r hr => ?_⟩
    rw [Lane.changeApply_eq hc hdue, hr]
    exact Lane.answered_answer ..
  case arm =>
    intro k a harm hnot hdue hmember hreset hnone hroom hfree
    refine does_of_next rfl ?_
    rw [if_pos hteam, State.lane_eachLane, if_pos ha]
    exact Lane.teamArmApply_shown _ _ harm hnot hdue hmember hreset hnone hroom hfree

end Sys2Proof.Machine
end
